-- ==== Sys2Proof/Word.lean ====
section
/-! DEFINITION. The words of the SLX-W3264 (R5: bit 0 is the least significant bit, memory is little-endian)
and the shape of the sparse tables that hold state which repeats per unit. -/
namespace Sys2Proof

/-- A byte of memory. -/
abbrev Byte := BitVec 8

/-- A 32-bit register of a register block (R25). -/
abbrev Word := BitVec 32

/-- A 64-bit general register of a Priad engine (R136). -/
abbrev Dword := BitVec 64

/-- A 40-bit physical address (R21). -/
abbrev PAddr := BitVec 40

/-- A sparse table: entries in rising order of their key, one entry a key at most. A key without an entry
holds the table's default, which the reader names. -/
abbrev Tab (α : Type) := List (Nat × α)

end Sys2Proof
end

