-- ==== Sys2Proof/Syntax.lean ====
section
/-! DEFINITION. The commands of the block: one constructor per row of the table of operations and events, with the
row's operands. An operand `t : Nat` is the number of PIXEL clocks that pass before a timed event happens; an operand
`i : Initiator` is the initiator of a register access (R454). What only the outside world or a standard can
supply (a frame, a block of line bits, the findings of a decoder, a measured voltage) is an operand too. -/
namespace Sys2Proof

/-- An initiator of R454. The IDs that its table does not list are reserved, and nobody carries one. -/
inductive Initiator where
  | core (c : Fin 16)
  | seq (n : Fin 48)
  | decPipe (p : Fin 16)
  | encPipe (p : Fin 8)
  | scaler
  | slice (c : Fin 10)
  | intake
  | dravio
  | touch
  | audio
  | time
  | selfTest
  | boot
  | jtag
  | log
deriving DecidableEq, Repr

/-- The ID that every access of an initiator carries (R454). -/
def Initiator.id : Initiator → Fin 128
  | .core c => ⟨c.val, Nat.lt_of_lt_of_le c.isLt (by decide)⟩
  | .seq n => ⟨0x10 + n.val, Nat.lt_of_lt_of_le (Nat.add_lt_add_left n.isLt 0x10) (by decide)⟩
  | .decPipe p => ⟨0x40 + p.val, Nat.lt_of_lt_of_le (Nat.add_lt_add_left p.isLt 0x40) (by decide)⟩
  | .encPipe p => ⟨0x50 + p.val, Nat.lt_of_lt_of_le (Nat.add_lt_add_left p.isLt 0x50) (by decide)⟩
  | .scaler => 0x58
  | .slice c => ⟨0x60 + c.val, Nat.lt_of_lt_of_le (Nat.add_lt_add_left c.isLt 0x60) (by decide)⟩
  | .intake => 0x70
  | .dravio => 0x71
  | .touch => 0x72
  | .audio => 0x73
  | .time => 0x74
  | .selfTest => 0x7C
  | .boot => 0x7D
  | .jtag => 0x7E
  | .log => 0x7F

/-- The tag of an access: the ID of its initiator, and whether it runs at Keeper level (R454). -/
structure Src where
  id : Fin 128
  keeper : Bool
deriving DecidableEq, Repr

/-- The kind of an access (R458, R479). -/
inductive AccKind where
  | read
  | write
  | fetch
  | atomic
deriving DecidableEq, Repr

/-- What the ECC of a memory or of the L2 finds at a read (R28 to R30, R169). `ce bit` names the corrected data bit,
0xFF for a check bit (R572). -/
inductive MemFind where
  | clean
  | ce (bit : BitVec 8)
  | ue
  | l2ce
  | l2ueClean
  | l2ueDirty
  | l1parity
deriving DecidableEq, Repr

/-- The engine that executes a Priad instruction: a sconce core (R133) or a line sequencer (R211), with what the ECC finds
in the fetch of that instruction (R30, R169, R216). -/
inductive Eng where
  | core (c : Fin 16) (fetch : MemFind := .clean)
  | seq (n : Fin 48) (fetch : MemFind := .clean)
deriving DecidableEq, Repr

/-- One vigil instance that judges a window-line otherwise than its inputs call for: the disturbance that the vote of
R77 exists for. -/
structure Upset where
  inst : Fin 3
  win : Fin 2048
  verdict : Fin 8
deriving DecidableEq, Repr

/-- A pixel in output code values (R59). -/
structure Pix where
  r : Nat
  g : Nat
  b : Nat
deriving DecidableEq, Repr

/-- A pixel of a line buffer that an upset has altered (the worked case of the liveness chapter). -/
structure PixUpset where
  x : Nat
  pix : Pix
deriving DecidableEq, Repr

/-- Operation of a memory controller that R126 may hold back. -/
inductive Maint where
  | refresh
  | retrain
  | scrub
deriving DecidableEq, Repr

/-- What the SFDP tables of the boot flash list: the read modes 8D-8D-8D at 200 MHz, 1-1-8, 1-4-4 and 1-1-4 at 100 MHz, and the
size of the device in MiB (R529). -/
structure Sfdp where
  octalDdr : Bool
  octal : Bool
  quadIo : Bool
  quadOut : Bool
  mib : Nat
deriving DecidableEq, Repr

/-- A coding profile that a sequence parameter set names (R280). -/
inductive Profile where
  | constrainedBaseline
  | h264Main
  | h264High
  | h265Main
  | h265Main10
  | other
deriving DecidableEq, Repr

/-- What the active sequence parameter set of a picture says, as far as R280 and R281 check it. -/
structure Sps where
  profile : Profile
  /-- Progressive 4:2:0: the chroma format is 4:2:0; there is no field or MBAFF coding. -/
  chroma420 : Bool
  interlaced : Bool
  /-- Bits of a sample. -/
  depth : Nat
  /-- The coded size in luma samples, and what the conformance cropping window takes from its width and height (R280). -/
  codedW : Nat
  codedH : Nat
  cutW : Nat := 0
  cutH : Nat := 0
  /-- Ten times the level. -/
  level : Nat
  /-- The largest picture buffer that it declares. -/
  dpb : Nat
deriving DecidableEq, Repr

/-- The cropped size (R280). -/
def Sps.width (q : Sps) : Nat := q.codedW - q.cutW
def Sps.height (q : Sps) : Nat := q.codedH - q.cutH

/-- A decode pipe at the end of a measuring span (R291). -/
structure PipeSpan where
  pipe : Fin 16
  /-- Pixels that it has decoded of the picture under way so far. -/
  pixels : Nat
deriving DecidableEq, Repr

/-- What a decode pipe finds in an access unit, as the coding standards lay down (R280 to R285, R293 to R298). -/
structure DecodedPic where
  /-- The sequence parameter set that it activates or is coded under (R281). -/
  sps : Sps
  /-- VUI transfer characteristics (R282). -/
  vui : Nat
  /-- An IDR picture or an H.265 IRAP picture (R295). -/
  rap : Bool
  /-- The unit carries a recovery point, so that decoding may start (R265). -/
  recovery : Bool
  /-- The standard declares the picture correct from a recovery point (R295). -/
  recovered : Bool
  /-- 16 × 16 luma areas that were coded rather than skipped, and those that are missing or could not be decoded, by
  number in raster order (R294, R298). -/
  coded : List Nat
  concealed : List Nat
  /-- Slot of the nearest picture in output order that the decoded picture buffer holds (R294). -/
  nearest : Option Nat
  /-- A slice broke the syntax (R293). -/
  syntaxErr : Bool
  /-- A reference picture is absent (R293). -/
  refAbsent : Bool
  /-- A read of a reference picture returned poison (R31, R293). -/
  refPoison : Bool
  /-- Slots of the reference pictures (R295). -/
  refs : List Nat
  /-- Slots output by the bumping process at this picture, in output order (R285). -/
  output : List Nat
  /-- Slots the decoded picture buffer holds afterwards as references or waiting for output. -/
  held : List Nat
  /-- The decoded luma rows and chroma rows one after another, without the padding of R45. -/
  luma : List Byte
  chroma : List Byte
deriving DecidableEq, Repr

/-- The cropped size of a picture, and whether its samples have more than 8 bits: FMT SP420_10 (R280, R282). -/
def DecodedPic.width (p : DecodedPic) : Nat := p.sps.width
def DecodedPic.height (p : DecodedPic) : Nat := p.sps.height
def DecodedPic.tenBit (p : DecodedPic) : Bool := p.sps.depth != 8

/-- What an encode pipe reports of one coded row (R310, R316 to R321). -/
structure EncRow where
  /-- Bits handed to packetisation before the first unit of the row and after the last: parameter sets, a slice header, what
  ends a slice (R317). -/
  lead : Nat
  tail : Nat
  /-- Bits spent in each unit of the row, in coding order (R320). -/
  units : List Nat
  /-- Coded NAL units that ended in this row (slices, and parameter sets before row 0 of a key picture). -/
  nals : List (List Byte)
  /-- The reconstructed luma lines and then the chroma lines of the row, one after another without padding (R307). -/
  recon : List Byte
deriving DecidableEq, Repr

/-- What a lane's receiver finds at the end of a bring-up stage (R341 to R343). -/
structure StageObs where
  /-- The beacon shows its zeros first (R342). -/
  inverted : Bool
  /-- The POS that each member of the group receives (R343). -/
  order : List Nat
  /-- Skew between members in line bits (R343). -/
  skew : Nat
deriving DecidableEq, Repr

/-- Result of one start test (R536 to R538, R546). -/
structure TestResult where
  unit : Fin 256
  /-- 1 PASS, 2 FAIL, 3 CONDITIONS, 5 REPAIRED. -/
  result : Fin 8
  detail : BitVec 8
  /-- Frame SRAM banks of which a failure of this test is beyond repair (R540). -/
  badBanks : List (Fin 256)
deriving DecidableEq, Repr

/-- The failures that the frame SRAM test found, each as a record of bank, kind and index whose SPARE and VALID say nothing (R540), and
the failed DRAM rows (R542). -/
structure RepairFind where
  soft : List (BitVec 24)
  dramRows : List (BitVec 27)
deriving DecidableEq, Repr

/-- A command: a row of the table. -/
inductive Instr where
  -- clock domains and register access
  | refSwitch (t : Nat)
  | refLostBoth (t : Nat)
  | clockLoss (t : Nat) (d : Fin 8)
  | clockDrift (t : Nat) (d : Fin 8) (khz : Nat)
  | sampleCfgWrite (i : Initiator) (v : Word)
  | registerWrite (i : Initiator) (a : PAddr) (v : Word)
  | reg64LowWrite (i : Initiator) (a : PAddr) (v : Word)
  | reg64HighWrite (i : Initiator) (a : PAddr) (v : Word)
  | reg64LowRead (i : Initiator) (a : PAddr)
  | initiatorCheck (i : Initiator) (k : AccKind) (a : Nat) (len : Fin 257) (data : List Byte)
  | targetCheck (n : Nat) (finds : List (Nat × MemFind))
  | patrolScrub (t : Nat) (words : Nat) (finds : List (Nat × MemFind))
  -- line events of the vigil and the compositor
  | lineStart (t : Nat) (h : Fin 48) (ups : List PixUpset)
  | ageProgressVote (t : Nat) (h : Fin 48) (ups : List Upset)
  | integrityCompare (t : Nat) (h : Fin 48)
  | voteComplete (t : Nat) (h : Fin 48) (ups : List Upset) (pilot : List (Fin 3)) (voters : List Upset)
  | verdictDelivery (t : Nat) (h : Fin 48)
  | composeLine (t : Nat) (h : Fin 48)
  | lineUnderrun (t : Nat) (h : Fin 48) (ws : List (Fin 2048))
  | echoTimeout (t : Nat) (h : Fin 48) (line : Nat) (w : Fin 2048)
  | vigilCtrlWrite (i : Initiator) (v : Word)
  | colourWrite (i : Initiator) (c : Fin 8) (v : Word)
  | vigilInject (i : Initiator) (v : Word)
  -- raster, genlock, spans and commit
  | frameStart (t : Nat) (h : Fin 48)
  | apply (t : Nat) (u : Fin 64)
  | applyDone (t : Nat) (u : Fin 64)
  | commitReq (i : Initiator) (u : Fin 64) (v : Word)
  | timingWrite (i : Initiator) (h : Fin 48) (k : Fin 3) (v : Word)
  | headEnable (i : Initiator) (h : Fin 48) (v : Word)
  | headDisable (i : Initiator) (h : Fin 48) (v : Word)
  | refWrite (i : Initiator) (h : Fin 48) (v : Word)
  | genlockPulse (t : Nat) (n : Fin 2) (width : Nat)
  | pulseMissing (t : Nat) (h : Fin 48)
  | genlockLost (t : Nat) (h : Fin 48)
  | virtualPulse (t : Nat) (h : Fin 48)
  | spanEnable (i : Initiator) (s : Fin 16) (v : Word)
  | spanDisable (i : Initiator) (s : Fin 16) (v : Word)
  | spanMembersWrite (i : Initiator) (s : Fin 16) (k : Fin 3) (v : Word)
  | maintenanceStart (t : Nat) (ch : Fin 32) (op : Maint) (dur : Nat)
  | refreshForced (t : Nat) (ch : Fin 32)
  -- Priad: integer group
  | add (e : Eng) (d a b : Fin 32)
  | sub (e : Eng) (d a b : Fin 32)
  | and (e : Eng) (d a b : Fin 32)
  | or (e : Eng) (d a b : Fin 32)
  | xor (e : Eng) (d a b : Fin 32)
  | shl (e : Eng) (d a b : Fin 32)
  | shr (e : Eng) (d a b : Fin 32)
  | sar (e : Eng) (d a b : Fin 32)
  | lt (e : Eng) (d a b : Fin 32)
  | ltu (e : Eng) (d a b : Fin 32)
  | mins (e : Eng) (d a b : Fin 32)
  | maxs (e : Eng) (d a b : Fin 32)
  | minu (e : Eng) (d a b : Fin 32)
  | maxu (e : Eng) (d a b : Fin 32)
  | andn (e : Eng) (d a b : Fin 32)
  | rol (e : Eng) (d a b : Fin 32)
  | mul (e : Eng) (d a b : Fin 32)
  | mulhs (e : Eng) (d a b : Fin 32)
  | mulhu (e : Eng) (d a b : Fin 32)
  | quos (e : Eng) (d a b : Fin 32)
  | quou (e : Eng) (d a b : Fin 32)
  | mods (e : Eng) (d a b : Fin 32)
  | modu (e : Eng) (d a b : Fin 32)
  | add32 (e : Eng) (d a b : Fin 32)
  | sub32 (e : Eng) (d a b : Fin 32)
  | shl32 (e : Eng) (d a b : Fin 32)
  | shr32 (e : Eng) (d a b : Fin 32)
  | sar32 (e : Eng) (d a b : Fin 32)
  | mul32 (e : Eng) (d a b : Fin 32)
  | sext32 (e : Eng) (d a b : Fin 32)
  | bswap (e : Eng) (d a b : Fin 32)
  | lzc (e : Eng) (d a b : Fin 32)
  | tzc (e : Eng) (d a b : Fin 32)
  | ones (e : Eng) (d a b : Fin 32)
  -- Priad: immediate group
  | addk (e : Eng) (d a : Fin 32) (imm : BitVec 16)
  | addk32 (e : Eng) (d a : Fin 32) (imm : BitVec 16)
  | andk (e : Eng) (d a : Fin 32) (imm : BitVec 16)
  | ork (e : Eng) (d a : Fin 32) (imm : BitVec 16)
  | xork (e : Eng) (d a : Fin 32) (imm : BitVec 16)
  | ltk (e : Eng) (d a : Fin 32) (imm : BitVec 16)
  | ltuk (e : Eng) (d a : Fin 32) (imm : BitVec 16)
  | shlk (e : Eng) (d a : Fin 32) (imm : BitVec 16)
  | shrk (e : Eng) (d a : Fin 32) (imm : BitVec 16)
  | sark (e : Eng) (d a : Fin 32) (imm : BitVec 16)
  | rolk (e : Eng) (d a : Fin 32) (imm : BitVec 16)
  | setu (e : Eng) (d : Fin 32) (imm : BitVec 21)
  | addh (e : Eng) (d a : Fin 32) (imm : BitVec 16)
  | pcrel (e : Eng) (d : Fin 32) (imm : BitVec 21)
  -- Priad: load and store group
  | ldS8 (e : Eng) (d a : Fin 32) (imm : BitVec 16) (find : MemFind)
  | ldS16 (e : Eng) (d a : Fin 32) (imm : BitVec 16) (find : MemFind)
  | ldS32 (e : Eng) (d a : Fin 32) (imm : BitVec 16) (find : MemFind)
  | ld64 (e : Eng) (d a : Fin 32) (imm : BitVec 16) (find : MemFind)
  | ldU8 (e : Eng) (d a : Fin 32) (imm : BitVec 16) (find : MemFind)
  | ldU16 (e : Eng) (d a : Fin 32) (imm : BitVec 16) (find : MemFind)
  | ldU32 (e : Eng) (d a : Fin 32) (imm : BitVec 16) (find : MemFind)
  | st8 (e : Eng) (d a : Fin 32) (imm : BitVec 16)
  | st16 (e : Eng) (d a : Fin 32) (imm : BitVec 16)
  | st32 (e : Eng) (d a : Fin 32) (imm : BitVec 16)
  | st64 (e : Eng) (d a : Fin 32) (imm : BitVec 16)
  -- Priad: branch group
  | braEq (e : Eng) (a b : Fin 32) (off : BitVec 16)
  | braNe (e : Eng) (a b : Fin 32) (off : BitVec 16)
  | braLt (e : Eng) (a b : Fin 32) (off : BitVec 16)
  | braGe (e : Eng) (a b : Fin 32) (off : BitVec 16)
  | braLtu (e : Eng) (a b : Fin 32) (off : BitVec 16)
  | braGeu (e : Eng) (a b : Fin 32) (off : BitVec 16)
  | jmp (e : Eng) (off : BitVec 26)
  | call (e : Eng) (off : BitVec 26)
  | callr (e : Eng) (d a : Fin 32) (imm : BitVec 16)
  -- Priad: atomic group
  | atSwap (e : Eng) (d a b : Fin 32) (w64 : Bool) (find : MemFind)
  | atAdd (e : Eng) (d a b : Fin 32) (w64 : Bool) (find : MemFind)
  | atAnd (e : Eng) (d a b : Fin 32) (w64 : Bool) (find : MemFind)
  | atOr (e : Eng) (d a b : Fin 32) (w64 : Bool) (find : MemFind)
  | atXor (e : Eng) (d a b : Fin 32) (w64 : Bool) (find : MemFind)
  | atMins (e : Eng) (d a b : Fin 32) (w64 : Bool) (find : MemFind)
  | atMaxs (e : Eng) (d a b : Fin 32) (w64 : Bool) (find : MemFind)
  | atMinu (e : Eng) (d a b : Fin 32) (w64 : Bool) (find : MemFind)
  | atMaxu (e : Eng) (d a b : Fin 32) (w64 : Bool) (find : MemFind)
  | atCas (e : Eng) (d a b : Fin 32) (w64 : Bool) (find : MemFind)
  | atSadd (e : Eng) (d a b : Fin 32) (w64 : Bool) (find : MemFind)
  -- Priad: system group
  | srd (e : Eng) (d : Fin 32) (sr : Fin 4096)
  | swr (e : Eng) (sr : Fin 4096) (a : Fin 32)
  | srs (e : Eng) (d : Fin 32) (sr : Fin 4096) (a : Fin 32)
  | src (e : Eng) (d : Fin 32) (sr : Fin 4096) (a : Fin 32)
  | trap (e : Eng) (code : Fin 4096)
  | brk (e : Eng) (code : Fin 4096)
  | eret (e : Eng)
  | fence (e : Eng)
  | fenceI (e : Eng)
  | cclean (e : Eng) (a : Fin 32)
  | cinval (e : Eng) (a : Fin 32)
  | cflush (e : Eng) (a : Fin 32)
  | rulesync (e : Eng)
  | rulesyncDone (t : Nat) (c : Fin 16)
  | timerestep (e : Eng) (a : Fin 32)
  -- Priad: ring group
  | rput (e : Eng) (d a b : Fin 32)
  | rget (e : Eng) (d a b : Fin 32)
  | rbell (e : Eng) (d a b : Fin 32)
  | rwait (e : Eng) (d a : Fin 32)
  | rwaitDone (t : Nat) (c : Fin 16)
  -- cores: attention, start, halt, watchdog, L2
  | impreciseStoreRefusal (t : Nat) (c : Fin 16)
  | attention (t : Nat) (c : Fin 16)
  | coreStart (i : Initiator) (c : Fin 16) (v : Word)
  | coreHalt (i : Initiator) (c : Fin 16) (v : Word)
  | coreWatchdog (t : Nat) (c : Fin 16)
  | wdogKick (i : Initiator) (c : Fin 16) (v : Word)
  | l2SramWaysWrite (i : Initiator) (v : Word)
  | l2ReconfigDone (t : Nat)
  | ncWindowWrite (i : Initiator) (n : Fin 4) (limit : Bool) (v : Word)
  -- Priad: raster and media groups, line sequencers
  | wline (e : Eng) (d a b : Fin 32)
  | wlineI (e : Eng) (d : Fin 32) (imm : BitVec 16)
  | wframe (e : Eng) (d a b : Fin 32)
  | wtime (e : Eng) (d a : Fin 32)
  | waitDone (t : Nat) (e : Eng)
  | stamp (e : Eng) (d b : Fin 32)
  | commit (e : Eng) (d b : Fin 32)
  | place (e : Eng) (d a b : Fin 32)
  | pick (e : Eng) (d a : Fin 32)
  | withhold (e : Eng) (d a : Fin 32)
  | trig (e : Eng) (d a b : Fin 32)
  | tagld (e : Eng) (d a b : Fin 32)
  | tagchk (e : Eng) (d a : Fin 32)
  | crc (e : Eng) (d a b : Fin 32) (n : Fin 4)
  | scan (e : Eng) (d a b : Fin 32)
  | seqStart (i : Initiator) (n : Fin 48) (v : Word)
  | seqHalt (i : Initiator) (n : Fin 48) (v : Word)
  | seqBudget (t : Nat) (n : Fin 48)
  | seqWatchdog (t : Nat) (n : Fin 48)
  | seqMemWrite (i : Initiator) (n : Fin 48) (o : Fin 4096) (v : Word)
  -- windows, coefficients and copies
  | placeCtlGo (i : Initiator) (v : Word)
  | descriptorWrite (i : Initiator) (w : Fin 2048) (k : Fin 16) (v : Word)
  | coefLoadGo (i : Initiator) (v : Word)
  | coefLoadDone (t : Nat)
  | copySetEnable (i : Initiator) (k : Fin 256) (v : Word)
  | copyJobStart (t : Nat) (n : Fin 4)
  | copyJobDone (t : Nat) (n : Fin 4)
  -- stream intake and decode
  | contextOpen (i : Initiator) (c : Fin 4096) (v : Word)
  | contextClose (i : Initiator) (c : Fin 4096) (v : Word)
  | contextDrained (t : Nat) (c : Fin 4096)
  | contextFieldWrite (i : Initiator) (c : Fin 4096) (k : Fin 32) (v : Word)
  | ruleAdd (i : Initiator) (v : Word)
  | ruleDel (i : Initiator) (v : Word)
  | ruleRead (i : Initiator) (v : Word)
  | ruleCmdDone (t : Nat)
  | ethRxFrame (t : Nat) (p : Fin 5) (fcsOk : Bool) (frame : List Byte)
  | gapDeclaredLost (t : Nat) (c : Fin 4096)
  | networkSilent (t : Nat) (c : Fin 4096) (netB : Bool)
  | pipeDispatch (t : Nat) (p : Fin 16)
  | pictureDecoded (t : Nat) (p : Fin 16) (pic : DecodedPic)
  | slotWaitExpiry (t : Nat) (p : Fin 16)
  | bufReturn (i : Initiator) (v : Word)
  | keypicRequest (t : Nat) (c : Fin 4096)
  | contextMigrate (t : Nat)
  | pipeRateUpdate (t : Nat) (p : PipeSpan)
  | pipeStallFail (t : Nat) (p : Fin 16) (internal : Bool)
  | decPipeEnWrite (i : Initiator) (v : Word)
  -- encode
  | sessionEnable (i : Initiator) (n : Fin 16) (v : Word)
  | sessionFieldWrite (i : Initiator) (n : Fin 16) (k : Fin 32) (v : Word)
  | keyReq (i : Initiator) (n : Fin 16) (v : Word)
  | encRow (t : Nat) (n : Fin 16) (row : EncRow)
  | encPipeStall (t : Nat) (p : Fin 8) (internal : Bool)
  | encPipeEnWrite (i : Initiator) (v : Word)
  -- Ethernet ports and network time
  | ethTxFrame (t : Nat) (p : Fin 5)
  | hosttxEntry (t : Nat)
  | portEnable (i : Initiator) (p : Fin 4) (v : Word)
  | portUp (t : Nat) (p : Fin 4)
  | portDown (t : Nat) (p : Fin 4) (cause : Fin 4)
  | mgmtEnable (i : Initiator) (v : Word)
  | mdioGo (i : Initiator) (v : Word)
  | mdioDone (t : Nat) (data : BitVec 16)
  | servoSample (i : Initiator) (v : Dword)
  | freqWrite (i : Initiator) (v : Word)
  | servoCfgWrite (i : Initiator) (v : Word)
  | servoHoldover (t : Nat)
  | timeStepApply (t : Nat)
  | timeTriggerFire (t : Nat) (n : Fin 16)
  | triggerCtlWrite (i : Initiator) (n : Fin 16) (k : Fin 8) (v : Word)
  -- Dravio lanes
  | laneEnable (i : Initiator) (l : Fin 64) (v : Word)
  | laneDisable (i : Initiator) (l : Fin 64) (v : Word)
  | bringupStageDone (t : Nat) (l : Fin 64) (obs : StageObs)
  | bringupTimeout (t : Nat) (l : Fin 64)
  | bringupRestart (t : Nat) (l : Fin 64)
  | capSend (t : Nat) (l : Fin 64)
  | blockReceived (t : Nat) (l : Fin 64) (bits : List Bool)
  | laneSignalLoss (t : Nat) (l : Fin 64)
  | laneBeaconTimeout (t : Nat) (l : Fin 64)
  | blockSend (t : Nat) (l : Fin 64)
  | outmapWrite (i : Initiator) (h : Fin 32) (v : Word)
  | sensemapWrite (i : Initiator) (k : Fin 32) (v : Word)
  | hostLaneTx (t : Nat)
  | loopWrite (i : Initiator) (l : Fin 64) (v : Word)
  -- console touch
  | panelEnable (i : Initiator) (p : Fin 34) (v : Word)
  | panelDisable (i : Initiator) (p : Fin 34) (v : Word)
  | senseCmdTimeout (t : Nat) (p : Fin 34)
  | localScanDone (t : Nat) (p : Fin 34) (counts : List (BitVec 16))
  | touchFrameTimeout (t : Nat) (p : Fin 34)
  | waterTimeout (t : Nat) (p : Fin 34)
  | touchRateStep (t : Nat) (p : Fin 34)
  | touchCmdTest (i : Initiator) (p : Fin 34) (v : Word)
  | touchCmdRecover (i : Initiator) (p : Fin 34) (v : Word)
  -- audio
  | audioSideEnable (i : Initiator) (p : Fin 16) (rx : Bool) (v : Word)
  | audioFrameStart (t : Nat) (p : Fin 16) (rx : Bool) (samples : List (BitVec 24))
  | maskWrite (i : Initiator) (p : Fin 16) (rx : Bool) (v : Word)
  | audioClockAbsent (t : Nat) (p : Fin 16) (rx : Bool)
  | audioRateGate (t : Nat) (p : Fin 16) (rx : Bool) (hz : Nat)
  | audioClockRestored (t : Nat) (p : Fin 16) (rx : Bool)
  | audioPacketTx (t : Nat) (c : Fin 4096)
  -- protection, rings, check-value units, fault log
  | rulesetActivate (i : Initiator) (v : Word)
  | rulesetActivateDone (t : Nat)
  | bindWrite (i : Initiator) (n : Fin 128) (v : Word)
  | lockdownWrite (i : Initiator) (v : Word)
  | ringEnable (i : Initiator) (k : Fin 128) (v : Word)
  | ringDisable (i : Initiator) (k : Fin 128) (v : Word)
  | doorbell (i : Initiator) (k : Fin 128) (v : Word)
  | ringAgeAttention (t : Nat) (k : Fin 128)
  | chkJobDone (t : Nat) (u : Fin 8)
  | faultRecordPost (t : Nat)
  | counterClear (i : Initiator) (v : Word)
  -- power and heat
  | vinStartReached (t : Nat) (mv : Nat)
  | inrushEnd (t : Nat) (us : Nat)
  | inrushTimeout (t : Nat) (vibOk : Bool)
  | startStepDone (t : Nat) (temp : Int) (extOk repairOk : Bool)
  | startStepTimeout (t : Nat)
  | warmDone (t : Nat)
  | vinWarnCross (t : Nat) (mv : Nat)
  | vinRecover (t : Nat) (mv : Nat)
  | vinResetCross (t : Nat)
  | vinHigh (t : Nat) (mv : Nat)
  | vinOv (t : Nat) (mv : Nat)
  | iinLimit (t : Nat) (ma : Nat)
  | railToleranceFault (t : Nat) (r : Fin 12) (high : Bool)
  | railHardFault (t : Nat) (r : Fin 12) (trip : Bool)
  | holdupLow (t : Nat) (mv : Nat)
  | wakeAdmit (t : Nat) (lane : Bool) (n : Fin 64)
  | governorStep (t : Nat) (pin : Nat)
  | governorRelease (t : Nat) (pin : Nat)
  | holdupReserveReached (t : Nat) (mv : Nat)
  | orderlyStopDone (t : Nat)
  | autoRestart (t : Nat)
  | stopWrite (i : Initiator) (v : Word)
  | vinWarnCfgWrite (i : Initiator) (v : Word)
  | tempSample (t : Nat) (raw : List (Option Int))
  | sensorFail (t : Nat) (n : Fin 24)
  | thermalCapStep (t : Nat)
  | hardTrip (t : Nat)
  | ledgerSecond (t : Nat) (mv : Nat)
  | pmonMeasure (t : Nat) (drift : List Int)
  | ledgerRecordWrite (t : Nat)
  | ledgerSave (i : Initiator) (v : Word)
  | ledgerWriteDone (t : Nat) (ok : Bool)
  -- modes, start-up and self-test
  | modeReqWrite (i : Initiator) (v : Word)
  | warmReset (i : Initiator) (v : Word)
  | resetNAssert (t : Nat)
  | resetNRelease (t : Nat)
  | selfTestDone (t : Nat) (results : List TestResult) (repairs : RepairFind) (mainOk : Bool)
  | testConditionsRetry (t : Nat) (u : Fin 256)
  | bootLoadDone (t : Nat) (sfdp : Option Sfdp) (sigA sigB : Bool)
  | bootConfirm (i : Initiator) (v : Word)
  | bootWdog (t : Nat)
  | fenceWrite (i : Initiator) (k : Fin 7) (v : Word)
  | fuseSramRepair (i : Initiator) (v : Word)
  | fuseFence (i : Initiator) (v : Word)
  | fuseCmdDone (t : Nat) (verify : List Bool)
  | pprGo (i : Initiator) (v : Word)
  | pprDone (t : Nat) (resource : Bool)
  | istGo (i : Initiator) (v : Word)
  | istDone (t : Nat) (result : Fin 8) (detail : BitVec 8) (soft : List (BitVec 24))
  | illegalInstruction (e : Eng) (w : Word)
  | sampleReturns (t : Nat)
  | vaonLost (t : Nat)
  | jtagHalt (e : Eng)
  | testOutOfConditions (t : Nat)
  | deratedTimer (t : Nat)
deriving DecidableEq, Repr

end Sys2Proof
end

