-- ==== Sys2Proof/Decode.lean ====
section
/-! DEFINITION. Reading a table word: the table of operations and events gives no row any bits. -/
namespace Sys2Proof

/-- No row of the table has an encoding in bits, so no word spells a command (log entry 1). -/
def decodeTableWord (nbits w : Nat) : Option Instr :=
  match nbits, w with
  | _, _ => none

end Sys2Proof
end

