-- ==== Sys2Proof/Config.lean ====
section
/-! DEFINITION. What the manual leaves open and no command can choose: the free values. -/
namespace Sys2Proof.Config

/-- A FREE VALUE: a value of which the manual says only that there is one. `freeValue n` is the n-th such value of a
run; nothing in Lean can evaluate it, so a theorem holds whatever it is (log entry 2). -/
opaque freeValue : Nat → BitVec 64

/-- A FREE VALUE: what monitor `ch` of the part shows at a PIXEL clock: of rails 0 to 11 the voltage and the current (log entry
129), and on 16 to 20 what the physical layers of the ports report (log entry 137). -/
opaque monitor (ch pix : Nat) : BitVec 32

end Sys2Proof.Config
end

