-- ==== Sys2Proof/Machine/RegMap.lean ====
section
/-! DEFINITION. The register map: a name for every field of the register tables of the chapters (generated from the
spec's tables; each carries the rule it stands in), the rows that say which bits of a register take writes (R7) and
what it holds at reset, and the lookup of a row by the register's key. A key is the byte address above
0x20_0000_0000 (R24); the L2 control registers of R172 take the keys from 22 * 0x10_0000. -/
namespace Sys2Proof.Machine

/-- A field of a register: the key of its register, its lowest bit and its width. -/
structure Fld where
  key : Nat
  lo : Nat
  w : Nat
deriving DecidableEq, Repr

/-- A row of a register map: offset in the block, two strides with their counts, the bits of the types RW or RWS, WK
and W1C (R7), the reset value, and whether the register is a saturating event counter (R483). -/
structure RegRow where
  off : Nat
  s1 : Nat
  n1 : Nat
  s2 : Nat
  n2 : Nat
  rw : Nat
  wk : Nat
  w1c : Nat
  reset : Nat
  cnt : Bool
deriving DecidableEq, Repr

namespace F

/-! R20. -/
def CLK_STATUS_LOCK : Fld := ⟨0x300000, 0, 8⟩
def CLK_STATUS_REF_SRC : Fld := ⟨0x300000, 8, 1⟩
def CLK_FAULT_LOSS : Fld := ⟨0x300004, 0, 8⟩
def CLK_FAULT_DRIFT : Fld := ⟨0x300004, 8, 8⟩
def CLK_FAULT_REF_SWITCH : Fld := ⟨0x300004, 16, 1⟩
def CLK_REF_CFG_PREFER_EXT : Fld := ⟨0x300008, 0, 1⟩
def CLK_SAMPLE_CFG_BASE : Fld := ⟨0x30000C, 0, 1⟩
def CLK_MEAS_KHZ (n : Nat) : Fld := ⟨0x300040 + 0x4 * n, 0, 32⟩
/-! R33. -/
def MEMC_TRAINED : Fld := ⟨0x1400000, 0, 32⟩
def MEMC_CE_COUNT_COUNT : Fld := ⟨0x1400004, 0, 31⟩
def MEMC_CE_COUNT_SAT : Fld := ⟨0x1400004, 31, 1⟩
def MEMC_UE_COUNT_COUNT : Fld := ⟨0x1400008, 0, 31⟩
def MEMC_UE_COUNT_SAT : Fld := ⟨0x1400008, 31, 1⟩
def MEMC_SCRUB_CFG_PERIOD_H : Fld := ⟨0x140000C, 0, 8⟩
def MEMC_SCRUB_CFG_ENABLE : Fld := ⟨0x140000C, 8, 1⟩
def MEMC_SCRUB_POS : Fld := ⟨0x1400010, 0, 32⟩
def MEMC_SRAM_CE_COUNT : Fld := ⟨0x1400014, 0, 31⟩
def MEMC_SRAM_CE_SAT : Fld := ⟨0x1400014, 31, 1⟩
def MEMC_SRAM_UE_COUNT : Fld := ⟨0x1400018, 0, 31⟩
def MEMC_SRAM_UE_SAT : Fld := ⟨0x1400018, 31, 1⟩
/-! R35. -/
def SYS_FPB_ID_STEP : Fld := ⟨0x100, 0, 8⟩
def SYS_FPB_ID_MEMBER : Fld := ⟨0x100, 8, 8⟩
def SYS_FPB_ID_FAMILY : Fld := ⟨0x100, 16, 16⟩
def SYS_FPB_OUT_HEADS : Fld := ⟨0x104, 0, 8⟩
def SYS_FPB_OUT_VHEADS : Fld := ⟨0x104, 8, 8⟩
def SYS_FPB_OUT_SPANS : Fld := ⟨0x104, 16, 8⟩
def SYS_FPB_OUT_SEQS : Fld := ⟨0x104, 24, 8⟩
def SYS_FPB_MEDIA_DEC_PIPES : Fld := ⟨0x108, 0, 8⟩
def SYS_FPB_MEDIA_ENC_PIPES : Fld := ⟨0x108, 8, 8⟩
def SYS_FPB_MEDIA_SLICES : Fld := ⟨0x108, 16, 8⟩
def SYS_FPB_MEDIA_SCONCE : Fld := ⟨0x108, 24, 8⟩
def SYS_FPB_IO_LANES : Fld := ⟨0x10C, 0, 8⟩
def SYS_FPB_IO_ETH_PORTS : Fld := ⟨0x10C, 8, 8⟩
def SYS_FPB_IO_AUDIO_PORTS : Fld := ⟨0x10C, 16, 8⟩
def SYS_FPB_IO_TOUCH_HEADS : Fld := ⟨0x10C, 24, 8⟩
def SYS_FPB_TABLES_CONTEXTS : Fld := ⟨0x110, 0, 16⟩
def SYS_FPB_TABLES_WINDOWS : Fld := ⟨0x110, 16, 16⟩
def SYS_FPB_MEM_DRAM_GIB : Fld := ⟨0x114, 0, 16⟩
def SYS_FPB_MEM_SRAM_MIB : Fld := ⟨0x114, 16, 16⟩
/-! R49. -/
def WIN_STALE_US (w : Nat) : Fld := ⟨0x720030 + 0x40 * w, 0, 26⟩
def WIN_FREEZE_US (w : Nat) : Fld := ⟨0x720034 + 0x40 * w, 0, 26⟩
def WIN_SKIP_N (w : Nat) : Fld := ⟨0x720038 + 0x40 * w, 0, 13⟩
def WIN_TREAT (w : Nat) : Fld := ⟨0x720038 + 0x40 * w, 16, 14⟩
def WIN_ECHO_REQ (w : Nat) : Fld := ⟨0x72003C + 0x40 * w, 0, 1⟩
/-! R87. -/
def VIGIL_CTRL_LOCK : Fld := ⟨0x900000, 0, 1⟩
def VIGIL_CTRL_TWIN : Fld := ⟨0x900000, 1, 1⟩
def VIGIL_CTRL_ECHO : Fld := ⟨0x900000, 8, 1⟩
def VIGIL_CTRL_ECHO_EVERY : Fld := ⟨0x900000, 9, 3⟩
def VIGIL_STATUS_STATE_A : Fld := ⟨0x900004, 0, 2⟩
def VIGIL_STATUS_STATE_B : Fld := ⟨0x900004, 2, 2⟩
def VIGIL_STATUS_STATE_C : Fld := ⟨0x900004, 4, 2⟩
def VIGIL_STATUS_IN_SERVICE : Fld := ⟨0x900004, 6, 2⟩
def VIGIL_STATUS_ALL_SNUFF : Fld := ⟨0x900004, 8, 1⟩
def VIGIL_DISSENT_A : Fld := ⟨0x900008, 0, 31⟩
def VIGIL_DISSENT_B : Fld := ⟨0x90000C, 0, 31⟩
def VIGIL_DISSENT_C : Fld := ⟨0x900010, 0, 31⟩
def VIGIL_SPLIT_COUNT : Fld := ⟨0x900014, 0, 31⟩
def VIGIL_INTEG_COUNT : Fld := ⟨0x900018, 0, 31⟩
def VIGIL_ECHO_COUNT : Fld := ⟨0x90001C, 0, 31⟩
def VIGIL_SNUFF_COUNT : Fld := ⟨0x900020, 0, 31⟩
def VIGIL_RETIRE_CFG_FRAMES : Fld := ⟨0x900024, 0, 8⟩
def VIGIL_DISP_OFS : Fld := ⟨0x900028, 0, 10⟩
def VIGIL_ECHO_TIMEOUT : Fld := ⟨0x90002C, 0, 8⟩
def VIGIL_INJECT_WINDOW : Fld := ⟨0x900030, 0, 11⟩
def VIGIL_INJECT_INSTANCE : Fld := ⟨0x900030, 12, 2⟩
def VIGIL_INJECT_GO : Fld := ⟨0x900030, 16, 1⟩
def VIGIL_CEIL_STALE : Fld := ⟨0x900040, 0, 26⟩
def VIGIL_CEIL_FREEZE : Fld := ⟨0x900044, 0, 26⟩
def VIGIL_CEIL_SKIP_N : Fld := ⟨0x900048, 0, 13⟩
def VIGIL_COLOUR (v : Nat) : Fld := ⟨0x900084 + 4 * (v - 1), 0, 24⟩
def VIGIL_FILL : Fld := ⟨0x9000A0, 0, 24⟩
def VIGIL_CLOVE_HATCH : Fld := ⟨0x9000A4, 0, 24⟩
def VIGIL_HSNUFF_COUNT (h : Nat) : Fld := ⟨0x900100 + 0x4 * h, 0, 7⟩
def VIGIL_WSTATE_VERDICT (w : Nat) : Fld := ⟨0x910000 + 0x10 * w, 0, 3⟩
def VIGIL_WSTATE_REASON (w : Nat) : Fld := ⟨0x910000 + 0x10 * w, 3, 5⟩
def VIGIL_WSTATE_AGE_LATCH (w : Nat) : Fld := ⟨0x910000 + 0x10 * w, 8, 1⟩
def VIGIL_WSTATE_SEQ (w : Nat) : Fld := ⟨0x910004 + 0x10 * w, 0, 32⟩
def VIGIL_WSTATE_ADV (w : Nat) : Fld := ⟨0x910008 + 0x10 * w, 0, 32⟩
def VIGIL_WSTATE_AGE (w : Nat) : Fld := ⟨0x91000C + 0x10 * w, 0, 32⟩
/-! R130. -/
def RASTER_GL_IN_CFG_IN0_LVDS : Fld := ⟨0x500000, 0, 1⟩
def RASTER_GL_IN_CFG_IN0_FALL : Fld := ⟨0x500000, 1, 1⟩
def RASTER_GL_IN_CFG_IN1_LVDS : Fld := ⟨0x500000, 2, 1⟩
def RASTER_GL_IN_CFG_IN1_FALL : Fld := ⟨0x500000, 3, 1⟩
def RASTER_GL_IN_CFG_MIN_W : Fld := ⟨0x500000, 8, 8⟩
def RASTER_GL_IN_STATUS_IN0_ACTIVE : Fld := ⟨0x500004, 0, 1⟩
def RASTER_GL_IN_STATUS_IN1_ACTIVE : Fld := ⟨0x500004, 1, 1⟩
def RASTER_GL_IN0_PERIOD : Fld := ⟨0x500008, 0, 32⟩
def RASTER_GL_IN1_PERIOD : Fld := ⟨0x50000C, 0, 32⟩
def RASTER_LTR_CFG_URGENT : Fld := ⟨0x500010, 0, 12⟩
def RASTER_LTR_CFG_RELAX : Fld := ⟨0x500010, 16, 12⟩
def RASTER_LTR_MIN_LT : Fld := ⟨0x500014, 0, 12⟩
def RASTER_LTR_MIN_HEAD : Fld := ⟨0x500014, 16, 6⟩
def RASTER_LTR_FORCED : Fld := ⟨0x500018, 0, 31⟩
/-! R131. -/
def HEAD_HTIM_HACTIVE (h : Nat) : Fld := ⟨0x501000 + 0x80 * h, 0, 13⟩
def HEAD_HTIM_HTOTAL (h : Nat) : Fld := ⟨0x501000 + 0x80 * h, 16, 13⟩
def HEAD_VTIM_VACTIVE (h : Nat) : Fld := ⟨0x501004 + 0x80 * h, 0, 13⟩
def HEAD_VTIM_VTOTAL (h : Nat) : Fld := ⟨0x501004 + 0x80 * h, 16, 14⟩
def HEAD_RATE_NUM (h : Nat) : Fld := ⟨0x501008 + 0x80 * h, 0, 16⟩
def HEAD_RATE_DEN (h : Nat) : Fld := ⟨0x501008 + 0x80 * h, 16, 16⟩
def HEAD_CFG_ENABLE (h : Nat) : Fld := ⟨0x50100C + 0x80 * h, 0, 1⟩
def HEAD_CFG_DEPTH (h : Nat) : Fld := ⟨0x50100C + 0x80 * h, 1, 2⟩
def HEAD_CFG_FHOLD (h : Nat) : Fld := ⟨0x50100C + 0x80 * h, 4, 2⟩
def HEAD_CFG_DEADLINE (h : Nat) : Fld := ⟨0x50100C + 0x80 * h, 16, 14⟩
def HEAD_REF_SRC (h : Nat) : Fld := ⟨0x501010 + 0x80 * h, 0, 2⟩
def HEAD_REF_FALLBACK (h : Nat) : Fld := ⟨0x501010 + 0x80 * h, 2, 2⟩
def HEAD_REF_PULSE_DIV (h : Nat) : Fld := ⟨0x501010 + 0x80 * h, 4, 3⟩
def HEAD_PULSE_POS (h : Nat) : Fld := ⟨0x501014 + 0x80 * h, 0, 24⟩
def HEAD_PTP_OFS (h : Nat) : Fld := ⟨0x501018 + 0x80 * h, 0, 32⟩
def HEAD_POS (h : Nat) : Fld := ⟨0x50101C + 0x80 * h, 0, 32⟩
def HEAD_FSEQ (h : Nat) : Fld := ⟨0x501020 + 0x80 * h, 0, 32⟩
def HEAD_GL_STATE_STATE (h : Nat) : Fld := ⟨0x501024 + 0x80 * h, 0, 3⟩
def HEAD_GL_STATE_RATE_OUT (h : Nat) : Fld := ⟨0x501024 + 0x80 * h, 3, 1⟩
def HEAD_GL_STATE_SPAN (h : Nat) : Fld := ⟨0x501024 + 0x80 * h, 4, 4⟩
def HEAD_GL_STATE_MEMBER (h : Nat) : Fld := ⟨0x501024 + 0x80 * h, 8, 1⟩
def HEAD_GL_PHASE (h : Nat) : Fld := ⟨0x501028 + 0x80 * h, 0, 32⟩
def HEAD_GL_RATE (h : Nat) : Fld := ⟨0x50102C + 0x80 * h, 0, 32⟩
def HEAD_GL_MEAS (h : Nat) : Fld := ⟨0x501030 + 0x80 * h, 0, 32⟩
def HEAD_COMMIT_REQ (h : Nat) : Fld := ⟨0x501034 + 0x80 * h, 0, 1⟩
def HEAD_COMMIT_PENDING (h : Nat) : Fld := ⟨0x501034 + 0x80 * h, 1, 1⟩
def HEAD_COMMIT_QUEUED (h : Nat) : Fld := ⟨0x501034 + 0x80 * h, 2, 1⟩
def HEAD_COMMIT_LATE (h : Nat) : Fld := ⟨0x501034 + 0x80 * h, 3, 1⟩
def HEAD_LATE_COUNT (h : Nat) : Fld := ⟨0x501038 + 0x80 * h, 0, 31⟩
def HEAD_GLITCH_COUNT (h : Nat) : Fld := ⟨0x50103C + 0x80 * h, 0, 31⟩
def HEAD_UNDERRUN_COUNT (h : Nat) : Fld := ⟨0x501040 + 0x80 * h, 0, 31⟩
def HEAD_MISSING_COUNT (h : Nat) : Fld := ⟨0x501044 + 0x80 * h, 0, 31⟩
def HEAD_LT (h : Nat) : Fld := ⟨0x501048 + 0x80 * h, 0, 12⟩
/-! R132. -/
def SPAN_MEMBERS_LO (s : Nat) : Fld := ⟨0x503000 + 0x20 * s, 0, 32⟩
def SPAN_MEMBERS_HI (s : Nat) : Fld := ⟨0x503004 + 0x20 * s, 0, 16⟩
def SPAN_CTRL_ENABLE (s : Nat) : Fld := ⟨0x503008 + 0x20 * s, 0, 1⟩
def SPAN_CTRL_FHOLD (s : Nat) : Fld := ⟨0x503008 + 0x20 * s, 4, 2⟩
def SPAN_CTRL_DEADLINE (s : Nat) : Fld := ⟨0x503008 + 0x20 * s, 16, 14⟩
def SPAN_COMMIT_REQ (s : Nat) : Fld := ⟨0x50300C + 0x20 * s, 0, 1⟩
def SPAN_COMMIT_PENDING (s : Nat) : Fld := ⟨0x50300C + 0x20 * s, 1, 1⟩
def SPAN_COMMIT_QUEUED (s : Nat) : Fld := ⟨0x50300C + 0x20 * s, 2, 1⟩
def SPAN_COMMIT_LATE (s : Nat) : Fld := ⟨0x50300C + 0x20 * s, 3, 1⟩
def SPAN_STATUS_MASTER (s : Nat) : Fld := ⟨0x503010 + 0x20 * s, 0, 6⟩
def SPAN_STATUS_COUNT (s : Nat) : Fld := ⟨0x503010 + 0x20 * s, 8, 6⟩
def SPAN_LATE_COUNT (s : Nat) : Fld := ⟨0x503014 + 0x20 * s, 0, 31⟩
/-! R172. -/
def L2_SRAM_WAYS : Fld := ⟨0x1600000, 0, 4⟩
def L2_STATUS_BUSY : Fld := ⟨0x1600004, 0, 1⟩
def L2_CE_COUNT : Fld := ⟨0x1600008, 0, 31⟩
def L2_UE_COUNT : Fld := ⟨0x160000C, 0, 31⟩
def L2_WAYMASK (c : Nat) : Fld := ⟨0x1600010 + 0x4 * c, 0, 16⟩
def L2_NC_BASE (n : Nat) : Fld := ⟨0x1600050 + 0x8 * n, 0, 20⟩
def L2_NC_LIMIT_LAST (n : Nat) : Fld := ⟨0x1600054 + 0x8 * n, 0, 20⟩
def L2_NC_LIMIT_EN (n : Nat) : Fld := ⟨0x1600054 + 0x8 * n, 31, 1⟩
def L2_L1_PARITY : Fld := ⟨0x1600070, 0, 31⟩
/-! R173. -/
def CORE_CTL_RUN (c : Nat) : Fld := ⟨0x1000 + 0x40 * c, 0, 1⟩
def CORE_STATE (c : Nat) : Fld := ⟨0x1004 + 0x40 * c, 0, 3⟩
def CORE_ENTRY_LO (c : Nat) : Fld := ⟨0x1008 + 0x40 * c, 0, 32⟩
def CORE_ENTRY_HI (c : Nat) : Fld := ⟨0x100C + 0x40 * c, 0, 8⟩
def CORE_WDOG_CFG (c : Nat) : Fld := ⟨0x1010 + 0x40 * c, 0, 24⟩
def CORE_WDOG_KICK (c : Nat) : Fld := ⟨0x1014 + 0x40 * c, 0, 8⟩
def CORE_LAST_PC_LO (c : Nat) : Fld := ⟨0x1018 + 0x40 * c, 0, 32⟩
def CORE_LAST_PC_HI (c : Nat) : Fld := ⟨0x101C + 0x40 * c, 0, 8⟩
/-! R222. -/
def SEQ_ACTIVE_LO : Fld := ⟨0x600000, 0, 32⟩
def SEQ_ACTIVE_HI : Fld := ⟨0x600004, 0, 16⟩
def SEQ_ECC_CE : Fld := ⟨0x600008, 0, 31⟩
def SEQ_HEAD_ALLOW_LO (c : Nat) : Fld := ⟨0x600100 + 0x8 * c, 0, 32⟩
def SEQ_HEAD_ALLOW_HI (c : Nat) : Fld := ⟨0x600104 + 0x8 * c, 0, 16⟩
/-! R223. -/
def SEQN_CTL_RUN (n : Nat) : Fld := ⟨0x601000 + 0x40 * n, 0, 1⟩
def SEQN_CTL_BUDGET_STOP (n : Nat) : Fld := ⟨0x601000 + 0x40 * n, 1, 1⟩
def SEQN_STATE (n : Nat) : Fld := ⟨0x601004 + 0x40 * n, 0, 3⟩
def SEQN_ENTRY (n : Nat) : Fld := ⟨0x601008 + 0x40 * n, 0, 14⟩
def SEQN_PC (n : Nat) : Fld := ⟨0x60100C + 0x40 * n, 0, 14⟩
def SEQN_FAULT_CAUSE (n : Nat) : Fld := ⟨0x601010 + 0x40 * n, 0, 8⟩
def SEQN_FAULT_FPC (n : Nat) : Fld := ⟨0x601010 + 0x40 * n, 16, 14⟩
def SEQN_FADDR_LO (n : Nat) : Fld := ⟨0x601014 + 0x40 * n, 0, 32⟩
def SEQN_FADDR_HI (n : Nat) : Fld := ⟨0x601018 + 0x40 * n, 0, 8⟩
def SEQN_BUDGET (n : Nat) : Fld := ⟨0x60101C + 0x40 * n, 0, 16⟩
def SEQN_WDOG (n : Nat) : Fld := ⟨0x601020 + 0x40 * n, 0, 4⟩
def SEQN_TRIG_ALLOW (n : Nat) : Fld := ⟨0x601024 + 0x40 * n, 0, 5⟩
def SEQN_BUDGET_COUNT (n : Nat) : Fld := ⟨0x601028 + 0x40 * n, 0, 31⟩
def SEQN_MAXRUN (n : Nat) : Fld := ⟨0x60102C + 0x40 * n, 0, 16⟩
def SEQN_LAST_WAIT (n : Nat) : Fld := ⟨0x601030 + 0x40 * n, 0, 32⟩
def SEQN_LATE_WAIT (n : Nat) : Fld := ⟨0x601034 + 0x40 * n, 0, 31⟩
def SEQN_FMARK (n : Nat) : Fld := ⟨0x601038 + 0x40 * n, 0, 8⟩
/-! R227. -/
def WIN_KIND (w : Nat) : Fld := ⟨0x720000 + 0x40 * w, 0, 3⟩
def WIN_BLEND (w : Nat) : Fld := ⟨0x720000 + 0x40 * w, 3, 1⟩
def WIN_GALPHA (w : Nat) : Fld := ⟨0x720000 + 0x40 * w, 4, 8⟩
def WIN_SRC (w : Nat) : Fld := ⟨0x720004 + 0x40 * w, 0, 12⟩
def WIN_HCOEF (w : Nat) : Fld := ⟨0x720004 + 0x40 * w, 12, 4⟩
def WIN_VCOEF (w : Nat) : Fld := ⟨0x720004 + 0x40 * w, 16, 4⟩
def WIN_SURF (w : Nat) : Fld := ⟨0x720008 + 0x40 * w, 0, 32⟩
def WIN_SWIDTH (w : Nat) : Fld := ⟨0x72000C + 0x40 * w, 0, 14⟩
def WIN_SHEIGHT (w : Nat) : Fld := ⟨0x72000C + 0x40 * w, 14, 13⟩
def WIN_SFMT (w : Nat) : Fld := ⟨0x72000C + 0x40 * w, 27, 4⟩
def WIN_CX (w : Nat) : Fld := ⟨0x720010 + 0x40 * w, 0, 14⟩
def WIN_CY (w : Nat) : Fld := ⟨0x720010 + 0x40 * w, 14, 13⟩
def WIN_CW (w : Nat) : Fld := ⟨0x720014 + 0x40 * w, 0, 14⟩
def WIN_CH (w : Nat) : Fld := ⟨0x720014 + 0x40 * w, 14, 13⟩
def WIN_DW (w : Nat) : Fld := ⟨0x720018 + 0x40 * w, 0, 13⟩
def WIN_DH (w : Nat) : Fld := ⟨0x720018 + 0x40 * w, 16, 13⟩
def WIN_X (w : Nat) : Fld := ⟨0x72001C + 0x40 * w, 0, 13⟩
def WIN_Y (w : Nat) : Fld := ⟨0x72001C + 0x40 * w, 16, 13⟩
def WIN_HEAD (w : Nat) : Fld := ⟨0x720020 + 0x40 * w, 0, 6⟩
def WIN_Z (w : Nat) : Fld := ⟨0x720020 + 0x40 * w, 8, 6⟩
def WIN_PLACED (w : Nat) : Fld := ⟨0x720020 + 0x40 * w, 14, 1⟩
def WIN_TONE_SDR (w : Nat) : Fld := ⟨0x720024 + 0x40 * w, 0, 5⟩
def WIN_TONE_PQ (w : Nat) : Fld := ⟨0x720024 + 0x40 * w, 8, 5⟩
def WIN_TONE_HLG (w : Nat) : Fld := ⟨0x720024 + 0x40 * w, 16, 5⟩
def WIN_DELAY (w : Nat) : Fld := ⟨0x720028 + 0x40 * w, 0, 24⟩
/-! R241. -/
def COPY_SRC (k : Nat) : Fld := ⟨0x820000 + 0x20 * k, 0, 12⟩
def COPY_ENABLE (k : Nat) : Fld := ⟨0x820000 + 0x20 * k, 12, 1⟩
def COPY_HCOEF (k : Nat) : Fld := ⟨0x820000 + 0x20 * k, 13, 4⟩
def COPY_VCOEF (k : Nat) : Fld := ⟨0x820000 + 0x20 * k, 17, 4⟩
def COPY_FMT (k : Nat) : Fld := ⟨0x820000 + 0x20 * k, 21, 4⟩
def COPY_SLOTS (k : Nat) : Fld := ⟨0x820000 + 0x20 * k, 25, 3⟩
def COPY_OW (k : Nat) : Fld := ⟨0x820004 + 0x20 * k, 0, 14⟩
def COPY_OH (k : Nat) : Fld := ⟨0x820004 + 0x20 * k, 14, 13⟩
def COPY_BASE (k : Nat) : Fld := ⟨0x820008 + 0x20 * k, 0, 32⟩
def COPY_TAGS (k : Nat) : Fld := ⟨0x82000C + 0x20 * k, 0, 32⟩
def COPY_MADE (k : Nat) : Fld := ⟨0x820010 + 0x20 * k, 0, 31⟩
def COPY_DROP (k : Nat) : Fld := ⟨0x820014 + 0x20 * k, 0, 31⟩
def COPY_STATE_WRITING (k : Nat) : Fld := ⟨0x820018 + 0x20 * k, 0, 3⟩
def COPY_STATE_BUSY (k : Nat) : Fld := ⟨0x820018 + 0x20 * k, 3, 1⟩
def COPY_STATE_NEWEST (k : Nat) : Fld := ⟨0x820018 + 0x20 * k, 4, 3⟩
/-! R256. -/
def COMP_PLACE_A : Fld := ⟨0x700000, 0, 32⟩
def COMP_PLACE_B : Fld := ⟨0x700004, 0, 32⟩
def COMP_PLACE_CTL_GO : Fld := ⟨0x700008, 0, 1⟩
def COMP_PLACE_CTL_STATUS : Fld := ⟨0x700008, 8, 3⟩
def COMP_REFUSE_COUNT : Fld := ⟨0x70000C, 0, 31⟩
def COMP_SLICE_LOAD_LOAD (c : Nat) : Fld := ⟨0x700040 + 0x4 * c, 0, 11⟩
def COMP_SLICE_LOAD_FENCED (c : Nat) : Fld := ⟨0x700040 + 0x4 * c, 12, 1⟩
/-! R257. -/
def CHEAD_BG (h : Nat) : Fld := ⟨0x701000 + 0x20 * h, 0, 30⟩
def CHEAD_NWIN (h : Nat) : Fld := ⟨0x701004 + 0x20 * h, 0, 7⟩
def CHEAD_PEAK (h : Nat) : Fld := ⟨0x701008 + 0x20 * h, 0, 17⟩
def CHEAD_ROWBYTES (h : Nat) : Fld := ⟨0x70100C + 0x20 * h, 0, 18⟩
def CHEAD_APPLY_STATUS_CODE (h : Nat) : Fld := ⟨0x701010 + 0x20 * h, 0, 4⟩
def CHEAD_APPLY_STATUS_REFUSED (h : Nat) : Fld := ⟨0x701010 + 0x20 * h, 4, 1⟩
def CHEAD_APPLY_STATUS_WINDOW (h : Nat) : Fld := ⟨0x701010 + 0x20 * h, 8, 11⟩
/-! R258. -/
def PIXP_COEF_LOAD_SET : Fld := ⟨0x800000, 0, 4⟩
def PIXP_COEF_LOAD_GO : Fld := ⟨0x800000, 8, 1⟩
def PIXP_COEF_LOAD_STATUS : Fld := ⟨0x800000, 16, 2⟩
def PIXP_COEF_LOAD_BAD_PHASE : Fld := ⟨0x800000, 24, 6⟩
def PIXP_COEF_VMASK : Fld := ⟨0x800004, 0, 16⟩
def PIXP_COPY_QUEUE : Fld := ⟨0x800008, 0, 10⟩
def PIXP_COPY_DROP : Fld := ⟨0x80000C, 0, 31⟩
def PIXP_COPY_MADE : Fld := ⟨0x800010, 0, 31⟩
def PIXP_COEF_STAGE (i : Nat) : Fld := ⟨0x800400 + 0x4 * i, 0, 32⟩
def PIXP_COEF_SET (s i : Nat) : Fld := ⟨0x810000 + 0x400 * s + 0x4 * i, 0, 32⟩
def PIXP_OUTLUT (h i : Nat) : Fld := ⟨0x830000 + 0x1800 * h + 0x4 * i, 0, 32⟩
/-! R259. -/
def PROFILE_PCTRL_CSC (p : Nat) : Fld := ⟨0x880000 + 0x4000 * p, 0, 2⟩
def PROFILE_PCTRL_TONE_EN (p : Nat) : Fld := ⟨0x880000 + 0x4000 * p, 2, 1⟩
def PROFILE_MATRIX (p m : Nat) : Fld := ⟨0x880010 + 0x4000 * p + 0x4 * m, 0, 16⟩
def PROFILE_KNOT (p n : Nat) : Fld := ⟨0x880400 + 0x4000 * p + 0x4 * n, 0, 16⟩
def PROFILE_LUT_R (p c : Nat) : Fld := ⟨0x881000 + 0x4000 * p + 0x4 * c, 0, 20⟩
def PROFILE_LUT_G (p c : Nat) : Fld := ⟨0x882000 + 0x4000 * p + 0x4 * c, 0, 20⟩
def PROFILE_LUT_B (p c : Nat) : Fld := ⟨0x883000 + 0x4000 * p + 0x4 * c, 0, 20⟩
/-! R262. -/
def CTX_CTRL_KIND (c : Nat) : Fld := ⟨0xA80000 + 0x80 * c, 0, 4⟩
def CTX_CTRL_OPEN (c : Nat) : Fld := ⟨0xA80000 + 0x80 * c, 4, 1⟩
def CTX_CTRL_CAPMODE (c : Nat) : Fld := ⟨0xA80000 + 0x80 * c, 5, 2⟩
def CTX_CTRL_DUAL (c : Nat) : Fld := ⟨0xA80000 + 0x80 * c, 7, 1⟩
def CTX_CTRL_HDREXT_ID (c : Nat) : Fld := ⟨0xA80000 + 0x80 * c, 8, 4⟩
def CTX_CTRL_KP_EN (c : Nat) : Fld := ⟨0xA80000 + 0x80 * c, 12, 1⟩
def CTX_CTRL_KP_FIR (c : Nat) : Fld := ⟨0xA80000 + 0x80 * c, 13, 1⟩
def CTX_CTRL_KP_RSIZE (c : Nat) : Fld := ⟨0xA80000 + 0x80 * c, 14, 1⟩
def CTX_CTRL_SSRC_FIXED (c : Nat) : Fld := ⟨0xA80000 + 0x80 * c, 15, 1⟩
def CTX_CTRL_SLOTS (c : Nat) : Fld := ⟨0xA80000 + 0x80 * c, 16, 5⟩
def CTX_CTRL_DEPTH10 (c : Nat) : Fld := ⟨0xA80000 + 0x80 * c, 21, 1⟩
def CTX_CTRL_PT_CHECK (c : Nat) : Fld := ⟨0xA80000 + 0x80 * c, 22, 1⟩
def CTX_CTRL_PIN (c : Nat) : Fld := ⟨0xA80000 + 0x80 * c, 23, 1⟩
def CTX_CTRL_HOME (c : Nat) : Fld := ⟨0xA80000 + 0x80 * c, 24, 4⟩
def CTX_STATUS_STATE (c : Nat) : Fld := ⟨0xA80004 + 0x80 * c, 0, 3⟩
def CTX_STATUS_CODE (c : Nat) : Fld := ⟨0xA80004 + 0x80 * c, 3, 5⟩
def CTX_STATUS_PIPE (c : Nat) : Fld := ⟨0xA80004 + 0x80 * c, 8, 4⟩
def CTX_STATUS_ANCHOR_OK (c : Nat) : Fld := ⟨0xA80004 + 0x80 * c, 12, 1⟩
def CTX_STATUS_IMPAIRED (c : Nat) : Fld := ⟨0xA80004 + 0x80 * c, 13, 1⟩
def CTX_STATUS_NET_A (c : Nat) : Fld := ⟨0xA80004 + 0x80 * c, 14, 1⟩
def CTX_STATUS_NET_B (c : Nat) : Fld := ⟨0xA80004 + 0x80 * c, 15, 1⟩
def CTX_SSRC (c : Nat) : Fld := ⟨0xA80008 + 0x80 * c, 0, 32⟩
def CTX_EXP_INT_US (c : Nat) : Fld := ⟨0xA8000C + 0x80 * c, 0, 24⟩
def CTX_PT (c : Nat) : Fld := ⟨0xA8000C + 0x80 * c, 24, 7⟩
def CTX_POOL (c : Nat) : Fld := ⟨0xA80010 + 0x80 * c, 0, 32⟩
def CTX_TAGS (c : Nat) : Fld := ⟨0xA80014 + 0x80 * c, 0, 32⟩
def CTX_MAX_W (c : Nat) : Fld := ⟨0xA80018 + 0x80 * c, 0, 14⟩
def CTX_MAX_H (c : Nat) : Fld := ⟨0xA80018 + 0x80 * c, 14, 13⟩
def CTX_DL_US (c : Nat) : Fld := ⟨0xA8001C + 0x80 * c, 0, 24⟩
def CTX_WIN (c : Nat) : Fld := ⟨0xA80020 + 0x80 * c, 0, 13⟩
def CTX_HOLD (c : Nat) : Fld := ⟨0xA80020 + 0x80 * c, 16, 16⟩
def CTX_KP_INT_MS (c : Nat) : Fld := ⟨0xA80024 + 0x80 * c, 0, 14⟩
def CTX_KP_HDR (c : Nat) : Fld := ⟨0xA80028 + 0x80 * c, 0, 32⟩
def CTX_PSET (c : Nat) : Fld := ⟨0xA8002C + 0x80 * c, 0, 32⟩
def CTX_PSET_LEN (c : Nat) : Fld := ⟨0xA80030 + 0x80 * c, 0, 16⟩
def CTX_ARR_OFS_US (c : Nat) : Fld := ⟨0xA80034 + 0x80 * c, 0, 24⟩
def CTX_ANCHOR_RTP (c : Nat) : Fld := ⟨0xA80038 + 0x80 * c, 0, 32⟩
def CTX_ANCHOR_TIME (c : Nat) : Nat := 0xA80040 + 0x80 * c
def CTX_SEQ (c : Nat) : Fld := ⟨0xA80048 + 0x80 * c, 0, 32⟩
def CTX_LISTED (c : Nat) : Fld := ⟨0xA8004C + 0x80 * c, 0, 32⟩
def CTX_NEWEST (c : Nat) : Fld := ⟨0xA80050 + 0x80 * c, 0, 5⟩
def CTX_DPB_USED (c : Nat) : Fld := ⟨0xA80050 + 0x80 * c, 8, 5⟩
def CTX_DEMAND (c : Nat) : Fld := ⟨0xA80050 + 0x80 * c, 16, 13⟩
def CTX_MEAS_INT_US (c : Nat) : Fld := ⟨0xA80054 + 0x80 * c, 0, 24⟩
def CTX_HIGHEST (c : Nat) : Fld := ⟨0xA80058 + 0x80 * c, 0, 16⟩
def CTX_FIR_SEQ (c : Nat) : Fld := ⟨0xA80058 + 0x80 * c, 16, 8⟩
def CTX_PKTS (c : Nat) : Fld := ⟨0xA8005C + 0x80 * c, 0, 31⟩
def CTX_LOST (c : Nat) : Fld := ⟨0xA80060 + 0x80 * c, 0, 31⟩
def CTX_DUP (c : Nat) : Fld := ⟨0xA80064 + 0x80 * c, 0, 31⟩
def CTX_LATE (c : Nat) : Fld := ⟨0xA80068 + 0x80 * c, 0, 31⟩
def CTX_PICS (c : Nat) : Fld := ⟨0xA8006C + 0x80 * c, 0, 31⟩
def CTX_IMPAIRED (c : Nat) : Fld := ⟨0xA80070 + 0x80 * c, 0, 31⟩
def CTX_MISS (c : Nat) : Fld := ⟨0xA80074 + 0x80 * c, 0, 31⟩
def CTX_KP_SENT (c : Nat) : Fld := ⟨0xA80078 + 0x80 * c, 0, 31⟩
def CTX_DROPS (c : Nat) : Fld := ⟨0xA8007C + 0x80 * c, 0, 31⟩
/-! R300. -/
def INTAKE_CTRL_PORT_EN : Fld := ⟨0xA00000, 0, 4⟩
def INTAKE_HOST_RING : Fld := ⟨0xA00004, 0, 7⟩
def INTAKE_HOST_EN : Fld := ⟨0xA00004, 8, 1⟩
def INTAKE_HOST_RTCP_COPY : Fld := ⟨0xA00004, 9, 1⟩
def INTAKE_UTC_TAI : Fld := ⟨0xA00008, 0, 8⟩
def INTAKE_PKT_BASE : Fld := ⟨0xA0000C, 0, 32⟩
def INTAKE_PKT_SIZE : Fld := ⟨0xA00010, 0, 11⟩
def INTAKE_PKT_FREE : Fld := ⟨0xA00014, 0, 20⟩
def INTAKE_BUF_RETURN : Fld := ⟨0xA00018, 0, 29⟩
def INTAKE_RULE_CMD_OP : Fld := ⟨0xA00020, 0, 2⟩
def INTAKE_RULE_CMD_GO : Fld := ⟨0xA00020, 4, 1⟩
def INTAKE_RULE_CMD_STATUS : Fld := ⟨0xA00020, 8, 3⟩
def INTAKE_RULE_CMD_INDEX : Fld := ⟨0xA00020, 16, 13⟩
def INTAKE_RULE_COUNT : Fld := ⟨0xA00024, 0, 14⟩
def INTAKE_RULE_STAGE (i : Nat) : Fld := ⟨0xA00040 + 0x4 * i, 0, 32⟩
def INTAKE_UNMATCHED : Fld := ⟨0xA00080, 0, 31⟩
def INTAKE_NOBUF : Fld := ⟨0xA00084, 0, 31⟩
def INTAKE_CSUM_BAD : Fld := ⟨0xA00088, 0, 31⟩
def INTAKE_HOST_DROP : Fld := ⟨0xA0008C, 0, 31⟩
def INTAKE_PORT_OFF : Fld := ⟨0xA00090, 0, 31⟩
def INTAKE_OPEN_VIDEO : Fld := ⟨0xA000A0, 0, 11⟩
def INTAKE_DECLARED : Fld := ⟨0xA000A4, 0, 16⟩
/-! R301. -/
def DEC_PIPE_EN : Fld := ⟨0xB00000, 0, 16⟩
def DEC_SLOW : Fld := ⟨0xB00004, 0, 16⟩
def DEC_FAILED : Fld := ⟨0xB00008, 0, 16⟩
def DEC_SLOW_CFG_THRESH : Fld := ⟨0xB0000C, 0, 8⟩
def DEC_SLOW_CFG_WINDOW : Fld := ⟨0xB0000C, 16, 8⟩
def DEC_CAPACITY : Fld := ⟨0xB00010, 0, 16⟩
def DEC_DEMAND : Fld := ⟨0xB00014, 0, 16⟩
def DEC_MIGRATIONS : Fld := ⟨0xB00018, 0, 31⟩
/-! R302. -/
def PIPE_STATE (p : Nat) : Fld := ⟨0xB00100 + 0x20 * p, 0, 3⟩
def PIPE_CONTEXTS (p : Nat) : Fld := ⟨0xB00100 + 0x20 * p, 8, 11⟩
def PIPE_RATE (p : Nat) : Fld := ⟨0xB00104 + 0x20 * p, 0, 10⟩
def PIPE_LOAD (p : Nat) : Fld := ⟨0xB00104 + 0x20 * p, 16, 10⟩
def PIPE_PICS (p : Nat) : Fld := ⟨0xB00108 + 0x20 * p, 0, 31⟩
def PIPE_MISS (p : Nat) : Fld := ⟨0xB0010C + 0x20 * p, 0, 31⟩
def PIPE_CURRENT (p : Nat) : Fld := ⟨0xB00110 + 0x20 * p, 0, 12⟩
/-! R323. -/
def CTXV_TXKIND (c : Nat) : Fld := ⟨0xA8000C + 0x80 * c, 0, 2⟩
def CTXV_PT (c : Nat) : Fld := ⟨0xA8000C + 0x80 * c, 8, 7⟩
def CTXV_NTPEXT (c : Nat) : Fld := ⟨0xA8000C + 0x80 * c, 15, 1⟩
def CTXV_NTPEXT_ID (c : Nat) : Fld := ⟨0xA8000C + 0x80 * c, 16, 4⟩
def CTXV_HDR_A (c : Nat) : Fld := ⟨0xA80010 + 0x80 * c, 0, 32⟩
def CTXV_HDR_B (c : Nat) : Fld := ⟨0xA80014 + 0x80 * c, 0, 32⟩
def CTXV_MAXPAY (c : Nat) : Fld := ⟨0xA80018 + 0x80 * c, 0, 16⟩
def CTXV_RTP_SEQ (c : Nat) : Fld := ⟨0xA8001C + 0x80 * c, 0, 16⟩
def CTXV_TS_OFS (c : Nat) : Fld := ⟨0xA80020 + 0x80 * c, 0, 32⟩
def CTXV_PACE (c : Nat) : Fld := ⟨0xA80024 + 0x80 * c, 0, 16⟩
def CTXV_KEYREQ_RX (c : Nat) : Fld := ⟨0xA80028 + 0x80 * c, 0, 31⟩
def CTXV_PORT_DROP (c : Nat) : Fld := ⟨0xA8002C + 0x80 * c, 0, 31⟩
/-! R327. -/
def ENC_PIPE_EN : Fld := ⟨0xC00000, 0, 8⟩
def ENC_FAILED : Fld := ⟨0xC00004, 0, 8⟩
def ENC_MOVES : Fld := ⟨0xC00008, 0, 31⟩
/-! R328. -/
def EPIPE_STATE (p : Nat) : Fld := ⟨0xC00100 + 0x20 * p, 0, 3⟩
def EPIPE_SESSIONS (p : Nat) : Fld := ⟨0xC00100 + 0x20 * p, 16, 16⟩
def EPIPE_LOAD (p : Nat) : Fld := ⟨0xC00104 + 0x20 * p, 0, 10⟩
def EPIPE_PICS (p : Nat) : Fld := ⟨0xC00108 + 0x20 * p, 0, 31⟩
/-! R329. -/
def SESS_CTL_ENABLE (v : Nat) : Fld := ⟨0xC01000 + 0x80 * v, 0, 1⟩
def SESS_CTL_CODEC (v : Nat) : Fld := ⟨0xC01000 + 0x80 * v, 1, 2⟩
def SESS_CTL_TRANSFER (v : Nat) : Fld := ⟨0xC01000 + 0x80 * v, 3, 2⟩
def SESS_CTL_KEY_REQ (v : Nat) : Fld := ⟨0xC01000 + 0x80 * v, 5, 1⟩
def SESS_CTL_PIN (v : Nat) : Fld := ⟨0xC01000 + 0x80 * v, 6, 1⟩
def SESS_CTL_HOME (v : Nat) : Fld := ⟨0xC01000 + 0x80 * v, 8, 3⟩
def SESS_CTL_CONTEXT (v : Nat) : Fld := ⟨0xC01000 + 0x80 * v, 16, 12⟩
def SESS_STATUS_STATE (v : Nat) : Fld := ⟨0xC01004 + 0x80 * v, 0, 3⟩
def SESS_STATUS_CODE (v : Nat) : Fld := ⟨0xC01004 + 0x80 * v, 3, 5⟩
def SESS_STATUS_PIPE (v : Nat) : Fld := ⟨0xC01004 + 0x80 * v, 8, 3⟩
def SESS_STATUS_KEY_PENDING (v : Nat) : Fld := ⟨0xC01004 + 0x80 * v, 11, 1⟩
def SESS_BITRATE (v : Nat) : Fld := ⟨0xC01008 + 0x80 * v, 0, 24⟩
def SESS_GOP (v : Nat) : Fld := ⟨0xC0100C + 0x80 * v, 0, 16⟩
def SESS_KEY_W (v : Nat) : Fld := ⟨0xC0100C + 0x80 * v, 16, 8⟩
def SESS_QPMIN (v : Nat) : Fld := ⟨0xC01010 + 0x80 * v, 0, 6⟩
def SESS_QPMAX (v : Nat) : Fld := ⟨0xC01010 + 0x80 * v, 8, 6⟩
def SESS_QP_INIT (v : Nat) : Fld := ⟨0xC01010 + 0x80 * v, 16, 6⟩
def SESS_IQP_OFS (v : Nat) : Fld := ⟨0xC01010 + 0x80 * v, 24, 4⟩
def SESS_KEY_MIN_MS (v : Nat) : Fld := ⟨0xC01014 + 0x80 * v, 0, 14⟩
def SESS_SLICE_ROWS (v : Nat) : Fld := ⟨0xC01018 + 0x80 * v, 0, 8⟩
def SESS_REF (v : Nat) : Fld := ⟨0xC0101C + 0x80 * v, 0, 32⟩
def SESS_DEBT (v : Nat) : Fld := ⟨0xC01020 + 0x80 * v, 0, 32⟩
def SESS_QP_PIC (v : Nat) : Fld := ⟨0xC01024 + 0x80 * v, 0, 6⟩
def SESS_LAST_BITS (v : Nat) : Fld := ⟨0xC01028 + 0x80 * v, 0, 32⟩
def SESS_LAST_BUDGET (v : Nat) : Fld := ⟨0xC0102C + 0x80 * v, 0, 32⟩
def SESS_PICS (v : Nat) : Fld := ⟨0xC01030 + 0x80 * v, 0, 31⟩
def SESS_KEYS (v : Nat) : Fld := ⟨0xC01034 + 0x80 * v, 0, 31⟩
def SESS_EXHAUST (v : Nat) : Fld := ⟨0xC01038 + 0x80 * v, 0, 31⟩
def SESS_ABANDON (v : Nat) : Fld := ⟨0xC0103C + 0x80 * v, 0, 31⟩
def SESS_LAST_RTP (v : Nat) : Fld := ⟨0xC01040 + 0x80 * v, 0, 32⟩
def SESS_LAST_TIME (v : Nat) : Nat := 0xC01048 + 0x80 * v
def SESS_FIR_SEQ_RX (v : Nat) : Fld := ⟨0xC01050 + 0x80 * v, 0, 8⟩
/-! R380. -/
def DRAVIO_CTRL_TWIN_ID : Fld := ⟨0xD00000, 0, 2⟩
def DRAVIO_UP_LO : Fld := ⟨0xD00004, 0, 32⟩
def DRAVIO_UP_HI : Fld := ⟨0xD00008, 0, 32⟩
def DRAVIO_LOSS_FILL : Fld := ⟨0xD0000C, 0, 24⟩
def DRAVIO_BACK_RING : Fld := ⟨0xD00010, 0, 7⟩
def DRAVIO_BACK_EN : Fld := ⟨0xD00010, 8, 1⟩
def DRAVIO_HOSTTX_RING : Fld := ⟨0xD00014, 0, 7⟩
def DRAVIO_HOSTTX_EN : Fld := ⟨0xD00014, 8, 1⟩
def DRAVIO_BACK_DROP : Fld := ⟨0xD00018, 0, 31⟩
def DRAVIO_OUTMAP_LEAD (h : Nat) : Fld := ⟨0xD00200 + 0x4 * h, 0, 6⟩
def DRAVIO_OUTMAP_HOP (h : Nat) : Fld := ⟨0xD00200 + 0x4 * h, 6, 3⟩
def DRAVIO_OUTMAP_EN (h : Nat) : Fld := ⟨0xD00200 + 0x4 * h, 15, 1⟩
def DRAVIO_OUTMAP_STATUS (h : Nat) : Fld := ⟨0xD00200 + 0x4 * h, 16, 2⟩
def DRAVIO_SENSEMAP_LANE (k : Nat) : Fld := ⟨0xD00300 + 0x4 * k, 0, 6⟩
def DRAVIO_SENSEMAP_HOP (k : Nat) : Fld := ⟨0xD00300 + 0x4 * k, 6, 3⟩
def DRAVIO_SENSEMAP_IDX (k : Nat) : Fld := ⟨0xD00300 + 0x4 * k, 9, 2⟩
def DRAVIO_SENSEMAP_EN (k : Nat) : Fld := ⟨0xD00300 + 0x4 * k, 15, 1⟩
/-! R381. -/
def LANE_CFG_ROLE (l : Nat) : Fld := ⟨0xD01000 + 0x80 * l, 0, 2⟩
def LANE_CFG_GSIZE (l : Nat) : Fld := ⟨0xD01000 + 0x80 * l, 2, 2⟩
def LANE_CFG_TXMAX (l : Nat) : Fld := ⟨0xD01000 + 0x80 * l, 4, 3⟩
def LANE_CFG_RXMAX (l : Nat) : Fld := ⟨0xD01000 + 0x80 * l, 8, 3⟩
def LANE_CFG_EN (l : Nat) : Fld := ⟨0xD01000 + 0x80 * l, 12, 1⟩
def LANE_CFG_CONTEXT (l : Nat) : Fld := ⟨0xD01000 + 0x80 * l, 16, 12⟩
def LANE_STATE_STAGE (l : Nat) : Fld := ⟨0xD01004 + 0x80 * l, 0, 4⟩
def LANE_STATE_TXRATE (l : Nat) : Fld := ⟨0xD01004 + 0x80 * l, 4, 3⟩
def LANE_STATE_RXRATE (l : Nat) : Fld := ⟨0xD01004 + 0x80 * l, 8, 3⟩
def LANE_STATE_RX_INVERTED (l : Nat) : Fld := ⟨0xD01004 + 0x80 * l, 11, 1⟩
def LANE_STATE_REVERSED (l : Nat) : Fld := ⟨0xD01004 + 0x80 * l, 12, 1⟩
def LANE_STATE_MEMBER (l : Nat) : Fld := ⟨0xD01004 + 0x80 * l, 13, 1⟩
def LANE_STATE_PCAP_VALID (l : Nat) : Fld := ⟨0xD01004 + 0x80 * l, 14, 1⟩
def LANE_STATE_FAILSTAGE (l : Nat) : Fld := ⟨0xD01004 + 0x80 * l, 16, 4⟩
def LANE_STATE_CEILING (l : Nat) : Fld := ⟨0xD01004 + 0x80 * l, 20, 3⟩
def LANE_STATE_HOPS_SEEN (l : Nat) : Fld := ⟨0xD01004 + 0x80 * l, 24, 8⟩
def LANE_PCAP0 (l : Nat) : Fld := ⟨0xD01008 + 0x80 * l, 0, 32⟩
def LANE_PCAP1 (l : Nat) : Fld := ⟨0xD0100C + 0x80 * l, 0, 32⟩
def LANE_PCAP2 (l : Nat) : Fld := ⟨0xD01010 + 0x80 * l, 0, 32⟩
def LANE_PCAP3 (l : Nat) : Fld := ⟨0xD01014 + 0x80 * l, 0, 32⟩
def LANE_HDR_ERR (l : Nat) : Fld := ⟨0xD01020 + 0x80 * l, 0, 31⟩
def LANE_PKT_ERR (l : Nat) : Fld := ⟨0xD01024 + 0x80 * l, 0, 31⟩
def LANE_STUFF_ERR (l : Nat) : Fld := ⟨0xD01028 + 0x80 * l, 0, 31⟩
def LANE_DOWN_COUNT (l : Nat) : Fld := ⟨0xD0102C + 0x80 * l, 0, 31⟩
def LANE_TWIN_A (l : Nat) : Fld := ⟨0xD01030 + 0x80 * l, 0, 31⟩
def LANE_TWIN_B (l : Nat) : Fld := ⟨0xD01034 + 0x80 * l, 0, 31⟩
def LANE_TWIN_NONE (l : Nat) : Fld := ⟨0xD01038 + 0x80 * l, 0, 31⟩
def LANE_IN_FRAMES (l : Nat) : Fld := ⟨0xD0103C + 0x80 * l, 0, 31⟩
def LANE_IN_DROP (l : Nat) : Fld := ⟨0xD01040 + 0x80 * l, 0, 31⟩
def LANE_IN_SPAN (l : Nat) : Fld := ⟨0xD01044 + 0x80 * l, 0, 24⟩
def LANE_TXEQ_SWING (l : Nat) : Fld := ⟨0xD01048 + 0x80 * l, 0, 5⟩
def LANE_TXEQ_PRE (l : Nat) : Fld := ⟨0xD01048 + 0x80 * l, 5, 5⟩
def LANE_TXEQ_POST (l : Nat) : Fld := ⟨0xD01048 + 0x80 * l, 10, 5⟩
def LANE_RXEQ_AUTO (l : Nat) : Fld := ⟨0xD0104C + 0x80 * l, 0, 1⟩
def LANE_RXEQ_CTLE (l : Nat) : Fld := ⟨0xD0104C + 0x80 * l, 1, 5⟩
def LANE_LOOP_MODE (l : Nat) : Fld := ⟨0xD01050 + 0x80 * l, 0, 2⟩
def LANE_LOOP_PRBS_GEN (l : Nat) : Fld := ⟨0xD01050 + 0x80 * l, 2, 1⟩
def LANE_LOOP_PRBS_CHK (l : Nat) : Fld := ⟨0xD01050 + 0x80 * l, 3, 1⟩
def LANE_PRBS_ERR (l : Nat) : Fld := ⟨0xD01054 + 0x80 * l, 0, 31⟩
def LANE_SKEW (l : Nat) : Fld := ⟨0xD01058 + 0x80 * l, 0, 16⟩
/-! R406. -/
def TIME_STATUS_SERVO : Fld := ⟨0x400000, 0, 3⟩
def TIME_STATUS_STEPPED : Fld := ⟨0x400000, 3, 1⟩
def TIME_STATUS_EPOCH : Fld := ⟨0x400000, 4, 2⟩
def TIME_STATUS_STEP_BUSY : Fld := ⟨0x400000, 6, 1⟩
def TIME_SERVO_CFG_EN : Fld := ⟨0x400004, 0, 1⟩
def TIME_SERVO_CFG_KP_SHIFT : Fld := ⟨0x400004, 8, 3⟩
def TIME_SERVO_CFG_KI_SHIFT : Fld := ⟨0x400004, 12, 3⟩
def TIME_SERVO_CFG_LOCK_NS : Fld := ⟨0x400004, 16, 16⟩
def TIME_SERVO_LIM_OUTLIER_US : Fld := ⟨0x400008, 0, 20⟩
def TIME_SERVO_LIM_SPREAD_US : Fld := ⟨0x400008, 20, 12⟩
def TIME_HOLD_MS : Fld := ⟨0x40000C, 0, 16⟩
def TIME_OFS_SAMPLE : Nat := 0x400010
def TIME_SAMPLE_AT : Nat := 0x400018
def TIME_SAMPLE_EPOCH : Fld := ⟨0x400020, 0, 2⟩
def TIME_FREQ : Fld := ⟨0x400024, 0, 32⟩
def TIME_RATE : Fld := ⟨0x400028, 0, 32⟩
def TIME_LAST_OFS : Fld := ⟨0x40002C, 0, 32⟩
def TIME_TIME64 : Nat := 0x400030
def TIME_STAMP32 : Fld := ⟨0x400038, 0, 32⟩
def TIME_REJECT : Fld := ⟨0x40003C, 0, 31⟩
def TIME_LAST_STEP : Nat := 0x400040
def TIME_STEP_COUNT : Fld := ⟨0x400048, 0, 31⟩
def TIME_PTP_RX_RING : Fld := ⟨0x40004C, 0, 7⟩
def TIME_PTP_RX_EN : Fld := ⟨0x40004C, 8, 1⟩
def TIME_MGMT_RX_RING : Fld := ⟨0x40004C, 16, 7⟩
def TIME_MGMT_RX_EN : Fld := ⟨0x40004C, 24, 1⟩
def TIME_HOSTTX_RING : Fld := ⟨0x400050, 0, 7⟩
def TIME_HOSTTX_EN : Fld := ⟨0x400050, 8, 1⟩
def TIME_TXDONE_RING : Fld := ⟨0x400050, 16, 7⟩
def TIME_TXDONE_EN : Fld := ⟨0x400050, 24, 1⟩
def TIME_RING_DROP : Fld := ⟨0x400054, 0, 31⟩
def TIME_MDIO_CMD_DATA : Fld := ⟨0x400058, 0, 16⟩
def TIME_MDIO_CMD_REG : Fld := ⟨0x400058, 16, 5⟩
def TIME_MDIO_CMD_PHY : Fld := ⟨0x400058, 21, 5⟩
def TIME_MDIO_CMD_OP : Fld := ⟨0x400058, 26, 2⟩
def TIME_MDIO_CMD_GO : Fld := ⟨0x400058, 31, 1⟩
def TIME_MGMT_CFG_EN : Fld := ⟨0x40005C, 0, 1⟩
def TIME_MGMT_CFG_SPEED : Fld := ⟨0x40005C, 1, 1⟩
def TIME_MGMT_CFG_TXDLY : Fld := ⟨0x40005C, 2, 1⟩
def TIME_MGMT_CFG_RXDLY : Fld := ⟨0x40005C, 3, 1⟩
def TIME_MGMT_CFG_LINK : Fld := ⟨0x40005C, 4, 1⟩
def TIME_MGMT_MAC_LO : Fld := ⟨0x400060, 0, 32⟩
def TIME_MGMT_MAC_HI : Fld := ⟨0x400064, 0, 16⟩
/-! R407. -/
def TTRIG_AT (n : Nat) : Nat := 0x400800 + 0x20 * n
def TTRIG_PERIOD (n : Nat) : Fld := ⟨0x400808 + 0x20 * n, 0, 32⟩
def TTRIG_CTL_TARGET (n : Nat) : Fld := ⟨0x40080C + 0x20 * n, 0, 8⟩
def TTRIG_CTL_EN (n : Nat) : Fld := ⟨0x40080C + 0x20 * n, 8, 1⟩
def TTRIG_CTL_STATUS (n : Nat) : Fld := ⟨0x40080C + 0x20 * n, 16, 3⟩
def TTRIG_ARG (n : Nat) : Fld := ⟨0x400810 + 0x20 * n, 0, 32⟩
def TTRIG_FIRED (n : Nat) : Fld := ⟨0x400814 + 0x20 * n, 0, 31⟩
def TTRIG_MISSED (n : Nat) : Fld := ⟨0x400818 + 0x20 * n, 0, 31⟩
/-! R408. -/
def PORT_CFG_EN (p : Nat) : Fld := ⟨0x401000 + 0x100 * p, 0, 1⟩
def PORT_CFG_SPEED (p : Nat) : Fld := ⟨0x401000 + 0x100 * p, 1, 1⟩
def PORT_CFG_FEC (p : Nat) : Fld := ⟨0x401000 + 0x100 * p, 2, 1⟩
def PORT_CFG_MC_ALL (p : Nat) : Fld := ⟨0x401000 + 0x100 * p, 3, 1⟩
def PORT_CFG_BCAST (p : Nat) : Fld := ⟨0x401000 + 0x100 * p, 4, 1⟩
def PORT_CFG_PTP (p : Nat) : Fld := ⟨0x401000 + 0x100 * p, 5, 1⟩
def PORT_STATUS_LINK (p : Nat) : Fld := ⟨0x401004 + 0x100 * p, 0, 1⟩
def PORT_STATUS_BLOCK_LOCK (p : Nat) : Fld := ⟨0x401004 + 0x100 * p, 1, 1⟩
def PORT_STATUS_FEC_LOCK (p : Nat) : Fld := ⟨0x401004 + 0x100 * p, 2, 1⟩
def PORT_STATUS_REMOTE_FAULT (p : Nat) : Fld := ⟨0x401004 + 0x100 * p, 3, 1⟩
def PORT_STATUS_LOCAL_FAULT (p : Nat) : Fld := ⟨0x401004 + 0x100 * p, 4, 1⟩
def PORT_MAC_LO (p : Nat) : Fld := ⟨0x401008 + 0x100 * p, 0, 32⟩
def PORT_MAC_HI (p : Nat) : Fld := ⟨0x40100C + 0x100 * p, 0, 16⟩
def PORT_MC_HASH (p i : Nat) : Fld := ⟨0x401010 + 0x100 * p + 0x4 * i, 0, 32⟩
def PORT_TS_RX_LAT (p : Nat) : Fld := ⟨0x401030 + 0x100 * p, 0, 16⟩
def PORT_TS_TX_LAT (p : Nat) : Fld := ⟨0x401034 + 0x100 * p, 0, 16⟩
def PORT_RX_FRAMES (p : Nat) : Fld := ⟨0x401040 + 0x100 * p, 0, 31⟩
def PORT_RX_FCS_ERR (p : Nat) : Fld := ⟨0x401044 + 0x100 * p, 0, 31⟩
def PORT_RX_LONG (p : Nat) : Fld := ⟨0x401048 + 0x100 * p, 0, 31⟩
def PORT_RX_FILTERED (p : Nat) : Fld := ⟨0x40104C + 0x100 * p, 0, 31⟩
def PORT_RX_PAUSE (p : Nat) : Fld := ⟨0x401050 + 0x100 * p, 0, 31⟩
def PORT_TX_FRAMES (p : Nat) : Fld := ⟨0x401054 + 0x100 * p, 0, 31⟩
def PORT_FEC_CORR (p : Nat) : Fld := ⟨0x401058 + 0x100 * p, 0, 31⟩
def PORT_FEC_UNCORR (p : Nat) : Fld := ⟨0x40105C + 0x100 * p, 0, 31⟩
def PORT_DOWN_COUNT (p : Nat) : Fld := ⟨0x401060 + 0x100 * p, 0, 31⟩
/-! R430. -/
def TOUCH_CTRL_RING : Fld := ⟨0xE00000, 0, 7⟩
def TOUCH_RING_DROP : Fld := ⟨0xE00004, 0, 31⟩
/-! R431. -/
def PANEL_CFG_EN (p : Nat) : Fld := ⟨0xE01000 + 0x100 * p, 0, 1⟩
def PANEL_CFG_WATER (p : Nat) : Fld := ⟨0xE01000 + 0x100 * p, 1, 1⟩
def PANEL_CFG_GUARD (p : Nat) : Fld := ⟨0xE01000 + 0x100 * p, 2, 1⟩
def PANEL_CFG_SWAP_XY (p : Nat) : Fld := ⟨0xE01000 + 0x100 * p, 3, 1⟩
def PANEL_CFG_FLIP_X (p : Nat) : Fld := ⟨0xE01000 + 0x100 * p, 4, 1⟩
def PANEL_CFG_FLIP_Y (p : Nat) : Fld := ⟨0xE01000 + 0x100 * p, 5, 1⟩
def PANEL_CFG_GUARD_HEAD (p : Nat) : Fld := ⟨0xE01000 + 0x100 * p, 8, 6⟩
def PANEL_CFG_NDRIVE (p : Nat) : Fld := ⟨0xE01000 + 0x100 * p, 16, 7⟩
def PANEL_CFG_NSENSE (p : Nat) : Fld := ⟨0xE01000 + 0x100 * p, 24, 7⟩
def PANEL_QUIET_QSTART (p : Nat) : Fld := ⟨0xE01004 + 0x100 * p, 0, 14⟩
def PANEL_QUIET_QEND (p : Nat) : Fld := ⟨0xE01004 + 0x100 * p, 16, 14⟩
def PANEL_THRESH_TOUCH (p : Nat) : Fld := ⟨0xE01008 + 0x100 * p, 0, 16⟩
def PANEL_THRESH_RELEASE (p : Nat) : Fld := ⟨0xE01008 + 0x100 * p, 16, 16⟩
def PANEL_THRESH2_SELF (p : Nat) : Fld := ⟨0xE0100C + 0x100 * p, 0, 16⟩
def PANEL_THRESH2_ANTI (p : Nat) : Fld := ⟨0xE0100C + 0x100 * p, 16, 16⟩
def PANEL_HOLD_S (p : Nat) : Fld := ⟨0xE01010 + 0x100 * p, 0, 10⟩
def PANEL_MOVE_MAX_MOVE (p : Nat) : Fld := ⟨0xE01014 + 0x100 * p, 0, 16⟩
def PANEL_MOVE_STILL (p : Nat) : Fld := ⟨0xE01014 + 0x100 * p, 16, 16⟩
def PANEL_STEP_STEP1_S (p : Nat) : Fld := ⟨0xE01018 + 0x100 * p, 0, 8⟩
def PANEL_STEP_STEP2_S (p : Nat) : Fld := ⟨0xE01018 + 0x100 * p, 8, 8⟩
def PANEL_STEP_STEP3_S (p : Nat) : Fld := ⟨0xE01018 + 0x100 * p, 16, 8⟩
def PANEL_STEP_BURST (p : Nat) : Fld := ⟨0xE01018 + 0x100 * p, 24, 4⟩
def PANEL_LIMITS_OPEN (p : Nat) : Fld := ⟨0xE0101C + 0x100 * p, 0, 16⟩
def PANEL_LIMITS_SHORT (p : Nat) : Fld := ⟨0xE0101C + 0x100 * p, 16, 16⟩
def PANEL_PROF_KIND (p j : Nat) : Fld := ⟨0xE01020 + 0x100 * p + 0x4 * j, 0, 1⟩
def PANEL_PROF_VALID (p j : Nat) : Fld := ⟨0xE01020 + 0x100 * p + 0x4 * j, 1, 1⟩
def PANEL_PROF_FREQ_KHZ (p j : Nat) : Fld := ⟨0xE01020 + 0x100 * p + 0x4 * j, 4, 10⟩
def PANEL_PROF_NINT (p j : Nat) : Fld := ⟨0xE01020 + 0x100 * p + 0x4 * j, 16, 6⟩
def PANEL_PROFDUR_DUR_US (p j : Nat) : Fld := ⟨0xE01030 + 0x100 * p + 0x4 * j, 0, 16⟩
def PANEL_STATE_PHASE (p : Nat) : Fld := ⟨0xE01040 + 0x100 * p, 0, 3⟩
def PANEL_STATE_RATE (p : Nat) : Fld := ⟨0xE01040 + 0x100 * p, 4, 2⟩
def PANEL_STATE_CAUSE (p : Nat) : Fld := ⟨0xE01040 + 0x100 * p, 6, 2⟩
def PANEL_STATE_NTOUCH (p : Nat) : Fld := ⟨0xE01040 + 0x100 * p, 8, 5⟩
def PANEL_FRAMES (p : Nat) : Fld := ⟨0xE01044 + 0x100 * p, 0, 31⟩
def PANEL_FRAME_ERR (p : Nat) : Fld := ⟨0xE01048 + 0x100 * p, 0, 31⟩
def PANEL_DECLINED (p : Nat) : Fld := ⟨0xE0104C + 0x100 * p, 0, 31⟩
def PANEL_GUARD_DECL (p : Nat) : Fld := ⟨0xE01050 + 0x100 * p, 0, 31⟩
def PANEL_RECAL (p : Nat) : Fld := ⟨0xE01054 + 0x100 * p, 0, 31⟩
def PANEL_ANTI (p : Nat) : Fld := ⟨0xE01058 + 0x100 * p, 0, 31⟩
def PANEL_OVERFLOW (p : Nat) : Fld := ⟨0xE0105C + 0x100 * p, 0, 31⟩
def PANEL_CMD_TEST (p : Nat) : Fld := ⟨0xE01060 + 0x100 * p, 0, 1⟩
def PANEL_CMD_RECOVER (p : Nat) : Fld := ⟨0xE01060 + 0x100 * p, 1, 1⟩
/-! R445. -/
def CTXR_FORMAT (c : Nat) : Fld := ⟨0xA8000C + 0x80 * c, 0, 2⟩
def CTXR_CHANNELS (c : Nat) : Fld := ⟨0xA8000C + 0x80 * c, 8, 5⟩
def CTXR_PT (c : Nat) : Fld := ⟨0xA8000C + 0x80 * c, 24, 7⟩
def CTXR_RATE_HZ (c : Nat) : Fld := ⟨0xA80010 + 0x80 * c, 0, 18⟩
def CTXR_BUF (c : Nat) : Fld := ⟨0xA80014 + 0x80 * c, 0, 32⟩
def CTXR_CAP_FRAMES (c : Nat) : Fld := ⟨0xA80018 + 0x80 * c, 0, 17⟩
def CTXR_TARGET_US (c : Nat) : Fld := ⟨0xA8001C + 0x80 * c, 0, 20⟩
def CTXR_WIN (c : Nat) : Fld := ⟨0xA80020 + 0x80 * c, 0, 13⟩
def CTXR_HOLD (c : Nat) : Fld := ⟨0xA80020 + 0x80 * c, 16, 16⟩
def CTXR_MAX_AGE_MS (c : Nat) : Fld := ⟨0xA80024 + 0x80 * c, 0, 16⟩
def CTXR_FILL_US (c : Nat) : Fld := ⟨0xA80028 + 0x80 * c, 0, 20⟩
def CTXR_UNDERRUN (c : Nat) : Fld := ⟨0xA8002C + 0x80 * c, 0, 31⟩
def CTXR_OVERRUN (c : Nat) : Fld := ⟨0xA80030 + 0x80 * c, 0, 31⟩
def CTXR_NONAUDIO (c : Nat) : Fld := ⟨0xA80034 + 0x80 * c, 0, 31⟩
/-! R448. -/
def CTXT_HDR_A (c : Nat) : Fld := ⟨0xA80010 + 0x80 * c, 0, 32⟩
def CTXT_HDR_B (c : Nat) : Fld := ⟨0xA80014 + 0x80 * c, 0, 32⟩
def CTXT_PORT (c : Nat) : Fld := ⟨0xA80018 + 0x80 * c, 0, 4⟩
def CTXT_FIRST_SLOT (c : Nat) : Fld := ⟨0xA80018 + 0x80 * c, 8, 4⟩
def CTXT_CHANNELS (c : Nat) : Fld := ⟨0xA80018 + 0x80 * c, 16, 5⟩
def CTXT_FORMAT (c : Nat) : Fld := ⟨0xA80018 + 0x80 * c, 24, 1⟩
def CTXT_RTP_SEQ (c : Nat) : Fld := ⟨0xA8001C + 0x80 * c, 0, 16⟩
def CTXT_TS_OFS (c : Nat) : Fld := ⟨0xA80020 + 0x80 * c, 0, 32⟩
def CTXT_FRAMES (c : Nat) : Fld := ⟨0xA80024 + 0x80 * c, 0, 10⟩
def CTXT_PORT_DROP (c : Nat) : Fld := ⟨0xA80028 + 0x80 * c, 0, 31⟩
/-! R452. -/
def AUDIO_MCLK_CFG : Fld := ⟨0xF00000, 0, 8⟩
def AUDIO_ACTIVE_TX : Fld := ⟨0xF00004, 0, 16⟩
def AUDIO_ACTIVE_RX : Fld := ⟨0xF00004, 16, 16⟩
def AUDIO_OPEN_AUDIO : Fld := ⟨0xF00008, 0, 10⟩
/-! R453. -/
def SIDE_CFG_EN (p r : Nat) : Fld := ⟨0xF01000 + 0x100 * p + 0x40 * r, 0, 1⟩
def SIDE_CFG_FORMAT (p r : Nat) : Fld := ⟨0xF01000 + 0x100 * p + 0x40 * r, 1, 1⟩
def SIDE_CFG_SLOTS (p r : Nat) : Fld := ⟨0xF01000 + 0x100 * p + 0x40 * r, 2, 4⟩
def SIDE_CFG_WIDTH (p r : Nat) : Fld := ⟨0xF01000 + 0x100 * p + 0x40 * r, 6, 2⟩
def SIDE_CFG_DELAY (p r : Nat) : Fld := ⟨0xF01000 + 0x100 * p + 0x40 * r, 8, 1⟩
def SIDE_CFG_BCLK_FALL (p r : Nat) : Fld := ⟨0xF01000 + 0x100 * p + 0x40 * r, 9, 1⟩
def SIDE_CFG_FS_INV (p r : Nat) : Fld := ⟨0xF01000 + 0x100 * p + 0x40 * r, 10, 1⟩
def SIDE_CFG_CLK (p r : Nat) : Fld := ⟨0xF01000 + 0x100 * p + 0x40 * r, 11, 2⟩
def SIDE_CFG_CLKREF (p r : Nat) : Fld := ⟨0xF01000 + 0x100 * p + 0x40 * r, 13, 5⟩
def SIDE_CFG_START (p r : Nat) : Fld := ⟨0xF01000 + 0x100 * p + 0x40 * r, 18, 1⟩
def SIDE_CFG_TRI (p r : Nat) : Fld := ⟨0xF01000 + 0x100 * p + 0x40 * r, 19, 1⟩
def SIDE_RATE_HZ (p r : Nat) : Fld := ⟨0xF01004 + 0x100 * p + 0x40 * r, 0, 18⟩
def SIDE_MASK (p r : Nat) : Fld := ⟨0xF01008 + 0x100 * p + 0x40 * r, 0, 16⟩
def SIDE_MASK_HOLD (p r : Nat) : Fld := ⟨0xF01008 + 0x100 * p + 0x40 * r, 16, 1⟩
def SIDE_MASK_LIVE (p r : Nat) : Fld := ⟨0xF0100C + 0x100 * p + 0x40 * r, 0, 16⟩
def SIDE_STATE (p r : Nat) : Fld := ⟨0xF01010 + 0x100 * p + 0x40 * r, 0, 2⟩
def SIDE_MEAS_HZ (p r : Nat) : Fld := ⟨0xF01014 + 0x100 * p + 0x40 * r, 0, 18⟩
def SIDE_FRAMES (p r : Nat) : Fld := ⟨0xF01018 + 0x100 * p + 0x40 * r, 0, 31⟩
def SIDE_SLIP_DROP (p r : Nat) : Fld := ⟨0xF0101C + 0x100 * p + 0x40 * r, 0, 31⟩
def SIDE_SLIP_REPEAT (p r : Nat) : Fld := ⟨0xF01020 + 0x100 * p + 0x40 * r, 0, 31⟩
def SIDE_UNDERRUN (p r : Nat) : Fld := ⟨0xF01024 + 0x100 * p + 0x40 * r, 0, 31⟩
def SIDE_OVERRUN (p r : Nat) : Fld := ⟨0xF01028 + 0x100 * p + 0x40 * r, 0, 31⟩
def SIDE_ROUTE_KIND (p k : Nat) : Fld := ⟨0xF01080 + 0x100 * p + 0x4 * k, 0, 2⟩
def SIDE_ROUTE_CONTEXT (p k : Nat) : Fld := ⟨0xF01080 + 0x100 * p + 0x4 * k, 2, 12⟩
def SIDE_ROUTE_PORT (p k : Nat) : Fld := ⟨0xF01080 + 0x100 * p + 0x4 * k, 14, 4⟩
def SIDE_ROUTE_CHAN (p k : Nat) : Fld := ⟨0xF01080 + 0x100 * p + 0x4 * k, 18, 4⟩
/-! R457. -/
def REGION_BASE_LO (g r : Nat) : Fld := ⟨0x1010000 + 0x10000 * g + 0x10 * r, 0, 32⟩
def REGION_BASE_HI (g r : Nat) : Fld := ⟨0x1010004 + 0x10000 * g + 0x10 * r, 0, 2⟩
def REGION_EN (g r : Nat) : Fld := ⟨0x1010004 + 0x10000 * g + 0x10 * r, 8, 1⟩
def REGION_PERM (g r : Nat) : Fld := ⟨0x1010004 + 0x10000 * g + 0x10 * r, 16, 6⟩
def REGION_LAST_LO (g r : Nat) : Fld := ⟨0x1010008 + 0x10000 * g + 0x10 * r, 0, 32⟩
def REGION_LAST_HI (g r : Nat) : Fld := ⟨0x101000C + 0x10000 * g + 0x10 * r, 0, 2⟩
/-! R485. -/
def PROT_CTRL_LOCKDOWN : Fld := ⟨0x1000000, 0, 1⟩
def PROT_ACT_SET : Fld := ⟨0x1000004, 0, 6⟩
def PROT_ACT_GO : Fld := ⟨0x1000004, 8, 1⟩
def PROT_ACT_STATUS : Fld := ⟨0x1000004, 16, 2⟩
def PROT_ACT_BAD_I : Fld := ⟨0x1000004, 20, 4⟩
def PROT_ACT_BAD_J : Fld := ⟨0x1000004, 24, 4⟩
def PROT_REFUSED : Fld := ⟨0x1000008, 0, 31⟩
def PROT_EPOCH_REFUSED : Fld := ⟨0x100000C, 0, 31⟩
def PROT_INFLIGHT_OLD : Fld := ⟨0x1000010, 0, 1⟩
def PROT_EPOCH (s : Nat) : Fld := ⟨0x1000100 + 0x4 * s, 0, 16⟩
def PROT_BIND (i : Nat) : Fld := ⟨0x1000400 + 0x4 * i, 0, 6⟩
/-! R486. -/
def RINGS_REFUSED : Fld := ⟨0x1100000, 0, 31⟩
def RINGS_ATTN_STATE (n : Nat) : Fld := ⟨0x1100010 + 0x4 * n, 0, 32⟩
def RINGS_BASE (k : Nat) : Fld := ⟨0x1101000 + 0x20 * k, 0, 32⟩
def RINGS_CFG_LOG2N (k : Nat) : Fld := ⟨0x1101004 + 0x20 * k, 0, 5⟩
def RINGS_CFG_ESIZE (k : Nat) : Fld := ⟨0x1101004 + 0x20 * k, 5, 3⟩
def RINGS_CFG_PMODE (k : Nat) : Fld := ⟨0x1101004 + 0x20 * k, 8, 1⟩
def RINGS_CFG_CMODE (k : Nat) : Fld := ⟨0x1101004 + 0x20 * k, 9, 1⟩
def RINGS_CFG_EN (k : Nat) : Fld := ⟨0x1101004 + 0x20 * k, 12, 1⟩
def RINGS_PUT (k : Nat) : Fld := ⟨0x1101008 + 0x20 * k, 0, 17⟩
def RINGS_GET (k : Nat) : Fld := ⟨0x110100C + 0x20 * k, 0, 17⟩
def RINGS_BELL_INDEX (k : Nat) : Fld := ⟨0x1101010 + 0x20 * k, 0, 17⟩
def RINGS_BELL_SIDE (k : Nat) : Fld := ⟨0x1101010 + 0x20 * k, 31, 1⟩
def RINGS_FILL (k : Nat) : Fld := ⟨0x1101014 + 0x20 * k, 0, 17⟩
def RINGS_ATTN_ROUTE (k : Nat) : Fld := ⟨0x1101018 + 0x20 * k, 0, 16⟩
def RINGS_ATTN_AMODE (k : Nat) : Fld := ⟨0x1101018 + 0x20 * k, 16, 2⟩
def RINGS_ATTN_AGE (k : Nat) : Fld := ⟨0x1101018 + 0x20 * k, 24, 8⟩
def RINGS_THRESH (k : Nat) : Fld := ⟨0x110101C + 0x20 * k, 0, 17⟩
/-! R487. -/
def CHK_STATE_QUEUED (u : Nat) : Fld := ⟨0x1201000 + 0x100 * u, 0, 5⟩
def CHK_STATE_BUSY (u : Nat) : Fld := ⟨0x1201000 + 0x100 * u, 8, 1⟩
def CHK_RING_RING (u : Nat) : Fld := ⟨0x1201004 + 0x100 * u, 0, 7⟩
def CHK_RING_EN (u : Nat) : Fld := ⟨0x1201004 + 0x100 * u, 8, 1⟩
def CHK_JOBS (u : Nat) : Fld := ⟨0x1201008 + 0x100 * u, 0, 31⟩
def CHK_MISMATCH (u : Nat) : Fld := ⟨0x120100C + 0x100 * u, 0, 31⟩
def CHK_ALIVE_ERR (u : Nat) : Fld := ⟨0x1201010 + 0x100 * u, 0, 31⟩
def CHK_REFUSED (u : Nat) : Fld := ⟨0x1201014 + 0x100 * u, 0, 31⟩
def CHK_CTX_STATE (u x : Nat) : Fld := ⟨0x1201040 + 0x100 * u + 0x8 * x, 0, 32⟩
def CHK_CTX_POLY (u x : Nat) : Fld := ⟨0x1201044 + 0x100 * u + 0x8 * x, 0, 2⟩
def CHK_CTX_VALID (u x : Nat) : Fld := ⟨0x1201044 + 0x100 * u + 0x8 * x, 8, 1⟩
def CHK_ACH_TX (c : Nat) : Fld := ⟨0x1208000 + 0x8 * c, 0, 16⟩
def CHK_ACH_WIN (c : Nat) : Fld := ⟨0x1208000 + 0x8 * c, 16, 8⟩
def CHK_ACH_RX (c : Nat) : Fld := ⟨0x1208004 + 0x8 * c, 0, 16⟩
def CHK_ACH_RX_VALID (c : Nat) : Fld := ⟨0x1208004 + 0x8 * c, 16, 1⟩
/-! R488. -/
def FAULT_CTRL_RING : Fld := ⟨0x1500000, 0, 7⟩
def FAULT_CTRL_EN : Fld := ⟨0x1500000, 8, 1⟩
def FAULT_QUEUED : Fld := ⟨0x1500004, 0, 9⟩
def FAULT_LOST : Fld := ⟨0x1500008, 0, 31⟩
def FAULT_SUPPRESSED : Fld := ⟨0x150000C, 0, 31⟩
def FAULT_CTR_CLEAR_BLOCK : Fld := ⟨0x1500010, 0, 5⟩
def FAULT_CTR_CLEAR_GO : Fld := ⟨0x1500010, 8, 1⟩
def FAULT_NEXT_RSEQ : Fld := ⟨0x1500014, 0, 16⟩
def FAULT_LAST_STATE_SUPPRESSED : Fld := ⟨0x1500018, 0, 1⟩
def FAULT_LAST (i : Nat) : Fld := ⟨0x1500020 + 0x4 * i, 0, 32⟩
def FAULT_CLASS_SEEN (n : Nat) : Fld := ⟨0x1500100 + 0x4 * n, 0, 32⟩
def FAULT_CLASS_COUNT (c : Nat) : Fld := ⟨0x1500400 + 0x4 * c, 0, 31⟩
/-! R521. -/
def PWR_STATUS_ON_HOLDUP : Fld := ⟨0x100000, 0, 1⟩
def PWR_STATUS_RT_AVAIL : Fld := ⟨0x100000, 1, 1⟩
def PWR_STATUS_IIN_LIMIT : Fld := ⟨0x100000, 2, 1⟩
def PWR_STATUS_THERM_CAP : Fld := ⟨0x100000, 3, 1⟩
def PWR_STATUS_START_STEP : Fld := ⟨0x100000, 4, 4⟩
def PWR_STATUS_SHED_LEVEL : Fld := ⟨0x100000, 8, 4⟩
def PWR_STATUS_STOP_CAUSE : Fld := ⟨0x100000, 12, 4⟩
def PWR_VIN_MV : Fld := ⟨0x100004, 0, 17⟩
def PWR_IIN_MA : Fld := ⟨0x100008, 0, 15⟩
def PWR_PIN : Fld := ⟨0x10000C, 0, 12⟩
def PWR_HU_MV : Fld := ⟨0x100010, 0, 17⟩
def PWR_HU_CAP : Fld := ⟨0x100014, 0, 14⟩
def PWR_HU_ENERGY : Fld := ⟨0x100018, 0, 16⟩
def PWR_VIN_WARN_CFG : Fld := ⟨0x10001C, 0, 13⟩
def PWR_CAP_SET : Fld := ⟨0x100020, 0, 8⟩
def PWR_CAP_EFF : Fld := ⟨0x100024, 0, 8⟩
def PWR_RT_CFG_RT_BUDGET : Fld := ⟨0x100028, 0, 7⟩
def PWR_RT_CFG_RT_DEC_SHARE : Fld := ⟨0x100028, 8, 3⟩
def PWR_RT_CFG_STOP_RESERVE : Fld := ⟨0x100028, 12, 4⟩
def PWR_RT_CFG_RT_EN : Fld := ⟨0x100028, 16, 1⟩
def PWR_CHG_CFG_CHG_W : Fld := ⟨0x10002C, 0, 6⟩
def PWR_SHED_CFG_DEC_MIN : Fld := ⟨0x100030, 0, 4⟩
def PWR_SHED_CFG_CORE_MIN : Fld := ⟨0x100030, 4, 2⟩
def PWR_CTRL_AUTO_RESTART : Fld := ⟨0x100034, 0, 1⟩
def PWR_CTRL_STOP : Fld := ⟨0x100034, 1, 1⟩
def PWR_CTRL_RESTART_T : Fld := ⟨0x100034, 8, 8⟩
def PWR_RAIL_OK : Fld := ⟨0x100038, 0, 12⟩
def PWR_RAIL_FAULT : Fld := ⟨0x10003C, 0, 12⟩
def PWR_RAIL_MV (r : Nat) : Fld := ⟨0x100040 + 0x4 * r, 0, 16⟩
def PWR_RAIL_CURRENT (r : Nat) : Fld := ⟨0x100040 + 0x4 * r, 16, 16⟩
def PWR_RT_COUNT : Fld := ⟨0x100080, 0, 31⟩
def PWR_RT_STOP_COUNT : Fld := ⟨0x100084, 0, 31⟩
def PWR_IIN_LIMIT_COUNT : Fld := ⟨0x100088, 0, 31⟩
def PWR_CAP_UNMET_COUNT : Fld := ⟨0x10008C, 0, 31⟩
def PWR_RT_LAST_MS : Fld := ⟨0x100090, 0, 16⟩
def PWR_RT_LAST_LEAST_HU : Fld := ⟨0x100090, 16, 16⟩
/-! R522. -/
def HLTH_TEMP_T : Fld := ⟨0x200000, 0, 12⟩
def HLTH_TEMP_SENSOR : Fld := ⟨0x200000, 16, 5⟩
def HLTH_STATUS_HIGH_WARN : Fld := ⟨0x200004, 0, 1⟩
def HLTH_STATUS_THROTTLE : Fld := ⟨0x200004, 1, 1⟩
def HLTH_STATUS_LOW_WARN : Fld := ⟨0x200004, 2, 1⟩
def HLTH_STATUS_LOW_HALT : Fld := ⟨0x200004, 3, 1⟩
def HLTH_STATUS_TOO_MANY : Fld := ⟨0x200004, 4, 1⟩
def HLTH_STATUS_LIFE_END : Fld := ⟨0x200004, 5, 1⟩
def HLTH_STATUS_DRIFT_WARN : Fld := ⟨0x200004, 6, 1⟩
def HLTH_EXCLUDED : Fld := ⟨0x200008, 0, 24⟩
def HLTH_FAILED : Fld := ⟨0x20000C, 0, 24⟩
def HLTH_THERM_CAP : Fld := ⟨0x200010, 0, 8⟩
def HLTH_WARM_CFG_WARM_W : Fld := ⟨0x200014, 0, 6⟩
def HLTH_THROTTLE_COUNT : Fld := ⟨0x200018, 0, 31⟩
def HLTH_SENSOR (i : Nat) : Fld := ⟨0x200040 + 0x4 * i, 0, 12⟩
def HLTH_PMON (m : Nat) : Fld := ⟨0x200100 + 0x4 * m, 0, 16⟩
def HLTH_DRIFT_WORST : Fld := ⟨0x200120, 0, 16⟩
def HLTH_EQ_HOURS : Fld := ⟨0x200140, 0, 32⟩
def HLTH_POWER_HOURS : Fld := ⟨0x200144, 0, 32⟩
def HLTH_RATE : Fld := ⟨0x200148, 0, 16⟩
def HLTH_REMAIN_H : Fld := ⟨0x20014C, 0, 32⟩
def HLTH_TBAND (b : Nat) : Fld := ⟨0x200150 + 0x4 * b, 0, 32⟩
def HLTH_VBAND (v : Nat) : Fld := ⟨0x200170 + 0x4 * v, 0, 32⟩
def HLTH_LEDGER_BASE : Fld := ⟨0x200190, 0, 32⟩
def HLTH_LEDGER_CTRL_EN : Fld := ⟨0x200194, 0, 1⟩
def HLTH_LEDGER_CTRL_SAVE : Fld := ⟨0x200194, 1, 1⟩
def HLTH_LEDGER_CTRL_STATUS : Fld := ⟨0x200194, 8, 2⟩
def HLTH_LEDGER_CTRL_SEQ : Fld := ⟨0x200194, 16, 16⟩
/-! R546. -/
def TEST_STATUS_STATE : Fld := ⟨0x1300000, 0, 3⟩
def TEST_STATUS_UNIT : Fld := ⟨0x1300000, 8, 8⟩
def TEST_IST_CMD_UNIT : Fld := ⟨0x1300004, 0, 8⟩
def TEST_IST_CMD_GO : Fld := ⟨0x1300004, 8, 1⟩
def TEST_IST_CMD_STATUS : Fld := ⟨0x1300004, 16, 2⟩
def TEST_IST_CMD_CODE : Fld := ⟨0x1300004, 24, 4⟩
def TEST_COND_CLK_OK : Fld := ⟨0x1300008, 0, 1⟩
def TEST_COND_RAIL_OK : Fld := ⟨0x1300008, 1, 1⟩
def TEST_FUSE_CMD_OP : Fld := ⟨0x130000C, 0, 2⟩
def TEST_FUSE_CMD_UNIT : Fld := ⟨0x130000C, 8, 8⟩
def TEST_FUSE_CMD_GO : Fld := ⟨0x130000C, 16, 1⟩
def TEST_FUSE_CMD_STATUS : Fld := ⟨0x130000C, 17, 2⟩
def TEST_FUSE_CMD_CODE : Fld := ⟨0x130000C, 20, 4⟩
def TEST_SRAM_FUSED : Fld := ⟨0x1300010, 0, 9⟩
def TEST_SRAM_SOFT : Fld := ⟨0x1300014, 0, 11⟩
def TEST_PPR_CMD_CHANNEL : Fld := ⟨0x1300020, 0, 5⟩
def TEST_PPR_CMD_BANK : Fld := ⟨0x1300020, 5, 4⟩
def TEST_PPR_CMD_ROW : Fld := ⟨0x1300020, 9, 18⟩
def TEST_PPR_CMD_GO : Fld := ⟨0x1300020, 27, 1⟩
def TEST_PPR_CMD_STATUS : Fld := ⟨0x1300020, 28, 2⟩
def TEST_SRAM_RESERVE (n : Nat) : Fld := ⟨0x1300100 + 0x4 * n, 0, 32⟩
def TEST_RESULT_RESULT (u : Nat) : Fld := ⟨0x1300200 + 0x4 * u, 0, 3⟩
def TEST_RESULT_IN_SERVICE (u : Nat) : Fld := ⟨0x1300200 + 0x4 * u, 3, 1⟩
def TEST_RESULT_DETAIL (u : Nat) : Fld := ⟨0x1300200 + 0x4 * u, 8, 8⟩
def TEST_SOFT (n : Nat) : Fld := ⟨0x1300600 + 0x4 * n, 0, 32⟩
def TEST_DRAM_FAIL (n : Nat) : Fld := ⟨0x1300A00 + 0x4 * n, 0, 32⟩
def TEST_FUSE_REC (r : Nat) : Fld := ⟨0x1300C00 + 0x4 * r, 0, 32⟩
def TEST_FENCE_FUSE_UNIT (f : Nat) : Fld := ⟨0x1301000 + 0x4 * f, 0, 8⟩
def TEST_FENCE_FUSE_VALID (f : Nat) : Fld := ⟨0x1301000 + 0x4 * f, 8, 1⟩
/-! R547. -/
def SYS_MODE_MODE : Fld := ⟨0x0, 0, 4⟩
def SYS_MODE_PREV : Fld := ⟨0x0, 4, 4⟩
def SYS_MODE_REQ_REQ : Fld := ⟨0x4, 0, 4⟩
def SYS_MODE_REQ_STATUS : Fld := ⟨0x4, 16, 2⟩
def SYS_DEGRADED_FENCED : Fld := ⟨0x8, 0, 1⟩
def SYS_DEGRADED_FAILED : Fld := ⟨0x8, 1, 1⟩
def SYS_DEGRADED_TEST : Fld := ⟨0x8, 2, 1⟩
def SYS_DEGRADED_TOO_FEW : Fld := ⟨0x8, 3, 1⟩
def SYS_DEGRADED_SAMPLE : Fld := ⟨0x8, 4, 1⟩
def SYS_RESET_REQ_KEY : Fld := ⟨0xC, 0, 16⟩
def SYS_BOOT_STATUS_SLOT : Fld := ⟨0x10, 0, 2⟩
def SYS_BOOT_STATUS_SECURE : Fld := ⟨0x10, 2, 1⟩
def SYS_BOOT_STATUS_RESULT_A : Fld := ⟨0x10, 4, 4⟩
def SYS_BOOT_STATUS_RESULT_B : Fld := ⟨0x10, 8, 4⟩
def SYS_BOOT_STATUS_READ_MODE : Fld := ⟨0x10, 12, 3⟩
def SYS_BOOT_CONFIRM : Fld := ⟨0x14, 0, 16⟩
def SYS_BOOT_WDOG_S : Fld := ⟨0x18, 0, 16⟩
def SYS_BOOT_STATE_LAST_SLOT : Fld := ⟨0x1C, 0, 2⟩
def SYS_BOOT_STATE_CONFIRMED : Fld := ⟨0x1C, 2, 1⟩
def SYS_BOOT_STATE_RETRY : Fld := ⟨0x1C, 3, 1⟩
def SYS_IMAGE_VERSION : Fld := ⟨0x20, 0, 32⟩
def SYS_BOOT_CORE : Fld := ⟨0x24, 0, 4⟩
def SYS_MODE_CHANGES : Fld := ⟨0x28, 0, 31⟩
def SYS_FENCE_DEC : Fld := ⟨0x40, 0, 16⟩
def SYS_FENCE_ENC : Fld := ⟨0x44, 0, 8⟩
def SYS_FENCE_CORE : Fld := ⟨0x48, 0, 16⟩
def SYS_FENCE_SLICE : Fld := ⟨0x4C, 0, 10⟩
def SYS_FENCE_LANE_LO : Fld := ⟨0x50, 0, 32⟩
def SYS_FENCE_LANE_HI : Fld := ⟨0x54, 0, 32⟩
def SYS_FENCE_CHK : Fld := ⟨0x58, 0, 8⟩
def SYS_FENCE_AUDIO : Fld := ⟨0x58, 8, 16⟩
def SYS_FENCE_TOUCH : Fld := ⟨0x58, 24, 2⟩
def SYS_AVAIL_DEC_PIPES : Fld := ⟨0x60, 0, 8⟩
def SYS_AVAIL_ENC_PIPES : Fld := ⟨0x60, 8, 8⟩
def SYS_AVAIL_SLICES : Fld := ⟨0x60, 16, 8⟩
def SYS_AVAIL_SCONCE : Fld := ⟨0x60, 24, 8⟩
def SYS_SRAM_OUT : Fld := ⟨0x64, 0, 9⟩

end F

/-- Registers of CLK. -/
def rowsClk : List RegRow := [
  ⟨0x0, 0x0, 1, 0x0, 1, 0x0, 0x0, 0x0, 0x0, false⟩,
  ⟨0x4, 0x0, 1, 0x0, 1, 0x0, 0x0, 0x1FFFF, 0x0, false⟩,
  ⟨0x8, 0x0, 1, 0x0, 1, 0x0, 0x1, 0x0, 0x1, false⟩,
  ⟨0xC, 0x0, 1, 0x0, 1, 0x0, 0x1, 0x0, 0x0, false⟩,
  ⟨0x40, 0x4, 8, 0x0, 1, 0x0, 0x0, 0x0, 0x0, false⟩]

/-- Registers of MEMC. -/
def rowsMemc : List RegRow := [
  ⟨0x0, 0x0, 1, 0x0, 1, 0x0, 0x0, 0x0, 0x0, false⟩,
  ⟨0x4, 0x0, 1, 0x0, 1, 0x0, 0x0, 0x0, 0x0, true⟩,
  ⟨0x8, 0x0, 1, 0x0, 1, 0x0, 0x0, 0x0, 0x0, true⟩,
  ⟨0xC, 0x0, 1, 0x0, 1, 0x0, 0x1FF, 0x0, 0x118, false⟩,
  ⟨0x10, 0x0, 1, 0x0, 1, 0x0, 0x0, 0x0, 0x0, false⟩,
  ⟨0x14, 0x0, 1, 0x0, 1, 0x0, 0x0, 0x0, 0x0, true⟩,
  ⟨0x18, 0x0, 1, 0x0, 1, 0x0, 0x0, 0x0, 0x0, true⟩]

/-- Registers of SYS. -/
def rowsSys : List RegRow := [
  ⟨0x100, 0x0, 1, 0x0, 1, 0x0, 0x0, 0x0, 0x5E1C0400, false⟩,
  ⟨0x104, 0x0, 1, 0x0, 1, 0x0, 0x0, 0x0, 0x30101020, false⟩,
  ⟨0x108, 0x0, 1, 0x0, 1, 0x0, 0x0, 0x0, 0x100A0810, false⟩,
  ⟨0x10C, 0x0, 1, 0x0, 1, 0x0, 0x0, 0x0, 0x20100440, false⟩,
  ⟨0x110, 0x0, 1, 0x0, 1, 0x0, 0x0, 0x0, 0x8001000, false⟩,
  ⟨0x114, 0x0, 1, 0x0, 1, 0x0, 0x0, 0x0, 0x400040, false⟩,
  ⟨0x1000, 0x40, 16, 0x0, 1, 0x0, 0x1, 0x0, 0x0, false⟩,
  ⟨0x1004, 0x40, 16, 0x0, 1, 0x0, 0x0, 0x0, 0x0, false⟩,
  ⟨0x1008, 0x40, 16, 0x0, 1, 0x0, 0xFFFFFFFF, 0x0, 0x0, false⟩,
  ⟨0x100C, 0x40, 16, 0x0, 1, 0x0, 0xFF, 0x0, 0x0, false⟩,
  ⟨0x1010, 0x40, 16, 0x0, 1, 0x0, 0xFFFFFF, 0x0, 0x0, false⟩,
  ⟨0x1014, 0x40, 16, 0x0, 1, 0x0, 0x0, 0x0, 0x0, false⟩,
  ⟨0x1018, 0x40, 16, 0x0, 1, 0x0, 0x0, 0x0, 0x0, false⟩,
  ⟨0x101C, 0x40, 16, 0x0, 1, 0x0, 0x0, 0x0, 0x0, false⟩,
  ⟨0x0, 0x0, 1, 0x0, 1, 0x0, 0x0, 0x0, 0x0, false⟩,
  ⟨0x4, 0x0, 1, 0x0, 1, 0x0, 0xF, 0x0, 0x0, false⟩,
  ⟨0x8, 0x0, 1, 0x0, 1, 0x0, 0x0, 0x0, 0x0, false⟩,
  ⟨0xC, 0x0, 1, 0x0, 1, 0x0, 0x0, 0x0, 0x0, false⟩,
  ⟨0x10, 0x0, 1, 0x0, 1, 0x0, 0x0, 0x0, 0x2, false⟩,
  ⟨0x14, 0x0, 1, 0x0, 1, 0x0, 0x0, 0x0, 0x0, false⟩,
  ⟨0x18, 0x0, 1, 0x0, 1, 0x0, 0xFFFF, 0x0, 0x1E, false⟩,
  ⟨0x1C, 0x0, 1, 0x0, 1, 0x0, 0x0, 0x0, 0x2, false⟩,
  ⟨0x20, 0x0, 1, 0x0, 1, 0x0, 0x0, 0x0, 0x0, false⟩,
  ⟨0x24, 0x0, 1, 0x0, 1, 0x0, 0x0, 0x0, 0x0, false⟩,
  ⟨0x28, 0x0, 1, 0x0, 1, 0x0, 0x0, 0x0, 0x0, true⟩,
  ⟨0x40, 0x0, 1, 0x0, 1, 0x0, 0xFFFF, 0x0, 0x0, false⟩,
  ⟨0x44, 0x0, 1, 0x0, 1, 0x0, 0xFF, 0x0, 0x0, false⟩,
  ⟨0x48, 0x0, 1, 0x0, 1, 0x0, 0xFFFF, 0x0, 0x0, false⟩,
  ⟨0x4C, 0x0, 1, 0x0, 1, 0x0, 0x3FF, 0x0, 0x0, false⟩,
  ⟨0x50, 0x0, 1, 0x0, 1, 0x0, 0xFFFFFFFF, 0x0, 0x0, false⟩,
  ⟨0x54, 0x0, 1, 0x0, 1, 0x0, 0xFFFFFFFF, 0x0, 0x0, false⟩,
  ⟨0x58, 0x0, 1, 0x0, 1, 0x0, 0x3FFFFFF, 0x0, 0x0, false⟩,
  ⟨0x60, 0x0, 1, 0x0, 1, 0x0, 0x0, 0x0, 0x100A0810, false⟩,
  ⟨0x64, 0x0, 1, 0x0, 1, 0x0, 0x0, 0x0, 0x0, false⟩]

/-- Registers of COMP. -/
def rowsComp : List RegRow := [
  ⟨0x20030, 0x40, 2048, 0x0, 1, 0x3FFFFFF, 0x0, 0x0, 0x0, false⟩,
  ⟨0x20034, 0x40, 2048, 0x0, 1, 0x3FFFFFF, 0x0, 0x0, 0x0, false⟩,
  ⟨0x20038, 0x40, 2048, 0x0, 1, 0x3FFF1FFF, 0x0, 0x0, 0x0, false⟩,
  ⟨0x2003C, 0x40, 2048, 0x0, 1, 0x1, 0x0, 0x0, 0x0, false⟩,
  ⟨0x20000, 0x40, 2048, 0x0, 1, 0xFFF, 0x0, 0x0, 0xFF0, false⟩,
  ⟨0x20004, 0x40, 2048, 0x0, 1, 0xFFFFF, 0x0, 0x0, 0x0, false⟩,
  ⟨0x20008, 0x40, 2048, 0x0, 1, 0xFFFFFFFF, 0x0, 0x0, 0x0, false⟩,
  ⟨0x2000C, 0x40, 2048, 0x0, 1, 0x7FFFFFFF, 0x0, 0x0, 0x0, false⟩,
  ⟨0x20010, 0x40, 2048, 0x0, 1, 0x7FFFFFF, 0x0, 0x0, 0x0, false⟩,
  ⟨0x20014, 0x40, 2048, 0x0, 1, 0x7FFFFFF, 0x0, 0x0, 0x0, false⟩,
  ⟨0x20018, 0x40, 2048, 0x0, 1, 0x1FFF1FFF, 0x0, 0x0, 0x0, false⟩,
  ⟨0x2001C, 0x40, 2048, 0x0, 1, 0x0, 0x0, 0x0, 0x0, false⟩,
  ⟨0x20020, 0x40, 2048, 0x0, 1, 0x0, 0x0, 0x0, 0x0, false⟩,
  ⟨0x20024, 0x40, 2048, 0x0, 1, 0x1F1F1F, 0x0, 0x0, 0x0, false⟩,
  ⟨0x20028, 0x40, 2048, 0x0, 1, 0xFFFFFF, 0x0, 0x0, 0x0, false⟩,
  ⟨0x0, 0x0, 1, 0x0, 1, 0x0, 0xFFFFFFFF, 0x0, 0x0, false⟩,
  ⟨0x4, 0x0, 1, 0x0, 1, 0x0, 0xFFFFFFFF, 0x0, 0x0, false⟩,
  ⟨0x8, 0x0, 1, 0x0, 1, 0x0, 0x0, 0x0, 0x0, false⟩,
  ⟨0xC, 0x0, 1, 0x0, 1, 0x0, 0x0, 0x0, 0x0, true⟩,
  ⟨0x40, 0x4, 10, 0x0, 1, 0x0, 0x0, 0x0, 0x0, false⟩,
  ⟨0x1000, 0x20, 48, 0x0, 1, 0x3FFFFFFF, 0x0, 0x0, 0x0, false⟩,
  ⟨0x1004, 0x20, 48, 0x0, 1, 0x0, 0x0, 0x0, 0x0, false⟩,
  ⟨0x1008, 0x20, 48, 0x0, 1, 0x0, 0x0, 0x0, 0x0, false⟩,
  ⟨0x100C, 0x20, 48, 0x0, 1, 0x0, 0x0, 0x0, 0x0, false⟩,
  ⟨0x1010, 0x20, 48, 0x0, 1, 0x0, 0x0, 0x10, 0x0, false⟩]

/-- Registers of VIGIL. -/
def rowsVigil : List RegRow := [
  ⟨0x0, 0x0, 1, 0x0, 1, 0xF00, 0x3, 0x0, 0x0, false⟩,
  ⟨0x4, 0x0, 1, 0x0, 1, 0x0, 0x0, 0x0, 0xC0, false⟩,
  ⟨0x8, 0x0, 1, 0x0, 1, 0x0, 0x0, 0x0, 0x0, true⟩,
  ⟨0xC, 0x0, 1, 0x0, 1, 0x0, 0x0, 0x0, 0x0, true⟩,
  ⟨0x10, 0x0, 1, 0x0, 1, 0x0, 0x0, 0x0, 0x0, true⟩,
  ⟨0x14, 0x0, 1, 0x0, 1, 0x0, 0x0, 0x0, 0x0, true⟩,
  ⟨0x18, 0x0, 1, 0x0, 1, 0x0, 0x0, 0x0, 0x0, true⟩,
  ⟨0x1C, 0x0, 1, 0x0, 1, 0x0, 0x0, 0x0, 0x0, true⟩,
  ⟨0x20, 0x0, 1, 0x0, 1, 0x0, 0x0, 0x0, 0x0, true⟩,
  ⟨0x24, 0x0, 1, 0x0, 1, 0x0, 0xFF, 0x0, 0x8, false⟩,
  ⟨0x28, 0x0, 1, 0x0, 1, 0x3FF, 0x0, 0x0, 0x0, false⟩,
  ⟨0x2C, 0x0, 1, 0x0, 1, 0x0, 0xFF, 0x0, 0x40, false⟩,
  ⟨0x30, 0x0, 1, 0x0, 1, 0x0, 0x37FF, 0x0, 0x0, false⟩,
  ⟨0x40, 0x0, 1, 0x0, 1, 0x0, 0x3FFFFFF, 0x0, 0x3938700, false⟩,
  ⟨0x44, 0x0, 1, 0x0, 1, 0x0, 0x3FFFFFF, 0x0, 0x3938700, false⟩,
  ⟨0x48, 0x0, 1, 0x0, 1, 0x0, 0x1FFF, 0x0, 0x1000, false⟩,
  ⟨0x84, 0x4, 7, 0x0, 1, 0x0, 0xFFFFFF, 0x0, 0x0, false⟩,
  ⟨0xA0, 0x0, 1, 0x0, 1, 0x0, 0xFFFFFF, 0x0, 0x202020, false⟩,
  ⟨0xA4, 0x0, 1, 0x0, 1, 0x0, 0xFFFFFF, 0x0, 0xF0D000, false⟩,
  ⟨0x100, 0x4, 48, 0x0, 1, 0x0, 0x0, 0x0, 0x0, false⟩,
  ⟨0x10000, 0x10, 2048, 0x0, 1, 0x0, 0x0, 0x0, 0x0, false⟩,
  ⟨0x10004, 0x10, 2048, 0x0, 1, 0x0, 0x0, 0x0, 0x0, false⟩,
  ⟨0x10008, 0x10, 2048, 0x0, 1, 0x0, 0x0, 0x0, 0x0, false⟩,
  ⟨0x1000C, 0x10, 2048, 0x0, 1, 0x0, 0x0, 0x0, 0x0, false⟩]

/-- Registers of RASTER. -/
def rowsRaster : List RegRow := [
  ⟨0x0, 0x0, 1, 0x0, 1, 0x0, 0xFF0F, 0x0, 0xA00, false⟩,
  ⟨0x4, 0x0, 1, 0x0, 1, 0x0, 0x0, 0x0, 0x0, false⟩,
  ⟨0x8, 0x0, 1, 0x0, 1, 0x0, 0x0, 0x0, 0x0, false⟩,
  ⟨0xC, 0x0, 1, 0x0, 1, 0x0, 0x0, 0x0, 0x0, false⟩,
  ⟨0x10, 0x0, 1, 0x0, 1, 0x0, 0xFFF0FFF, 0x0, 0xFA001F, false⟩,
  ⟨0x14, 0x0, 1, 0x0, 1, 0x0, 0x0, 0x0, 0xFFF, false⟩,
  ⟨0x18, 0x0, 1, 0x0, 1, 0x0, 0x0, 0x0, 0x0, true⟩,
  ⟨0x1000, 0x80, 48, 0x0, 1, 0x0, 0x1FFF1FFF, 0x0, 0x11300F00, false⟩,
  ⟨0x1004, 0x80, 48, 0x0, 1, 0x0, 0x3FFF1FFF, 0x0, 0x8CA0870, false⟩,
  ⟨0x1008, 0x80, 48, 0x0, 1, 0x0, 0xFFFFFFFF, 0x0, 0x1003C, false⟩,
  ⟨0x100C, 0x80, 48, 0x0, 1, 0x0, 0x3FFF0037, 0x0, 0x4, false⟩,
  ⟨0x1010, 0x80, 48, 0x0, 1, 0x0, 0x7F, 0x0, 0x0, false⟩,
  ⟨0x1014, 0x80, 48, 0x0, 1, 0x0, 0xFFFFFF, 0x0, 0x0, false⟩,
  ⟨0x1018, 0x80, 48, 0x0, 1, 0x0, 0xFFFFFFFF, 0x0, 0x0, false⟩,
  ⟨0x101C, 0x80, 48, 0x0, 1, 0x0, 0x0, 0x0, 0x0, false⟩,
  ⟨0x1020, 0x80, 48, 0x0, 1, 0x0, 0x0, 0x0, 0x0, false⟩,
  ⟨0x1024, 0x80, 48, 0x0, 1, 0x0, 0x0, 0x0, 0x0, false⟩,
  ⟨0x1028, 0x80, 48, 0x0, 1, 0x0, 0x0, 0x0, 0x0, false⟩,
  ⟨0x102C, 0x80, 48, 0x0, 1, 0x0, 0x0, 0x0, 0x0, false⟩,
  ⟨0x1030, 0x80, 48, 0x0, 1, 0x0, 0x0, 0x0, 0x0, false⟩,
  ⟨0x1034, 0x80, 48, 0x0, 1, 0x0, 0x0, 0x8, 0x0, false⟩,
  ⟨0x1038, 0x80, 48, 0x0, 1, 0x0, 0x0, 0x0, 0x0, true⟩,
  ⟨0x103C, 0x80, 48, 0x0, 1, 0x0, 0x0, 0x0, 0x0, true⟩,
  ⟨0x1040, 0x80, 48, 0x0, 1, 0x0, 0x0, 0x0, 0x0, true⟩,
  ⟨0x1044, 0x80, 48, 0x0, 1, 0x0, 0x0, 0x0, 0x0, true⟩,
  ⟨0x1048, 0x80, 48, 0x0, 1, 0x0, 0x0, 0x0, 0xFFF, false⟩,
  ⟨0x3000, 0x20, 16, 0x0, 1, 0x0, 0xFFFFFFFF, 0x0, 0x0, false⟩,
  ⟨0x3004, 0x20, 16, 0x0, 1, 0x0, 0xFFFF, 0x0, 0x0, false⟩,
  ⟨0x3008, 0x20, 16, 0x0, 1, 0x0, 0x3FFF0031, 0x0, 0x0, false⟩,
  ⟨0x300C, 0x20, 16, 0x0, 1, 0x0, 0x0, 0x8, 0x0, false⟩,
  ⟨0x3010, 0x20, 16, 0x0, 1, 0x0, 0x0, 0x0, 0x0, false⟩,
  ⟨0x3014, 0x20, 16, 0x0, 1, 0x0, 0x0, 0x0, 0x0, true⟩]

/-- Registers of L2. -/
def rowsL2 : List RegRow := [
  ⟨0x0, 0x0, 1, 0x0, 1, 0x0, 0xF, 0x0, 0x0, false⟩,
  ⟨0x4, 0x0, 1, 0x0, 1, 0x0, 0x0, 0x0, 0x0, false⟩,
  ⟨0x8, 0x0, 1, 0x0, 1, 0x0, 0x0, 0x0, 0x0, true⟩,
  ⟨0xC, 0x0, 1, 0x0, 1, 0x0, 0x0, 0x0, 0x0, true⟩,
  ⟨0x10, 0x4, 16, 0x0, 1, 0x0, 0xFFFF, 0x0, 0xFFFF, false⟩,
  ⟨0x50, 0x8, 4, 0x0, 1, 0x0, 0xFFFFF, 0x0, 0x0, false⟩,
  ⟨0x54, 0x8, 4, 0x0, 1, 0x0, 0x800FFFFF, 0x0, 0x0, false⟩,
  ⟨0x70, 0x0, 1, 0x0, 1, 0x0, 0x0, 0x0, 0x0, true⟩]

/-- Registers of SEQ. -/
def rowsSeq : List RegRow := [
  ⟨0x0, 0x0, 1, 0x0, 1, 0x0, 0x0, 0x0, 0x0, false⟩,
  ⟨0x4, 0x0, 1, 0x0, 1, 0x0, 0x0, 0x0, 0x0, false⟩,
  ⟨0x8, 0x0, 1, 0x0, 1, 0x0, 0x0, 0x0, 0x0, true⟩,
  ⟨0x100, 0x8, 16, 0x0, 1, 0x0, 0xFFFFFFFF, 0x0, 0x0, false⟩,
  ⟨0x104, 0x8, 16, 0x0, 1, 0x0, 0xFFFF, 0x0, 0x0, false⟩,
  ⟨0x1000, 0x40, 48, 0x0, 1, 0x0, 0x3, 0x0, 0x0, false⟩,
  ⟨0x1004, 0x40, 48, 0x0, 1, 0x0, 0x0, 0x0, 0x0, false⟩,
  ⟨0x1008, 0x40, 48, 0x0, 1, 0x0, 0x3FFF, 0x0, 0x0, false⟩,
  ⟨0x100C, 0x40, 48, 0x0, 1, 0x0, 0x0, 0x0, 0x0, false⟩,
  ⟨0x1010, 0x40, 48, 0x0, 1, 0x0, 0x0, 0x0, 0x0, false⟩,
  ⟨0x1014, 0x40, 48, 0x0, 1, 0x0, 0x0, 0x0, 0x0, false⟩,
  ⟨0x1018, 0x40, 48, 0x0, 1, 0x0, 0x0, 0x0, 0x0, false⟩,
  ⟨0x101C, 0x40, 48, 0x0, 1, 0x0, 0xFFFF, 0x0, 0x0, false⟩,
  ⟨0x1020, 0x40, 48, 0x0, 1, 0x0, 0xF, 0x0, 0x4, false⟩,
  ⟨0x1024, 0x40, 48, 0x0, 1, 0x0, 0x1F, 0x0, 0x0, false⟩,
  ⟨0x1028, 0x40, 48, 0x0, 1, 0x0, 0x0, 0x0, 0x0, true⟩,
  ⟨0x102C, 0x40, 48, 0x0, 1, 0xFFFF, 0x0, 0x0, 0x0, false⟩,
  ⟨0x1030, 0x40, 48, 0x0, 1, 0x0, 0x0, 0x0, 0x0, false⟩,
  ⟨0x1034, 0x40, 48, 0x0, 1, 0x0, 0x0, 0x0, 0x0, true⟩,
  ⟨0x1038, 0x40, 48, 0x0, 1, 0x0, 0x0, 0x0, 0x0, false⟩]

/-- Registers of PIXP. -/
def rowsPixp : List RegRow := [
  ⟨0x20000, 0x20, 256, 0x0, 1, 0xFFFFFFF, 0x0, 0x0, 0x0, false⟩,
  ⟨0x20004, 0x20, 256, 0x0, 1, 0x7FFFFFF, 0x0, 0x0, 0x0, false⟩,
  ⟨0x20008, 0x20, 256, 0x0, 1, 0xFFFFFFFF, 0x0, 0x0, 0x0, false⟩,
  ⟨0x2000C, 0x20, 256, 0x0, 1, 0xFFFFFFFF, 0x0, 0x0, 0x0, false⟩,
  ⟨0x20010, 0x20, 256, 0x0, 1, 0x0, 0x0, 0x0, 0x0, true⟩,
  ⟨0x20014, 0x20, 256, 0x0, 1, 0x0, 0x0, 0x0, 0x0, true⟩,
  ⟨0x20018, 0x20, 256, 0x0, 1, 0x0, 0x0, 0x0, 0x0, false⟩,
  ⟨0x0, 0x0, 1, 0x0, 1, 0xF, 0x0, 0x0, 0x0, false⟩,
  ⟨0x4, 0x0, 1, 0x0, 1, 0x0, 0x0, 0x0, 0xFFFF, false⟩,
  ⟨0x8, 0x0, 1, 0x0, 1, 0x0, 0x0, 0x0, 0x0, false⟩,
  ⟨0xC, 0x0, 1, 0x0, 1, 0x0, 0x0, 0x0, 0x0, true⟩,
  ⟨0x10, 0x0, 1, 0x0, 1, 0x0, 0x0, 0x0, 0x0, true⟩,
  ⟨0x400, 0x4, 256, 0x0, 1, 0xFFFFFFFF, 0x0, 0x0, 0x0, false⟩,
  ⟨0x10000, 0x400, 16, 0x4, 256, 0x0, 0x0, 0x0, 0x0, false⟩,
  ⟨0x30000, 0x1800, 48, 0x4, 1536, 0xFFFFFFFF, 0x0, 0x0, 0x0, false⟩,
  ⟨0x80000, 0x4000, 32, 0x0, 1, 0x7, 0x0, 0x0, 0x0, false⟩,
  ⟨0x80010, 0x4000, 32, 0x4, 9, 0xFFFF, 0x0, 0x0, 0x0, false⟩,
  ⟨0x80400, 0x4000, 32, 0x4, 256, 0xFFFF, 0x0, 0x0, 0x0, false⟩,
  ⟨0x81000, 0x4000, 32, 0x4, 1024, 0xFFFFF, 0x0, 0x0, 0x0, false⟩,
  ⟨0x82000, 0x4000, 32, 0x4, 1024, 0xFFFFF, 0x0, 0x0, 0x0, false⟩,
  ⟨0x83000, 0x4000, 32, 0x4, 1024, 0xFFFFF, 0x0, 0x0, 0x0, false⟩]

/-- Registers of INTAKE. -/
def rowsIntake : List RegRow := [
  ⟨0x80000, 0x80, 4096, 0x0, 1, 0xFFFFFFF, 0x0, 0x0, 0x0, false⟩,
  ⟨0x80004, 0x80, 4096, 0x0, 1, 0x0, 0x0, 0x0, 0x0, false⟩,
  ⟨0x80008, 0x80, 4096, 0x0, 1, 0xFFFFFFFF, 0x0, 0x0, 0x0, false⟩,
  ⟨0x8000C, 0x80, 4096, 0x0, 1, 0x7FFFFFFF, 0x0, 0x0, 0x0, false⟩,
  ⟨0x80010, 0x80, 4096, 0x0, 1, 0xFFFFFFFF, 0x0, 0x0, 0x0, false⟩,
  ⟨0x80014, 0x80, 4096, 0x0, 1, 0xFFFFFFFF, 0x0, 0x0, 0x0, false⟩,
  ⟨0x80018, 0x80, 4096, 0x0, 1, 0x7FFFFFF, 0x0, 0x0, 0x0, false⟩,
  ⟨0x8001C, 0x80, 4096, 0x0, 1, 0xFFFFFF, 0x0, 0x0, 0x0, false⟩,
  ⟨0x80020, 0x80, 4096, 0x0, 1, 0xFFFF1FFF, 0x0, 0x0, 0x0, false⟩,
  ⟨0x80024, 0x80, 4096, 0x0, 1, 0x3FFF, 0x0, 0x0, 0x1F4, false⟩,
  ⟨0x80028, 0x80, 4096, 0x0, 1, 0xFFFFFFFF, 0x0, 0x0, 0x0, false⟩,
  ⟨0x8002C, 0x80, 4096, 0x0, 1, 0xFFFFFFFF, 0x0, 0x0, 0x0, false⟩,
  ⟨0x80030, 0x80, 4096, 0x0, 1, 0xFFFF, 0x0, 0x0, 0x0, false⟩,
  ⟨0x80034, 0x80, 4096, 0x0, 1, 0xFFFFFF, 0x0, 0x0, 0x0, false⟩,
  ⟨0x80038, 0x80, 4096, 0x0, 1, 0xFFFFFFFF, 0x0, 0x0, 0x0, false⟩,
  ⟨0x80040, 0x80, 4096, 0x0, 1, 0xFFFFFFFF, 0x0, 0x0, 0x0, false⟩,
  ⟨0x80044, 0x80, 4096, 0x0, 1, 0xFFFFFFFF, 0x0, 0x0, 0x0, false⟩,
  ⟨0x80048, 0x80, 4096, 0x0, 1, 0x0, 0x0, 0x0, 0x0, false⟩,
  ⟨0x8004C, 0x80, 4096, 0x0, 1, 0x0, 0x0, 0x0, 0x0, false⟩,
  ⟨0x80050, 0x80, 4096, 0x0, 1, 0x0, 0x0, 0x0, 0x0, false⟩,
  ⟨0x80054, 0x80, 4096, 0x0, 1, 0x0, 0x0, 0x0, 0x0, false⟩,
  ⟨0x80058, 0x80, 4096, 0x0, 1, 0x0, 0x0, 0x0, 0x0, false⟩,
  ⟨0x8005C, 0x80, 4096, 0x0, 1, 0x0, 0x0, 0x0, 0x0, true⟩,
  ⟨0x80060, 0x80, 4096, 0x0, 1, 0x0, 0x0, 0x0, 0x0, true⟩,
  ⟨0x80064, 0x80, 4096, 0x0, 1, 0x0, 0x0, 0x0, 0x0, true⟩,
  ⟨0x80068, 0x80, 4096, 0x0, 1, 0x0, 0x0, 0x0, 0x0, true⟩,
  ⟨0x8006C, 0x80, 4096, 0x0, 1, 0x0, 0x0, 0x0, 0x0, true⟩,
  ⟨0x80070, 0x80, 4096, 0x0, 1, 0x0, 0x0, 0x0, 0x0, true⟩,
  ⟨0x80074, 0x80, 4096, 0x0, 1, 0x0, 0x0, 0x0, 0x0, true⟩,
  ⟨0x80078, 0x80, 4096, 0x0, 1, 0x0, 0x0, 0x0, 0x0, true⟩,
  ⟨0x8007C, 0x80, 4096, 0x0, 1, 0x0, 0x0, 0x0, 0x0, true⟩,
  ⟨0x0, 0x0, 1, 0x0, 1, 0x0, 0xF, 0x0, 0x0, false⟩,
  ⟨0x4, 0x0, 1, 0x0, 1, 0x0, 0x37F, 0x0, 0x0, false⟩,
  ⟨0x8, 0x0, 1, 0x0, 1, 0x0, 0xFF, 0x0, 0x25, false⟩,
  ⟨0xC, 0x0, 1, 0x0, 1, 0x0, 0xFFFFFFFF, 0x0, 0x0, false⟩,
  ⟨0x10, 0x0, 1, 0x0, 1, 0x0, 0x7FF, 0x0, 0x0, false⟩,
  ⟨0x14, 0x0, 1, 0x0, 1, 0x0, 0x0, 0x0, 0x0, false⟩,
  ⟨0x18, 0x0, 1, 0x0, 1, 0x0, 0x0, 0x0, 0x0, false⟩,
  ⟨0x20, 0x0, 1, 0x0, 1, 0x1FFF0003, 0x0, 0x0, 0x0, false⟩,
  ⟨0x24, 0x0, 1, 0x0, 1, 0x0, 0x0, 0x0, 0x0, false⟩] ++ [
  ⟨0x40, 0x4, 12, 0x0, 1, 0xFFFFFFFF, 0x0, 0x0, 0x0, false⟩,
  ⟨0x80, 0x0, 1, 0x0, 1, 0x0, 0x0, 0x0, 0x0, true⟩,
  ⟨0x84, 0x0, 1, 0x0, 1, 0x0, 0x0, 0x0, 0x0, true⟩,
  ⟨0x88, 0x0, 1, 0x0, 1, 0x0, 0x0, 0x0, 0x0, true⟩,
  ⟨0x8C, 0x0, 1, 0x0, 1, 0x0, 0x0, 0x0, 0x0, true⟩,
  ⟨0x90, 0x0, 1, 0x0, 1, 0x0, 0x0, 0x0, 0x0, true⟩,
  ⟨0xA0, 0x0, 1, 0x0, 1, 0x0, 0x0, 0x0, 0x0, false⟩,
  ⟨0xA4, 0x0, 1, 0x0, 1, 0x0, 0x0, 0x0, 0x0, false⟩]

/-- Registers of DEC. -/
def rowsDec : List RegRow := [
  ⟨0x0, 0x0, 1, 0x0, 1, 0x0, 0xFFFF, 0x0, 0xFFFF, false⟩,
  ⟨0x4, 0x0, 1, 0x0, 1, 0x0, 0x0, 0x0, 0x0, false⟩,
  ⟨0x8, 0x0, 1, 0x0, 1, 0x0, 0x0, 0x0, 0x0, false⟩,
  ⟨0xC, 0x0, 1, 0x0, 1, 0x0, 0xFF00FF, 0x0, 0xA005A, false⟩,
  ⟨0x10, 0x0, 1, 0x0, 1, 0x0, 0x0, 0x0, 0x2000, false⟩,
  ⟨0x14, 0x0, 1, 0x0, 1, 0x0, 0x0, 0x0, 0x0, false⟩,
  ⟨0x18, 0x0, 1, 0x0, 1, 0x0, 0x0, 0x0, 0x0, true⟩,
  ⟨0x100, 0x20, 16, 0x0, 1, 0x0, 0x0, 0x0, 0x0, false⟩,
  ⟨0x104, 0x20, 16, 0x0, 1, 0x0, 0x0, 0x0, 0x200, false⟩,
  ⟨0x108, 0x20, 16, 0x0, 1, 0x0, 0x0, 0x0, 0x0, true⟩,
  ⟨0x10C, 0x20, 16, 0x0, 1, 0x0, 0x0, 0x0, 0x0, true⟩,
  ⟨0x110, 0x20, 16, 0x0, 1, 0x0, 0x0, 0x0, 0x0, false⟩]

/-- Registers of CTXV. -/
def rowsCtxv : List RegRow := [
  ⟨0x8000C, 0x80, 4096, 0x0, 1, 0xFFF03, 0x0, 0x0, 0x0, false⟩,
  ⟨0x80010, 0x80, 4096, 0x0, 1, 0xFFFFFFFF, 0x0, 0x0, 0x0, false⟩,
  ⟨0x80014, 0x80, 4096, 0x0, 1, 0xFFFFFFFF, 0x0, 0x0, 0x0, false⟩,
  ⟨0x80018, 0x80, 4096, 0x0, 1, 0xFFFF, 0x0, 0x0, 0x0, false⟩,
  ⟨0x8001C, 0x80, 4096, 0x0, 1, 0xFFFF, 0x0, 0x0, 0x0, false⟩,
  ⟨0x80020, 0x80, 4096, 0x0, 1, 0xFFFFFFFF, 0x0, 0x0, 0x0, false⟩,
  ⟨0x80024, 0x80, 4096, 0x0, 1, 0xFFFF, 0x0, 0x0, 0x0, false⟩,
  ⟨0x80028, 0x80, 4096, 0x0, 1, 0x0, 0x0, 0x0, 0x0, true⟩,
  ⟨0x8002C, 0x80, 4096, 0x0, 1, 0x0, 0x0, 0x0, 0x0, true⟩]

/-- Registers of ENC. -/
def rowsEnc : List RegRow := [
  ⟨0x0, 0x0, 1, 0x0, 1, 0x0, 0xFF, 0x0, 0xFF, false⟩,
  ⟨0x4, 0x0, 1, 0x0, 1, 0x0, 0x0, 0x0, 0x0, false⟩,
  ⟨0x8, 0x0, 1, 0x0, 1, 0x0, 0x0, 0x0, 0x0, true⟩,
  ⟨0x100, 0x20, 8, 0x0, 1, 0x0, 0x0, 0x0, 0x0, false⟩,
  ⟨0x104, 0x20, 8, 0x0, 1, 0x0, 0x0, 0x0, 0x0, false⟩,
  ⟨0x108, 0x20, 8, 0x0, 1, 0x0, 0x0, 0x0, 0x0, true⟩,
  ⟨0x1000, 0x80, 16, 0x0, 1, 0x0, 0xFFF075F, 0x0, 0x0, false⟩,
  ⟨0x1004, 0x80, 16, 0x0, 1, 0x0, 0x0, 0x0, 0x0, false⟩,
  ⟨0x1008, 0x80, 16, 0x0, 1, 0x0, 0xFFFFFF, 0x0, 0x1F40, false⟩,
  ⟨0x100C, 0x80, 16, 0x0, 1, 0x0, 0xFFFFFF, 0x0, 0xC00FA, false⟩,
  ⟨0x1010, 0x80, 16, 0x0, 1, 0x0, 0xF3F3F3F, 0x0, 0x320330A, false⟩,
  ⟨0x1014, 0x80, 16, 0x0, 1, 0x0, 0x3FFF, 0x0, 0x1F4, false⟩,
  ⟨0x1018, 0x80, 16, 0x0, 1, 0x0, 0xFF, 0x0, 0x4, false⟩,
  ⟨0x101C, 0x80, 16, 0x0, 1, 0x0, 0xFFFFFFFF, 0x0, 0x0, false⟩,
  ⟨0x1020, 0x80, 16, 0x0, 1, 0x0, 0x0, 0x0, 0x0, false⟩,
  ⟨0x1024, 0x80, 16, 0x0, 1, 0x0, 0x0, 0x0, 0x0, false⟩,
  ⟨0x1028, 0x80, 16, 0x0, 1, 0x0, 0x0, 0x0, 0x0, false⟩,
  ⟨0x102C, 0x80, 16, 0x0, 1, 0x0, 0x0, 0x0, 0x0, false⟩,
  ⟨0x1030, 0x80, 16, 0x0, 1, 0x0, 0x0, 0x0, 0x0, true⟩,
  ⟨0x1034, 0x80, 16, 0x0, 1, 0x0, 0x0, 0x0, 0x0, true⟩,
  ⟨0x1038, 0x80, 16, 0x0, 1, 0x0, 0x0, 0x0, 0x0, true⟩,
  ⟨0x103C, 0x80, 16, 0x0, 1, 0x0, 0x0, 0x0, 0x0, true⟩,
  ⟨0x1040, 0x80, 16, 0x0, 1, 0x0, 0x0, 0x0, 0x0, false⟩,
  ⟨0x1048, 0x80, 16, 0x0, 1, 0x0, 0x0, 0x0, 0x0, false⟩,
  ⟨0x104C, 0x80, 16, 0x0, 1, 0x0, 0x0, 0x0, 0x0, false⟩,
  ⟨0x1050, 0x80, 16, 0x0, 1, 0x0, 0x0, 0x0, 0x0, false⟩]

/-- Registers of DRAVIO. -/
def rowsDravio : List RegRow := [
  ⟨0x0, 0x0, 1, 0x0, 1, 0x0, 0x3, 0x0, 0x0, false⟩,
  ⟨0x4, 0x0, 1, 0x0, 1, 0x0, 0x0, 0x0, 0x0, false⟩,
  ⟨0x8, 0x0, 1, 0x0, 1, 0x0, 0x0, 0x0, 0x0, false⟩,
  ⟨0xC, 0x0, 1, 0x0, 1, 0x0, 0xFFFFFF, 0x0, 0x0, false⟩,
  ⟨0x10, 0x0, 1, 0x0, 1, 0x0, 0x17F, 0x0, 0x0, false⟩,
  ⟨0x14, 0x0, 1, 0x0, 1, 0x0, 0x17F, 0x0, 0x0, false⟩,
  ⟨0x18, 0x0, 1, 0x0, 1, 0x0, 0x0, 0x0, 0x0, true⟩,
  ⟨0x200, 0x4, 32, 0x0, 1, 0x0, 0x81FF, 0x0, 0x0, false⟩,
  ⟨0x300, 0x4, 32, 0x0, 1, 0x0, 0x87FF, 0x0, 0x0, false⟩,
  ⟨0x1000, 0x80, 64, 0x0, 1, 0x0, 0xFFF177F, 0x0, 0x660, false⟩,
  ⟨0x1004, 0x80, 64, 0x0, 1, 0x0, 0x0, 0x0, 0x600000, false⟩,
  ⟨0x1008, 0x80, 64, 0x0, 1, 0x0, 0x0, 0x0, 0x0, false⟩,
  ⟨0x100C, 0x80, 64, 0x0, 1, 0x0, 0x0, 0x0, 0x0, false⟩,
  ⟨0x1010, 0x80, 64, 0x0, 1, 0x0, 0x0, 0x0, 0x0, false⟩,
  ⟨0x1014, 0x80, 64, 0x0, 1, 0x0, 0x0, 0x0, 0x0, false⟩,
  ⟨0x1020, 0x80, 64, 0x0, 1, 0x0, 0x0, 0x0, 0x0, true⟩,
  ⟨0x1024, 0x80, 64, 0x0, 1, 0x0, 0x0, 0x0, 0x0, true⟩,
  ⟨0x1028, 0x80, 64, 0x0, 1, 0x0, 0x0, 0x0, 0x0, true⟩,
  ⟨0x102C, 0x80, 64, 0x0, 1, 0x0, 0x0, 0x0, 0x0, true⟩,
  ⟨0x1030, 0x80, 64, 0x0, 1, 0x0, 0x0, 0x0, 0x0, true⟩,
  ⟨0x1034, 0x80, 64, 0x0, 1, 0x0, 0x0, 0x0, 0x0, true⟩,
  ⟨0x1038, 0x80, 64, 0x0, 1, 0x0, 0x0, 0x0, 0x0, true⟩,
  ⟨0x103C, 0x80, 64, 0x0, 1, 0x0, 0x0, 0x0, 0x0, true⟩,
  ⟨0x1040, 0x80, 64, 0x0, 1, 0x0, 0x0, 0x0, 0x0, true⟩,
  ⟨0x1044, 0x80, 64, 0x0, 1, 0x0, 0x0, 0x0, 0x0, false⟩,
  ⟨0x1048, 0x80, 64, 0x0, 1, 0x0, 0x7FFF, 0x0, 0x1010, false⟩,
  ⟨0x104C, 0x80, 64, 0x0, 1, 0x0, 0x3F, 0x0, 0x11, false⟩,
  ⟨0x1050, 0x80, 64, 0x0, 1, 0x0, 0xF, 0x0, 0x0, false⟩,
  ⟨0x1054, 0x80, 64, 0x0, 1, 0x0, 0x0, 0x0, 0x0, true⟩,
  ⟨0x1058, 0x80, 64, 0x0, 1, 0x0, 0x0, 0x0, 0x0, false⟩]

/-- Registers of TIME. -/
def rowsTime : List RegRow := [
  ⟨0x0, 0x0, 1, 0x0, 1, 0x0, 0x0, 0x0, 0x0, false⟩,
  ⟨0x4, 0x0, 1, 0x0, 1, 0x0, 0xFFFF7701, 0x0, 0x643100, false⟩,
  ⟨0x8, 0x0, 1, 0x0, 1, 0x0, 0xFFFFFFFF, 0x0, 0xA003E8, false⟩,
  ⟨0xC, 0x0, 1, 0x0, 1, 0x0, 0xFFFF, 0x0, 0xBB8, false⟩,
  ⟨0x10, 0x0, 1, 0x0, 1, 0x0, 0xFFFFFFFF, 0x0, 0x0, false⟩,
  ⟨0x14, 0x0, 1, 0x0, 1, 0x0, 0xFFFFFFFF, 0x0, 0x0, false⟩,
  ⟨0x18, 0x0, 1, 0x0, 1, 0x0, 0xFFFFFFFF, 0x0, 0x0, false⟩,
  ⟨0x1C, 0x0, 1, 0x0, 1, 0x0, 0xFFFFFFFF, 0x0, 0x0, false⟩,
  ⟨0x20, 0x0, 1, 0x0, 1, 0x0, 0x3, 0x0, 0x0, false⟩,
  ⟨0x24, 0x0, 1, 0x0, 1, 0x0, 0xFFFFFFFF, 0x0, 0x0, false⟩,
  ⟨0x28, 0x0, 1, 0x0, 1, 0x0, 0x0, 0x0, 0x0, false⟩,
  ⟨0x2C, 0x0, 1, 0x0, 1, 0x0, 0x0, 0x0, 0x0, false⟩,
  ⟨0x30, 0x0, 1, 0x0, 1, 0x0, 0x0, 0x0, 0x0, false⟩,
  ⟨0x34, 0x0, 1, 0x0, 1, 0x0, 0x0, 0x0, 0x0, false⟩,
  ⟨0x38, 0x0, 1, 0x0, 1, 0x0, 0x0, 0x0, 0x0, false⟩,
  ⟨0x3C, 0x0, 1, 0x0, 1, 0x0, 0x0, 0x0, 0x0, true⟩,
  ⟨0x40, 0x0, 1, 0x0, 1, 0x0, 0x0, 0x0, 0x0, false⟩,
  ⟨0x44, 0x0, 1, 0x0, 1, 0x0, 0x0, 0x0, 0x0, false⟩,
  ⟨0x48, 0x0, 1, 0x0, 1, 0x0, 0x0, 0x0, 0x0, true⟩,
  ⟨0x4C, 0x0, 1, 0x0, 1, 0x0, 0x17F017F, 0x0, 0x0, false⟩,
  ⟨0x50, 0x0, 1, 0x0, 1, 0x0, 0x17F017F, 0x0, 0x0, false⟩,
  ⟨0x54, 0x0, 1, 0x0, 1, 0x0, 0x0, 0x0, 0x0, true⟩,
  ⟨0x58, 0x0, 1, 0x0, 1, 0x8FFFFFFF, 0x0, 0x0, 0x0, false⟩,
  ⟨0x5C, 0x0, 1, 0x0, 1, 0x0, 0xF, 0x0, 0xC, false⟩,
  ⟨0x60, 0x0, 1, 0x0, 1, 0x0, 0xFFFFFFFF, 0x0, 0x0, false⟩,
  ⟨0x64, 0x0, 1, 0x0, 1, 0x0, 0xFFFF, 0x0, 0x0, false⟩,
  ⟨0x800, 0x20, 16, 0x0, 1, 0x0, 0xFFFFFFFF, 0x0, 0x0, false⟩,
  ⟨0x804, 0x20, 16, 0x0, 1, 0x0, 0xFFFFFFFF, 0x0, 0x0, false⟩,
  ⟨0x808, 0x20, 16, 0x0, 1, 0x0, 0xFFFFFFFF, 0x0, 0x0, false⟩,
  ⟨0x80C, 0x20, 16, 0x0, 1, 0x0, 0x1FF, 0x0, 0x0, false⟩,
  ⟨0x810, 0x20, 16, 0x0, 1, 0x0, 0xFFFFFFFF, 0x0, 0x0, false⟩,
  ⟨0x814, 0x20, 16, 0x0, 1, 0x0, 0x0, 0x0, 0x0, true⟩,
  ⟨0x818, 0x20, 16, 0x0, 1, 0x0, 0x0, 0x0, 0x0, true⟩,
  ⟨0x1000, 0x100, 4, 0x0, 1, 0x0, 0x3F, 0x0, 0x10, false⟩,
  ⟨0x1004, 0x100, 4, 0x0, 1, 0x0, 0x0, 0x0, 0x0, false⟩,
  ⟨0x1008, 0x100, 4, 0x0, 1, 0x0, 0xFFFFFFFF, 0x0, 0x0, false⟩,
  ⟨0x100C, 0x100, 4, 0x0, 1, 0x0, 0xFFFF, 0x0, 0x0, false⟩,
  ⟨0x1010, 0x100, 4, 0x4, 8, 0x0, 0xFFFFFFFF, 0x0, 0x0, false⟩,
  ⟨0x1030, 0x100, 4, 0x0, 1, 0x0, 0xFFFF, 0x0, 0x0, false⟩,
  ⟨0x1034, 0x100, 4, 0x0, 1, 0x0, 0xFFFF, 0x0, 0x0, false⟩] ++ [
  ⟨0x1040, 0x100, 4, 0x0, 1, 0x0, 0x0, 0x0, 0x0, true⟩,
  ⟨0x1044, 0x100, 4, 0x0, 1, 0x0, 0x0, 0x0, 0x0, true⟩,
  ⟨0x1048, 0x100, 4, 0x0, 1, 0x0, 0x0, 0x0, 0x0, true⟩,
  ⟨0x104C, 0x100, 4, 0x0, 1, 0x0, 0x0, 0x0, 0x0, true⟩,
  ⟨0x1050, 0x100, 4, 0x0, 1, 0x0, 0x0, 0x0, 0x0, true⟩,
  ⟨0x1054, 0x100, 4, 0x0, 1, 0x0, 0x0, 0x0, 0x0, true⟩,
  ⟨0x1058, 0x100, 4, 0x0, 1, 0x0, 0x0, 0x0, 0x0, true⟩,
  ⟨0x105C, 0x100, 4, 0x0, 1, 0x0, 0x0, 0x0, 0x0, true⟩,
  ⟨0x1060, 0x100, 4, 0x0, 1, 0x0, 0x0, 0x0, 0x0, true⟩]

/-- Registers of TOUCH. -/
def rowsTouch : List RegRow := [
  ⟨0x0, 0x0, 1, 0x0, 1, 0x0, 0x7F, 0x0, 0x0, false⟩,
  ⟨0x4, 0x0, 1, 0x0, 1, 0x0, 0x0, 0x0, 0x0, true⟩,
  ⟨0x1000, 0x100, 34, 0x0, 1, 0x0, 0x7F7F3F3F, 0x0, 0x18280002, false⟩,
  ⟨0x1004, 0x100, 34, 0x0, 1, 0x0, 0x3FFF3FFF, 0x0, 0x0, false⟩,
  ⟨0x1008, 0x100, 34, 0x0, 1, 0x0, 0xFFFFFFFF, 0x0, 0x6400C8, false⟩,
  ⟨0x100C, 0x100, 34, 0x0, 1, 0x0, 0xFFFFFFFF, 0x0, 0xC80064, false⟩,
  ⟨0x1010, 0x100, 34, 0x0, 1, 0x0, 0x3FF, 0x0, 0x2D, false⟩,
  ⟨0x1014, 0x100, 34, 0x0, 1, 0x0, 0xFFFFFFFF, 0x0, 0x800400, false⟩,
  ⟨0x1018, 0x100, 34, 0x0, 1, 0x0, 0xFFFFFFF, 0x0, 0x4781E05, false⟩,
  ⟨0x101C, 0x100, 34, 0x0, 1, 0x0, 0xFFFFFFFF, 0x0, 0xEA6003E8, false⟩,
  ⟨0x1020, 0x100, 34, 0x4, 4, 0x0, 0x3F3FF3, 0x0, 0x80FA0, false⟩,
  ⟨0x1030, 0x100, 34, 0x4, 4, 0x0, 0xFFFF, 0x0, 0x96, false⟩,
  ⟨0x1040, 0x100, 34, 0x0, 1, 0x0, 0x0, 0x0, 0x0, false⟩,
  ⟨0x1044, 0x100, 34, 0x0, 1, 0x0, 0x0, 0x0, 0x0, true⟩,
  ⟨0x1048, 0x100, 34, 0x0, 1, 0x0, 0x0, 0x0, 0x0, true⟩,
  ⟨0x104C, 0x100, 34, 0x0, 1, 0x0, 0x0, 0x0, 0x0, true⟩,
  ⟨0x1050, 0x100, 34, 0x0, 1, 0x0, 0x0, 0x0, 0x0, true⟩,
  ⟨0x1054, 0x100, 34, 0x0, 1, 0x0, 0x0, 0x0, 0x0, true⟩,
  ⟨0x1058, 0x100, 34, 0x0, 1, 0x0, 0x0, 0x0, 0x0, true⟩,
  ⟨0x105C, 0x100, 34, 0x0, 1, 0x0, 0x0, 0x0, 0x0, true⟩,
  ⟨0x1060, 0x100, 34, 0x0, 1, 0x0, 0x0, 0x0, 0x0, false⟩]

/-- Registers of CTXR. -/
def rowsCtxr : List RegRow := [
  ⟨0x8000C, 0x80, 4096, 0x0, 1, 0x7F001F03, 0x0, 0x0, 0x100, false⟩,
  ⟨0x80010, 0x80, 4096, 0x0, 1, 0x3FFFF, 0x0, 0x0, 0xBB80, false⟩,
  ⟨0x80014, 0x80, 4096, 0x0, 1, 0xFFFFFFFF, 0x0, 0x0, 0x0, false⟩,
  ⟨0x80018, 0x80, 4096, 0x0, 1, 0x1FFFF, 0x0, 0x0, 0x400, false⟩,
  ⟨0x8001C, 0x80, 4096, 0x0, 1, 0xFFFFF, 0x0, 0x0, 0x0, false⟩,
  ⟨0x80020, 0x80, 4096, 0x0, 1, 0xFFFF1FFF, 0x0, 0x0, 0x0, false⟩,
  ⟨0x80024, 0x80, 4096, 0x0, 1, 0xFFFF, 0x0, 0x0, 0x0, false⟩,
  ⟨0x80028, 0x80, 4096, 0x0, 1, 0x0, 0x0, 0x0, 0x0, false⟩,
  ⟨0x8002C, 0x80, 4096, 0x0, 1, 0x0, 0x0, 0x0, 0x0, true⟩,
  ⟨0x80030, 0x80, 4096, 0x0, 1, 0x0, 0x0, 0x0, 0x0, true⟩,
  ⟨0x80034, 0x80, 4096, 0x0, 1, 0x0, 0x0, 0x0, 0x0, true⟩]

/-- Registers of CTXT. -/
def rowsCtxt : List RegRow := [
  ⟨0x80010, 0x80, 4096, 0x0, 1, 0xFFFFFFFF, 0x0, 0x0, 0x0, false⟩,
  ⟨0x80014, 0x80, 4096, 0x0, 1, 0xFFFFFFFF, 0x0, 0x0, 0x0, false⟩,
  ⟨0x80018, 0x80, 4096, 0x0, 1, 0x11F0F0F, 0x0, 0x0, 0x10000, false⟩,
  ⟨0x8001C, 0x80, 4096, 0x0, 1, 0xFFFF, 0x0, 0x0, 0x0, false⟩,
  ⟨0x80020, 0x80, 4096, 0x0, 1, 0xFFFFFFFF, 0x0, 0x0, 0x0, false⟩,
  ⟨0x80024, 0x80, 4096, 0x0, 1, 0x3FF, 0x0, 0x0, 0x30, false⟩,
  ⟨0x80028, 0x80, 4096, 0x0, 1, 0x0, 0x0, 0x0, 0x0, true⟩]

/-- Registers of AUDIO. -/
def rowsAudio : List RegRow := [
  ⟨0x0, 0x0, 1, 0x0, 1, 0x0, 0xFF, 0x0, 0x0, false⟩,
  ⟨0x4, 0x0, 1, 0x0, 1, 0x0, 0x0, 0x0, 0x0, false⟩,
  ⟨0x8, 0x0, 1, 0x0, 1, 0x0, 0x0, 0x0, 0x0, false⟩,
  ⟨0x1000, 0x100, 16, 0x40, 2, 0x0, 0xFFFFF, 0x0, 0x19E, false⟩,
  ⟨0x1004, 0x100, 16, 0x40, 2, 0x0, 0x3FFFF, 0x0, 0xBB80, false⟩,
  ⟨0x1008, 0x100, 16, 0x40, 2, 0x1FFFF, 0x0, 0x0, 0x0, false⟩,
  ⟨0x100C, 0x100, 16, 0x40, 2, 0x0, 0x0, 0x0, 0x0, false⟩,
  ⟨0x1010, 0x100, 16, 0x40, 2, 0x0, 0x0, 0x0, 0x0, false⟩,
  ⟨0x1014, 0x100, 16, 0x40, 2, 0x0, 0x0, 0x0, 0x0, false⟩,
  ⟨0x1018, 0x100, 16, 0x40, 2, 0x0, 0x0, 0x0, 0x0, true⟩,
  ⟨0x101C, 0x100, 16, 0x40, 2, 0x0, 0x0, 0x0, 0x0, true⟩,
  ⟨0x1020, 0x100, 16, 0x40, 2, 0x0, 0x0, 0x0, 0x0, true⟩,
  ⟨0x1024, 0x100, 16, 0x40, 2, 0x0, 0x0, 0x0, 0x0, true⟩,
  ⟨0x1028, 0x100, 16, 0x40, 2, 0x0, 0x0, 0x0, 0x0, true⟩,
  ⟨0x1080, 0x100, 16, 0x4, 16, 0x3FFFFF, 0x0, 0x0, 0x0, false⟩]

/-- Registers of PROT. -/
def rowsProt : List RegRow := [
  ⟨0x10000, 0x10, 1024, 0x0, 1, 0x0, 0x0, 0x0, 0x0, false⟩,
  ⟨0x20000, 0x10, 1024, 0x0, 1, 0x0, 0xFFFFFFFF, 0x0, 0x0, false⟩,
  ⟨0x10004, 0x10, 1024, 0x0, 1, 0x0, 0x0, 0x0, 0x0, false⟩,
  ⟨0x20004, 0x10, 1024, 0x0, 1, 0x0, 0x3F0103, 0x0, 0x0, false⟩,
  ⟨0x10008, 0x10, 1024, 0x0, 1, 0x0, 0x0, 0x0, 0x0, false⟩,
  ⟨0x20008, 0x10, 1024, 0x0, 1, 0x0, 0xFFFFFFFF, 0x0, 0x0, false⟩,
  ⟨0x1000C, 0x10, 1024, 0x0, 1, 0x0, 0x0, 0x0, 0x0, false⟩,
  ⟨0x2000C, 0x10, 1024, 0x0, 1, 0x0, 0x3, 0x0, 0x0, false⟩,
  ⟨0x0, 0x0, 1, 0x0, 1, 0x0, 0x1, 0x0, 0x0, false⟩,
  ⟨0x4, 0x0, 1, 0x0, 1, 0x0, 0x3F, 0x0, 0x0, false⟩,
  ⟨0x8, 0x0, 1, 0x0, 1, 0x0, 0x0, 0x0, 0x0, true⟩,
  ⟨0xC, 0x0, 1, 0x0, 1, 0x0, 0x0, 0x0, 0x0, true⟩,
  ⟨0x10, 0x0, 1, 0x0, 1, 0x0, 0x0, 0x0, 0x0, false⟩,
  ⟨0x100, 0x4, 64, 0x0, 1, 0x0, 0x0, 0x0, 0x0, false⟩,
  ⟨0x400, 0x4, 128, 0x0, 1, 0x0, 0x3F, 0x0, 0x0, false⟩]

/-- Registers of RINGS. -/
def rowsRings : List RegRow := [
  ⟨0x0, 0x0, 1, 0x0, 1, 0x0, 0x0, 0x0, 0x0, true⟩,
  ⟨0x10, 0x4, 4, 0x0, 1, 0x0, 0x0, 0x0, 0x0, false⟩,
  ⟨0x1000, 0x20, 128, 0x0, 1, 0x0, 0xFFFFFFFF, 0x0, 0x0, false⟩,
  ⟨0x1004, 0x20, 128, 0x0, 1, 0x0, 0x13FF, 0x0, 0x0, false⟩,
  ⟨0x1008, 0x20, 128, 0x0, 1, 0x0, 0x0, 0x0, 0x0, false⟩,
  ⟨0x100C, 0x20, 128, 0x0, 1, 0x0, 0x0, 0x0, 0x0, false⟩,
  ⟨0x1010, 0x20, 128, 0x0, 1, 0x0, 0x0, 0x0, 0x0, false⟩,
  ⟨0x1014, 0x20, 128, 0x0, 1, 0x0, 0x0, 0x0, 0x0, false⟩,
  ⟨0x1018, 0x20, 128, 0x0, 1, 0x0, 0xFF03FFFF, 0x0, 0x0, false⟩,
  ⟨0x101C, 0x20, 128, 0x0, 1, 0x0, 0x1FFFF, 0x0, 0x0, false⟩]

/-- Registers of CHK. -/
def rowsChk : List RegRow := [
  ⟨0x1000, 0x100, 8, 0x0, 1, 0x0, 0x0, 0x0, 0x0, false⟩,
  ⟨0x1004, 0x100, 8, 0x0, 1, 0x0, 0x17F, 0x0, 0x0, false⟩,
  ⟨0x1008, 0x100, 8, 0x0, 1, 0x0, 0x0, 0x0, 0x0, true⟩,
  ⟨0x100C, 0x100, 8, 0x0, 1, 0x0, 0x0, 0x0, 0x0, true⟩,
  ⟨0x1010, 0x100, 8, 0x0, 1, 0x0, 0x0, 0x0, 0x0, true⟩,
  ⟨0x1014, 0x100, 8, 0x0, 1, 0x0, 0x0, 0x0, 0x0, true⟩,
  ⟨0x1040, 0x100, 8, 0x8, 16, 0x0, 0x0, 0x0, 0x0, false⟩,
  ⟨0x1044, 0x100, 8, 0x8, 16, 0x0, 0x0, 0x0, 0x0, false⟩,
  ⟨0x8000, 0x8, 64, 0x0, 1, 0xFFFFFF, 0x0, 0x0, 0x80000, false⟩,
  ⟨0x8004, 0x8, 64, 0x0, 1, 0x1FFFF, 0x0, 0x0, 0x0, false⟩]

/-- Registers of FAULT. -/
def rowsFault : List RegRow := [
  ⟨0x0, 0x0, 1, 0x0, 1, 0x0, 0x17F, 0x0, 0x0, false⟩,
  ⟨0x4, 0x0, 1, 0x0, 1, 0x0, 0x0, 0x0, 0x0, false⟩,
  ⟨0x8, 0x0, 1, 0x0, 1, 0x0, 0x0, 0x0, 0x0, true⟩,
  ⟨0xC, 0x0, 1, 0x0, 1, 0x0, 0x0, 0x0, 0x0, true⟩,
  ⟨0x10, 0x0, 1, 0x0, 1, 0x0, 0x1F, 0x0, 0x0, false⟩,
  ⟨0x14, 0x0, 1, 0x0, 1, 0x0, 0x0, 0x0, 0x0, false⟩,
  ⟨0x18, 0x0, 1, 0x0, 1, 0x0, 0x0, 0x0, 0x0, false⟩,
  ⟨0x20, 0x4, 8, 0x0, 1, 0x0, 0x0, 0x0, 0x0, false⟩,
  ⟨0x100, 0x4, 8, 0x0, 1, 0x0, 0x0, 0xFFFFFFFF, 0x0, false⟩,
  ⟨0x400, 0x4, 256, 0x0, 1, 0x0, 0x0, 0x0, 0x0, true⟩]

/-- Registers of PWR. -/
def rowsPwr : List RegRow := [
  ⟨0x0, 0x0, 1, 0x0, 1, 0x0, 0x0, 0x0, 0x0, false⟩,
  ⟨0x4, 0x0, 1, 0x0, 1, 0x0, 0x0, 0x0, 0x0, false⟩,
  ⟨0x8, 0x0, 1, 0x0, 1, 0x0, 0x0, 0x0, 0x0, false⟩,
  ⟨0xC, 0x0, 1, 0x0, 1, 0x0, 0x0, 0x0, 0x0, false⟩,
  ⟨0x10, 0x0, 1, 0x0, 1, 0x0, 0x0, 0x0, 0x0, false⟩,
  ⟨0x14, 0x0, 1, 0x0, 1, 0x0, 0x0, 0x0, 0x0, false⟩,
  ⟨0x18, 0x0, 1, 0x0, 1, 0x0, 0x0, 0x0, 0x0, false⟩,
  ⟨0x1C, 0x0, 1, 0x0, 1, 0x0, 0x1FFF, 0x0, 0x352, false⟩,
  ⟨0x20, 0x0, 1, 0x0, 1, 0x0, 0xFF, 0x0, 0x96, false⟩,
  ⟨0x24, 0x0, 1, 0x0, 1, 0x0, 0x0, 0x0, 0x96, false⟩,
  ⟨0x28, 0x0, 1, 0x0, 1, 0x0, 0x1F77F, 0x0, 0x1522D, false⟩,
  ⟨0x2C, 0x0, 1, 0x0, 1, 0x0, 0x3F, 0x0, 0x14, false⟩,
  ⟨0x30, 0x0, 1, 0x0, 1, 0x0, 0x3F, 0x0, 0x12, false⟩,
  ⟨0x34, 0x0, 1, 0x0, 1, 0x0, 0xFF01, 0x0, 0x5001, false⟩,
  ⟨0x38, 0x0, 1, 0x0, 1, 0x0, 0x0, 0x0, 0x0, false⟩,
  ⟨0x3C, 0x0, 1, 0x0, 1, 0x0, 0x0, 0xFFF, 0x0, false⟩,
  ⟨0x40, 0x4, 12, 0x0, 1, 0x0, 0x0, 0x0, 0x0, false⟩,
  ⟨0x80, 0x0, 1, 0x0, 1, 0x0, 0x0, 0x0, 0x0, true⟩,
  ⟨0x84, 0x0, 1, 0x0, 1, 0x0, 0x0, 0x0, 0x0, true⟩,
  ⟨0x88, 0x0, 1, 0x0, 1, 0x0, 0x0, 0x0, 0x0, true⟩,
  ⟨0x8C, 0x0, 1, 0x0, 1, 0x0, 0x0, 0x0, 0x0, true⟩,
  ⟨0x90, 0x0, 1, 0x0, 1, 0x0, 0x0, 0x0, 0x0, false⟩]

/-- Registers of HLTH. -/
def rowsHlth : List RegRow := [
  ⟨0x0, 0x0, 1, 0x0, 1, 0x0, 0x0, 0x0, 0x0, false⟩,
  ⟨0x4, 0x0, 1, 0x0, 1, 0x0, 0x0, 0x0, 0x0, false⟩,
  ⟨0x8, 0x0, 1, 0x0, 1, 0x0, 0x0, 0x0, 0x0, false⟩,
  ⟨0xC, 0x0, 1, 0x0, 1, 0x0, 0x0, 0x0, 0x0, false⟩,
  ⟨0x10, 0x0, 1, 0x0, 1, 0x0, 0x0, 0x0, 0xFF, false⟩,
  ⟨0x14, 0x0, 1, 0x0, 1, 0x0, 0x3F, 0x0, 0x1E, false⟩,
  ⟨0x18, 0x0, 1, 0x0, 1, 0x0, 0x0, 0x0, 0x0, true⟩,
  ⟨0x40, 0x4, 24, 0x0, 1, 0x0, 0x0, 0x0, 0x0, false⟩,
  ⟨0x100, 0x4, 8, 0x0, 1, 0x0, 0x0, 0x0, 0x0, false⟩,
  ⟨0x120, 0x0, 1, 0x0, 1, 0x0, 0x0, 0x0, 0x0, false⟩,
  ⟨0x140, 0x0, 1, 0x0, 1, 0x0, 0x0, 0x0, 0x0, false⟩,
  ⟨0x144, 0x0, 1, 0x0, 1, 0x0, 0x0, 0x0, 0x0, false⟩,
  ⟨0x148, 0x0, 1, 0x0, 1, 0x0, 0x0, 0x0, 0x0, false⟩,
  ⟨0x14C, 0x0, 1, 0x0, 1, 0x0, 0x0, 0x0, 0xFFFFFFFF, false⟩,
  ⟨0x150, 0x4, 8, 0x0, 1, 0x0, 0x0, 0x0, 0x0, false⟩,
  ⟨0x170, 0x4, 8, 0x0, 1, 0x0, 0x0, 0x0, 0x0, false⟩,
  ⟨0x190, 0x0, 1, 0x0, 1, 0x0, 0xFFFFFFFF, 0x0, 0x0, false⟩,
  ⟨0x194, 0x0, 1, 0x0, 1, 0x0, 0x1, 0x0, 0x0, false⟩]

/-- Registers of TEST. -/
def rowsTest : List RegRow := [
  ⟨0x0, 0x0, 1, 0x0, 1, 0x0, 0x0, 0x0, 0x0, false⟩,
  ⟨0x4, 0x0, 1, 0x0, 1, 0x0, 0xFF, 0x0, 0x0, false⟩,
  ⟨0x8, 0x0, 1, 0x0, 1, 0x0, 0x0, 0x0, 0x0, false⟩,
  ⟨0xC, 0x0, 1, 0x0, 1, 0x0, 0xFF03, 0x0, 0x0, false⟩,
  ⟨0x10, 0x0, 1, 0x0, 1, 0x0, 0x0, 0x0, 0x0, false⟩,
  ⟨0x14, 0x0, 1, 0x0, 1, 0x0, 0x0, 0x0, 0x0, false⟩,
  ⟨0x20, 0x0, 1, 0x0, 1, 0x0, 0x7FFFFFF, 0x0, 0x0, false⟩,
  ⟨0x100, 0x4, 8, 0x0, 1, 0x0, 0xFFFFFFFF, 0x0, 0x0, false⟩,
  ⟨0x200, 0x4, 256, 0x0, 1, 0x0, 0x0, 0x0, 0x0, false⟩,
  ⟨0x600, 0x4, 256, 0x0, 1, 0x0, 0x0, 0x0, 0x0, false⟩,
  ⟨0xA00, 0x4, 16, 0x0, 1, 0x0, 0x0, 0x0, 0x0, false⟩,
  ⟨0xC00, 0x4, 256, 0x0, 1, 0x0, 0x0, 0x0, 0x0, false⟩,
  ⟨0x1000, 0x4, 32, 0x0, 1, 0x0, 0x0, 0x0, 0x0, false⟩]

/-- The rows of a block, in the order of R24 (22: the L2 control registers). -/
def rowsOf : Nat → List RegRow
  | 0 => rowsSys
  | 1 => rowsPwr
  | 2 => rowsHlth
  | 3 => rowsClk
  | 4 => rowsTime
  | 5 => rowsRaster
  | 6 => rowsSeq
  | 7 => rowsComp
  | 8 => rowsPixp
  | 9 => rowsVigil
  | 10 => rowsIntake
  | 11 => rowsDec
  | 12 => rowsEnc
  | 13 => rowsDravio
  | 14 => rowsTouch
  | 15 => rowsAudio
  | 16 => rowsProt
  | 17 => rowsRings
  | 18 => rowsChk
  | 19 => rowsTest
  | 20 => rowsMemc
  | 21 => rowsFault
  | 22 => rowsL2
  | _ => []

/-- Whether the row covers offset `o` of its block, and with which two indices. -/
def RegRow.find (r : RegRow) (o : Nat) : Option (Nat × Nat) :=
  if o < r.off then none else
  let d := o - r.off
  let i := if r.s1 = 0 then 0 else min (d / r.s1) (r.n1 - 1)
  let d1 := d - i * r.s1
  let j := if r.s2 = 0 then 0 else min (d1 / r.s2) (r.n2 - 1)
  if d1 = j * r.s2 then some (i, j) else none

/-- The first row of a table that covers offset `o`, with its two indices. -/
def findRow : List RegRow → Nat → Option (RegRow × Nat × Nat)
  | [], _ => none
  | r :: rs, o =>
    match r.find o with
    | some (i, j) => some (r, i, j)
    | none => findRow rs o

/-- What a context of a kind adds at bytes 0x0C to 0x37 (R261): `v` 1 video TX (R323), 2 audio RX (R445), 3 audio TX
(R448). -/
def rowsCtx : Nat → List RegRow
  | 1 => rowsCtxv
  | 2 => rowsCtxr
  | 3 => rowsCtxt ++ rowsCtxv.take 1
  | _ => []

/-- Whether a key lies in the bytes 0x0C to 0x37 of a stream context (R260, R261). -/
def isCtxOwn (key : Nat) : Bool :=
  0xA80000 ≤ key && key < 0xB00000 && 0x0C ≤ key % 0x80 && key % 0x80 < 0x38

/-- The row of the register at `key`; `v` names the layout of the context when the key lies in one. -/
def rowAt (v key : Nat) : Option (RegRow × Nat × Nat) :=
  if isCtxOwn key && v != 0 then findRow (rowsCtx v) (key % 0x100000)
  else findRow (rowsOf (key / 0x100000)) (key % 0x100000)

/-- round(n / d) for a fraction that is not negative, halves away from zero. -/
def roundDiv (n d : Nat) : Nat := (2 * n + d) / (2 * d)

/-- The input at which knot n of a tone curve stands (R247). -/
def knotAt (n : Nat) : Nat := if n = 255 then 1048575 else roundDiv (n * n * 1048576) 65025

/-- One tap of the bilinear filter that every coefficient set holds at reset (R240). -/
def bilinearTap (p t : Nat) : Nat := if t = 3 then 1024 - 16 * p else if t = 4 then 16 * p else 0

/-- The reset colours of the verdict borders (R70). -/
def verdictColour : Nat → Nat
  | 1 => 0xFFB000
  | 2 => 0x4A2C16
  | 3 => 0x00C8DC
  | 4 => 0xFFB000
  | 5 => 0xFF00FF
  | 6 => 0xFF00FF
  | 7 => 0x808080
  | _ => 0

/-- What the register at `key` holds at reset: the Reset column of the register tables, and for the tables that the
columns name a rule for, R70, R240 and R249. -/
def regReset (v key : Nat) : Nat :=
  match rowAt v key with
  | none => 0
  | some (r, i, j) =>
    let blk := key / 0x100000
    if blk = 9 && r.off = 0x84 then verdictColour (i + 1)
    else if blk = 8 && r.off = 0x10000 then
      bilinearTap (j / 4) (2 * (j % 4)) + 0x10000 * bilinearTap (j / 4) (2 * (j % 4) + 1)
    else if blk = 8 && r.off = 0x30000 then
      let e := 2 * (j % 512)
      roundDiv (e * 4095) 1023 + 0x10000 * roundDiv ((e + 1) * 4095) 1023
    else if blk = 8 && r.off = 0x80010 then (if j = 0 || j = 4 || j = 8 then 8192 else 0)
    else if blk = 8 && r.off = 0x80400 then min 65535 (knotAt j)
    else if blk = 8 && (r.off = 0x81000 || r.off = 0x82000 || r.off = 0x83000) then 64 * j
    else r.reset

end Sys2Proof.Machine
end

