-- ==== Sys2Proof/Machine/State.lean ====
section
/-! DEFINITION. The state of the block: plain data. Registers that software reads live in `regs`, keyed by their
address above 0x20_0000_0000 (Machine/RegMap.lean names them); what the manual describes beside them lives in the
structures of this file. A table (`Tab`) holds an entry only for a unit that has left its reset state. -/
namespace Sys2Proof.Machine

/-! ### Priad engines -/

/-- What an engine waits for (R155, R190 to R195, R401, R466). `d` is the destination register. -/
inductive Wait where
  | none
  /-- `rwait`; `until`: PIXEL clock of the timeout. -/
  | ring (d : Nat) (timeout : Option Nat)
  /-- `wline`, both forms, on head `h`. -/
  | line (d h target : Nat)
  /-- `wframe` on head `h`: frame starts still to come, the FSEQ of the last one that came, and the PIXEL clock of arrival
  (R192). -/
  | frame (d h left fs came : Nat)
  /-- `wtime`: the time waited for. -/
  | time (d : Nat) (a : Nat)
  /-- `rulesync`; `act`: an activation was BUSY at its arrival and has not ended (R466). -/
  | rulesync (act : Bool)
  /-- It waits for its own stores to complete within one instruction (R165). -/
  | busy
  | step
deriving DecidableEq, Repr

/-- A sconce core (R136, R137) or a line sequencer (R211, R213). -/
structure Engine where
  /-- General registers g1 to g31 (R136). -/
  g : Tab Dword := []
  /-- Program counter, 40 bits; of a sequencer 14 (R136, R211). -/
  pc : Nat := 0
  /-- The system registers that hold a value of their own, by number (R137). -/
  sr : Tab Dword := []
  /-- PIXEL clock of the last start, and instructions completed since (R137, R174). -/
  startAt : Nat := 0
  retired : Nat := 0
  /-- What it waits for (R155, R190 to R195, R401, R466). -/
  wait : Wait := .none
  /-- Imprecise store refusals not yet taken, oldest first: address, and the word of the store if known (R161). -/
  impr : List (Nat × Option Nat) := []
  /-- Tag buffer (R207). -/
  tb : List Byte := List.replicate 32 0
  /-- A debugger is attached through JTAG (R151, R214). -/
  dbg : Bool := false
  /-- PIXEL clock at which the watchdog period began (R173, R176). -/
  kickAt : Nat := 0
  /-- PIXEL clock from which a sequencer counts its run (R219). -/
  runAt : Nat := 0
  /-- The budget in force for this run, and whether its overrun has been counted (R219, R223). -/
  budget : Nat := 0
  overrun : Bool := false
  /-- The budget record of this frame is out (R219). -/
  budgetLogged : Bool := false
  /-- Frame starts since the last `commit` of a sequencer (R220). -/
  sinceCommit : Nat := 0
  /-- A halt into this state of R173 waits for the stores in flight, or for `rulesync` or `timerestep` (R152, R175). -/
  halting : Option Nat := none
deriving DecidableEq, Repr

/-! ### Bus and protection -/

/-- An access in flight: it has passed its initiator's check and carries the tags of that moment (R463, R466). -/
structure Access where
  /-- Who issued it, what it does, where, on how many bytes, and the bytes of a write (R454, R459). -/
  src : Src
  kind : AccKind
  addr : Nat
  len : Nat
  data : List Byte
  /-- Rule set and epoch of its initiator at that moment (R463). -/
  set : Nat
  epoch : Nat
  /-- The word of the store instruction that issued it (R156, R159). -/
  word : Option Nat := none
  /-- The address of that instruction (R215, R223). -/
  pc : Nat := 0
deriving DecidableEq, Repr

/-- Register halves held and captured (R573) and accesses in flight (R466). -/
structure Bus where
  /-- Low half held by a 64-bit register, by key. -/
  held : Tab Word := []
  /-- High half captured by a read of the low half, by 2^32 × initiator + key of the low half. -/
  capt : Tab Word := []
  /-- Accesses between the check at the initiator and that at the target (R466). -/
  inflight : List Access := []
  /-- Rule set of the activation in progress (R464). -/
  actSet : Nat := 0
  /-- Ways that the L2 SRAM window covers (R171). -/
  l2Ways : Nat := 0
  /-- A change of SRAM_WAYS is under way, which stalls L2 misses (R171). -/
  waysDue : Bool := false
  /-- Ranges of DRAM that a write of a non-cacheable window is cleaning: first address, and the first beyond (R171). -/
  ncDue : List (Nat × Nat) := []
  /-- Frame SRAM banks removed (R538). -/
  banksOut : List Nat := []
  /-- Maintenance under way, by channel: the PIXEL clock at which it ends; and of those the scrub bursts (R126). -/
  maint : Tab Nat := []
  scrubs : Tab Nat := []
deriving DecidableEq, Repr

/-- A fault record (R479). -/
structure Rec where
  /-- STAMP32, UNIT, CLASS and RSEQ (R479). -/
  stamp : Nat
  unit : Nat
  cls : Nat
  rseq : Nat
  /-- First and second address, and detail (R479). -/
  addr1 : Nat
  addr2 : Nat
  detail : Nat
deriving DecidableEq, Repr

/-- The queue of the fault log (R481, R482). -/
structure LogQ where
  /-- Records that wait to be posted, oldest first (R481). -/
  queue : List Rec := []
  /-- Records lost since the last LOG_OVERFLOW record. -/
  lost : Nat := 0
  /-- The last 8 records raised, latest first (R508, R518). -/
  recent : List Rec := []
  /-- STAMP32 of the last record that was not suppressed, by 2^40 × class + key of the rate limit. -/
  last : Tab Nat := []
deriving DecidableEq, Repr

/-- A check-value job as submitted (R474): descriptor address, descriptor bytes, submitting core with its level. -/
structure ChkJob where
  at_ : Nat
  desc : List Byte
  src : Src
deriving DecidableEq, Repr

/-! ### Raster -/

/-- Timing in force on a timebase (R93). -/
structure Timing where
  hactive : Nat := 3840
  htotal : Nat := 4400
  vactive : Nat := 2160
  vtotal : Nat := 2250
  num : Nat := 60
  den : Nat := 1
deriving DecidableEq, Repr

/-- A raster timebase (R88 to R112). Times are PIXEL clocks, phases 1/1024 line. -/
structure Timebase where
  /-- FSEQ, and the line under way (R88). -/
  fseq : Nat := 0
  line : Nat := 0
  /-- The current line started at this PIXEL clock, with this TIME64 sample, and lasts this long (R92). -/
  lineAt : Nat := 0
  lineT64 : Nat := 0
  lineLen : Nat := 8888
  /-- The exact end of the current line lies this fraction of a PIXEL clock after the end so fixed; lines and frames carry it on,
  so that no part of the step of R88 is lost. -/
  carry : Nat × Nat := (8, 9)
  /-- DISP of the next line as latched by the vigil, TIME64 (R53, R61). -/
  dispNext : Nat := 0
  /-- FRAME_START has run and LINE_START of line 0 has not. -/
  fresh : Bool := true
  /-- The timing in force (R93). -/
  timing : Timing := {}
  /-- REF in force: source, fallback, pulse divider less 1 (R96). -/
  src : Nat := 0
  fallback : Nat := 0
  pulseDiv : Nat := 0
  /-- The head sends lines (R95). -/
  sending : Bool := false
  /-- Arrival of the last accepted pulse, and the spacings between accepted pulses with how many expected pulses each
  spans, latest first, 8 at most (R99). -/
  lastPulse : Option Nat := none
  spacings : List (Nat × Nat) := []
  /-- Expected pulses since the last accepted one whose windows have ended (R100). -/
  missed : Nat := 0
  /-- Pulses of a candidate step or of the agreement in ACQUIRE, oldest first (R101, R102). -/
  cand : List Nat := []
  /-- Consecutive accepted pulses inside LOCK_WIN (R107). -/
  lockRun : Nat := 0
  /-- Frame starts since the last accepted pulse (R107). -/
  freeFrames : Nat := 0
  /-- Measured rate that the applied offset moves toward, and frames of that move still to come (R103). -/
  goal : Int := 0
  slewLeft : Nat := 0
  /-- Applied offsets of the last 64 frames, latest first, 0.01 ppm (R108). -/
  offHist : List Int := []
  /-- The holdover rate (R108). -/
  holdRate : Int := 0
  /-- Change of length planned for the next vertical blanking, and that of the frame under way (R103, R104). -/
  walk : Int := 0
  walkNow : Int := 0
  /-- One-step correction due at the next frame start (R105). -/
  stepDue : Option Int := none
  /-- LOCKED has been entered in PTP mode; FSEQ is to be loaded (R112). -/
  loadDue : Bool := false
  /-- A glitch record of this frame is out (R100). -/
  glitchLogged : Bool := false
  /-- FSEQ of the frame whose underrun record is out, and FSEQ and number of the last line counted (R123). -/
  underrunLogged : Option Nat := none
  underrunAt : Option (Nat × Nat) := none
  /-- FSEQ of the next frame as known at the apply point of the frame under way, `none` before it (R127). -/
  succ : Option Nat := none
deriving DecidableEq, Repr

/-- The genlock inputs: arrival of the last pulse (R97, R130). -/
structure GlIn where
  at0 : Option Nat := none
  at1 : Option Nat := none
deriving DecidableEq, Repr

/-- A commit unit: heads 0 to 47, spans 48 to 63 (R116 to R119, R127, R577). -/
structure CommitUnit where
  /-- A SEALED bank waits for its apply, and a further request waits behind it (R117, R119). -/
  sealed : Bool := false
  queued : Bool := false
  /-- FSEQ of the frame whose apply point the sealed bank does not take (R118). -/
  skip : Option Nat := none
  /-- Hold in force less 1 (R127, R577). -/
  hold : Nat := 0
  /-- Records limited to one per unit per frame (R118, R199). -/
  lateLogged : Bool := false
  placeLogged : Bool := false
  /-- The transfer of an apply is under way (R120). -/
  applying : Bool := false
deriving DecidableEq, Repr

/-! ### Windows and vigil -/

/-- A bank's image of a window: the 16 words of its descriptor, armed for a pick, removed (R198 to R202, R226). -/
structure WinBank where
  words : List Word
  arm : Bool
  remove : Bool
deriving DecidableEq, Repr

/-- A tag as latched: the address it was read from and its 32 bytes (R40). -/
structure Latched where
  at_ : Nat
  bytes : List Byte
deriving DecidableEq, Repr

/-- A window (R225 to R233) with what the vigil keeps of it (R52 to R65). The OPEN image, or the free descriptor,
stands in the registers of COMP. -/
structure Win where
  /-- Unit that owns the descriptor: in its OPEN, SEALED or active state (R226). -/
  unit : Option Nat := none
  /-- The OPEN bank arms the window for a pick, or removes it (R198, R200). -/
  openArm : Bool := false
  openRemove : Bool := false
  /-- Image in the SEALED bank (R117). -/
  sealed : Option WinBank := none
  /-- Active image. -/
  act : Option (List Word) := none
  /-- The tag latched, and that of the last good picture (R40, R73). -/
  tag : Option Latched := none
  lastGood : Option Latched := none
  /-- Withheld by a program since this PIXEL clock (R203), and the withhold to end at the next frame start. -/
  withheld : Option Nat := none
  release : Bool := false
  /-- Reference SEQ and the STREAM it belongs to (R56). -/
  refSeq : Option Nat := none
  refStream : Nat := 0
  /-- SEQ and STREAM of the tag latched last, which a change of source does not forget (R55). -/
  lastSeq : Option (Nat × Nat) := none
  /-- ADV is to be set on the first line that shows the picture, or on the first line after a change of STREAM (R56). -/
  advDue : Bool := false
  streamDue : Bool := false
  /-- Verdict and reason of the pick checks (R57). -/
  pick : Nat × Nat := (0, 0)
  /-- Those of the frame before, which hold to its last line (R57). -/
  pickWas : Nat × Nat := (0, 0)
  /-- SKIP_RUN found since the last commit that latched a picture (R65). -/
  runHeld : Bool := false
  /-- Reasons of an INTEGRITY and an UNVERIFIED held to the next frame start, 0 for none (R63, R65). -/
  heldInt : Nat := 0
  heldUnv : Nat := 0
  /-- Echo timeout found since the last frame start (R82). -/
  echoLost : Bool := false
  /-- Age and progress verdict of the next line, as voted (R54, R56, R61). -/
  evald : Nat × Nat := (0, 0)
  /-- Verdict of the last vote (R86), the one to deliver, the one the snuff stage holds and the one the compositor
  draws (R60, R61). -/
  last : Nat × Nat := (0, 0)
  next : Nat × Nat := (0, 0)
  /-- The verdict of the next line without what ends at the coming frame start, for the composition of line 0 (R62,
  R65). -/
  freshV : Nat × Nat := (0, 0)
  /-- Verdict that the snuff stage holds, and that with which the compositor draws (R60, R61). -/
  snuff : Nat × Nat := (0, 0)
  comp : Nat × Nat := (0, 0)
  /-- Effective bounds of the frame: stale, freeze, N (R51). -/
  bounds : Nat × Nat × Nat := (250000, 250000, 50)
  /-- Verdict of INJECT to report on one line: instance plus 1, 0 for none (R87). -/
  inject : Nat := 0
  /-- TWIN_DISAGREE logged in this frame (R85). -/
  twinLogged : Bool := false
deriving DecidableEq, Repr

/-- A window-line in a head's line buffer (R58 to R61, R235). -/
structure WinLine where
  /-- Window, and EXPECTED (R59). -/
  win : Nat
  expected : Nat
  /-- The compositor has drawn the window's treatment (R60). -/
  rendered : Bool
  /-- Path reason of R58, 0 for none. -/
  path : Nat
  /-- Columns of the line that are this window's pixels (R251). -/
  cols : List Nat
  /-- The picture whose pixels were composed, where no treatment was drawn (R74). -/
  pic : Option Latched
  /-- As sent: CRC of the pixels, substituted by the snuff stage, verdict and reason carried, valid bit. -/
  sent : Nat := 0
  altered : Bool := false
  verdict : Nat := 0
  reason : Nat := 0
  valid : Bool := true
  seq : Nat := 0
  /-- SENT differs from EXPECTED (R59). -/
  mismatch : Bool := false
  /-- Left edge and width of the window, and its ECHO_REQ, when the line was sent (R82, R354). -/
  x : Nat := 0
  dw : Nat := 0
  echo : Bool := false
deriving DecidableEq, Repr

/-- A line of a head: composed, or as it leaves (R61, R351 to R354). -/
structure Line where
  /-- Line number, and FSEQ of its frame. -/
  no : Nat := 0
  fseq : Nat := 0
  /-- Its pixels, and its window-lines. -/
  pix : List Pix := []
  wins : List WinLine := []
  /-- LVALID of its header; the buffer holds a line (R354, R61). -/
  lvalid : Bool := true
  full : Bool := false
  /-- DISP of the line (R53). -/
  disp : Nat := 0
deriving DecidableEq, Repr

/-- What a head keeps beside its registers. -/
structure Head where
  /-- COMP.BG in the active state and in the SEALED bank (R116, R117). -/
  bgAct : Word := 0
  bgSealed : Word := 0
  /-- The line composed for the next line start, and the line under way (R61), with the PIXEL clock at which it started. -/
  composed : Line := {}
  sent : Line := {}
  sentAt : Nat := 0
  /-- SENT of every window-line of the last ECHO_TIMEOUT lines, latest first: line, FSEQ, window, CRC, and whether its echo has
  been judged or was never asked for (R82). -/
  hist : List (Nat × Nat × Nat × Nat × Bool) := []
  /-- Ceilings and colours of the frame (R52): CEIL_STALE, CEIL_FREEZE, CEIL_SKIP_N, FILL, CLOVE_HATCH, colours 1 to 7. -/
  ceil : List Nat := [60000000, 60000000, 4096, 0x202020, 0xF0D000,
    0xFFB000, 0x4A2C16, 0x00C8DC, 0xFFB000, 0xFF00FF, 0xFF00FF, 0x808080]
  /-- TWIN and ECHO_TIMEOUT of the frame (R52). -/
  twin : Bool := false
  echoTimeout : Nat := 64
  /-- Withhold of a time step (R401): 0 none, 1 asked for since `stepAt`, 2 the step is made, 3 the frame after it. -/
  stepHold : Nat := 0
  stepAt : Nat := 0
  /-- Lines to hand to the Dravio array: lines sent and not yet packed into blocks. -/
  outq : List Line := []
  /-- Pixels of the first of them, or of the line under way, that are packed (R362). -/
  outAt : Nat := 0
  /-- Lane group and hop that the head's lines go to (R360). -/
  map : Option (Nat × Nat) := none
deriving DecidableEq, Repr

/-- The vigil's instances and voter (R77 to R80, R575). -/
structure Vigil where
  /-- An instance has dissented in this vigil frame, and its run of frames with a dissent. -/
  dissent : List Bool := [false, false, false]
  run : List Nat := [0, 0, 0]
  dissentLogged : List Bool := [false, false, false]
  /-- Return to service, or a test, waits for the vigil frame start. -/
  restore : List Bool := [false, false, false]
  /-- RETIRE_CFG as taken at a vigil frame start (R52, R575). -/
  retireFrames : Nat := 8
deriving DecidableEq, Repr

/-- A copy job (R242): copy set, source tag, and once an engine runs it its slot. -/
structure CopyJob where
  set : Nat
  src : Latched
  slot : Nat := 0
deriving DecidableEq, Repr

/-- The scaler bank (R238 to R243). -/
structure Scaler where
  /-- Jobs that wait, oldest first, and those of the engines (R242). -/
  queue : List CopyJob := []
  engines : Tab CopyJob := []
  /-- Set of the load under way (R239). -/
  loading : Option Nat := none
deriving DecidableEq, Repr

/-! ### Fuses -/

/-- A fused boot key: its SHA-384 hash, and whether it has been revoked (R531, R532). -/
structure BootKey where
  hash : List Byte
  revoked : Bool := false
deriving DecidableEq, Repr

/-- What the fuses hold (R34, R36, R528, R540, R541): the member, its stepping, and the records written to them. The
counts of the family parameter block follow from the member by the table of R36. -/
structure Fuses where
  /-- STEP and MEMBER (R34, R36). -/
  step : Nat := 1
  member : Nat := 4
  /-- Banks that this start has read (R528). -/
  repairRead : Bool := false
  mainRead : Bool := false
  /-- Repair records (R540) and fence records (R541: unit code, with VALID at bit 8), in the order written. -/
  repairs : List (BitVec 32) := []
  fences : List Nat := []
  /-- Life fuses blown (R518). -/
  life : Nat := 0
  /-- The SECURE fuse (R532). -/
  secure : Bool := false
  /-- The three reads of the repair bank of this start have failed (R528). -/
  repairBad : Bool := false
  /-- The boot key hashes, by KEY; `none` where no key is fused (R528, R531). -/
  keys : List (Option BootKey) := [none, none, none, none]
  /-- The analog trims of the repair bank (R528). -/
  trims : List Byte := []
deriving DecidableEq, Repr

/-! ### Power, heat and ageing -/

/-- The power stage and the governor (R489 to R510). Times are PIXEL clocks. -/
structure Power where
  /-- The start holds (R498). -/
  held : Bool := false
  /-- The input stage is open above VIN_OV (R490). -/
  inputOpen : Bool := false
  /-- The part stays OFF until VIN passes VIN_RESET or RESET_N (R510). -/
  holdOff : Bool := false
  /-- RESET_N is low (R527). -/
  resetLow : Bool := false
  /-- SHED_LEVEL has been above 0 since; neither condition of R502 has held since. -/
  shedSince : Option Nat := none
  calmSince : Option Nat := none
  /-- PIN has been above CAP_EFF at the highest level since, and the episode is logged (R502). -/
  unmetSince : Option Nat := none
  unmet : Bool := false
  /-- PIN has stayed at or below CAP_EFF − 6 W since (R501). -/
  lowSince : Option Nat := none
  /-- Ride-through: its start and the least HOLDUP in mV (R505). -/
  rtAt : Nat := 0
  rtLeast : Nat := 0
  /-- Power-on seconds at the automatic restarts, latest first (R510). -/
  restarts : List Nat := []
  /-- PIXEL clock of the last stop or shutdown (R510). -/
  offAt : Option Nat := none
  /-- PIXEL clock at which the inrush or the start step under way began (R494, R496). -/
  stepAt : Nat := 0
  /-- Latches of the VAON logic: a hard trip, and lost domains of a clock stop (R509, R514). -/
  tripLatch : Bool := false
  clockLatch : Option Nat := none
  /-- Domains now lost, a bit each in the order of LOCK (R17, R18, R20). -/
  domLost : Nat := 0
  /-- Domains measured more than 2 % off, in the same order (R536). -/
  domOff : Nat := 0
  /-- Pacing (R497): last work or admission of each paced unit by code, lane group l at 256 + l; the last admissions. -/
  wake : Tab Nat := []
  wakeAt : Option Nat := none
  laneAt : Option Nat := none
  /-- Energy that HOLDUP held above 14 V at PIXEL clock `huAt`, in 1/12 nJ (0.1 W for one PIXEL clock), and the HOLDUP voltage
  measured last in mV, which stands where no capacitance is known (R495, R503). -/
  huE : Nat := 0
  huAt : Nat := 0
  huMv : Nat := 0
  /-- The charger's draw in 0.1 W (R499). -/
  chg : Nat := 0
  /-- HOLDUP serves a ride-through: its capacitance suffices and it holds its charge (R495). -/
  huOk : Bool := false
  /-- Power-on seconds since VAON came up (R510, R515). -/
  onSecs : Nat := 0
deriving DecidableEq, Repr

/-- The temperature sensors (R511, R512). -/
structure Sensors where
  /-- PIXEL clock since which a sensor is excluded, by sensor. -/
  exclAt : Tab Nat := []
  /-- The low-temperature halt is in force (R512). -/
  lowHalt : Bool := false
  /-- PIXEL clock of the last step of the thermal cap (R513). -/
  capAt : Nat := 0
deriving DecidableEq, Repr

/-- The life ledger (R515 to R519): seconds, and equivalent time in 1/1000 s. -/
structure Ledger where
  /-- Power-on seconds, and those of each temperature band and VIN band (R515). -/
  secs : Nat := 0
  tband : List Nat := [0, 0, 0, 0, 0, 0, 0, 0]
  vband : List Nat := [0, 0, 0, 0, 0, 0]
  /-- EQ in 1/1000 s (R515). -/
  eq : Nat := 0
  /-- EQ at the last whole power-on hours, latest first, 721 at most (R517). -/
  marks : List Nat := []
  /-- Number of the last record, and the slot it stands in (R518). -/
  seq : Nat := 0
  slot : Nat := 0
  /-- Power-on seconds at the last hourly record (R518). -/
  hourAt : Nat := 0
  /-- The record being written, and how many are to follow it (R518). -/
  busy : Option (List Byte) := none
  due : Nat := 0
deriving DecidableEq, Repr

/-- In-service test and boot (R526 to R544). -/
structure TestU where
  /-- Unit under in-service test and the state it had. -/
  unit : Option Nat := none
  prior : Nat := 0
  /-- Attempts of start tests that ended in CONDITIONS, by unit (R536). -/
  tries : Tab Nat := []
  /-- PIXEL clock of the last of them (R536). -/
  tryAt : Nat := 0
  /-- The soft repairs now applied, as records of R540, in the order allocated. -/
  soft : List (BitVec 32) := []
  /-- Fuse command in progress: OP and unit; VIN has dipped meanwhile (R541). -/
  fuse : Option (Nat × Nat) := none
  abandon : Bool := false
  /-- A fuse was blown or a hard repair made since SERVICE was entered (R525). -/
  dirty : Bool := false
  /-- Channel of the hard post-package repair in progress (R542). -/
  ppr : Option Nat := none
  /-- The boot unit addresses the flash with 4 bytes (R529). -/
  addr4 : Bool := false
  /-- PIXEL clock of the entry into BOOT (R565). -/
  bootEntry : Nat := 0
  /-- PIXEL clock at which the boot watchdog began, while it runs (R534). -/
  bootAt : Option Nat := none
deriving DecidableEq, Repr

/-! ### Streams: intake, decode, encode (R260 to R329) -/

/-- An RTP packet as intake holds it (R271 to R274): its buffer, its header and what R278 needs of it. -/
structure RxPkt where
  /-- Sequence number, timestamp and marker of its header (R271). -/
  seq : Nat
  ts : Nat
  marker : Bool
  /-- ARRIVAL, and the port (R271, R278). -/
  arr : Nat
  port : Nat
  /-- RFC 6051 time of the header extension (R278). -/
  ntp : Option Nat
  /-- Its payload, and its buffer (R270, R275). -/
  pay : List Byte
  buf : Nat
  /-- PIXEL clock of its arrival (R274). -/
  pix : Nat := 0
deriving DecidableEq, Repr

/-- An access unit under assembly, or ready since `rdy` (R275, R289). -/
structure Au where
  /-- Timestamp, ARRIVAL, RFC 6051 time and port of its first packet (R275, R278). -/
  ts : Nat
  arr : Nat
  ntp : Option Nat
  port : Nat
  /-- Bytes and NAL units so far (R275). -/
  size : Nat := 0
  nals : Nat := 0
  /-- A packet of it was lost; a slice of it serves as a reference. -/
  lost : Bool := false
  isRef : Bool := false
  /-- TIME64 at which it was ready (R289). -/
  rdy : Nat := 0
deriving DecidableEq, Repr

/-- A decoded picture in a slot of its pool (R278, R285, R294, R295, R298). -/
structure PicSlot where
  /-- Timestamp, ARRIVAL and RFC 6051 time of its unit (R278). -/
  ts : Nat
  arr : Nat
  ntp : Option Nat
  /-- Size, 10 bits a sample, and transfer (R285, R298). -/
  width : Nat
  height : Nat
  ten : Bool
  transfer : Nat
  /-- IMPAIRED; a random-access picture; areas coded (R295, R298). -/
  impaired : Bool
  rap : Bool
  coded : Nat
deriving DecidableEq, Repr

/-- A stream context (R260 to R279), video or audio, with what R446 and R450 keep of an audio stream. -/
structure Ctx where
  /-- The SSRC has been learned; PIXEL clock of its last packet (R272). -/
  learned : Bool := false
  ssrcAt : Nat := 0
  /-- A packet has been accepted since the window began (R273). -/
  started : Bool := false
  /-- Open gaps, oldest first, with the PIXEL clock at which the first packet after each arrived (R273). -/
  gaps : List (Nat × Nat) := []
  /-- Sequence numbers declared lost, and how far H has come since the window began, up to half the number space (R273
  steps 3 and 5). -/
  lost : List Nat := []
  since : Nat := 0
  /-- Packets that wait behind a gap, in sequence order, and the far-ahead candidate (R273). -/
  held : List RxPkt := []
  cand : Option RxPkt := none
  /-- Packets that have left the window in the MEDIA clock of their arrival, without their payload (R274). -/
  now : List RxPkt := []
  /-- Times that the context has been opened: what tells a frame of one opening from the next (R264, R370). -/
  opens : Nat := 0
  /-- The last sequence number that went to depacketisation. -/
  lastOut : Option Nat := none
  /-- The access unit under assembly (R275). -/
  asm : Option Au := none
  /-- Bytes so far of the fragmented NAL unit under way and whether it is a reference (R275). -/
  fu : Option (Nat × Bool) := none
  /-- Units that wait for the pipe, oldest first (R289). -/
  ready : List Au := []
  /-- PIXEL clock of the last packet from networks A and B, and whether its silence is logged (R262, R274). -/
  netA : Option Nat := none
  netB : Option Nat := none
  silentA : Bool := false
  silentB : Bool := false
  /-- Decoded pictures, by slot (R285). -/
  slots : Tab PicSlot := []
  /-- The active sequence parameter set (R281). -/
  sps : Option Sps := none
  /-- No picture since that of the last recovery point SEI, itself included, has had a concealed area (R295). -/
  clean : Bool := false
  /-- Slots that the decoder refers to (R284). -/
  dpb : List Nat := []
  /-- CAPTURE of the last 16 tags, latest first, and the run of SKIPALL tags (R262, R298). -/
  caps : List Nat := []
  run : Nat := 0
  /-- PIXEL clock of the first picture decoded since the open (R290). -/
  measFrom : Option Nat := none
  /-- The parameter sets of R276 are to be fed before the next access unit. -/
  psetDue : Bool := true
  /-- Luma samples decoded in the last second, with the PIXEL clock of each picture (R262, R290). -/
  work : List (Nat × Nat) := []
  /-- PIXEL clock of the last key-picture request (R296). -/
  kpAt : Option Nat := none
  /-- The RTP timestamp of the capture-time mapping in force; ANCHOR_RTP may have been written since (R278). -/
  mapRtp : Nat := 0
  /-- Playout buffer: first frame and end as unwrapped timestamps, and the packets in it as first frame, length and the
  capture time that came with it, latest first (R446). -/
  playStart : Nat := 0
  playEnd : Nat := 0
  playCap : List (Nat × Nat × Option Nat) := []
  /-- Frames for which a channel pair stays muted (R450). -/
  mute : Tab Nat := []
  /-- TX audio: next frame of the source side to send, its timestamp, once a packet has gone (R449). -/
  txAt : Option (Nat × Nat) := none
  /-- The last FIR command sequence number that a TX context received (R325). -/
  firRx : Option Nat := none
deriving DecidableEq, Repr

/-- A decode pipe (R284 to R292). -/
structure Pipe where
  /-- The access unit under way with its context, and the slot taken for it. -/
  job : Option (Nat × Au) := none
  slot : Option Nat := none
  /-- MARK 0xEE is still to be written to that slot, once the applies in progress have completed (R284). -/
  markDue : Bool := false
  /-- The PIXEL clock up to which its busy time is counted, and the busy time of the picture under way (R291, R292). -/
  countAt : Nat := 0
  work : Nat := 0
  /-- Measurement of R291: samples decoded and PIXEL clocks busy in this span, its start, good spans in a row; samples of the
  picture under way that have been counted. -/
  pixels : Nat := 0
  busy : Nat := 0
  spanAt : Nat := 0
  good : Nat := 0
  counted : Nat := 0
deriving DecidableEq, Repr

/-- The intake's tables (R267 to R270): rules by index, the command under way, packet buffers in use. -/
structure Intake where
  /-- Rules by index (R267). -/
  rules : Tab (List Word) := []
  /-- OP, INDEX and staged words of the command under way (R268). -/
  cmd : Option (Nat × Nat × List Word) := none
  /-- Packet buffers in use (R270). -/
  bufs : List Nat := []
deriving DecidableEq, Repr

/-- A picture of an encode session (R310 to R322). -/
structure EncPic where
  /-- Key picture; DISP of its line 0. -/
  key : Bool
  disp : Nat
  /-- Lines of input that have come, and rows coded (R310). -/
  linesIn : Nat := 0
  row : Nat := 0
  /-- Bits spent, and the bits of each row coded. -/
  spent : Nat := 0
  rowBits : List Nat := []
  /-- Budget, repayment and weighted bits, once row 0 is coded (R316). -/
  plan : Option (Nat × Nat × Nat) := none
  /-- QP of the picture, and whether it is in exhaust mode (R318, R321). -/
  qp : Nat := 0
  exhaust : Bool := false
  /-- b of R316, KEY_W, QPMIN and QPMAX as the picture began (R306). -/
  b : Nat := 0
  keyW : Nat := 4
  qpMin : Nat := 0
  qpMax : Nat := 51
  /-- Abandoned: the rest is coded grey (R314). -/
  grey : Bool := false
  /-- The pipe that codes it (R308, R313). -/
  pipe : Nat := 0
  /-- Bits of the slice under way (R317). -/
  slice : Nat := 0
  /-- The lines that the pipe holds of the rows not yet coded, oldest first, converted and padded: the Y samples, and with
  every second line the Cb and Cr samples of the pair; Cb and Cr of a line whose pair is still to come (R304, R307, R310). -/
  input : List (List Nat × List (Nat × Nat)) := []
  half : List (Nat × Nat) := []
deriving DecidableEq, Repr

/-- An encode session (R303 to R325). -/
structure Sess where
  /-- Pictures under way, oldest first (R310). -/
  pics : List EncPic := []
  /-- Bits of each row in the previous key and inter picture (R318). -/
  lastKey : List Nat := []
  lastInter : List Nat := []
  /-- Pictures since the last key picture, and its start (R315). -/
  sinceKey : Nat := 0
  keyAt : Option Nat := none
  /-- The first source of the pending request: 1 host, 2 PLI, 3 FIR. -/
  reqBy : Nat := 0
  /-- The next picture is a key picture for a reason other than GOP or a request (R315). -/
  mustKey : Bool := true
  /-- Pictures coded to their end, which name the half of the reference area that takes the reconstruction (R307). -/
  count : Nat := 0
deriving DecidableEq, Repr

/-! ### Network and time (R382 to R408) -/

/-- What a frame waiting to be sent came from (R387 to R389). -/
inductive TxFrom where
  /-- A key-picture request of R296. -/
  | keypic (c : Nat)
  /-- A packet of a TX context on its first or second network (R324, R449). -/
  | media (c net : Nat)
  /-- A host entry: COOKIE, FLAGS, PTPOFS (R388). -/
  | host (cookie flags ptpofs : Nat)
deriving DecidableEq, Repr

/-- A frame waiting in a queue of a port, 1 highest to 4 (R387). -/
structure TxFrame where
  q : Nat
  from_ : TxFrom
  bytes : List Byte
deriving DecidableEq, Repr

/-- Ports: the queued frames of each, the last frame sent, and from when each network of a TX context may send again
under PACE (R387, R324). -/
structure Net where
  queues : Tab (List TxFrame) := []
  sent : Tab (List Byte) := []
  pace : Tab Nat := []
  /-- PIXEL clock since which what R384 asks of a port has held, as far as PORT_UP and PORT_DOWN tell. -/
  since : Tab Nat := []
deriving DecidableEq, Repr

/-- The servo of the time unit (R397 to R401). -/
structure Servo where
  /-- Offsets counted in UNSET, latest first, and the SAMPLE_AT of the previous sample (R397, R398). -/
  counted : List Int := []
  prevAt : Option Nat := none
  /-- The next accepted sample only sets the reference (R398). -/
  needRef : Bool := false
  /-- Runs of samples inside and outside LOCK_NS, and of outliers (R398, R399). -/
  inRun : Nat := 0
  outRun : Nat := 0
  outliers : Nat := 0
  /-- A clamp of R398 binds. -/
  clamped : Bool := false
  /-- PIXEL clock from which HOLD_MS counts (R400). -/
  quietAt : Nat := 0
  /-- The step under way: A, whether it is the first step, its core, and the state to return to (R401). -/
  step : Option (Int × Bool × Nat × Nat) := none
  /-- `timerestep`s that wait: A and core (R401). -/
  waiting : List (Int × Nat) := []
deriving DecidableEq, Repr

/-! ### Audio (R433 to R453) -/

/-- A reader of a transmit side: one source, a stream or a receive side (R442, R443). -/
structure Reader where
  /-- Next frame to send, in frames of the source. -/
  pos : Nat := 0
  /-- It waits for its fill to reach T. -/
  wait : Bool := true
  /-- Frames since the last slip. -/
  since : Nat := 64
  /-- The age bound of R447 is in force on what it sends: code of the record. -/
  stale : Nat := 0
deriving DecidableEq, Repr

/-- Levels of a side's balls in half a BCLK period: BCLK, FS and D, `none` where the part does not drive D (R433 to R435). -/
structure Balls where
  bclk : Bool
  fs : Bool
  d : Option Bool
deriving DecidableEq, Repr

/-- A side of an audio port (R433 to R444). -/
structure Side where
  /-- Frames started since the side entered RUN (R437). -/
  count : Nat := 0
  /-- Routes in use (R440). -/
  live : List Word := []
  /-- Readers by source: context c, or 4096 + port. -/
  readers : Tab Reader := []
  /-- Receive: the frames kept, latest first, with the TIME64 of the FS edge of each; transmit: the slots on the pins,
  `none` for high impedance. -/
  frames : List (Nat × List Nat) := []
  pins : List (Option Nat) := []
  /-- The levels on the balls in the frame last started, two to a BCLK period (R434, R435). -/
  wave : List Balls := []
  /-- PIXEL clock of the first write of the shadow in its SAMPLE clock, with MASK and the routes ahead of it (R440). -/
  wrAt : Option Nat := none
  was : Word × List Word := (0, [])
  /-- Frames for which a channel pair stays muted (R450). -/
  mute : Tab Nat := []
  /-- PIXEL clock of the last frame start. -/
  last : Nat := 0
  /-- PIXEL clocks of the last FS edge, or of the start of the side, and of its last entry to CLOCK_FAULT (R438). -/
  edgeAt : Nat := 0
  faultAt : Nat := 0
deriving DecidableEq, Repr

/-! ### Dravio lanes (R330 to R381) -/

/-- A console frame on its way in (R370 to R372). -/
structure ConFrame where
  /-- FSEQ of the frame (R370). -/
  fseq : Nat
  /-- The frame has been dropped; the rest of it is passed over. -/
  dead : Bool := false
  /-- The slot it fills, its width, and 10 bits a sample (R371, R372). -/
  slot : Nat := 0
  width : Nat := 0
  ten : Bool := false
  /-- Line under way, its pixels so far, and whether its trailer has come. -/
  line : Nat := 0
  px : Nat := 0
  closed : Bool := false
  /-- TEPOCH of its time stamps (R371). -/
  epoch : Nat := 0
  /-- The opening of the context that it belongs to (R370). -/
  opens : Nat := 0
  /-- An apply in progress still holds up the mark of its slot, with the writes that wait for it: address and bytes; and the
  frame has ended meanwhile (R284, R371). -/
  markDue : Bool := false
  todo : List (Nat × List Byte) := []
  ended : Bool := false
  /-- TIME64 stamps of line 0 and of the line under way. -/
  t0 : Nat := 0
  tLast : Nat := 0
deriving DecidableEq, Repr

/-- A lane. What concerns a group stands at its lead lane (R331). -/
structure Lane where
  /-- PIXEL clock at which the stage began, and since which the lane waits to restart (R341, R345). -/
  stageAt : Nat := 0
  waiting : Option Nat := none
  /-- Consecutive failures in stage 8, and the PIXEL clocks of the last exits from UP, latest first (R345, R346). -/
  fails8 : Nat := 0
  downs : List Nat := []
  /-- The last 64 blocks, latest first: discarded or not (R346). -/
  window : List Bool := []
  /-- The receiver has passed stage 6; the partner has said that its own has; the end has left TRAIN (R341). -/
  trained : Bool := false
  ready : Bool := false
  left : Bool := false
  /-- Consecutive TRAIN blocks with a good HCHK, advancing BSEQ and a zero payload but for RX_READY (R341). -/
  trainRun : Nat := 0
  /-- Blocks of a group's members that wait for those before them: member, header and payload, in arrival order (R343). -/
  early : List (Nat × Nat × List Byte) := []
  /-- Next group block to send, and the next one expected (R331, R340). -/
  txG : Nat := 0
  rxG : Option Nat := none
  /-- PIXEL clock of the last CAP sent (R344). -/
  capAt : Option Nat := none
  /-- Agreed rates, transmit and receive, and the group block from which they hold (R344). -/
  switch : Option (Nat × Nat × Nat) := none
  /-- Packets that wait: SCAN, and all other control and cascade packets (R362). -/
  scans : List (List Byte) := []
  ctl : List (List Byte) := []
  /-- The group sends no line packets since R361 failed at UP. -/
  stopped : Bool := false
  /-- STATUS bits last received, by hop, and hops above 0 whose lantern supports echo, a bit each (R355, R365). -/
  status : Tab Nat := []
  hopEcho : Nat := 0
  /-- The console frame on its way in, and FSEQ of the last one (R370, R371). -/
  con : Option ConFrame := none
  lastFseq : Option Nat := none
  /-- When the last beacon arrived, in PIXEL clocks (R346). -/
  beaconAt : Nat := 0
  /-- PRBS31 generator, and the reference of the checker once it has taken its first 31 bits (R377). -/
  prbs : Nat := 0
  prbsRef : Option Nat := none
  /-- Line bits of the last block sent, first bit first (R333 to R338). -/
  out : List Bool := []
deriving DecidableEq, Repr

/-! ### Console touch (R409 to R432) -/

/-- A tracked touch (R418). Positions are those before the transforms of R417. -/
structure Touch where
  /-- ID, position and pressure (R418). -/
  id : Nat
  x : Nat
  y : Nat
  z : Nat
  /-- Node of its peak. -/
  d : Nat
  s : Nat
  /-- Where and when its still timer started (R420). -/
  sx : Nat
  sy : Nat
  stillAt : Nat
  /-- It waits for a self frame (R419). -/
  unchecked : Bool := false
  /-- No report has carried it yet. -/
  down : Bool := true
deriving DecidableEq, Repr

/-- A peak, or a candidate that waits for its self frame since `at_` (R417, R419). -/
structure Peak where
  d : Nat
  s : Nat
  x : Nat
  y : Nat
  z : Nat
  delta : Int
  at_ : Nat := 0
deriving DecidableEq, Repr

/-- A scan whose frame is not complete (R413, R415). -/
structure Scan where
  /-- SCAN number, profile, and self or mutual (R413). -/
  no : Nat
  profile : Nat
  self : Bool
  /-- STAMP32 and PIXEL clock of the trigger's arrival. -/
  stamp : Nat
  at_ : Nat
  /-- Values by line or node that have come (R415). -/
  vals : List (Option Nat)
deriving DecidableEq, Repr

/-- A command to a sense head that is under way (R411). -/
structure SenseCmd where
  /-- Operation, tag and arguments (R411). -/
  op : Nat
  tag : Nat
  args : List Byte
  /-- PIXEL clock at which it was sent last, and how often (R411). -/
  at_ : Nat
  tries : Nat := 1
deriving DecidableEq, Repr

/-- A touch panel. -/
structure Panel where
  /-- Touches, candidates, and the last ID given (R418, R419). -/
  touches : List Touch := []
  cands : List Peak := []
  lastId : Nat := 63
  /-- Baselines in 1/256 count: of nodes and of self lines (R416). -/
  nodeB : List Nat := []
  selfB : List Nat := []
  /-- Lines found OPEN, SHORT and in a PAIR fault, a bit each as in R428. -/
  open_ : Nat := 0
  short : Nat := 0
  pair : Nat := 0
  /-- Self frames of this SETTLE; the next mutual frame sets the node baselines (R423). -/
  settle : List (List Nat) := []
  first : Bool := true
  /-- PIXEL clocks of the last complete frame of each kind (R416). -/
  lastMut : Option Nat := none
  lastSelf : Option Nat := none
  /-- Self lines to re-baseline from the next self frame (R420). -/
  redo : List Nat := []
  /-- Tokens in 1/1,200,000,000 token, and the PIXEL clock up to which they are counted (R426). -/
  tok : Nat := 0
  tokAt : Nat := 0
  /-- PIXEL clock of the last frame that held a touch or a candidate, or of the entry to RUN (R425). -/
  active : Nat := 0
  /-- The scan under way (R413). -/
  scan : Option Scan := none
  /-- PIXEL clock at which a SCAN was sent whose LAST packet has not come (R374), and the next SCAN number. -/
  busy : Option Nat := none
  nextScan : Nat := 0
  /-- RSEQ of the next report (R427), the command under way, those that wait, and the next tag (R411). -/
  rseq : Nat := 0
  cmd : Option SenseCmd := none
  todo : List (List Byte) := []
  nextTag : Nat := 0
deriving DecidableEq, Repr

/-! ### The whole -/

/-- What the manual's time unit keeps beside its registers (R88, R392 to R401). -/
structure TimeU where
  /-- PIXEL clocks since the PIXEL domain started (R11). -/
  pix : Nat := 0
  /-- Network time in units of 2^-32 ns (R393). -/
  acc : Nat := 0
  /-- The servo has been LOCKED once (R110). -/
  everLocked : Bool := false
  /-- PIXEL clock at which RASTER left reset, and TIME64 then (R88). -/
  rasterAt : Nat := 0
  rasterT64 : Nat := 0
deriving DecidableEq, Repr

/-- The state of the block. -/
structure State where
  /-- The commands that wait, the oldest first (log entry 1). -/
  pending : List Instr
  /-- The registers of every unit, by key: those that no longer hold their reset value, or were written (R6, R7). -/
  regs : Tab Word
  /-- DRAM, frame SRAM and the L2 SRAM window (R21, R22). -/
  mem : List Host.Cell
  /-- ECC words that are poisoned (R30). -/
  poison : List Nat
  /-- Dirty bytes of the L2, by address (R163). -/
  dirty : Tab Byte
  /-- Halves of 64-bit registers, accesses in flight, the SRAM banks and the channels under maintenance (R126, R463, R573). -/
  bus : Bus
  /-- The fault log (R481, R482). -/
  log : LogQ
  /-- PIXEL clocks, and the network time that they carry (R11, R392). -/
  time : TimeU
  /-- PIXEL clock at which FILL of a ring rose from 0 (R471). -/
  rose : Tab Nat
  /-- The jobs of the check-value units (R474). -/
  chk : Tab (List ChkJob)
  /-- Sconce cores 0 to 15, and from 16 on the line sequencers (R136, R211). -/
  eng : Tab Engine
  /-- Timebases of the heads, by head (R88). -/
  tbs : Tab Timebase
  /-- The genlock inputs (R97). -/
  glin : GlIn
  /-- Commit units (R116). -/
  units : Tab CommitUnit
  /-- What the heads keep beside their registers. -/
  heads : Tab Head
  /-- What the windows keep beside their registers. -/
  wins : Tab Win
  /-- The vigil (R77). -/
  vigil : Vigil
  /-- The scaler bank (R238). -/
  scaler : Scaler
  /-- The fuses (R34, R541). -/
  fuses : Fuses
  /-- The boot flash; bytes not listed are erased (R530). -/
  flash : List Host.Cell
  /-- The power stage (R489). -/
  power : Power
  /-- The temperature sensors (R511). -/
  sensors : Sensors
  /-- The life ledger (R515). -/
  ledger : Ledger
  /-- Tests, fuse commands and the boot watchdog (R534 to R546). -/
  test : TestU
  /-- Stream contexts (R260). -/
  ctxs : Tab Ctx
  /-- Decode pipes (R284). -/
  pipes : Tab Pipe
  /-- Intake (R267). -/
  intake : Intake
  /-- Encode sessions (R303). -/
  sess : Tab Sess
  /-- The PIXEL clock at which an encode pipe became busy or last finished a row (R312). -/
  encAt : Tab Nat
  /-- Queues of the ports, and what they have sent (R387). -/
  net : Net
  /-- The servo (R397). -/
  servo : Servo
  /-- Sides of the audio ports (R433). -/
  sides : Tab Side
  /-- Dravio lanes (R330). -/
  lanes : Tab Lane
  /-- Touch panels (R409). -/
  panels : Tab Panel
  /-- Local memories of the line sequencers: byte `o` of sequencer n at 0x4000 × n + o (R211, R224). -/
  seqMem : List Host.Cell
  /-- 32-bit words of the local memories with an uncorrectable error, by index in `seqMem` / 4 (R216). -/
  seqBad : List Nat
  /-- Pulses on TRIG_OUT0 to TRIG_OUT3: PIXEL clock at which the last one ends (R204). -/
  trigOut : Tab Nat
  /-- How many free values have been drawn (log entry 2): the model's own, not the manual's. -/
  free : Nat
deriving DecidableEq, Repr

/-- No command of this model ends in a fault: the manual answers what goes wrong by a record, a status or an exception,
and that is the next state. So nobody raises one, and that is safe. -/
inductive Fault where
deriving DecidableEq, Repr

/-- What the model does not do. -/
inductive Refusal where
  /-- Raised by the arm of `exec` of a command that is not modelled, which none is: safe, as the run ends there. -/
  | notModelled (mnemonic : String)
deriving DecidableEq, Repr

/-- The machine right after reset: every table is empty, so that every unit and register holds its reset value (R6, R525). -/
def State.reset : State :=
  { pending := [], regs := [], mem := [], poison := [], dirty := [], bus := {}, log := {}, time := {}, rose := [], chk := [],
    eng := [], tbs := [], glin := {}, units := [], heads := [], wins := [], vigil := {}, scaler := {}, fuses := {}, flash := [], power := {}, sensors := {}, ledger := {}, test := {}, ctxs := [], pipes := [], intake := {}, sess := [], encAt := [], net := {}, servo := {}, sides := [], lanes := [], panels := [], seqMem := [], seqBad := [], trigOut := [], free := 0 }

end Sys2Proof.Machine
end

