-- ==== Sys2Proof/Machine/Ops.lean ====
section
/-! DEFINITION. The operations that every family shares: sparse tables, cells of memory, bit fields, registers and
their fields, event counters, time, free values, fault records and check values. -/
namespace Sys2Proof.Machine

/-! ### Sparse tables -/

/-- The entry of key `k`, if the table holds one. -/
def tabGet? {α : Type} : Tab α → Nat → Option α
  | [], _ => none
  | (j, a) :: t, k => if j = k then some a else tabGet? t k

/-- The entry of key `k`, or the default. -/
def tabGet {α : Type} (d : α) (t : Tab α) (k : Nat) : α := (tabGet? t k).getD d

/-- The table with entry `a` at key `k`. -/
def tabSet {α : Type} : Tab α → Nat → α → Tab α
  | [], k, a => [(k, a)]
  | (j, b) :: t, k, a =>
    if k < j then (k, a) :: (j, b) :: t
    else if k = j then (k, a) :: t
    else (j, b) :: tabSet t k a

/-- The table without an entry at key `k`. -/
def tabErase {α : Type} : Tab α → Nat → Tab α
  | [], _ => []
  | (j, b) :: t, k => if j = k then tabErase t k else (j, b) :: tabErase t k

/-! ### Cells: memories in canonical form -/

/-- The byte at address `a` of a memory whose unlisted bytes read `d`. -/
def cellGet (d : Byte) : List Host.Cell → Nat → Byte
  | [], _ => d
  | (b, w) :: m, a => if b = a then w else cellGet d m a

/-- The memory with byte `v` at address `a`: addresses stay rising, and a byte equal to `d` is not listed. -/
def cellSet (d : Byte) : List Host.Cell → Nat → Byte → List Host.Cell
  | [], a, v => if v = d then [] else [(a, v)]
  | (b, w) :: m, a, v =>
    if a < b then (if v = d then (b, w) :: m else (a, v) :: (b, w) :: m)
    else if a = b then (if v = d then m else (a, v) :: m)
    else (b, w) :: cellSet d m a v

/-- `vs` written from address `a` on. -/
def cellWrite (d : Byte) (m : List Host.Cell) (a : Nat) : List Byte → List Host.Cell
  | [] => m
  | v :: vs => cellWrite d (cellSet d m a v) (a + 1) vs

/-- `n` bytes read from address `a` on. -/
def cellRead (d : Byte) (m : List Host.Cell) (a : Nat) : Nat → List Byte
  | 0 => []
  | n + 1 => cellGet d m a :: cellRead d m (a + 1) n

/-- The canonical form of a memory whose unlisted bytes read `d`: addresses strictly rising, no entry equal to `d`. -/
def cellsWf (d : Byte) : List Host.Cell → Bool
  | [] => true
  | [(_, w)] => w != d
  | (a, v) :: (b, w) :: m => v != d && decide (a < b) && cellsWf d ((b, w) :: m)

/-! ### Bits and bytes -/

/-- Bits [lo + w − 1 : lo] of `n` (R5). -/
def bits (n lo w : Nat) : Nat := n / 2 ^ lo % 2 ^ w

/-- Bit `i` of `n`. -/
def bitAt (n i : Nat) : Bool := n / 2 ^ i % 2 = 1

/-- `n` with bit `i` made `b`. -/
def setBit (n i : Nat) (b : Bool) : Nat :=
  if bitAt n i = b then n else if b then n + 2 ^ i else n - 2 ^ i

/-- Number of ones among bits 0 to k − 1. -/
def popCount (n : Nat) : Nat → Nat
  | 0 => 0
  | k + 1 => popCount n k + n / 2 ^ k % 2

/-- `n` read as a signed number of `w` bits. -/
def sint (w n : Nat) : Int :=
  let m := n % 2 ^ w
  if m < 2 ^ (w - 1) then (m : Int) else (m : Int) - 2 ^ w

/-- `i` modulo 2^w. -/
def uint (w : Nat) (i : Int) : Nat := (i % (2 ^ w : Nat)).toNat

/-- Little-endian value of a list of bytes (R5). -/
def leNat : List Byte → Nat
  | [] => 0
  | b :: bs => b.toNat + 256 * leNat bs

/-- The low `n` bytes of `v`, least significant first (R5). -/
def leBytes (v : Nat) : Nat → List Byte
  | 0 => []
  | n + 1 => BitVec.ofNat 8 (v % 256) :: leBytes (v / 256) n

/-- Big-endian value of a list of bytes, as network headers hold it. -/
def beNat (bs : List Byte) : Nat := bs.foldl (fun n b => n * 256 + b.toNat) 0

/-- The low `n` bytes of `v`, most significant first. -/
def beBytes (v n : Nat) : List Byte := (leBytes v n).reverse

/-- Bytes `i` to `i + n − 1` of a list, zeros beyond its end. -/
def slice (bs : List Byte) (i n : Nat) : List Byte :=
  let t := (bs.drop i).take n
  t ++ List.replicate (n - t.length) 0

/-- Entry `i` of a list with a default. -/
def nth {α : Type} (d : α) (l : List α) (i : Nat) : α := l.getD i d

/-- Whether `n` is a sequence number later than `m` among numbers of `w` bits (R484). -/
def seqLater (w n m : Nat) : Bool :=
  let d := (n + 2 ^ w - m % 2 ^ w) % 2 ^ w
  1 ≤ d && d < 2 ^ (w - 1)

/-- Bounds of a field that reads as the nearer end outside its range. -/
def clamp (lo hi n : Nat) : Nat := max lo (min hi n)

/-- n / d rounded up. -/
def divUp (n d : Nat) : Nat := (n + d - 1) / d

/-! ### Check values (R41, R473) -/

/-- One bit of a reflected CRC with polynomial `p`. -/
def crcBitR (p c : Nat) : Nat := if c % 2 = 1 then (c / 2) ^^^ p else c / 2

/-- One bit of a CRC of `w` bits, most significant bit first. -/
def crcBitF (w p c : Nat) : Nat :=
  if c / 2 ^ (w - 1) % 2 = 1 then ((c * 2) % 2 ^ w) ^^^ p else (c * 2) % 2 ^ w

/-- `f` applied `n` times. -/
def iter {α : Type} (f : α → α) : Nat → α → α
  | 0, a => a
  | n + 1, a => iter f n (f a)

/-- A byte into a reflected CRC. -/
def crcByteR (p c : Nat) (b : Byte) : Nat := iter (crcBitR p) 8 (c ^^^ b.toNat)

/-- A byte into an unreflected CRC of `w` bits. -/
def crcByteF (w p c : Nat) (b : Byte) : Nat := iter (crcBitF w p) 8 (c ^^^ (b.toNat * 2 ^ (w - 8)))

/-- CRC-32C state after the bytes, from state `c` (reflected 0x1EDC_6F41). -/
def crc32cFrom (c : Nat) (bs : List Byte) : Nat := bs.foldl (crcByteR 0x82F63B78) c

/-- CRC-32C of the bytes (R41). -/
def crc32c (bs : List Byte) : Nat := crc32cFrom 0xFFFFFFFF bs ^^^ 0xFFFFFFFF

/-- Width in bytes of a code of R473. -/
def polyWidth : Nat → Nat
  | 0 => 4
  | 1 => 4
  | 2 => 2
  | _ => 1

/-- Initial state of a code of R473. -/
def polyInit : Nat → Nat
  | 0 => 0xFFFFFFFF
  | 1 => 0xFFFFFFFF
  | 2 => 0xFFFF
  | _ => 0xFF

/-- State of a code of R473 after the bytes. -/
def polyFrom (p c : Nat) (bs : List Byte) : Nat :=
  match p with
  | 0 => crc32cFrom c bs
  | 1 => bs.foldl (crcByteR 0xEDB88320) c
  | 2 => bs.foldl (crcByteF 16 0x1021) c
  | _ => bs.foldl (crcByteF 8 0x2F) c

/-- Final XOR of a code of R473. -/
def polyFinal (p c : Nat) : Nat :=
  match p with
  | 0 => c ^^^ 0xFFFFFFFF
  | 1 => c ^^^ 0xFFFFFFFF
  | 2 => c
  | _ => c ^^^ 0xFF

/-! ### Registers -/

/-- The field's value in a register word. -/
def Fld.of (f : Fld) (r : Word) : Nat := bits r.toNat f.lo f.w

/-- The register word with the field made `v`. -/
def Fld.ins (f : Fld) (r : Word) (v : Nat) : Word :=
  let n := r.toNat
  BitVec.ofNat 32 (n - bits n f.lo f.w * 2 ^ f.lo + v % 2 ^ f.w * 2 ^ f.lo)

/-- The stored word of a key, 0 without one. -/
def rawReg (t : Tab Word) (key : Nat) : Word := tabGet 0 t key

/-- Layout of the context that `key` lies in (R260, R261): 0 the layout of R262, 1 video TX, 2 audio RX, 3 audio TX. -/
def ctxLayout (t : Tab Word) (key : Nat) : Nat :=
  if isCtxOwn key then
    let base := key - key % 0x80
    match (rawReg t base).toNat % 16 with
    | 3 => 2
    | 5 => if (rawReg t (base + 0x0C)).toNat % 4 = 1 then 3 else 1
    | _ => 0
  else 0

/-- The stored value of the register at `key`: what was last written, or its reset value (R6, R7). -/
def State.reg (s : State) (key : Nat) : Word :=
  match tabGet? s.regs key with
  | some w => w
  | none => BitVec.ofNat 32 (regReset (ctxLayout s.regs key) key)

/-- The state with the register at `key` storing `w`. -/
def State.setReg (s : State) (key : Nat) (w : Word) : State := { s with regs := tabSet s.regs key w }

/-- The stored value of a field. -/
def State.get (s : State) (f : Fld) : Nat := f.of (s.reg f.key)

/-- The state with a field made `v`; the register's other bits stay. -/
def State.put (s : State) (f : Fld) (v : Nat) : State := s.setReg f.key (f.ins (s.reg f.key) v)

/-- A field of one bit. -/
def State.on (s : State) (f : Fld) : Bool := s.get f = 1

/-- The state with a field of one bit made `b`. -/
def State.putB (s : State) (f : Fld) (b : Bool) : State := s.put f (if b then 1 else 0)

/-- Bit `i` of the register of a field. -/
def State.bit (s : State) (f : Fld) (i : Nat) : Bool := bitAt (s.get f) i

/-- The state with bit `i` of a field made `b`. -/
def State.putBit (s : State) (f : Fld) (i : Nat) (b : Bool) : State := s.put f (setBit (s.get f) i b)

/-- A 64-bit register (R573). -/
def State.get64 (s : State) (key : Nat) : Nat := (s.reg key).toNat + 2 ^ 32 * (s.reg (key + 4)).toNat

/-- The state with a 64-bit register made `v`. -/
def State.put64 (s : State) (key v : Nat) : State :=
  (s.setReg key (BitVec.ofNat 32 v)).setReg (key + 4) (BitVec.ofNat 32 (v / 2 ^ 32))

/-- A field read as a signed number. -/
def State.getI (s : State) (f : Fld) : Int := sint f.w (s.get f)

/-- The state with a field holding a signed number. -/
def State.putI (s : State) (f : Fld) (v : Int) : State := s.put f (uint f.w v)

/-- An event counted by the saturating counter at a field's register (R483). -/
def State.bump (s : State) (f : Fld) : State :=
  let n := (s.reg f.key).toNat
  s.setReg f.key (if 2 ^ 31 - 1 ≤ n then 0xFFFFFFFF else BitVec.ofNat 32 (n + 1))

/-- `n` events counted by a saturating counter. -/
def State.bumpN (s : State) (f : Fld) (n : Nat) : State :=
  if n = 0 then s else
  let m := (s.reg f.key).toNat
  s.setReg f.key (if 2 ^ 31 ≤ m + n then 0xFFFFFFFF else BitVec.ofNat 32 (m + n))

/-! ### Time -/

/-- PIXEL clocks in a microsecond, a millisecond and a second (R11). -/
def clkUs : Nat := 1200
def clkMs : Nat := 1200000
def clkS : Nat := 1200000000

/-- NET clock edges up to a PIXEL clock: 390.625 MHz against 1.2 GHz (R11). -/
def netEdges (pix : Nat) : Nat := pix * 1000 / 3072

/-- One nanosecond of the network time, which is held in a fraction of 2^-32 ns (R393). -/
def nsUnit : Nat := 2 ^ 32

/-- Network time in TAI ns (R393). -/
def State.time64 (s : State) : Nat := s.time.acc / nsUnit % 2 ^ 64

/-- What a NET clock adds to the network time at the applied rate, 2.56 ns × (1 + RATE × 10^-12) in 2^-32 ns, to the nearest
(R393). Mark: DESIGN CHOICE, log entry 135. -/
def State.netStep (s : State) : Nat := roundDiv (256 * nsUnit * (1000000000000 + s.getI F.TIME_RATE).toNat) 100000000000000

/-- Network time `d` PIXEL clocks ago, at the rate now applied. -/
def State.timeAgo (s : State) (d : Nat) : Nat :=
  (s.time.acc - (netEdges s.time.pix - netEdges (s.time.pix - d)) * s.netStep) / nsUnit % 2 ^ 64

/-- TIME64 in µs modulo 2^32 (R392). -/
def stampOf (t64 : Nat) : Nat := t64 / 1000 % 2 ^ 32

/-- STAMP32 now. -/
def State.stamp32 (s : State) : Nat := stampOf s.time64

/-- NET is lost (R16). -/
def State.netLost (s : State) : Bool := bitAt s.power.domLost 6

/-- `t` PIXEL clocks pass: TIME64 grows at every NET clock edge (R393), and stands while NET is lost (R509). -/
def State.advance (s : State) (t : Nat) : State :=
  let pix := s.time.pix + t
  let n := if s.netLost then 0 else netEdges pix - netEdges s.time.pix
  { s with time := { s.time with pix := pix, acc := (s.time.acc + n * s.netStep) % (2 ^ 64 * nsUnit) } }

/-- A free value of `w` bits, and the state that has used it up (log entry 2). -/
def State.freeVal (s : State) (w : Nat) : Nat × State :=
  ((Config.freeValue s.free).toNat % 2 ^ w, { s with free := s.free + 1 })

/-- `n` bytes of free values. -/
def State.freeBytes (s : State) : Nat → List Byte × State
  | 0 => ([], s)
  | n + 1 =>
    let (f, s) := s.freeVal 8
    let (l, s) := s.freeBytes n
    (leBytes f 1 ++ l, s)

/-! ### Fault records (R479 to R483) -/

/-- The register block, in the order of R24, whose unit logs a class (R479). -/
def classUnit (cls detail : Nat) : Nat :=
  if cls ≤ 0x08 then 16
  else if cls ≤ 0x0A then 17
  else if cls ≤ 0x0D then 18
  else if cls ≤ 0x0F then 21
  else if cls ≤ 0x13 then 20
  else if cls ≤ 0x1F then 0
  else if cls ≤ 0x2F then 13
  else if cls ≤ 0x3F then 9
  else if cls ≤ 0x48 then 5
  else if cls ≤ 0x4E then 6
  else if cls = 0x4F then (if 9 ≤ bits detail 24 8 then 8 else 7)
  else if cls = 0x50 || (cls = 0x51 && bits detail 16 8 = 4) || cls = 0x53 || cls = 0x58 || cls = 0x59 then 10
  else if cls ≤ 0x57 then 11
  else if cls ≤ 0x5F then 12
  else if cls ≤ 0x6F then 4
  else if cls ≤ 0x77 then 2
  else if cls ≤ 0x7B then 0
  else if cls ≤ 0x7F then 3
  else if cls ≤ 0x8F then 1
  else if cls ≤ 0x9F then 14
  else if cls ≤ 0xAF then 15
  else if cls ≤ 0xB8 then 19
  else 0

/-- The eight words of a record (R479). -/
def Rec.words (r : Rec) : List Word :=
  [BitVec.ofNat 32 r.stamp, BitVec.ofNat 32 (r.unit % 256 + 0x100 * (r.cls % 256) + 0x10000 * (r.rseq % 0x10000)),
   BitVec.ofNat 32 r.addr1, BitVec.ofNat 32 (r.addr1 / 2 ^ 32), BitVec.ofNat 32 r.addr2, BitVec.ofNat 32 (r.addr2 / 2 ^ 32),
   BitVec.ofNat 32 r.detail, BitVec.ofNat 32 (r.detail / 2 ^ 32)]

/-- The 32 bytes of a record (R479). -/
def Rec.bytes (r : Rec) : List Byte := (r.words.map (fun w => leBytes w.toNat 4)).flatten

/-- Words stored in consecutive registers. -/
def State.setRegs (s : State) (key : Nat) : List Word → State
  | [] => s
  | w :: ws => (s.setReg key w).setRegs (key + 4) ws

/-- Whether a record of `cls` with rate-limit key `x` is suppressed (R482). -/
def State.suppressed (s : State) (cls x : Nat) : Bool :=
  match tabGet? s.log.last (cls * 2 ^ 40 + x) with
  | none => false
  | some t => 0 ≤ sint 32 (s.stamp32 + 2 ^ 32 - t) && sint 32 (s.stamp32 + 2 ^ 32 - t) ≤ 1000000

/-- A fault record is raised (R481 to R483). `lim` is the key X of a limit 'at most once per X per second'. -/
def State.raise (s : State) (cls a1 a2 detail : Nat) (lim : Option Nat := none) : State :=
  let now := s.stamp32
  let supp := match lim with
    | none => false
    | some x => s.suppressed cls x
  let rseq := s.get F.FAULT_NEXT_RSEQ
  let s := (s.bump (F.FAULT_CLASS_COUNT (cls % 256))).putBit (F.FAULT_CLASS_SEEN (cls % 256 / 32)) (cls % 32) true
  let r : Rec := ⟨now, classUnit cls detail, cls, if supp then (rseq + 0xFFFF) % 0x10000 else rseq, a1, a2, detail⟩
  let s := (s.setRegs (F.FAULT_LAST 0).key r.words).putB F.FAULT_LAST_STATE_SUPPRESSED supp
  let s := { s with log := { s.log with recent := (r :: s.log.recent).take 8 } }
  if supp then s.bump F.FAULT_SUPPRESSED
  else
    let s := s.put F.FAULT_NEXT_RSEQ (rseq + 1)
    let s := match lim with
      | none => s
      | some x => { s with log := { s.log with last := tabSet s.log.last (cls * 2 ^ 40 + x) now } }
    if s.log.queue.length < 256 then { s with log := { s.log with queue := s.log.queue ++ [r] } }
    else { s.bump F.FAULT_LOST with log := { s.log with lost := s.log.lost + 1 } }

end Sys2Proof.Machine
end

