-- ==== Sys2Proof/Machine/Prot.lean ====
section
/-! DEFINITION. The family's counts, the address map, the protection checks at both ends of an access, memory with its
ECC, and the ring fabric (R21 to R36, R454 to R472). -/
namespace Sys2Proof.Machine

/-! ### The family parameter block (R34 to R36) -/

/-- The entry of a row of R36 for a member, 1 to 4. -/
def byMember (m a b c d : Nat) : Nat :=
  match m with
  | 1 => a
  | 2 => b
  | 3 => c
  | _ => d

def State.nHeads (s : State) : Nat := byMember s.fuses.member 2 8 16 32
def State.nVheads (s : State) : Nat := byMember s.fuses.member 2 4 8 16
def State.nSpans (s : State) : Nat := byMember s.fuses.member 2 8 16 16
def State.nSeqs (s : State) : Nat := byMember s.fuses.member 4 12 24 48
def State.nDec (s : State) : Nat := byMember s.fuses.member 1 4 8 16
def State.nEnc (s : State) : Nat := byMember s.fuses.member 1 2 4 8
def State.nSlices (s : State) : Nat := byMember s.fuses.member 2 3 5 10
def State.nSconce (s : State) : Nat := byMember s.fuses.member 4 8 12 16
def State.nLanes (s : State) : Nat := byMember s.fuses.member 8 16 32 64
def State.nPorts (s : State) : Nat := byMember s.fuses.member 1 2 4 4
def State.nAudio (s : State) : Nat := byMember s.fuses.member 4 8 16 16
def State.nTouch (s : State) : Nat := byMember s.fuses.member 2 8 16 32
def State.nCtx (s : State) : Nat := byMember s.fuses.member 256 1024 2048 4096
def State.nWins (s : State) : Nat := byMember s.fuses.member 256 512 1024 2048
def State.dramGib (s : State) : Nat := byMember s.fuses.member 8 16 32 64
def State.sramMib (s : State) : Nat := byMember s.fuses.member 8 16 32 64

/-- Whether the member has head `h`, 0 to 31 for H0 to H31 and 32 to 47 for V0 to V15 (R36, R88). -/
def State.hasHead (s : State) (h : Nat) : Bool :=
  if h < 32 then h < s.nHeads else h < 48 && h - 32 < s.nVheads

/-- The six words of the family parameter block once the fuses are loaded (R35, R36). -/
def State.fpb (s : State) : List Nat :=
  [s.fuses.step % 256 + 0x100 * s.fuses.member + 0x5E1C0000,
   s.nHeads + 0x100 * s.nVheads + 0x10000 * s.nSpans + 0x1000000 * s.nSeqs,
   s.nDec + 0x100 * s.nEnc + 0x10000 * s.nSlices + 0x1000000 * s.nSconce,
   s.nLanes + 0x100 * s.nPorts + 0x10000 * s.nAudio + 0x1000000 * s.nTouch,
   s.nCtx + 0x10000 * s.nWins,
   s.dramGib + 0x10000 * s.sramMib]

/-- Word `i` of the family parameter block as it reads: zero until the fuses are loaded (R34). -/
def State.fpbWord (s : State) (i : Nat) : Nat := if s.fuses.mainRead then s.fpb.getD i 0 else 0

/-- Channels of the member, as a power of two (R36, R571). -/
def State.logChan (s : State) : Nat := byMember s.fuses.member 2 3 4 5

/-- XOR of the `m`-bit fields of `u` (R571), at most 32 of them. -/
def xorFields (m : Nat) : Nat → Nat → Nat
  | 0, _ => 0
  | n + 1, u => (u % 2 ^ m) ^^^ xorFields m n (u / 2 ^ m)

/-- The channel on which a DRAM address lies (R571). -/
def State.channelOf (s : State) (a : Nat) : Nat := xorFields s.logChan 32 (a / 256 % 2 ^ 32)

/-! ### The address map (R21 to R24, R170) -/

/-- A region of the address map. -/
inductive Region where
  | dram
  | fsram
  | l2sram
  | l2ctl
  | regs
  | unmapped
deriving DecidableEq, Repr

/-- Usable DRAM ends here (R22). -/
def State.dramEnd (s : State) : Nat := s.dramGib * 2 ^ 30 / 32 * 31

/-- Ways held as SRAM; values above 12 read as 12 (R172). -/
def State.sramWays (s : State) : Nat := min 12 (s.get F.L2_SRAM_WAYS)

/-- Ways that the L2 SRAM window covers: a change counts once it is done (R171). -/
def State.windowWays (s : State) : Nat := min 12 s.bus.l2Ways

/-- Frame SRAM bank `b` of 256 KiB is unmapped: removed (R538) or reserved for a test (R543). -/
def State.bankOut (s : State) (b : Nat) : Bool :=
  s.bus.banksOut.contains b || s.bit (F.TEST_SRAM_RESERVE (b / 32)) (b % 32)

/-- The region that an address lies in. -/
def State.region (s : State) (a : Nat) : Region :=
  if a < s.dramEnd then .dram
  else if 0x1000000000 ≤ a && a < 0x1000000000 + s.sramMib * 2 ^ 20 then
    (if s.bankOut ((a - 0x1000000000) / 0x40000) then .unmapped else .fsram)
  else if 0x1080000000 ≤ a && a < 0x1080000000 + s.windowWays * 0x80000 then .l2sram
  else if 0x1082000000 ≤ a && a < 0x1082001000 then .l2ctl
  else if 0x2000000000 ≤ a && a < 0x2001600000 then .regs
  else .unmapped

/-- The key of the register at an address of the register space. -/
def regKey (a : Nat) : Nat := if a < 0x2000000000 then 22 * 0x100000 + (a - 0x1082000000) else a - 0x2000000000

/-- The address of the register at a key. -/
def keyAddr (k : Nat) : Nat := if 22 * 0x100000 ≤ k then 0x1082000000 + (k - 22 * 0x100000) else 0x2000000000 + k

/-- Whether a region is register space. -/
def Region.isReg : Region → Bool
  | .regs => true
  | .l2ctl => true
  | _ => false

/-! ### Rule sets (R454 to R462) -/

def State.engine (s : State) (k : Nat) : Engine := tabGet {} s.eng k
def State.setEngine (s : State) (k : Nat) (e : Engine) : State := { s with eng := tabSet s.eng k e }

/-- PSTATE of an engine: bit 0 KEEPER, bit 1 IE, bit 2 EX; KEEPER is 1 at reset (R137). -/
def Engine.pstate (e : Engine) : Nat := (tabGet 1 e.sr 1).toNat
def Engine.keeper (e : Engine) : Bool := bitAt e.pstate 0

/-- The level of an access that an initiator issues now: by PSTATE.KEEPER for a core, else as the table of R454 marks the
initiator. -/
def State.atKeeperLevel (s : State) : Initiator → Bool
  | .core c => (s.engine c.val).keeper
  | .selfTest => true
  | .boot => true
  | .jtag => true
  | .log => true
  | _ => false

/-- The tag of an access that an initiator issues now (R454). -/
def State.issuer (s : State) (i : Initiator) : Src := ⟨i.id, s.atKeeperLevel i⟩

/-- Rule set bound to initiator `i` (R465). -/
def State.setOf (s : State) (i : Nat) : Nat := s.get (F.PROT_BIND i)

/-- Current epoch of rule set `n` (R463). -/
def State.epochOf (s : State) (n : Nat) : Nat := s.get (F.PROT_EPOCH n)

/-- First and last address of region entry `r` of copy `g`: 0 ACTIVE, 1 STAGE (R457). -/
def State.regionBase (s : State) (g r : Nat) : Nat :=
  2 ^ 38 * s.get (F.REGION_BASE_HI g r) + 64 * s.get (F.REGION_BASE_LO g r)
def State.regionLast (s : State) (g r : Nat) : Nat :=
  2 ^ 38 * s.get (F.REGION_LAST_HI g r) + 64 * s.get (F.REGION_LAST_LO g r) + 63

/-- The first enabled ACTIVE region of rule set `n`, from index `i` on for `k` regions, that holds address `a`. -/
def State.findRegion (s : State) (n a : Nat) : Nat → Nat → Option Nat
  | _, 0 => none
  | i, k + 1 =>
    let r := 16 * n + i
    if s.on (F.REGION_EN 0 r) && s.regionBase 0 r ≤ a && a ≤ s.regionLast 0 r then some r
    else s.findRegion n a (i + 1) k

/-- Whether permission bits grant an access at a level (R457, R458). -/
def permOk (perm : Nat) (keeper : Bool) (k : AccKind) : Bool :=
  let o := if keeper then 3 else 0
  match k with
  | .read => bitAt perm o
  | .write => bitAt perm (o + 1)
  | .fetch => bitAt perm (o + 2)
  | .atomic => bitAt perm o && bitAt perm (o + 1)

/-- What the default map grants (R461). -/
def defaultOk (r : Region) (k : AccKind) : Bool :=
  match r with
  | .unmapped => false
  | .dram => true
  | .l2sram => true
  | _ => match k with
    | .fetch => false
    | _ => true

/-- Class of the refusal of one byte by the rules, 0 for a pass (R459 step 3, R460). -/
def State.byteClass (s : State) (src : Src) (k : AccKind) (a : Nat) : Nat :=
  match s.findRegion (s.setOf src.id) a 0 16 with
  | some r => if permOk (s.get (F.REGION_PERM 0 r)) src.keeper k then 0 else 2
  | none =>
    if src.keeper && !s.on F.PROT_CTRL_LOCKDOWN then (if defaultOk (s.region a) k then 0 else 2) else 1

/-- First byte of a transaction that the rules forbid, with its class. -/
def State.firstBad (s : State) (src : Src) (k : AccKind) (a : Nat) : Nat → Option (Nat × Nat)
  | 0 => none
  | n + 1 =>
    let c := s.byteClass src k a
    if c = 0 then s.firstBad src k (a + 1) n else some (a, c)

/-- First byte of a transaction that lies at an unmapped address (R23). -/
def State.firstUnmapped (s : State) (a : Nat) : Nat → Option Nat
  | 0 => none
  | n + 1 => if s.region a = .unmapped then some a else s.firstUnmapped (a + 1) n

/-- A transaction to register space of the width and alignment of R25. -/
def widthOk (a len : Nat) : Bool := (len = 4 && a % 4 = 0) || (len = 8 && a % 8 = 0)

def kindCode : AccKind → Nat
  | .read => 0
  | .write => 1
  | .fetch => 2
  | .atomic => 3

/-- Detail of classes 0x01 to 0x08 (R479). -/
def protDetail (src : Src) (k : AccKind) (set len tagEpoch epoch : Nat) : Nat :=
  src.id.val + (if src.keeper then 0x100 else 0) + 0x200 * kindCode k + 0x800 * set + 0x20000 * (len - 1) +
    2 ^ 32 * tagEpoch + 2 ^ 48 * epoch

/-- A refusal is counted and logged, once per initiator, class and second (R462). NO_REGION under LOCKDOWN is logged with the
KEEPER bit of the detail set, whatever the level (R460). -/
def State.refuse (s : State) (cls : Nat) (src : Src) (k : AccKind) (a bad len set tagEpoch : Nat) : State :=
  let src := if cls = 1 && s.on F.PROT_CTRL_LOCKDOWN then { src with keeper := true } else src
  (s.bump F.PROT_REFUSED).raise cls a bad (protDetail src k set len tagEpoch (s.epochOf (s.setOf src.id))) (some src.id.val)

/-- Steps 1 and 2 of R459, made at either end: the class that refuses the transaction and the forbidden byte. -/
def State.mapCheck (s : State) (a len : Nat) : Option (Nat × Nat) :=
  match s.firstUnmapped a len with
  | some b => some (4, b)
  | none => if (s.region a).isReg && !widthOk a len then some (5, a) else none

/-- The checks at the initiator (R459 steps 1 to 3, R462). -/
def State.initCheck (s : State) (src : Src) (k : AccKind) (a len : Nat) : Bool × State :=
  let set := s.setOf src.id
  match s.mapCheck a len with
  | some (c, b) => (false, s.refuse c src k a b len set (s.epochOf set))
  | none =>
    match s.firstBad src k a len with
    | some (b, c) => (false, s.refuse c src k a b len set (s.epochOf set))
    | none => (true, s)

/-- Whether the register at a key holds a WK field (R7). -/
def State.holdsWk (s : State) (key : Nat) : Bool :=
  match rowAt (ctxLayout s.regs key) key with
  | some (r, _, _) => r.wk != 0
  | none => false

/-- The member has the initiator of an ID of R454; the reserved IDs have their registers on every member (R2, R36). -/
def State.hasInitiator (s : State) (id : Nat) : Bool :=
  if id < 0x10 then id < s.nSconce
  else if id < 0x40 then s.hasHead (id - 0x10)
  else if id < 0x50 then id - 0x40 < s.nDec
  else if id < 0x58 then id - 0x50 < s.nEnc
  else if 0x60 ≤ id && id < 0x6A then id - 0x60 < s.nSlices
  else true

/-- The register at a key belongs to a unit that the member has (R2). -/
def State.keyPresent (s : State) (key : Nat) : Bool :=
  let o := key % 0x100000
  let i := fun base stride n => base ≤ o && o < base + stride * n
  match key / 0x100000 with
  | 0 => if o = 0x54 then 32 < s.nLanes else !i 0x1000 0x40 16 || (o - 0x1000) / 0x40 < s.nSconce
  | 4 => !i 0x1000 0x100 4 || (o - 0x1000) / 0x100 < s.nPorts
  | 5 => if i 0x1000 0x80 48 then s.hasHead ((o - 0x1000) / 0x80)
    else !i 0x3000 0x20 16 || (o - 0x3000) / 0x20 < s.nSpans
  | 6 => if i 0x100 8 16 then (o - 0x100) / 8 < s.nSconce else if i 0x1000 0x40 48 then s.hasHead ((o - 0x1000) / 0x40)
    else !i 0x40000 0x4000 48 || s.hasHead ((o - 0x40000) / 0x4000)
  | 7 => if i 0x40 4 10 then (o - 0x40) / 4 < s.nSlices else if i 0x1000 0x20 48 then s.hasHead ((o - 0x1000) / 0x20)
    else !i 0x20000 0x40 2048 || (o - 0x20000) / 0x40 < s.nWins
  | 8 => !i 0x30000 0x1800 48 || s.hasHead ((o - 0x30000) / 0x1800)
  | 9 => if i 0x100 4 48 then s.hasHead ((o - 0x100) / 4) else !i 0x10000 16 2048 || (o - 0x10000) / 16 < s.nWins
  | 10 => !i 0x80000 0x80 4096 || (o - 0x80000) / 0x80 < s.nCtx
  | 11 => !i 0x100 0x20 16 || (o - 0x100) / 0x20 < s.nDec
  | 12 => if i 0x100 0x20 8 then (o - 0x100) / 0x20 < s.nEnc else !i 0x1000 0x80 16 || (o - 0x1000) / 0x80 < s.nVheads
  | 13 => if i 0x200 4 32 then (o - 0x200) / 4 < s.nHeads else if i 0x300 4 32 then (o - 0x300) / 4 < s.nTouch else !i 0x1000 0x80 64 || (o - 0x1000) / 0x80 < s.nLanes
  | 14 => !i 0x1000 0x100 32 || (o - 0x1000) / 0x100 < s.nTouch
  | 15 => !i 0x1000 0x100 16 || (o - 0x1000) / 0x100 < s.nAudio
  | 16 => !i 0x400 4 128 || s.hasInitiator ((o - 0x400) / 4)
  | 19 => !i 0x100 4 8 || 8 * ((o - 0x100) / 4) < s.sramMib
  | 22 => !i 0x10 4 16 || (o - 0x10) / 4 < s.nSconce
  | _ => true

/-- Whether a User-level write reaches a WK field (R459 step 4); the registers of a unit that the member has not discard
writes without a record (R2). -/
def State.wkBad (s : State) (src : Src) (k : AccKind) (a len : Nat) : Bool :=
  !src.keeper && k == .write && (s.region a).isReg &&
    ((s.keyPresent (regKey a) && s.holdsWk (regKey a)) ||
      (len = 8 && s.keyPresent (regKey (a + 4)) && s.holdsWk (regKey (a + 4))))

/-- The first byte that R7 forbids a refused write: that of the second register of a pair when only it holds a WK field
(R462). -/
def State.wkAt (s : State) (a : Nat) : Nat := if s.keyPresent (regKey a) && s.holdsWk (regKey a) then a else a + 4

/-- Whether an access carries a stale tag (R463). -/
def State.staleTag (s : State) (x : Access) : Bool :=
  x.set != s.setOf x.src.id || x.epoch != s.epochOf x.set

/-- The checks at the target (R459, R463). -/
def State.tgtCheck (s : State) (x : Access) : Bool × State :=
  match s.mapCheck x.addr x.len with
  | some (c, b) => (false, s.refuse c x.src x.kind x.addr b x.len x.set x.epoch)
  | none =>
    let bad := if s.staleTag x then s.firstBad x.src x.kind x.addr x.len else none
    match bad with
    | some (b, _) => (false, (s.bump F.PROT_EPOCH_REFUSED).refuse 3 x.src x.kind x.addr b x.len x.set x.epoch)
    | none =>
      if s.wkBad x.src x.kind x.addr x.len then
        (false, s.refuse 6 x.src x.kind x.addr (s.wkAt x.addr) x.len x.set x.epoch)
      else (true, s)

/-! ### Memory, ECC and the L2 (R28 to R31, R163 to R169, R572) -/

/-- The ECC word that holds a byte: 32 bytes of DRAM, 8 of the SRAMs (R28). -/
def State.eccSize (s : State) (a : Nat) : Nat := if s.region a = .dram then 32 else 8
def State.eccWord (s : State) (a : Nat) : Nat := a / s.eccSize a * s.eccSize a

/-- Whether any of the bytes lies in a poisoned word (R30). -/
def State.poisoned (s : State) (a : Nat) : Nat → Bool
  | 0 => false
  | n + 1 => s.poison.contains (s.eccWord a) || s.poisoned (a + 1) n

/-- The poison that stays after the `n` bytes from `a` are written: a word written whole is poisoned no longer (R30). -/
def unpoison (p : List Nat) (size a n : Nat) : List Nat := p.filter (fun w => !(a ≤ w && w + size ≤ a + n))

/-- `bytes` written to memory at `a`, past the caches. -/
def State.memWrite (s : State) (a : Nat) (bytes : List Byte) : State :=
  { s with mem := cellWrite 0 s.mem a bytes, poison := unpoison s.poison (s.eccSize a) a bytes.length }

/-- Dirty bytes of the L2 lines that meet `n` bytes from `a` are discarded (R167, R168). -/
def dropLines (d : Tab Byte) (a n : Nat) : Tab Byte :=
  d.filter (fun e => !(a / 64 * 64 ≤ e.1 && e.1 < (a + n - 1) / 64 * 64 + 64))

/-- The dirty bytes of the line of `a`. -/
def lineBytes (d : Tab Byte) (a : Nat) : Tab Byte := d.filter (fun e => e.1 / 64 = a / 64)

/-- Every byte of the DRAM word of `a` is dirty in the L2: cores have written it whole (R30). -/
def wholeDirty (d : Tab Byte) (a : Nat) : Bool := (d.filter (fun e => e.1 / 32 = a / 32)).length = 32

/-- A line written back to DRAM (R168); a poisoned word that it writes whole is poisoned no longer (R30). -/
def State.cleanLine (s : State) (a : Nat) : State :=
  { s with mem := (lineBytes s.dirty a).foldl (fun m e => cellSet 0 m e.1 e.2) s.mem
           poison := s.poison.filter (fun w => !(w / 64 = a / 64 && wholeDirty s.dirty w))
           dirty := s.dirty.filter (fun e => e.1 / 64 ≠ a / 64) }

/-- Every dirty line of a range written back (R171). -/
def State.cleanRange (s : State) (lo hi : Nat) : State :=
  { s with mem := (s.dirty.filter (fun e => lo ≤ e.1 && e.1 < hi)).foldl (fun m e => cellSet 0 m e.1 e.2) s.mem
           poison := s.poison.filter (fun w => !(lo ≤ w && w < hi && wholeDirty s.dirty w))
           dirty := s.dirty.filter (fun e => !(lo ≤ e.1 && e.1 < hi)) }

/-- The limit key of a memory record: one per channel or bank and second (R29). -/
def State.memUnit (s : State) (a : Nat) : Nat :=
  if s.region a = .dram then s.channelOf a else (a - 0x1000000000) / 0x40000 % 256

/-- A corrected error at `a` found by a read of `ini` (R29, R572). -/
def State.eccCe (s : State) (a ini : Nat) (bit : BitVec 8) : State :=
  let u := s.memUnit a
  let det := u + 0x10000 * ini + 2 ^ 32 * bit.toNat
  if s.region a = .dram then (s.bump F.MEMC_CE_COUNT_COUNT).raise 0x10 (s.eccWord a) 0 det (some u)
  else (s.bump F.MEMC_SRAM_CE_COUNT).raise 0x12 (s.eccWord a) 0 det (some u)

/-- An uncorrectable error at `a` found by a read of `ini`: the word is poisoned (R30, R572). -/
def State.eccUe (s : State) (a ini : Nat) : State :=
  let u := s.memUnit a
  let w := s.eccWord a
  let s := { s with poison := if s.poison.contains w then s.poison else w :: s.poison }
  let det := u + 0x10000 * ini
  if s.region a = .dram then (s.bump F.MEMC_UE_COUNT_COUNT).raise 0x11 w 0 det
  else (s.bump F.MEMC_SRAM_UE_COUNT).raise 0x13 w 0 det

/-- What a read of `ini` finds in the ECC of memory, the L2 or an L1 at the word of `a` (R28 to R30, R169). Mark: DESIGN CHOICE,
log entry 121: an uncorrectable error of a line poisons the whole line, in the L2 SRAM window too. -/
def State.applyFind (s : State) (a ini : Nat) (f : MemFind) : State :=
  match f with
  | .clean => s
  | .ce b => if s.region a = .dram || s.region a = .fsram then s.eccCe a ini b else s
  | .ue => if s.region a = .dram || s.region a = .fsram then s.eccUe a ini else s
  | .l2ce => (s.bump F.L2_CE_COUNT).raise 0x14 (a / 64 * 64) 0 0 (some 0)
  | .l2ueClean => s.bump F.L2_UE_COUNT
  | .l2ueDirty =>
    let l := a / 64 * 64
    let s := { s with dirty := dropLines s.dirty a 1
                      poison := [l, l + 32].filter (fun w => !s.poison.contains w) ++ s.poison }
    (s.bump F.L2_UE_COUNT).raise 0x15 l 0 0
  | .l1parity => s.bump F.L2_L1_PARITY

/-- All that a read of `n` bytes from `a` finds, each finding at its offset from `a` (R29, R30, R572). -/
def State.applyFinds (s : State) (a n ini : Nat) (fs : List (Nat × MemFind)) : State :=
  (fs.filter (fun f => f.1 < n)).foldl (fun s f => s.applyFind (a + f.1) ini f.2) s

/-- Non-cacheable DRAM window `n` holds address `a` (R172). -/
def State.ncHit (s : State) (a n : Nat) : Bool :=
  s.on (F.L2_NC_LIMIT_EN n) && s.get (F.L2_NC_BASE n) ≤ a / 2 ^ 20 && a / 2 ^ 20 ≤ s.get (F.L2_NC_LIMIT_LAST n)

/-- Whether core `c` reaches `a` through the L2 cache: DRAM outside the non-cacheable windows, with a way to
allocate in (R164, R171, R172). Mark: DESIGN CHOICE, log entry 99: the ways held as SRAM are the highest-numbered ones, so
that bits 16 − n to 15 drop out of every WAYMASK. -/
def State.cached (s : State) (c a : Nat) : Bool :=
  s.region a = .dram && !(s.ncHit a 0 || s.ncHit a 1 || s.ncHit a 2 || s.ncHit a 3) &&
    bits (s.get (F.L2_WAYMASK c)) 0 (16 - s.sramWays) != 0

/-- A byte as the cores see it: dirty in the L2, or in memory (R163, R166). -/
def State.coreByte (s : State) (a : Nat) : Byte :=
  match tabGet? s.dirty a with
  | some b => b
  | none => cellGet 0 s.mem a

/-- Whether a core meets poison at any of the bytes: the word is poisoned and the L2 does not hold the whole of it as the
cores have written it since (R30, R163). -/
def State.corePoisoned (s : State) (a : Nat) : Nat → Bool
  | 0 => false
  | n + 1 => (s.poison.contains (s.eccWord a) && !wholeDirty s.dirty a) || s.corePoisoned (a + 1) n

/-- Bytes as the cores see them. -/
def State.coreRead (s : State) (a : Nat) : Nat → List Byte
  | 0 => []
  | n + 1 => s.coreByte a :: s.coreRead (a + 1) n

/-- The L2 holds a dirty line among those that `n` bytes from `a` meet. -/
def State.dirtyAt (s : State) (a n : Nat) : Bool := s.dirty.any (fun e => a / 64 ≤ e.1 / 64 && e.1 / 64 ≤ (a + n - 1) / 64)

/-- The `n` bytes from `a` are all dirty in the L2: an access to them hits. -/
def State.l2Hit (s : State) (a n : Nat) : Bool := (List.range n).all (fun i => (tabGet? s.dirty (a + i)).isSome)

/-- A core's access to the `n` bytes from `a` stalls until BUSY clears: an L2 miss while ways change, or an access to a range
that a non-cacheable window is taking (R171). Mark: DESIGN CHOICE, log entry 102: bytes that the model does not hold in the
L2 are a miss. -/
def State.l2Stalls (s : State) (a n : Nat) : Bool :=
  (s.bus.waysDue && s.region a = .dram && !(s.ncHit a 0 || s.ncHit a 1 || s.ncHit a 2 || s.ncHit a 3) && !s.l2Hit a n) ||
    s.bus.ncDue.any (fun r => r.1 ≤ a && a < r.2)

/-- A store of core `c` performed at its target: into the L2, or past it; a line that the L2 holds takes it in any case, so
that a core which allocates nothing there stays coherent (R164, R166, R171). -/
def State.coreWrite (s : State) (c a : Nat) (bytes : List Byte) : State :=
  if s.cached c a || s.dirtyAt a bytes.length then
    { s with dirty := (bytes.foldl (fun (p : Tab Byte × Nat) b => (tabSet p.1 p.2 b, p.2 + 1)) (s.dirty, a)).1 }
  else s.memWrite a bytes

/-- The parts of a transfer, each within one 256-byte block (R456), at most `fuel` of them. -/
def splitTx : Nat → Nat → Nat → List (Nat × Nat)
  | 0, _, _ => []
  | fuel + 1, a, n =>
    if n = 0 then [] else
    let k := min n (256 - a % 256)
    (a, k) :: splitTx fuel (a + k) (n - k)

/-- The access of `src` tagged with its rule set and that set's epoch (R463). Mark: DESIGN CHOICE, log entry 125: an access that no
instruction has issued carries the instruction address 0, which FPC shows when its target refuses it (R223). -/
def State.tagged (s : State) (src : Src) (k : AccKind) (a len : Nat) (data : List Byte)
    (word : Option Nat := none) (pc : Nat := 0) : Access :=
  ⟨src, k, a, len, data, s.setOf src.id, s.epochOf (s.setOf src.id), word, pc⟩

/-- What a unit's read of the `n` bytes from `a` returns: memory, or the stored words of registers. Mark: DESIGN CHOICE, log
entry 126: a register that reports what the block is doing reads as its stored word to a unit. -/
def State.unitBytes (s : State) (a n : Nat) : List Byte :=
  if (s.region a).isReg then
    (leBytes (if s.keyPresent (regKey a) then s.reg (regKey a) else 0).toNat 4 ++
      leBytes (if s.keyPresent (regKey (a + 4)) then s.reg (regKey (a + 4)) else 0).toNat 4).take n
  else cellRead 0 s.mem a n

/-- A read of memory by a unit: checked at both ends (R459), not snooped (R167), an error response where R23, R30 or R462 gives
one. -/
def State.unitRead (s : State) (src : Src) (a n : Nat) : Option (List Byte) × State :=
  (splitTx (n / 256 + 2) a n).foldl (fun (p : Option (List Byte) × State) t =>
    let (ok, s') := p.2.initCheck src .read t.1 t.2
    match p.1 with
    | none => (none, p.2)
    | some bs => if ok && !s'.poisoned t.1 t.2 then (some (bs ++ s'.unitBytes t.1 t.2), s') else (none, s'))
    (some [], s)

/-- The write of one transaction by a unit, which has passed its initiator's check: memory takes it past the snoop filter of
the L2 (R167); a write of a register is in flight until its target has checked and made it (R459 step 4, R466). -/
def State.unitPut (s : State) (src : Src) (a : Nat) (bytes : List Byte) : State :=
  if (s.region a).isReg then
    { s with bus := { s.bus with inflight := s.bus.inflight ++ [s.tagged src .write a bytes.length bytes] } }
  else { s with dirty := dropLines s.dirty a bytes.length }.memWrite a bytes

/-- A write by a unit: checked part by part; a refused part changes no byte (R462). -/
def State.unitWrite (s : State) (src : Src) (a : Nat) (bytes : List Byte) : Bool × State :=
  (splitTx (bytes.length / 256 + 2) a bytes.length).foldl (fun (p : Bool × State) t =>
    let (ok, s') := p.2.initCheck src .write t.1 t.2
    if ok then (p.1, s'.unitPut src t.1 ((bytes.drop (t.1 - a)).take t.2)) else (false, s')) (true, s)

/-- The checks at the initiator of a transfer that `n` may carry past a 256-byte block: part by part, until one is refused
(R456). -/
def State.transferCheck (s : State) (src : Src) (k : AccKind) (a n : Nat) : Bool × State :=
  (splitTx (n / 256 + 2) a n).foldl (fun (p : Bool × State) t => if p.1 then p.2.initCheck src k t.1 t.2 else p) (true, s)

/-! ### Rings (R467 to R472, R486) -/

/-- Entries and entry size of ring `k` (R467, R486). -/
def State.ringN (s : State) (k : Nat) : Nat := 2 ^ s.get (F.RINGS_CFG_LOG2N k)
def State.ringSize (s : State) (k : Nat) : Nat := 16 * 2 ^ s.get (F.RINGS_CFG_ESIZE k)

/-- How far index `a` of ring `k` lies beyond index `b`, modulo 2N (R467). -/
def State.ringDist (s : State) (k a b : Nat) : Nat := (a + 2 * s.ringN k - b % (2 * s.ringN k)) % (2 * s.ringN k)

/-- FILL of ring `k` (R467). -/
def State.ringFill (s : State) (k : Nat) : Nat := s.ringDist k (s.get (F.RINGS_PUT k)) (s.get (F.RINGS_GET k))

/-- Address of the entry at index `j` (R467). -/
def State.ringAddr (s : State) (k j : Nat) : Nat := s.get (F.RINGS_BASE k) * 256 + s.ringSize k * (j % s.ringN k)

/-- Whether FILL rose from 0 long enough ago (R471). -/
def State.ringAged (s : State) (k : Nat) : Bool :=
  let age := s.get (F.RINGS_ATTN_AGE k)
  match tabGet? s.rose k with
  | none => false
  | some t => age != 0 && t + age * 100 * clkUs ≤ s.time.pix

/-- The attention condition of ring `k` (R471). -/
def State.ringCond (s : State) (k : Nat) : Bool :=
  let th := max 1 (s.get (F.RINGS_THRESH k))
  let f := s.ringFill k
  match s.get (F.RINGS_ATTN_AMODE k) with
  | 1 => th ≤ f || (f != 0 && s.ringAged k)
  | 2 => th ≤ s.ringN k - f
  | _ => false

/-- The router's view of ring `k` follows its state: when FILL rose from 0, and the attention condition (R471). -/
def State.ringUpdate (s : State) (k : Nat) : State :=
  let f := s.ringFill k
  let s := if f = 0 then { s with rose := tabErase s.rose k }
    else match tabGet? s.rose k with
      | some _ => s
      | none => { s with rose := tabSet s.rose k s.time.pix }
  s.putBit (F.RINGS_ATTN_STATE (k / 32)) (k % 32) (s.ringCond k)

/-- A refusal of the ring fabric (R472). -/
def State.ringRefuse (s : State) (k code : Nat) : State :=
  (s.bump F.RINGS_REFUSED).raise 0x09 0 0 (k + 0x100 * code) (some k)

/-- A post of one entry to ring `k` on behalf of `src` (R455, R468): status 0 done, 1 full, 2 refused. -/
def State.ringPost (s : State) (src : Src) (k : Nat) (entry : List Byte) : Nat × State :=
  if !s.on (F.RINGS_CFG_EN k) then (2, s.ringRefuse k 3)
  else if s.on (F.RINGS_CFG_PMODE k) then (2, s.ringRefuse k 2)
  else if s.ringSize k != entry.length then (2, s.ringRefuse k 4)
  else if s.ringFill k = s.ringN k then (1, s)
  else
    let put := s.get (F.RINGS_PUT k)
    let (ok, s) := s.unitWrite src (s.ringAddr k put) entry
    if ok then (0, (s.put (F.RINGS_PUT k) ((put + 1) % (2 * s.ringN k))).ringUpdate k)
    else (2, s.ringRefuse k 5)

/-- A take of the oldest entry of ring `k` on behalf of `src` (R468): status 0 with the entry, 1 empty, 2 refused. -/
def State.ringTake (s : State) (src : Src) (k : Nat) : Nat × List Byte × State :=
  if !s.on (F.RINGS_CFG_EN k) then (2, [], s.ringRefuse k 3)
  else if s.on (F.RINGS_CFG_CMODE k) then (2, [], s.ringRefuse k 2)
  else if s.ringFill k = 0 then (1, [], s)
  else
    let get := s.get (F.RINGS_GET k)
    match s.unitRead src (s.ringAddr k get) (s.ringSize k) with
    | (some bs, s) => (0, bs, (s.put (F.RINGS_GET k) ((get + 1) % (2 * s.ringN k))).ringUpdate k)
    | (none, s) => (2, [], s.ringRefuse k 5)

/-- A doorbell write (R469): status 0 accepted, 2 refused. -/
def State.ringBell (s : State) (k v : Nat) (side : Bool) : Nat × State :=
  let n := s.ringN k
  if !s.on (F.RINGS_CFG_EN k) then (2, s.ringRefuse k 3)
  else if side then
    if s.on (F.RINGS_CFG_CMODE k) && s.ringDist k v (s.get (F.RINGS_GET k)) ≤ s.ringFill k
    then (0, (s.put (F.RINGS_GET k) (v % (2 * n))).ringUpdate k)
    else (2, s.ringRefuse k 1)
  else
    if s.on (F.RINGS_CFG_PMODE k) && s.ringDist k v (s.get (F.RINGS_PUT k)) ≤ n - s.ringFill k
    then (0, (s.put (F.RINGS_PUT k) (v % (2 * n))).ringUpdate k)
    else (2, s.ringRefuse k 1)

/-! ### Register writes at their target (R2, R7, R459 step 4) -/

/-- An earlier register access of the initiator has not reached its target yet (R27). -/
def State.regQueued (s : State) (src : Src) : Bool :=
  s.bus.inflight.any (fun x => x.src.id = src.id && (s.region x.addr).isReg)

/-- A write of `i` to the register at `key`, of value `v` with effect `f`: refused whole when a User-level write reaches a
WK field (R459 step 4), discarded when the member has no such unit (R2). The write has passed its initiator's check; it
waits for the register accesses that the initiator has issued before (R27). -/
def State.asWrite {w : Nat} (s : State) (i : Initiator) (key : Nat) (v : BitVec w) (f : State → State) : State :=
  let src := s.issuer i
  let a := keyAddr key
  if s.regQueued src then
    { s with bus := { s.bus with inflight := s.bus.inflight ++
        [⟨src, .write, a, w / 8, leBytes v.toNat (w / 8), s.setOf src.id, s.epochOf (s.setOf src.id), none, 0⟩] } }
  else if !s.keyPresent key then s
  else if !src.keeper && s.holdsWk key then s.refuse 6 src .write a a (w / 8) (s.setOf src.id) (s.epochOf (s.setOf src.id))
  else f s

end Sys2Proof.Machine
end

