-- ==== Sys2Proof/Machine/Raster.lean ====
section
/-! DEFINITION. Raster time: timebases, genlock, spans, and the sealing of commit units (R88 to R132, R576, R577).
Positions and phases are in 1/1024 line, rate offsets in 0.01 ppm, durations in PIXEL clocks. -/
namespace Sys2Proof.Machine

/-! ### Units, spans and masters (R113 to R116) -/

/-- The timebase of head `h`; every one starts at line 0, FRAC 0 when RASTER leaves reset (R88). -/
def State.tb (s : State) (h : Nat) : Timebase := tabGet { lineAt := s.time.rasterAt, lineT64 := s.time.rasterT64 } s.tbs h
def State.setTb (s : State) (h : Nat) (b : Timebase) : State := { s with tbs := tabSet s.tbs h b }
def State.unit (s : State) (u : Nat) : CommitUnit := tabGet {} s.units u
def State.setUnit (s : State) (u : Nat) (x : CommitUnit) : State := { s with units := tabSet s.units u x }
def State.win (s : State) (w : Nat) : Win := tabGet {} s.wins w
def State.setWin (s : State) (w : Nat) (x : Win) : State := { s with wins := tabSet s.wins w x }
def State.head (s : State) (h : Nat) : Head := tabGet {} s.heads h
def State.setHead (s : State) (h : Nat) (x : Head) : State := { s with heads := tabSet s.heads h x }

/-- Members of span `sp`: the heads its MEMBERS name that the part has (R113). -/
def State.members (s : State) (sp : Nat) : List Nat :=
  (List.range 48).filter (fun h => s.hasHead h &&
    (if h < 32 then s.bit (F.SPAN_MEMBERS_LO sp) h else s.bit (F.SPAN_MEMBERS_HI sp) (h - 32)))

/-- The enabled span that head `h` is a member of (R115, R131). -/
def State.spanOf (s : State) (h : Nat) : Option Nat :=
  if s.on (F.HEAD_GL_STATE_MEMBER h) then some (s.get (F.HEAD_GL_STATE_SPAN h)) else none

/-- The head whose timebase head `h` runs on (R115). -/
def State.master (s : State) (h : Nat) : Nat :=
  match s.spanOf h with
  | some sp => s.get (F.SPAN_STATUS_MASTER sp)
  | none => h

/-- The commit unit of head `h`: 0 to 47 a solo head, 48 to 63 an enabled span (R116). -/
def State.unitOf (s : State) (h : Nat) : Nat :=
  match s.spanOf h with
  | some sp => 48 + sp
  | none => h

/-- The heads of a commit unit. -/
def State.unitHeads (s : State) (u : Nat) : List Nat := if u < 48 then [u] else s.members (u - 48)

/-- The master head of a commit unit. -/
def State.unitMaster (s : State) (u : Nat) : Nat := if u < 48 then u else s.get (F.SPAN_STATUS_MASTER (u - 48))

/-- The head is enabled (R131). -/
def State.enabled (s : State) (h : Nat) : Bool := s.on (F.HEAD_CFG_ENABLE h)

/-- Every head of the unit has ENABLE 0 (R121). -/
def State.unitOff (s : State) (u : Nat) : Bool := (s.unitHeads u).all (fun h => !s.enabled h)

/-! ### Positions and line lengths (R88 to R92, R104) -/

/-- Frame period of a timing at an applied offset, as a fraction of PIXEL clocks per frame. -/
def frameNum (t : Timing) : Nat := 1200000000 * t.den * 100000000
def frameDen (t : Timing) (off : Int) : Nat := max 1 (t.num * (100000000 + off).toNat)

/-- The denominator in which the lines of a timing at an applied offset have a whole duration (R88). -/
def lineDen (t : Timing) (off : Int) : Nat := frameDen t off * max 1 t.vtotal

/-- The fraction of a PIXEL clock that is carried, in 1/`lineDen`. -/
def carried (t : Timing) (off : Int) (carry : Nat × Nat) : Nat := carry.1 * lineDen t off / max 1 carry.2

/-- PIXEL clocks that `k` lines last at the applied offset after the carried fraction, without a walk (R88, R96). -/
def edgeBase (t : Timing) (off : Int) (carry : Nat × Nat) (k : Nat) : Nat :=
  (k * frameNum t + carried t off carry) / lineDen t off

/-- The fraction carried on after one more line (R88). -/
def carryOn (t : Timing) (off : Int) (carry : Nat × Nat) : Nat × Nat :=
  ((frameNum t + carried t off carry) % lineDen t off, lineDen t off)

/-- Nominal line period in PIXEL clocks, rounded down (R219). -/
def linePeriod (t : Timing) : Nat := 1200000000 * t.den / max 1 (t.num * t.vtotal)

/-- `d / c` PIXEL clocks are at most `n / k` line periods (R100 to R102, R111). -/
def withinLines (t : Timing) (n k d c : Nat) : Bool := d * (t.num * t.vtotal) * k ≤ n * (1200000000 * t.den) * c

/-- `i / d` to the nearest whole number, halves away from zero. -/
def roundDivI (i : Int) (d : Nat) : Int :=
  if i < 0 then -(roundDiv i.natAbs d : Int) else (roundDiv i.natAbs d : Int)

/-- What a walk adds up to the start of line `n`: lines VACTIVE + 1 to VTOTAL − 2 share it, each to the nearest PIXEL
clock (R104). -/
def walkEdge (t : Timing) (walk : Int) (n : Nat) : Int :=
  let b := t.vtotal - 2 - t.vactive
  let k := min b (n - (t.vactive + 1))
  if b = 0 then 0 else k * roundDivI (walk * (1200000000 * t.den : Nat)) (1024 * b * max 1 (t.num * t.vtotal))

/-- PIXEL clocks from the end of the line under way, or from its start when it is the first of `k`, to the end of line
`n` + `k` − 1, line `n` being the first that follows. -/
def linesLast (t : Timing) (off walk : Int) (carry : Nat × Nat) (n k : Nat) : Int :=
  edgeBase t off carry k + (walkEdge t walk (n + k) - walkEdge t walk n)

/-- The applied rate offset of timebase `h` (R131). -/
def State.rateOf (s : State) (h : Nat) : Int := s.getI (F.HEAD_GL_RATE h)

/-- Duration of line `n` of timebase `h`, the next to begin, fixed one line ahead (R92, R104). -/
def State.lineLenOf (s : State) (h n : Nat) : Nat :=
  let b := s.tb h
  (linesLast b.timing (s.rateOf h) b.walkNow b.carry n 1).toNat

/-- PIXEL clocks from the start of the line under way of timebase `h` to the start of line `n`, VTOTAL for the next frame
start, as predicted now (R92). -/
def State.clocksUpTo (s : State) (h n : Nat) : Int :=
  let b := s.tb h
  if n ≤ b.line then 0
  else b.lineLen + linesLast b.timing (s.rateOf h) b.walkNow b.carry (b.line + 1) (n - (b.line + 1))

/-- FRAC of the line position word now (R89). -/
def State.frac (s : State) (h : Nat) : Nat :=
  let b := s.tb h
  min 1023 ((s.time.pix - b.lineAt) * 1024 / max 1 b.lineLen)

/-- The line position word of head `h` (R89, R115). -/
def State.pos (s : State) (h : Nat) : Nat :=
  let m := s.master h
  let b := s.tb m
  b.fseq % 256 * 0x1000000 + b.line % 0x4000 * 0x400 + s.frac m

/-- LINE of head `h` now. -/
def State.lineOf (s : State) (h : Nat) : Nat := (s.tb (s.master h)).line

/-- TIME64 of the next frame start of timebase `h`, as predicted now (R92, R121, R232). -/
def State.nextFrameT64 (s : State) (h : Nat) : Nat :=
  let b := s.tb h
  b.lineT64 + (s.clocksUpTo h b.timing.vtotal).toNat * 10 / 12

/-- The line under way of timebase `h` has lasted its fixed duration (R88, R92). -/
def State.lineOver (s : State) (h : Nat) : Bool := (s.tb h).lineAt + (s.tb h).lineLen ≤ s.time.pix

/-- The PIXEL clock at which the line under way of timebase `h` ends, and TIME64 at that clock (R92). -/
def State.lineEnd (s : State) (h : Nat) : Nat × Nat :=
  let b := s.tb h
  let e := b.lineAt + b.lineLen
  (e, s.timeAgo (s.time.pix - e))

/-- VIGIL.DISP_OFS in ns; values above 1,000 read as 1,000 (R53, R87). -/
def State.dispOfs (s : State) : Nat := min 1000 (s.get F.VIGIL_DISP_OFS) * 1000

/-! ### Records (R129) -/

/-- Detail of classes 0x40 to 0x4F: head, line, span, code (R129, R221, R255). -/
def rasterDet (h line sp code : Nat) : Nat := h % 64 + 0x40 * (line % 0x4000) + 0x100000 * (sp % 16) + 0x1000000 * code

/-- Address of a head's or a span's first register. -/
def headAddr (h : Nat) : Nat := keyAddr (F.HEAD_HTIM_HACTIVE h).key
def spanAddr (sp : Nat) : Nat := keyAddr (F.SPAN_MEMBERS_LO sp).key

/-- A record of a head. Mark: DESIGN CHOICE, log entry 86: of a head in no enabled span the span field holds 0. -/
def State.headRec (s : State) (cls h code : Nat) : State :=
  s.raise cls (headAddr h) 0 (rasterDet h (s.lineOf h) ((s.spanOf h).getD 0) code)

/-- A record of a span: the line of its master; of a span that is not enabled, which has no master, line 0. Mark:
DESIGN CHOICE, log entry 86. -/
def State.spanRec (s : State) (cls sp code : Nat) : State :=
  s.raise cls (spanAddr sp) 0 (rasterDet 63 (if s.on (F.SPAN_CTRL_ENABLE sp) then s.lineOf (s.get (F.SPAN_STATUS_MASTER sp)) else 0) sp code)

/-! ### Head timing (R93 to R95) -/

/-- The timing that the registers of head `h` hold. -/
def State.timingReg (s : State) (h : Nat) : Timing :=
  ⟨s.get (F.HEAD_HTIM_HACTIVE h), s.get (F.HEAD_HTIM_HTOTAL h), s.get (F.HEAD_VTIM_VACTIVE h), s.get (F.HEAD_VTIM_VTOTAL h),
   s.get (F.HEAD_RATE_NUM h), s.get (F.HEAD_RATE_DEN h)⟩

/-- Checks 1 to 4 of R94: the code of the first that fails, 0 for none. -/
def timingCode (h : Nat) (t : Timing) : Nat :=
  if !(64 ≤ t.hactive && t.hactive ≤ 4096 && t.hactive < t.htotal && t.htotal ≤ 8191) then 1
  else if !(64 ≤ t.vactive && t.vactive ≤ 2304 && t.vactive + 4 ≤ t.vtotal && t.vtotal ≤ 16383) then 2
  else if !(t.num != 0 && t.den != 0 && 24000 * t.den ≤ 1001 * t.num && t.num ≤ (if h < 32 then 120 else 60) * t.den) then 3
  else if 1200000000 * t.den < 2048 * (t.num * t.vtotal) then 4
  else 0

/-- The pixel-rate limit of check 6 (R94). -/
def rateLimit (h depth : Nat) : Nat := if h < 32 && depth = 0 then 995328000 else 497664000

/-- The checks of R94 on head `h`: the code of the first that fails, 0 for none. -/
def State.enableCode (s : State) (h : Nat) : Nat :=
  let t := s.timingReg h
  let dl := s.get (F.HEAD_CFG_DEADLINE h)
  let depth := s.get (F.HEAD_CFG_DEPTH h)
  let c := timingCode h t
  if c != 0 then c
  else if (t.htotal - t.hactive) * 1200000000 * t.den < 128 * (t.htotal * t.num * t.vtotal) then 5
  else if depth = 3 || rateLimit h depth * t.den < t.hactive * t.vactive * t.num then 6
  else if t.vactive ≤ dl then 7
  else if t.vtotal ≤ bits (s.get (F.HEAD_PULSE_POS h)) 10 14 then 8
  else match s.spanOf h with
    | none => 0
    | some _ =>
      let m := s.timingReg (s.master h)
      if t.vactive = m.vactive && t.vtotal = m.vtotal && t.num = m.num && t.den = m.den then 0 else 9

/-! ### Commit requests (R117 to R119, R121, R127, R577) -/

/-- H of R127 for a unit. -/
def State.holdOf (s : State) (u : Nat) : Nat := (s.unit u).hold + 1

/-- The frame with FSEQ `f` is the last of its hold period: its successor's FSEQ is a multiple of H (R127). -/
def lastOfPeriod (f hold : Nat) : Bool := (f + 1) % 2 ^ 32 % hold = 0

/-- The frame index m of the frame of timebase `h` that starts at TIME64 `t` (R109, R112). -/
def State.ptpIndex (s : State) (h t : Nat) : Nat :=
  let b := s.tb h
  let pp := s.get (F.HEAD_PULSE_POS h) % 0x1000000
  let at_ : Int := (t : Int) + (pp * 1000000000 * b.timing.den / max 1 (1024 * b.timing.num * b.timing.vtotal) : Nat)
    - s.getI (F.HEAD_PTP_OFS h)
  (roundDivI (at_ * b.timing.num) (1000000000 * max 1 b.timing.den)).toNat

/-- FSEQ of the frame of timebase `h` after the one under way, as known now: a load that is due counts (R112, R127). -/
def State.nextFseq (s : State) (h : Nat) : Nat :=
  if (s.tb h).loadDue then s.ptpIndex h (s.nextFrameT64 h) % 2 ^ 32 else ((s.tb h).fseq + 1) % 2 ^ 32

/-- The frame under way of timebase `h` is the last of its hold period: its successor's FSEQ, from the apply point on as it
was known there, is a multiple of H (R127). -/
def State.lastFrame (s : State) (h hold : Nat) : Bool := ((s.tb h).succ.getD (s.nextFseq h)) % hold = 0

/-- The commit deadline line of a unit (R91, R131, R132). -/
def State.deadline (s : State) (u : Nat) : Nat :=
  let d := if u < 48 then s.get (F.HEAD_CFG_DEADLINE u) else s.get (F.SPAN_CTRL_DEADLINE (u - 48))
  if d = 0 then (s.tb (s.unitMaster u)).timing.vactive - 2 else d

/-- A request made now for unit `u` is late (R118, R127). -/
def State.isLate (s : State) (u : Nat) : Bool :=
  let b := s.tb (s.unitMaster u)
  !s.unitOff u && s.lastFrame (s.unitMaster u) (s.holdOf u) && s.deadline u ≤ b.line

/-- What a late request leaves: LATE, LATE_COUNT and class 0x40 once per unit and frame (R118). -/
def State.markLate (s : State) (u : Nat) : State :=
  let first := !(s.unit u).lateLogged
  let s := if u < 48 then (s.putB (F.HEAD_COMMIT_LATE u) true).bump (F.HEAD_LATE_COUNT u)
    else (s.putB (F.SPAN_COMMIT_LATE (u - 48)) true).bump (F.SPAN_LATE_COUNT (u - 48))
  let s := s.setUnit u { s.unit u with lateLogged := true }
  if first then (if u < 48 then s.headRec 0x40 u 0 else s.spanRec 0x40 (u - 48) 0) else s

/-- The key of word 0 of window `w`'s descriptor (R227). -/
def winKey (w : Nat) : Nat := 0x720000 + 0x40 * w

/-- The 16 words of a descriptor as reads return them: the OPEN image, or the free descriptor (R226, R227). -/
def State.winWords (s : State) (w : Nat) : List Word := (List.range 16).map (fun i => s.reg (winKey w + 4 * i))

/-- OPEN of unit `u` becomes its SEALED bank; a new OPEN bank holds the same values, armed for nothing (R117, R201). -/
def State.seal (s : State) (u : Nat) : State :=
  let s := { s with
    wins := s.wins.map (fun (e : Nat × Win) =>
      if e.2.unit = some u then
        (e.1, { e.2 with sealed := some ⟨s.winWords e.1, e.2.openArm, e.2.openRemove⟩, openArm := false })
      else e) }
  (s.unitHeads u).foldl (fun s h => s.setHead h { s.head h with bgSealed := s.reg (F.CHEAD_BG h).key }) s

/-! ### Genlock (R96 to R112) -/

def glFree : Nat := 0
def glAcquire : Nat := 1
def glTrack : Nat := 2
def glLocked : Nat := 3
def glFreewheel : Nat := 4
def glHoldover : Nat := 5

/-- The mean spacing of the expected pulses of a timebase as a fraction of PIXEL clocks, nominal before two pulses have
been accepted (R98, R99). Mark: DESIGN CHOICE, log entry 87: a spacing across k expected pulses counts as k. -/
def glSpacing (b : Timebase) : Nat × Nat :=
  if b.spacings.isEmpty then (1200000000 * b.timing.den * (b.pulseDiv + 1), max 1 b.timing.num)
  else ((b.spacings.map (fun e => e.1)).sum, max 1 (b.spacings.map (fun e => e.2)).sum)

/-- A mean spacing of `sp.1 / sp.2` PIXEL clocks as a rate offset from nominal in 0.01 ppm (R99). -/
def measOffset (b : Timebase) (sp : Nat × Nat) : Int :=
  let d := sp.1 * max 1 b.timing.num
  if sp.1 = 0 then 0
  else roundDivI (((1200000000 * b.timing.den * (b.pulseDiv + 1) * sp.2 : Nat) : Int) * 100000000 - (d : Int) * 100000000) d

/-- Phase error of a timebase at a pulse that arrives now (R98). -/
def State.phaseErr (s : State) (h : Nat) : Int :=
  let b := s.tb h
  let span : Int := (b.timing.vtotal : Int) * 1024
  let e : Int := ((b.line * 1024 + s.frac h : Nat) : Int) - (s.get (F.HEAD_PULSE_POS h) % 0x1000000 : Nat)
  (e + span / 2) % span - span / 2

/-- `v` moved toward `goal` by at most `d`. -/
def slew (v goal : Int) (d : Int) : Int := if goal < v then max goal (v - d) else min goal (v + d)

/-- Every head that runs on timebase `h` has ENABLE 0 (R105). -/
def State.tbIdle (s : State) (h : Nat) : Bool := s.unitOff (s.unitOf h)

/-- A phase error is to be removed: by a walk of at most one line in the next vertical blanking, that of the frame under
way while its active lines last, or in one step while the heads are off (R103 to R105). -/
def State.planPhase (s : State) (h : Nat) (e : Int) : State :=
  let b := s.tb h
  let w := max (-1024) (min 1024 e)
  if s.tbIdle h then s.setTb h { b with stepDue := some (-e), walk := 0 }
  else if b.line < b.timing.vactive then s.setTb h { b with walkNow := w, walk := 0, stepDue := none }
  else s.setTb h { b with walk := w, stepDue := none }

/-- The fallback source, where one is named, is taken by a timebase in HOLDOVER (R107). -/
def State.takeFallback (s : State) (h : Nat) : State :=
  let b := s.tb h
  if b.fallback != 0 && b.fallback != b.src then
    ((s.setTb h { b with src := b.fallback, fallback := 0, cand := [], lastPulse := none, spacings := [] }).put
      (F.HEAD_GL_STATE_STATE h) glAcquire).put (F.HEAD_REF_SRC h) b.fallback |>.put (F.HEAD_REF_FALLBACK h) 0
  else s

/-- HOLDOVER: it walks no more, and takes the fallback source where one is named (R106, R107). -/
def State.toHoldover (s : State) (h : Nat) : State :=
  let s := s.put (F.HEAD_GL_STATE_STATE h) glHoldover
  (s.setTb h { s.tb h with lockRun := 0, slewLeft := 0, walk := 0, walkNow := 0, stepDue := none }).takeFallback h

/-- The reference rate is beyond ±500 ppm (R107, R108). -/
def State.rateOut (s : State) (h : Nat) (off : Int) : State :=
  let entry := !(s.get (F.HEAD_GL_STATE_STATE h) = glHoldover && s.on (F.HEAD_GL_STATE_RATE_OUT h))
  let s := (s.putI (F.HEAD_GL_MEAS h) off).putB (F.HEAD_GL_STATE_RATE_OUT h) true
  let s := s.setTb h { s.tb h with holdRate := s.rateOf h }
  let s := if entry then s.headRec 0x44 h 0 else s
  s.toHoldover h

/-- Three pulses in ACQUIRE or HOLDOVER agree when their spacings differ by at most 1/8 line (R102). -/
def agree3 (t : Timing) (p1 p2 p3 : Nat) : Bool :=
  let d := ((p3 - p2 : Nat) : Int) - ((p2 - p1 : Nat) : Int)
  withinLines t 1 8 d.natAbs 1

/-- A pulse in ACQUIRE or HOLDOVER, judged with the two before it (R102, R107). -/
def State.acquirePulse (s : State) (h : Nat) : State :=
  let b := s.tb h
  let cand := (b.cand ++ [s.time.pix]).drop (b.cand.length + 1 - 3)
  match cand with
  | [p1, p2, p3] =>
    let off := measOffset b (p3 - p1, 2)
    if !agree3 b.timing p1 p2 p3 then s.setTb h { b with cand := cand }
    else if off.natAbs ≤ 50000 then
      let e := s.phaseErr h
      let s := s.setTb h { b with cand := [], lastPulse := some p3, spacings := [(p3 - p2, 1), (p2 - p1, 1)], lockRun := 0,
                                  freeFrames := 0, missed := 0 }
      let s := ((s.put (F.HEAD_GL_STATE_STATE h) glTrack).putB (F.HEAD_GL_STATE_RATE_OUT h) false).putI (F.HEAD_GL_MEAS h) off
      (s.putI (F.HEAD_GL_PHASE h) e).planPhase h e
    else (s.setTb h { b with cand := cand }).rateOut h off
  | _ => s.setTb h { b with cand := cand }

/-- An accepted pulse in TRACK, LOCKED or FREEWHEEL, `k` spacings after the last, or the last of a phase step (R98, R99, R101,
R103, R107). The applied offset moves by 5 ppm now, for the first of the PULSE_DIV frames, and by 5 ppm at each frame start
of the others. FREEWHEEL ends at a pulse inside the window of R100 alone, whatever rate it measures. Marks: DESIGN CHOICE, log
entry 115: the spacing up to the last pulse of a phase step does not enter the mean; log entry 116: the pulse that ends
FREEWHEEL is the first of the 8 that LOCKED takes, and the third pulse of ACQUIRE is not one of them. -/
def State.acceptPulse (s : State) (h k : Nat) (step : Bool) : State :=
  let b := s.tb h
  let e := s.phaseErr h
  let sp := if step then b.spacings else ((s.time.pix - b.lastPulse.getD s.time.pix, max 1 k) :: b.spacings).take 8
  let b' := { b with lastPulse := some s.time.pix, spacings := sp, cand := [], missed := 0, freeFrames := 0 }
  let off := measOffset b' (glSpacing b')
  let st := s.get (F.HEAD_GL_STATE_STATE h)
  let s := ((s.setTb h b').putI (F.HEAD_GL_MEAS h) off).putI (F.HEAD_GL_PHASE h) e
  if 50000 < off.natAbs && st != glFreewheel then s.rateOut h off
  else
    let rate := slew (s.rateOf h) off 500
    let s := s.putI (F.HEAD_GL_RATE h) rate
    let inWin := e.natAbs ≤ 16
    let run := if inWin then b.lockRun + 1 else 0
    let s := s.setTb h { s.tb h with lockRun := run, goal := off, slewLeft := b.pulseDiv }
    let s :=
      if st = glLocked then (if inWin then s else (s.put (F.HEAD_GL_STATE_STATE h) glTrack).setTb h { s.tb h with lockRun := 0 })
      else if st = glFreewheel then if step then s else
        (s.put (F.HEAD_GL_STATE_STATE h) glTrack).setTb h { s.tb h with lockRun := if inWin then 1 else 0 }
      else if 8 ≤ run && (off - rate).natAbs ≤ 100 then
        ((s.put (F.HEAD_GL_STATE_STATE h) glLocked).setTb h { s.tb h with loadDue := b.src = 3 || (s.tb h).loadDue }).headRec 0x48 h 0
      else s
    s.planPhase h e

/-- `|now − x|` for a time `x` given as a fraction of PIXEL clocks with denominator `c`, times `c`. -/
def distTo (now x c : Nat) : Nat := if x ≤ now * c then now * c - x else x - now * c

/-- Index of the expected pulse nearest to now, 1 at least, and the distance from it, as a fraction with the denominator
of the mean spacing (R99, R100). -/
def nearestPulse (now last : Nat) (mean : Nat × Nat) : Nat × Nat :=
  let k := max 1 (roundDiv ((now - last) * mean.2) (max 1 mean.1))
  (k, distTo now (last * mean.2 + k * mean.1) mean.2)

/-- A rejected pulse: counted, logged once per frame, and a candidate of a phase step (R100, R101). -/
def State.rejectPulse (s : State) (h : Nat) : State :=
  let b := s.tb h
  let now := s.time.pix
  let m := glSpacing b
  let near := match b.cand with
    | [] => false
    | p1 :: _ => withinLines b.timing 2 1 (distTo now (p1 * m.2 + b.cand.length * m.1) m.2) m.2
  if near && b.cand.length = 2 then (s.headRec 0x43 h 0).acceptPulse h 1 true
  else
    let first := !b.glitchLogged
    let s := (s.setTb h { b with cand := if near then b.cand ++ [now] else [now], glitchLogged := true }).bump (F.HEAD_GLITCH_COUNT h)
    if first then s.headRec 0x42 h 0 else s

/-- A pulse of the reference of timebase `h`; `virt` for a virtual pulse (R100, R101, R109, R111). After an accepted
pulse the expectation lies a mean spacing on, so that only the first pulse in a window counts. -/
def State.tbPulse (s : State) (h : Nat) (virt : Bool) : State :=
  let b := s.tb h
  let st := s.get (F.HEAD_GL_STATE_STATE h)
  if st = glAcquire || st = glHoldover then s.acquirePulse h
  else if st = glTrack || st = glLocked || st = glFreewheel then
    let m := glSpacing b
    let (k, d) := nearestPulse s.time.pix (b.lastPulse.getD 0) m
    if withinLines b.timing 2 1 d m.2 then s.acceptPulse h k false
    else if virt then (s.headRec 0x43 h 0).acceptPulse h 1 true
    else s.rejectPulse h
  else s

/-- Timebases that follow a source and run on their own (R96, R115). -/
def State.followers (s : State) (src : Nat) : List Nat :=
  (List.range 48).filter (fun h => s.hasHead h && s.master h = h && (s.tb h).src = src)

/-- GENLOCK_PULSE: a pulse of `width` ns arrives on input `n` (R97 to R102, R130). Mark: DESIGN CHOICE, log entry 88: a
spacing of 2^32 PIXEL clocks or more reads modulo 2^32. -/
def State.genlockPulse (s : State) (n width : Nat) : State :=
  if width < 10 * max 1 (s.get F.RASTER_GL_IN_CFG_MIN_W) then s else
  let now := s.time.pix
  let last := if n = 0 then s.glin.at0 else s.glin.at1
  let s := { s with glin := if n = 0 then { s.glin with at0 := some now } else { s.glin with at1 := some now } }
  let s := match last with
    | none => s
    | some p => s.put (if n = 0 then F.RASTER_GL_IN0_PERIOD else F.RASTER_GL_IN1_PERIOD) (now - p)
  (s.followers (n + 1)).foldl (fun s h => s.tbPulse h false) s

/-- PULSE_MISSING: an expected pulse of timebase `h` has not come (R100, R106 to R108). Virtual pulses are never
missing (R110). Mark: DESIGN CHOICE, log entry 118: where fewer than 64 frames have been run, the holdover rate is the mean of
those there are, and the applied offset where there is none. -/
def State.pulseMissing (s : State) (h : Nat) : State :=
  let st := s.get (F.HEAD_GL_STATE_STATE h)
  let b := s.tb h
  if b.src = 3 then s
  else if st = glTrack || st = glLocked then
    let mean := if b.offHist.isEmpty then s.rateOf h else roundDivI b.offHist.sum b.offHist.length
    let s := (s.bump (F.HEAD_MISSING_COUNT h)).put (F.HEAD_GL_STATE_STATE h) glFreewheel
    s.setTb h { b with holdRate := mean, lockRun := 0, missed := b.missed + 1, slewLeft := 0, walk := 0, walkNow := 0, stepDue := none }
  else if st = glFreewheel then (s.bump (F.HEAD_MISSING_COUNT h)).setTb h { b with missed := b.missed + 1 }
  else s

/-- GENLOCK_LOST: eight frames without a pulse (R107, R108). -/
def State.genlockLost (s : State) (h : Nat) : State :=
  if s.get (F.HEAD_GL_STATE_STATE h) = glFreewheel then
    let s := s.headRec 0x41 h 0
    let s := s.setTb h { s.tb h with cand := [] }
    (s.putI (F.HEAD_GL_RATE h) (s.tb h).holdRate).toHoldover h
  else s

/-- This PIXEL clock is the first that follows T(m) for a frame index m that is a multiple of PULSE_DIV (R109). -/
def State.pulseDue (s : State) (h : Nat) : Bool :=
  let b := s.tb h
  let ofs := s.getI (F.HEAD_PTP_OFS h)
  let d : Int := (1000000000 * max 1 b.timing.den * (b.pulseDiv + 1) : Nat)
  let upTo := fun (t : Nat) => ((t : Int) - ofs) * b.timing.num / d
  0 ≤ upTo s.time64 && upTo (s.timeAgo 1) < upTo s.time64

/-- VIRTUAL_PULSE: the time unit's pulse to timebase `h`, which does nothing before the first lock (R109 to R111). -/
def State.virtualPulse (s : State) (h : Nat) : State :=
  if (s.tb h).src = 3 && s.time.everLocked && s.master h = h && s.pulseDue h then s.tbPulse h true else s

/-! ### Frame starts of a timebase (R90, R93, R96, R104 to R107, R112) -/

/-- REF taken at a frame start; a timebase in HOLDOVER takes a fallback source that REF now names (R96, R107). -/
def State.takeRef (s : State) (h : Nat) : State :=
  let b := s.tb h
  let src := s.get (F.HEAD_REF_SRC h)
  let b' := { b with fallback := s.get (F.HEAD_REF_FALLBACK h), pulseDiv := s.get (F.HEAD_REF_PULSE_DIV h), src := src }
  if src = b.src then
    let s := s.setTb h b'
    if s.get (F.HEAD_GL_STATE_STATE h) = glHoldover then s.takeFallback h else s
  else
    let b' := { b' with cand := [], lastPulse := none, spacings := [], lockRun := 0, walk := 0, stepDue := none, freeFrames := 0,
                        missed := 0, slewLeft := 0, loadDue := false }
    (s.setTb h b').put (F.HEAD_GL_STATE_STATE h) (if src = 0 then glFree else glAcquire)

/-- New timing taken at a frame start when it passes checks 1 to 4 (R93). -/
def State.takeTiming (s : State) (h : Nat) : State :=
  let t := s.timingReg h
  if timingCode h t = 0 then s.setTb h { s.tb h with timing := t } else s

/-- The applied offset slews by 5 ppm a frame: in FREE to 0, in TRACK and LOCKED on toward the measured rate for the
frames between two pulses; its history of 64 frames is kept (R103, R107, R108). Mark: DESIGN CHOICE, log entry 117: the 8 frames
since the last accepted pulse are 8 frame starts after it. -/
def State.frameRate (s : State) (h : Nat) : State :=
  let st := s.get (F.HEAD_GL_STATE_STATE h)
  let b := s.tb h
  let move := (st = glTrack || st = glLocked) && b.slewLeft != 0
  let s := if st = glFree then s.putI (F.HEAD_GL_RATE h) (slew (s.rateOf h) 0 500)
    else if move then s.putI (F.HEAD_GL_RATE h) (slew (s.rateOf h) b.goal 500) else s
  s.setTb h { b with offHist := (s.rateOf h :: b.offHist).take 64, slewLeft := b.slewLeft - 1, freeFrames := b.freeFrames + 1 }

/-- The position of timebase `h` moved by `d` at a frame start, in one step (R105). -/
def stepPosition (b : Timebase) (d : Int) : Timebase :=
  let span : Int := (b.timing.vtotal : Int) * 1024
  let p := (d % max 1 span).toNat
  let fseq := if d < 0 then (b.fseq + 2 ^ 32 - 1) % 2 ^ 32 else b.fseq
  { b with line := p / 1024, fseq := fseq, fresh := p = 0 }

/-- FRAC of the position that a step of `d` leads to (R105). -/
def stepFrac (d : Int) : Nat := (d % 1024).toNat

/-- The line under way begins `f` / 1024 of its length before the PIXEL clock `at_`, with TIME64 `t64` there. -/
def State.beginLine (s : State) (h at_ t64 f : Nat) : State :=
  let b := s.tb h
  let len := s.lineLenOf h b.line
  let past := f * len / 1024
  s.setTb h { b with lineAt := at_ - past, lineT64 := t64 - past * 10 / 12, lineLen := len
                     carry := carryOn b.timing (s.rateOf h) b.carry }

/-- The timebase's own part of a frame start: FSEQ and FRAME count, REF and timing are taken, a due step or FSEQ load
is made. The second result says that the position word was stepped, or loaded with a new FSEQ (R190). -/
def State.tbFrameStart (s : State) (h : Nat) : State × Bool :=
  let (e, t64) := s.lineEnd h
  let s := (s.takeRef h).takeTiming h
  let s := s.frameRate h
  let b := s.tb h
  let b := { b with fseq := (b.fseq + 1) % 2 ^ 32, line := 0, fresh := true, walkNow := b.walk, walk := 0, glitchLogged := false,
                      succ := none }
  let fseq := if b.loadDue then s.ptpIndex h t64 % 2 ^ 32 else b.fseq
  let stepped := b.stepDue.any (fun d => d != 0) || fseq != b.fseq
  let f := (b.stepDue.map stepFrac).getD 0
  let b := match b.stepDue with
    | some d => stepPosition { b with stepDue := none } d
    | none => b
  let b := if b.loadDue then { b with fseq := fseq, loadDue := false } else b
  ((s.setTb h b).beginLine h e t64 f, stepped)

/-- The timebase's own part of a line start that is no frame start; at line VACTIVE it is the apply point, at which the FSEQ of the
next frame is known for R127 (R90 to R92). -/
def State.tbLineStart (s : State) (h : Nat) : State :=
  let b := s.tb h
  let (e, t64) := s.lineEnd h
  let s := (s.setTb h { b with line := b.line + 1, fresh := false }).beginLine h e t64 0
  if b.line + 1 = b.timing.vactive then s.setTb h { s.tb h with succ := some (s.nextFseq h) } else s

/-! ### Maintenance (R124 to R126) -/

/-- PIXEL clocks from now to the start of line `n` of the frame under way of timebase `h`. -/
def State.clocksTo (s : State) (h n : Nat) : Nat :=
  (((s.tb h).lineAt : Int) + s.clocksUpTo h n - s.time.pix).toNat

/-- LT of head `h` in 64 ns units, saturating: from the apply line to line VTOTAL − 2 to the start of line VTOTAL − 1, and
otherwise to the start of the earliest line whose data is not fetched; past the last active line that is line 0 (R124,
R131). Mark: DESIGN CHOICE, log entry 89: a head with ENABLE 0, which fetches nothing, reads 4,095. -/
def State.ltOf (s : State) (h : Nat) : Nat :=
  if !s.enabled h then 4095 else
  let m := s.master h
  let b := s.tb m
  let c := (s.head h).composed
  let next := if c.full && c.no = (b.line + 1) % max 1 b.timing.vtotal then b.line + 2 else b.line + 1
  let n := if b.timing.vactive ≤ b.line && b.line + 2 ≤ b.timing.vtotal then b.timing.vtotal - 1
    else if b.timing.vactive ≤ next && b.line < b.timing.vactive then b.timing.vtotal
    else next
  min 4095 (s.clocksTo m n * 10 / 768)

/-- The least LT over the enabled heads and the head that reports it; with no head enabled, 4,095 and head 0 (R124, R130).
Mark: DESIGN CHOICE, log entry 90: of several heads with the least LT the lowest-numbered one. -/
def State.minLt (s : State) : Nat × Nat :=
  match (List.range 48).filter s.enabled with
  | [] => (4095, 0)
  | h :: r => r.foldl (fun p g => if s.ltOf g < p.1 then (s.ltOf g, g) else p) (s.ltOf h, h)

/-- LTR_CFG.RELAX; a value below URGENT reads as URGENT (R130). -/
def State.relax (s : State) : Nat := max (s.get F.RASTER_LTR_CFG_RELAX) (s.get F.RASTER_LTR_CFG_URGENT)

end Sys2Proof.Machine
end

