-- ==== Sys2Proof/Machine/Modes.lean ====
section
/-! DEFINITION. The mode of the part and the reasons of degraded service (R523 to R526, R547). -/
namespace Sys2Proof.Machine

def modeOff : Nat := 0
def modeInrush : Nat := 1
def modeStaged : Nat := 2
def modeSelfTest : Nat := 3
def modeBoot : Nat := 4
def modeReady : Nat := 5
def modeLive : Nat := 6
def modeDegraded : Nat := 7
def modeDerated : Nat := 8
def modeRide : Nat := 9
def modeStop : Nat := 10
def modeService : Nat := 11

/-- SYS.MODE. -/
def State.mode (s : State) : Nat := s.get F.SYS_MODE_MODE

/-- A change of SYS.MODE copies the old value into PREV and counts (R523). -/
def State.setMode (s : State) (m : Nat) : State :=
  if s.mode = m then s
  else ((s.put F.SYS_MODE_PREV s.mode).put F.SYS_MODE_MODE m).bump F.SYS_MODE_CHANGES

/-- Some head has CFG.ENABLE set (R524). -/
def State.anyHead (s : State) : Bool := (List.range 48).any s.enabled

/-- A unit is fenced (R524, R539). -/
def State.anyFence (s : State) : Bool :=
  [F.SYS_FENCE_DEC, F.SYS_FENCE_ENC, F.SYS_FENCE_CORE, F.SYS_FENCE_SLICE, F.SYS_FENCE_LANE_LO, F.SYS_FENCE_LANE_HI,
   F.SYS_FENCE_CHK, F.SYS_FENCE_AUDIO, F.SYS_FENCE_TOUCH].any (fun f => s.get f != 0)

/-- STATE of vigil instance `i` (R87). -/
def vigilState : Nat → Fld
  | 0 => F.VIGIL_STATUS_STATE_A
  | 1 => F.VIGIL_STATUS_STATE_B
  | _ => F.VIGIL_STATUS_STATE_C

/-- A decode pipe, an encode pipe or a vigil instance is FAILED (R524). -/
def State.anyFailed (s : State) : Bool :=
  s.get F.DEC_FAILED != 0 || s.get F.ENC_FAILED != 0 || [0, 1, 2].any (fun i => s.get (vigilState i) = 2)

/-- The bits of SYS.DEGRADED follow the units' states; SAMPLE is kept by the clock events (R524). -/
def State.updDegraded (s : State) : State :=
  (((s.putB F.SYS_DEGRADED_FENCED s.anyFence).putB F.SYS_DEGRADED_FAILED s.anyFailed).putB F.SYS_DEGRADED_TEST
    (s.get F.TEST_STATUS_STATE = 2)).putB F.SYS_DEGRADED_TOO_FEW (s.on F.VIGIL_STATUS_ALL_SNUFF)

/-- A condition has held for the 1 s of R502. -/
def State.longSince (s : State) (o : Option Nat) : Bool :=
  match o with
  | some a => a + clkS ≤ s.time.pix
  | none => false

/-- The thermal cap is active, or SHED_LEVEL has been above 0 for 1 s (R502). -/
def State.derateDue (s : State) : Bool := s.on F.PWR_STATUS_THERM_CAP || s.longSince s.power.shedSince

/-- The in-service mode that R523 and R524 call for. -/
def State.serviceMode (s : State) : Nat :=
  if !s.anyHead then modeReady
  else if s.derateDue then modeDerated
  else if (s.reg F.SYS_DEGRADED_FENCED.key).toNat % 32 = 0 then modeLive
  else modeDegraded

/-- The part runs: no orderly stop is under way (R508). -/
def State.running (s : State) : Bool := s.mode != modeStop

/-! ### In-service test (R543, R544) -/

/-- State of a unit that an in-service test takes out of service and gives back, by unit code (R537). -/
def unitStateFld (u : Nat) : Option Fld :=
  if u < 0x10 then some (F.PIPE_STATE u)
  else if u < 0x18 then some (F.EPIPE_STATE (u - 0x10))
  else if 0x18 ≤ u && u ≤ 0x1A then some (vigilState (u - 0x18))
  else if 0x40 ≤ u && u < 0x80 then some (F.LANE_STATE_STAGE (u - 0x40))
  else none

/-- The in-service test ends with a result (R543, R544, R546). -/
def State.endTest (s : State) (result detail : Nat) : State :=
  match s.test.unit with
  | none => s
  | some u =>
    let s := { s with test := { s.test with unit := none } }
    (((((s.put F.TEST_STATUS_STATE 0).put F.TEST_IST_CMD_STATUS 0).put (F.TEST_RESULT_RESULT u) result).putB
      (F.TEST_RESULT_IN_SERVICE u) true).put (F.TEST_RESULT_DETAIL u) detail).raise 0xB8
      (keyAddr F.TEST_STATUS_STATE.key) 0 (u + 0x100 * result + 0x10000 * s.mode)

/-- Number of vigil instances in service (R87). -/
def State.countService (s : State) : State :=
  s.put F.VIGIL_STATUS_IN_SERVICE ([0, 1, 2].filter (fun i => s.get (vigilState i) = 0)).length

/-- A test that waits for the vigil frame start at which its instance enters TEST (R80). -/
def State.istWaits (s : State) (u : Nat) : Bool := 0x18 ≤ u && u ≤ 0x1A && s.get (vigilState (u - 0x18)) != 1

/-- The state that a unit under test has once the test has stopped: the one it had, unless PIPE_EN has changed since (R292,
R313, R544). -/
def State.priorState (s : State) (u : Nat) : Nat :=
  let p := s.test.prior
  let was := fun (en : Bool) (out : Nat) => if !en && p < out then 6 else if en && p = 6 then 0 else p
  if u < 0x10 then was (s.bit F.DEC_PIPE_EN u) 3
  else if u < 0x18 then
    let q := was (s.bit F.ENC_PIPE_EN (u - 0x10)) 2
    if q ≤ 1 && s.sess.any (fun e => !e.2.pics.isEmpty && s.get (F.SESS_STATUS_PIPE e.1) = u - 0x10) then 1 else q
  else p

/-- The unit whose test stops without a result has its state again; an instance whose test still waited keeps the state
that it has (R80, R544). -/
def State.untest (s : State) (u : Nat) : State :=
  match unitStateFld u with
  | some f => if s.istWaits u then s else (s.put f (s.priorState u)).countService
  | none => s

/-- An in-service test is aborted: the unit returns to the state it had (R544). -/
def State.stopTest (s : State) : State :=
  match s.test.unit with
  | none => s
  | some u => (s.untest u).endTest 4 0

/-- SYS.DEGRADED and, among READY, LIVE and LIVE_DEGRADED, SYS.MODE follow the state of the units; entry to DERATED aborts an
in-service test (R523 to R525, R544). -/
def State.updMode (s : State) : State :=
  let s := s.updDegraded
  if s.mode = modeReady || s.mode = modeLive || s.mode = modeDegraded then
    let s := s.setMode s.serviceMode
    if s.mode = modeDerated then s.stopTest.updDegraded else s
  else s

/-- An in-service test is aborted, and the mode follows (R544). -/
def State.abortTest (s : State) : State := if s.test.unit.isNone then s else s.stopTest.updMode

/-- A change to DERATED, RIDE_THROUGH or ORDERLY_STOP, which aborts an in-service test (R544). -/
def State.enterMode (s : State) (m : Nat) : State := (s.setMode m).abortTest

/-! ### Pacing of load steps (R497) -/

/-- A unit has worked, or has been admitted, within the last 10 µs. Unit codes are those of R537: decode pipes 0x00,
encode pipes 0x10, slices 0x30; lane group `l` is 256 + l. -/
def State.awake (s : State) (u : Nat) : Bool :=
  match tabGet? s.power.wake u with
  | some t => s.time.pix < t + 10 * clkUs
  | none => false

/-- A unit works now. -/
def State.worked (s : State) (u : Nat) : State := { s with power := { s.power with wake := tabSet s.power.wake u s.time.pix } }

/-- A pace of `n` PIXEL clocks since the last admission has passed. -/
def State.paced (s : State) (last : Option Nat) (n : Nat) : Bool :=
  match last with
  | none => true
  | some t => t + n ≤ s.time.pix

/-- WAKE_ADMIT: a decode pipe, encode pipe or slice each 2 µs, a lane group each 100 µs. -/
def State.wakeAdmit (s : State) (lane : Bool) (u : Nat) : State :=
  if lane then
    if s.paced s.power.laneAt (100 * clkUs) then { (s.worked (256 + u)) with power := { (s.worked (256 + u)).power with laneAt := some s.time.pix } } else s
  else if s.paced s.power.wakeAt (2 * clkUs) then { (s.worked u) with power := { (s.worked u).power with wakeAt := some s.time.pix } } else s

def execWakeAdmit (t : Nat) (lane : Bool) (n : Fin 64) (s : State) : Host.Outcome State Fault Refusal :=
  .next ((s.advance t).wakeAdmit lane n.val)

end Sys2Proof.Machine
end

