-- ==== Sys2Proof/Machine/Comp.lean ====
section
/-! DEFINITION. Windows: wick tags and sentinel words, the checks at the apply, the selection rule, the apply itself,
and `place` (R40 to R48, R198 to R203, R225 to R233, R252 to R257). -/
namespace Sys2Proof.Machine

/-! ### Wick tags and surfaces (R40 to R48) -/

/-- A wick tag (R40). `checkOk`: CHECK is correct. -/
structure Tag where
  capture : Nat
  seq : Nat
  stream : Nat
  kind : Nat
  impaired : Bool
  skipall : Bool
  rap : Bool
  transfer : Nat
  fmt : Nat
  tepoch : Nat
  addr : Nat
  width : Nat
  height : Nat
  coded : Nat
  run : Nat
  checkOk : Bool
deriving DecidableEq, Repr

/-- The tag that 32 bytes hold (R40, R41). -/
def tagOf (b : List Byte) : Tag :=
  let f := leNat (slice b 0x0E 2)
  let w := leNat (slice b 0x14 4)
  let c := leNat (slice b 0x18 4)
  ⟨leNat (slice b 0 8), leNat (slice b 8 4), leNat (slice b 0x0C 2) % 0x1000, bits (leNat (slice b 0x0C 2)) 12 3,
   bitAt f 0, bitAt f 1, bitAt f 2, bits f 3 2, bits f 5 4, bits f 9 2, leNat (slice b 0x10 4),
   bits w 0 14, bits w 14 13, bits c 0 18, bits c 18 13, leNat (slice b 0x1C 4) = crc32c (slice b 0 0x1C)⟩

/-- Bytes of a tag, with a correct CHECK (R40, R41). -/
def tagBytes (t : Tag) : List Byte :=
  let b := leBytes t.capture 8 ++ leBytes t.seq 4 ++ leBytes (t.stream % 0x1000 + 0x1000 * (t.kind % 8)) 2 ++
    leBytes ((if t.impaired then 1 else 0) + (if t.skipall then 2 else 0) + (if t.rap then 4 else 0) + 8 * (t.transfer % 4) +
      0x20 * (t.fmt % 16) + 0x200 * (t.tepoch % 4)) 2 ++
    leBytes t.addr 4 ++ leBytes (t.width % 0x4000 + 0x4000 * (t.height % 0x2000)) 4 ++
    leBytes (t.coded % 0x40000 + 0x40000 * (t.run % 0x2000)) 4
  b ++ leBytes (crc32c b) 4

/-- Every field of the tag is in range (R42). -/
def Tag.fieldsOk (t : Tag) : Bool :=
  t.kind ≤ 2 && t.transfer ≤ 2 && t.fmt ≤ 5 && 1 ≤ t.width && t.width ≤ 8192 && 2 ≤ t.height && t.height ≤ 4320

/-- The tag is no failed tag (R42). -/
def Tag.ok (t : Tag) : Bool := t.checkOk && t.fieldsOk

/-- Semi-planar formats (R44). -/
def semiPlanar (fmt : Nat) : Bool := fmt ≤ 1

/-- Bytes per luma sample or packed pixel (R44, R234). -/
def fmtBytes : Nat → Nat
  | 0 => 1
  | 1 => 2
  | 2 => 2
  | 3 => 3
  | _ => 4

/-- PITCH of a surface (R45). -/
def pitchOf (width fmt : Nat) : Nat := divUp (width * fmtBytes fmt) 256 * 256

/-- A sentinel word (R46). -/
def sentinelWord (t : Tag) (mark : Nat) : List Byte :=
  let b := leBytes t.seq 4 ++ leBytes (t.stream % 0x1000 + 0x1000 * (t.kind % 8)) 2 ++ leBytes mark 1 ++ [0] ++ leBytes t.capture 4
  b ++ leBytes (crc32c b) 4

/-- A sentinel word meets the conditions of R48 for a tag. -/
def sentinelOk (t : Tag) (mark : Nat) (b : List Byte) : Bool :=
  leNat (slice b 12 4) = crc32c (slice b 0 12) && leNat (slice b 6 1) = mark && leNat (slice b 0 4) = t.seq &&
    leNat (slice b 4 2) = t.stream + 0x1000 * t.kind

/-- Addresses of the two sentinel rows of a tagged surface (R45). -/
def topRow (t : Tag) : Nat := t.addr * 256
def bottomRow (t : Tag) : Nat := t.addr * 256 + (1 + t.height) * pitchOf t.width t.fmt

/-- The sentinel check of a surface by a reader (R48): the two first words are read and compared; none when an error
answers a read (R31). -/
def State.checkSentinels (s : State) (src : Src) (t : Tag) : Option Bool × State :=
  let (a, s) := s.unitRead src (topRow t) 16
  let (b, s) := s.unitRead src (bottomRow t) 16
  (match a, b with
    | some x, some y => some (sentinelOk t 0xA1 x && sentinelOk t 0xB2 y)
    | _, _ => none, s)

/-- A sentinel row: its word repeated across PITCH (R46). -/
def sentinelRow (w : List Byte) (pitch : Nat) : List Byte := (List.replicate (pitch / 16) w).flatten

/-- The first step of a rewrite of a surface: MARK 0xEE at the start of both rows (R47). -/
def State.openSurface (s : State) (src : Src) (t : Tag) : State :=
  let (_, s) := s.unitWrite src (topRow t) (sentinelWord t 0xEE)
  (s.unitWrite src (bottomRow t) (sentinelWord t 0xEE)).2

/-- The last steps of a rewrite: both sentinel rows in full, then the tag as one aligned write (R47, R206). -/
def State.closeSurface (s : State) (src : Src) (t : Tag) (tagAt : Nat) : State :=
  let p := pitchOf t.width t.fmt
  let (_, s) := s.unitWrite src (topRow t) (sentinelRow (sentinelWord t 0xA1) p)
  let (_, s) := s.unitWrite src (bottomRow t) (sentinelRow (sentinelWord t 0xB2) p)
  (s.unitWrite src tagAt (tagBytes t)).2

/-- Rows written one after another, each at its pitch. -/
def State.writeRows (s : State) (src : Src) (a pitch : Nat) : List (List Byte) → State
  | [] => s
  | r :: rs => State.writeRows (s.unitWrite src a r).2 src (a + pitch) pitch rs

/-! ### Descriptors (R49, R225 to R227) -/

/-- Field [lo + w − 1 : lo] of the word at byte offset `o` of a descriptor. -/
def wf (ws : List Word) (o lo w : Nat) : Nat := bits (nth 0 ws (o / 4)).toNat lo w

def wKind (ws : List Word) : Nat := wf ws 0x00 0 3
def wAlpha (ws : List Word) : Bool := wf ws 0x00 3 1 = 1
def wGalpha (ws : List Word) : Nat := wf ws 0x00 4 8
def wSrc (ws : List Word) : Nat := wf ws 0x04 0 12
def wHcoef (ws : List Word) : Nat := wf ws 0x04 12 4
def wVcoef (ws : List Word) : Nat := wf ws 0x04 16 4
def wSurf (ws : List Word) : Nat := wf ws 0x08 0 32
def wSwidth (ws : List Word) : Nat := wf ws 0x0C 0 14
def wSheight (ws : List Word) : Nat := wf ws 0x0C 14 13
def wSfmt (ws : List Word) : Nat := wf ws 0x0C 27 4
def wCx (ws : List Word) : Nat := wf ws 0x10 0 14
def wCy (ws : List Word) : Nat := wf ws 0x10 14 13
def wCw (ws : List Word) : Nat := wf ws 0x14 0 14
def wCh (ws : List Word) : Nat := wf ws 0x14 14 13
def wDw (ws : List Word) : Nat := wf ws 0x18 0 13
def wDh (ws : List Word) : Nat := wf ws 0x18 16 13
def wX (ws : List Word) : Nat := wf ws 0x1C 0 13
def wY (ws : List Word) : Nat := wf ws 0x1C 16 13
def wHead (ws : List Word) : Nat := wf ws 0x20 0 6
def wZ (ws : List Word) : Nat := wf ws 0x20 8 6
def wPlaced (ws : List Word) : Bool := wf ws 0x20 14 1 = 1
/-- Presentation delay in µs; values above 10,000,000 read as 10,000,000 (R227). -/
def wDelay (ws : List Word) : Nat := min 10000000 (wf ws 0x28 0 24)

/-- Tone profile for a transfer characteristic (R227). -/
def wTone (ws : List Word) (transfer : Nat) : Nat :=
  match transfer with
  | 1 => wf ws 0x24 8 5
  | 2 => wf ws 0x24 16 5
  | _ => wf ws 0x24 0 5

/-- TREAT of a verdict, 1 to 7 (R49, R68). -/
def wTreat (ws : List Word) (v : Nat) : Nat := wf ws 0x38 (14 + 2 * v) 2
def wEchoReq (ws : List Word) : Bool := wf ws 0x3C 0 1 = 1

/-- The layer takes tagged pictures: the vigil supervises it (R225). -/
def supervised (ws : List Word) : Bool := wKind ws = 1 || wKind ws = 2

/-- The window covers line `y` of its head. -/
def crosses (ws : List Word) (y : Nat) : Bool := wKind ws != 0 && wY ws ≤ y && y < wY ws + wDh ws

/-- The window covers the pixel. -/
def covers (ws : List Word) (x y : Nat) : Bool := crosses ws y && wX ws ≤ x && x < wX ws + wDw ws

/-- Address of a window's descriptor. -/
def winAddr (w : Nat) : Nat := keyAddr (winKey w)

/-! ### Slices (R252, R253) -/

/-- The slice that serves head `h` (R252). -/
def State.sliceOf (s : State) (h : Nat) : Nat :=
  if h < 32 then h / 4 else divUp s.nHeads 4 + (h - 32) / 8

/-- Heads that a slice serves. -/
def State.sliceHeads (s : State) (c : Nat) : List Nat :=
  (List.range 48).filter (fun h => s.hasHead h && s.sliceOf h = c)

def sliceSrc (c : Nat) : Src := ⟨Fin.ofNat 128 (0x60 + c), false⟩

/-- Active windows of head `h`, by rising number. -/
def State.actWins (s : State) (h : Nat) : List (Nat × List Word) :=
  s.wins.filterMap (fun (e : Nat × Win) =>
    match e.2.act with
    | some ws => if wHead ws = h then some (e.1, ws) else none
    | none => none)

/-- The image that window `e` has once the sealed bank of unit `u` is applied (R230). -/
def afterApply (u : Nat) (e : Nat × Win) : Option (List Word) :=
  if e.2.unit = some u then
    match e.2.sealed with
    | some b => if b.remove || !wPlaced b.words then none else some b.words
    | none => e.2.act
  else e.2.act

/-- Windows of head `h` once the sealed bank of unit `u` is applied. -/
def State.winsAfter (s : State) (u h : Nat) : List (Nat × List Word) :=
  s.wins.filterMap (fun (e : Nat × Win) =>
    match afterApply u e with
    | some ws => if wHead ws = h then some (e.1, ws) else none
    | none => none)

/-- Largest line load of a head over its active lines (R230). The load changes only where a window begins or ends. -/
def peakOf (hactive vactive : Nat) (ws : List (Nat × List Word)) : Nat :=
  ((0 :: ws.map (fun e => wY e.2)).filter (fun y => y < vactive)).foldl (fun m y =>
    max m (hactive + ((ws.filter (fun e => crosses e.2 y)).map (fun e => wDw e.2)).sum)) 0

/-- Bytes per pixel that a window adds to the row store (R230). -/
def rowBytesPer (ws : List Word) : Nat :=
  match wKind ws with
  | 1 => 4
  | 2 => 4
  | 3 => fmtBytes (wSfmt ws)
  | _ => 0

/-- Row bytes of line `y` (R230). -/
def rowBytesAt (ws : List (Nat × List Word)) (y : Nat) : Nat :=
  ((ws.filter (fun e => crosses e.2 y)).map (fun e => wCw e.2 * rowBytesPer e.2)).sum

def rowBytesMax (ws : List (Nat × List Word)) : Nat := (ws.map (fun e => rowBytesAt ws (wY e.2))).foldl max 0

/-- The load U of a slice as a fraction, given the windows of each head (R253). -/
def State.sliceLoad (s : State) (c : Nat) (wins : Nat → List (Nat × List Word)) : Nat × Nat :=
  (s.sliceHeads c).foldl (fun (p : Nat × Nat) h =>
    let t := (s.tb (s.master h)).timing
    let n := divUp (peakOf (s.tb h).timing.hactive (s.tb h).timing.vactive (wins h)) 8 * (t.num * t.vtotal)
    let d := 1200000000 * max 1 t.den
    (p.1 * d + n * p.2, p.2 * d)) (0, 1)

/-! ### Checks at the apply (R230, R231) -/

/-- A ratio DW / CW from 1/2 to 16; a width of 0 is left to check 8 (R230). -/
def ratioOk (d c : Nat) : Bool := c = 0 || (c ≤ 2 * d && d ≤ 16 * c)

/-- A check of one window, by code (R230 codes 1 and 5 to 8). -/
def State.winBad (s : State) (t : Timing) (code : Nat) (ws : List Word) : Bool :=
  let k := wKind ws
  match code with
  | 1 => k != 0 && (wDw ws = 0 || wDh ws = 0 || t.hactive < wX ws + wDw ws || t.vactive < wY ws + wDh ws)
  | 5 => (k = 1 || k = 2 || k = 3) && !(ratioOk (wDw ws) (wCw ws) && ratioOk (wDh ws) (wCh ws))
  | 6 => !s.bit F.PIXP_COEF_VMASK (wVcoef ws)
  | 7 => 5 ≤ k || (k = 3 && !(2 ≤ wSfmt ws && wSfmt ws ≤ 5 && 1 ≤ wSwidth ws && wSwidth ws ≤ 8192 && 1 ≤ wSheight ws && wSheight ws ≤ 4320))
  | 8 => (k = 1 || k = 2 || k = 3) && (wCw ws = 0 || wCh ws = 0)
  | _ => false

/-- Numbers in rising order, each once. -/
def insertNat : List Nat → Nat → List Nat
  | [], n => [n]
  | m :: l, n => if n < m then n :: m :: l else if n = m then m :: l else m :: insertNat l n
def sortNat (l : List Nat) : List Nat := l.foldl insertNat []

/-- The lowest-numbered window that covers the first pixel, in raster order, that more than 16 windows cover (R231). -/
def overlapWin (ws : List (Nat × List Word)) : Option Nat :=
  let ys := sortNat (ws.map (fun e => wY e.2))
  let xs := sortNat (ws.map (fun e => wX e.2))
  ys.findSome? (fun y => xs.findSome? (fun x =>
    let c := ws.filter (fun e => covers e.2 x y)
    if 16 < c.length then (c.map (fun e => e.1)).head? else none))

/-- The lowest-numbered window that crosses the first line whose row bytes exceed 65,536 (R231). -/
def rowStoreWin (ws : List (Nat × List Word)) : Option Nat :=
  (sortNat (ws.map (fun e => wY e.2))).findSome? (fun y =>
    if 65536 < rowBytesAt ws y then ((ws.filter (fun e => crosses e.2 y)).map (fun e => e.1)).head? else none)

/-- Check `code` of one head: the window that R231 names when the check fails. -/
def State.headCheck (s : State) (u code h : Nat) : Option Nat :=
  let ws := s.winsAfter u h
  match code with
  | 2 => overlapWin ws
  | 3 => rowStoreWin ws
  | 4 =>
    let (n, d) := s.sliceLoad (s.sliceOf h) (s.winsAfter u)
    if 9 * d < 10 * n then some 0 else none
  | _ => (ws.find? (fun e => s.winBad (s.tb h).timing code e.2)).map (fun e => e.1)

/-- The first failing check of the sealed bank of unit `u`: code, head, window (R230, R231). -/
def State.applyCheck (s : State) (u : Nat) : Option (Nat × Nat × Nat) :=
  [1, 2, 3, 4, 5, 6, 7, 8].findSome? (fun code =>
    (s.unitHeads u).findSome? (fun h => (s.headCheck u code h).map (fun w => (code, h, w))))

/-! ### Which picture a window shows (R232, R57, R200) -/

/-- Address of the tag of slot `j` of context `c` (R262) and of copy set `k` (R241). -/
def State.ctxTagAt (s : State) (c j : Nat) : Nat := s.get (F.CTX_TAGS c) * 256 + 32 * j
def State.copyTagAt (s : State) (k j : Nat) : Nat := s.get (F.COPY_TAGS k) * 256 + 32 * j

/-- Addresses of the tags of the candidates of a source (R232 step 3). -/
def State.candidateTags (s : State) (ws : List Word) : List Nat :=
  if wKind ws = 1 then
    ((List.range 32).filter (fun j => s.bit (F.CTX_LISTED (wSrc ws)) j)).map (s.ctxTagAt (wSrc ws))
  else if wKind ws = 2 && wSrc ws < 256 then
    let k := wSrc ws
    ((List.range (s.get (F.COPY_SLOTS k) + 1)).filter (fun j =>
      !(s.on (F.COPY_STATE_BUSY k) && s.get (F.COPY_STATE_WRITING k) = j))).map (s.copyTagAt k)
  else []

/-- Current time epoch (R67, R406). -/
def State.epoch (s : State) : Nat := s.get F.TIME_STATUS_EPOCH

/-- A picture is eligible at T0 (R232 step 2). -/
def State.eligible (s : State) (ws : List Word) (t0 : Nat) (t : Tag) : Bool :=
  t.ok && t.tepoch = s.epoch && t.capture + 1000 * wDelay ws ≤ t0

/-- The better of two candidates: the later CAPTURE, then the later SEQ (R232 step 4). -/
def better (a b : Latched) : Latched :=
  let x := tagOf a.bytes
  let y := tagOf b.bytes
  if x.capture < y.capture || (x.capture = y.capture && seqLater 32 y.seq x.seq) then b else a

/-- The candidate that the selection rule latches (R232), read by the slice that serves the window's head. -/
def State.choose (s : State) (ws : List Word) (cur : Option Latched) (t0 : Nat) : Option Latched × State :=
  let src := sliceSrc (s.sliceOf (wHead ws))
  let (cs, s) := (s.candidateTags ws).foldl (fun (p : List Latched × State) a =>
    match p.2.unitRead src a 32 with
    | (some b, s) => (p.1 ++ [⟨a, b⟩], s)
    | (none, s) => (p.1, s)) (cur.toList, s)
  let ok := cs.filter (fun c => s.eligible ws t0 (tagOf c.bytes))
  (match ok with
    | [] => none
    | c :: r => some (r.foldl better c), s)

/-- A vigil record: head, line, verdict, reason and the instances out of service (R86). -/
def State.vigilDet (s : State) (h line v r : Nat) : Nat :=
  let o := fun (f : Fld) (n : Nat) => if s.get f = 0 then 0 else n
  h + 0x40 * (line % 0x4000) + 0x100000 * v + 0x800000 * r + o F.VIGIL_STATUS_STATE_A 0x10000000 +
    o F.VIGIL_STATUS_STATE_B 0x20000000 + o F.VIGIL_STATUS_STATE_C 0x40000000

def State.vigilRec (s : State) (cls w h line v r : Nat) : State :=
  s.raise cls (winAddr w) (((s.win w).tag.map (fun t => t.at_)).getD 0) (s.vigilDet h line v r)

/-- A tag is latched for window `w`: the age latch (R55), the reference SEQ and ADV (R56) and SEQ_BACKWARD. -/
def State.latchTag (s : State) (w h : Nat) (l : Latched) : State :=
  let x := s.win w
  let t := tagOf l.bytes
  let old := x.tag.map (fun o => tagOf o.bytes)
  let changed := match old with
    | none => true
    | some o => o.seq != t.seq || o.stream != t.stream
  let fresh := x.lastSeq != some (t.seq, t.stream)
  let newStream := match x.refSeq with
    | none => true
    | some _ => x.refStream != t.stream
  let adv := match x.refSeq with
    | some r => newStream || seqLater 32 t.seq r
    | none => true
  let back := match x.refSeq with
    | some r => !newStream && t.seq != r && !seqLater 32 t.seq r && changed
    | none => false
  let x' := { x with tag := some l
                     lastGood := if newStream then none else x.lastGood
                     refSeq := if adv then some t.seq else x.refSeq
                     refStream := t.stream
                     lastSeq := some (t.seq, t.stream)
                     advDue := x.advDue || (adv && !newStream)
                     streamDue := x.streamDue || newStream
                     runHeld := false }
  let s := s.setWin w x'
  let s := if fresh then s.putB (F.VIGIL_WSTATE_AGE_LATCH w) false else s
  if back then s.vigilRec 0x3A w h (s.lineOf h) 0 0 else s

/-- The source of a window has changed: nothing latched stays (R229), while what the frame under way has found persists
to its end (R65). -/
def dropSource (x : Win) : Win := { x with tag := none, lastGood := none, refSeq := none, advDue := false, streamDue := false }

/-- A window has left its head: nothing latched stays (R229), and nothing found. -/
def dropPicture (x : Win) : Win :=
  { dropSource x with pick := (0, 0), pickWas := (0, 0), runHeld := false, heldInt := 0, heldUnv := 0, echoLost := false }

/-! ### The apply (R120, R121, R127, R229 to R233) -/

/-- U of slice `c` in 1/1024, rounded down, for the active state (R253, R256). Mark: DESIGN CHOICE, log entry 124: a value beyond the
11 bits reads 2,047. -/
def State.loadOf (s : State) (c : Nat) : Nat :=
  let (n, d) := s.sliceLoad c s.actWins
  min 2047 (n * 1024 / d)

/-- BORDER_ONLY for a verdict other than FROZEN_SUSPECT in a descriptor (R69). -/
def badTreat (ws : List Word) : Bool := supervised ws && [1, 3, 4, 5, 6, 7].any (fun v => wTreat ws v = 3)

/-- The stream context behind a STREAM or COPY window (R50, R57, R241). -/
def State.winCtx (s : State) (ws : List Word) : Nat :=
  if wKind ws = 2 then s.get (F.COPY_SRC (wSrc ws % 256)) else wSrc ws

/-- The expected picture interval that a context holds; audio and reserved layouts hold none (R50, R261, R262). -/
def State.expInt (s : State) (c : Nat) : Nat :=
  if ctxLayout s.regs (F.CTX_EXP_INT_US c).key = 0 then s.get (F.CTX_EXP_INT_US c) else 0

/-- Effective stale bound, freeze bound and N of a descriptor under a head's ceilings (R49 to R51). -/
def State.boundsOf (s : State) (ws : List Word) : Nat × Nat × Nat :=
  let ceil := (s.head (wHead ws)).ceil
  let su := wf ws 0x30 0 26
  let fu := wf ws 0x34 0 26
  let sn := wf ws 0x38 0 13
  let stale := min (max (if su = 0 then 250000 else su) 1000) (nth 0 ceil 0)
  let ei := s.expInt (s.winCtx ws)
  let fdef := if ei = 0 then stale else max 100000 (4 * ei)
  (stale, min (max (if fu = 0 then fdef else fu) 1000) (nth 0 ceil 1), min (max (if sn = 0 then 50 else sn) 4) (nth 0 ceil 2))

/-- The sealed image of window `w` becomes active; its pick latches (R120, R201, R229, R232). Its bounds stay those of the
frame under way (R51). Mark: DESIGN CHOICE, log entry 94: a window that the frame did not hold is judged, on the blanking
lines left of that frame, by the bounds that it will have. -/
def State.applyWin (s : State) (u t0 w : Nat) : State :=
  let x := s.win w
  match x.sealed with
  | none => s
  | some b =>
    if x.unit != some u then s
    else if b.remove || !wPlaced b.words then
      let stays := wPlaced (s.winWords w)
      let x := { dropPicture x with act := none, sealed := none, unit := if stays then some u else none,
                                    openRemove := x.openRemove && stays, withheld := none, release := false, last := (0, 0), next := (0, 0), snuff := (0, 0), comp := (0, 0) }
      s.setWin w x
    else
      let x := match x.act with
        | some o => if wKind o != wKind b.words || wSrc o != wSrc b.words then dropSource x else x
        | none => { dropPicture x with bounds := s.boundsOf b.words }
      let s := s.setWin w { x with act := some b.words, sealed := none }
      let h := wHead b.words
      let s := if badTreat b.words then s.vigilRec 0x3B w h (s.lineOf h) 0 0 else s
      if b.arm && supervised b.words then
        let (c, s) := s.choose b.words (s.win w).tag t0
        match c with
        | some l => s.latchTag w h l
        | none => s
      else s

/-- A refused bank (R231): nothing changes but the report; a queued bank seals. -/
def State.refuseBank (s : State) (u code h w : Nat) : State :=
  let s := { s with wins := s.wins.map (fun (e : Nat × Win) => if e.2.unit = some u then (e.1, { e.2 with sealed := none }) else e) }
  let s := ((s.put (F.CHEAD_APPLY_STATUS_CODE h) code).putB (F.CHEAD_APPLY_STATUS_REFUSED h) true).put
    (F.CHEAD_APPLY_STATUS_WINDOW h) w
  let s := (s.bump F.COMP_REFUSE_COUNT).raise 0x4F (winAddr w) 0 (rasterDet h (s.lineOf h) ((s.spanOf h).getD 0) code)
  let x := s.unit u
  if x.queued then (s.setUnit u { x with queued := false, sealed := true, skip := some (s.tb (s.unitMaster u)).fseq }).seal u
  else s.setUnit u { x with sealed := false, skip := none }

/-- Windows of head `h` that the vigil supervises, by rising number. -/
def State.supWins (s : State) (h : Nat) : List (Nat × List Word) := (s.actWins h).filter (fun e => supervised e.2)

/-- Windows of head `h` now snuffed; a head with ENABLE 0 is not judged and has none (R87, R95). -/
def State.countSnuffed (s : State) (h : Nat) : State :=
  s.put (F.VIGIL_HSNUFF_COUNT h) (if s.enabled h then ((s.supWins h).filter (fun e => (s.win e.1).last.1 != 0)).length else 0)

/-- The sealed bank of unit `u` is checked and transferred, with T0 (R120, R230 to R232); a queued bank seals and takes the
next apply point, in a later frame (R119). -/
def State.applyBank (s : State) (u t0 : Nat) : State :=
  match s.applyCheck u with
  | some (code, h, w) => s.refuseBank u code h w
  | none =>
    let s := (s.wins.map (fun (e : Nat × Win) => e.1)).foldl (fun s w => s.applyWin u t0 w) s
    let s := (s.unitHeads u).foldl (fun s h => s.setHead h { s.head h with bgAct := (s.head h).bgSealed }) s
    let x := s.unit u
    let s := (s.unitHeads u).foldl (fun s h => s.countSnuffed h) s
    let s := s.setUnit u { x with sealed := false, queued := false, skip := none, applying := true }
    if x.queued then (s.setUnit u { s.unit u with sealed := true, skip := some (s.tb (s.unitMaster u)).fseq }).seal u else s

/-- T0 of an apply of unit `u` now: DISP of line 0 of the next frame start of its master (R121, R232). -/
def State.t0Now (s : State) (u : Nat) : Nat := s.nextFrameT64 (s.unitMaster u) + s.dispOfs

/-- A bank that applies at once, and a queued one after it (R121). -/
def State.applyAtOnce (s : State) (u : Nat) : State :=
  let q := (s.unit u).queued
  let s := s.applyBank u (s.t0Now u)
  let s := if q then s.applyBank u (s.t0Now u) else s
  s.setUnit u { s.unit u with sealed := false, queued := false, applying := false, skip := none }

/-- APPLY: the apply point of unit `u` (R119, R120, R127). -/
def State.applyPoint (s : State) (u : Nat) : State :=
  let x := s.unit u
  let b := s.tb (s.unitMaster u)
  if x.sealed && x.skip != some b.fseq && s.lastFrame (s.unitMaster u) (s.holdOf u) then s.applyBank u (s.t0Now u) else s

/-- A commit request for unit `u` (R117 to R119, R121), with the status of R197. -/
def State.commitReq (s : State) (u : Nat) : Nat × State :=
  let x := s.unit u
  if s.unitOff u then
    (1, ((s.setUnit u { x with sealed := true }).seal u).applyAtOnce u)
  else
    let late := s.isLate u
    let fs := (s.tb (s.unitMaster u)).fseq
    let s := if late then s.markLate u else s
    let l := if late then 4 else 0
    if !x.sealed then
      (1 + l, (s.setUnit u { s.unit u with sealed := true, skip := if late then some fs else none }).seal u)
    else if !x.queued then (2 + l, s.setUnit u { s.unit u with queued := true })
    else (10 + l, s)

/-! ### `place` (R198, R199, R226, R228) -/

/-- Windows that the OPEN bank holds on head `h`. -/
def State.openCount (s : State) (h : Nat) : Nat :=
  (s.wins.filter (fun (e : Nat × Win) => e.2.unit.isSome && wPlaced (s.winWords e.1) && wHead (s.winWords e.1) = h)).length

/-- The unit in which a window is placed or waits to be placed (R226). -/
def State.winUnit (s : State) (w : Nat) : Option Nat := (s.win w).unit

/-- A refused placement is logged once per frame and per unit that it names (R199, R221). -/
def State.placeRefused (s : State) (recAt u h code : Nat) : State :=
  if (s.unit u).placeLogged then s
  else (s.setUnit u { s.unit u with placeLogged := true }).raise 0x4C recAt 0
    (rasterDet h (if s.hasHead h then s.lineOf h else 0) ((s.spanOf h).getD 0) code)

/-- A head or window that the member does not have (R185, R199). -/
def State.rasterAbsent (s : State) (recAt h code : Nat) : State := s.raise 0x4D recAt 0 (rasterDet h 0 0 code)

/-- The placement fields go into the OPEN bank, unless the head holds 64 windows there (R199). -/
def State.placeInto (s : State) (u w h a b recAt : Nat) : Nat × State :=
  let here := (s.win w).unit.isSome && wPlaced (s.winWords w) && wHead (s.winWords w) = h
  if !here && 64 ≤ s.openCount h then (2, s.placeRefused recAt u h 2)
  else
    let s := ((((s.put (F.WIN_X w) (bits b 0 13)).put (F.WIN_Y w) (bits b 16 13)).put (F.WIN_HEAD w) h).put (F.WIN_Z w)
      (bits a 24 6)).putB (F.WIN_PLACED w) true
    (0, s.setWin w { s.win w with unit := some u, openRemove := false })

/-- `place` (R198, R199): `own` is the head of a line sequencer, `recAt` the first address of its records. -/
def State.place (s : State) (own : Option Nat) (recAt a b : Nat) : Nat × State :=
  let w := bits a 0 11
  let h := bits a 16 6
  if bitAt a 31 then
    if s.nWins ≤ w then (3, s) else
    match s.winUnit w with
    | none => (0, s)
    | some u =>
      if own.any (fun n => s.unitOf n != u) then (4, s.placeRefused recAt u (own.getD 0) 4)
      else
        let s := s.putB (F.WIN_PLACED w) false
        (0, s.setWin w { s.win w with openRemove := true, openArm := false })
  else if !s.hasHead h then (3, s.rasterAbsent recAt h 3)
  else if s.nWins ≤ w then (3, s)
  else
    let u := s.unitOf h
    if own.any (fun n => s.unitOf n != u) then (4, s.placeRefused recAt u h 4)
    else match s.winUnit w with
      | some v =>
        if v != u then (1, s.placeRefused recAt u h 1)
        else s.placeInto u w h a b recAt
      | none => s.placeInto u w h a b recAt

/-- A write of a descriptor word that has passed the checks: RWS bits only (R226, R227). X, Y, HEAD, Z and PLACED are
written by `place`. -/
def State.writeDescriptor (s : State) (w k : Nat) (v : Word) : State :=
  let key := winKey w + 4 * k
  match rowAt 0 key with
  | some (r, _, _) => s.setReg key ((s.reg key &&& BitVec.ofNat 32 (2 ^ 32 - 1 - r.rw)) ||| (v &&& BitVec.ofNat 32 r.rw))
  | none => s

end Sys2Proof.Machine
end

