-- ==== Sys2Proof/Machine/Compose.lean ====
section
/-! DEFINITION. From surface to pixel: fetch, scaling, colour, tone, blending, treatments and EXPECTED of one line of a
head (R58, R59, R61, R68 to R75, R234 to R251). Halves are rounded away from zero (log entry 21). -/
namespace Sys2Proof.Machine

/-! ### Fetch and widening (R234, R235 steps 1 to 3) -/

/-- A surface to fetch from: address of row 0, of chroma row 0, pitch, size and format. -/
structure Surf where
  base : Nat
  chroma : Nat
  pitch : Nat
  width : Nat
  height : Nat
  fmt : Nat
deriving DecidableEq, Repr

/-- The surface that a tag describes (R45). -/
def tagSurf (t : Tag) : Surf :=
  let p := pitchOf t.width t.fmt
  ⟨topRow t + p, topRow t + (t.height + 2) * p, p, t.width, t.height, t.fmt⟩

/-- The untagged surface of a SURFACE layer (R234). -/
def plainSurf (ws : List Word) : Surf :=
  ⟨wSurf ws * 256, 0, pitchOf (wSwidth ws) (wSfmt ws), wSwidth ws, wSheight ws, wSfmt ws⟩

/-- A fetched pixel: three components of 10 bits and the alpha as stored. -/
structure Px where
  a : Nat
  b : Nat
  c : Nat
  alpha : Nat
deriving DecidableEq, Repr

/-- Bit replication of a component of `w` bits to 10 bits (R235). -/
def widen10 (w c : Nat) : Nat :=
  match w with
  | 5 => c * 32 + c
  | 6 => c * 16 + c / 4
  | 8 => c * 4 + c / 64
  | _ => c

/-- A packed pixel (R234, R235). -/
def unpackPx (fmt : Nat) (b : List Byte) : Px :=
  let n := leNat b
  match fmt with
  | 2 => ⟨widen10 5 (bits n 11 5), widen10 6 (bits n 5 6), widen10 5 (bits n 0 5), 0⟩
  | 3 => ⟨widen10 8 (bits n 0 8), widen10 8 (bits n 8 8), widen10 8 (bits n 16 8), 0⟩
  | 4 => ⟨widen10 8 (bits n 0 8), widen10 8 (bits n 8 8), widen10 8 (bits n 16 8), bits n 24 8⟩
  | _ => ⟨bits n 0 10, bits n 10 10, bits n 20 10, bits n 30 2⟩

/-- Largest alpha of a format, 0 for a format without alpha (R250). -/
def alphaMax (fmt : Nat) : Nat := if fmt = 4 then 255 else if fmt = 5 then 3 else 0

/-- A sample of a semi-planar surface (R234, R235). -/
def sample10 (fmt : Nat) (b : List Byte) : Nat := if fmt = 0 then widen10 8 (leNat b) else bits (leNat b) 6 10

/-- The list cut into pieces of `n`, at most `fuel` of them. -/
def chunks (n : Nat) : Nat → List Byte → List (List Byte)
  | 0, _ => []
  | fuel + 1, bs => if bs.isEmpty then [] else bs.take n :: chunks n fuel (bs.drop n)

/-- One row of chroma at full horizontal resolution for luma columns `lo` to `hi` (R235 step 3). -/
def State.chromaRow (s : State) (src : Src) (f : Surf) (j lo hi : Nat) : Option (List (Nat × Nat)) × State :=
  let k0 := lo / 2
  let k1 := min (hi / 2 + 1) (f.width / 2 - 1)
  let n := fmtBytes f.fmt
  match s.unitRead src (f.chroma + j * f.pitch + 2 * n * k0) (2 * n * (k1 + 1 - k0)) with
  | (none, s) => (none, s)
  | (some bs, s) =>
    let v := ((chunks n bs.length bs).map (sample10 f.fmt)).toArray
    let at_ := fun k o => v.getD (2 * (min k k1 - k0) + o) 0
    (some ((List.range (hi + 1 - lo)).map (fun i =>
      let x := lo + i
      let k := x / 2
      if x % 2 = 0 then (at_ k 0, at_ k 1)
      else ((at_ k 0 + at_ (k + 1) 0 + 1) / 2, (at_ k 1 + at_ (k + 1) 1 + 1) / 2))), s)

/-- The pixels of columns `lo` to `hi` of row `r`; none after an error response (R31). -/
def State.fetchRow (s : State) (src : Src) (f : Surf) (lo hi r : Nat) : Option (List Px) × State :=
  let n := fmtBytes f.fmt
  match s.unitRead src (f.base + r * f.pitch + n * lo) (n * (hi + 1 - lo)) with
  | (none, s) => (none, s)
  | (some bs, s) =>
    let cs := chunks n bs.length bs
    if !semiPlanar f.fmt then (some (cs.map (unpackPx f.fmt)), s)
    else
      let j := r / 2
      let j' := if r % 2 = 0 then j - 1 else min (j + 1) (f.height / 2 - 1)
      match s.chromaRow src f j lo hi with
      | (none, s) => (none, s)
      | (some c0, s) =>
        match s.chromaRow src f j' lo hi with
        | (none, s) => (none, s)
        | (some c1, s) =>
          let mix := fun a b => (3 * a + b + 2) / 4
          (some ((cs.zip (c0.zip c1)).map (fun p =>
            ⟨sample10 f.fmt p.1, mix p.2.1.1 p.2.2.1, mix p.2.1.2 p.2.2.2, 0⟩)), s)

/-! ### Scaling (R236 to R238) -/

/-- Tap `t` of phase `p` of coefficient set `k` (R238). -/
def State.coefTap (s : State) (k p t : Nat) : Int :=
  sint 16 (bits (s.get (F.PIXP_COEF_SET k (4 * p + t / 2))) (16 * (t % 2)) 16)

/-- The sample i and the phase p of output position `x` (R236). -/
def filterPos (c0 cw dw x : Nat) : Int × Nat :=
  let n : Int := (c0 * 2 ^ 20 : Nat) - (2 ^ 19 : Nat) + ((2 * x + 1) * cw * 2 ^ 19 / max 1 dw : Nat)
  let i := n / (2 ^ 20 : Nat)
  let p := ((n % (2 ^ 20 : Nat)).toNat * 64 + 2 ^ 19) / 2 ^ 20
  if p = 64 then (i + 1, 0) else (i, p)

/-- A sum of taps rounded and clamped (R236). -/
def tapOut (hi : Nat) (terms : List (Int × Nat)) : Nat :=
  (max 0 (min (hi : Int) (roundDivI ((terms.map (fun e => e.1 * (e.2 : Int))).sum) 1024))).toNat

/-- Pixels under their taps. -/
def filterPx (am : Nat) (taps : List Int) (ps : List Px) : Px :=
  let z := taps.zip ps
  ⟨tapOut 1023 (z.map (fun e => (e.1, e.2.a))), tapOut 1023 (z.map (fun e => (e.1, e.2.b))),
   tapOut 1023 (z.map (fun e => (e.1, e.2.c))), tapOut am (z.map (fun e => (e.1, e.2.alpha)))⟩

/-- A row scaled to `dw` pixels; `row` begins at column `lo` of a picture `width` wide (R236). -/
def State.scaleRow (s : State) (set c0 cw dw width lo am : Nat) (row : List Px) : List Px :=
  let v := row.toArray
  let taps := (List.range 64).map (fun p => (List.range 8).map (s.coefTap set p)) |>.toArray
  (List.range dw).map (fun x =>
    let (i, p) := filterPos c0 cw dw x
    filterPx am (taps.getD p []) ((List.range 8).map (fun (t : Nat) =>
      let c := (max 0 (min ((width : Int) - 1) (i + t - 3))).toNat
      v.getD (c - lo) ⟨0, 0, 0, 0⟩)))

/-- Rows fetched and scaled to `dw` pixels each, with their row numbers. -/
def State.hRows (s : State) (src : Src) (f : Surf) (set cx cw dw : Nat) : List Nat → Option (List (Nat × Array Px)) × State
  | [] => (some [], s)
  | r :: rs =>
    let lo := min (cx - 4) (f.width - 1)
    let hi := min (cx + cw + 4) (f.width - 1)
    match s.fetchRow src f lo hi r with
    | (none, s) => (none, s)
    | (some row, s) =>
      match s.hRows src f set cx cw dw rs with
      | (none, s) => (none, s)
      | (some l, s) => (some ((r, (s.scaleRow set cx cw dw f.width lo (alphaMax f.fmt) row).toArray) :: l), s)

/-- One output row of a surface scaled in both axes: line `y` of `dh` (R235 step 4). -/
def State.scaledLine (s : State) (src : Src) (f : Surf) (hset vset cx cy cw ch dw dh y : Nat) : Option (List Px) × State :=
  let (i, p) := filterPos cy ch dh y
  let row := fun (t : Nat) => (max 0 (min ((f.height : Int) - 1) (i + t - 3))).toNat
  let ts := [1, 2, 3, 4, 5, 6]
  match s.hRows src f hset cx cw dw (sortNat (ts.map row)) with
  | (none, s) => (none, s)
  | (some rows, s) =>
    let get := fun r => ((rows.find? (fun e => e.1 = r)).map (fun e => e.2)).getD #[]
    let lines := ts.map (fun t => get (row t))
    let taps := ts.map (s.coefTap vset p)
    (some ((List.range dw).map (fun x => filterPx (alphaMax f.fmt) taps (lines.map (fun l => l.getD x ⟨0, 0, 0, 0⟩)))), s)

/-! ### Tone and colour (R244 to R249) -/

/-- A 10-bit component clamped. -/
def clamp10 (i : Int) : Nat := (max 0 (min 1023 i)).toNat

/-- YCbCr to RGB by PCTRL.CSC (R244): luma coefficients of BT.709 or BT.2020 in 1/10000. -/
def cscRgb (csc y cb cr : Nat) : Nat × Nat × Nat :=
  let (kr, kb) : Int × Int := if csc < 2 then (2126, 722) else (2627, 593)
  let kg := 10000 - kr - kb
  let full := csc % 2 = 1
  let (dy, dc) : Int × Int := if full then (1023, 1023) else (876, 896)
  let yn : Int := if full then y else (y : Int) - 64
  let bn : Int := (cb : Int) - 512
  let rn : Int := (cr : Int) - 512
  let d := (dy * dc * 10000).toNat
  (clamp10 (roundDivI (1023 * (yn * dc * 10000 + 2 * (10000 - kr) * rn * dy)) d),
   clamp10 (roundDivI (1023 * (yn * dc * 10000 * kg - 2 * kb * (10000 - kb) * bn * dy - 2 * kr * (10000 - kr) * rn * dy)) (d * kg.toNat)),
   clamp10 (roundDivI (1023 * (yn * dc * 10000 + 2 * (10000 - kb) * bn * dy)) d))

/-- The knot at or below an input (R247). -/
def knotIdx (m : Nat) : Nat → Nat
  | 0 => 0
  | k + 1 => if knotAt (k + 1) ≤ m then k + 1 else knotIdx m k

/-- The tone curve of profile `p` at `m`, as a fraction (R247). -/
def State.toneG (s : State) (p m : Nat) : Nat × Nat :=
  let n := knotIdx m 254
  let x0 := knotAt n
  let d := knotAt (n + 1) - x0
  let k0 : Int := s.get (F.PROFILE_KNOT p n)
  let k1 : Int := s.get (F.PROFILE_KNOT p (n + 1))
  ((k0 * d + (k1 - k0) * ((m : Int) - x0)).toNat, d)

/-- Input LUT, matrix and tone curve of profile `p` on 10-bit RGB codes: head-relative linear light (R245 to R247). -/
def State.tonePx (s : State) (p : Nat) (c : Nat × Nat × Nat) : Nat × Nat × Nat :=
  let r : Int := s.get (F.PROFILE_LUT_R p c.1)
  let g : Int := s.get (F.PROFILE_LUT_G p c.2.1)
  let b : Int := s.get (F.PROFILE_LUT_B p c.2.2)
  let m := fun i j => s.getI (F.PROFILE_MATRIX p (3 * i + j))
  let out := fun i => (max 0 (min 1048575 (roundDivI (m i 0 * r + m i 1 * g + m i 2 * b) 8192))).toNat
  let (x, y, z) := (out 0, out 1, out 2)
  if s.on (F.PROFILE_PCTRL_TONE_EN p) then
    let mx := max x (max y z)
    if mx = 0 then (0, 0, 0) else
    let (gn, gd) := s.toneG p mx
    let f := fun v => min 65535 (roundDiv (v * gn) (gd * mx))
    (f x, f y, f z)
  else (min 65535 x, min 65535 y, min 65535 z)

/-- 10 bits widened to 16 by bit replication (R250). -/
def widen16 (c : Nat) : Nat := c * 64 + c / 16

/-- A colour word of three 10-bit components (R227, R257). -/
def colour16 (w : Nat) : Nat × Nat × Nat := (widen16 (bits w 20 10), widen16 (bits w 10 10), widen16 (bits w 0 10))

/-- Entry `i` of the output LUT of head `h`, component `c` (R249, R258). -/
def State.lutEntry (s : State) (h c i : Nat) : Nat :=
  bits (s.get (F.PIXP_OUTLUT h (512 * c + i / 2))) (16 * (i % 2)) 12

/-- Bits of depth of head `h` (R131). -/
def State.depth (s : State) (h : Nat) : Nat := 8 + 2 * s.get (F.HEAD_CFG_DEPTH h)

/-- The output code of a blended component (R249). -/
def State.outCode (s : State) (h c v : Nat) : Nat :=
  let i := v / 64
  let e0 : Int := s.lutEntry h c i
  let e1 : Int := s.lutEntry h c (min 1023 (i + 1))
  let out := (e0 + roundDivI ((e1 - e0) * (v % 64 : Nat)) 64).toNat
  roundDiv (out * (2 ^ s.depth h - 1)) 4095

/-- A marking colour, 8 bits a component, at the head's depth (R72). -/
def State.markPix (s : State) (h rgb : Nat) : Pix :=
  let f := fun v => roundDiv (v * (2 ^ s.depth h - 1)) 255
  ⟨f (bits rgb 16 8), f (bits rgb 8 8), f (bits rgb 0 8)⟩

/-! ### Layers and blending (R250, R251) -/

/-- A layer's pixels on one line: value and factor a of each. -/
abbrev LayerRow := List (Nat × Nat × Nat × Nat)

/-- The factor a of R250. -/
def alphaFactor (ws : List Word) (fmt alpha : Nat) : Nat :=
  if !wAlpha ws then 65535 else
  let ap := match alphaMax fmt with
    | 255 => alpha * 257
    | 3 => alpha * 21845
    | _ => 65535
  roundDiv (ap * (wGalpha ws * 257)) 65535

/-- Scaled pixels through conversion and tone (R235 steps 5 and 6). -/
def State.toLayer (s : State) (ws : List Word) (fmt transfer : Nat) (ps : List Px) : LayerRow :=
  let p := wTone ws transfer
  let csc := s.get (F.PROFILE_PCTRL_CSC p)
  ps.map (fun x =>
    let rgb := if semiPlanar fmt then cscRgb csc x.a x.b x.c else (x.a, x.b, x.c)
    let t := s.tonePx p rgb
    (t.1, t.2.1, t.2.2, alphaFactor ws fmt x.alpha))

/-- A line of a surface as a layer. -/
def State.surfLayer (s : State) (src : Src) (ws : List Word) (f : Surf) (transfer y : Nat) : Option LayerRow × State :=
  match s.scaledLine src f (wHcoef ws) (wVcoef ws) (wCx ws) (wCy ws) (wCw ws) (wCh ws) (wDw ws) (wDh ws) (y - wY ws) with
  | (none, s) => (none, s)
  | (some ps, s) => (some (s.toLayer ws f.fmt transfer ps), s)

/-- A line of a tagged picture: its pixels, then its sentinel words (R48). The second result is the path reason of
R58 and R574, 0 for none. -/
def State.tagLayer (s : State) (src : Src) (ws : List Word) (l : Latched) (y : Nat) : LayerRow × Nat × State :=
  let t := tagOf l.bytes
  if !t.ok then ([], 6, s) else
  match s.surfLayer src ws (tagSurf t) t.transfer y with
  | (none, s) =>
    let (_, s) := s.checkSentinels src t
    ([], 8, s)
  | (some row, s) =>
    let (ok, s) := s.checkSentinels src t
    (row, match ok with
      | none => 8
      | some true => 0
      | some false => 7, s)

/-- One blend step on one component (R250). -/
def blend1 (c v a : Nat) : Nat := roundDiv (v * a + c * (65535 - a)) 65535

/-- A layer row blended over a line from column `x0` on (R250). -/
def blendRow (x0 : Nat) (row : LayerRow) (line : List (Nat × Nat × Nat)) : List (Nat × Nat × Nat) :=
  line.take x0 ++ ((line.drop x0).zip row).map (fun p =>
    (blend1 p.1.1 p.2.1 p.2.2.2.2, blend1 p.1.2.1 p.2.2.1 p.2.2.2.2, blend1 p.1.2.2 p.2.2.2.1 p.2.2.2.2))
    ++ line.drop (x0 + row.length)

/-- Windows in rank order: rising Z, then rising number (R250). -/
def insertRank (e : Nat × List Word) : List (Nat × List Word) → List (Nat × List Word)
  | [] => [e]
  | f :: l => if wZ e.2 < wZ f.2 || (wZ e.2 = wZ f.2 && e.1 < f.1) then e :: f :: l else f :: insertRank e l
def rankOrder (l : List (Nat × List Word)) : List (Nat × List Word) := l.foldl (fun r e => insertRank e r) []

/-! ### Treatments (R68 to R75) -/

/-- The treatment of a verdict for a descriptor: 1 HATCH_LAST_GOOD, 2 SOLID, 3 BORDER_ONLY (R68 to R70). -/
def treatOf (ws : List Word) (v : Nat) : Nat :=
  match wTreat ws v with
  | 0 => if v = 2 then 3 else if v = 1 || v = 3 || v = 4 then 1 else 2
  | 3 => if v = 2 then 3 else 2
  | t => t

/-- Colours that a head uses in this frame (R52): index 3 FILL, 4 CLOVE_HATCH, 4 + v the border of verdict v. -/
def State.colourOf (s : State) (h i : Nat) : Nat := nth 0 (s.head h).ceil i

/-- Border pixels: the 8 inside each edge, or all of a window narrower or shorter than 16 (R71). -/
def inBorder (dw dh x y : Nat) : Bool := dw < 16 || dh < 16 || x < 8 || y < 8 || dw ≤ x + 8 || dh ≤ y + 8

/-- The border pixel of a verdict (R70, R71). -/
def State.borderPix (s : State) (h v x y : Nat) : Pix :=
  if v = 2 && 4 ≤ (x + y) % 8 then s.markPix h (s.colourOf h 4) else s.markPix h (s.colourOf h (4 + v))

/-- A treated pixel at (x, y) of a window: `under` is the picture's pixel in output codes (R71). -/
def State.treatPix (s : State) (h v treat dw dh x y : Nat) (under : Pix) : Pix :=
  if inBorder dw dh x y then s.borderPix h v x y
  else match treat with
    | 1 => if (x + y) % 16 < 2 then s.markPix h (s.colourOf h (4 + v)) else ⟨under.r / 4, under.g / 4, under.b / 4⟩
    | 3 => under
    | _ => s.markPix h (s.colourOf h 3)

/-- A line drawn with a window's treatment on the columns of `cols`; `under` the line in output codes that the
treatment shows. -/
def State.drawTreat (s : State) (h : Nat) (ws : List Word) (v treat y : Nat) (cols : List Nat) (under line : List Pix) :
    List Pix :=
  (line.zip under).zipIdx.map (fun e =>
    if cols.contains e.2 then s.treatPix h v treat (wDw ws) (wDh ws) (e.2 - wX ws) (y - wY ws) e.1.2 else e.1.1)

/-! ### A line of a head (R61, R251) -/

/-- A layer of the line under way. `shown`: what it puts into the blend; `v` its snuffed verdict, 0 for none. -/
structure Layer where
  win : Nat
  ws : List Word
  row : LayerRow
  v : Nat
  treat : Nat
  path : Nat
  /-- The tagged picture that the row shows. -/
  pic : Option Latched := none
deriving DecidableEq, Repr

/-- A layer whose window is not snuffed in the compositor, or is drawn BORDER_ONLY: its own picture. -/
def State.ownLayer (s : State) (src : Src) (w : Nat) (ws : List Word) (v treat y : Nat) : Layer × State :=
  match wKind ws with
  | 3 => match s.surfLayer src ws (plainSurf ws) 0 y with
    | (some row, s) => ({ win := w, ws := ws, row := row, v := v, treat := treat, path := 0 }, s)
    | (none, s) => ({ win := w, ws := ws, row := [], v := v, treat := treat, path := 0 }, s)
  | 4 =>
    let c := colour16 (wSurf ws)
    ({ win := w, ws := ws, row := List.replicate (wDw ws) (c.1, c.2.1, c.2.2, alphaFactor ws 2 0), v := v, treat := treat, path := 0 }, s)
  | _ => match (s.win w).tag with
    | none => ({ win := w, ws := ws, row := [], v := v, treat := treat, path := 5 }, s)
    | some l =>
      let (row, path, s) := s.tagLayer src ws l y
      ({ win := w, ws := ws, row := row, v := v, treat := treat, path := path, pic := some l }, s)

/-- What the slice fetches for one window-line (R60, R73, R75). A read of the last good surface that an error answers
flags the window-line too (R31, R58), while its own sentinel check only makes the treatment SOLID (R73). -/
def State.composeLayer (s : State) (src : Src) (w : Nat) (ws : List Word) (y : Nat) : Layer × State :=
  let v := if supervised ws then (s.win w).comp.1 else 0
  if v = 0 then s.ownLayer src w ws 0 0 y
  else match treatOf ws v with
    | 3 => s.ownLayer src w ws v 3 y
    | 1 => match (s.win w).lastGood with
      | none => ({ win := w, ws := ws, row := [], v := v, treat := 2, path := 0 }, s)
      | some l =>
        let (row, path, s) := s.tagLayer src ws l y
        if path = 0 then ({ win := w, ws := ws, row := row, v := v, treat := 1, path := 0 }, s)
        else ({ win := w, ws := ws, row := [], v := v, treat := 2, path := if path = 8 then 8 else 0 }, s)
    | _ => ({ win := w, ws := ws, row := [], v := v, treat := 2, path := 0 }, s)

/-- Columns of a layer's rectangle that no higher supervised window covers (R75, R251). -/
def openCols (ws : List Word) (above : List Layer) (y hactive : Nat) : List Nat :=
  (List.range (min (wDw ws) (hactive - wX ws))).map (fun i => wX ws + i) |>.filter (fun x =>
    !above.any (fun l => supervised l.ws && covers l.ws x y))

/-- The blend of layers that are not snuffed, over the background (R250). -/
def blendAll (bg : Nat × Nat × Nat) (n : Nat) (ls : List Layer) : List (Nat × Nat × Nat) :=
  ls.foldl (fun line l => blendRow (wX l.ws) l.row line) (List.replicate n bg)

/-- A blended line in output codes (R249). -/
def State.outLine (s : State) (h : Nat) (line : List (Nat × Nat × Nat)) : List Pix :=
  line.map (fun c => ⟨s.outCode h 0 c.1, s.outCode h 1 c.2.1, s.outCode h 2 c.2.2⟩)

/-- The treatments of snuffed windows drawn over a line, in rank order; `low` are the layers below (R71, R75). -/
def State.drawSnuffed (s : State) (h y : Nat) (bg : Nat × Nat × Nat) (n : Nat) : List Layer → List Layer → List Pix → List Pix
  | _, [], line => line
  | low, l :: above, line =>
    if l.v = 0 then s.drawSnuffed h y bg n (low ++ [l]) above line
    else
      let under := if l.treat = 2 then line else s.outLine h (blendAll bg n (low ++ [l]))
      let line := s.drawTreat h l.ws l.v l.treat y (openCols l.ws above y n) under line
      s.drawSnuffed h y bg n low above line

/-- Bytes of a pixel as they enter the CRC (R59). -/
def pixBytes (p : Pix) : List Byte := leBytes p.r 2 ++ leBytes p.g 2 ++ leBytes p.b 2

/-- The CRC-32C of the columns `cols` of a line (R59, R251). -/
def crcCols (line : List Pix) (cols : List Nat) : Nat :=
  let v := line.toArray
  crc32c ((cols.map (fun x => pixBytes (v.getD x ⟨0, 0, 0⟩))).flatten)

/-- The window-lines of the supervised layers, in rank order (R58 to R60, R251). -/
def winLines (line : List Pix) (y n : Nat) : List Layer → List WinLine
  | [] => []
  | l :: above =>
    if supervised l.ws then
      let cols := openCols l.ws above y n
      ⟨l.win, crcCols line cols, l.v != 0, l.path, cols, if l.v = 0 then l.pic else none, 0, false, 0, 0, true, 0, false,
        wX l.ws, wDw l.ws, wEchoReq l.ws⟩ :: winLines line y n above
    else winLines line y n above

/-- The layers of a line, fetched in rank order. -/
def State.fetchLayers (s : State) (src : Src) (y : Nat) : List (Nat × List Word) → List Layer × State
  | [] => ([], s)
  | e :: r =>
    let (l, s) := s.composeLayer src e.1 e.2 y
    let (ls, s) := s.fetchLayers src y r
    (l :: ls, s)

/-- Records of window-lines that fail the sentinel check (R48, R58). -/
def State.logPaths (s : State) (h y : Nat) (ls : List Layer) : State :=
  ls.foldl (fun s l => if supervised l.ws && l.path = 7 then s.vigilRec 0x39 l.win h y 4 7 else s) s

/-- Line `y` of head `h`, composed for FSEQ `fs` (R61, R235). -/
def State.composeLine (s : State) (h y fs : Nat) : State :=
  let t := (s.tb h).timing
  let n := t.hactive
  let ws := rankOrder ((s.actWins h).filter (fun e => crosses e.2 y))
  let (ls, s) := s.fetchLayers (sliceSrc (s.sliceOf h)) y ws
  let bg := colour16 (s.head h).bgAct.toNat
  let line := s.outLine h (blendAll bg n (ls.filter (fun l => l.v = 0)))
  let line := s.drawSnuffed h y bg n [] ls line
  let s := s.logPaths h y ls
  s.setHead h { s.head h with composed := ⟨y, fs, line, winLines line y n ls, true, true, 0⟩ }

/-- The line after the one under way on head `h`, with its FSEQ. -/
def State.nextLine (s : State) (h : Nat) : Nat × Nat :=
  let b := s.tb (s.master h)
  if b.timing.vtotal ≤ b.line + 1 then (0, (b.fseq + 1) % 2 ^ 32) else (b.line + 1, b.fseq)

/-- The compositor works for head `h`: it is enabled and its slice is not fenced (R95, R252). -/
def State.composes (s : State) (h : Nat) : Bool :=
  s.hasHead h && s.enabled h && !s.on (F.COMP_SLICE_LOAD_FENCED (s.sliceOf h))

/-- The slice composes the line that head `h` sends next, when that is an active line (R61). A slice that has been idle
for 10 µs waits for its wake (R497). -/
def State.composeNext (s : State) (h : Nat) : State :=
  let (y, fs) := s.nextLine h
  let u := 0x30 + s.sliceOf h
  if s.composes h && y < (s.tb h).timing.vactive && s.awake u then (s.composeLine h y fs).worked u else s

def execComposeLine (t : Nat) (h : Fin 48) (s : State) : Host.Outcome State Fault Refusal := .next ((s.advance t).composeNext h.val)

/-- LINE_UNDERRUN: the composed line of head `h` missed its deadline (R58, R123). The windows `ws` whose window-lines
are not complete are flagged; of a line that is not composed at all, every window-line is. A line that holds such a window-line,
of whatever kind of window, counts once. -/
def State.underrun (s : State) (h : Nat) (ws : List Nat) : State :=
  let x := s.head h
  let (y, fs) := s.nextLine h
  let ready := x.composed.full && x.composed.no = y && x.composed.fseq = fs
  let t := (s.tb h).timing
  let line := if ready then x.composed else
    let bg := colour16 x.bgAct.toNat
    let pix := s.outLine h (List.replicate t.hactive bg)
    let ls := (rankOrder ((s.actWins h).filter (fun e => crosses e.2 y))).map (fun e =>
      ({ win := e.1, ws := e.2, row := [], v := 0, treat := 0, path := 12 } : Layer))
    ⟨y, fs, pix, winLines pix y t.hactive ls, true, true, 0⟩
  let wins := line.wins.map (fun (l : WinLine) => if l.path = 0 && ws.contains l.win then { l with path := 12, rendered := false } else l)
  let s := s.setHead h { x with composed := { line with wins := wins } }
  let b := s.tb h
  if !((s.actWins h).any (fun e => crosses e.2 y && (!ready || ws.contains e.1))) || b.underrunAt = some (fs, y) then s else
  let s := (s.bump (F.HEAD_UNDERRUN_COUNT h)).setTb h { b with underrunAt := some (fs, y) }
  if b.underrunLogged = some fs then s
  else (s.setTb h { s.tb h with underrunLogged := some fs }).raise 0x46 (headAddr h) 0 (rasterDet h y ((s.spanOf h).getD 0) 0)

def execLineUnderrun (t : Nat) (h : Fin 48) (ws : List (Fin 2048)) (s : State) : Host.Outcome State Fault Refusal :=
  let s := s.advance t
  .next (if s.composes h.val && (s.nextLine h.val).1 < (s.tb h.val).timing.vactive
    then s.underrun h.val (ws.map (fun w => w.val)) else s)

end Sys2Proof.Machine
end

