-- ==== Sys2Proof/Machine/Copy.lean ====
section
/-! DEFINITION. Coefficient loads and pre-scaled copies (R238 to R243, R255). -/
namespace Sys2Proof.Machine

/-! ### Coefficient sets (R238 to R240) -/

/-- Halfword `t` of phase `p` of the staging area (R238). -/
def State.stageHalf (s : State) (p t : Nat) : Nat := bits (s.get (F.PIXP_COEF_STAGE (4 * p + t / 2))) (16 * (t % 2)) 16

/-- A phase of the stage passes the checks of R239: sign extension, and a sum of 1,024. -/
def State.stagePhaseOk (s : State) (p : Nat) : Bool :=
  let hs := (List.range 8).map (s.stageHalf p)
  hs.all (fun h => let v := sint 16 h; -2048 ≤ v && v < 2048) && (hs.map (sint 16)).sum = 1024

/-- The stage is valid for vertical use (R238). -/
def State.stageVert (s : State) : Bool := (List.range 64).all (fun p => s.stageHalf p 0 = 0 && s.stageHalf p 7 = 0)

/-- A write of COEF_LOAD (R239). -/
def State.wrCoefLoad (s : State) (v : Word) : State :=
  let s := s.put F.PIXP_COEF_LOAD_SET (bits v.toNat 0 4)
  if bitAt v.toNat 8 && s.get F.PIXP_COEF_LOAD_STATUS != 1 then
    { s.put F.PIXP_COEF_LOAD_STATUS 1 with scaler := { s.scaler with loading := some (bits v.toNat 0 4) } }
  else s

/-- The stage stored as set `k`, from word `i` on. -/
def State.takeStage (s : State) (k : Nat) : Nat → State
  | 0 => s
  | i + 1 => (s.takeStage k i).put (F.PIXP_COEF_SET k i) (s.get (F.PIXP_COEF_STAGE i))

/-- COEF_LOAD_DONE: the stage has been checked (R239, R255). -/
def State.coefLoadDone (s : State) : State :=
  match s.scaler.loading with
  | none => s
  | some k =>
    let s := { s with scaler := { s.scaler with loading := none } }
    match (List.range 64).find? (fun p => !s.stagePhaseOk p) with
    | none => ((s.takeStage k 256).putBit F.PIXP_COEF_VMASK k s.stageVert).put F.PIXP_COEF_LOAD_STATUS 2
    | some p =>
      ((s.put F.PIXP_COEF_LOAD_STATUS 3).put F.PIXP_COEF_LOAD_BAD_PHASE p).raise 0x4F
        (keyAddr F.PIXP_COEF_LOAD_SET.key) 0 (rasterDet 63 0 0 9)

/-- COEF_LOAD_DONE (R239). -/
def execCoefLoadDone (t : Nat) (s : State) : Host.Outcome State Fault Refusal := .next (s.advance t).coefLoadDone

/-! ### Copy sets (R241) -/

def copyAddr (k : Nat) : Nat := keyAddr (F.COPY_SRC k).key

/-- SLOT_BYTES of copy set `k` (R241). -/
def State.slotBytes (s : State) (k : Nat) : Nat :=
  let fmt := s.get (F.COPY_FMT k)
  let p := pitchOf (s.get (F.COPY_OW k)) fmt
  let oh := s.get (F.COPY_OH k)
  divUp (p * (oh + 2) + (if semiPlanar fmt then p * oh / 2 else 0)) 4096 * 4096

/-- An enable of copy set `k` with the fields it now holds fails (R241). -/
def State.copyBad (s : State) (k : Nat) : Bool :=
  let fmt := s.get (F.COPY_FMT k)
  let ow := s.get (F.COPY_OW k)
  let oh := s.get (F.COPY_OH k)
  s.get (F.COPY_SLOTS k) = 0 || 5 < fmt || ow = 0 || 8192 < ow || oh < 2 || 4320 < oh ||
    (semiPlanar fmt && (ow % 2 = 1 || oh % 2 = 1)) || !s.bit F.PIXP_COEF_VMASK (s.get (F.COPY_VCOEF k))

/-- A write of the first word of copy set `k` (R241). -/
def State.wrCopyCtl (s : State) (k : Nat) (v : Word) : State :=
  if s.on (F.COPY_ENABLE k) then s.putB (F.COPY_ENABLE k) (bitAt v.toNat 12)
  else
    let s := s.setReg (F.COPY_SRC k).key (v &&& 0xFFFEFFF#32)
    if !bitAt v.toNat 12 then s
    else if s.copyBad k then s.raise 0x4F (copyAddr k) 0 (rasterDet 63 0 0 11)
    else s.putB (F.COPY_ENABLE k) true

/-! ### Copy jobs (R242, R243) -/

def scalerSrc : Src := ⟨0x58, false⟩

/-- A job of copy set `k` is dropped (R243). -/
def State.dropCopy (s : State) (k : Nat) : State :=
  ((s.bump (F.COPY_DROP k)).bump F.PIXP_COPY_DROP).raise 0x4F (copyAddr k) 0 (rasterDet 63 0 0 10) (some k)

/-- A tag of context `c` has been written: a job for each enabled copy set of that source (R242 step 1). -/
def State.queueCopies (s : State) (c : Nat) (l : Latched) : State :=
  ((List.range 256).filter (fun k => s.on (F.COPY_ENABLE k) && s.get (F.COPY_SRC k) = c)).foldl (fun s k =>
    if s.scaler.queue.length < 512 then
      let q := s.scaler.queue ++ [⟨k, l, 0⟩]
      { s with scaler := { s.scaler with queue := q } }.put F.PIXP_COPY_QUEUE q.length
    else s.dropCopy k) s

/-- A slot of copy set `k` is latched by a window in an active state (R242 step 2). -/
def State.slotLatched (s : State) (k j : Nat) : Bool :=
  s.wins.any (fun (e : Nat × Win) => match e.2.act, e.2.tag with
    | some ws, some l => wKind ws = 2 && wSrc ws = k && l.at_ = s.copyTagAt k j
    | _, _ => false)

/-- The slot that a job of copy set `k` takes: the first after NEWEST, in ring order, that is free (R242 step 2). -/
def State.freeSlot (s : State) (k : Nat) : Option Nat :=
  let n := s.get (F.COPY_SLOTS k) + 1
  ((List.range n).map (fun i => (s.get (F.COPY_STATE_NEWEST k) + 1 + i) % n)).find? (fun j => !s.slotLatched k j)

/-- A ratio of copy to source from 1/16 to 16 (R243). -/
def copyRatioOk (o c : Nat) : Bool := c ≤ 16 * o && o ≤ 16 * c

/-- The tag of a copy (R43, R242). -/
def State.copyTag (s : State) (j : CopyJob) : Tag :=
  let a := s.get (F.COPY_BASE j.set) * 256 + j.slot * s.slotBytes j.set
  { tagOf j.src.bytes with kind := 1, fmt := s.get (F.COPY_FMT j.set), addr := a / 256,
                           width := s.get (F.COPY_OW j.set), height := s.get (F.COPY_OH j.set) }

/-- COPY_JOB_START: engine `n` takes the oldest job whose set has no copy under way (R242, R243). A job whose set has
been disabled since is discarded (log entry 22). -/
def State.copyStart (s : State) (n : Nat) : State :=
  match tabGet? s.scaler.engines n with
  | some _ => s
  | none =>
    match s.scaler.queue.find? (fun j => !s.on (F.COPY_STATE_BUSY j.set)) with
    | none => s
    | some j =>
      let q := s.scaler.queue.erase j
      let s := { s with scaler := { s.scaler with queue := q } }.put F.PIXP_COPY_QUEUE q.length
      let k := j.set
      let t := tagOf j.src.bytes
      let ow := s.get (F.COPY_OW k)
      let oh := s.get (F.COPY_OH k)
      if !s.on (F.COPY_ENABLE k) then s
      else if semiPlanar t.fmt != semiPlanar (s.get (F.COPY_FMT k)) || !copyRatioOk ow t.width || !copyRatioOk oh t.height then
        s.dropCopy k
      else match s.freeSlot k with
        | none => s.dropCopy k
        | some sl =>
          let j := { j with slot := sl }
          let s := { s with scaler := { s.scaler with engines := tabSet s.scaler.engines n j } }
          ((s.putB (F.COPY_STATE_BUSY k) true).put (F.COPY_STATE_WRITING k) sl).openSurface scalerSrc (s.copyTag j)

def execCopyJobStart (t : Nat) (n : Fin 4) (s : State) : Host.Outcome State Fault Refusal :=
  .next ((s.advance t).copyStart n.val)

/-- `cnt` rows of `n` bytes at a pitch; none after an error response. -/
def State.readRows (s : State) (src : Src) (a pitch n : Nat) : Nat → Option (List (List Byte)) × State
  | 0 => (some [], s)
  | cnt + 1 =>
    match s.unitRead src a n with
    | (none, s) => (none, s)
    | (some r, s) => match s.readRows src (a + pitch) pitch n cnt with
      | (none, s) => (none, s)
      | (some rs, s) => (some (r :: rs), s)

/-- The smallest k of 0 to 3 that brings `c` to at most twice `o` (R242 step 4). -/
def boxExp (c o : Nat) : Nat := if c ≤ 2 * o then 0 else if c ≤ 4 * o then 1 else if c ≤ 8 * o then 2 else 3

/-- Mean of pixels, rounded. -/
def meanPx (ps : List Px) : Px :=
  let n := max 1 ps.length
  ⟨roundDiv (ps.map (fun p => p.a)).sum n, roundDiv (ps.map (fun p => p.b)).sum n, roundDiv (ps.map (fun p => p.c)).sum n,
   roundDiv (ps.map (fun p => p.alpha)).sum n⟩

/-- A row averaged over boxes of 2^k samples; the edge repeats. -/
def boxRow (k : Nat) (row : List Px) : List Px :=
  let v := row.toArray
  (List.range (divUp row.length (2 ^ k))).map (fun i =>
    meanPx ((List.range (2 ^ k)).map (fun d => v.getD (min (i * 2 ^ k + d) (row.length - 1)) ⟨0, 0, 0, 0⟩)))

/-- Rows averaged over boxes of 2^k rows; the edge repeats. -/
def boxCols (k : Nat) (rows : List (List Px)) : List (List Px) :=
  let v := rows.toArray
  (List.range (divUp rows.length (2 ^ k))).map (fun i =>
    let rs := (List.range (2 ^ k)).map (fun d => (v.getD (min (i * 2 ^ k + d) (rows.length - 1)) []).toArray)
    (List.range ((v.getD 0 []).length)).map (fun x => meanPx (rs.map (fun r => r.getD x ⟨0, 0, 0, 0⟩))))

/-- A plane reduced and scaled to ow × oh (R242 steps 4 and 5). -/
def State.scalePlane (s : State) (hset vset ow oh am : Nat) (rows : List (List Px)) : List (List Px) :=
  let w := ((rows.head?).getD []).length
  let rows := boxCols (boxExp rows.length oh) (rows.map (boxRow (boxExp w ow)))
  let w := ((rows.head?).getD []).length
  let hs := (rows.map (fun r => (s.scaleRow hset 0 w ow w 0 am r).toArray)).toArray
  (List.range oh).map (fun y =>
    let (i, p) := filterPos 0 rows.length oh y
    let taps := [1, 2, 3, 4, 5, 6].map (s.coefTap vset p)
    let ls := [1, 2, 3, 4, 5, 6].map (fun (t : Nat) => hs.getD (max 0 (min ((rows.length : Int) - 1) (i + t - 3))).toNat #[])
    (List.range ow).map (fun x => filterPx am taps (ls.map (fun l => l.getD x ⟨0, 0, 0, 0⟩))))

/-- An alpha of one format as the alpha of another. -/
def alphaTo (src dst alpha : Nat) : Nat :=
  match alphaMax src, alphaMax dst with
  | 255, 3 => alpha / 64
  | 3, 255 => alpha * 85
  | 0, m => m
  | _, _ => alpha

/-- A packed pixel of format `dst` (R234): the high bits of each 10-bit component. -/
def packPx (src dst : Nat) (p : Px) : List Byte :=
  match dst with
  | 2 => leBytes (p.a / 32 * 2048 + p.b / 16 * 32 + p.c / 32) 2
  | 3 => leBytes (p.a / 4 + 256 * (p.b / 4) + 65536 * (p.c / 4)) 3
  | 4 => leBytes (p.a / 4 + 256 * (p.b / 4) + 65536 * (p.c / 4) + 16777216 * alphaTo src dst p.alpha) 4
  | _ => leBytes (p.a + 1024 * p.b + 1048576 * p.c + 1073741824 * alphaTo src dst p.alpha) 4

/-- A sample of a semi-planar surface (R234). -/
def packSample (dst v : Nat) : List Byte := if dst = 0 then leBytes (v / 4) 1 else leBytes (v * 64) 2

/-- Rows of a packed surface as pixels; rows of a luma plane; rows of a chroma plane. -/
def packedRow (fmt : Nat) (b : List Byte) : List Px := (chunks (fmtBytes fmt) b.length b).map (unpackPx fmt)
def lumaRow (fmt : Nat) (b : List Byte) : List Px := (chunks (fmtBytes fmt) b.length b).map (fun c => ⟨sample10 fmt c, 0, 0, 0⟩)
def chromaPairs (fmt : Nat) (b : List Byte) : List Px :=
  let n := fmtBytes fmt
  (chunks (2 * n) b.length b).map (fun c => ⟨0, sample10 fmt (c.take n), sample10 fmt (c.drop n), 0⟩)

/-- Writes the picture rows of a copy (R242 step 5); none when a source read answers with an error (R31). -/
def State.copyPixels (s : State) (j : CopyJob) (t o : Tag) : Bool × State :=
  let f := tagSurf t
  let g := tagSurf o
  let hs := s.get (F.COPY_HCOEF j.set)
  let vs := s.get (F.COPY_VCOEF j.set)
  let n := fmtBytes t.fmt
  match s.readRows scalerSrc f.base f.pitch (n * t.width) t.height with
  | (none, s) => (false, s)
  | (some ys, s) =>
    if semiPlanar t.fmt then
      match s.readRows scalerSrc f.chroma f.pitch (n * t.width) (t.height / 2) with
      | (none, s) => (false, s)
      | (some cs, s) =>
        let lum := s.scalePlane hs vs o.width o.height 0 (ys.map (lumaRow t.fmt))
        let chr := s.scalePlane hs vs (o.width / 2) (o.height / 2) 0 (cs.map (chromaPairs t.fmt))
        let s := s.writeRows scalerSrc g.base g.pitch (lum.map (fun r => (r.map (fun p => packSample o.fmt p.a)).flatten))
        (true, s.writeRows scalerSrc g.chroma g.pitch
          (chr.map (fun r => (r.map (fun p => packSample o.fmt p.b ++ packSample o.fmt p.c)).flatten)))
    else
      let px := s.scalePlane hs vs o.width o.height (alphaMax t.fmt) (ys.map (packedRow t.fmt))
      (true, s.writeRows scalerSrc g.base g.pitch (px.map (fun r => (r.map (packPx t.fmt o.fmt)).flatten)))

/-- COPY_JOB_DONE: engine `n` ends its copy (R242, R243). -/
def State.copyDone (s : State) (n : Nat) : State :=
  match tabGet? s.scaler.engines n with
  | none => s
  | some j =>
    let k := j.set
    let t := tagOf j.src.bytes
    let o := s.copyTag j
    let s := { s with scaler := { s.scaler with engines := tabErase s.scaler.engines n } }.putB (F.COPY_STATE_BUSY k) false
    let (read, s) := s.copyPixels j t o
    let (intact, s) := s.checkSentinels scalerSrc t
    if read && intact = some true then
      let s := s.closeSurface scalerSrc o (s.copyTagAt k j.slot)
      ((s.put (F.COPY_STATE_NEWEST k) j.slot).bump (F.COPY_MADE k)).bump F.PIXP_COPY_MADE
    else s.dropCopy k

def execCopyJobDone (t : Nat) (n : Fin 4) (s : State) : Host.Outcome State Fault Refusal :=
  .next ((s.advance t).copyDone n.val)

end Sys2Proof.Machine
end

