-- ==== Sys2Proof/Machine/Engines.lean ====
section
/-! DEFINITION. The Priad engines as the other units see them: their records, their initiators, and halting (R173 to
R177, R213, R214). Engine key: core c is c, line sequencer n is 16 + n. -/
namespace Sys2Proof.Machine

/-- The initiator of an engine's accesses (R454). -/
def State.engSrc (s : State) (k : Nat) : Src :=
  if k < 16 then ⟨Fin.ofNat 128 k, (s.engine k).keeper⟩ else ⟨Fin.ofNat 128 k, false⟩

/-- Accesses of an engine that are in flight (R466). -/
def State.inFlightOf (s : State) (k : Nat) : Bool := s.bus.inflight.any (fun x => x.src.id.val = k)

/-- Core `c` stops in a state: LAST_PC holds the next PC (R175). Mark: DESIGN CHOICE, log entry 123: an instruction that has not
completed, `brk` for a debugger among them, is the next one. -/
def State.stopCore (s : State) (c st : Nat) : State :=
  let e := s.engine c
  let s := s.setEngine c { e with wait := .none, halting := none }
  (((s.put (F.CORE_STATE c) st).put (F.CORE_LAST_PC_LO c) (e.pc % 2 ^ 32)).put (F.CORE_LAST_PC_HI c) (e.pc / 2 ^ 32))

/-- Core `c` stops as `haltInto` says; a watchdog that stops it logs its LAST_PC (R175, R176). -/
def State.stopInto (s : State) (c st : Nat) : State :=
  let s := s.stopCore c st
  if st = 4 then s.raise 0x7A (s.engine c).pc 0 c else s

/-- What core `c` is doing lets no halt take effect: stores in flight, an instruction that waits for them, `rulesync`,
`timerestep` (R152, R175). -/
def State.holdsHalt (s : State) (c : Nat) : Bool :=
  s.inFlightOf c || (s.engine c).wait = .rulesync true || (s.engine c).wait = .rulesync false || (s.engine c).wait = .step || (s.engine c).wait = .busy

/-- The state that a core comes to where one halt waits and another comes: an expired watchdog stands before a double fault, and
both before every other halt (R160, R176). Mark: DESIGN CHOICE, log entry 127. -/
def haltOf (old : Option Nat) (st : Nat) : Nat :=
  if old = some 4 || st = 4 then 4 else if old = some 3 then 3 else st

/-- Core `c` is told to halt into state `st`, which it does at once or when what it is doing is done (R152, R175). -/
def State.haltInto (s : State) (c st : Nat) : State :=
  let now := s.get (F.CORE_STATE c)
  let goal := haltOf (s.engine c).halting st
  if now = 1 || now = 2 then
    if s.holdsHalt c then s.setEngine c { s.engine c with halting := some goal } else s.stopInto c goal
  else s

/-- Core `c` is told to halt (R175). -/
def State.haltCore (s : State) (c : Nat) : State := s.haltInto c 0

/-- A halt that has waited takes effect once core `c` is done (R152, R175). -/
def State.settleHalt (s : State) (c : Nat) : State :=
  match (s.engine c).halting with
  | some st => if s.holdsHalt c then s else s.stopInto c st
  | none => s

/-- Line sequencer `n` halts (R213, R195). -/
def State.haltSeq (s : State) (n : Nat) : State :=
  let st := s.get (F.SEQN_STATE n)
  if st = 1 || st = 2 then (s.setEngine (16 + n) { s.engine (16 + n) with wait := .none }).put (F.SEQN_STATE n) 0
  else s

/-- Every core and every line sequencer halts (R508). -/
def State.haltEngines (s : State) : State :=
  let s := (List.range 16).foldl (fun s c => s.haltCore c) s
  (List.range 48).foldl (fun s n => s.haltSeq n) s

end Sys2Proof.Machine
end

