-- ==== Sys2Proof/Machine/Net.lean ====
section
/-! DEFINITION. Ethernet ports, host frames and the MDIO frame (R297, R382 to R391, R394, R396, R405, R406, R408). Port 4 is
the management port. -/
namespace Sys2Proof.Machine

/-! ### Initiators of the units that reach memory (R454) -/

def decSrc (p : Nat) : Src := ⟨Fin.ofNat 128 (0x40 + p % 16), false⟩
def encSrc (p : Nat) : Src := ⟨Fin.ofNat 128 (0x50 + p % 8), false⟩
def intakeSrc : Src := ⟨0x70, false⟩
def dravioSrc : Src := ⟨0x71, false⟩
def touchSrc : Src := ⟨0x72, false⟩
def audioSrc : Src := ⟨0x73, false⟩
def timeSrc : Src := ⟨0x74, false⟩
def bootSrc : Src := ⟨0x7D, true⟩

/-! ### Records (R405) -/

def State.timeRec (s : State) (cls code a2 : Nat) (lim : Option Nat := none) : State :=
  s.raise cls (keyAddr F.TIME_STATUS_SERVO.key) a2 (7 + 0x100 * code) lim

def State.portRec (s : State) (cls p code : Nat) (lim : Option Nat := none) : State :=
  s.raise cls (keyAddr (if p < 4 then (F.PORT_CFG_EN p).key else F.TIME_MGMT_CFG_EN.key)) 0 (p % 8 + 0x100 * code) lim

/-- A record about a frame of a port, or of no port that the part has (R405). -/
def State.frameRec (s : State) (cls p code : Nat) (lim : Option Nat := none) : State :=
  if p ≤ 4 then s.portRec cls p code lim else s.timeRec cls code 0 lim

/-! ### Lengths and checksums of a frame (R297) -/

/-- Bytes `v` put into a frame at offset `o`. -/
def setAt (b : List Byte) (o : Nat) (v : List Byte) : List Byte := slice b 0 o ++ v ++ b.drop (o + v.length)

/-- Offset of the Ethertype after the 802.1Q and 802.1ad tags (R269, R386). -/
def skipTags (b : List Byte) : Nat → Nat → Nat
  | 0, o => o
  | n + 1, o => let t := beNat (slice b o 2); if t = 0x8100 || t = 0x88A8 then skipTags b n (o + 4) else o

def typeAt (b : List Byte) : Nat := skipTags b (b.length / 4 + 1) 12

/-- Sum of the 16-bit words of a byte string, the last odd byte padded with zero. -/
def wordSum : List Byte → Nat
  | [] => 0
  | [a] => a.toNat * 256
  | a :: b :: r => a.toNat * 256 + b.toNat + wordSum r

/-- A sum folded to 16 bits in ones' complement arithmetic. -/
def fold16 (n : Nat) : Nat := iter (fun n => n % 65536 + n / 65536) 4 n

/-- The Internet checksum of a sum of words. -/
def inetSum (n : Nat) : Nat := 65535 - fold16 n

/-- Where the parts of an IP packet in a frame lie: IPv6, offset of the IP header, its length, the protocol. -/
structure IpAt where
  v6 : Bool
  at_ : Nat
  hlen : Nat
  proto : Nat
deriving DecidableEq, Repr

/-- The IP header of a frame, if its Ethertype announces one. -/
def ipAt (b : List Byte) : Option IpAt :=
  let o := typeAt b
  match beNat (slice b o 2) with
  | 0x0800 => some ⟨false, o + 2, 4 * ((beNat (slice b (o + 2) 1)) % 16), beNat (slice b (o + 11) 1)⟩
  | 0x86DD => some ⟨true, o + 2, 40, beNat (slice b (o + 8) 1)⟩
  | _ => none

/-- Sum of the pseudo-header and of the UDP datagram of `n` bytes at the end of the IP header. -/
def udpSum (b : List Byte) (i : IpAt) (n : Nat) : Nat :=
  wordSum (if i.v6 then slice b (i.at_ + 8) 32 else slice b (i.at_ + 12) 8) + 17 + n + wordSum (slice b (i.at_ + i.hlen) n)

/-- Lengths and checksums filled in: IPv4 total length and header checksum, or IPv6 payload length, and the UDP length
and checksum (R297). -/
def completeFrame (b : List Byte) : List Byte :=
  match ipAt b with
  | none => b
  | some i =>
    let b := if i.v6 then setAt b (i.at_ + 4) (beBytes (b.length - i.at_ - 40) 2)
      else
        let c := setAt (setAt b (i.at_ + 2) (beBytes (b.length - i.at_) 2)) (i.at_ + 10) [0, 0]
        setAt c (i.at_ + 10) (beBytes (inetSum (wordSum (slice c i.at_ i.hlen))) 2)
    if i.proto = 17 then
      let u := i.at_ + i.hlen
      let n := b.length - u
      let c := setAt (setAt b (u + 4) (beBytes n 2)) (u + 6) [0, 0]
      let k := inetSum (udpSum c i n)
      setAt c (u + 6) (beBytes (if k = 0 then 65535 else k) 2)
    else b

/-- A request or packet template (R297): port, sender SSRC and header, when HLEN and PORT are in range. -/
def State.template (s : State) (src : Src) (at_ : Nat) : Option (Nat × Nat × List Byte) × State :=
  match s.unitRead src (at_ * 256) 128 with
  | (none, s) => (none, s)
  | (some b, s) =>
    let h := leNat (slice b 0 1)
    let p := leNat (slice b 1 1)
    (if 42 ≤ h && h ≤ 86 && p ≤ 3 then some (p, beNat (slice b 4 4), slice b 8 h) else none, s)

/-! ### Transmit queues (R384, R387 to R389) -/

/-- The port sends: a data port that is up, or the management port when it is on. -/
def State.portIsUp (s : State) (p : Nat) : Bool :=
  if p < 4 then p < s.nPorts && s.on (F.PORT_STATUS_LINK p) else s.on F.TIME_MGMT_CFG_EN

/-- A completion of a host entry (R389). -/
def State.txDone (s : State) (cookie p status epoch ts : Nat) : State :=
  let e := leBytes cookie 8 ++ leBytes p 1 ++ leBytes status 1 ++ leBytes epoch 1 ++ slice [] 0 5 ++ leBytes ts 8 ++ slice [] 0 8
  let (st, s) := if s.on F.TIME_TXDONE_EN then s.ringPost timeSrc (s.get F.TIME_TXDONE_RING) e else (1, s)
  if st = 0 then s else (s.bump F.TIME_RING_DROP).frameRec 0x6D p 2

/-- A frame is not sent because its port is down (R384, R388). -/
def State.frameLost (s : State) (p : Nat) (f : TxFrame) : State :=
  match f.from_ with
  | .keypic _ => s
  | .media c _ => s.bump (if ctxLayout s.regs (F.CTXV_PT c).key = 3 then F.CTXT_PORT_DROP c else F.CTXV_PORT_DROP c)
  | .host cookie _ _ => s.txDone cookie p 1 0 0

/-- A frame is queued at a port (R384, R387). -/
def State.enqueue (s : State) (p : Nat) (f : TxFrame) : State :=
  if s.portIsUp p then
    { s with net := { s.net with queues := tabSet s.net.queues p (tabGet [] s.net.queues p ++ [f]) } }
  else s.frameLost p f

/-- A port goes down: what is queued for it is dropped (R384). -/
def State.flushPort (s : State) (p : Nat) : State :=
  let q := tabGet [] s.net.queues p
  q.foldl (fun s f => s.frameLost p f) { s with net := { s.net with queues := tabErase s.net.queues p } }

/-- A frame may leave now: PACE holds none back (R324). -/
def State.mayLeave (s : State) (f : TxFrame) : Bool :=
  match f.from_ with
  | .media c n => (tabGet 0 s.net.pace (2 * c + n)) ≤ s.time.pix
  | _ => true

/-- The frame that a port sends next: the first that may leave in its highest queue (R387). -/
def State.nextFrame (s : State) (p : Nat) : Option TxFrame :=
  let q := tabGet [] s.net.queues p
  [1, 2, 3, 4].findSome? (fun k => q.find? (fun f => f.q = k && s.mayLeave f))

/-- One-step insertion at PTP offset `o` (R396). -/
def oneStep (b : List Byte) (o ts : Nat) : List Byte :=
  match leNat (slice b o 1) % 16 with
  | 0 => setAt b (o + 34) (beBytes (ts / 1000000000) 6 ++ beBytes (ts % 1000000000) 4)
  | 3 => setAt b (o + 8) (beBytes ((beNat (slice b (o + 8) 8) + ts * 65536) % 2 ^ 64) 8)
  | _ => b

/-- Transmit timestamp of a frame that leaves port `p` now (R391, R394). -/
def State.txStamp (s : State) (p : Nat) : Nat :=
  if p < 4 then uint 64 ((s.time64 : Int) + s.getI (F.PORT_TS_TX_LAT p)) else s.time64 / 8 * 8

/-- ETH_TX_FRAME: port `p` sends its next frame (R387, R389, R394, R396), not while NET is lost (R509). -/
def State.ethTx (s : State) (p : Nat) : State :=
  if !s.portIsUp p || s.netLost then s else
  match s.nextFrame p with
  | none => s
  | some f =>
    let ts := s.txStamp p
    let b := match f.from_ with
      | .host _ fl o =>
        let b := if bitAt fl 1 then oneStep f.bytes o ts else f.bytes
        if bitAt fl 2 then completeFrame b else b
      | _ => f.bytes
    let s := { s with net := { s.net with queues := tabSet s.net.queues p ((tabGet [] s.net.queues p).erase f), sent := tabSet s.net.sent p b } }
    let s := if p < 4 then s.bump (F.PORT_TX_FRAMES p) else s
    match f.from_ with
    | .host cookie fl _ => if bitAt fl 0 then s.txDone cookie p 0 (s.get F.TIME_STATUS_EPOCH) ts else s
    | .media c n =>
      let pace := if ctxLayout s.regs (F.CTXV_PT c).key = 1 then s.get (F.CTXV_PACE c) else 0
      if pace = 0 then s
      else { s with net := { s.net with pace := tabSet s.net.pace (2 * c + n) (s.time.pix + divUp (f.bytes.length * 8 * 1200) pace) } }
    | .keypic _ => s

def execEthTxFrame (t : Nat) (p : Fin 5) (s : State) : Host.Outcome State Fault Refusal := .next ((s.advance t).ethTx p.val)

/-! ### Host entries (R388) -/

/-- HOSTTX_ENTRY: the next entry of the host transmit ring. -/
def State.hostEntry (s : State) : State :=
  if !s.on F.TIME_HOSTTX_EN then s else
  let r := s.get F.TIME_HOSTTX_RING
  if s.ringSize r != 32 then s.timeRec 0x6C 2 0 (some 2)
  else match s.ringTake timeSrc r with
    | (0, e, s) =>
      let len := leNat (slice e 8 2)
      let p := leNat (slice e 10 1)
      let fl := leNat (slice e 11 1)
      let cookie := leNat (slice e 16 8)
      if 4 < p || len < 60 || (if p = 4 then 1514 else 9212) < len || (p = 4 && bitAt fl 1) then
        (s.frameRec 0x6C p 1).txDone cookie p 2 0 0
      else if !s.portIsUp p then s.txDone cookie p 1 0 0
      else match s.unitRead timeSrc (leNat (slice e 0 8)) len with
        | (none, s) => s.txDone cookie p 2 0 0
        | (some b, s) => s.enqueue p ⟨if fl % 4 = 0 then 4 else 1, .host cookie fl (leNat (slice e 12 2)), b⟩
    | (_, _, s) => s

def execHosttxEntry (t : Nat) (s : State) : Host.Outcome State Fault Refusal := .next (s.advance t).hostEntry

/-! ### Port and management configuration (R383, R384, R391, R406, R408) -/

/-- A MAC address in registers that is zero or has its group bit set (R383). -/
def badMac (lo hi : Nat) : Bool := (lo = 0 && hi = 0) || bitAt lo 0

/-- Port `p` stops: it is no longer up. -/
def State.portStop (s : State) (p : Nat) : State :=
  if s.on (F.PORT_STATUS_LINK p) then ((s.putB (F.PORT_STATUS_LINK p) false).bump (F.PORT_DOWN_COUNT p)).flushPort p else s

/-- A write of CFG of data port `p` (R383, R408). -/
def State.wrPortCfg (s : State) (p : Nat) (v : Word) : State :=
  let n := v.toNat
  let s := (s.putB (F.PORT_CFG_MC_ALL p) (bitAt n 3)).putB (F.PORT_CFG_BCAST p) (bitAt n 4)
  if s.on (F.PORT_CFG_EN p) then
    (if bitAt n 0 then s
     else ((s.portStop p).putB (F.PORT_CFG_EN p) false).setReg (F.PORT_STATUS_LINK p).key 0)
  else
    let s := ((s.putB (F.PORT_CFG_SPEED p) (bitAt n 1)).putB (F.PORT_CFG_FEC p) (bitAt n 2)).putB (F.PORT_CFG_PTP p) (bitAt n 5)
    if !bitAt n 0 then s
    else if badMac (s.get (F.PORT_MAC_LO p)) (s.get (F.PORT_MAC_HI p)) then s.portRec 0x62 p 1
    else if bitAt n 2 && bitAt n 1 then s.portRec 0x62 p 2
    else { s.putB (F.PORT_CFG_EN p) true with net := { s.net with since := tabSet s.net.since p s.time.pix } }

def execPortEnable (i : Initiator) (p : Fin 4) (v : Word) (s : State) : Host.Outcome State Fault Refusal :=
  .next (s.asWrite i (F.PORT_CFG_EN p.val).key v (fun s => s.wrPortCfg p.val v))

/-- A write of a MAC address word of a data port: only while EN is 0 (R383). -/
def State.wrPortMac (s : State) (p : Nat) (hi : Bool) (v : Word) : State :=
  if s.on (F.PORT_CFG_EN p) then s
  else if hi then s.put (F.PORT_MAC_HI p) v.toNat else s.put (F.PORT_MAC_LO p) v.toNat

/-- PORT_UP: block lock, FEC alignment where FEC is on, and the absence of faults have held for 10 ms, which no port can claim
earlier than 10 ms after its enabling or its last loss (R384). -/
def State.portComesUp (s : State) (p : Nat) : State :=
  if s.on (F.PORT_CFG_EN p) && !s.on (F.PORT_STATUS_LINK p) && p < s.nPorts && tabGet 0 s.net.since p + 10 * clkMs ≤ s.time.pix then
    let s := s.setReg (F.PORT_STATUS_LINK p).key (if s.on (F.PORT_CFG_FEC p) then 7#32 else 3#32)
    s.portRec 0x61 p (s.get (F.PORT_CFG_SPEED p))
  else s

def execPortUp (t : Nat) (p : Fin 4) (s : State) : Host.Outcome State Fault Refusal := .next ((s.advance t).portComesUp p.val)

/-- PORT_DOWN with cause code 1 to 4: what R384 asks of a port that is on fails, and its 10 ms begin anew; a port that is up goes
down. -/
def State.portGoesDown (s : State) (p code : Nat) : State :=
  if !s.on (F.PORT_CFG_EN p) then s else
  let up := s.on (F.PORT_STATUS_LINK p)
  let s := s.portStop p
  let s := { s with net := { s.net with since := tabSet s.net.since p s.time.pix } }
  let s := match code with
    | 1 => ((s.putB (F.PORT_STATUS_BLOCK_LOCK p) false).putB (F.PORT_STATUS_FEC_LOCK p) false).putB (F.PORT_STATUS_LOCAL_FAULT p) true
    | 2 => ((s.putB (F.PORT_STATUS_BLOCK_LOCK p) false).putB (F.PORT_STATUS_FEC_LOCK p) false).putB (F.PORT_STATUS_LOCAL_FAULT p) true
    | 3 => s.putB (F.PORT_STATUS_REMOTE_FAULT p) true
    | _ => s.putB (F.PORT_STATUS_FEC_LOCK p) false
  if up then s.portRec 0x60 p code else s

def execPortDown (t : Nat) (p : Fin 4) (cause : Fin 4) (s : State) : Host.Outcome State Fault Refusal :=
  .next ((s.advance t).portGoesDown p.val (cause.val + 1))

/-- A write of MGMT_CFG (R391, R406). -/
def State.wrMgmtCfg (s : State) (v : Word) : State :=
  let n := v.toNat
  let s := ((s.putB F.TIME_MGMT_CFG_SPEED (bitAt n 1)).putB F.TIME_MGMT_CFG_TXDLY (bitAt n 2)).putB F.TIME_MGMT_CFG_RXDLY (bitAt n 3)
  if !bitAt n 0 then (s.putB F.TIME_MGMT_CFG_EN false).flushPort 4
  else if s.on F.TIME_MGMT_CFG_EN then s
  else if badMac (s.get F.TIME_MGMT_MAC_LO) (s.get F.TIME_MGMT_MAC_HI) then s.portRec 0x62 4 1
  else s.putB F.TIME_MGMT_CFG_EN true

def execMgmtEnable (i : Initiator) (v : Word) (s : State) : Host.Outcome State Fault Refusal :=
  .next (s.asWrite i F.TIME_MGMT_CFG_EN.key v (fun s => s.wrMgmtCfg v))

/-- A write of MDIO_CMD: GO starts a frame and reads 1 until it completes (R391, R406). -/
def State.wrMdio (s : State) (v : Word) : State :=
  let n := v.toNat
  let busy := s.on F.TIME_MDIO_CMD_GO
  s.setReg F.TIME_MDIO_CMD_DATA.key (BitVec.ofNat 32 (n % 2 ^ 28 + (if busy || bitAt n 31 then 2 ^ 31 else 0)))

def execMdioGo (i : Initiator) (v : Word) (s : State) : Host.Outcome State Fault Refusal :=
  .next (s.asWrite i F.TIME_MDIO_CMD_GO.key v (fun s => s.wrMdio v))

/-- MDIO_DONE: a read delivers its data (R406). -/
def State.mdioDone (s : State) (data : BitVec 16) : State :=
  if !s.on F.TIME_MDIO_CMD_GO then s else
  let op := s.get F.TIME_MDIO_CMD_OP
  let s := s.putB F.TIME_MDIO_CMD_GO false
  if op = 1 || op = 3 then s.put F.TIME_MDIO_CMD_DATA data.toNat else s

def execMdioDone (t : Nat) (data : BitVec 16) (s : State) : Host.Outcome State Fault Refusal := .next ((s.advance t).mdioDone data)

/-! ### Reception up to the filter (R385, R386, R390) -/

/-- MAC address of a port as six bytes in wire order. -/
def State.macOf (s : State) (p : Nat) : List Byte :=
  if p < 4 then leBytes (s.get (F.PORT_MAC_LO p)) 4 ++ leBytes (s.get (F.PORT_MAC_HI p)) 2
  else leBytes (s.get F.TIME_MGMT_MAC_LO) 4 ++ leBytes (s.get F.TIME_MGMT_MAC_HI) 2

/-- The hash bit of a multicast address (R385). -/
def mcHash (da : List Byte) : Nat := polyFinal 1 (polyFrom 1 (polyInit 1) da) % 256

/-- A destination address passes the filter of port `p` (R385). -/
def State.passes (s : State) (p : Nat) (da : List Byte) : Bool :=
  if da = s.macOf p then true
  else if da = List.replicate 6 0xFF then p < 4 && s.on (F.PORT_CFG_BCAST p)
  else if bitAt (leNat (slice da 0 1)) 0 then
    p < 4 && (s.on (F.PORT_CFG_MC_ALL p) || s.bit (F.PORT_MC_HASH p (mcHash da / 32)) (mcHash da % 32))
  else false

/-- A counter of a data port; the management port has none. -/
def State.portBump (s : State) (p : Nat) (f : Nat → Fld) : State := if p < 4 then s.bump (f p) else s

/-- A frame with a bad FCS on a port with FEC comes from a codeword that could not be corrected (R405, R408). Mark: DEDUCED, log
entry 134. -/
def State.fecBad (s : State) (p : Nat) : State :=
  if p < 4 && s.on (F.PORT_CFG_FEC p) then (s.bump (F.PORT_FEC_UNCORR p)).portRec 0x63 p 0 (some p) else s

/-- The receive MAC of port `p` (R385): the frame passes, or is counted. Nothing arrives while NET is lost (R509). -/
def State.macReceive (s : State) (p : Nat) (fcsOk : Bool) (b : List Byte) : Bool × State :=
  if !(if p < 4 then s.portIsUp p else s.on F.TIME_MGMT_CFG_EN) || s.netLost then (false, s)
  else if !fcsOk then (false, (s.portBump p F.PORT_RX_FCS_ERR).fecBad p)
  else if 9216 < b.length + 4 then (false, s.portBump p F.PORT_RX_LONG)
  else if beNat (slice b 12 2) = 0x8808 then (false, s.portBump p F.PORT_RX_PAUSE)
  else if s.passes p (slice b 0 6) then (true, s.portBump p F.PORT_RX_FRAMES)
  else (false, s.portBump p F.PORT_RX_FILTERED)

/-- A PTP frame (R386). -/
def isPtp (b : List Byte) : Bool :=
  if beNat (slice b (typeAt b) 2) = 0x88F7 then true
  else match ipAt b with
    | none => false
    | some i => i.proto = 17 &&
      (let d := beNat (slice b (i.at_ + i.hlen + 2) 2); d = 319 || d = 320) &&
      (i.v6 || beNat (slice b (i.at_ + 6) 2) % 0x4000 = 0)

/-- PIXEL clocks that `n` bytes last on port `p`: 25 or 10 Gbit/s, and 1,000 or 100 Mbit/s on port 4 (R382, R391). -/
def State.byteClocks (s : State) (p n : Nat) : Nat :=
  if p < 4 then (if s.on (F.PORT_CFG_SPEED p) then n * 24 / 25 else n * 48 / 125)
  else if s.on F.TIME_MGMT_CFG_SPEED then n * 96 else n * 48 / 5

/-- Receive timestamp of a frame of `n` bytes and its FCS whose last bit arrives now: TIME64 when the first bit after the start
frame delimiter came (R391, R394). Mark: DEDUCED, log entry 136. -/
def State.rxStamp (s : State) (p n : Nat) : Nat :=
  let t := s.timeAgo (s.byteClocks p (n + 4))
  if p < 4 then uint 64 ((t : Int) - s.getI (F.PORT_TS_RX_LAT p)) else t / 8 * 8

end Sys2Proof.Machine
end

