-- ==== Sys2Proof/Machine/Stream.lean ====
section
/-! DEFINITION. Stream contexts as every family sees them: kinds, states, records, demands and capture time (R260 to R266,
R278, R290, R299), and the playout buffers of audio contexts (R442, R446, R450). -/
namespace Sys2Proof.Machine

/-! ### Contexts (R260 to R265) -/

def State.ctx (s : State) (c : Nat) : Ctx := tabGet {} s.ctxs c
def State.setCtx (s : State) (c : Nat) (x : Ctx) : State := { s with ctxs := tabSet s.ctxs c x }

def State.kind (s : State) (c : Nat) : Nat := s.get (F.CTX_CTRL_KIND c)
def State.isVideo (s : State) (c : Nat) : Bool := s.kind c = 1 || s.kind c = 2
/-- A context of KIND 3, or a TX context with TXKIND AUDIO. -/
def State.isAudio (s : State) (c : Nat) : Bool := s.kind c = 3 || (s.kind c = 5 && s.get (F.CTXV_TXKIND c) = 1)

def ctxClosed : Nat := 0
def ctxWaitRap : Nat := 1
def ctxRunning : Nat := 2
def ctxRefused : Nat := 3
def ctxDraining : Nat := 4

def State.ctxState (s : State) (c : Nat) : Nat := s.get (F.CTX_STATUS_STATE c)

/-- The context is open: WAIT_RAP or RUNNING (R265). -/
def State.ctxOn (s : State) (c : Nat) : Bool := s.ctxState c = ctxWaitRap || s.ctxState c = ctxRunning

/-- The open contexts, by rising number. A context that has been opened has an entry. -/
def State.openCtxs (s : State) : List Nat := (s.ctxs.map (fun e => e.1)).filter s.ctxOn

/-- WIN in packets, HOLD in PIXEL clocks, the least interval between key-picture requests in PIXEL clocks, and the decode
budget in ns (R262). -/
def State.winOf (s : State) (c : Nat) : Nat := let w := s.get (F.CTX_WIN c); if w = 0 then 1024 else clamp 64 4096 w
def State.gapHold (s : State) (c : Nat) : Nat := let h := s.get (F.CTX_HOLD c); (if h = 0 then 200 else h) * 100 * clkUs
def State.kpInt (s : State) (c : Nat) : Nat := clamp 500 10000 (s.get (F.CTX_KP_INT_MS c)) * clkMs
def State.budgetNs (s : State) (c : Nat) : Nat :=
  let d := s.get (F.CTX_DL_US c)
  let e := s.get (F.CTX_EXP_INT_US c)
  1000 * (if d != 0 then d else if e != 0 then e else 40000)

/-! ### Records (R299, R451) -/

def streamDet (c p code port : Nat) : Nat := c % 0x1000 + 0x1000 * (p % 16) + 0x10000 * (code % 256) + 0x1000000 * (port % 4)
def ctxAddr (c : Nat) : Nat := keyAddr (F.CTX_CTRL_KIND c).key
def pipeAddr (p : Nat) : Nat := keyAddr (F.PIPE_STATE p).key

def State.ctxRec (s : State) (cls c code : Nat) (a2 : Nat := 0) (port : Nat := 0) (lim : Option Nat := none) : State :=
  s.raise cls (ctxAddr c) a2 (streamDet c (s.get (F.CTX_STATUS_PIPE c)) code port) lim

/-- A record of context `c` about a picture that pipe `p` works on (R299). -/
def State.jobRec (s : State) (cls c p code : Nat) (a2 : Nat := 0) (port : Nat := 0) (lim : Option Nat := none) : State :=
  s.raise cls (ctxAddr c) a2 (streamDet c p code port) lim

/-- A unit that is dropped had lost packets (R293); `p` is the pipe that had it, or that serves its context (R299). -/
def State.lostRec (s : State) (c p : Nat) (a : Au) : State := if a.lost then s.jobRec 0x51 c p 2 0 a.port (some c) else s

def State.pipeRec (s : State) (cls p c code : Nat) : State := s.raise cls (pipeAddr p) 0 (streamDet c p code 0)

/-- Detail of classes 0xA0 to 0xA7 (R451). Slot and code share bits 9 and 8: both stand there, as in log entry 31. -/
def audioDet (port : Nat) (rx : Bool) (slot code c : Nat) : Nat :=
  port % 16 + (if rx then 0x10 else 0) + ((0x20 * (slot % 32)) ||| (0x100 * (code % 256))) + 0x10000 * (c % 0x1000)

/-- A packet buffer is free again (R270). -/
def State.freeBuf (s : State) (b : Nat) : State := { s with intake := { s.intake with bufs := s.intake.bufs.erase b } }

/-- The buffers that the packets of a context hold are free again. -/
def State.freeHeld (s : State) (c : Nat) : State :=
  let x := s.ctx c
  let s := (x.held ++ x.cand.toList).foldl (fun s k => s.freeBuf k.buf) s
  s.setCtx c { x with held := [], cand := none }

/-- A refusal of a context (R264, R281), raised on pipe `p` by what came through port `port`: it stops, and takes no more packets. -/
def State.ctxRefuse (s : State) (c p code port : Nat) (lim : Option Nat := none) : State :=
  let s := s.freeHeld c
  let s := s.setCtx c { s.ctx c with ready := [], asm := none, fu := none, gaps := [] }
  ((s.put (F.CTX_STATUS_STATE c) ctxRefused).put (F.CTX_STATUS_CODE c) code).jobRec 0x50 c p code 0 port lim

/-- An open video context returns to WAIT_RAP (R265, R272, R273, R276). -/
def State.toWaitRap (s : State) (c : Nat) : State :=
  if s.isVideo c && s.ctxOn c then (s.put (F.CTX_STATUS_STATE c) ctxWaitRap).setCtx c { s.ctx c with psetDue := true } else s

/-! ### Demands and the pipes' load, in pixels a second (R262, R264, R290) -/

def State.declaredOf (s : State) (c : Nat) : Nat :=
  let e := s.get (F.CTX_EXP_INT_US c)
  let a := s.get (F.CTX_MAX_W c) * s.get (F.CTX_MAX_H c)
  if e = 0 then a * 30 else a * 1000000 / e

/-- Luma samples decoded in the last second. -/
def State.measuredOf (s : State) (c : Nat) : Nat :=
  (((s.ctx c).work.filter (fun e => s.time.pix < e.1 + clkS)).map (fun e => e.2)).sum

def State.demandOf (s : State) (c : Nat) : Nat :=
  match (s.ctx c).measFrom with
  | some t => if t + clkS ≤ s.time.pix then s.measuredOf c else s.declaredOf c
  | none => s.declaredOf c

/-- Open H264 and H265 contexts. -/
def State.openVideo (s : State) : List Nat := s.openCtxs.filter s.isVideo
def State.openAudio (s : State) : List Nat := s.openCtxs.filter s.isAudio

/-- Contexts assigned to pipe `p`, and their LOAD. -/
def State.pipeCtxs (s : State) (p : Nat) : List Nat := s.openVideo.filter (fun c => s.get (F.CTX_STATUS_PIPE c) = p)
def State.pipeLoad (s : State) (p : Nat) : Nat := ((s.pipeCtxs p).map s.demandOf).sum

/-- A decode pipe that the member has and that works: IDLE, BUSY or SLOW (R302). -/
def State.pipeLive (s : State) (p : Nat) : Bool := p < s.nDec && s.get (F.PIPE_STATE p) ≤ 2

/-- A decode pipe in service, which the scheduler may use: one whose PIPE_EN bit is 0 only ends its picture (R290, R292,
R301). -/
def State.pipeIn (s : State) (p : Nat) : Bool := s.pipeLive p && s.bit F.DEC_PIPE_EN p
def State.pipesIn (s : State) : List Nat := (List.range s.nDec).filter s.pipeIn

/-- RATE of a pipe in pixels a second (R302). -/
def State.pipeRate (s : State) (p : Nat) : Nat := s.get (F.PIPE_RATE p) * 1000000

/-- DEC.CAPACITY in pixels a second (R301). -/
def State.decCapacity (s : State) : Nat := (s.pipesIn.map s.pipeRate).sum

/-- The element of a list with the least value, the first among equals. -/
def leastBy (f : Nat → Nat) : List Nat → Option Nat
  | [] => none
  | a :: l => match leastBy f l with
    | none => some a
    | some b => if f b < f a then some b else some a

/-- nal_unit_type of a NAL unit of H.265 or H.264 (R276, R324). -/
def nalType (h265 : Bool) (b : List Byte) : Nat := if h265 then leNat (slice b 0 1) / 2 % 64 else leNat (slice b 0 1) % 32

/-! ### Capture time (R278, R279) -/

/-- NTP time to TIME64: the era is the one nearest to the current TIME64 (R278). -/
def State.ntpToTime (s : State) (sec frac : Nat) : Nat :=
  let era : Int := 2 ^ 32 * 1000000000
  let base : Int := ((sec : Int) - 2208988800 + s.get F.INTAKE_UTC_TAI) * 1000000000 + ((frac * 1000000000 / 2 ^ 32 : Nat) : Int)
  let d : Int := (s.time64 : Int) - base
  (base + (2 * d + era) / (2 * era) * era).toNat % 2 ^ 64

/-- TIME64 to a 64-bit NTP timestamp (R324). -/
def State.timeToNtp (s : State) (t : Nat) : Nat :=
  let sec : Int := ((t / 1000000000 : Nat) : Int) + 2208988800 - s.get F.INTAKE_UTC_TAI
  uint 32 sec * 2 ^ 32 + t % 1000000000 * 2 ^ 32 / 1000000000

/-- Clock rate of the RTP timestamps of a context (R278, R446). -/
def State.rtpRate (s : State) (c : Nat) : Nat := if s.kind c = 3 then s.get (F.CTXR_RATE_HZ c) else 90000

/-- The prediction at an RTP timestamp of the mapping in force. -/
def State.predict (s : State) (c ts : Nat) : Nat :=
  let d := sint 32 (ts + 2 ^ 32 - (s.ctx c).mapRtp)
  uint 64 ((s.get64 (F.CTX_ANCHOR_TIME c) : Int) + d * 1000000000 / (max 1 (s.rtpRate c) : Nat))

/-- A new anchor, which came by port `port` (R278, R279). -/
def State.setAnchor (s : State) (c ts t : Nat) (port : Nat := 0) : State :=
  let jump := s.on (F.CTX_STATUS_ANCHOR_OK c) && 1000000 < (sint 64 (t + 2 ^ 64 - s.predict c ts)).natAbs
  let s := ((s.put (F.CTX_ANCHOR_RTP c) ts).put64 (F.CTX_ANCHOR_TIME c) t).putB (F.CTX_STATUS_ANCHOR_OK c) true
  let s := s.setCtx c { s.ctx c with mapRtp := ts % 2 ^ 32 }
  if jump then s.ctxRec 0x58 c 2 0 port else s

/-- A host write of ANCHOR_TIME (R278): the mapping together with the ANCHOR_RTP written before it. -/
def State.anchorWrite (s : State) (c t : Nat) : State := s.setAnchor c (s.get (F.CTX_ANCHOR_RTP c)) t

/-- CAPTURE of a picture or an audio packet (R278): RTP timestamp, arrival, header-extension time. -/
def State.captureOf (s : State) (c ts arr : Nat) (ntp : Option Nat) : Nat :=
  match s.get (F.CTX_CTRL_CAPMODE c), ntp with
  | 2, _ => uint 64 ((arr : Int) - (if s.isVideo c then 1000 * s.get (F.CTX_ARR_OFS_US c) else 0 : Nat))
  | 1, some t => t
  | _, _ => s.predict c ts

/-! ### Audio sides and playout buffers (R442, R446, R450) -/

/-- A side of an audio port: 2 × port for transmit, one more for receive. -/
def State.side (s : State) (k : Nat) : Side := tabGet {} s.sides k
def State.setSide (s : State) (k : Nat) (x : Side) : State := { s with sides := tabSet s.sides k x }

/-- TARGET_US of an audio context in frames, T of R442. -/
def State.playTarget (s : State) (c : Nat) : Nat :=
  let t := s.get (F.CTXR_TARGET_US c)
  (if t = 0 then 5000 else max 500 t) * s.get (F.CTXR_RATE_HZ c) / 1000000

/-- Frame `q` of the playout buffer of context `c` lies here: CAP_FRAMES frames of 4 × CHANNELS bytes (R445). -/
def State.frameAddr (s : State) (c q : Nat) : Nat :=
  s.get (F.CTXR_BUF c) * 256 + q % max 1 (s.get (F.CTXR_CAP_FRAMES c)) * (4 * s.get (F.CTXR_CHANNELS c))

/-- The transmit sides that read context `c`, with their readers. -/
def State.readersOf (s : State) (c : Nat) : List (Nat × Reader) :=
  s.sides.filterMap (fun (e : Nat × Side) => (tabGet? e.2.readers c).map (fun r => (e.1, r)))

def sideAddr (s : Nat) : Nat := keyAddr ((F.SIDE_CFG_EN (s / 2) (s % 2)).key)

/-- A reader that has let its buffer fill up loses the oldest frames until F equals T (R442, R444). -/
def State.overrun (s : State) (c : Nat) (e : Nat × Reader) : State :=
  let x := s.ctx c
  if x.playEnd ≤ e.2.pos + s.get (F.CTXR_CAP_FRAMES c) then s else
  let sd := s.side e.1
  let s := s.setSide e.1 { sd with readers := tabSet sd.readers c { e.2 with pos := x.playEnd - s.playTarget c } }
  ((s.bump (F.CTXR_OVERRUN c)).bump (F.SIDE_OVERRUN (e.1 / 2) 0)).raise 0xA4 (sideAddr e.1) 0 (audioDet (e.1 / 2) false 0 0 c)
    (some (e.1 * 8192 + c))

/-- Channel pairs of a frame that carry the IEC 61937 preambles Pa and Pb (R450). -/
def preambles (f : List Nat) : List Nat :=
  (List.range (f.length / 2)).filter (fun k => nth 0 f (2 * k) / 256 = 0xF872 && nth 0 f (2 * k + 1) / 256 = 0x4E1F)

/-- A frame after non-audio muting: the muted pairs are zero, and each counts down its 8,192 frames; the third result
lists the pairs that enter muting (R450). -/
def muteFrame (mute : Tab Nat) (f : List Nat) : List Nat × Tab Nat × List Nat :=
  let pre := preambles f
  let entry := pre.filter (fun k => tabGet 0 mute k = 0)
  let now := fun k => if pre.contains k then 8193 else tabGet 0 mute k
  let out := f.zipIdx.map (fun e => if e.2 < f.length / 2 * 2 && now (e.2 / 2) != 0 then 0 else e.1)
  (out, ((List.range (f.length / 2)).filter (fun k => 1 < now k)).map (fun k => (k, now k - 1)), entry)

/-- Samples of a frame of RTP audio: big-endian L16 or L24, held as 24 bits (R434, R446). -/
def rtpSamples (l24 : Bool) : Nat → List Byte → List Nat
  | 0, _ => []
  | n + 1, b => (if l24 then beNat (slice b 0 3) else 256 * beNat (slice b 0 2)) :: rtpSamples l24 n (b.drop (if l24 then 3 else 2))

/-- Frame `q` of the playout buffer is written, after the muting of R450. -/
def State.placeFrame (s : State) (c q : Nat) (f : List Nat) : State :=
  let x := s.ctx c
  let (out, mute, entry) := muteFrame x.mute f
  let s := s.setCtx c { x with mute := mute }
  let s := entry.foldl (fun s k => (s.bump (F.CTXR_NONAUDIO c)).raise 0xA5 (ctxAddr c) 0 (audioDet 0 false 0 k c)) s
  (s.unitWrite intakeSrc (s.frameAddr c q) ((out.map (fun v => leBytes v 4)).flatten)).2

/-- Frames placed one after another from frame `q` on. -/
def State.placeFrames (s : State) (c q : Nat) : List (List Nat) → State
  | [] => s
  | f :: fs => (s.placeFrame c q f).placeFrames c (q + 1) fs

/-- The unwrapped position of an RTP timestamp nearest to `near`. -/
def unwrapTs (near ts : Nat) : Nat := ((near : Int) + sint 32 (ts + 2 ^ 32 - near % 2 ^ 32)).toNat

/-- A packet is the first of its stream, from frame `p` on: the readers that wait for it stand ahead of it (R443). -/
def State.startReaders (s : State) (c p : Nat) : State :=
  (s.readersOf c).foldl (fun s e => s.setSide e.1 { s.side e.1 with readers := tabSet (s.side e.1).readers c { e.2 with pos := p } }) s

/-- AUDIO_PACKET_RX: the samples of a packet go to their places in the playout buffer; frames between them and what was
there are lost ones and become zero frames (R446). Mark: DEDUCED, log entry 146: the capture time of a lost frame is counted
back from that of the packet after it. -/
def State.audioPacket (s : State) (c : Nat) (k : RxPkt) : State :=
  let x := s.ctx c
  let ch := s.get (F.CTXR_CHANNELS c)
  let l24 := s.get (F.CTXR_FORMAT c) = 1
  let size := max 1 (ch * if l24 then 3 else 2)
  let n := k.pay.length / size
  let first := x.playEnd = 0
  let p := if first then k.ts + 2 ^ 32 else unwrapTs x.playEnd k.ts
  let s := if first then s.startReaders c p else s
  let rs := s.readersOf c
  if !rs.isEmpty && rs.all (fun r => p + n ≤ r.2.pos) then s.bump (F.CTX_LATE c) else
  let cap := s.get (F.CTXR_CAP_FRAMES c)
  let gap := if first then 0 else min cap (p - x.playEnd)
  let s := s.placeFrames c (p - gap) (List.replicate gap (List.replicate ch 0))
  let s := s.placeFrames c p ((List.range n).map (fun i => rtpSamples l24 ch (k.pay.drop (i * size))))
  let direct := match s.get (F.CTX_CTRL_CAPMODE c), k.ntp with
    | 2, _ => some k.arr
    | 1, some t => some t
    | _, _ => none
  let e := max x.playEnd (p + n)
  let before := fun t => uint 64 ((t : Int) - (gap * 1000000000 / max 1 (s.get (F.CTXR_RATE_HZ c)) : Nat))
  let s := s.setCtx c { s.ctx c with playEnd := e, playStart := if first then p else x.playStart,
                                     playCap := ((p, n, direct) :: (if gap = 0 then [] else [(p - gap, gap, direct.map before)]) ++ x.playCap).filter (fun q => e < q.1 + q.2.1 + cap + 1) }
  (s.readersOf c).foldl (fun s r => s.overrun c r) s

/-! ### 64-bit registers (R573) -/

/-- A 32-bit write of the low half is held by the register. -/
def State.holdLow (s : State) (key : Nat) (v : Word) : State := { s with bus := { s.bus with held := tabSet s.bus.held key v } }

/-- A 32-bit write of the high half: the value that it makes with the held, or the present, low half. -/
def State.joinHigh (s : State) (key : Nat) (v : Word) : Nat × State :=
  let lo := tabGet (s.reg key) s.bus.held key
  (lo.toNat + 2 ^ 32 * v.toNat, { s with bus := { s.bus with held := tabErase s.bus.held key } })

/-- A 64-bit write replaces a low half held, and none stays (R573). Mark: DESIGN CHOICE, log entry 114. -/
def State.dropLow (s : State) (key : Nat) : State := { s with bus := { s.bus with held := tabErase s.bus.held key } }

/-! ### Requests to encode sessions (R315, R325) -/

def State.ses (s : State) (v : Nat) : Sess := tabGet {} s.sess v
def State.setSes (s : State) (v : Nat) (x : Sess) : State := { s with sess := tabSet s.sess v x }

/-- A request for a key picture of session `v` from source `by_`: requests merge into one that names the first (R315). -/
def State.keyRequest (s : State) (v by_ : Nat) : State :=
  if !s.on (F.SESS_CTL_ENABLE v) || s.on (F.SESS_STATUS_KEY_PENDING v) then s
  else (s.setSes v { s.ses v with reqBy := by_ }).putB (F.SESS_STATUS_KEY_PENDING v) true

/-- The enabled sessions that send through context `c`. -/
def State.sessOf (s : State) (c : Nat) : List Nat :=
  (List.range s.nVheads).filter (fun v => s.on (F.SESS_CTL_ENABLE v) && s.get (F.SESS_CTL_CONTEXT v) = c)

end Sys2Proof.Machine
end

