-- ==== Sys2Proof/Machine/Encode.lean ====
section
/-! DEFINITION. Encode sessions, pipes, rate control and packetisation (R303 to R325, R328, R329). Session v encodes head
32 + v. -/
namespace Sys2Proof.Machine

/-! ### Records (R326) -/

/-- A record of session `v`, which names pipe `p`. -/
def State.encRecOn (s : State) (cls v p code : Nat) (lim : Option Nat := none) : State :=
  s.raise cls (keyAddr (F.SESS_CTL_ENABLE v).key) 0
    (streamDet (s.get (F.SESS_CTL_CONTEXT v)) p code 0 + 0x4000000 * (32 + v)) lim

def State.encRec (s : State) (cls v code : Nat) (lim : Option Nat := none) : State :=
  s.encRecOn cls v (s.get (F.SESS_STATUS_PIPE v)) code lim

/-! ### Sizes and rates (R307, R308, R311, R316, R320) -/

def State.codec (s : State) (v : Nat) : Nat := s.get (F.SESS_CTL_CODEC v)

/-- Luma lines of a row, and the side of a unit. -/
def rowLines (codec : Nat) : Nat := if codec = 0 then 16 else 32
def padTo (n m : Nat) : Nat := divUp n m * m

/-- Padded width and height of session `v` (R307). -/
def State.encSize (s : State) (v : Nat) : Nat × Nat :=
  let t := s.timingReg (32 + v)
  (padTo t.hactive (rowLines (s.codec v)), padTo t.vactive (rowLines (s.codec v)))

/-- Padded rate in pixels a second, rounded down (R308). -/
def State.encRate (s : State) (v : Nat) : Nat :=
  let t := s.timingReg (32 + v)
  let (w, h) := s.encSize v
  w * h * t.num / max 1 t.den

/-- Rows of a picture, units of a row, and rows of a slice. -/
def State.encRows (s : State) (v : Nat) : Nat := (s.encSize v).2 / rowLines (s.codec v)
def State.encUnits (s : State) (v : Nat) : Nat := (s.encSize v).1 / rowLines (s.codec v)
def State.sliceRows (s : State) (v : Nat) : Nat := max 1 (s.get (F.SESS_SLICE_ROWS v))

/-- Exhaust cost of a unit (R320). -/
def unitCost (codec : Nat) (key : Bool) : Nat := (if codec = 0 then 1 else 4) * if key then 4 else 1

/-- Exhaust cost of a whole picture (R311, R316, R320). -/
def State.encAll (s : State) (v : Nat) (key : Bool) : Nat :=
  s.encRows v * (s.encUnits v * unitCost (s.codec v) key + 32) + 128 * divUp (s.encRows v) (s.sliceRows v) + if key then 1024 else 0

/-- b of R316. -/
def State.encB (s : State) (v : Nat) : Nat :=
  let t := s.timingReg (32 + v)
  s.get (F.SESS_BITRATE v) * 1000 * t.den / max 1 t.num

/-- MAXU of R320. -/
def maxUnit : Nat → Nat
  | 0 => 3200
  | 1 => 12800
  | _ => 16000

/-- An encode pipe that the member has, in service (R308, R328). -/
def State.epipeIn (s : State) (p : Nat) : Bool := p < s.nEnc && s.get (F.EPIPE_STATE p) ≤ 1

/-- Sessions assigned to a pipe: enabled and not STALLED. -/
def State.epipeSess (s : State) (p : Nat) : List Nat :=
  (List.range s.nVheads).filter (fun v => s.on (F.SESS_CTL_ENABLE v) && s.get (F.SESS_STATUS_STATE v) != 4 && s.get (F.SESS_STATUS_PIPE v) = p)

def State.epipeLoad (s : State) (p : Nat) : Nat := ((s.epipeSess p).map s.encRate).sum

/-- A pipe in service has room for session `v` besides its others (R308). -/
def State.epipeRoom (s : State) (v p : Nat) : Bool :=
  s.epipeIn p && (((s.epipeSess p).erase v).map s.encRate).sum + s.encRate v ≤ 504000000

/-- The pipe that a session goes to (R308). -/
def State.choosePipe (s : State) (v : Nat) : Option Nat :=
  let home := s.get (F.SESS_CTL_HOME v)
  if s.on (F.SESS_CTL_PIN v) && s.epipeRoom v home then some home
  else leastBy s.epipeLoad ((List.range s.nEnc).filter (s.epipeRoom v))

/-! ### Enabling and fields (R305, R306, R309) -/

/-- Code of the check that fails, 0 for none (R305). -/
def State.sessCode (s : State) (v : Nat) : Nat :=
  let codec := s.codec v
  let depth := s.get (F.HEAD_CFG_DEPTH (32 + v))
  let c := s.get (F.SESS_CTL_CONTEXT v)
  let b := s.get (F.SESS_BITRATE v)
  let (w, h) := s.encSize v
  let ref := s.get (F.SESS_REF v)
  let pr := padTo (if codec = 2 then 2 * w else w) 256
  let t := s.timingReg (32 + v)
  if codec = 3 || s.get (F.SESS_CTL_TRANSFER v) = 3 then 1
  else if depth != (if codec = 2 then 1 else 0) then 2
  else if s.nCtx ≤ c || s.kind c != 5 || s.get (F.CTXV_TXKIND c) != 0 || !(s.sessOf c).isEmpty then 3
  else if b < 64 || 200000 < b || 106 * s.encB v < 400 * s.encAll v true then 4
  else if ref = 0 || s.dramEnd < ref * 256 + padTo (2 * pr * h * 3 / 2) 4096 then 5
  else if (s.choosePipe v).isNone then 6
  else if codec = 0 && 2073600 * t.den < w / 16 * (h / 16) * t.num then 7
  else if s.on (F.SESS_CTL_PIN v) && s.nEnc ≤ s.get (F.SESS_CTL_HOME v) then 9
  else 0

/-- QPMIN as it reads, and QPMAX, never above 51 and else not below QPMIN (R329). Mark: DESIGN CHOICE, log entry 139: with
QPMIN above 51, QPMAX reads 51. -/
def State.qpMin (s : State) (v : Nat) : Nat := s.get (F.SESS_QPMIN v)
def State.qpMax (s : State) (v : Nat) : Nat := clamp (min 51 (s.qpMin v)) 51 (s.get (F.SESS_QPMAX v))

/-- A QP clamped to QPMIN to QPMAX (R319, R322). Mark: DESIGN CHOICE, log entry 139: QPMAX has the last word. -/
def qpClamp (qpMin qpMax : Nat) (q : Int) : Nat := (min (qpMax : Int) (max (qpMin : Int) q)).toNat

/-- A write of 1 to ENABLE of a session that is off (R305, R309). -/
def State.sessEnable (s : State) (v : Nat) : State :=
  let c := s.sessCode v
  if c != 0 then ((s.put (F.SESS_STATUS_STATE v) 5).put (F.SESS_STATUS_CODE v) c).encRec 0x5A v c
  else
    let p := (s.choosePipe v).getD 0
    let s := ((s.putB (F.SESS_CTL_ENABLE v) true).put (F.SESS_STATUS_STATE v) 1).put (F.SESS_STATUS_PIPE v) p
    let s := ((s.putB (F.SESS_STATUS_KEY_PENDING v) false).put (F.SESS_DEBT v) 0).put (F.SESS_QP_PIC v) (s.get (F.SESS_QP_INIT v))
    s.setSes v {}

/-- The PIXEL clock at which pipe `p` became busy or last finished a row (R312). -/
def State.epipeAt (s : State) (p : Nat) : Nat := tabGet 0 s.encAt p
def State.setEpipeAt (s : State) (p : Nat) : State := { s with encAt := tabSet s.encAt p s.time.pix }

/-- Pipe `p` codes a picture (R310, R313). -/
def State.epipeCodes (s : State) (p : Nat) : Bool :=
  (List.range s.nVheads).any (fun v => (s.ses v).pics.any (fun c => c.pipe = p))

/-- The pipe's STATE follows whether it codes a picture, and the 10 ms of R312 begin when it becomes busy (R312, R328). -/
def State.epipeState (s : State) (p : Nat) : State :=
  if !s.epipeIn p then s
  else if !s.epipeCodes p then s.put (F.EPIPE_STATE p) 0
  else (if s.get (F.EPIPE_STATE p) = 1 then s else s.setEpipeAt p).put (F.EPIPE_STATE p) 1

/-- Every pipe's STATE (R328). -/
def State.epipeStates (s : State) : State := (List.range s.nEnc).foldl State.epipeState s

/-- A write of 0 to ENABLE: the session is off, and a picture in progress ends. -/
def State.sessDisable (s : State) (v : Nat) : State :=
  (((s.setSes v {}).putB (F.SESS_CTL_ENABLE v) false).put (F.SESS_STATUS_STATE v) 0).epipeStates

/-- Bits of a session register that take writes while ENABLE is 1, and the bits that are fields (R306, R329). -/
def sessLive : Nat → Nat
  | 2 => 0xFFFFFF
  | 3 => 0xFFFFFF
  | 4 => 0x3F3F
  | 5 => 0x3FFF
  | _ => 0
def sessBits : Nat → Nat
  | 0 => 0x0FFF075E
  | 2 => 0xFFFFFF
  | 3 => 0xFFFFFF
  | 4 => 0x0F3F3F3F
  | 5 => 0x3FFF
  | 6 => 0xFF
  | 7 => 0xFFFFFFFF
  | _ => 0

/-- A write of `x` to word `k` of a running session, which held `old`, is one to a locked field: the word holds nothing else, or
a locked field would change. Mark: DEDUCED, log entry 105 (R306). -/
def sessLocked (k old x : Nat) : Bool :=
  let locked := sessBits k ^^^ sessLive k
  locked != 0 && ((k != 0 && sessLive k = 0) || (old ^^^ x) &&& locked != 0)

/-- A write of word `k` of session `v` (R305, R306, R315). -/
def State.wrSess (s : State) (v k : Nat) (x : Word) : State :=
  let key := (F.SESS_CTL_ENABLE v).key + 4 * k
  let old := (s.reg key).toNat
  let on := s.on (F.SESS_CTL_ENABLE v)
  let m := if on then sessLive k else sessBits k
  let s := s.setReg key (BitVec.ofNat 32 ((old &&& (0xFFFFFFFF ^^^ m)) ||| (x.toNat &&& m)))
  let s := if on && sessLocked k old x.toNat then s.encRec 0x5A v 8 else s
  if k != 0 then s
  else
    let s := if bitAt x.toNat 0 then (if on then s else s.sessEnable v)
      else if on || s.get (F.SESS_STATUS_STATE v) = 5 then s.sessDisable v else s
    if bitAt x.toNat 5 then s.keyRequest v 1 else s

def execSessionEnable (i : Initiator) (n : Fin 16) (v : Word) (s : State) : Host.Outcome State Fault Refusal :=
  .next (s.asWrite i (F.SESS_CTL_ENABLE n.val).key v (fun s => s.wrSess n.val 0 v))

def execSessionFieldWrite (i : Initiator) (n : Fin 16) (k : Fin 32) (v : Word) (s : State) : Host.Outcome State Fault Refusal :=
  .next (s.asWrite i ((F.SESS_CTL_ENABLE n.val).key + 4 * k.val) v (fun s => s.wrSess n.val k.val v))

def execKeyReq (i : Initiator) (n : Fin 16) (v : Word) (s : State) : Host.Outcome State Fault Refusal :=
  .next (s.asWrite i (F.SESS_CTL_ENABLE n.val).key v (fun s => s.wrSess n.val 0 v))

/-! ### Abandoning a picture (R309, R314) -/

/-- Picture `i` of those in progress is abandoned: the rest of it is coded grey, and the next one is a key picture (R314). -/
def State.encAbandonNo (s : State) (v i code : Nat) : State :=
  let x := s.ses v
  let pics := x.pics.zipIdx.map (fun e => if e.2 = i then { e.1 with grey := true, input := [], half := [] } else e.1)
  ((s.setSes v { x with pics := pics, mustKey := true }).bump (F.SESS_ABANDON v)).encRecOn 0x5C v
    ((x.pics[i]?.map EncPic.pipe).getD (s.get (F.SESS_STATUS_PIPE v))) code

/-- The picture that receives input is abandoned (R314). -/
def State.encAbandon (s : State) (v code : Nat) : State :=
  match (s.ses v).pics.reverse with
  | [] => s
  | p :: r => if p.grey then s else s.encAbandonNo v r.length code

/-- Every picture of session `v` that pipe `p` codes is abandoned: the pipe has failed (R312, R314). -/
def State.encAbandonOn (s : State) (v p code : Nat) : State :=
  (s.ses v).pics.zipIdx.foldl (fun s e => if e.1.grey || e.1.pipe != p then s else s.encAbandonNo v e.2 code) s

/-- The head of session `v` stops sending (R95, R309). -/
def State.encHeadStop (s : State) (v : Nat) : State :=
  let st := s.get (F.SESS_STATUS_STATE v)
  if !s.on (F.SESS_CTL_ENABLE v) then s
  else
    let s := if st = 2 then (s.put (F.SESS_STATUS_STATE v) 1).setSes v { s.ses v with mustKey := true } else s
    s.encAbandon v 3

/-- A TX context closes: what is left of the picture in progress is coded grey, counts into the debt and goes nowhere (R309,
R314). -/
def State.encCtxStop (s : State) (c : Nat) : State := (s.sessOf c).foldl (fun s v => s.encHeadStop v) s

/-! ### Frame and line starts of a virtual head (R309, R313, R315) -/

/-- The head of session `v` sends and its TX context is RUNNING (R309). -/
def State.encReady (s : State) (v : Nat) : Bool := s.enabled (32 + v) && s.ctxState (s.get (F.SESS_CTL_CONTEXT v)) = ctxRunning

/-- Session `v` goes on, with a key picture: RUNNING when its head and its context do, else WAIT (R309). -/
def State.encResume (s : State) (v : Nat) : State :=
  (s.put (F.SESS_STATUS_STATE v) (if s.encReady v then 2 else 1)).setSes v { s.ses v with mustKey := true }

/-- The session moves where its pipe has left service, retries while STALLED, and goes back to HOME (R308, R313). MOVES counts
the moves to another pipe under R313 (R327). A picture in progress stays on its pipe while that is in service, and else moves
with its session. Mark: DESIGN CHOICE, log entry 140. -/
def State.encPlace (s : State) (v : Nat) : State :=
  let p := s.get (F.SESS_STATUS_PIPE v)
  let st := s.get (F.SESS_STATUS_STATE v)
  let home := s.get (F.SESS_CTL_HOME v)
  if st = 4 || !s.epipeIn p then
    match s.choosePipe v with
    | some q =>
      let s := if q = p then s else (s.put (F.SESS_STATUS_PIPE v) q).bump F.ENC_MOVES
      let x := s.ses v
      let s := (s.setSes v { x with pics := x.pics.map (fun c => if s.epipeIn c.pipe then c else { c with pipe := q }) }).epipeState q
      if st = 4 then s.encResume v else s
    | none => if st = 4 then s else (s.put (F.SESS_STATUS_STATE v) 4).encRec 0x5F v 0
  else if s.on (F.SESS_CTL_PIN v) && p != home && s.epipeRoom v home then s.put (F.SESS_STATUS_PIPE v) home
  else s

/-- The power stage holds the sessions (R309, R500, R508). -/
def State.encHeld (s : State) : Bool := s.get F.PWR_STATUS_SHED_LEVEL != 0 || s.mode = modeRide || s.mode = modeStop

/-- KEY_MIN_MS as it reads, in PIXEL clocks (R329). -/
def State.keyMin (s : State) (v : Nat) : Nat := clamp 100 10000 (s.get (F.SESS_KEY_MIN_MS v)) * clkMs

/-- ENC_PICTURE_START: a picture of session `v` begins, with DISP of line 0 as the raster gives it (R53, R324), and is a key
picture or not; a periodic one and the one that the request
causes clear KEY_PENDING (R315). -/
def State.encBegin (s : State) (v : Nat) : State :=
  let x := s.ses v
  let gop := s.get (F.SESS_GOP v)
  let periodic := gop != 0 && gop ≤ x.sinceKey
  let req := s.on (F.SESS_STATUS_KEY_PENDING v) && (match x.keyAt with
    | none => true
    | some a => a + s.keyMin v ≤ s.time.pix)
  let key := x.mustKey || periodic || req
  let disp := (s.tb (s.master (32 + v))).lineT64 + s.dispOfs
  let pic : EncPic := { key := key, disp := disp, b := s.encB v, keyW := clamp 4 32 (s.get (F.SESS_KEY_W v)), qpMin := s.qpMin v
                        qpMax := s.qpMax v, pipe := s.get (F.SESS_STATUS_PIPE v) }
  let s := if key && req && !x.mustKey && !periodic then (s.bump (F.SESS_KEYS v)).encRec 0x5D v x.reqBy else s
  let s := if periodic || (req && !x.mustKey) then s.putB (F.SESS_STATUS_KEY_PENDING v) false else s
  let s := s.setSes v { x with pics := x.pics ++ [pic], mustKey := false, sinceKey := if key then 1 else x.sinceKey + 1
                               keyAt := if key then some s.time.pix else x.keyAt }
  s.epipeState pic.pipe

/-- A frame start of virtual head `v` that sends lines (R309, R313, R315). -/
def State.encFrame (s : State) (v : Nat) : State :=
  if !s.on (F.SESS_CTL_ENABLE v) then s else
  let s := s.encPlace v
  let s := if s.get (F.SESS_STATUS_STATE v) = 1 && s.encReady v then s.encResume v else s
  let st := s.get (F.SESS_STATUS_STATE v)
  if s.encHeld then
    (if st = 2 && (s.ses v).pics.isEmpty then (s.put (F.SESS_STATUS_STATE v) 3).setSes v { s.ses v with mustKey := true } else s)
  else
    let s := if st = 3 then s.encResume v else s
    if s.get (F.SESS_STATUS_STATE v) = 2 then s.encBegin v else s

/-- Input lines that the pipe holds for a picture. -/
def EncPic.held (p : EncPic) (rl : Nat) : Nat := if p.grey then 0 else p.linesIn - p.row * rl

/-- n / d to the nearest whole number. -/
def nearestInt (n : Int) (d : Nat) : Int := (2 * n + d) / (2 * d : Nat)

/-- Y, Cb and Cr of a pixel of `d`-bit RGB codes: BT.709, limited range (R310). -/
def yCbCr (d : Nat) (p : Pix) : Nat × Nat × Nat :=
  let top := 2 ^ d - 1
  let k := 2 ^ (d - 8)
  let l : Int := 2126 * p.r + 7152 * p.g + 722 * p.b
  ((16 * k + nearestInt (219 * k * l) (10000 * top)).toNat,
   (128 * k + nearestInt (224 * k * (10000 * p.b - l)) (18556 * top)).toNat,
   (128 * k + nearestInt (224 * k * (10000 * p.r - l)) (15748 * top)).toNat)

/-- The chroma samples of two lines: the rounded means of 2 × 2 groups (R310). -/
def meanPairs : List (Nat × Nat) → List (Nat × Nat) → List (Nat × Nat)
  | a :: b :: r, c :: d :: q => ((a.1 + b.1 + c.1 + d.1 + 2) / 4, (a.2 + b.2 + c.2 + d.2 + 2) / 4) :: meanPairs r q
  | _, _ => []

/-- A converted line joins the input of a picture, and with the line before it, where there is one, gives chroma (R310). -/
def EncPic.push (p : EncPic) (cols : List (Nat × Nat × Nat)) : EncPic :=
  let y := cols.map (fun c => c.1)
  let cc := cols.map (fun c => c.2)
  if p.half.isEmpty then { p with input := p.input ++ [(y, [])], half := cc }
  else { p with input := p.input ++ [(y, meanPairs p.half cc)], half := [] }

/-- A line of pixels joins the input of a picture of `lines` lines, padded to `w` columns and `h` lines: the last column is
repeated, and so is the last line (R307, R310). -/
def EncPic.take (p : EncPic) (d w h lines : Nat) (line : List Pix) : EncPic :=
  let cols := line.map (yCbCr d)
  let cols := cols ++ List.replicate (w - cols.length) ((cols.getLast?).getD (0, 0, 0))
  let n := p.linesIn + 1
  let p := { p with linesIn := n }
  if p.grey then p
  else (List.replicate (1 + if n = lines then h - lines else 0) cols).foldl EncPic.push p

/-- A line of virtual head `v`, as it leaves the pins, enters the pipe; beyond two rows the picture is abandoned (R304, R310,
R314). -/
def State.encLine (s : State) (v : Nat) (line : List Pix) : State :=
  let x := s.ses v
  match x.pics.reverse with
  | [] => s
  | p :: r =>
    let rl := rowLines (s.codec v)
    let pics := (p.take (s.depth (32 + v)) (s.encSize v).1 (s.encSize v).2 (s.timingReg (32 + v)).vactive line :: r).reverse
    let s := s.setSes v { x with pics := pics }
    if 2 * rl < (pics.map (fun p => p.held rl)).sum then s.encAbandon v 1 else s

/-! ### Packetisation (R324) -/

/-- The 12 bytes and the extension of an RTP header (R324, R449). -/
def State.rtpHeader (s : State) (c seq ts : Nat) (marker : Bool) (t : Nat) : List Byte :=
  let x := s.on (F.CTXV_NTPEXT c)
  leBytes (if x then 0x90 else 0x80) 1 ++ leBytes (s.get (F.CTXV_PT c) + if marker then 128 else 0) 1 ++ beBytes seq 2 ++ beBytes ts 4 ++
    beBytes (s.get (F.CTX_SSRC c)) 4 ++
    (if x then beBytes 0xBEDE 2 ++ beBytes 3 2 ++ leBytes (s.get (F.CTXV_NTPEXT_ID c) * 16 + 7) 1 ++ beBytes (s.timeToNtp t) 8 ++ [0, 0, 0] else [])

/-- A packet of a TX context on one of its networks, by the template that stands there; whether its port is up (R297, R324). -/
def State.sendOn (s : State) (src : Src) (c net hdr : Nat) (rtp : List Byte) : Bool × State :=
  if hdr = 0 then (false, s) else
  match s.template src hdr with
  | (some (p, _, h), s) => (s.portIsUp p, s.enqueue p ⟨3, .media c net, completeFrame (h ++ rtp)⟩)
  | (none, s) => (false, s)

/-- A packet of a TX context on both networks; RTP_SEQ counts it, and PKTS when a port takes it (R323, R324). Mark: DESIGN
CHOICE, log entry 107: PKTS counts at the port's queue, and a packet on both networks once. -/
def State.sendRtp (s : State) (src : Src) (c ts : Nat) (marker : Bool) (t : Nat) (pay : List Byte) : State :=
  if s.ctxState c != ctxRunning then s else
  let seq := s.get (F.CTXV_RTP_SEQ c)
  let rtp := s.rtpHeader c seq ts marker t ++ pay
  let s := s.put (F.CTXV_RTP_SEQ c) (seq + 1)
  let (a, s) := s.sendOn src c 0 (s.get (F.CTXV_HDR_A c)) rtp
  let (b, s) := s.sendOn src c 1 (s.get (F.CTXV_HDR_B c)) rtp
  if a || b then s.bump (F.CTX_PKTS c) else s

/-- MAXPAY as it reads (R323). -/
def State.maxPay (s : State) (c : Nat) : Nat := let m := s.get (F.CTXV_MAXPAY c); if m = 0 then 1400 else m

/-- Fragments of a NAL unit larger than a packet: FU-A, or the FU of RFC 7798 (R324). -/
def fuParts (h265 : Bool) (nal : List Byte) (n : Nat) : Nat → List Byte → List (List Byte)
  | 0, _ => []
  | fuel + 1, rest =>
    let hl := if h265 then 2 else 1
    let h0 := leNat (slice nal 0 1)
    let ty := if h265 then h0 / 2 % 64 else h0 % 32
    let ind := if h265 then leBytes (h0 % 2 + 49 * 2 + h0 / 128 * 128) 1 ++ slice nal 1 1 else leBytes (h0 / 32 * 32 + 28) 1
    let first := rest.length + hl = nal.length
    let room := n - hl - 1
    let last := rest.length ≤ room
    let f := ind ++ leBytes (ty + (if first then 128 else 0) + if last then 64 else 0) 1 ++ rest.take room
    if last then [f] else f :: fuParts h265 nal n fuel (rest.drop room)

/-- The RTP payloads of one NAL unit. -/
def nalPayloads (h265 : Bool) (n : Nat) (nal : List Byte) : List (List Byte) :=
  if nal.length ≤ n then [nal] else fuParts h265 nal n nal.length (nal.drop (if h265 then 2 else 1))

/-- A parameter set: SPS and PPS of H.264, VPS, SPS and PPS of H.265. -/
def isPset (h265 : Bool) (nal : List Byte) : Bool :=
  let t := nalType h265 nal
  if h265 then 32 ≤ t && t ≤ 34 else t = 7 || t = 8

/-- The largest nal_ref_idc of a list of H.264 NAL units, which a STAP-A of them carries. -/
def maxNri (ps : List (List Byte)) : Nat := ps.foldl (fun m n => max m (leNat (slice n 0 1) / 32 % 4)) 0

/-- The parameter sets of a key picture in one STAP-A or AP (R324). -/
def psetPacket (h265 : Bool) (ps : List (List Byte)) : List (List Byte) :=
  if ps.isEmpty then []
  else [(if h265 then [0x60#8, 0x01#8] else leBytes (24 + 32 * maxNri ps) 1) ++ (ps.map (fun n => beBytes n.length 2 ++ n)).flatten]

/-- RTP timestamp of a picture with display time `disp` (R324). -/
def State.encTs (s : State) (c disp : Nat) : Nat := (disp * 9 / 100000 + s.get (F.CTXV_TS_OFS c)) % 2 ^ 32

/-- The NAL units of a coded row are sent; the marker goes on the last packet of a picture (R324). -/
def State.encSend (s : State) (v : Nat) (pic : EncPic) (nals : List (List Byte)) (last : Bool) : State :=
  let c := s.get (F.SESS_CTL_CONTEXT v)
  let h265 := s.codec v != 0
  let ps := nals.takeWhile (isPset h265)
  let pays := psetPacket h265 ps ++ ((nals.drop ps.length).map (nalPayloads h265 (s.maxPay c))).flatten
  pays.zipIdx.foldl (fun s e => s.sendRtp (encSrc pic.pipe) c (s.encTs c pic.disp) (last && e.2 + 1 = pays.length) pic.disp e.1) s

/-! ### Rate control (R316 to R322) -/

/-- Budget, repayment and weighted bits of a picture (R316). -/
def State.encPlan (s : State) (v : Nat) (p : EncPic) : Nat × Nat × Nat :=
  let debt := s.get (F.SESS_DEBT v)
  let wb := if p.key then p.keyW * p.b / 4 else p.b
  let r := if p.key then 0 else min debt (max (p.b / 8) (debt / 8))
  let bud := max (p.b / 4) (wb - r)
  (bud, if wb - r < p.b / 4 then wb - bud else r, wb)

/-- Weights of the rows by the previous picture of the same kind (R318). -/
def planWeights (rows : Nat) (prev : List Nat) : List Nat :=
  if prev.isEmpty then List.replicate rows 1 else prev.map (fun w => max w (prev.sum / (4 * max 1 rows)))

/-- QP of row `r` (R319). -/
def State.rowQp (s : State) (v : Nat) (p : EncPic) (bud : Nat) (ws : List Nat) : Nat :=
  let plan := bud * (ws.take p.row).sum / max 1 ws.sum
  let k : Int := max (-4) (min 8 ((16 * ((p.spent : Int) - plan)) / (max 1 bud : Nat)))
  let target : Int := (s.get (F.SESS_QP_PIC v) : Int) + k - (if p.key then s.get (F.SESS_IQP_OFS v) else 0 : Nat)
  let q := if p.row = 0 then target else max ((p.qp : Int) - 2) (min ((p.qp : Int) + 2) target)
  qpClamp p.qpMin p.qpMax q

/-- E_rem before unit `j` of row `r` (R321). -/
def State.encRem (s : State) (v : Nat) (key : Bool) (r j : Nat) : Nat :=
  let uc := unitCost (s.codec v) key
  let n := s.encUnits v
  let sr := s.sliceRows v
  let starts := ((List.range (s.encRows v)).filter (fun i => r < i && i % sr = 0)).length
  (n - j) * uc + 32 + (s.encRows v - r - 1) * (n * uc + 32) + 128 * (starts + if j = 0 && r % sr = 0 then 1 else 0)

/-- The first unit of a row from which on exhaust mode must be used (R321). -/
def State.exhaustAt (s : State) (v : Nat) (key : Bool) (bud r : Nat) : Nat → Nat → List Nat → Option Nat
  | _, _, [] => none
  | j, spent, u :: us =>
    if bud < spent + maxUnit (s.codec v) + s.encRem v key r j then some j
    else s.exhaustAt v key bud r (j + 1) (spent + u) us

/-- Change of QP_PIC after a picture (R322). -/
def qpChange (exhaust : Bool) (u bud : Nat) : Int :=
  if exhaust || 125 * bud < 100 * u then 2
  else if 106 * bud < 100 * u then 1
  else if 94 * bud ≤ 100 * u then 0
  else if 80 * bud ≤ 100 * u then -1
  else -2

/-- The end of a picture: debt, QP_PIC and the reports (R316, R322, R329). -/
def State.encEnd (s : State) (v : Nat) (p : EncPic) (bud rep wb : Nat) : State :=
  let c := s.get (F.SESS_CTL_CONTEXT v)
  let debt := ((s.get (F.SESS_DEBT v) : Int) - rep + p.spent - bud).toNat + if p.key then wb - p.b else 0
  let qp := qpClamp p.qpMin p.qpMax ((s.get (F.SESS_QP_PIC v) : Int) + qpChange (p.exhaust || p.grey) p.spent bud)
  let s := ((s.put (F.SESS_DEBT v) (min (2 ^ 32 - 1) debt)).put (F.SESS_QP_PIC v) qp).put (F.SESS_LAST_BITS v) p.spent
  let s := ((s.put (F.SESS_LAST_BUDGET v) bud).put (F.SESS_LAST_RTP v) (s.encTs c p.disp)).put64 (F.SESS_LAST_TIME v) p.disp
  let s := (s.bump (F.SESS_PICS v)).bump (F.EPIPE_PICS p.pipe)
  let x := s.ses v
  let s := s.setSes v { x with pics := x.pics.tail, count := x.count + 1
                               lastKey := if p.key then p.rowBits else x.lastKey
                               lastInter := if p.key then x.lastInter else p.rowBits }
  let s := s.epipeState p.pipe
  if s.encHeld && s.get (F.SESS_STATUS_STATE v) = 2 && (s.ses v).pics.isEmpty then
    (s.put (F.SESS_STATUS_STATE v) 3).setSes v { s.ses v with mustKey := true }
  else s

/-- Bits of the parameter sets among NAL units, and of the others (R317). -/
def psetBits (h265 : Bool) (nals : List (List Byte)) : Nat := 8 * (((nals.filter (isPset h265)).map List.length).sum)
def sliceBits (h265 : Bool) (nals : List (List Byte)) : Nat := 8 * (((nals.filter (fun n => !isPset h265 n)).map List.length).sum)

/-- Bits of a row as handed to packetisation (R317). -/
def rowBitsOf (r : EncRow) : Nat := r.lead + r.units.sum + r.tail

/-- Row `r` begins a slice, and ends one (R310). -/
def State.slicesAt (s : State) (v r : Nat) : Bool := r % s.sliceRows v = 0
def State.sliceEnds (s : State) (v r : Nat) : Bool := (r + 1) % s.sliceRows v = 0 || s.encRows v ≤ r + 1

/-- The unit of a row at which exhaust mode begins (R321). S holds the parameter sets before the row's first unit, and its slice
header from the second one on. -/
def State.rowExhaust (s : State) (v : Nat) (p : EncPic) (bud : Nat) (row : EncRow) : Option Nat :=
  let ps := psetBits (s.codec v != 0) row.nals
  match row.units with
  | [] => none
  | u :: us => s.exhaustAt v p.key bud p.row 0 (p.spent + ps) ((u + (row.lead - ps)) :: us)

/-- The NAL units of a row: the parameter sets, all of them, ahead of a key picture and no others, and then the slice that ends
in the row, if one does: of an IDR (IDR_N_LP) or of an inter picture (R310). Mark: PRESUMED, log entry 141: the NAL unit types
are those of H.264 and H.265. -/
def nalsFit (h265 key first ends : Bool) (nals : List (List Byte)) : Bool :=
  let ps := (nals.takeWhile (isPset h265)).map (nalType h265)
  let sl := (nals.dropWhile (isPset h265)).map (nalType h265)
  let want := if h265 then [32, 33, 34] else [7, 8]
  (if key && first then want.all ps.contains else ps.isEmpty) &&
    sl = if ends then [if h265 then (if key then 20 else 1) else if key then 5 else 1] else []

/-- What a pipe reports of a row is something that it can do: the units of the row, none beyond MAXU or, in exhaust mode, its
exhaust cost; at most 32 bits beside them, 128 for a slice header and 1,024 of parameter sets; and the bits of a slice are
those of its NAL unit (R310, R317, R320, R321). `ex` is the unit from which on the row is in exhaust mode. Mark: DEDUCED, log
entry 142: the bounds of a row and of a slice header hold outside exhaust mode too, as U ≤ B of R321 needs. -/
def State.rowFits (s : State) (v : Nat) (p : EncPic) (row : EncRow) (ex : Nat) : Bool :=
  let h265 := s.codec v != 0
  let ps := psetBits h265 row.nals
  let cost := unitCost (s.codec v) (p.key || p.grey)
  let head := if s.slicesAt v p.row then 128 else 0
  let bits := (if s.slicesAt v p.row then 0 else p.slice) + (rowBitsOf row - ps)
  let (w, _) := s.encSize v
  row.units.length = s.encUnits v && ps ≤ row.lead && ps ≤ 1024 && nalsFit h265 p.key (p.row = 0) (s.sliceEnds v p.row) row.nals &&
    row.units.zipIdx.all (fun e => e.1 ≤ if ex ≤ e.2 then cost else maxUnit (s.codec v)) &&
    (row.lead - ps) + row.tail ≤ 32 + head &&
    sliceBits h265 row.nals = (if s.sliceEnds v p.row then bits else 0) &&
    (p.grey || row.recon.length = rowLines (s.codec v) * w * 3 / 2 * (if s.codec v = 2 then 2 else 1))

/-- The reconstructed row goes to the half of the reference area that the picture fills (R307); the rest of an abandoned picture
is mid-grey (R314). Mark: DESIGN CHOICE, log entry 108: where a row stands in its half. -/
def State.encRecon (s : State) (v : Nat) (p : EncPic) (recon : List Byte) : State :=
  let (w, h) := s.encSize v
  let ten := s.codec v = 2
  let n := if ten then 2 * w else w
  let pr := padTo n 256
  let rl := rowLines (s.codec v)
  let base := s.get (F.SESS_REF v) * 256 + (s.ses v).count % 2 * (pr * h * 3 / 2)
  let src := encSrc p.pipe
  let grey := (List.replicate w (if ten then [0x00#8, 0x02#8] else [0x80#8])).flatten
  let put := fun (s : State) (a i : Nat) => (s.unitWrite src a (if p.grey then grey else slice recon (i * n) n)).2
  let s := (List.range rl).foldl (fun s i => put s (base + (p.row * rl + i) * pr) i) s
  (List.range (rl / 2)).foldl (fun s i => put s (base + (h + p.row * rl / 2 + i) * pr) (rl + i)) s

/-- ENC_ROW: a row of the picture in progress is coded, once its input is in, and what it ends is sent (R310, R316 to
R324). Mark: DESIGN CHOICE, log entry 106: a row that no pipe can report is no event. -/
def State.encRow (s : State) (v : Nat) (row : EncRow) : State :=
  let x := s.ses v
  match x.pics with
  | [] => s
  | p :: rest =>
    let u := 0x10 + p.pipe
    let need := min (s.timingReg (32 + v)).vactive ((p.row + 1) * rowLines (s.codec v) + 1)
    let (bud, rep, wb) := p.plan.getD (s.encPlan v p)
    let ex := if p.exhaust || p.grey then none else s.rowExhaust v p bud row
    let from_ := if p.exhaust || p.grey then 0 else ex.getD row.units.length
    if s.mode = modeStop || (!p.grey && p.linesIn < need) || (p.row = 0 && !s.awake u) || !s.rowFits v p row from_ then s else
    let s := s.worked u
    let ws := planWeights (s.encRows v) (if p.key then x.lastKey else x.lastInter)
    let qp := if from_ = 0 then p.qpMax else s.rowQp v p bud ws
    let s := match ex with
      | some j => (s.bump (F.SESS_EXHAUST v)).encRecOn 0x5B v p.pipe (if p.row = 0 && j = 0 then 2 else 1) (some v)
      | none => s
    let last := s.encRows v ≤ p.row + 1
    let s := s.encRecon v p row.recon
    let ps := psetBits (s.codec v != 0) row.nals
    let rl := rowLines (s.codec v)
    let p := { p with plan := some (bud, rep, wb), qp := qp, exhaust := p.exhaust || ex.isSome, row := p.row + 1,
                      spent := p.spent + rowBitsOf row, rowBits := p.rowBits ++ [rowBitsOf row], input := p.input.drop rl,
                      slice := if s.sliceEnds v p.row then 0 else (if s.slicesAt v p.row then 0 else p.slice) + (rowBitsOf row - ps) }
    let s := (s.setSes v { s.ses v with pics := p :: rest }).setEpipeAt p.pipe
    let s := s.encSend v p row.nals last
    if last then s.encEnd v p bud rep wb else s

def execEncRow (t : Nat) (n : Fin 16) (row : EncRow) (s : State) : Host.Outcome State Fault Refusal := .next ((s.advance t).encRow n.val row)

/-! ### Pipes (R312, R313) -/

/-- ENC_PIPE_STALL: the pipe, busy for 10 ms without finishing a row or found wrong by its checks, fails, and its pictures in
progress are abandoned (R312, R314). The record names the session whose picture it codes, if any (R326). -/
def State.epipeFail (s : State) (p : Nat) (internal : Bool) : State :=
  if !s.epipeIn p || (!internal && (s.get (F.EPIPE_STATE p) != 1 || s.time.pix < s.epipeAt p + 10 * clkMs)) then s else
  let vs := (List.range s.nVheads).filter (fun v => (s.ses v).pics.any (fun c => c.pipe = p))
  let own := s.epipeSess p
  let (c, hd) := match vs.head? with
    | some v => (s.get (F.SESS_CTL_CONTEXT v), 0x4000000 * (32 + v))
    | none => (0xFFF, 0)
  let s := (s.put (F.EPIPE_STATE p) 3).putBit F.ENC_FAILED p true
  let code := if internal then 2 else 1
  let s := s.raise 0x5E (keyAddr (F.EPIPE_STATE p).key) 0 (streamDet c p code 0 + hd)
  let s := vs.foldl (fun s v => s.encAbandonOn v p 2) s
  (own.foldl (fun s v => s.setSes v { s.ses v with mustKey := true }) s).updMode

def execEncPipeStall (t : Nat) (p : Fin 8) (internal : Bool) (s : State) : Host.Outcome State Fault Refusal :=
  .next ((s.advance t).epipeFail p.val internal)

/-- A write of ENC.PIPE_EN: pipes leave service and return (R313). -/
def State.wrEncEn (s : State) (v : Word) : State :=
  (List.range s.nEnc).foldl (fun s p =>
    if !bitAt v.toNat p && s.epipeIn p then s.put (F.EPIPE_STATE p) 6
    else if bitAt v.toNat p && s.get (F.EPIPE_STATE p) = 6 then (s.put (F.EPIPE_STATE p) 0).epipeState p
    else s) (s.put F.ENC_PIPE_EN (bits v.toNat 0 8))

def execEncPipeEnWrite (i : Initiator) (v : Word) (s : State) : Host.Outcome State Fault Refusal :=
  .next (s.asWrite i F.ENC_PIPE_EN.key v (fun s => s.wrEncEn v))

end Sys2Proof.Machine
end

