-- ==== Sys2Proof/Machine/Intake.lean ====
section
/-! DEFINITION. Stream intake: packet buffers, classification rules, the frame filter, the reorder window,
depacketisation and RTCP (R267 to R279, R325, R385, R386, R390). -/
namespace Sys2Proof.Machine

/-! ### Packet buffers (R270) -/

/-- Buffers of 2 KiB in the packet region. -/
def State.bufCount (s : State) : Nat := s.get F.INTAKE_PKT_SIZE * 512
def State.bufAddr (s : State) (i : Nat) : Nat := s.get F.INTAKE_PKT_BASE * 256 + 2048 * i

/-- Free buffers. -/
def State.bufFree (s : State) : Nat := s.bufCount - s.intake.bufs.length

/-- The free buffer that is `n`-th among the free ones, by address; `used` in rising order. -/
def nthFree : List Nat → Nat → Nat
  | [], n => n
  | u :: us, n => if n < u then n else nthFree us (n + 1)

def insertAsc (b : Nat) : List Nat → List Nat
  | [] => [b]
  | u :: us => if b < u then b :: u :: us else u :: insertAsc b us

/-- A free buffer; which one is a free value (log entry 2). Buffers in use are kept by rising number. -/
def State.takeBuf (s : State) : Option Nat × State :=
  if s.bufFree = 0 then (none, s) else
  let (v, s) := s.freeVal 64
  let b := nthFree s.intake.bufs (v % s.bufFree)
  (some b, { s with intake := { s.intake with bufs := insertAsc b s.intake.bufs } })

/-- A write of BUF_RETURN: address bits [39:11] (R269, R300). -/
def State.wrBufReturn (s : State) (v : Word) : State :=
  let a := bits v.toNat 0 29 * 2048
  let base := s.get F.INTAKE_PKT_BASE * 256
  if a < base then s else s.freeBuf ((a - base) / 2048)

def execBufReturn (i : Initiator) (v : Word) (s : State) : Host.Outcome State Fault Refusal :=
  .next (s.asWrite i F.INTAKE_BUF_RETURN.key v (fun s => s.wrBufReturn v))

/-- A frame put into a buffer and posted to a ring with entry fields `mid` (bytes 8 to 31): whether the ring took it. -/
def State.postFrame (s : State) (src : Src) (ring : Nat) (frame mid : List Byte) : Bool × State :=
  match s.takeBuf with
  | (none, s) => (false, s)
  | (some b, s) =>
    let s := (s.unitWrite intakeSrc (s.bufAddr b) frame).2
    match s.ringPost src ring (slice (leBytes (s.bufAddr b) 8 ++ mid) 0 32) with
    | (0, s) => (true, s)
    | (_, s) => (false, s.freeBuf b)

/-- A record of class 0x59 (R299). With no context its first address is a free value (log entry 81). -/
def State.intakeDrop (s : State) (c p code : Nat) : State :=
  let (a, s) := if c = 0xFFF then s.freeVal 64 else (ctxAddr c, s)
  s.raise 0x59 a 0 (streamDet c 0 code p)

/-- A packet goes to the host ring with a reason; the copy of an RTCP packet, reason 4, is its context's (R269, R299). -/
def State.hostPost (s : State) (p reason c : Nat) (frame : List Byte) : State :=
  let r := s.get F.INTAKE_HOST_RING
  let whose := if reason = 4 then c else 0xFFF
  let drop := fun (s : State) => (s.bump F.INTAKE_HOST_DROP).intakeDrop whose p 4
  if !s.on F.INTAKE_HOST_EN || s.ringFill r = s.ringN r then drop s
  else if s.bufFree = 0 then (s.bump F.INTAKE_NOBUF).intakeDrop whose p 1
  else
    let mid := leBytes frame.length 2 ++ leBytes p 1 ++ leBytes reason 1 ++ leBytes c 2 ++ [0, 0] ++ leBytes s.time64 8
    match s.postFrame intakeSrc r frame mid with
    | (true, s) => s
    | (false, s) => drop s

/-- A frame that the time unit takes, from a data port, or a frame of the management port (R390); the records of frames dropped
here are one a second. -/
def State.timePost (s : State) (p : Nat) (frame : List Byte) : State :=
  let mgmt := p = 4
  let en := if mgmt then s.on F.TIME_MGMT_RX_EN else s.on F.TIME_PTP_RX_EN
  let ring := if mgmt then s.get F.TIME_MGMT_RX_RING else s.get F.TIME_PTP_RX_RING
  let mid := leBytes frame.length 2 ++ leBytes p 1 ++ leBytes (s.get F.TIME_STATUS_EPOCH + if mgmt then 0 else 0x80) 1 ++
    [0, 0, 0, 0] ++ leBytes (s.rxStamp p frame.length) 8
  let (ok, s) := if en then s.postFrame timeSrc ring frame mid else (false, s)
  if ok then s else
  let code := if mgmt then 3 else 1
  (s.bump F.TIME_RING_DROP).frameRec 0x6D p code (some 0)

/-! ### Classification rules (R267) -/

def rw (w : List Word) (i : Nat) : Nat := (nth 0 w i).toNat
def rulePorts (w : List Word) : Nat := bits (rw w 0) 0 4
def ruleV6 (w : List Word) : Bool := bitAt (rw w 0) 4
def ruleSrc (w : List Word) : Bool := bitAt (rw w 0) 5
def ruleSsrc (w : List Word) : Bool := bitAt (rw w 0) 6
def ruleRtcp (w : List Word) : Bool := bitAt (rw w 0) 7
def ruleNet (w : List Word) : Nat := bits (rw w 0) 8 1
def ruleCtx (w : List Word) : Nat := bits (rw w 0) 16 12
def ruleDport (w : List Word) : Nat := bits (rw w 1) 0 16
def ruleAddr (w : List Word) (i : Nat) : List Byte := (((w.drop i).take 4).map (fun x => leBytes x.toNat 4)).flatten

/-- The bucket of a rule: bits [10:0] of a CRC-32C over V6, DST and DPORT (R267). -/
def ruleBucket (w : List Word) : Nat :=
  crc32c (leBytes (if ruleV6 w then 1 else 0) 1 ++ ruleAddr w 4 ++ beBytes (ruleDport w) 2) % 2048

/-- A rule that ADD gives BAD: a context beyond the member's count, or a reserved field that is not zero. -/
def State.ruleBad (s : State) (w : List Word) : Bool :=
  s.nCtx ≤ ruleCtx w || bits (rw w 0) 9 7 != 0 || bits (rw w 0) 28 4 != 0 || bits (rw w 1) 16 16 != 0 || rw w 3 != 0

/-- Two rules of which ADD calls the second DUPLICATE. -/
def ruleDup (a b : List Word) : Bool :=
  ruleV6 a = ruleV6 b && ruleAddr a 4 = ruleAddr b 4 && ruleDport a = ruleDport b && ruleSrc a = ruleSrc b && ruleSsrc a = ruleSsrc b &&
    (!ruleSrc a || ruleAddr a 8 = ruleAddr b 8) && (!ruleSsrc a || rw a 2 = rw b 2) && rulePorts a &&& rulePorts b != 0

/-- The lowest free index of a bucket. -/
def State.rulePlace (s : State) (b : Nat) : Option Nat :=
  ([0, 1, 2, 3].map (fun i => 4 * b + i)).find? (fun i => (tabGet? s.intake.rules i).isNone)

def State.stage (s : State) : List Word := (List.range 12).map (fun i => s.reg (F.INTAKE_RULE_STAGE i).key)

/-- A write of RULE_CMD: GO takes the operation with the staged rule and the index as they stand (R267). -/
def State.wrRuleCmd (s : State) (v : Word) : State :=
  let s := (s.put F.INTAKE_RULE_CMD_OP (bits v.toNat 0 2)).put F.INTAKE_RULE_CMD_INDEX (bits v.toNat 16 13)
  if !bitAt v.toNat 4 || s.get F.INTAKE_RULE_CMD_STATUS = 7 then s
  else { s.put F.INTAKE_RULE_CMD_STATUS 7 with
    intake := { s.intake with cmd := some (bits v.toNat 0 2, bits v.toNat 16 13, s.stage) } }

def State.setRules (s : State) (t : Tab (List Word)) : State :=
  { s with intake := { s.intake with rules := t } }.put F.INTAKE_RULE_COUNT t.length

/-- RULE_CMD_DONE: the operation is performed (R267). -/
def State.ruleDone (s : State) : State :=
  match s.intake.cmd with
  | none => s
  | some (op, idx, w) =>
    let s := { s with intake := { s.intake with cmd := none } }
    let st := fun (s : State) (n : Nat) => s.put F.INTAKE_RULE_CMD_STATUS n
    match op with
    | 0 =>
      if s.ruleBad w then st s 4
      else if s.intake.rules.any (fun e => ruleDup e.2 w) then st s 2
      else match s.rulePlace (ruleBucket w) with
        | none => st s 1
        | some i => (st (s.setRules (tabSet s.intake.rules i w)) 0).put F.INTAKE_RULE_CMD_INDEX i
    | 1 =>
      match s.intake.rules.find? (fun e => e.2 = w) with
      | none => st s 3
      | some e => st (s.setRules (tabErase s.intake.rules e.1)) 0
    | 2 =>
      match tabGet? s.intake.rules idx with
      | none => st s 3
      | some w => st (s.setRegs (F.INTAKE_RULE_STAGE 0).key w) 0
    | _ => st s 4

def execRuleAdd (i : Initiator) (v : Word) (s : State) : Host.Outcome State Fault Refusal :=
  .next (s.asWrite i F.INTAKE_RULE_CMD_OP.key v (fun s => s.wrRuleCmd v))

def execRuleDel (i : Initiator) (v : Word) (s : State) : Host.Outcome State Fault Refusal :=
  .next (s.asWrite i F.INTAKE_RULE_CMD_OP.key v (fun s => s.wrRuleCmd v))

def execRuleRead (i : Initiator) (v : Word) (s : State) : Host.Outcome State Fault Refusal :=
  .next (s.asWrite i F.INTAKE_RULE_CMD_OP.key v (fun s => s.wrRuleCmd v))

def execRuleCmdDone (t : Nat) (s : State) : Host.Outcome State Fault Refusal := .next (s.advance t).ruleDone

/-- A rule matches a packet: arrival port, IP version, addresses of 16 bytes, destination port, RTP SSRC (R268). -/
def ruleMatch (w : List Word) (p : Nat) (v6 : Bool) (src dst : List Byte) (dport ssrc : Nat) : Bool :=
  bitAt (rulePorts w) p && ruleV6 w = v6 && ruleAddr w 4 = dst && ruleDport w = dport && (!ruleSrc w || ruleAddr w 8 = src) &&
    (!ruleSsrc w || rw w 2 = ssrc)

def ruleScore (w : List Word) : Nat := (if ruleSrc w then 2 else 0) + if ruleSsrc w then 1 else 0

/-- The matching rule of the highest score (R268). -/
def State.classify (s : State) (p : Nat) (v6 : Bool) (src dst : List Byte) (dport ssrc : Nat) : Option (List Word) :=
  (s.intake.rules.filter (fun e => ruleMatch e.2 p v6 src dst dport ssrc)).foldl (fun b e =>
    match b with
    | none => some e.2
    | some w => if ruleScore w < ruleScore e.2 then some e.2 else b) none

/-! ### RTP headers (R271, R278) -/

/-- An RTP packet as it arrived. -/
structure Rtp where
  version : Nat
  marker : Bool
  pt : Nat
  seq : Nat
  ts : Nat
  ssrc : Nat
  /-- Header, CSRC list, extension and padding fit the packet. -/
  fits : Bool
  /-- The one-byte-element extension, if any, and the payload. -/
  ext : List Byte
  pay : List Byte
deriving DecidableEq, Repr

def rtpOf (b : List Byte) : Rtp :=
  let b0 := leNat (slice b 0 1)
  let b1 := leNat (slice b 1 1)
  let o := 12 + 4 * (b0 % 16)
  let x := bitAt b0 4
  let xlen := if x then 4 + 4 * beNat (slice b (o + 2) 2) else 0
  let pad := if bitAt b0 5 then leNat (slice b (b.length - 1) 1) else 0
  let ok := o + (if x then 4 else 0) ≤ b.length && o + xlen + pad ≤ b.length && (!bitAt b0 5 || pad != 0)
  ⟨b0 / 64, bitAt b1 7, b1 % 128, beNat (slice b 2 2), beNat (slice b 4 4), beNat (slice b 8 4), ok,
   if x && beNat (slice b o 2) = 0xBEDE then slice b (o + 4) (xlen - 4) else [], (b.drop (o + xlen)).take (b.length - pad - o - xlen)⟩

/-- The element with an ID in a header extension of one-byte elements (RFC 8285). -/
def extElem (id : Nat) : Nat → List Byte → Option (List Byte)
  | 0, _ => none
  | _, [] => none
  | fuel + 1, h :: b =>
    let i := h.toNat / 16
    let n := h.toNat % 16 + 1
    if h = 0 then extElem id fuel b
    else if i = 15 || b.length < n then none
    else if i = id then some (b.take n)
    else extElem id fuel (b.drop n)

/-- The RFC 6051 64-bit NTP time of a packet of a HDREXT context (R278). -/
def State.extTime (s : State) (c : Nat) (r : Rtp) : Option Nat :=
  if s.get (F.CTX_CTRL_CAPMODE c) != 1 then none
  else match extElem (s.get (F.CTX_CTRL_HDREXT_ID c)) r.ext.length r.ext with
    | some b => if b.length = 8 then some (s.ntpToTime (beNat (b.take 4)) (beNat (b.drop 4))) else none
    | none => none

/-! ### Depacketisation (R275, R281) -/

/-- What a NAL unit type does to a video context: the code that refuses it, 0 for none (R275, R281). -/
def nalCode (h265 : Bool) (t layer : Nat) : Nat :=
  if h265 then (if layer != 0 then 15 else if t = 50 then 13 else 0)
  else if t = 14 || t = 15 || t = 20 then 15
  else if t = 25 || t = 26 || t = 27 || t = 29 then 13
  else 0

def nalLayer (b : List Byte) : Nat := leNat (slice b 0 1) % 2 * 32 + leNat (slice b 1 1) / 8

/-- A NAL unit serves as a reference: nal_ref_idc of an H.264 slice, or an H.265 slice type that is no sub-layer
non-reference. -/
def nalIsRef (h265 : Bool) (hdr t : Nat) : Bool :=
  if h265 then t < 32 && !(t ≤ 14 && t % 2 = 0) else 1 ≤ t && t ≤ 5 && hdr / 32 % 4 != 0

/-- NAL units of an aggregation packet (STAP-A, AP), as many as are whole. -/
def aggUnits : Nat → List Byte → List (List Byte)
  | 0, _ => []
  | fuel + 1, b =>
    let n := beNat (slice b 0 2)
    if b.length < 2 + n || n = 0 then [] else (b.drop 2).take n :: aggUnits fuel (b.drop (2 + n))

/-- The largest access unit (R275). -/
def auLimit : Nat := 16 * 2 ^ 20

/-- A whole NAL unit joins the access unit. -/
def Au.addNal (a : Au) (size : Nat) (ref : Bool) : Au :=
  { a with size := a.size + size, nals := a.nals + 1, isRef := a.isRef || ref }

/-- The access unit under assembly is complete: it becomes ready, unless nothing of it is left or it is larger than
16 MiB (R275, R289). -/
def State.endAu (s : State) (c : Nat) : State :=
  let x := s.ctx c
  match x.asm with
  | none => s
  | some a =>
    let s := s.setCtx c { x with asm := none, fu := none }
    if a.nals = 0 || auLimit < a.size then s.lostRec c (s.get (F.CTX_STATUS_PIPE c)) a
    else s.setCtx c { s.ctx c with ready := x.ready ++ [{ a with rdy := s.time64 }] }

/-- The NAL units of one packet from port `port`, whole or fragments (R275). -/
def State.nalUnits (s : State) (c port : Nat) (h265 : Bool) (pay : List Byte) : State :=
  let x := s.ctx c
  let refuse := fun (code : Nat) => s.ctxRefuse c (s.get (F.CTX_STATUS_PIPE c)) code port (some c)
  match x.asm with
  | none => s
  | some a =>
    let t := nalType h265 pay
    let hdr := leNat (slice pay 0 1)
    let hl := if h265 then 2 else 1
    let fail := nalCode h265 t (nalLayer pay)
    if fail != 0 then refuse fail
    else if t = (if h265 then 48 else 24) then
      let us := aggUnits pay.length (pay.drop hl)
      match us.find? (fun u => nalCode h265 (nalType h265 u) (nalLayer u) != 0) with
      | some u => refuse (nalCode h265 (nalType h265 u) (nalLayer u))
      | none =>
        let a := us.foldl (fun (a : Au) u => a.addNal u.length (nalIsRef h265 (leNat (slice u 0 1)) (nalType h265 u))) a
        s.setCtx c { x with asm := some a, fu := none }
    else if t = (if h265 then 49 else 28) then
      let f := leNat (slice pay hl 1)
      let ut := if h265 then f % 64 else f % 32
      let code := nalCode h265 ut (nalLayer pay)
      let n := pay.length - hl - 1
      if code != 0 then refuse code
      else
        let fu := if bitAt f 7 then some (hl + n, nalIsRef h265 hdr ut)
          else x.fu.map (fun u => (u.1 + n, u.2))
        match bitAt f 6, fu with
        | true, some u => s.setCtx c { x with asm := some (a.addNal u.1 u.2), fu := none }
        | true, none => s.setCtx c { x with fu := none }
        | false, u => s.setCtx c { x with fu := u }
    else if pay.length = 0 then s
    else s.setCtx c { x with asm := some (a.addNal pay.length (nalIsRef h265 hdr t)), fu := none }

/-- A packet of a video context goes to depacketisation (R275). -/
def State.videoPacket (s : State) (c : Nat) (k : RxPkt) : State :=
  let x := s.ctx c
  let lost := match x.lastOut with
    | some n => (n + 1) % 0x10000 != k.seq
    | none => false
  let s := if lost then s.setCtx c { x with fu := none, asm := x.asm.map (fun a => { a with lost := true }) } else s
  let s := match (s.ctx c).asm with
    | some a => if a.ts != k.ts then s.endAu c else s
    | none => s
  let x := s.ctx c
  let a := x.asm.getD { ts := k.ts, arr := k.arr, ntp := k.ntp, port := k.port }
  let s := s.setCtx c { x with asm := some { a with lost := a.lost || lost } }
  let s := s.nalUnits c k.port (s.kind c = 2) k.pay
  if k.marker then s.endAu c else s

/-- A packet leaves the reorder window, and its buffer is free. -/
def State.depacketise (s : State) (c : Nat) (k : RxPkt) : State :=
  let s := s.freeBuf k.buf
  let s := if s.isVideo c then s.videoPacket c k else s.audioPacket c k
  s.setCtx c { s.ctx c with lastOut := some k.seq }

/-! ### The reorder window (R272 to R274) -/

/-- MEDIA clocks up to a PIXEL clock: 1.024 GHz against 1.2 GHz (R11). -/
def mediaClk (pix : Nat) : Nat := pix * 64 / 75

/-- How far sequence number `n` lies behind H. -/
def behind (h n : Nat) : Nat := (h + 0x10000 - n % 0x10000) % 0x10000

def State.highest (s : State) (c : Nat) : Nat := s.get (F.CTX_HIGHEST c)

/-- Packets that have left the window in this MEDIA clock, with `ks` that leave it now (R274). -/
def State.leavers (s : State) (c : Nat) (ks : List RxPkt) : List RxPkt :=
  ((s.ctx c).now ++ ks.map (fun (k : RxPkt) => { k with pay := [] })).filter (fun k => mediaClk k.pix = mediaClk s.time.pix)

/-- Packets with nothing open before them go to depacketisation, in sequence order (R273). -/
def State.release (s : State) (c : Nat) : State :=
  let x := s.ctx c
  let h := s.highest c
  let free := fun (k : RxPkt) => x.gaps.all (fun g => behind h g.1 < behind h k.seq)
  let s := s.setCtx c { x with held := x.held.dropWhile free, now := s.leavers c (x.held.takeWhile free) }
  (x.held.takeWhile free).foldl (fun s k => if s.ctxOn c then s.depacketise c k else s.freeBuf k.buf) s

/-- A packet takes its place among the held ones. -/
def insertPkt (h : Nat) (k : RxPkt) : List RxPkt → List RxPkt
  | [] => [k]
  | j :: l => if behind h j.seq < behind h k.seq then k :: j :: l else j :: insertPkt h k l

/-- Gaps declared lost (R273). -/
def State.declareLost (s : State) (c : Nat) (gs : List (Nat × Nat)) : State :=
  let x := s.ctx c
  let h := s.highest c
  (s.setCtx c { x with gaps := x.gaps.filter (fun g => !gs.contains g),
                       lost := (x.lost ++ gs.map (fun g => g.1)).filter (fun n => behind h n < 0x8000) }).bumpN (F.CTX_LOST c) gs.length

/-- Gaps that H has left WIN behind are lost (R273). -/
def State.expireByWin (s : State) (c : Nat) : State :=
  s.declareLost c ((s.ctx c).gaps.filter (fun g => s.winOf c ≤ behind (s.highest c) g.1))

/-- A held candidate is dropped as late (R273). -/
def State.dropCand (s : State) (c : Nat) : State :=
  match (s.ctx c).cand with
  | none => s
  | some k => (((s.setCtx c { s.ctx c with cand := none }).freeBuf k.buf).bump (F.CTX_LATE c))

/-- A packet is accepted into the window. -/
def State.acceptPkt (s : State) (c : Nat) (k : RxPkt) : State :=
  let x := s.ctx c
  let s := (s.setCtx c { x with held := insertPkt (s.highest c) k x.held, started := true }).bump (F.CTX_PKTS c)
  let s := match k.ntp with
    | some t => s.setAnchor c k.ts t k.port
    | none => s
  (s.expireByWin c).release c

/-- The window begins anew: no packet of it has been seen (R272, R273). -/
def State.restartWindow (s : State) (c : Nat) : State :=
  let s := s.freeHeld c
  s.setCtx c { s.ctx c with started := false, gaps := [], lost := [], since := 0, now := [], lastOut := none, asm := none, fu := none,
                            playEnd := 0, playStart := 0, playCap := [] }

/-- REORDER_RESYNC: the packet after the candidate has come (R273 step 6); a context that what waited has refused stays refused
(R265). -/
def State.resync (s : State) (c : Nat) (k0 k : RxPkt) : State :=
  let s := s.declareLost c (s.ctx c).gaps
  let s := s.release c
  if !s.ctxOn c then s.freeBuf k.buf else
  let s := s.setCtx c { s.ctx c with cand := none, lost := [], since := 1 }
  let s := (s.put (F.CTX_HIGHEST c) k.seq).toWaitRap c
  let s := s.ctxRec 0x58 c 4 0 k.port
  let s := s.acceptPkt c k0
  if s.ctxOn c then s.acceptPkt c k else s.freeBuf k.buf

/-- Sequence number `n` has been received since the window began: it lies behind H, and neither open nor lost (R273
step 3). -/
def Ctx.received (x : Ctx) (h n : Nat) : Bool :=
  behind h n ≤ x.since && !x.lost.contains n && !x.gaps.any (fun g => g.1 = n)

/-- A packet after the first is accepted, or becomes the candidate: it lies ahead, or fills an open gap (R273 steps 2, 4 and
6). -/
def State.takes (s : State) (c : Nat) (k : RxPkt) (w : Nat) (d : Int) : Bool :=
  let x := s.ctx c
  x.held.length < w + 64 && (1 ≤ d || (!x.received (s.highest c) k.seq && -(w : Int) < d && !x.lost.contains k.seq &&
    x.gaps.any (fun g => g.1 = k.seq)))

/-- The access unit whose first packet is `j` is that of its copy `k`. -/
def Au.retake (a : Au) (j k : RxPkt) : Au :=
  if a.ts = j.ts && a.port = j.port && a.arr = j.arr then { a with arr := k.arr, ntp := k.ntp, port := k.port } else a

/-- The copy `k` of a packet `j` that has left the window in the same MEDIA clock is taken instead: it carries the same payload,
and its own arrival, header extension and port (R274). -/
def State.retake (s : State) (c : Nat) (j k : RxPkt) : State :=
  let x := s.ctx c
  let direct := if s.get (F.CTX_CTRL_CAPMODE c) = 2 then some k.arr else k.ntp
  let s := s.setCtx c { x with
    now := x.now.map (fun i => if i.seq = k.seq then { k with pay := [] } else i)
    asm := x.asm.map (fun a => a.retake j k)
    ready := x.ready.map (fun a => a.retake j k)
    playCap := x.playCap.map (fun e => if e.1 % 2 ^ 32 = k.ts && direct.isSome then (e.1, e.2.1, direct) else e) }
  match k.ntp with
  | some t => s.setAnchor c k.ts t k.port
  | none => s

/-- A second copy of a packet that arrived in the same MEDIA clock by a lower port than the first takes its place, in the window
or after it; a duplicate is counted either way (R273 step 3, R274). -/
def State.dupPkt (s : State) (c : Nat) (k : RxPkt) : State :=
  let x := s.ctx c
  let same := fun (j : RxPkt) => j.seq = k.seq && mediaClk j.pix = mediaClk k.pix && k.port < j.port
  match x.held.find? same with
  | some j =>
    ((s.setCtx c { x with held := x.held.map (fun i => if i.seq = k.seq then k else i) }).freeBuf j.buf).bump (F.CTX_DUP c)
  | none =>
    let s := match x.now.find? same with
      | some j => s.retake c j k
      | none => s
    (s.freeBuf k.buf).bump (F.CTX_DUP c)

/-- A packet after the first meets the window: H, WIN and its distance from H (R270, R273 steps 2 to 6). A
packet behind the first one, which no step names, counts as a duplicate (log entry 63). -/
def State.inWindow (s : State) (c : Nat) (k : RxPkt) (h w : Nat) (d : Int) : State :=
  let x := s.ctx c
  if w + 64 ≤ x.held.length then (s.freeBuf k.buf).bump (F.CTX_LATE c)
  else if 1 ≤ d && d ≤ w then
    let skipped := (List.range (d.toNat - 1)).map (fun i => ((h + 1 + i) % 0x10000, s.time.pix))
    ((s.setCtx c { x with gaps := x.gaps ++ skipped, since := min (x.since + d.toNat) 0x7FFF }).put (F.CTX_HIGHEST c) k.seq).acceptPkt c k
  else if (w : Int) < d then s.setCtx c { x with cand := some k }
  else if x.received h k.seq then s.dupPkt c k
  else if d ≤ -(w : Int) || x.lost.contains k.seq then (s.freeBuf k.buf).bump (F.CTX_LATE c)
  else if x.gaps.any (fun g => g.1 = k.seq) then
    (s.setCtx c { x with gaps := x.gaps.filter (fun g => g.1 != k.seq) }).acceptPkt c k
  else (s.freeBuf k.buf).bump (F.CTX_DUP c)

/-- Gaps whose HOLD has passed are lost, and what waited behind them goes on (R273). -/
def State.expireByHold (s : State) (c : Nat) : State :=
  (s.declareLost c ((s.ctx c).gaps.takeWhile (fun g => g.2 + s.gapHold c ≤ s.time.pix))).release c

/-- A packet whose header is accepted meets the window, in which no gap is older than HOLD (R270, R273, R274). The candidate
goes when another packet is accepted. Mark: DEDUCED, log entry 103: a further packet ahead of the window by more than WIN
takes the candidate's place. -/
def State.windowIn (s : State) (c : Nat) (k : RxPkt) : State :=
  let s := s.expireByHold c
  if !s.ctxOn c then s.freeBuf k.buf else
  let x := s.ctx c
  let h := s.highest c
  let w := s.winOf c
  let d := sint 16 (k.seq + 0x10000 - h)
  if !x.started then (s.put (F.CTX_HIGHEST c) k.seq).acceptPkt c k
  else match x.cand with
    | some k0 =>
      if k.seq = (k0.seq + 1) % 0x10000 then s.resync c k0 k
      else if k.seq = k0.seq then (s.freeBuf k.buf).bump (F.CTX_DUP c)
      else State.inWindow (if s.takes c k w d then s.dropCand c else s) c k h w d
    | none => State.inWindow s c k h w d

/-- A packet that R271 does not accept. -/
def State.rtpReject (s : State) (c p buf : Nat) : State :=
  ((s.freeBuf buf).bump (F.CTX_DROPS c)).ctxRec 0x51 c 4 0 p (some c)

/-- The payload type that a context expects. -/
def State.ctxPt (s : State) (c : Nat) : Nat := if s.kind c = 3 then s.get (F.CTXR_PT c) else s.get (F.CTX_PT c)

/-- An RTP packet of an open context (R271 to R273). -/
def State.rtpIn (s : State) (c p buf : Nat) (b : List Byte) : State :=
  let r := rtpOf b
  let x := s.ctx c
  let ssrc := s.get (F.CTX_SSRC c)
  let go := fun (s : State) =>
    (s.setCtx c { s.ctx c with ssrcAt := s.time.pix }).windowIn c ⟨r.seq, r.ts, r.marker, s.time64, p, s.extTime c r, r.pay, buf, s.time.pix⟩
  if r.version != 2 || !r.fits || (s.on (F.CTX_CTRL_PT_CHECK c) && r.pt != s.ctxPt c) then s.rtpReject c p buf
  else if s.on (F.CTX_CTRL_SSRC_FIXED c) then (if r.ssrc = ssrc then go s else s.rtpReject c p buf)
  else if !x.learned then go ((s.put (F.CTX_SSRC c) r.ssrc).setCtx c { x with learned := true })
  else if r.ssrc = ssrc then go s
  else if x.ssrcAt + 2 * clkS ≤ s.time.pix then
    go ((((s.put (F.CTX_SSRC c) r.ssrc).restartWindow c).toWaitRap c).ctxRec 0x58 c 1 0 p)
  else s.rtpReject c p buf

/-! ### RTCP (R277, R278, R325) -/

/-- Packets of a compound RTCP packet. -/
def rtcpParts : Nat → List Byte → List (List Byte)
  | 0, _ => []
  | fuel + 1, b =>
    let n := 4 + 4 * beNat (slice b 2 2)
    if b.length < 4 || leNat (slice b 0 1) / 64 != 2 || b.length < n then [] else b.take n :: rtcpParts fuel (b.drop n)

/-- A sender report of the context's source sets the anchor in SR mode (R278). -/
def State.senderReport (s : State) (c p : Nat) (b : List Byte) : State :=
  if leNat (slice b 1 1) = 200 && 28 ≤ b.length && beNat (slice b 4 4) = s.get (F.CTX_SSRC c) && s.get (F.CTX_CTRL_CAPMODE c) = 0 then
    s.setAnchor c (beNat (slice b 16 4)) (s.ntpToTime (beNat (slice b 8 4)) (beNat (slice b 12 4))) p
  else s

/-- Command sequence numbers of a FIR's entries for an SSRC. -/
def firEntries (ssrc : Nat) : Nat → List Byte → List Nat
  | 0, _ => []
  | fuel + 1, b =>
    if b.length < 8 then []
    else (if beNat (slice b 0 4) = ssrc then [leNat (slice b 4 1)] else []) ++ firEntries ssrc fuel (b.drop 8)

/-- A PLI, or a FIR with a new command sequence number, to a TX context (R315, R325). -/
def State.keyFeedback (s : State) (c : Nat) (b : List Byte) : State :=
  let ssrc := s.get (F.CTX_SSRC c)
  let fmt := leNat (slice b 0 1) % 32
  if leNat (slice b 1 1) != 206 || b.length < 12 then s
  else if fmt = 1 && beNat (slice b 8 4) = ssrc then
    (s.sessOf c).foldl (fun s v => s.keyRequest v 2) (s.bump (F.CTXV_KEYREQ_RX c))
  else if fmt = 4 then
    (firEntries ssrc b.length (b.drop 12)).foldl (fun s n =>
      if (s.ctx c).firRx = some n then s
      else
        let s := (s.setCtx c { s.ctx c with firRx := some n }).bump (F.CTXV_KEYREQ_RX c)
        (s.sessOf c).foldl (fun s v => (s.put (F.SESS_FIR_SEQ_RX v) n).keyRequest v 3) s) s
  else s

/-- RTCP of a context (R277, R325). -/
def State.rtcpIn (s : State) (c p : Nat) (b : List Byte) : State :=
  (rtcpParts b.length b).foldl (fun s q =>
    if s.kind c = 5 then (if s.get (F.CTXV_TXKIND c) = 0 then s.keyFeedback c q else s) else s.senderReport c p q) s

/-! ### Packets of a context (R260, R265, R270, R274) -/

/-- A packet of an open context has come from network `net` (R262, R274). -/
def State.netSeen (s : State) (c net : Nat) : State :=
  let x := s.ctx c
  s.setCtx c (if net = 0 then { x with netA := some s.time.pix, silentA := false } else { x with netB := some s.time.pix, silentB := false })

/-- A packet that a rule has classified. -/
def State.packetIn (s : State) (c p net : Nat) (rtcp : Bool) (frame b : List Byte) : State :=
  if s.kind c = 0 then s.bump (F.CTX_DROPS c)
  else
    let isRtcp := rtcp || (200 ≤ leNat (slice b 1 1) && leNat (slice b 1 1) ≤ 204)
    let s := if isRtcp && s.on F.INTAKE_HOST_RTCP_COPY then s.hostPost p 4 c frame else s
    if s.kind c = 4 || !s.ctxOn c then s
    else if isRtcp then (s.netSeen c net).rtcpIn c p b
    else if s.kind c = 5 then s
    else match s.takeBuf with
      | (none, s) => (s.bump F.INTAKE_NOBUF).intakeDrop c p 1
      | (some k, s) =>
        let s := (s.unitWrite intakeSrc (s.bufAddr k) frame).2
        (s.netSeen c net).rtpIn c p k b

/-! ### The frame filter (R269, R385, R386) -/

/-- IPv6 next-header values of extension headers. -/
def isExt6 (n : Nat) : Bool := [0, 43, 50, 51, 60, 135, 139, 140].contains n

/-- A UDP datagram with good lengths and checksum is classified (R268, R269). -/
def State.udpIn (s : State) (p : Nat) (b : List Byte) (i : IpAt) : State :=
  let u := i.at_ + i.hlen
  let n := beNat (slice b (u + 4) 2)
  let ck := beNat (slice b (u + 6) 2)
  if n < 8 || b.length < u + n || (ck = 0 && i.v6) || (ck != 0 && fold16 (udpSum b i n) != 65535) then
    (s.bump F.INTAKE_CSUM_BAD).intakeDrop 0xFFF p 2
  else
    let addr := fun (o : Nat) => if i.v6 then slice b (i.at_ + o) 16 else slice (slice b (i.at_ + o) 4) 0 16
    let pay := slice b (u + 8) (n - 8)
    let src := if i.v6 then addr 8 else addr 12
    let dst := if i.v6 then addr 24 else addr 16
    match s.classify p i.v6 src dst (beNat (slice b (u + 2) 2)) (beNat (slice pay 8 4)) with
    | none => (s.bump F.INTAKE_UNMATCHED).hostPost p 1 0 b
    | some w => s.packetIn (ruleCtx w) p (ruleNet w) (ruleRtcp w) b pay

/-- A frame passed to intake from port `p` (R269, R386). -/
def State.intakeFrame (s : State) (p : Nat) (b : List Byte) : State :=
  if !s.bit F.INTAKE_CTRL_PORT_EN p then s.bump F.INTAKE_PORT_OFF
  else if 2048 < b.length then (s.bump F.INTAKE_CSUM_BAD).intakeDrop 0xFFF p 3
  else match ipAt b with
    | none => s.hostPost p 5 0 b
    | some i =>
      if !i.v6 && (i.hlen < 20 || b.length < i.at_ + i.hlen || fold16 (wordSum (slice b i.at_ i.hlen)) != 65535) then
        (s.bump F.INTAKE_CSUM_BAD).intakeDrop 0xFFF p 2
      else if (!i.v6 && beNat (slice b (i.at_ + 6) 2) % 0x4000 != 0) || (i.v6 && i.proto = 44) then s.hostPost p 2 0 b
      else if i.v6 && isExt6 i.proto then s.hostPost p 3 0 b
      else if i.proto != 17 then s.hostPost p 5 0 b
      else s.udpIn p b i

/-- ETH_RX_FRAME: a frame has arrived whole on port `p` (R385, R386, R390, R391); intake stops in an orderly stop (R508). -/
def State.ethRx (s : State) (p : Nat) (fcsOk : Bool) (b : List Byte) : State :=
  match s.macReceive p fcsOk b with
  | (false, s) => s
  | (true, s) =>
    if p = 4 then s.timePost 4 b
    else if s.on (F.PORT_CFG_PTP p) && isPtp b then s.timePost p b
    else if s.running then s.intakeFrame p b
    else s

def execEthRxFrame (t : Nat) (p : Fin 5) (fcsOk : Bool) (frame : List Byte) (s : State) : Host.Outcome State Fault Refusal :=
  .next ((s.advance t).ethRx p.val fcsOk frame)

/-! ### Losses and silence (R273, R274) -/

/-- GAP_DECLARED_LOST: the oldest gaps are lost once their HOLD has passed (R273). -/
def State.gapTimeout (s : State) (c : Nat) : State :=
  if s.ctxOn c then s.expireByHold c else s

def execGapDeclaredLost (t : Nat) (c : Fin 4096) (s : State) : Host.Outcome State Fault Refusal := .next ((s.advance t).gapTimeout c.val)

/-- A network last heard at `a` is silent for `n` PIXEL clocks. -/
def State.silentFor (s : State) (a : Option Nat) (n : Nat) : Bool :=
  match a with
  | none => true
  | some t => t + n ≤ s.time.pix

/-- NETWORK_SILENT: one network of a DUAL context is silent for 1 s while the other carries packets (R274). -/
def State.netSilent (s : State) (c : Nat) (b : Bool) : State :=
  let x := s.ctx c
  let mine := if b then x.netB else x.netA
  let other := if b then x.netA else x.netB
  if !s.ctxOn c || !s.on (F.CTX_CTRL_DUAL c) || (if b then x.silentB else x.silentA) || !s.silentFor mine clkS || s.silentFor other clkS
  then s
  else (s.setCtx c (if b then { x with silentB := true } else { x with silentA := true })).ctxRec 0x58 c 3

def execNetworkSilent (t : Nat) (c : Fin 4096) (netB : Bool) (s : State) : Host.Outcome State Fault Refusal :=
  .next ((s.advance t).netSilent c.val netB)

end Sys2Proof.Machine
end

