-- ==== Sys2Proof/Machine/DecodeArray.lean ====
section
/-! DEFINITION. Stream contexts and the decode array: opening and closing, the picture pool, dispatch, decoded pictures,
concealment, tags, key-picture requests and the scheduler (R263 to R266, R279 to R298). -/
namespace Sys2Proof.Machine

/-! ### The pool (R264, R283) -/

/-- SLOT_BYTES of context `c` (R283). -/
def State.ctxSlotBytes (s : State) (c : Nat) : Nat :=
  let w := s.get (F.CTX_MAX_W c)
  let h := s.get (F.CTX_MAX_H c)
  let ten := s.on (F.CTX_CTRL_DEPTH10 c)
  if s.kind c = 4 then divUp (divUp ((if ten then 4 else 3) * w) 256 * 256 * (h + 2)) 4096 * 4096 else
  let p := divUp (if ten then 2 * w else w) 256 * 256
  divUp (p * (h + 2) + p * h / 2) 4096 * 4096

/-- Address of slot `j`. -/
def State.ctxSlot (s : State) (c j : Nat) : Nat := s.get (F.CTX_POOL c) * 256 + j * s.ctxSlotBytes c
def State.ctxSlots (s : State) (c : Nat) : Nat := s.get (F.CTX_CTRL_SLOTS c) + 1

/-! ### Opening (R264, R265, R290, R323, R445, R448) -/

/-- Check 2, POOL (R264). -/
def State.poolBad (s : State) (c : Nat) : Bool :=
  let w := s.get (F.CTX_MAX_W c)
  let h := s.get (F.CTX_MAX_H c)
  s.get (F.CTX_CTRL_SLOTS c) < 2 || w < 16 || 8192 < w || h < 16 || 4320 < h || w % 2 = 1 || h % 2 = 1 ||
    s.get (F.CTX_POOL c) = 0 || s.get (F.CTX_TAGS c) = 0 || s.dramEnd < s.ctxSlot c (s.ctxSlots c) ||
    s.dramEnd < s.ctxTagAt c (s.ctxSlots c)

/-- CAPMODE or the header-extension ID is out of range (R264). -/
def State.capBad (s : State) (c : Nat) : Bool :=
  let m := s.get (F.CTX_CTRL_CAPMODE c)
  let i := s.get (F.CTX_CTRL_HDREXT_ID c)
  m = 3 || (m = 1 && (i = 0 || i = 15))

/-- Code of the check that a video context fails, 0 for none (R264). -/
def State.videoCode (s : State) (c : Nat) : Nat :=
  let d := s.declaredOf c
  let open_ := s.openVideo
  if s.poolBad c then 2
  else if 95 * s.decCapacity < 100 * ((open_.map s.declaredOf).sum + d) then 3
  else if 1024 ≤ open_.length then 4
  else if 480000000 < d then 5
  else if (s.on (F.CTX_CTRL_KP_EN c) && s.get (F.CTX_KP_HDR c) = 0) || s.capBad c then 6
  else if s.on (F.CTX_CTRL_PIN c) && s.nDec ≤ s.get (F.CTX_CTRL_HOME c) then 20
  else 0

/-- Code of the check that an AUDIO_RX context fails (R445). -/
def State.audioRxCode (s : State) (c : Nat) : Nat :=
  let ch := s.get (F.CTXR_CHANNELS c)
  let r := s.get (F.CTXR_RATE_HZ c)
  let cap := s.get (F.CTXR_CAP_FRAMES c)
  let t := s.get (F.CTXR_TARGET_US c)
  if s.capBad c then 6
  else if 2 ≤ s.get (F.CTXR_FORMAT c) || ch = 0 || 16 < ch || r < 8000 || 192000 < r then 17
  else if cap * 1000000 < 2 * r * (if t = 0 then 5000 else max 500 t) || s.dramEnd < s.get (F.CTXR_BUF c) * 256 + cap * 4 * ch then 18
  else if 512 ≤ s.openAudio.length then 19
  else 0

/-- Code of the check that an audio TX context fails (R445, R448). -/
def State.audioTxCode (s : State) (c : Nat) : Nat :=
  let ch := s.get (F.CTXT_CHANNELS c)
  let n := s.get (F.CTXT_FRAMES c)
  if ch = 0 || 16 < s.get (F.CTXT_FIRST_SLOT c) + ch || s.nAudio ≤ s.get (F.CTXT_PORT c) || n = 0 || 960 < n ||
    1440 < n * ch * (2 + s.get (F.CTXT_FORMAT c)) then 17
  else if 512 ≤ s.openAudio.length then 19
  else 0

/-- Whether the two templates of a video TX context are good, those that it names (R323). -/
def State.templatesOk (s : State) (c : Nat) : Bool × State :=
  let (a, s) := s.template intakeSrc (s.get (F.CTXV_HDR_A c))
  if s.get (F.CTXV_HDR_B c) = 0 then (a.isSome, s)
  else
    let (b, s) := s.template intakeSrc (s.get (F.CTXV_HDR_B c))
    (a.isSome && b.isSome, s)

/-- Code of the check that a TX context fails (R323, R448). -/
def State.txCode (s : State) (c : Nat) : Nat × State :=
  match s.get (F.CTXV_TXKIND c) with
  | 0 =>
    let i := s.get (F.CTXV_NTPEXT_ID c)
    let m := s.maxPay c
    if s.get (F.CTXV_HDR_A c) = 0 || m < 256 || 8960 < m || (s.on (F.CTXV_NTPEXT c) && (i = 0 || i = 15)) then (6, s)
    else match s.templatesOk c with
      | (true, s) => (0, s)
      | (false, s) => (6, s)
  | 1 => (s.audioTxCode c, s)
  | _ => (1, s)

/-- Code of the check that a context fails at its open, 0 for none (R264). -/
def State.openCode (s : State) (c : Nat) : Nat × State :=
  match s.kind c with
  | 1 => (s.videoCode c, s)
  | 2 => (s.videoCode c, s)
  | 3 => (s.audioRxCode c, s)
  | 4 => (if s.poolBad c then 2 else 0, s)
  | 5 => s.txCode c
  | _ => (1, s)

/-- The pipe that a context goes to at its open (R290). -/
def State.openPipe (s : State) (c : Nat) : Nat :=
  let home := s.get (F.CTX_CTRL_HOME c)
  let pin := s.on (F.CTX_CTRL_PIN c)
  if pin && s.pipeIn home then home
  else (leastBy s.pipeLoad s.pipesIn).getD (if pin then home else 0)

/-- What a context keeps when it opens or closes: the arrival of packets from the networks, the last FIR, the last key-picture
request, the run of SKIPALL tags, the capture-time mapping and the count of openings (R262, R274, R278, R296, R298, R325). -/
def freshCtx (x : Ctx) : Ctx :=
  { firRx := x.firRx, netA := x.netA, netB := x.netB, silentA := x.silentA, silentB := x.silentB, kpAt := x.kpAt, run := x.run,
    mapRtp := x.mapRtp, opens := x.opens }

/-- CONTEXT_OPEN (R264, R265). -/
def State.ctxOpen (s : State) (c : Nat) : State :=
  match s.openCode c with
  | (0, s) =>
    let p := s.openPipe c
    let s := s.setCtx c { freshCtx (s.ctx c) with opens := (s.ctx c).opens + 1 }
    let s := if s.get (F.CTX_CTRL_CAPMODE c) = 2 then s.putB (F.CTX_STATUS_ANCHOR_OK c) true else s
    if s.isVideo c then (s.put (F.CTX_STATUS_PIPE c) p).put (F.CTX_STATUS_STATE c) ctxWaitRap
    else s.put (F.CTX_STATUS_STATE c) ctxRunning
  | (code, s) => s.ctxRefuse c (s.get (F.CTX_STATUS_PIPE c)) code 0

/-! ### Closing (R266) -/

/-- A pipe that has a picture of context `c` in progress. -/
def State.jobPipe (s : State) (c : Nat) : Option Nat :=
  (List.range 16).find? (fun p => match (tabGet {} s.pipes p).job with
    | some (d, _) => d = c
    | none => false)

/-- CONTEXT_CLOSE: an open video context drains until its pipe has stopped; a context that no pipe serves is CLOSED
(R266). -/
def State.ctxClose (s : State) (c : Nat) : State :=
  let st := s.ctxState c
  let drains := ((st = ctxWaitRap || st = ctxRunning) && (s.kind c = 1 || s.kind c = 2)) || (s.jobPipe c).isSome
  let s := s.freeHeld c
  let s := s.setCtx c (freshCtx (s.ctx c))
  let s := (s.put (F.CTX_LISTED c) 0).put (F.CTX_DPB_USED c) 0
  let s := if s.kind c = 5 then s.encCtxStop c else s
  s.put (F.CTX_STATUS_STATE c) (if drains then ctxDraining else ctxClosed)

/-! ### Field writes (R263) -/

/-- Bits of word `k` of a context that take writes while it is not CLOSED (R263, R445). -/
def State.ctxLive (s : State) (c k : Nat) : Nat :=
  let kd := s.kind c
  match k with
  | 0 => 0x0F801010
  | 7 => if kd = 3 then 0xFFFFF else if kd = 5 then 0 else 0xFFFFFF
  | 8 => if kd = 5 then 0 else 0xFFFF0000
  | 9 => if kd = 3 then 0xFFFF else if kd = 5 then 0 else 0x3FFF
  | 14 => 0xFFFFFFFF
  | 16 => 0xFFFFFFFF
  | 17 => 0xFFFFFFFF
  | _ => 0

/-- Bits of the register at `key` that software may write. -/
def State.rwBits (s : State) (key : Nat) : Nat :=
  match rowAt (ctxLayout s.regs key) key with
  | some (r, _, _) => r.rw ||| r.wk
  | none => 0

/-- The register at `key` with the bits of `m` taken from `v`. -/
def State.writeBits (s : State) (key m : Nat) (v : Word) : State :=
  s.setReg key (BitVec.ofNat 32 (((s.reg key).toNat &&& (0xFFFFFFFF ^^^ m)) ||| (v.toNat &&& m)))

/-- OPEN as written, after the fields of its register (R264, R266). -/
def State.ctxOpenBit (s : State) (c : Nat) (b : Bool) : State :=
  let st := s.ctxState c
  if b then (if st = ctxClosed then s.ctxOpen c else s)
  else if st = ctxClosed || st = ctxDraining then s else s.ctxClose c

/-- Word `k` of a context as its fields read: WIN as the nearer end of its range, 0 apart (R262). -/
def ctxReads (kind k : Nat) (w : Word) : Nat :=
  let n := (F.CTX_WIN 0).of w
  if k = 8 && kind != 5 && n != 0 then ((F.CTX_WIN 0).ins w (clamp 64 4096 n)).toNat else w.toNat

/-- A write of word `k` of context `c`; a write that leaves every field that takes none at the value it reads logs nothing
(R263). -/
def State.wrCtx (s : State) (c k : Nat) (v : Word) : State :=
  let key := (F.CTX_CTRL_KIND c).key + 4 * k
  if k = 16 then s.holdLow key v
  else if k = 17 then
    let (t, s) := s.joinHigh (F.CTX_ANCHOR_TIME c) v
    s.anchorWrite c t
  else
    let m := s.rwBits key
    let live := if s.ctxState c = ctxClosed then m else m &&& s.ctxLive c k
    let busy := (ctxReads (s.kind c) k (s.reg key) ^^^ ctxReads (s.kind c) k v) &&& (m ^^^ live) != 0
    let s := s.writeBits key live v
    let s := if busy then s.ctxRec 0x50 c 16 else s
    if k = 0 then s.ctxOpenBit c (bitAt v.toNat 4) else s

def execContextOpen (i : Initiator) (c : Fin 4096) (v : Word) (s : State) : Host.Outcome State Fault Refusal :=
  .next (s.asWrite i (F.CTX_CTRL_KIND c.val).key v (fun s => s.wrCtx c.val 0 v))

def execContextClose (i : Initiator) (c : Fin 4096) (v : Word) (s : State) : Host.Outcome State Fault Refusal :=
  .next (s.asWrite i (F.CTX_CTRL_KIND c.val).key v (fun s => s.wrCtx c.val 0 v))

def execContextFieldWrite (i : Initiator) (c : Fin 4096) (k : Fin 32) (v : Word) (s : State) : Host.Outcome State Fault Refusal :=
  .next (s.asWrite i ((F.CTX_CTRL_KIND c.val).key + 4 * k.val) v (fun s => s.wrCtx c.val k.val v))

/-! ### Pipes and slots (R284, R286, R289, R292) -/

def State.pipe (s : State) (p : Nat) : Pipe := tabGet {} s.pipes p
def State.setPipe (s : State) (p : Nat) (x : Pipe) : State := { s with pipes := tabSet s.pipes p x }

/-- A slot of context `c` that a pipe writes. -/
def State.slotBusy (s : State) (c j : Nat) : Bool :=
  s.pipes.any (fun (e : Nat × Pipe) => match e.2.job with
    | some (d, _) => d = c && e.2.slot = some j
    | none => false)

/-- A window in an active state has latched slot `j` of context `c`. -/
def State.ctxLatched (s : State) (c j : Nat) : Bool :=
  s.wins.any (fun (e : Nat × Win) => match e.2.act, e.2.tag with
    | some ws, some l => wKind ws = 1 && wSrc ws = c && l.at_ = s.ctxTagAt c j
    | _, _ => false)

/-- The slot that a pipe takes: the first free one in ring order after NEWEST (R284). -/
def State.ctxFreeSlot (s : State) (c : Nat) : Option Nat :=
  let n := s.ctxSlots c
  ((List.range n).map (fun i => (s.get (F.CTX_NEWEST c) + 1 + i) % n)).find? (fun j =>
    !s.slotBusy c j && !(s.ctx c).dpb.contains j && !s.ctxLatched c j)

/-- Width, height and depth of the surface that stands in slot `j` of context `c`: those of its last picture, and in a slot
that has held none since the open the largest ones. Mark: DESIGN CHOICE, log entry 104. -/
def State.slotShape (s : State) (c j : Nat) : Nat × Nat × Bool :=
  match tabGet? (s.ctx c).slots j with
  | some o => (o.width, o.height, o.ten)
  | none => (s.get (F.CTX_MAX_W c), s.get (F.CTX_MAX_H c), s.on (F.CTX_CTRL_DEPTH10 c))

/-- A sentinel word with MARK 0xEE goes to the start of both sentinel rows of the surface in slot `j` (R47). What the word holds
beside its MARK is a free value (log entry 2). -/
def State.markSlot (s : State) (src : Src) (kind c j : Nat) (con : Bool) (fmt : Nat) : State :=
  let (w, h, _) := s.slotShape c j
  let (q, s) := s.freeVal 32
  let (t, s) := s.freeVal 32
  s.openSurface src ⟨t, q, c, kind, false, false, con, 0, fmt, 0, s.ctxSlot c j / 256, w, h, 0, 0, true⟩

/-- An apply is in progress, which may still latch a slot (R120, R284). -/
def State.anyApply (s : State) : Bool := s.units.any (fun e => e.2.applying)

/-- The marks that pipe `p` owes its slot are written, unless an apply is in progress (R284). -/
def State.pipeMark (s : State) (p : Nat) : State :=
  let x := s.pipe p
  match x.job, x.slot with
  | some (c, _), some j =>
    if !x.markDue || s.anyApply then s
    else (s.setPipe p { x with markDue := false }).markSlot (decSrc p) 0 c j false (if (s.slotShape c j).2.2 then 1 else 0)
  | _, _ => s

/-- Pipe `p` takes a slot for its picture, unlists it, and marks it once no apply is in progress (R284, R47). -/
def State.takeSlot (s : State) (p c : Nat) : State :=
  match s.ctxFreeSlot c with
  | none => s
  | some j =>
    ((s.setPipe p { s.pipe p with slot := some j, markDue := true, countAt := s.time.pix, work := 0, counted := 0 }).putBit
      (F.CTX_LISTED c) j false).pipeMark p

/-- STATE of a pipe in service whose picture has ended, by SLOW and PIPE_EN (R291, R292, R302). -/
def State.pipeRest (s : State) (p : Nat) : State :=
  if !s.bit F.DEC_PIPE_EN p then s.put (F.PIPE_STATE p) 6
  else s.put (F.PIPE_STATE p) (if s.bit F.DEC_SLOW p then 2 else 0)

/-- Eighths of each 1 ms for which the pipes work: levels 2 to 8 take (9 − level) / 8, the ones that SHED_CFG skips apart, and
the levels above keep the least share reached (R500, R521). -/
def State.decodeShare (s : State) : Nat :=
  let l := s.get F.PWR_STATUS_SHED_LEVEL
  if l < 2 then 8 else max (9 - min l 8) (clamp 1 8 (s.get F.PWR_SHED_CFG_DEC_MIN))

/-- The time for which a pipe has worked on its picture since it was last counted; time gated by the decode share is not busy
(R291, R500). -/
def State.pipeBusy (s : State) (p : Nat) : Nat :=
  let x := s.pipe p
  if x.slot.isSome then (s.time.pix - x.countAt) * s.decodeShare / 8 else 0

/-- The busy time of pipe `p` is counted up to now. -/
def State.countBusy (s : State) (p : Nat) : State :=
  let x := s.pipe p
  let d := s.pipeBusy p
  s.setPipe p { x with busy := x.busy + d, work := x.work + d, countAt := s.time.pix }

/-- The busy time of every pipe is counted up to now, before the decode share changes (R500). -/
def State.countPipes (s : State) : State := (List.range 16).foldl (fun s p => if (s.pipe p).slot.isSome then s.countBusy p else s) s

/-- The picture under way on pipe `p` is discarded: what has been decoded of it counts in RATE (R291). How much that is no event
says, and it is a free value. Mark: DESIGN CHOICE, log entry 133. -/
def State.discard (s : State) (p : Nat) : State :=
  let x := s.pipe p
  match x.job, x.slot with
  | some (c, _), some _ =>
    let (f, s) := s.freeVal 26
    let n := f % (s.get (F.CTX_MAX_W c) * s.get (F.CTX_MAX_H c) - x.counted + 1)
    s.setPipe p { x with pixels := x.pixels + n, counted := x.counted + n }
  | _, _ => s

/-- The job of pipe `p` is over. -/
def State.clearJob (s : State) (p : Nat) : State :=
  let s := s.countBusy p
  let s := s.setPipe p { s.pipe p with job := none, slot := none, markDue := false }
  let s := s.worked p
  if s.pipeLive p then s.pipeRest p else s

/-- The job of pipe `p` ends without a picture. -/
def State.dropJob (s : State) (p : Nat) : State := (s.discard p).clearJob p

/-- The oldest ready unit of each context that pipe `p` may take now, with its deadline, earliest first (R289). -/
def State.pipeChoice (s : State) (p : Nat) : Option Nat :=
  leastBy (fun c => match (s.ctx c).ready with
    | a :: _ => a.rdy + s.budgetNs c
    | [] => 0) ((s.pipeCtxs p).filter (fun c => !(s.ctx c).ready.isEmpty && (s.jobPipe c).isNone))

/-- The parameter sets of R276 are fed to the pipe before the unit. -/
def State.feedPset (s : State) (p c : Nat) : State :=
  let x := s.ctx c
  if !x.psetDue then s else
  let s := s.setCtx c { x with psetDue := false }
  let n := s.get (F.CTX_PSET_LEN c)
  if n = 0 then s else (s.unitRead (decSrc p) (s.get (F.CTX_PSET c) * 256) n).2

/-- Pipe `p` takes the unit it should decode next; late units that are no reference and have a later unit behind them are
dropped on the way (R289). -/
def State.dispatch (s : State) (p : Nat) : Nat → State
  | 0 => s
  | fuel + 1 =>
    match s.pipeChoice p with
    | none => s
    | some c =>
      match (s.ctx c).ready with
      | [] => s
      | a :: rest =>
        if a.rdy + s.budgetNs c < s.time64 && !a.isRef && !rest.isEmpty then
          ((((s.setCtx c { s.ctx c with ready := rest }).bump (F.CTX_DROPS c)).jobRec 0x54 c p 2 0 a.port).lostRec c p a).dispatch p fuel
        else
          let s := s.setCtx c { s.ctx c with ready := rest }
          let s := s.setPipe p { s.pipe p with job := some (c, a), slot := none, markDue := false }
          let s := (s.put (F.PIPE_CURRENT p) c).put (F.PIPE_STATE p) (if s.bit F.DEC_SLOW p then 2 else 1)
          ((s.feedPset p c).worked p).takeSlot p c

/-- PIPE_DISPATCH (R289). A pipe idle for 10 µs waits for its wake (R497); in an orderly stop none starts (R508). -/
def State.pipeDispatch (s : State) (p : Nat) : State :=
  if !s.pipeIn p || (s.pipe p).job.isSome || !s.running || !s.awake p then s
  else s.dispatch p (((s.pipeCtxs p).map (fun c => (s.ctx c).ready.length)).sum)

def execPipeDispatch (t : Nat) (p : Fin 16) (s : State) : Host.Outcome State Fault Refusal := .next ((s.advance t).pipeDispatch p.val)

/-- SLOT_WAIT_EXPIRY: the picture is dropped when no slot has come free by the deadline; one that has is taken (R286). -/
def State.slotExpiry (s : State) (p : Nat) : State :=
  match (s.pipe p).job, (s.pipe p).slot with
  | some (c, a), none =>
    if (s.ctxFreeSlot c).isSome then s.takeSlot p c
    else if s.time64 < a.rdy + s.budgetNs c then s
    else
      let s := (((s.bump (F.CTX_DROPS c)).bump (F.CTX_MISS c)).bump (F.PIPE_MISS p)).jobRec 0x57 c p 0 0 a.port
      (s.lostRec c p a).clearJob p
  | _, _ => s

def execSlotWaitExpiry (t : Nat) (p : Fin 16) (s : State) : Host.Outcome State Fault Refusal := .next ((s.advance t).slotExpiry p.val)

/-! ### Concealment (R294) -/

/-- Bytes of a sample, and one mid-grey sample. -/
def sampleBytes (ten : Bool) : Nat := if ten then 2 else 1
def greySample (ten : Bool) : List Byte := if ten then [0x00#8, 0x80#8] else [0x80#8]

/-- `k` samples of a row at `a` copied from `b`, or grey where the source is not there or returns poison. What a sample of another
depth becomes no rule says: it is a free value. Mark: DESIGN CHOICE, log entry 138. -/
def State.copyBytes (s : State) (p : Nat) (ten : Bool) (a k : Nat) (b : Option (Nat × Bool)) : State :=
  let grey := (List.replicate k (greySample ten)).flatten
  match b with
  | none => (s.unitWrite (decSrc p) a grey).2
  | some (b, was) =>
    match s.unitRead (decSrc p) b (k * sampleBytes was) with
    | (some bs, s) =>
      if was = ten then (s.unitWrite (decSrc p) a bs).2
      else
        let (bs, s) := s.freeBytes (k * sampleBytes ten)
        (s.unitWrite (decSrc p) a bs).2
    | (none, s) => (s.unitWrite (decSrc p) a grey).2

/-- Area `k` of a picture at `at_` is filled from the same position in the picture `from_`, of its own width, height and depth,
and grey where that has no such position (R294). -/
def State.concealArea (s : State) (p : Nat) (ten : Bool) (at_ w h : Nat) (from_ : Option (Nat × Nat × Nat × Bool)) (k : Nat) : State :=
  let sb := sampleBytes ten
  let pitch := pitchOf w (if ten then 1 else 0)
  let per := divUp w 16
  let x := k % per * 16
  let y := k / per * 16
  let n := min 16 (w - x)
  let src := fun (rows : Nat → Nat) (r lim : Nat) => from_.bind (fun f =>
    let was := f.2.2.2
    if x + n ≤ f.2.1 && r < rows f.2.2.1 then
      some (f.1 + (lim + r) * pitchOf f.2.1 (if was then 1 else 0) + x * sampleBytes was, was) else none)
  let s := (List.range (min 16 (h - y))).foldl (fun s r =>
    s.copyBytes p ten (at_ + (1 + y + r) * pitch + x * sb) n (src id (y + r) 1)) s
  (List.range (min 8 (h / 2 - y / 2))).foldl (fun s r =>
    s.copyBytes p ten (at_ + (2 + h + y / 2 + r) * pitch + x * sb) n
      (src (fun g => g / 2) (y / 2 + r) (2 + (from_.map (fun f => f.2.2.1)).getD 0))) s

/-! ### Decoded pictures (R281 to R285, R293 to R298) -/

/-- The context has the picture's slot `j`; what the tag of its output says of it. -/
def State.pictureTag (s : State) (c j : Nat) (q : PicSlot) : Tag :=
  let skip := q.coded = 0
  ⟨s.captureOf c q.ts q.arr q.ntp, s.get (F.CTX_SEQ c), c, 0, q.impaired, skip, q.rap, q.transfer, if q.ten then 1 else 0, s.epoch,
   s.ctxSlot c j / 256, q.width, q.height, q.coded, if skip then min 8191 ((s.ctx c).run + 1) else 0, true⟩

/-- Mean spacing in µs of the CAPTURE values of the last tags, latest first (R262). -/
def meanSpacing (caps : List Nat) : Nat :=
  match caps, caps.getLast? with
  | a :: _ :: _, some b => (a - b) / (1000 * (caps.length - 1))
  | _, _ => 0

/-- PICTURE_OUTPUT: slot `j` leaves the decoded picture buffer (R279, R285, R298). -/
def State.outputPic (s : State) (p c j : Nat) : State :=
  match tabGet? (s.ctx c).slots j with
  | none => s
  | some q =>
    if !s.on (F.CTX_STATUS_ANCHOR_OK c) then s.bump (F.CTX_DROPS c) else
    let t := s.pictureTag c j q
    let s := s.closeSurface (decSrc p) t (s.ctxTagAt c j)
    let caps := (t.capture :: (s.ctx c).caps).take 16
    let s := s.setCtx c { s.ctx c with run := t.run, caps := caps }
    let s := (s.put (F.CTX_SEQ c) (t.seq + 1)).put (F.CTX_MEAS_INT_US c) (min 0xFFFFFF (meanSpacing caps))
    let s := (s.putBit (F.CTX_LISTED c) j true).put (F.CTX_NEWEST c) j
    let s := (s.bump (F.CTX_PICS c)).putB (F.CTX_STATUS_IMPAIRED c) q.impaired
    let s := if q.impaired then s.bump (F.CTX_IMPAIRED c) else s
    s.queueCopies c ⟨s.ctxTagAt c j, tagBytes t⟩

/-- The profile is one of R280 for the coding. -/
def profileOk (h265 : Bool) : Profile → Bool
  | .constrainedBaseline => !h265
  | .h264Main => !h265
  | .h264High => !h265
  | .h265Main => h265
  | .h265Main10 => h265
  | .other => false

/-- The code with which a sequence parameter set refuses the context, 0 for none: the first check that fails (R264, R280,
R281). -/
def State.spsCode (s : State) (c : Nat) (q : Sps) : Nat :=
  let h265 := s.kind c = 2
  if !profileOk h265 q.profile then 7
  else if !q.chroma420 then 8
  else if q.depth != 8 && !(q.depth = 10 && q.profile = .h265Main10 && s.on (F.CTX_CTRL_DEPTH10 c)) then 9
  else if q.width < 16 || q.height < 16 || s.get (F.CTX_MAX_W c) < q.width || s.get (F.CTX_MAX_H c) < q.height ||
    (!h265 && (4096 < q.width || 2304 < q.height || 36864 < divUp q.codedW 16 * divUp q.codedH 16)) then 10
  else if (if h265 then 62 else 52) < q.level then 11
  else if s.ctxSlots c < q.dpb + 2 then 12
  else if q.interlaced then 14
  else 0

/-- The sequence parameter set under which a picture is coded: its own where decoding may start there, else the active one
(R281). -/
def State.activeSps (s : State) (c : Nat) (pic : DecodedPic) : Sps :=
  if pic.rap || pic.recovery then pic.sps else (s.ctx c).sps.getD pic.sps

/-- TRANSFER of a tag by the VUI transfer characteristics (R282). -/
def transferOf (vui : Nat) : Nat := if vui = 16 then 1 else if vui = 18 then 2 else 0

/-- Pipe `p` reads the rows of the picture in slot `j` of context `c`: whether poison or another error response answers one
(R31), and the state with what the reads log. -/
def State.readRef (s : State) (p c j : Nat) : Bool × State :=
  let (w, h, ten) := s.slotShape c j
  let at_ := s.ctxSlot c j
  let pitch := pitchOf w (if ten then 1 else 0)
  ((List.range h).map (fun r => r + 1) ++ (List.range (h / 2)).map (fun r => r + h + 2)).foldl (fun (q : Bool × State) r =>
    match q.2.unitRead (decSrc p) (at_ + r * pitch) (w * sampleBytes ten) with
    | (some _, s) => (q.1, s)
    | (none, s) => (true, s)) (false, s)

/-- Pipe `p` reads the reference pictures of a picture. -/
def State.readRefs (s : State) (p c : Nat) (refs : List Nat) : Bool × State :=
  refs.foldl (fun (q : Bool × State) j =>
    let r := q.2.readRef p c j
    (q.1 || r.1, r.2)) (false, s)

/-- A read of a reference picture fails: found at this read, or known before (R30, R31, R293). -/
def State.refPoisoned (s : State) (p c : Nat) (pic : DecodedPic) : Bool := pic.refPoison || (s.readRefs p c pic.refs).1

/-- The pictures since the last recovery point SEI, this one included, have no concealed area (R295). -/
def State.picClean (s : State) (c : Nat) (pic : DecodedPic) : Bool := (pic.recovery || (s.ctx c).clean) && pic.concealed.isEmpty

/-- A picture is IMPAIRED (R295). -/
def State.picImpaired (s : State) (p c : Nat) (pic : DecodedPic) : Bool :=
  !pic.concealed.isEmpty || (!pic.rap && !(pic.recovered && s.picClean c pic) && (pic.refAbsent || s.refPoisoned p c pic ||
    pic.refs.any (fun j => match tabGet? (s.ctx c).slots j with
      | some q => q.impaired
      | none => true)))

/-- The pixels of a picture go to slot `j`, the concealed areas from the nearest picture (R283, R294). What stands in for a
missing reference picture is in the samples that the pipe decodes. -/
def State.writePicture (s : State) (p c j : Nat) (pic : DecodedPic) : State :=
  let fmt := if pic.tenBit then 1 else 0
  let n := pic.width * sampleBytes pic.tenBit
  let at_ := s.ctxSlot c j
  let pitch := pitchOf pic.width fmt
  let (q, s) := s.freeVal 32
  let (t, s) := s.freeVal 32
  let s := s.openSurface (decSrc p) ⟨t, q, c, 0, false, false, false, 0, fmt, 0, at_ / 256, pic.width, pic.height, 0, 0, true⟩
  let rows := fun (k : Nat) (b : List Byte) => (List.range k).map (fun r => slice b (r * n) n)
  let s := s.writeRows (decSrc p) (at_ + pitch) pitch (rows pic.height pic.luma)
  let s := s.writeRows (decSrc p) (at_ + (2 + pic.height) * pitch) pitch (rows (pic.height / 2) pic.chroma)
  let from_ := pic.nearest.bind (fun k => match tabGet? (s.ctx c).slots k with
    | some o => some (s.ctxSlot c k, o.width, o.height, o.ten)
    | none => none)
  pic.concealed.foldl (fun s k => s.concealArea p pic.tenBit at_ pic.width pic.height from_ k) s

/-- Records of what a picture suffered (R293). -/
def State.picRecords (s : State) (p c a2 : Nat) (a : Au) (pic : DecodedPic) (poison : Bool) : State :=
  let s := if a.lost then s.jobRec 0x51 c p 2 a2 a.port (some c) else s
  let s := if pic.syntaxErr then s.jobRec 0x51 c p 1 a2 a.port (some c) else s
  let s := if pic.refAbsent then s.jobRec 0x52 c p 1 a2 a.port (some c) else s
  if poison then s.jobRec 0x52 c p 2 a2 a.port (some c) else s

/-- A picture that its context takes has been decoded into slot `j` (R285, R289, R294). -/
def State.keepPicture (s : State) (p c j : Nat) (a : Au) (pic : DecodedPic) : State :=
  let imp := s.picImpaired p c pic
  let poison := s.refPoisoned p c pic
  let clean := s.picClean c pic
  let s := (s.readRefs p c pic.refs).2.writePicture p c j pic
  let coded := (pic.coded.filter (fun k => !pic.concealed.contains k)).length
  let x := s.ctx c
  let s := s.setCtx c { x with
    slots := tabSet x.slots j ⟨a.ts, a.arr, a.ntp, pic.width, pic.height, pic.tenBit, transferOf pic.vui, imp, pic.rap, coded⟩
    dpb := pic.held
    sps := some pic.sps
    clean := clean
    measFrom := some (x.measFrom.getD s.time.pix)
    work := (s.time.pix, pic.width * pic.height) :: x.work.filter (fun e => s.time.pix < e.1 + clkS) }
  let s := s.put (F.CTX_DPB_USED c) (min 31 pic.held.length)
  let s := s.setPipe p { s.pipe p with pixels := (s.pipe p).pixels + (pic.width * pic.height - (s.pipe p).counted) }
  let s := (s.bump (F.PIPE_PICS p)).picRecords p c (s.ctxTagAt c j) a pic poison
  let s := if a.rdy + s.budgetNs c < s.time64 then
      ((s.bump (F.CTX_MISS c)).bump (F.PIPE_MISS p)).jobRec 0x54 c p 1 (s.ctxTagAt c j) a.port
    else s
  pic.output.foldl (fun s k => s.outputPic p c k) s

/-- PICTURE_DECODED (R287). A pipe that has waited for a slot looks for one again first; one whose slot still awaits its marks
has written nothing, and so has not ended (R284). In an orderly stop the pipes have stopped (R508). -/
def State.pictureDecoded (s : State) (p : Nat) (pic : DecodedPic) : State :=
  if !s.running then s else
  match (s.pipe p).job with
  | none => s
  | some (c, a) =>
    if !s.ctxOn c then s.dropJob p else
    let pic := { pic with sps := s.activeSps c pic }
    let code := s.spsCode c pic.sps
    if code != 0 then (s.ctxRefuse c p code a.port (some c)).dropJob p
    else if s.ctxState c = ctxWaitRap && !pic.rap && !pic.recovery then ((s.bump (F.CTX_DROPS c)).lostRec c p a).dropJob p
    else
      let s := (if (s.pipe p).slot.isNone then s.takeSlot p c else s).pipeMark p
      match (s.pipe p).slot with
      | none => s
      | some j => if (s.pipe p).markDue then s else ((s.put (F.CTX_STATUS_STATE c) ctxRunning).keepPicture p c j a pic).clearJob p

def execPictureDecoded (t : Nat) (p : Fin 16) (pic : DecodedPic) (s : State) : Host.Outcome State Fault Refusal :=
  .next ((s.advance t).pictureDecoded p.val pic)

/-- CONTEXT_DRAINED: the pipe has stopped, and the context is CLOSED (R266). -/
def State.ctxDrained (s : State) (c : Nat) : State :=
  if s.ctxState c != ctxDraining then s else
  let s := match s.jobPipe c with
    | some p => s.dropJob p
    | none => s
  s.put (F.CTX_STATUS_STATE c) ctxClosed

def execContextDrained (t : Nat) (c : Fin 4096) (s : State) : Host.Outcome State Fault Refusal := .next ((s.advance t).ctxDrained c.val)

/-! ### Key-picture requests (R296, R297) -/

/-- The feedback message of a request (R297). -/
def feedback (fir : Bool) (sender ssrc seq : Nat) : List Byte :=
  if fir then [0x84#8, 206#8] ++ beBytes 4 2 ++ beBytes sender 4 ++ beBytes 0 4 ++ beBytes ssrc 4 ++ beBytes seq 1 ++ [0, 0, 0]
  else [0x81#8, 206#8] ++ beBytes 2 2 ++ beBytes sender 4 ++ beBytes ssrc 4

/-- KEYPIC_REQUEST: a request falls due and its cause holds (R296). -/
def State.keypic (s : State) (c : Nat) : State :=
  let x := s.ctx c
  let due := match x.kpAt with
    | none => true
    | some t => t + s.kpInt c ≤ s.time.pix
  if !s.isVideo c || !s.ctxOn c || !s.on (F.CTX_CTRL_KP_EN c) || !due ||
    !(s.ctxState c = ctxWaitRap || s.on (F.CTX_STATUS_IMPAIRED c)) then s
  else
    let s := s.setCtx c { x with kpAt := some s.time.pix }
    match s.template intakeSrc (s.get (F.CTX_KP_HDR c)) with
    | (none, s) => s.ctxRec 0x53 c 3
    | (some (p, sender, h), s) =>
      let fir := s.on (F.CTX_CTRL_KP_FIR c)
      let s := if fir then s.put (F.CTX_FIR_SEQ c) (s.get (F.CTX_FIR_SEQ c) + 1) else s
      let rr := if s.on (F.CTX_CTRL_KP_RSIZE c) then [] else [0x80#8, 201#8] ++ beBytes 1 2 ++ beBytes sender 4
      let fb := feedback fir sender (s.get (F.CTX_SSRC c)) (s.get (F.CTX_FIR_SEQ c))
      let s := (s.bump (F.CTX_KP_SENT c)).ctxRec 0x53 c (if fir then 2 else 1) 0 p
      s.enqueue p ⟨2, .keypic c, completeFrame (h ++ rr ++ fb)⟩

def execKeypicRequest (t : Nat) (c : Fin 4096) (s : State) : Host.Outcome State Fault Refusal := .next ((s.advance t).keypic c.val)

/-! ### The scheduler (R290 to R292) -/

/-- Context `c` fits on pipe `q`: in service, and LOAD at or below 0.85 × RATE with it. -/
def State.pipeFits (s : State) (c q : Nat) : Bool :=
  s.pipeIn q && s.get (F.CTX_STATUS_PIPE c) != q && 100 * (s.pipeLoad q + s.demandOf c) ≤ 85 * s.pipeRate q

/-- Where the scheduler would move context `c`. -/
def State.moveTo (s : State) (c : Nat) : Option Nat := leastBy s.pipeLoad ((List.range s.nDec).filter (s.pipeFits c))

/-- The context of a list with the largest demand that has somewhere to go; the first among equals. -/
def State.biggest (s : State) (l : List Nat) : Option Nat :=
  leastBy (fun c => 10 ^ 12 - s.demandOf c) (l.filter (fun c => (s.moveTo c).isSome))

def State.assign (s : State) (c q : Nat) : State := (s.put (F.CTX_STATUS_PIPE c) q).bump F.DEC_MIGRATIONS

/-- One 10 ms step: a context of a pipe that has left service, one of a pipe above 0.9 × RATE, or a pinned one whose HOME
has come back (R290). -/
def State.migrate (s : State) : State :=
  let out := s.openVideo.filter (fun c => let p := s.get (F.CTX_STATUS_PIPE c); !s.pipeIn p && (s.pipe p).job.isNone)
  let heavy := s.openVideo.filter (fun c => let p := s.get (F.CTX_STATUS_PIPE c)
    !s.on (F.CTX_CTRL_PIN c) && s.pipeIn p && 90 * s.pipeRate p < 100 * s.pipeLoad p)
  let pinned := s.openVideo.find? (fun c => s.on (F.CTX_CTRL_PIN c) && s.pipeFits c (s.get (F.CTX_CTRL_HOME c)))
  match s.biggest out with
  | some c => s.assign c ((s.moveTo c).getD 0)
  | none => match s.biggest heavy with
    | some c => s.assign c ((s.moveTo c).getD 0)
    | none => match pinned with
      | some c => s.assign c (s.get (F.CTX_CTRL_HOME c))
      | none => s

def execContextMigrate (t : Nat) (s : State) : Host.Outcome State Fault Refusal := .next (s.advance t).migrate

/-- THRESH and WINDOW as they read (R301). -/
def State.slowThresh (s : State) : Nat := clamp 50 95 (s.get F.DEC_SLOW_CFG_THRESH)
def State.slowWindow (s : State) : Nat := max 1 (s.get F.DEC_SLOW_CFG_WINDOW)

/-- PIPE_RATE_UPDATE at the end of a measuring span: `more` samples of the picture under way have been decoded since they were
last counted (R291). -/
def State.rateUpdate (s : State) (p more : Nat) : State :=
  if s.time.pix < (s.pipe p).spanAt + s.slowWindow * 10 * clkMs then s else
  let s := s.countBusy p
  let more := if (s.pipe p).slot.isSome then more else 0
  let x := { s.pipe p with pixels := (s.pipe p).pixels + more, counted := (s.pipe p).counted + more }
  let busy := x.busy
  let s := s.setPipe p { x with busy := 0, pixels := 0, spanAt := s.time.pix }
  if !s.pipeLive p || busy * 10 < s.slowWindow * 10 * clkMs then s else
  let rate := min 1023 (x.pixels * 1200 / busy)
  let s := s.put (F.PIPE_RATE p) rate
  if s.bit F.DEC_SLOW p then
    let good := if (s.slowThresh + 5) * 512 ≤ 100 * rate then x.good + 1 else 0
    if good < 2 then s.setPipe p { s.pipe p with good := good }
    else
      let s := (s.setPipe p { s.pipe p with good := 0 }).putBit F.DEC_SLOW p false
      let s := if s.get (F.PIPE_STATE p) = 2 then s.put (F.PIPE_STATE p) (if x.job.isSome then 1 else 0) else s
      s.pipeRec 0x55 p 0xFFF 2
  else if 100 * rate < s.slowThresh * 512 then
    (((s.setPipe p { s.pipe p with good := 0 }).putBit F.DEC_SLOW p true).put (F.PIPE_STATE p) 2).pipeRec 0x55 p 0xFFF 1
  else s

def execPipeRateUpdate (t : Nat) (p : PipeSpan) (s : State) : Host.Outcome State Fault Refusal :=
  .next ((s.advance t).rateUpdate p.pipe.val p.pixels)

/-- The picture in progress on pipe `p` goes back to its context, to start again elsewhere; its slot keeps MARK 0xEE
(R292). -/
def State.returnJob (s : State) (p : Nat) : State :=
  match (s.pipe p).job with
  | none => s
  | some (c, a) =>
    let s := if s.ctxOn c then s.setCtx c { s.ctx c with ready := a :: (s.ctx c).ready } else s
    let s := (s.discard p).countBusy p
    s.setPipe p { s.pipe p with job := none, slot := none, markDue := false }

/-- PIPE_STALL_FAIL: no block row for 10 ms of work, or an internal check fails (R292). -/
def State.pipeFail (s : State) (p : Nat) (internal : Bool) : State :=
  if !s.pipeLive p || (!internal && (!(s.pipe p).slot.isSome || (s.pipe p).work + s.pipeBusy p < 10 * clkMs)) then s else
  let c := match (s.pipe p).job with
    | some (c, _) => c
    | none => 0xFFF
  let s := (((s.returnJob p).put (F.PIPE_STATE p) 3).putBit F.DEC_FAILED p true).putBit F.DEC_SLOW p false
  (s.pipeRec 0x56 p c (if internal then 2 else 1)).updMode

def execPipeStallFail (t : Nat) (p : Fin 16) (internal : Bool) (s : State) : Host.Outcome State Fault Refusal :=
  .next ((s.advance t).pipeFail p.val internal)

/-- A write of DEC.PIPE_EN: a pipe ends its picture and is DISABLED, or returns; the scheduler uses it no more at once (R290,
R292, R301). -/
def State.wrDecEn (s : State) (v : Word) : State :=
  (List.range s.nDec).foldl (fun s p =>
    if s.pipeLive p && (s.pipe p).job.isNone then s.pipeRest p
    else if s.get (F.PIPE_STATE p) = 6 then s.pipeRest p
    else s) (s.put F.DEC_PIPE_EN (bits v.toNat 0 16))

def execDecPipeEnWrite (i : Initiator) (v : Word) (s : State) : Host.Outcome State Fault Refusal :=
  .next (s.asWrite i F.DEC_PIPE_EN.key v (fun s => s.wrDecEn v))

end Sys2Proof.Machine
end

