-- ==== Sys2Proof/Machine/Audio.lean ====
section
/-! DEFINITION. Audio ports: sides, routes, readers and their slips, clock faults, and the packets of audio TX contexts
(R433 to R444, R447 to R453). A side is 2 × port for transmit and one more for receive. -/
namespace Sys2Proof.Machine

def sideOff : Nat := 0
def sideWait : Nat := 1
def sideRun : Nat := 2
def sideFault : Nat := 3

def State.sideState (s : State) (k : Nat) : Nat := s.get (F.SIDE_STATE (k / 2) (k % 2))
def State.setSideState (s : State) (k st : Nat) : State := s.put (F.SIDE_STATE (k / 2) (k % 2)) st

/-- A record of classes 0xA0 to 0xA7 of a side (R451). -/
def State.sideRec (s : State) (cls k slot code c : Nat) (lim : Option Nat := none) : State :=
  s.raise cls (sideAddr k) 0 (audioDet (k / 2) (k % 2 = 1) slot code c) lim

/-! ### Configuration (R434 to R437) -/

/-- Slots of a side: two for I²S (R434). -/
def State.sideSlots (s : State) (k : Nat) : Nat :=
  if s.get (F.SIDE_CFG_FORMAT (k / 2) (k % 2)) = 0 then 2 else s.get (F.SIDE_CFG_SLOTS (k / 2) (k % 2)) + 1

def slotBits (w : Nat) : Nat := if w = 0 then 16 else if w = 1 then 24 else 32

/-- The SAMPLE clock in Hz (R20, R435). -/
def State.sampleBase (s : State) : Nat := if s.on F.CLK_SAMPLE_CFG_BASE then 22579200 else 24576000

/-- SAMPLE clocks up to a PIXEL clock. -/
def State.sampleClk (s : State) (pix : Nat) : Nat := pix * s.sampleBase / clkS

/-- SAMPLE clocks in a period of ball AUD_MCLKn, 0 while it is off (R452). -/
def State.mclk (s : State) (n : Nat) : Nat :=
  match s.get F.AUDIO_MCLK_CFG / 4 ^ n % 4 with
  | 0 => 0
  | 1 => 1
  | 2 => 2
  | _ => 4

/-- Side that CLKREF names. -/
def State.clkRef (s : State) (k : Nat) : Nat := let r := s.get (F.SIDE_CFG_CLKREF (k / 2) (k % 2)); 2 * (r % 16) + r / 16

def State.sideOn (s : State) (k : Nat) : Bool := s.on (F.SIDE_CFG_EN (k / 2) (k % 2))
def State.sideRate (s : State) (k : Nat) : Nat := s.get (F.SIDE_RATE_HZ (k / 2) (k % 2))
def State.sideClk (s : State) (k : Nat) : Nat := s.get (F.SIDE_CFG_CLK (k / 2) (k % 2))

/-- BCLK of side `k` in Hz, and D of R435: the SAMPLE clocks in a BCLK period, 0 where that is no whole number. -/
def State.bclkHz (s : State) (k : Nat) : Nat :=
  s.sideRate k * s.sideSlots k * slotBits (s.get (F.SIDE_CFG_WIDTH (k / 2) (k % 2)))
def State.bclkDiv (s : State) (k : Nat) : Nat := if s.sampleBase % max 1 (s.bclkHz k) = 0 then s.sampleBase / max 1 (s.bclkHz k) else 0

/-- The code of the first check of R436 that fails, 0 for none. A reserved WIDTH gives no slot width, so that checks 1 and
2 judge it by the rate alone. -/
def State.sideCode (s : State) (k : Nat) : Nat :=
  let rate := s.sideRate k
  let clk := s.sideClk k
  let w := s.get (F.SIDE_CFG_WIDTH (k / 2) (k % 2))
  let r := s.clkRef k
  if rate < 8000 || 192000 < rate || (clk = 0 && w != 3 && (s.bclkDiv k < 1 || 4096 < s.bclkDiv k)) then 1
  else if w != 3 && 25000000 < s.bclkHz k then 2
  else if clk = 3 || (clk = 2 && (r = k || !s.sideOn r || s.sideClk r = 2 || s.sideRate r != rate)) then 3
  else if s.on (F.SIDE_CFG_START (k / 2) (k % 2)) && clk != 0 then 4
  else if w = 3 then 5
  else 0

def State.audioFenced (s : State) (p : Nat) : Bool := s.bit F.SYS_FENCE_AUDIO p

/-- Audio TX contexts that take their samples from receive side `k` (R448). -/
def State.txOf (s : State) (k : Nat) : List Nat :=
  s.openCtxs.filter (fun c => s.kind c = 5 && s.get (F.CTXV_TXKIND c) = 1 && 2 * s.get (F.CTXT_PORT c) + 1 = k)

/-- The source side of audio TX contexts has left RUN: their timestamps start afresh (R449). -/
def State.txRestart (s : State) (k : Nat) : State :=
  (s.txOf k).foldl (fun s c => s.setCtx c { s.ctx c with txAt := none }) s

/-- A side begins to run, from its first frame on, or to wait for its trigger (R437). -/
def State.sideStart (s : State) (k : Nat) : State :=
  let s := (s.setSide k { s.side k with count := 0, readers := [], frames := [], edgeAt := s.time.pix }).txRestart k
  s.setSideState k (if s.on (F.SIDE_CFG_START (k / 2) (k % 2)) then sideWait else sideRun)

/-- A side stops. -/
def State.sideStop (s : State) (k : Nat) : State :=
  let s := (s.txRestart k).setSide k {}
  ((s.putB (F.SIDE_CFG_EN (k / 2) (k % 2)) false).setSideState k sideOff).put (F.SIDE_MASK_LIVE (k / 2) (k % 2)) 0

/-- A write of CFG of side `k` (R436). -/
def State.wrSideCfg (s : State) (k : Nat) (v : Word) : State :=
  let f := F.SIDE_CFG_EN (k / 2) (k % 2)
  if s.sideOn k then (if bitAt v.toNat 0 then s else s.sideStop k)
  else
    let s := s.writeBits f.key (s.rwBits f.key - 1) v
    if !bitAt v.toNat 0 then s
    else
      let c := s.sideCode k
      if c != 0 then s.sideRec 0xA0 k 0 c 0xFFF
      else
        let s := s.putB f true
        if s.audioFenced (k / 2) then s else s.sideStart k

def sideKey (p : Fin 16) (rx : Bool) : Nat := 2 * p.val + if rx then 1 else 0

def execAudioSideEnable (i : Initiator) (p : Fin 16) (rx : Bool) (v : Word) (s : State) : Host.Outcome State Fault Refusal :=
  let k := sideKey p rx
  .next (s.asWrite i (F.SIDE_CFG_EN (k / 2) (k % 2)).key v (fun s => s.wrSideCfg k v))

/-- MASK and the routes of side `k` as the shadow holds them; only a transmit side has routes. -/
def State.shadow (s : State) (k : Nat) : Word × List Word :=
  (s.reg (F.SIDE_MASK (k / 2) (k % 2)).key, if k % 2 = 1 then [] else (List.range 16).map (fun j => s.reg (F.SIDE_ROUTE_KIND (k / 2) j).key))

/-- The shadow of side `k` is about to be written: what it holds stays good for a frame start in the same SAMPLE clock (R440). -/
def State.noteShadow (s : State) (k : Nat) : State :=
  let x := s.side k
  if x.wrAt.any (fun a => s.sampleClk a = s.sampleClk s.time.pix) then s
  else s.setSide k { x with wrAt := some s.time.pix, was := s.shadow k }

/-- A write of MASK of side `k`: the shadow (R440). -/
def State.wrMask (s : State) (k : Nat) (v : Word) : State := (s.noteShadow k).writeBits (F.SIDE_MASK (k / 2) (k % 2)).key 0x1FFFF v

def execMaskWrite (i : Initiator) (p : Fin 16) (rx : Bool) (v : Word) (s : State) : Host.Outcome State Fault Refusal :=
  let k := sideKey p rx
  .next (s.asWrite i (F.SIDE_MASK (k / 2) (k % 2)).key v (fun s => s.wrMask k v))

/-- A write of word `j` of the registers of port `p`: 0 to 15 transmit side, 16 to 31 receive side, 32 to 47 routes (R436,
R453). -/
def State.wrAudio (s : State) (p j : Nat) (v : Word) : State :=
  let key := (F.SIDE_CFG_EN p 0).key + 4 * j
  if j = 0 then s.wrSideCfg (2 * p) v
  else if j = 16 then s.wrSideCfg (2 * p + 1) v
  else if j = 1 && s.sideOn (2 * p) then s
  else if j = 17 && s.sideOn (2 * p + 1) then s
  else if j = 2 then s.wrMask (2 * p) v
  else if j = 18 then s.wrMask (2 * p + 1) v
  else (if 32 ≤ j && j < 48 then s.noteShadow (2 * p) else s).writeBits key (s.rwBits key) v

/-- A trigger aimed at port `p`: the status of R205 (R437). -/
def State.audioTrig (s : State) (p : Nat) : Nat × State :=
  if s.nAudio ≤ p then (3, s)
  else
    let ks := [2 * p, 2 * p + 1].filter (fun k => s.sideState k = sideWait)
    if ks.isEmpty then (4, s) else (0, ks.foldl (fun s k => s.setSideState k sideRun) s)

/-! ### Readers (R442 to R444, R447) -/

/-- What a reader reaches: a playout buffer, a path buffer, or a receive side directly. -/
inductive Source where
  | stream (c : Nat)
  | path (q : Nat)
  | direct (q : Nat)
deriving DecidableEq, Repr

def Source.key : Source → Nat
  | .stream c => c
  | .path q => 4096 + q
  | .direct q => 4096 + q

/-- A receive side runs on the clock of a transmit side, through CLK PORT in either direction. -/
def State.sameClock (s : State) (tx rx : Nat) : Bool :=
  (s.sideClk tx = 2 && s.clkRef tx = rx) || (s.sideClk rx = 2 && s.clkRef rx = tx)

def routeKind (r : Word) : Nat := bits r.toNat 0 2
def routeCtx (r : Word) : Nat := bits r.toNat 2 12
def routePort (r : Word) : Nat := bits r.toNat 14 4
def routeChan (r : Word) : Nat := bits r.toNat 18 4

/-- Why a route of transmit side `k` is invalid, 0 for none (R441). -/
def State.routeCode (s : State) (k : Nat) (r : Word) : Nat :=
  let c := routeCtx r
  let q := 2 * routePort r + 1
  if routeKind r = 1 then
    if s.kind c != 3 || s.ctxState c != ctxRunning then 1
    else if s.get (F.CTXR_CHANNELS c) ≤ routeChan r then 2
    else if s.get (F.CTXR_RATE_HZ c) != s.sideRate k then 3
    else 0
  else if routeKind r = 2 then
    if !s.sideOn q then 4 else if s.sideRate q != s.sideRate k then 3 else 0
  else 0

/-- The source of a valid route. -/
def State.routeSource (s : State) (k : Nat) (r : Word) : Option Source :=
  if s.routeCode k r != 0 then none
  else if routeKind r = 1 then some (.stream (routeCtx r))
  else if routeKind r = 2 then
    let q := 2 * routePort r + 1
    some (if s.sameClock k q then .direct q else .path q)
  else none

/-- Target T, margin M, frames in the buffer, and the end of it, for a buffered source. -/
def State.sourceFill (s : State) (x : Source) : Nat × Nat × Nat × Nat :=
  match x with
  | .stream c =>
    let t := s.playTarget c
    let y := s.ctx c
    (t, max 1 (t / 4), min (s.get (F.CTXR_CAP_FRAMES c)) (y.playEnd - y.playStart), y.playEnd)
  | .path q => (8, 2, min 16 (s.side q).count, (s.side q).count)
  | .direct _ => (0, 1, 0, 0)

/-- Frame `n` of a source as the reader sends it now, after the age bound: samples, and the code of R447. -/
def State.sourceFrame (s : State) (x : Source) (n : Nat) : List Nat × Nat × State :=
  match x with
  | .stream c =>
    let ch := s.get (F.CTXR_CHANNELS c)
    let y := s.ctx c
    let bound := s.get (F.CTXR_MAX_AGE_MS c) * 1000000
    let code :=
      if bound = 0 then 0
      else if !s.on (F.CTX_STATUS_ANCHOR_OK c) then 2
      else match y.playCap.find? (fun p => p.1 ≤ n && n < p.1 + p.2.1) with
        | some (p, _, t) =>
          let t := t.getD (s.predict c (p % 2 ^ 32)) + (n - p) * 1000000000 / max 1 (s.get (F.CTXR_RATE_HZ c))
          if (bound : Int) < sint 64 (s.time64 + 2 ^ 64 - t) then 1 else 0
        | none => 0
    match s.unitRead audioSrc (s.frameAddr c n) (4 * ch) with
    | (some b, s) => (if code = 0 then (List.range ch).map (fun i => leNat (slice b (4 * i) 3)) else List.replicate ch 0, code, s)
    | (none, s) => (List.replicate ch 0, code, s)
  | .path q => let z := s.side q; ((nth (0, []) z.frames (z.count - 1 - n)).2, 0, s)
  | .direct q =>
    let z := s.side q
    ((nth (0, []) z.frames (if z.count != 0 && s.time.pix ≤ z.last + 2 then 2 else 1)).2, 0, s)

/-- A slip, underrun or overrun of side `k`'s reader of a source: counted on the transmit side, and on the feeding receive
side of a path buffer (R444). -/
def State.slip (s : State) (k : Nat) (x : Source) (f : Nat → Nat → Fld) (cls code : Nat) : State :=
  let s := s.bump (f (k / 2) 0)
  let s := match x with
    | .path q => s.bump (f (q / 2) 1)
    | _ => s
  let c := match x with
    | .stream c => c
    | _ => 0xFFF
  s.sideRec cls k 0 code c (some (k * 8192 + x.key))

def State.putReader (s : State) (k : Nat) (x : Source) (r : Reader) : State :=
  let y := s.side k
  s.setSide k { y with readers := tabSet y.readers x.key r }

/-- The reader sends frame `r.pos` (R447). -/
def State.sendFrame (s : State) (k : Nat) (x : Source) (r : Reader) : List Nat × State :=
  let (f, code, s) := s.sourceFrame x r.pos
  let s := match x with
    | .stream c => if code != 0 && code != r.stale then s.raise 0xA6 (ctxAddr c) 0 (audioDet (k / 2) false 0 code c) else s
    | _ => s
  (f, s.putReader k x { r with pos := r.pos + 1, since := r.since + 1, stale := code })

/-- AUDIO_READ: what side `k`'s reader of a source sends in this frame (R442, R443). A repeated frame is sent again, under the
age bound of that moment. -/
def State.readSource (s : State) (k : Nat) (x : Source) : List Nat × State :=
  match x with
  | .direct _ => let (f, _, s) := s.sourceFrame x 0; (f, s)
  | _ =>
    let (t, m, have_, end_) := s.sourceFill x
    let r := match tabGet? (s.side k).readers x.key with
      | some r => r
      | none => { pos := end_ - min have_ t }
    let fill := end_ - r.pos
    if r.wait && fill < t then ([], s.putReader k x { r with since := r.since + 1 })
    else
      let r := { r with wait := false }
      if fill = 0 then
        let s := (s.putReader k x { r with wait := true, since := r.since + 1 }).slip k x F.SIDE_UNDERRUN 0xA3 0
        match x with
        | .stream c => ([], s.bump (F.CTXR_UNDERRUN c))
        | _ => ([], s)
      else if t + m < fill && 64 ≤ r.since then
        let (f, s) := s.sendFrame k x { r with pos := r.pos + 1, since := 0 }
        (f, s.slip k x F.SIDE_SLIP_DROP 0xA2 1)
      else if fill < t - m && 64 ≤ r.since then
        let (f, s) := s.sendFrame k x { r with pos := r.pos - 1, since := 0 }
        (f, s.slip k x F.SIDE_SLIP_REPEAT 0xA2 2)
      else s.sendFrame k x r

/-- Sources that a transmit side reads in a frame, once each, with what each gives. -/
def State.readAll (s : State) (k : Nat) : List Source → List (Source × List Nat) × State
  | [] => ([], s)
  | x :: r =>
    let (f, s) := s.readSource k x
    let (fs, s) := s.readAll k r
    ((x, f) :: fs, s)

/-! ### Frame starts (R437 to R441, R449, R450) -/

/-- The shadow comes into use, without the writes of this SAMPLE clock (R440). -/
def State.takeShadow (s : State) (k : Nat) : State :=
  let p := k / 2
  let r := k % 2
  let x := s.side k
  let (mask, routes) := if x.wrAt.any (fun a => s.sampleClk a = s.sampleClk s.time.pix) then x.was else s.shadow k
  if (F.SIDE_MASK_HOLD p r).of mask != 0 then s
  else (s.put (F.SIDE_MASK_LIVE p r) ((F.SIDE_MASK p r).of mask)).setSide k { x with live := routes }

/-- A slot word as it goes out: the sample left-justified in the slot (R434). -/
def State.slotWord (s : State) (k v : Nat) : Nat :=
  match s.get (F.SIDE_CFG_WIDTH (k / 2) (k % 2)) with
  | 0 => v / 256
  | 1 => v
  | _ => v * 256

/-- A side drives or delivers zeros: SAMPLE is lost, the side is in CLOCK_FAULT, or an orderly stop is under way (R438,
R508). -/
def State.sideMuted (s : State) (k : Nat) : Bool := s.on F.SYS_DEGRADED_SAMPLE || s.sideState k = sideFault || !s.running

/-- The side whose clocks side `k` runs on (R435). -/
def State.clockSide (s : State) (k : Nat) : Nat := if s.sideClk k = 2 then s.clkRef k else k

/-- FS of a frame of side `k`, by BCLK period (R434). -/
def State.fsLevels (s : State) (k : Nat) : List Bool :=
  let n := s.sideSlots k * slotBits (s.get (F.SIDE_CFG_WIDTH (k / 2) (k % 2)))
  (List.range n).map (fun i =>
    (if s.get (F.SIDE_CFG_FORMAT (k / 2) (k % 2)) = 0 then decide (n / 2 ≤ i) else i = 0) != s.on (F.SIDE_CFG_FS_INV (k / 2) (k % 2)))

/-- The bits of a frame's slots, the most significant of each first (R434). -/
def State.slotBitsOf (s : State) (k : Nat) (slots : List (Option Nat)) : List (Option Bool) :=
  let w := slotBits (s.get (F.SIDE_CFG_WIDTH (k / 2) (k % 2)))
  slots.flatMap (fun o => (List.range w).map (fun i => o.map (fun v => bitAt v (w - 1 - i))))

/-- The levels on the balls of side `k` in a frame with these slots, after one with the slots `old`: a BCLK of data delay in
I²S, and in TDM with DELAY; data changes as BCLK falls, or rises with BCLK_FALL (R434). BCLK and FS of a PORT side are copies
of those of the side that it names (R435). Mark: DESIGN CHOICE, log entry 147: where the frames of the two differ in length,
D is cut, or 0 beyond its last slot. -/
def State.frameWave (s : State) (k : Nat) (old slots : List (Option Nat)) : List Balls :=
  let c := s.clockSide k
  let fall := fun j => s.on (F.SIDE_CFG_BCLK_FALL (j / 2) (j % 2))
  let held := ((s.slotBitsOf k old).getLast?).getD (some false)
  let bs := s.slotBitsOf k slots
  let bs := if s.get (F.SIDE_CFG_FORMAT (k / 2) (k % 2)) = 0 || s.on (F.SIDE_CFG_DELAY (k / 2) (k % 2)) then held :: bs.dropLast else bs
  let ds := bs.flatMap (fun d => [d, d])
  let ds := if fall k = fall c then ds else ((ds.head?).getD held) :: ds.dropLast
  ((s.fsLevels c).flatMap (fun f => [(fall c, f), (!fall c, f)])).zipIdx.map (fun e => ⟨e.1.1, e.1.2, ds.getD e.2 (some false)⟩)

/-- A frame of transmit side `k`. Every route that is invalid is logged, whether its slot is active or not (R441). -/
def State.txFrame (s : State) (k : Nat) : State :=
  let p := k / 2
  let n := s.sideSlots k
  let mask := s.get (F.SIDE_MASK_LIVE p 0)
  let tri := s.on (F.SIDE_CFG_TRI p 0)
  let idle : Option Nat := if tri then none else some 0
  let live := (s.side k).live
  let active := (List.range n).filter (fun j => bitAt mask j)
  let s := (List.range 16).foldl (fun s j =>
    let r := nth 0 live j
    let code := s.routeCode k r
    if code = 0 then s else s.sideRec 0xA7 k j code (if routeKind r = 1 then routeCtx r else 0xFFF) (some p)) s
  let srcs := (active.filterMap (fun j => s.routeSource k (nth 0 live j))).eraseDups
  let x := s.side k
  let s := s.setSide k { x with readers := x.readers.filter (fun e => srcs.any (fun y => y.key = e.1)) }
  let (got, s) := s.readAll k srcs
  let muted := s.sideMuted k
  let slot := fun j =>
    if !bitAt mask j then idle
    else if muted then some 0
    else match s.routeSource k (nth 0 live j) with
      | some y => some (s.slotWord k (nth 0 (((got.find? (fun e => e.1 = y)).map (fun e => e.2)).getD []) (routeChan (nth 0 live j))))
      | none => some 0
  let pins := (List.range n).map slot
  s.setSide k { s.side k with pins := pins, wave := s.frameWave k (s.side k).pins pins }

/-- A path buffer of receive side `q` that is full loses its oldest frames until F equals T (R442, R444). -/
def State.pathOverrun (s : State) (q : Nat) (e : Nat × Side) : State :=
  match tabGet? e.2.readers (4096 + q) with
  | none => s
  | some r =>
    if s.sameClock e.1 q || (s.side q).count ≤ r.pos + 16 then s
    else (s.putReader e.1 (.path q) { r with pos := (s.side q).count - 8 }).slip e.1 (.path q) F.SIDE_OVERRUN 0xA4 0

/-- A frame of receive side `k`, with the samples of its slots. -/
def State.rxFrame (s : State) (k : Nat) (f : List Nat) : State :=
  let p := k / 2
  let n := s.sideSlots k
  let w16 := s.get (F.SIDE_CFG_WIDTH p 1) = 0
  let f := (List.range n).map (fun j => if s.sideMuted k then 0 else let v := nth 0 f j % 2 ^ 24; if w16 then v / 256 * 256 else v)
  let x := s.side k
  let (f, mute, entry) := muteFrame x.mute f
  let s := entry.foldl (fun s j => s.sideRec 0xA5 k 0 j 0xFFF) s
  let mask := s.get (F.SIDE_MASK_LIVE p 1)
  let f := f.zipIdx.map (fun e => if bitAt mask e.2 then e.1 else 0)
  let s := s.setSide k { x with mute := mute, frames := ((s.time64, f) :: x.frames).take 1024 }
  let s := if s.sideState k != sideRun then s else (s.txOf k).foldl (fun s c =>
    let y := s.ctx c
    if y.txAt.isSome then s
    else s.setCtx c { y with txAt := some (x.count, (s.time64 * s.sideRate k / 1000000000 + s.get (F.CTXT_TS_OFS c)) % 2 ^ 32) }) s
  let off := List.replicate n none
  let s := s.setSide k { s.side k with count := x.count + 1, wave := s.frameWave k off off }
  s.sides.foldl (fun s e => if e.1 % 2 = 0 then s.pathOverrun k e else s) s

/-- SAMPLE is lost, and side `k`, whose clocks the part makes itself, holds BCLK and FS low (R435, R438). -/
def State.sideHeld (s : State) (k : Nat) : Bool :=
  s.on F.SYS_DEGRADED_SAMPLE && s.sideClk (s.clockSide k) = 0

/-- A frame of side `k` can start now: on an INTERNAL clock D × slots × slot width SAMPLE clocks after the one before it; on the
clocks of another side with that side's own frame, no more than 2 ns behind (R435). -/
def State.frameDue (s : State) (k : Nat) : Bool :=
  let x := s.side k
  if s.sideClk k = 0 then
    x.count = 0 || s.bclkDiv k * s.sideSlots k * slotBits (s.get (F.SIDE_CFG_WIDTH (k / 2) (k % 2))) * clkS < (s.time.pix + 1 - x.last) * s.sampleBase
  else if s.sideClk k = 2 then
    let r := s.clkRef k
    let z := s.side r
    s.sideOn r && z.count != 0 && s.time.pix ≤ z.last + 2 && (x.count = 0 || x.last < z.last)
  else true

/-- AUDIO_FRAME_START of side `k` (R435, R437, R440). -/
def State.audioFrame (s : State) (k : Nat) (f : List Nat) : State :=
  let st := s.sideState k
  if (st != sideRun && st != sideFault) || s.sideHeld k || !s.frameDue k then s else
  let s := s.takeShadow k
  let s := if k % 2 = 1 then s.rxFrame k f else (let s := s.txFrame k; s.setSide k { s.side k with count := (s.side k).count + 1 })
  let x := s.side k
  (s.setSide k { x with last := s.time.pix, edgeAt := s.time.pix }).bump (F.SIDE_FRAMES (k / 2) (k % 2))

def execAudioFrameStart (t : Nat) (p : Fin 16) (rx : Bool) (samples : List (BitVec 24)) (s : State) : Host.Outcome State Fault Refusal :=
  .next ((s.advance t).audioFrame (sideKey p rx) (samples.map (fun b => b.toNat)))

/-! ### Clock faults (R438) -/

/-- What a side drives becomes zero: its slots, and the rest of its frame on the ball. -/
def Side.zeros (x : Side) : Side :=
  { x with pins := x.pins.map (fun q => q.map (fun _ => 0)), wave := x.wave.map (fun b => { b with d := b.d.map (fun _ => false) }) }

/-- A side enters CLOCK_FAULT. -/
def State.clockFault (s : State) (k code : Nat) : State :=
  if s.sideClk k != 1 || s.sideState k != sideRun then s else
  let s := ((s.setSideState k sideFault).txRestart k).sideRec 0xA1 k 0 code 0xFFF
  s.setSide k { (s.side k).zeros with faultAt := s.time.pix }

/-- AUDIO_CLOCK_ABSENT: no FS edge for two nominal frame periods. -/
def State.clockAbsent (s : State) (k : Nat) : State :=
  if (s.side k).edgeAt + divUp (2 * clkS) (max 1 (s.sideRate k)) ≤ s.time.pix then s.clockFault k 1 else s

def execAudioClockAbsent (t : Nat) (p : Fin 16) (rx : Bool) (s : State) : Host.Outcome State Fault Refusal :=
  .next ((s.advance t).clockAbsent (sideKey p rx))

/-- AUDIO_RATE_GATE: a 100 ms gate of an EXTERNAL side has ended. -/
def State.rateGate (s : State) (k hz : Nat) : State :=
  if s.sideClk k != 1 || !s.sideOn k then s else
  let s := s.put (F.SIDE_MEAS_HZ (k / 2) (k % 2)) (min (2 ^ 18 - 1) hz)
  let r := s.sideRate k
  if 1000 * r < (max hz r - min hz r) * 1000000 then s.clockFault k 2 else s

def execAudioRateGate (t : Nat) (p : Fin 16) (rx : Bool) (hz : Nat) (s : State) : Host.Outcome State Fault Refusal :=
  .next ((s.advance t).rateGate (sideKey p rx) hz)

/-- AUDIO_CLOCK_RESTORED: the clock has been valid for 100 ms. -/
def State.clockRestored (s : State) (k : Nat) : State :=
  if s.sideState k = sideFault && (s.side k).faultAt + 100 * clkMs ≤ s.time.pix then (s.setSideState k sideRun).sideRec 0xA1 k 0 3 0xFFF else s

def execAudioClockRestored (t : Nat) (p : Fin 16) (rx : Bool) (s : State) : Host.Outcome State Fault Refusal :=
  .next ((s.advance t).clockRestored (sideKey p rx))

/-- SAMPLE is lost: every side drives zeros, and a side on a clock that the part makes holds BCLK and FS low (R438). -/
def State.audioSampleLost (s : State) : State :=
  s.sides.foldl (fun s e =>
    let x := (s.side e.1).zeros
    s.setSide e.1 (if s.sideClk (s.clockSide e.1) = 0 then { x with wave := x.wave.map (fun b => { b with bclk := false, fs := false }) } else x)) s

/-- SAMPLE returns: IMMEDIATE sides start a new frame, TRIG sides wait for their trigger again; a side in CLOCK_FAULT stays there
until its clock is restored. -/
def State.audioSampleBack (s : State) : State :=
  (List.range 32).foldl (fun s k => if s.sideOn k && (s.sideState k = sideRun || s.sideState k = sideWait) then s.sideStart k else s) s

/-! ### Packets of audio TX contexts (R448, R449) -/

/-- Samples of a frame in network order. -/
def netSamples (l24 : Bool) (f : List Nat) : List Byte :=
  (f.map (fun v => if l24 then beBytes v 3 else beBytes (v / 256) 2)).flatten

/-- The frames of a packet of audio TX context `c` after the muting of R450, with a record for each entry. -/
def State.muteFrames (c k : Nat) : List (List Nat) → State → List (List Nat) × State
  | [], s => ([], s)
  | f :: fs, s =>
    let x := s.ctx c
    let (out, mute, entry) := muteFrame x.mute f
    let s := s.setCtx c { x with mute := mute }
    let s := entry.foldl (fun s j => s.raise 0xA5 (ctxAddr c) 0 (audioDet (k / 2) true 0 j c)) s
    let (r, s) := State.muteFrames c k fs s
    (out :: r, s)

/-- AUDIO_PACKET_TX of context `c`: its packet, once its last frame is complete. The marker bit, which the manual does not
state for audio, is a free value (log entry 2). -/
def State.audioTx (s : State) (c : Nat) : State :=
  let k := 2 * s.get (F.CTXT_PORT c) + 1
  let n := s.get (F.CTXT_FRAMES c)
  let x := s.side k
  if s.ctxState c != ctxRunning || !(s.txOf k).contains c || s.sideState k != sideRun then s else
  match (s.ctx c).txAt with
  | none => s
  | some (i, ts) =>
    if x.count < i + n then s else
    let fs := ((x.frames.drop (x.count - i - n)).take n).reverse
    let l24 := s.get (F.CTXT_FORMAT c) = 1
    let own := fs.map (fun f => (List.range (s.get (F.CTXT_CHANNELS c))).map (fun j => nth 0 f.2 (s.get (F.CTXT_FIRST_SLOT c) + j)))
    let (own, s) := State.muteFrames c k own s
    let pay := (own.map (netSamples l24)).flatten
    let (m, s) := s.freeVal 1
    let s := s.setCtx c { s.ctx c with txAt := some (i + n, (ts + n) % 2 ^ 32) }
    s.sendRtp audioSrc c ts (m = 1) ((fs.head?.map (fun f => f.1)).getD 0) pay

def execAudioPacketTx (t : Nat) (c : Fin 4096) (s : State) : Host.Outcome State Fault Refusal := .next ((s.advance t).audioTx c.val)

end Sys2Proof.Machine
end

