-- ==== Sys2Proof/Machine/Power.lean ====
section
/-! DEFINITION. Power, heat and ageing (R489 to R522), reset and loss of the rails (R493, R508, R525, R527). Temperatures
are in 0.125 °C. -/
namespace Sys2Proof.Machine

/-! ### HOLDUP (R490, R494, R495, R499, R503) -/

/-- Whole part of the square root of a number below 2^40. -/
def isqrt (n : Nat) : Nat := (List.range 20).foldr (fun i r => if (r + 2 ^ i) * (r + 2 ^ i) ≤ n then r + 2 ^ i else r) 0

/-- Energy above 14 V, in 1/12 nJ, of a capacitance in µF at a voltage in mV (R503). -/
def energyAt (c mv : Nat) : Nat := c * (mv * mv - 196000000) * 3 / 500

/-- What flows into HOLDUP, in 0.1 W: the whole load flows out while VIB is fed from HOLDUP alone, the part beyond 20 A of VIN
while the input current is limited, and otherwise the charger feeds it (R490, R499, R504). -/
def State.huFlow (s : State) : Int :=
  if s.mode = modeOff || s.mode = modeInrush then 0
  else if s.on F.PWR_STATUS_ON_HOLDUP then - (s.get F.PWR_PIN : Int)
  else if s.on F.PWR_STATUS_IIN_LIMIT then - ((s.get F.PWR_PIN - s.get F.PWR_VIN_MV / 5 : Nat) : Int)
  else if s.power.held then 0
  else s.power.chg

/-- E of R503 now, in 1/12 nJ: the charger holds HOLDUP at 57 V (R494). Mark: DEDUCED, log entry 128: E follows PIN and the
charger as last measured. -/
def State.holdupE (s : State) : Nat :=
  let e : Int := s.power.huE + s.huFlow * (s.time.pix - s.power.huAt : Nat)
  min e.toNat (max s.power.huE (energyAt (s.get F.PWR_HU_CAP) 57000))

/-- V_HU in mV: what E says, or what was measured last where no capacitance is known (R503). -/
def State.holdupMv (s : State) : Nat :=
  let c := s.get F.PWR_HU_CAP
  if c = 0 then s.power.huMv else isqrt (196000000 + 500 * s.holdupE / (3 * c))

/-- E is counted up to now, before what flows changes. -/
def State.countHoldup (s : State) : State := { s with power := { s.power with huE := s.holdupE, huAt := s.time.pix } }

/-- HOLDUP is measured. -/
def State.setHoldup (s : State) (mv : Nat) : State :=
  { s with power := { s.power with huE := energyAt (s.get F.PWR_HU_CAP) mv, huAt := s.time.pix, huMv := mv } }

/-- The charger's draw in 0.1 W beside a load: min(CHG_W, max(5 W, CAP_EFF − load)), none once HOLDUP stands at 57 V or while VIB
is fed from it (R494, R499). -/
def State.chargerDraw (s : State) (load : Nat) : Nat :=
  if s.on F.PWR_STATUS_ON_HOLDUP || energyAt (s.get F.PWR_HU_CAP) 57000 ≤ s.holdupE then 0
  else min (10 * clamp 5 40 (s.get F.PWR_CHG_CFG_CHG_W)) (max 50 (10 * s.get F.PWR_CAP_EFF - load))

/-- The charger goes on beside a load. -/
def State.recharge (s : State) (load : Nat) : State := { s.countHoldup with power := { s.countHoldup.power with chg := s.chargerDraw load } }

/-! ### Records (R520) -/

def State.pwrRec (s : State) (cls rail code : Nat) (lim : Option Nat := none) (a2 : Nat := 0) : State :=
  s.raise cls (keyAddr F.PWR_STATUS_ON_HOLDUP.key) a2
    (rail + 0x100 * code + 0x10000 * (s.get F.PWR_VIN_MV / 100) + 2 ^ 32 * (s.holdupMv / 100)) lim

def State.heatRec (s : State) (cls sensor code : Nat) (lim : Option Nat := none) : State :=
  s.raise cls (keyAddr F.HLTH_TEMP_T.key) 0 (sensor + 0x100 * code + 0x10000 * s.get F.HLTH_TEMP_T) lim

/-! ### Loss of the rails, reset (R508, R525, R527) -/

/-- Registers that outlive the rails other than VAON: PWR, HLTH and CLK, the mode and the retained boot state. -/
def keepsVaon (key : Nat) : Bool :=
  let b := key / 0x100000
  b = 1 || b = 2 || b = 3 || key = F.SYS_MODE_MODE.key || key = F.SYS_MODE_CHANGES.key || key = F.SYS_BOOT_STATE_LAST_SLOT.key

/-- Every unit but PWR, HLTH, CLK and the VAON logic in its reset state. -/
def State.wipe (s : State) : State :=
  { State.reset with
    pending := s.pending, regs := s.regs.filter (fun e => keepsVaon e.1), time := { pix := s.time.pix, rasterAt := s.time.pix },
    fuses := { s.fuses with repairRead := false, mainRead := false },
    flash := s.flash, power := s.power, sensors := s.sensors, ledger := s.ledger, free := s.free }

/-- LEDGER_BASE; bits [16:0] read as zero (R522). -/
def State.ledgerBase (s : State) : Nat := s.get F.HLTH_LEDGER_BASE / 0x20000 * 0x20000

/-- Slot `j` of the flash area is erased (R518). -/
def State.slotErased (s : State) (j : Nat) : Bool :=
  let a := s.ledgerBase + 512 * j
  !s.flash.any (fun c => a ≤ c.1 && c.1 < a + 512)

/-- The next erased slot, from the one after the last record on; that one itself where none is erased (R518). -/
def State.ledgerNext (s : State) : Nat :=
  (((List.range 256).map (fun i => (s.ledger.slot + i) % 256)).find? s.slotErased).getD (s.ledger.slot % 256)

/-- A ledger record that the loss of the rails interrupts: its slot is used and holds no valid record (R518, R558).
Mark: DESIGN CHOICE, log entry 111. -/
def State.ledgerCut (s : State) : State :=
  if s.ledger.busy.isNone then s
  else { s with ledger := { s.ledger with busy := none, slot := (s.ledgerNext + 1) % 256 } }.put F.HLTH_LEDGER_CTRL_STATUS 0

/-- Every rail except VAON is removed: SYS.MODE becomes OFF (R492, R498, R506, R508). -/
def State.railsOff (s : State) : State :=
  let s := (s.countHoldup.wipe.setMode modeOff).ledgerCut
  let s := (((s.put F.CLK_STATUS_LOCK 0).put F.PWR_RAIL_OK 0x800).put F.PWR_STATUS_START_STEP 0).put F.PWR_STATUS_SHED_LEVEL 0
  let s := ((s.putB F.PWR_STATUS_ON_HOLDUP false).putB F.PWR_STATUS_RT_AVAIL false).putB F.PWR_STATUS_IIN_LIMIT false
  { s.putB F.HLTH_STATUS_LOW_HALT false with
           power := { s.power with held := false, inputOpen := false, shedSince := none, calmSince := none, huOk := false, chg := 0,
                                   unmetSince := none, unmet := false, lowSince := none, domLost := 0, domOff := 0 } }

/-- A stop or shutdown with its cause (R507, R510). -/
def State.shutdown (s : State) (cause : Nat) : State :=
  let s := (s.railsOff).put F.PWR_STATUS_STOP_CAUSE cause
  { s with power := { s.power with holdOff := !(cause = 2 || cause = 3), offAt := some s.time.pix } }

/-! ### Caps and shed levels (R499 to R502) -/

def State.capSet (s : State) : Nat := clamp 40 150 (s.get F.PWR_CAP_SET)

/-- CAP_EFF in watts (R499). -/
def State.capEff (s : State) : Nat :=
  let c := s.capSet
  let c := if s.on F.PWR_STATUS_THERM_CAP then min c (s.get F.HLTH_THERM_CAP) else c
  if s.mode = modeRide then min c (clamp 30 100 (s.get F.PWR_RT_CFG_RT_BUDGET)) else c

def State.updCap (s : State) : State := s.put F.PWR_CAP_EFF s.capEff

/-- A shed level that SHED_CFG does not skip (R500, R521). -/
def State.levelOk (s : State) (l : Nat) : Bool :=
  if l ≤ 1 then true
  else if l ≤ 8 then clamp 1 8 (s.get F.PWR_SHED_CFG_DEC_MIN) ≤ 9 - l
  else l ≤ 11 && max 1 (s.get F.PWR_SHED_CFG_CORE_MIN) ≤ 12 - l

/-- The next reachable level above and below, if any. -/
def State.levelUp (s : State) (l : Nat) : Option Nat := (List.range 12).find? (fun m => l < m && s.levelOk m)
def State.levelDown (s : State) (l : Nat) : Nat := (((List.range 12).reverse).find? (fun m => m < l && s.levelOk m)).getD 0

/-- The conditions of DERATED are followed in time (R502). -/
def State.markDerate (s : State) : State :=
  let shed := s.get F.PWR_STATUS_SHED_LEVEL != 0
  let p := s.power
  { s with power := { p with
    shedSince := if shed then some (p.shedSince.getD s.time.pix) else none
    calmSince := if shed || s.on F.PWR_STATUS_THERM_CAP then none else some (p.calmSince.getD s.time.pix) } }

/-- SHED_LEVEL changes, and the decode share with it (R500). -/
def State.setShed (s : State) (l : Nat) : State := (s.countPipes.put F.PWR_STATUS_SHED_LEVEL l).markDerate

/-- LIVE and LIVE_DEGRADED pass to DERATED, and back, under R502. -/
def State.derate (s : State) : State :=
  let m := s.mode
  if (m = modeLive || m = modeDegraded) && s.derateDue then (s.enterMode modeDerated).updCap
  else if m = modeDerated && s.longSince s.power.calmSince then (s.updDegraded.setMode s.updDegraded.serviceMode).updCap
  else s

def execDeratedTimer (t : Nat) (s : State) : Host.Outcome State Fault Refusal := .next (s.advance t).markDerate.derate

/-! ### Orderly stop (R507 to R509) -/

/-- Modes from SELF_TEST to SERVICE, in which a cause of R507 makes an orderly stop. -/
def State.canStop (s : State) : Bool := 3 ≤ s.mode && s.mode ≤ 11 && s.mode != modeStop

/-- Entry to ORDERLY_STOP (R507 to R509). -/
def State.orderlyStop (s : State) (cause : Nat) : State :=
  if !s.canStop then s else
  let s := (s.enterMode modeStop).put F.PWR_STATUS_STOP_CAUSE cause
  let s := if cause = 7 && bits s.power.domLost 1 2 != 0 then
      { s with power := { s.power with clockLatch := some s.power.domLost } }
    else s.pwrRec 0x8A 0 cause
  s.haltEngines.updCap

/-! ### The life ledger (R515 to R519) -/

/-- Band of a temperature (R515). -/
def tempBand (t : Int) : Nat :=
  if t < 25 * 8 then 0 else if t < 45 * 8 then 1 else if t < 65 * 8 then 2 else if t < 75 * 8 then 3
  else if t < 85 * 8 then 4 else if t < 95 * 8 then 5 else if t < 105 * 8 then 6 else 7

/-- Factor of a band, in 1/1000 (R515). -/
def bandFactor : Nat → Nat
  | 0 => 10
  | 1 => 58
  | 2 => 262
  | 3 => 521
  | 4 => 1000
  | 5 => 1852
  | 6 => 3319
  | _ => 5773

/-- VIN band (R515). -/
def vinBand (mv : Nat) : Nat :=
  if mv < 12000 then 0 else if mv < 20000 then 1 else if mv < 30000 then 2 else if mv < 42000 then 3
  else if mv < 54000 then 4 else 5

/-- `n` added at place `i`. -/
def addAt (l : List Nat) (i n : Nat) : List Nat := l.set i (nth 0 l i + n)

/-- The ledger's registers, hour counts in 0.01 h, and what R517 derives from them. -/
def State.showLedger (s : State) : State :=
  let l := s.ledger
  let s := (s.put F.HLTH_EQ_HOURS (l.eq / 36000)).put F.HLTH_POWER_HOURS (l.secs / 36)
  let s := (List.range 8).foldl (fun s b => s.put (F.HLTH_TBAND b) (nth 0 l.tband b / 36)) s
  let s := (List.range 6).foldl (fun s v => s.put (F.HLTH_VBAND v) (nth 0 l.vband v / 36)) s
  let (e0, t0) := if l.marks.length = 721 then (nth 0 l.marks 720, (l.secs / 3600 - 720) * 3600) else (0, 0)
  let rate := if l.secs ≤ t0 then 0 else min 65535 (roundDiv (l.eq - e0) (l.secs - t0))
  let left := 350000 * 3600000 - l.eq
  let rem := if left = 0 then 0 else if rate = 0 then 0xFFFFFFFF else min 0xFFFFFFFF (left / (3600 * rate))
  (s.put F.HLTH_RATE rate).put F.HLTH_REMAIN_H rem

/-- LIFE_END (R517). -/
def State.lifeEnd (s : State) : State :=
  if s.on F.HLTH_STATUS_LIFE_END then s
  else if 350000 * 3600000 ≤ s.ledger.eq || s.getI F.HLTH_DRIFT_WORST ≤ -500 then
    (s.putB F.HLTH_STATUS_LIFE_END true).heatRec 0x77 0 3
  else s

/-- VCORE is up: from start step 3 on (R491, R515). -/
def State.coreUp (s : State) : Bool := modeStaged < s.mode || (s.mode = modeStaged && 3 ≤ s.get F.PWR_STATUS_START_STEP)

/-- LEDGER_SECOND: one second of power-on time (R515, R518). -/
def State.ledgerSecond (s : State) (mv : Nat) : State :=
  if !s.coreUp then s else
  let b := tempBand (s.getI F.HLTH_TEMP_T)
  let l := s.ledger
  let eq := l.eq + bandFactor b
  let secs := l.secs + 1
  let blow := l.eq / (10000 * 3600000) < eq / (10000 * 3600000)
  let s := { s with
    ledger := { l with secs := secs, eq := eq, tband := addAt l.tband b 1, vband := addAt l.vband (vinBand mv) 1,
                       marks := if secs % 3600 = 0 then (eq :: l.marks).take 721 else l.marks }
    power := { s.power with onSecs := s.power.onSecs + 1 }
    fuses := if blow then { s.fuses with life := min 40 (s.fuses.life + 1) } else s.fuses }
  s.showLedger.lifeEnd

def execLedgerSecond (t : Nat) (mv : Nat) (s : State) : Host.Outcome State Fault Refusal := .next ((s.advance t).ledgerSecond mv)

/-- The 512 bytes of a ledger record (R518). -/
def State.ledgerRecord (s : State) : List Byte :=
  let l := s.ledger
  let recs := (s.log.recent.reverse.map Rec.bytes).flatten
  let b := leBytes 0x4752444C 4 ++ leBytes l.seq 4 ++ leBytes s.time64 8 ++ leBytes (l.eq / 36000) 4 ++ leBytes (l.secs / 36) 4 ++
    (l.tband.map (fun n => leBytes (n / 36) 4)).flatten ++ (l.vband.map (fun n => leBytes (n / 36) 4)).flatten ++
    ((List.range 8).map (fun m => leBytes (s.get (F.HLTH_PMON m)) 2)).flatten ++ leBytes (s.get F.PWR_STATUS_STOP_CAUSE) 4
  let b := slice (b ++ recs) 0 0x1FC
  b ++ leBytes (crc32c b) 4

/-- Flash bytes `a` to `a + n − 1` erased. -/
def State.flashErase (s : State) (a n : Nat) : State :=
  { s with flash := s.flash.filter (fun c => !(a ≤ c.1 && c.1 < a + n)) }

/-- A record is written, after the one that is being written (R518). -/
def State.ledgerWrite (s : State) : State :=
  if !s.on F.HLTH_LEDGER_CTRL_EN then s
  else if s.ledger.busy.isSome then { s with ledger := { s.ledger with due := s.ledger.due + 1 } }
  else { s with ledger := { s.ledger with busy := some s.ledgerRecord } }.put F.HLTH_LEDGER_CTRL_STATUS 1

/-- LEDGER_WRITE_DONE: the other sector is erased when writing moves into one, and a record asked for meanwhile follows (R518). -/
def State.ledgerDone (s : State) (ok : Bool) : State :=
  match s.ledger.busy with
  | none => s
  | some b =>
    let slot := s.ledgerNext
    let base := s.ledgerBase
    let s := if slot / 128 = (s.ledger.slot + 255) % 256 / 128 then s
      else s.flashErase (base + 0x10000 * (1 - slot / 128)) 0x10000
    let s := { s with ledger := { s.ledger with busy := none, slot := (slot + 1) % 256 } }
    let s : State := if ok then
        let s := { s with flash := cellWrite 0xFF s.flash (base + 512 * slot) b, ledger := { s.ledger with seq := (s.ledger.seq + 1) % 2 ^ 32 } }
        (s.put F.HLTH_LEDGER_CTRL_STATUS 2).put F.HLTH_LEDGER_CTRL_SEQ (leNat (slice b 4 2))
      else (s.put F.HLTH_LEDGER_CTRL_STATUS 3).heatRec 0x77 0 1
    if s.ledger.due = 0 then s else { s with ledger := { s.ledger with due := s.ledger.due - 1 } }.ledgerWrite

/-- LEDGER_RECORD_WRITE: 60 power-on minutes have passed since the last hourly record (R518). -/
def State.ledgerHour (s : State) : State :=
  if s.ledger.secs < s.ledger.hourAt + 3600 then s
  else { s.ledgerWrite with ledger := { s.ledgerWrite.ledger with hourAt := s.ledger.secs } }

def execLedgerRecordWrite (t : Nat) (s : State) : Host.Outcome State Fault Refusal := .next (s.advance t).ledgerHour
def execLedgerWriteDone (t : Nat) (ok : Bool) (s : State) : Host.Outcome State Fault Refusal := .next ((s.advance t).ledgerDone ok)

/-- A write of LEDGER_CTRL (R518, R522). -/
def State.wrLedgerCtrl (s : State) (v : Word) : State :=
  let s := s.putB F.HLTH_LEDGER_CTRL_EN (bitAt v.toNat 0)
  if bitAt v.toNat 1 then s.ledgerWrite else s

def execLedgerSave (i : Initiator) (v : Word) (s : State) : Host.Outcome State Fault Refusal :=
  .next (s.asWrite i F.HLTH_LEDGER_CTRL_EN.key v (fun s => s.wrLedgerCtrl v))

/-- The ledger record in slot `j` of the flash area, when its CRC is correct (R518, R519). -/
def State.ledgerSlot (s : State) (j : Nat) : Option (List Byte) :=
  let b := cellRead 0xFF s.flash (s.ledgerBase + 512 * j) 512
  if leNat (slice b 0 4) = 0x4752444C && leNat (slice b 0x1FC 4) = crc32c (slice b 0 0x1FC) then some b else none

/-- The marks that still hold when the power-on hours fall back to `h`; a record of other hours leaves none (R517). -/
def Ledger.marksAt (l : Ledger) (h : Nat) : List Nat := if h ≤ l.secs / 3600 then l.marks.drop (l.secs / 3600 - h) else []

/-- BOOT loads the latest valid ledger record (R519). -/
def State.ledgerLoad (s : State) : State :=
  let best := (List.range 256).foldl (fun (p : Option (Nat × List Byte)) j =>
    match s.ledgerSlot j, p with
    | none, _ => p
    | some b, none => some (j, b)
    | some b, some (i, a) => if seqLater 32 (leNat (slice b 4 4)) (leNat (slice a 4 4)) then some (j, b) else some (i, a)) none
  let s := match best with
    | some (j, b) =>
      { s with ledger := { s.ledger with
        eq := leNat (slice b 0x10 4) * 36000, secs := leNat (slice b 0x14 4) * 36, hourAt := leNat (slice b 0x14 4) * 36, marks := s.ledger.marksAt (leNat (slice b 0x14 4) / 100), seq := (leNat (slice b 4 4) + 1) % 2 ^ 32,
        slot := (j + 1) % 256, tband := (List.range 8).map (fun i => leNat (slice b (0x18 + 4 * i) 4) * 36),
        vband := (List.range 6).map (fun i => leNat (slice b (0x38 + 4 * i) 4) * 36) } }
    | none => { s with ledger := {} }.heatRec 0x77 0 2
  { s with ledger := { s.ledger with eq := max s.ledger.eq (10000 * 3600000 * s.fuses.life) } }.showLedger

/-- PMON_MEASURE (R516). -/
def State.pmonMeasure (s : State) (drift : List Int) : State :=
  let s := ((List.range 8).zip drift).foldl (fun s e => s.putI (F.HLTH_PMON e.1) e.2) s
  let worst := (List.range 8).foldl (fun (m : Int) i => min m (s.getI (F.HLTH_PMON i))) (s.getI (F.HLTH_PMON 0))
  let old := s.getI F.HLTH_DRIFT_WORST
  let s := s.putI F.HLTH_DRIFT_WORST worst
  let s := if worst ≤ -300 && !s.on F.HLTH_STATUS_DRIFT_WARN then (s.putB F.HLTH_STATUS_DRIFT_WARN true).heatRec 0x76 0 1 else s
  let s := if worst ≤ -500 && -500 < old then s.heatRec 0x76 0 2 else s
  s.lifeEnd

def execPmonMeasure (t : Nat) (drift : List Int) (s : State) : Host.Outcome State Fault Refusal :=
  .next ((s.advance t).pmonMeasure drift)

/-- ORDERLY_STOP_DONE: the ledger record is written, after one still under way, and the rails go (R508, R509). -/
def State.stopDone (s : State) : State :=
  if s.mode != modeStop then s else
  let cause := s.get F.PWR_STATUS_STOP_CAUSE
  let s := if s.power.clockLatch.isSome then s else (({ s with ledger := { s.ledger with due := 0 } }.ledgerDone true).ledgerWrite).ledgerDone true
  s.shutdown cause

def execOrderlyStopDone (t : Nat) (s : State) : Host.Outcome State Fault Refusal := .next (s.advance t).stopDone

/-! ### Supply and start (R489 to R498, R503 to R506) -/

/-- The time limit of the inrush or of a start step begins (R494, R496). -/
def State.stepBegins (s : State) : State := { s with power := { s.power with stepAt := s.time.pix } }

/-- The part leaves OFF for INRUSH; VAON holds, and TIME64 starts at 0 (R393, R491, R525). -/
def State.leaveOff (s : State) : State :=
  (({ s with time := { s.time with acc := 0 } }.setMode modeInrush).putBit F.PWR_RAIL_OK 11 true).stepBegins

/-- VIN_START_REACHED: OFF to INRUSH (R493, R510). -/
def State.vinStart (s : State) (mv : Nat) : State :=
  let s := s.put F.PWR_VIN_MV mv
  if s.mode = modeOff && !s.power.holdOff && !s.power.resetLow && 8800 ≤ mv then s.leaveOff else s

def execVinStartReached (t : Nat) (mv : Nat) (s : State) : Host.Outcome State Fault Refusal := .next ((s.advance t).vinStart mv)

/-- INRUSH_END with the charging time from 20 V to 50 V in µs (R494, R495). -/
def State.inrushEnd (s : State) (us : Nat) : State :=
  if s.mode != modeInrush || s.power.held then s else
  let c := min 16383 (us / 20)
  let s := (s.put F.PWR_HU_CAP c).setHoldup 50000
  let s := { s with power := { s.power with huOk := 400 ≤ c } }
  let s := if c < 400 then (s.putB F.PWR_STATUS_RT_AVAIL false).pwrRec 0x84 0 1
    else if c ≤ 5500 then s.putB F.PWR_STATUS_RT_AVAIL (s.on F.PWR_RT_CFG_RT_EN)
    else (s.putB F.PWR_STATUS_RT_AVAIL true).pwrRec 0x84 0 3
  (((s.putBit F.PWR_RAIL_OK 10 true).setMode modeStaged).recharge 0).stepBegins

def execInrushEnd (t : Nat) (us : Nat) (s : State) : Host.Outcome State Fault Refusal := .next ((s.advance t).inrushEnd us)

/-- INRUSH_TIMEOUT: 500 ms, which stand still while the start holds (R494, R498). HOLDUP has not reached 50 V, so that there is no
measurement of its capacitance (R495). -/
def State.inrushTimeout (s : State) (vibOk : Bool) : State :=
  if s.mode != modeInrush || s.power.held || s.time.pix < s.power.stepAt + 500 * clkMs then s
  else if vibOk then
    let s := { (s.put F.PWR_HU_CAP 0).putB F.PWR_STATUS_RT_AVAIL false with power := { s.power with huOk := false, chg := 0 } }
    ((((s.pwrRec 0x84 0 2).pwrRec 0x84 0 1).putBit F.PWR_RAIL_OK 10 true).setMode modeStaged).stepBegins
  else (s.pwrRec 0x87 10 4).railsOff

def execInrushTimeout (t : Nat) (vibOk : Bool) (s : State) : Host.Outcome State Fault Refusal :=
  .next ((s.advance t).inrushTimeout vibOk)

/-- A rail: its nominal voltage in mV, its largest current in 10 mA, and its start step, 0 for INRUSH and before (R491). -/
structure Rail where
  mv : Nat
  most : Nat
  step : Nat
deriving DecidableEq, Repr

/-- The rails, in the order of their numbers (R491). -/
def rails : List Rail :=
  [⟨1800, 300, 1⟩, ⟨3300, 100, 2⟩, ⟨750, 11000, 3⟩, ⟨850, 800, 4⟩, ⟨1800, 150, 5⟩, ⟨1050, 1000, 6⟩, ⟨900, 400, 6⟩, ⟨500, 600, 7⟩,
   ⟨900, 2000, 8⟩, ⟨1200, 600, 9⟩, ⟨12000, 1400, 0⟩, ⟨800, 100, 0⟩]

/-- The current trip of a rail, in 10 mA: 1.2 times its largest current (R491). -/
def Rail.trip (r : Rail) : Nat := r.most * 6 / 5

/-- What the monitor of rail `r` reads now: its voltage in mV and its current in 10 mA. A rail in RAIL_OK lies within ±3 % of
nominal and below its trip, and where there it lies is a free value; a rail that has been removed reads 0; one that is out of
tolerance reads any voltage (R491, R492, log entry 129). -/
def State.railReads (s : State) (r : Nat) : Nat × Nat :=
  let x := rails.getD r ⟨0, 0, 0⟩
  let v := (Config.monitor r s.time.pix).toNat
  let amps := v / 0x10000 % (x.trip + 1)
  if s.bit F.PWR_RAIL_OK r then (x.mv - x.mv * 3 / 100 + v % 0x10000 % (2 * (x.mv * 3 / 100) + 1), amps)
  else if s.bit F.PWR_RAIL_FAULT r && s.mode != modeOff then (v % 0x10000, amps)
  else (0, 0)

/-- Rails of a start step (R491). -/
def stepRails : Nat → List Nat
  | 1 => [0]
  | 2 => [1]
  | 3 => [2]
  | 4 => [3]
  | 5 => [4]
  | 6 => [5, 6]
  | 7 => [7]
  | 8 => [8]
  | 9 => [9]
  | _ => []

/-- START_STEP_TIMEOUT: 10 ms, which stand still while the start holds (R496, R498). -/
def State.stepTimeout (s : State) : State :=
  if s.mode != modeStaged || s.power.held || s.on F.HLTH_STATUS_LOW_HALT || s.time.pix < s.power.stepAt + 10 * clkMs then s
  else (s.pwrRec 0x87 (((stepRails (s.get F.PWR_STATUS_START_STEP + 1)).head?).getD 0) 4).railsOff

def execStartStepTimeout (t : Nat) (s : State) : Host.Outcome State Fault Refusal := .next (s.advance t).stepTimeout

/-- WARM_DONE: T has reached −25 °C (R496). -/
def State.warmDone (s : State) : State :=
  if s.on F.HLTH_STATUS_LOW_HALT && -25 * 8 ≤ s.getI F.HLTH_TEMP_T then ((s.putB F.HLTH_STATUS_LOW_HALT false).heatRec 0x74 0 3).stepBegins else s

def execWarmDone (t : Nat) (s : State) : Host.Outcome State Fault Refusal := .next (s.advance t).warmDone

/-- Modes that ride through (R504). -/
def State.canRide (s : State) : Bool := modeReady ≤ s.mode && s.mode ≤ modeDerated

/-- The level whose decode share is RT_DEC_SHARE (R504, R521). -/
def State.rtLevel (s : State) : Nat := 9 - clamp 1 7 (s.get F.PWR_RT_CFG_RT_DEC_SHARE)

/-- Entry to RIDE_THROUGH (R504). -/
def State.rideEnter (s : State) : State :=
  let s := (s.countHoldup.putB F.PWR_STATUS_ON_HOLDUP true).enterMode modeRide
  let s := s.setShed (max (s.get F.PWR_STATUS_SHED_LEVEL) (max 1 s.rtLevel))
  let s := { s with power := { s.power with rtAt := s.time.pix, rtLeast := s.holdupMv } }
  ((s.pwrRec 0x80 0 1).bump F.PWR_RT_COUNT).updCap

/-- VIN_WARN in mV, within its range. -/
def State.vinWarnMv (s : State) : Nat := 10 * clamp 800 5600 (s.get F.PWR_VIN_WARN_CFG)

/-- VIN_WARN_CROSS: VIN has fallen to `mv`, below VIN_WARN (R489, R498, R504, R506). -/
def State.vinWarn (s : State) (mv : Nat) : State :=
  let s := s.countHoldup.put F.PWR_VIN_MV mv
  if s.vinWarnMv ≤ mv then s
  else if s.canRide then (if s.on F.PWR_STATUS_RT_AVAIL then s.rideEnter else s.pwrRec 0x80 0 2)
  else if s.mode = modeOff || s.mode = modeRide || s.mode = modeStop then s
  else { s with power := { s.power with held := true } }

/-- RT_LAST at the end of a ride-through (R505). -/
def State.rideRecord (s : State) : State :=
  (s.put F.PWR_RT_LAST_MS (min 65535 ((s.time.pix - s.power.rtAt) / clkMs))).put F.PWR_RT_LAST_LEAST_HU
    (min s.power.rtLeast s.holdupMv / 100)

/-- The input stage reconnects: a ride-through ends, and the charger goes on (R490, R505). -/
def State.reconnect (s : State) : State :=
  let s := { s with power := { s.power with inputOpen := false } }
  if s.mode = modeRide then
    let s := s.rideRecord.putB F.PWR_STATUS_ON_HOLDUP false
    let s := s.updDegraded
    let s := s.setMode s.serviceMode
    (s.pwrRec 0x81 0 0).updCap.recharge (s.get F.PWR_PIN)
  else if s.mode = modeStop then s
  else s.putB F.PWR_STATUS_ON_HOLDUP false

/-- VIN_RECOVER: VIN has been above VIN_WARN + 0.4 V for 2 ms, now at `mv`: a start that holds continues, and below 64 V the input
stage reconnects (R490, R498, R505). -/
def State.vinRecover (s : State) (mv : Nat) : State :=
  let s := s.countHoldup.put F.PWR_VIN_MV mv
  if mv ≤ s.vinWarnMv + 400 then s
  else
    let s := { s with power := { s.power with held := false, stepAt := if s.power.held then s.time.pix else s.power.stepAt } }
    if mv < 64000 then s.reconnect else s

def execVinRecover (t : Nat) (mv : Nat) (s : State) : Host.Outcome State Fault Refusal := .next ((s.advance t).vinRecover mv)

/-- A ride-through ends in a stop (R505). -/
def State.rideStop (s : State) (cls cause : Nat) : State :=
  ((s.rideRecord.pwrRec cls 0 0).bump F.PWR_RT_STOP_COUNT).orderlyStop cause

/-- VIN_RESET_CROSS (R498, R505, R506, R510). -/
def State.vinReset (s : State) : State :=
  let s := { s with power := { s.power with holdOff := if s.mode = modeOff then false else s.power.holdOff } }
  if s.mode = modeOff || s.mode = modeStop then s
  else if s.mode = modeRide then s.rideStop 0x82 2
  else if s.canRide then (if s.on F.PWR_STATUS_RT_AVAIL then s.rideEnter.rideStop 0x82 2 else s.shutdown 2)
  else s.railsOff

def execVinResetCross (t : Nat) (s : State) : Host.Outcome State Fault Refusal := .next (s.advance t).vinReset

/-- VIN_HIGH: VIN is above 62 V (R489, R490). -/
def State.vinHigh (s : State) (mv : Nat) : State :=
  let s := s.countHoldup.put F.PWR_VIN_MV mv
  if 62000 < mv then s.pwrRec 0x85 0 1 else s

def execVinHigh (t : Nat) (mv : Nat) (s : State) : Host.Outcome State Fault Refusal := .next ((s.advance t).vinHigh mv)

/-- VIN_OV: above 66 V the input stage opens (R489, R490, R504). -/
def State.vinOv (s : State) (mv : Nat) : State :=
  let s := s.countHoldup.put F.PWR_VIN_MV mv
  if mv ≤ 66000 then s
  else
    let s := { s with power := { s.power with inputOpen := true } }.pwrRec 0x85 0 2
    if s.canRide && s.on F.PWR_STATUS_RT_AVAIL then s.rideEnter
    else if s.mode = modeOff || s.mode = modeRide then s
    else s.putB F.PWR_STATUS_ON_HOLDUP true

def execVinOv (t : Nat) (mv : Nat) (s : State) : Host.Outcome State Fault Refusal := .next ((s.advance t).vinOv mv)

/-- IIN_LIMIT: the input current is `ma`; limiting begins at 20 A (R490). -/
def State.iinLimit (s : State) (ma : Nat) : State :=
  let s := s.countHoldup.put F.PWR_IIN_MA ma
  if ma < 20000 then s.putB F.PWR_STATUS_IIN_LIMIT false
  else
    let s := if s.on F.PWR_STATUS_IIN_LIMIT then s else (s.putB F.PWR_STATUS_IIN_LIMIT true).bump F.PWR_IIN_LIMIT_COUNT
    s.pwrRec 0x86 0 0 (some 0)

def execIinLimit (t : Nat) (ma : Nat) (s : State) : Host.Outcome State Fault Refusal := .next ((s.advance t).iinLimit ma)

/-- RAIL_TOLERANCE_FAULT: outside ±5 % for 10 µs (R492, R507). -/
def State.railTolerance (s : State) (r : Nat) (high : Bool) : State :=
  if s.mode = modeOff then s else
  let s := ((s.putBit F.PWR_RAIL_FAULT r true).putBit F.PWR_RAIL_OK r false).pwrRec 0x87 r (if high then 2 else 1)
  if s.mode = modeStop then s.shutdown (s.get F.PWR_STATUS_STOP_CAUSE)
  else if s.canStop then s.orderlyStop 6 else s

def execRailToleranceFault (t : Nat) (r : Fin 12) (high : Bool) (s : State) : Host.Outcome State Fault Refusal :=
  .next ((s.advance t).railTolerance r.val high)

/-- RAIL_HARD_FAULT: outside ±10 %, a current trip, or loss of VIB (R492). -/
def State.railHard (s : State) (r : Nat) (trip : Bool) : State :=
  if s.mode = modeOff then s else
  let s := s.putBit F.PWR_RAIL_FAULT r true
  let s := if trip then s.pwrRec 0x87 r 3 else s
  s.shutdown (if s.mode = modeStop then s.get F.PWR_STATUS_STOP_CAUSE else 6)

def execRailHardFault (t : Nat) (r : Fin 12) (trip : Bool) (s : State) : Host.Outcome State Fault Refusal :=
  .next ((s.advance t).railHard r.val trip)

/-- HOLDUP_LOW: HOLDUP stays below 50 V at full charging current (R495). -/
def State.holdupLow (s : State) (mv : Nat) : State :=
  let s := s.setHoldup mv
  if mv < 50000 && modeReady ≤ s.mode && s.mode != modeStop then
    ({ s with power := { s.power with huOk := false } }.putB F.PWR_STATUS_RT_AVAIL false).pwrRec 0x84 0 2
  else s

def execHoldupLow (t : Nat) (mv : Nat) (s : State) : Host.Outcome State Fault Refusal := .next ((s.advance t).holdupLow mv)

/-- HOLDUP_RESERVE_REACHED: HOLDUP has fallen to `mv`, and E to STOP_RESERVE (R498, R505, R521). -/
def State.holdupReserve (s : State) (mv : Nat) : State :=
  let s := s.setHoldup mv
  if 1200000000 * clamp 3 15 (s.get F.PWR_RT_CFG_STOP_RESERVE) < s.power.huE then s
  else if s.mode = modeRide then s.rideStop 0x83 3
  else if s.mode = modeOff || s.mode = modeStop || s.canRide then s
  else s.railsOff

def execHoldupReserveReached (t : Nat) (mv : Nat) (s : State) : Host.Outcome State Fault Refusal :=
  .next ((s.advance t).holdupReserve mv)

/-! ### The governor (R499 to R502) -/

/-- PIN in 0.1 W and CAP_EFF are measured, and with them how long PIN has had 6 W to spare (R499, R501). -/
def State.measurePin (s : State) (pin : Nat) : State :=
  let s := (((s.countHoldup.put F.PWR_PIN pin).updCap).recharge (pin - s.power.chg))
  { s with power := { s.power with lowSince := if pin + 60 ≤ 10 * s.get F.PWR_CAP_EFF then some (s.power.lowSince.getD s.time.pix) else none } }

/-- GOVERNOR_STEP with PIN in 0.1 W (R501, R502). -/
def State.governorStep (s : State) (pin : Nat) : State :=
  let s := s.measurePin pin
  if pin ≤ 10 * s.get F.PWR_CAP_EFF then { s with power := { s.power with unmetSince := none, unmet := false } }
  else match s.levelUp (s.get F.PWR_STATUS_SHED_LEVEL) with
    | some l => { s with power := { s.power with unmetSince := none } }.setShed l
    | none =>
      let a := s.power.unmetSince.getD s.time.pix
      let s := { s with power := { s.power with unmetSince := some a } }
      if !s.power.unmet && a + 100 * clkMs ≤ s.time.pix then
        ({ s with power := { s.power with unmet := true } }.pwrRec 0x88 0 0).bump F.PWR_CAP_UNMET_COUNT
      else s

def execGovernorStep (t : Nat) (pin : Nat) (s : State) : Host.Outcome State Fault Refusal := .next ((s.advance t).governorStep pin)

/-- PIN has been at or below CAP_EFF − 6 W for 100 ms (R501). -/
def State.releaseDue (s : State) : Bool :=
  match s.power.lowSince with
  | some a => a + 100 * clkMs ≤ s.time.pix
  | none => false

/-- The level after 100 ms at or below CAP_EFF − 6 W; the next 100 ms begin with a release (R501). -/
def State.governorRelease (s : State) (pin : Nat) : State :=
  let s := s.measurePin pin
  let s := if pin ≤ 10 * s.get F.PWR_CAP_EFF then { s with power := { s.power with unmetSince := none, unmet := false } } else s
  let l := s.get F.PWR_STATUS_SHED_LEVEL
  if l != 0 && s.releaseDue then
    { s with power := { s.power with lowSince := some s.time.pix } }.setShed (s.levelDown l)
  else s

/-! ### Restart and stop requests (R507, R510) -/

/-- Causes after which AUTO_RESTART acts (R510). -/
def autoCause (c : Nat) : Bool := 4 ≤ c && c ≤ 8

/-- Every sensor that is not FAILED reads at or below RESTART_T (R510). -/
def State.coolEnough (s : State) : Bool :=
  let lim : Int := 8 * clamp 40 95 (s.get F.PWR_CTRL_RESTART_T)
  (List.range 24).all (fun i => s.bit F.HLTH_FAILED i || s.getI (F.HLTH_SENSOR i) ≤ lim)

/-- 1 s has passed since the last stop or shutdown (R510). -/
def State.restPassed (s : State) : Bool :=
  match s.power.offAt with
  | some a => a + clkS ≤ s.time.pix
  | none => true

/-- AUTO_RESTART (R510). -/
def State.autoRestart (s : State) : State :=
  let c := s.get F.PWR_STATUS_STOP_CAUSE
  let recent := s.power.restarts.filter (fun a => s.power.onSecs ≤ a + 3600)
  if s.mode = modeOff && s.on F.PWR_CTRL_AUTO_RESTART && autoCause c && s.power.holdOff && recent.length < 2 && !s.power.resetLow &&
      s.restPassed &&
      (!(c = 4 || c = 5) || s.coolEnough) then
    ({ s with power := { s.power with holdOff := false, restarts := s.power.onSecs :: recent } }.pwrRec 0x8B 0 c).leaveOff
  else s

def execAutoRestart (t : Nat) (s : State) : Host.Outcome State Fault Refusal := .next (s.advance t).autoRestart

/-- A write of RT_CFG: RT_AVAIL follows RT_EN while HOLDUP serves a ride-through (R495, R521). -/
def State.wrRtCfg (s : State) (v : Word) : State :=
  let n := v.toNat
  let s := (((s.put F.PWR_RT_CFG_RT_BUDGET (bits n 0 7)).put F.PWR_RT_CFG_RT_DEC_SHARE (bits n 8 3)).put F.PWR_RT_CFG_STOP_RESERVE
    (bits n 12 4)).putB F.PWR_RT_CFG_RT_EN (bitAt n 16)
  (s.putB F.PWR_STATUS_RT_AVAIL (s.power.huOk && bitAt n 16)).updCap

/-- A write of PWR.CTRL (R507, R521). -/
def State.wrPwrCtrl (s : State) (v : Word) : State :=
  let s := (s.putB F.PWR_CTRL_AUTO_RESTART (bitAt v.toNat 0)).put F.PWR_CTRL_RESTART_T (bits v.toNat 8 8)
  if bitAt v.toNat 1 then s.orderlyStop 1 else s

def execStopWrite (i : Initiator) (v : Word) (s : State) : Host.Outcome State Fault Refusal :=
  .next (s.asWrite i F.PWR_CTRL_STOP.key v (fun s => s.wrPwrCtrl v))

/-! ### Temperature (R511 to R514) -/

/-- The sum of the raw readings of a sensor's neighbours, with how many there are (R511). -/
def neighbours (raw : List (Option Int)) (i : Nat) : Int × Nat :=
  let f := fun (p : Int × Nat) (o : Option Int) => match o with
    | some v => (p.1 + v, p.2 + 1)
    | none => p
  f (f (0, 0) (nth none raw ((i + 23) % 24))) (nth none raw ((i + 1) % 24))

/-- A reading lies farther than `d` from the mean of its neighbours. -/
def farFrom (raw : List (Option Int)) (i : Nat) (v : Int) (d : Nat) : Bool :=
  let (sum, n) := neighbours raw i
  n != 0 && (d * n : Int) < ((v * n - sum).natAbs : Int)

/-- A sensor becomes FAILED, and is excluded no longer. -/
def State.sensorOut (s : State) (i : Nat) : State :=
  { (s.putBit F.HLTH_FAILED i true).putBit F.HLTH_EXCLUDED i false with sensors := { s.sensors with exclAt := tabErase s.sensors.exclAt i } }

/-- One sensor of a sample (R511). -/
def State.sampleSensor (s : State) (raw : List (Option Int)) (i : Nat) : State :=
  if s.bit F.HLTH_FAILED i then s else
  match nth none raw i with
  | none => (s.sensorOut i).heatRec 0x75 i 2
  | some v =>
    let s := s.putI (F.HLTH_SENSOR i) v
    if s.bit F.HLTH_EXCLUDED i then
      (if farFrom raw i v 48 then s
       else { s.putBit F.HLTH_EXCLUDED i false with sensors := { s.sensors with exclAt := tabErase s.sensors.exclAt i } })
    else if farFrom raw i v 64 then
      { s.putBit F.HLTH_EXCLUDED i true with sensors := { s.sensors with exclAt := tabSet s.sensors.exclAt i s.time.pix } }.heatRec 0x75 i 1 (some i)
    else s

/-- Sensors that give T, highest reading first in order of number (R511). -/
def State.takeT (s : State) : State :=
  let live := (List.range 24).filter (fun i => !s.bit F.HLTH_FAILED i)
  let many := 4 < popCount (s.get F.HLTH_EXCLUDED) 24
  let use := if many then live else live.filter (fun i => !s.bit F.HLTH_EXCLUDED i)
  let s := if many && !s.on F.HLTH_STATUS_TOO_MANY then (s.putB F.HLTH_STATUS_TOO_MANY true).heatRec 0x75 0 3
    else s.putB F.HLTH_STATUS_TOO_MANY many
  match use with
  | [] => s
  | i :: r =>
    let m := r.foldl (fun m j => if s.getI (F.HLTH_SENSOR m) < s.getI (F.HLTH_SENSOR j) then j else m) i
    (s.putI F.HLTH_TEMP_T (s.getI (F.HLTH_SENSOR m))).put F.HLTH_TEMP_SENSOR m

/-- The thresholds of R512 on T. -/
def State.thresholds (s : State) : State :=
  let t := s.getI F.HLTH_TEMP_T
  let n := s.get F.HLTH_TEMP_SENSOR
  let s := if 95 * 8 ≤ t && !s.on F.HLTH_STATUS_HIGH_WARN then (s.putB F.HLTH_STATUS_HIGH_WARN true).heatRec 0x70 n 0
    else if t ≤ 93 * 8 then s.putB F.HLTH_STATUS_HIGH_WARN false else s
  let s := if t < -20 * 8 && !s.on F.HLTH_STATUS_LOW_WARN then (s.putB F.HLTH_STATUS_LOW_WARN true).heatRec 0x74 n 1
    else if -18 * 8 ≤ t then s.putB F.HLTH_STATUS_LOW_WARN false else s
  let s := if t < -30 * 8 && !s.sensors.lowHalt && modeReady ≤ s.mode then
      { s with sensors := { s.sensors with lowHalt := true } }.heatRec 0x74 n 2
    else if -28 * 8 ≤ t then { s with sensors := { s.sensors with lowHalt := false } } else s
  let s := s.putB F.HLTH_STATUS_THROTTLE (98 * 8 ≤ t)
  let s := if 98 * 8 ≤ t && !s.on F.PWR_STATUS_THERM_CAP then
      let s := (s.putB F.PWR_STATUS_THERM_CAP true).put F.HLTH_THERM_CAP (min 254 (max 40 (s.get F.PWR_PIN / 10)))
      let s := { s with sensors := { s.sensors with capAt := s.time.pix } }
      (((s.heatRec 0x71 n 1).bump F.HLTH_THROTTLE_COUNT).updCap.markDerate).derate
    else s
  if 103 * 8 ≤ t && s.canStop then (s.heatRec 0x72 n 0).orderlyStop 4 else s

/-- TEMP_SAMPLE (R511, R512). -/
def State.tempSample (s : State) (raw : List (Option Int)) : State :=
  let s := (List.range 24).foldl (fun s i => s.sampleSensor raw i) s
  let s := s.takeT.thresholds
  if 12 < popCount (s.get F.HLTH_FAILED) 24 then s.orderlyStop 8 else s

def execTempSample (t : Nat) (raw : List (Option Int)) (s : State) : Host.Outcome State Fault Refusal :=
  .next ((s.advance t).tempSample raw)

/-- SENSOR_FAIL: a sensor has been excluded for 10 s without a break (R511). -/
def State.sensorFail (s : State) (n : Nat) : State :=
  if s.bit F.HLTH_EXCLUDED n && !s.bit F.HLTH_FAILED n && tabGet 0 s.sensors.exclAt n + 10 * clkS ≤ s.time.pix then
    let s := (s.sensorOut n).heatRec 0x75 n 2
    if 12 < popCount (s.get F.HLTH_FAILED) 24 then s.orderlyStop 8 else s
  else s

def execSensorFail (t : Nat) (n : Fin 24) (s : State) : Host.Outcome State Fault Refusal := .next ((s.advance t).sensorFail n.val)

/-- The thermal cap's timer from its last step: 100 ms while it falls, 1 s while it rises (R513). -/
def State.capWait (s : State) : Nat := if 98 * 8 ≤ s.getI F.HLTH_TEMP_T then 100 * clkMs else clkS

/-- THERMAL_CAP_STEP (R513). -/
def State.thermalStep (s : State) : State :=
  let t := s.getI F.HLTH_TEMP_T
  if !s.on F.PWR_STATUS_THERM_CAP || (95 * 8 ≤ t && t < 98 * 8) || s.time.pix < s.sensors.capAt + s.capWait then s else
  let s := { s with sensors := { s.sensors with capAt := s.time.pix } }
  let c := s.get F.HLTH_THERM_CAP
  if 98 * 8 ≤ t then (s.put F.HLTH_THERM_CAP (max 40 (c - 4))).updCap
  else if s.capSet ≤ c + 4 then
    ((((s.put F.HLTH_THERM_CAP 255).putB F.PWR_STATUS_THERM_CAP false).heatRec 0x71 (s.get F.HLTH_TEMP_SENSOR) 2).updCap).markDerate
  else (s.put F.HLTH_THERM_CAP (c + 4)).updCap

def execThermalCapStep (t : Nat) (s : State) : Host.Outcome State Fault Refusal := .next (s.advance t).thermalStep

/-- HARD_TRIP (R514). -/
def State.hardTrip (s : State) : State :=
  if s.mode = modeOff then s else
  let s := s.shutdown 5
  { s with power := { s.power with tripLatch := true } }

def execHardTrip (t : Nat) (s : State) : Host.Outcome State Fault Refusal := .next (s.advance t).hardTrip

end Sys2Proof.Machine
end

