-- ==== Sys2Proof/Machine/Vigil.lean ====
section
/-! DEFINITION. The vigil and the snuff stage: the checks of a window, the verdict of an instance, the vote, and what a
line of a head goes through from its start to the delivery of its verdicts (R52 to R87, R574, R575, R578). -/
namespace Sys2Proof.Machine

/-! ### Instances (R77 to R80, R575, R578) -/

/-- Instances in service. -/
def State.inService (s : State) : List Nat := [0, 1, 2].filter (fun i => s.get (vigilState i) = 0)

/-- The reference head (R575). -/
def State.refHead (s : State) : Option Nat := (List.range 48).find? s.enabled

/-- A record of the vigil that concerns no window (R86, R578). `inst` goes into detail [33:32]. -/
def State.vigilGlobal (s : State) (cls v r inst : Nat) : State :=
  let (h, n) := match s.refHead with
    | some h => (h, s.lineOf h)
    | none => (0, 0)
  s.raise cls (keyAddr F.VIGIL_STATUS_STATE_A.key) 0 (s.vigilDet h n v r + 2 ^ 32 * inst)

/-- Instance `i` goes to a state: IN_SERVICE follows, and with fewer than two in service ALL_SNUFF is set (R77, R87). -/
def State.setInstance (s : State) (i st : Nat) : State :=
  let s := s.put (vigilState i) st
  let n := s.inService.length
  let s := s.put F.VIGIL_STATUS_IN_SERVICE n
  if n < 2 && !s.on F.VIGIL_STATUS_ALL_SNUFF then
    ((s.putB F.VIGIL_STATUS_ALL_SNUFF true).vigilGlobal 0x34 6 18 0).updMode
  else s.updMode

/-- Instance `i` becomes FAILED (R78). -/
def State.failInstance (s : State) (i : Nat) : State :=
  if s.get (vigilState i) = 0 then (s.setInstance i 2).vigilGlobal 0x33 0 0 i else s

/-- Instance `i` returns to service (R79). -/
def State.restoreInstance (s : State) (i : Nat) : State :=
  let s := { s with vigil := { s.vigil with restore := s.vigil.restore.set i false, run := s.vigil.run.set i 0,
                                            dissent := s.vigil.dissent.set i false } }
  (s.setInstance i 0).vigilGlobal 0x3E 0 0 i

def dissentReg : Nat → Fld
  | 0 => F.VIGIL_DISSENT_A
  | 1 => F.VIGIL_DISSENT_B
  | _ => F.VIGIL_DISSENT_C

/-- RETIRE_CFG.FRAMES; values below 2 read as 2 (R87). -/
def State.retireFrames (s : State) : Nat := max 2 s.vigil.retireFrames

/-- Instance `i` dissents on window `w`, whose voted verdict is `v` (R77, R78). -/
def State.dissents (s : State) (i w h n : Nat) (v : Nat × Nat) : State :=
  let s := s.bump (dissentReg i)
  let first := !nth false s.vigil.dissentLogged i
  let s := { s with vigil := { s.vigil with dissent := s.vigil.dissent.set i true, dissentLogged := s.vigil.dissentLogged.set i true } }
  let s := if first then
      s.raise 0x31 (winAddr w) (((s.win w).tag.map (fun t => t.at_)).getD 0) (s.vigilDet h n v.1 v.2 + 2 ^ 32 * i)
    else s
  let run : Nat := nth 0 s.vigil.run i
  if s.retireFrames ≤ run + 1 then s.failInstance i else s

/-- Instance `i` enters TEST, while the other two are in service; else the test unit refuses the request (R80, R543). -/
def State.vigilTestEnter (s : State) (i : Nat) : State :=
  if s.get (vigilState i) = 1 then s
  else if (s.inService.filter (fun j => j != i)).length = 2 then
    { s with test := { s.test with prior := s.get (vigilState i) } }.setInstance i 1
  else
    let s := { s with test := { s.test with unit := none } }
    (((s.put F.TEST_STATUS_STATE 0).put F.TEST_IST_CMD_STATUS 2).put F.TEST_IST_CMD_CODE 4).raise 0xB7
      (keyAddr F.TEST_STATUS_STATE.key) 0 (0x18 + i + 0x100 * 4 + 0x10000 * s.mode)

/-- What waits for a vigil frame start is done: returns to service, and the entry of an instance into TEST (R79, R80). -/
def State.vigilTake (s : State) : State :=
  let s := [0, 1, 2].foldl (fun s i => if nth false s.vigil.restore i then s.restoreInstance i else s) s
  match s.test.unit with
  | some u => if 0x18 ≤ u && u ≤ 0x1A then s.vigilTestEnter (u - 0x18) else s
  | none => s

/-- A vigil frame ends and the next begins; RETIRE_CFG is taken (R52, R78 to R80, R575). -/
def State.vigilFrame (s : State) : State :=
  let g := s.vigil
  let run := [0, 1, 2].map (fun i => if nth false g.dissent i then nth 0 g.run i + 1 else 0)
  let s := { s with vigil := { g with run := run, dissent := [false, false, false], dissentLogged := [false, false, false],
                                      retireFrames := s.get F.VIGIL_RETIRE_CFG_FRAMES } }
  s.vigilTake

/-! ### Verdicts (R63 to R67, R574) -/

/-- Rank of a verdict in the order of R63, WITHHELD first. -/
def rankOf : Nat → Nat
  | 7 => 0
  | 5 => 1
  | 4 => 2
  | 1 => 3
  | 3 => 4
  | 2 => 5
  | _ => 6

/-- Rank of a reason among those of one verdict (R574). -/
def reasonRank : Nat → Nat
  | 1 => 0
  | 2 => 1
  | 5 => 0
  | 6 => 1
  | 9 => 2
  | 13 => 3
  | 11 => 4
  | 10 => 5
  | 8 => 6
  | 7 => 7
  | 12 => 8
  | 14 => 9
  | 15 => 0
  | 16 => 1
  | 18 => 0
  | 17 => 1
  | 20 => 0
  | 19 => 4
  | _ => 0

/-- The first of two findings in the order of R63 and R574. -/
def firstOf (a b : Nat × Nat) : Nat × Nat :=
  if rankOf b.1 < rankOf a.1 || (b.1 = a.1 && reasonRank b.2 < reasonRank a.2) then b else a

/-- The verdict that an instance reduces its findings to. -/
def reduce (l : List (Nat × Nat)) : Nat × Nat := l.foldl firstOf (0, 0)

/-- The first reason of a verdict (R574). -/
def firstReason : Nat → Nat
  | 1 => 1
  | 2 => 3
  | 3 => 4
  | 4 => 5
  | 5 => 15
  | 6 => 18
  | 7 => 20
  | _ => 0

/-! ### The vote (R77, R81) -/

/-- Outcome of a vote: verdict and reason, the lone dissenter, and whether it split. -/
structure Vote where
  v : Nat × Nat
  dissent : Option Nat
  split : Bool
deriving DecidableEq, Repr

/-- The vote over the instances in service, lowest letter first (R77). -/
def voteOf : List (Nat × Nat × Nat) → Vote
  | [a, b, c] =>
    if a.2.1 = b.2.1 then ⟨a.2, if c.2.1 = a.2.1 then none else some c.1, false⟩
    else if a.2.1 = c.2.1 then ⟨a.2, some b.1, false⟩
    else if b.2.1 = c.2.1 then ⟨b.2, some a.1, false⟩
    else ⟨(6, 17), none, true⟩
  | [a, b] => if a.2.1 = b.2.1 then ⟨a.2, none, false⟩ else ⟨(6, 17), none, true⟩
  | _ => ⟨(6, 18), none, false⟩

/-- What instance `i` reports for window `w`: an upset instance reports the verdict of its upset. -/
def instVerdict (ups : List Upset) (w : Nat) (base : Nat × Nat) (i : Nat) : Nat × Nat :=
  match ups.find? (fun u => u.inst.val = i && u.win.val = w) with
  | some u => if u.verdict.val = base.1 then base else (u.verdict.val, firstReason u.verdict.val)
  | none => base

/-- The vote on window `w` with its counts and records (R77); with no head enabled no dissent is counted (R575). Mark: DESIGN
CHOICE, log entry 96: SPLIT_COUNT counts the votes that split, not the later lines on which UNVERIFIED is held. -/
def State.voteWin (s : State) (ups : List Upset) (w h n : Nat) (base : Nat × Nat) : (Nat × Nat) × State :=
  let r := voteOf (s.inService.map (fun i => (i, instVerdict ups w base i)))
  let s := match r.dissent with
    | some i => if s.refHead.isNone then s else s.dissents i w h n r.v
    | none => s
  let s := if r.split then (s.bump F.VIGIL_SPLIT_COUNT).vigilRec 0x32 w h n 6 17 else s
  let s := if r.v.1 = 6 && (s.win w).heldUnv = 0 then s.setWin w { s.win w with heldUnv := r.v.2 } else s
  (r.v, s)

/-! ### Age, progress and pick checks (R53 to R57) -/

/-- DISP in STAMP32, rounded up to the microsecond (R53). -/
def dispStamp (t64 : Nat) : Nat := (t64 + 999) / 1000 % 2 ^ 32

/-- A closed or refused context (R57, R265). -/
def State.ctxDown (s : State) (c : Nat) : Bool :=
  let st := s.get (F.CTX_STATUS_STATE c)
  st = 0 || st = 3

/-- CEIL and colour values as they read, with ECHO_TIMEOUT and TWIN, for the frame of head `h` (R52, R87). -/
def State.takeCeil (s : State) (h : Nat) : State :=
  let c := [clamp 1000 60000000 (s.get F.VIGIL_CEIL_STALE), clamp 1000 60000000 (s.get F.VIGIL_CEIL_FREEZE),
    clamp 4 4096 (s.get F.VIGIL_CEIL_SKIP_N), s.get F.VIGIL_FILL, s.get F.VIGIL_CLOVE_HATCH] ++
    [1, 2, 3, 4, 5, 6, 7].map (fun v => s.get (F.VIGIL_COLOUR v))
  s.setHead h { s.head h with ceil := c, echoTimeout := max 8 (s.get F.VIGIL_ECHO_TIMEOUT), twin := s.on F.VIGIL_CTRL_TWIN }

/-- Effective bounds of a window of head `h` in its next frame (R51, R52). -/
def State.nextBounds (s : State) (h : Nat) (ws : List Word) : Nat × Nat × Nat := (s.takeCeil h).boundsOf ws

/-- The picture latched for a window of head `h` ends a run of skipped pictures of at least N (R57). -/
def State.runLong (s : State) (h w : Nat) (ws : List Word) : Bool :=
  match (s.win w).tag with
  | none => false
  | some l =>
    let t := tagOf l.bytes
    t.ok && t.kind ≤ 1 && (s.nextBounds h ws).2.2 ≤ t.run

/-- The pick checks of a window of head `h` for the frame whose line 0 has display time `disp` (R57). FROZEN_SUSPECT stays until a commit
latches a picture (R65). -/
def State.pickCheck (s : State) (h w : Nat) (ws : List Word) (disp : Nat) : Nat × Nat :=
  match (s.win w).tag with
  | none => (4, 5)
  | some l =>
    let t := tagOf l.bytes
    if !t.ok then (4, 6)
    else reduce
      [if s.ctxDown (s.winCtx ws) then (4, 9) else (0, 0),
       if t.tepoch != s.epoch then (4, 13) else (0, 0),
       if (2 ^ 31 * 1000 : Int) ≤ (disp : Int) - t.capture then (4, 11) else (0, 0),
       if t.impaired then (3, 4) else (0, 0),
       if (s.win w).runHeld || s.runLong h w ws then (2, 3) else (0, 0)]

/-- The pick checks of head `h`, made during line VTOTAL − 2 (R57, R62). -/
def State.pickChecks (s : State) (h : Nat) : State :=
  let disp := s.nextFrameT64 (s.master h) + s.dispOfs
  (s.supWins h).foldl (fun s e =>
    let v := s.pickCheck h e.1 e.2 disp
    let old := (s.win e.1).pick
    let s := s.setWin e.1 { s.win e.1 with pick := v, pickWas := old, runHeld := (s.win e.1).runHeld || s.runLong h e.1 e.2 }
    if v = (4, 6) && old != (4, 6) then s.vigilRec 0x38 e.1 h (s.lineOf h) 4 6 else s) s

/-- Age and progress of window `w` on a line with display time `disp`, under the bounds `bd` (R54 to R56); `shows`: the
window covers it. ADV is set on the first line that shows an advanced SEQ, or on the first line after a change of STREAM;
up to that line PROGRESS is judged by the ADV that stands. -/
def State.agePart (s : State) (w disp : Nat) (bd : Nat × Nat × Nat) (shows : Bool) : List (Nat × Nat) × State :=
  let x := s.win w
  match x.tag with
  | none => ([], s)
  | some l =>
    let t := tagOf l.bytes
    if !t.ok then ([], s) else
    let d := dispStamp disp
    let age := sint 32 (d + 2 ^ 32 - stampOf t.capture)
    let s := (s.putI (F.VIGIL_WSTATE_AGE w) age).put (F.VIGIL_WSTATE_SEQ w) t.seq
    let s := if (bd.1 : Int) < age then s.putB (F.VIGIL_WSTATE_AGE_LATCH w) true else s
    let s := if x.streamDue || (x.advDue && shows) then
        (s.put (F.VIGIL_WSTATE_ADV w) d).setWin w { x with advDue := x.advDue && !shows, streamDue := false } else s
    let prog := (bd.2.1 : Int) < sint 32 (d + 2 ^ 32 - s.get (F.VIGIL_WSTATE_ADV w))
    ([if age < -2000 then (4, 10) else (0, 0),
      if s.on (F.VIGIL_WSTATE_AGE_LATCH w) then (1, 1) else (0, 0),
      if prog then (1, 2) else (0, 0)], s)

/-- WITHHELD of a window on the line after the one under way (R67, R203, R401, R508). `fresh` leaves out what ends at
the coming frame start. -/
def State.withheldPart (s : State) (h w : Nat) (fresh : Bool) : List (Nat × Nat) :=
  let x := s.win w
  let k := s.head h
  let at_ := (s.tb (s.master h)).lineAt
  [if !s.running then (7, 20) else (0, 0),
   if (k.stepHold = 1 && k.stepAt ≤ at_) || k.stepHold = 2 || (k.stepHold = 3 && !fresh) then (7, 13) else (0, 0),
   match x.withheld with
   | some a => if a ≤ at_ && !(fresh && x.release) then (7, 19) else (0, 0)
   | none => (0, 0)]

/-- The verdict that an instance in order reaches for the next line: what is held, then the checks (R63). -/
def heldVerdict (x : Win) (fresh : Bool) (wh rest : List (Nat × Nat)) : Nat × Nat :=
  let r := reduce (wh ++ (if !fresh && x.heldInt != 0 then [(5, x.heldInt)] else []) ++
    (if !fresh && x.echoLost then [(4, 14)] else []) ++ [x.pick] ++ rest)
  if !fresh && x.heldUnv != 0 && r.1 != 7 then (6, x.heldUnv) else r

/-- AGE_PROGRESS_VOTE for one window: the next line's verdict, and the one without holds for the composition of line 0
(R61 to R65). The pick checks made during line VTOTAL - 2 are for line 0 and after. -/
def State.judgeNext (s : State) (ups : List Upset) (h : Nat) (e : Nat × List Word) : State :=
  let m := s.master h
  let b := s.tb m
  let (n, _) := s.nextLine h
  let w := e.1
  let (rest, s) := s.agePart w b.dispNext (if n = 0 then s.nextBounds h e.2 else (s.win w).bounds) (crosses e.2 n)
  let x := s.win w
  let fr := heldVerdict x true (s.withheldPart h w true) rest
  let full := if n = 0 then fr
    else heldVerdict (if n + 1 = b.timing.vtotal then { x with pick := x.pickWas } else x) false (s.withheldPart h w false) rest
  let (v, s) := s.voteWin ups w h n full
  let fv := (voteOf (s.inService.map (fun i => (i, instVerdict ups w fr i)))).v
  s.setWin w { s.win w with evald := v, freshV := fv }

/-- AGE_PROGRESS_VOTE of head `h` (R61, R62); a head with ENABLE 0 is not judged (R95). -/
def execAgeProgressVote (t : Nat) (h : Fin 48) (ups : List Upset) (s : State) : Host.Outcome State Fault Refusal :=
  let s := s.advance t
  .next (if s.enabled h.val then (s.supWins h.val).foldl (fun s e => s.judgeNext ups h.val e) s else s)

/-! ### The snuff stage (R58 to R60, R74) -/

/-- Pixels of a line that upsets have altered in the line buffer. -/
def upsetPix (ups : List PixUpset) (line : List Pix) : List Pix :=
  line.zipIdx.map (fun e => match ups.find? (fun u => u.x = e.2) with
    | some u => u.pix
    | none => e.1)

/-- A window-line as the snuff stage sends it (R58, R60, R74). -/
def State.snuffWin (s : State) (h n : Nat) (line : List Pix) (l : WinLine) : WinLine × List Pix :=
  match (s.win l.win).act with
  | none => ({ l with sent := crcCols line l.cols }, line)
  | some ws =>
    let vr := (s.win l.win).snuff
    let flag : Nat × Nat := if l.path = 0 then (0, 0) else (4, l.path)
    let v := if vr.1 = 6 then vr else firstOf vr flag
    if l.path = 0 && (v.1 = 0 || l.rendered) then ({ l with sent := crcCols line l.cols, verdict := v.1, reason := v.2 }, line)
    else
      let tr := treatOf ws v.1
      let tr := if l.path != 0 then 2
        else if v.1 = 1 && tr = 1 && l.pic.isSome && l.pic = (s.win l.win).lastGood then 1
        else if v.1 = 2 && tr = 3 then 3 else 2
      let line' := s.drawTreat h ws v.1 tr n l.cols line line
      ({ l with sent := crcCols line' l.cols, altered := true, verdict := v.1, reason := v.2 }, line')

/-- The window-lines through the snuff stage, in rank order. -/
def State.snuffAll (s : State) (h n : Nat) (line : List Pix) : List WinLine → List WinLine × List Pix
  | [] => ([], line)
  | l :: r =>
    let (l', line) := s.snuffWin h n line l
    let (r', line) := s.snuffAll h n line r
    (l' :: r', line)

/-- The head sends line `n`: the composed line, with its upsets, through the snuff stage (R61). -/
def State.sendLine (s : State) (h n fs : Nat) (ups : List PixUpset) : State :=
  let x := s.head h
  let c := x.composed
  let (ws, pix) := s.snuffAll h n (upsetPix ups c.pix) c.wins
  let ws := ws.map (fun (l : WinLine) => { l with seq := (((s.win l.win).tag.map (fun t => (tagOf t.bytes).seq)).getD 0) })
  let lost := x.sent.full && x.outq.isEmpty
  s.setHead h { x with sent := ⟨n, fs, pix, ws, true, true, (s.tb (s.master h)).lineT64 + s.dispOfs⟩
                       sentAt := (s.tb (s.master h)).lineAt
                       outAt := if lost then 0 else x.outAt }

/-- TIME64 at which line `n + 1` starts, with DISP_OFS (R53, R61). -/
def State.latchDisp (s : State) (h : Nat) : State :=
  let b := s.tb h
  s.setTb h { b with dispNext := b.lineT64 + b.lineLen * 10 / 12 + s.dispOfs }

/-! ### The end of a line (R59 to R61, R84, R86) -/

/-- INTEGRITY_COMPARE: SENT against EXPECTED of every window-line that left unaltered (R59, R251). -/
def compareLine (l : Line) : Line :=
  { l with wins := l.wins.map (fun w => { w with mismatch := !w.altered && !w.cols.isEmpty && w.sent != w.expected }) }

def execIntegrityCompare (t : Nat) (h : Fin 48) (s : State) : Host.Outcome State Fault Refusal :=
  let s := s.advance t
  let x := s.head h.val
  .next (s.setHead h.val { x with sent := compareLine x.sent })

/-- The verdict that instances in order reach for the line under way of a window: what was delivered for it, and what
the line itself has shown (R58, R59, R63). -/
def lineVerdict (x : Win) (wl : Option WinLine) : Nat × Nat :=
  if x.snuff.1 = 6 then x.snuff else
  match wl with
  | none => x.snuff
  | some l => reduce [x.snuff, if l.path = 0 then (0, 0) else (4, l.path), if l.mismatch then (5, 15) else (0, 0)]

/-- The strongest of several verdicts: WITHHELD, then UNVERIFIED, then in the order of R63 and R574. -/
def strongest (l : List (Nat × Nat)) : Nat × Nat :=
  let r := reduce l
  match l.find? (fun o => o.1 = 6) with
  | some u => if r.1 = 7 then r else u
  | none => r

/-- A voter copy that puts out a verdict other than LIVE marks the window-line (R81). Mark: DESIGN CHOICE, log entry 97: of
several such copies the strongest verdict is the one recorded and applied. -/
def voterVerdict (voters : List Upset) (w : Nat) (v : Nat × Nat) : (Nat × Nat) × Bool :=
  let outs := [0, 1, 2].map (fun i => instVerdict voters w v i)
  (strongest outs, outs.any (fun o => o.1 != v.1))

/-- The reason of INTEGRITY that is held on: the first in the order of R574 of those found in the frame (R65). -/
def holdInt (held : Nat) (v : Nat × Nat) : Nat :=
  if v.1 = 5 && (held = 0 || reasonRank v.2 < reasonRank held) then v.2 else held

/-- What the next line starts from: its own age and progress verdict, what the vote or a voter copy has reached on this line
beside what the line itself shows, and what is held to the frame start (R60, R63, R65, R81). -/
def nextVerdict (evald : Nat × Nat) (reached : Option (Nat × Nat)) (heldInt heldUnv : Nat) : Nat × Nat :=
  let held := fun (n v : Nat) => if n = 0 then [] else [(v, n)]
  strongest (evald :: ((reached.toList.filter (fun v => v.1 != 5 && v.1 != 6)) ++ held heldInt 5 ++ held heldUnv 6))

/-- VOTE_COMPLETE for one window: WSTATE, what the next line starts from, and the records (R60, R61, R65, R77, R81, R86).
With fewer than two instances in service the line keeps its verdict and the next is UNVERIFIED. Mark: DESIGN CHOICE, log
entry 96: INTEG_COUNT counts the line that mismatches, not the later lines on which INTEGRITY is held. -/
def State.voteLine (s : State) (ups voters : List Upset) (h n : Nat) (e : Nat × List Word) : State :=
  let w := e.1
  let x := s.win w
  let wl := if crosses e.2 n then (s.head h).sent.wins.find? (fun l => l.win = w) else none
  let base := lineVerdict x wl
  let inj := if x.inject = 0 then [] else [⟨Fin.ofNat 3 (x.inject - 1), Fin.ofNat 2048 w, 5⟩]
  let few := s.inService.length < 2
  let (v, s) := s.voteWin (inj ++ ups) w h n base
  let v := if few then base else v
  let (v, differ) := voterVerdict voters w v
  let s := if differ then s.vigilRec 0x3F w h n v.1 v.2 else s
  let hit := v.1 = 5 && v.2 = 15 && (match wl with
    | some l => l.mismatch
    | none => false)
  let s := if hit then (s.bump F.VIGIL_INTEG_COUNT).vigilRec 0x35 w h n 5 15 else s
  let x := s.win w
  let heldInt := holdInt x.heldInt v
  let heldUnv := if v.1 = 6 && x.heldUnv = 0 then v.2 else x.heldUnv
  let good := v.1 = 0 && crosses e.2 n
  let reached := if v.1 = 0 || v.1 = base.1 then none else some v
  let fresh := (s.nextLine h).1 = 0
  let s := s.setWin w { x with last := v, heldInt := heldInt, heldUnv := heldUnv, inject := 0,
                               lastGood := if good then x.tag else x.lastGood,
                               freshV := if few then (6, 18) else nextVerdict x.freshV reached 0 0,
                               next := if few then (6, if fresh then 18 else heldUnv)
                                 else if fresh then nextVerdict x.evald reached 0 0
                                 else nextVerdict x.evald reached heldInt heldUnv }
  let s := (s.put (F.VIGIL_WSTATE_VERDICT w) v.1).put (F.VIGIL_WSTATE_REASON w) v.2
  if v.1 != 0 && v.1 != x.last.1 then (s.bump F.VIGIL_SNUFF_COUNT).vigilRec 0x30 w h n v.1 v.2 else s

/-- The head's lines go to a lane group: it is mapped, the group's ROLE is OUT, it is UP and has passed R361, the hop has been
seen, and neither PIXEL nor LINK is lost (R18, R330, R360, R361). -/
def State.headLane (s : State) (h : Nat) : Option (Nat × Nat) :=
  match (s.head h).map with
  | none => none
  | some (l, k) =>
    if s.get (F.LANE_STATE_STAGE l) = 9 && s.get (F.LANE_CFG_ROLE l) = 1 && !(tabGet {} s.lanes l).stopped && (k = 0 || s.bit (F.LANE_STATE_HOPS_SEEN l) (k - 1)) &&
      !bitAt s.power.domLost 4 && !bitAt s.power.domLost 5 then some (l, k) else none

/-- The trailers of the line under way take their valid bits in twin mode (R84); a line that is not judged (R95) has none to
clear. The verdict that a trailer carries is the one under which the window-line was sent, or the path reason of its own
line (R354). Mark: DESIGN CHOICE, log entry 98: when the four lines of the FIFO of R14 are full, the oldest one that waits
is dropped. -/
def State.closeLine (s : State) (h : Nat) : State :=
  let x := s.head h
  let bad := fun (l : WinLine) => x.twin && s.enabled h && (s.win l.win).last = (5, 15)
  let ws := x.sent.wins.map (fun l => { l with verdict := if l.path = 0 then l.verdict else 4
                                               reason := if l.path = 0 then l.reason else l.path
                                               valid := !bad l })
  let line := { x.sent with wins := ws, lvalid := !x.sent.wins.any bad }
  let out := line.full && (s.headLane h).isSome
  let old := ws.map (fun l => (line.no, line.fseq, l.win, l.sent, !l.echo))
  s.setHead h { x with sent := { line with full := false }
                       outq := if out then (x.outq ++ [line]).drop (x.outq.length + 1 - 4) else x.outq
                       outAt := if out && x.outq.length < 4 then x.outAt else 0
                       hist := (if line.full then old else []) ++ x.hist }

/-- VOTE_COMPLETE of head `h` (R61, R77, R78, R81). The last line of a head that has been disabled ends unjudged (R95). -/
def State.voteComplete (s : State) (h : Nat) (ups : List Upset) (pilot : List Nat) (voters : List Upset) : State :=
  let s := pilot.foldl (fun s i => s.failInstance i) s
  let n := s.lineOf h
  let s := if s.enabled h then (s.supWins h).foldl (fun s e => s.voteLine ups voters h n e) s else s
  (s.countSnuffed h).closeLine h

def execVoteComplete (t : Nat) (h : Fin 48) (ups : List Upset) (pilot : List (Fin 3)) (voters : List Upset) (s : State) :
    Host.Outcome State Fault Refusal :=
  .next ((s.advance t).voteComplete h.val ups (pilot.map (fun i => i.val)) voters)

/-- The verdict of a line that starts, or is delivered, now: with fewer than two instances in service UNVERIFIED, and in
ORDERLY_STOP WITHHELD, whatever the line before it was judged (R39, R67, R77). -/
def State.atLine (s : State) (v : Nat × Nat) : Nat × Nat :=
  if s.inService.length < 2 then (if v.1 = 6 then v else (6, 18)) else if !s.running then (7, 20) else v

/-- VERDICT_DELIVERY: the verdicts reach the snuff stage and the compositor (R60 to R62). -/
def State.deliver (s : State) (h : Nat) : State :=
  let b := s.tb (s.master h)
  (s.supWins h).foldl (fun s e =>
    let x := s.win e.1
    s.setWin e.1 { x with snuff := s.atLine x.next
                          comp := s.atLine (if b.timing.vtotal = b.line + 2 then x.freshV else x.next) }) s

def execVerdictDelivery (t : Nat) (h : Fin 48) (s : State) : Host.Outcome State Fault Refusal :=
  .next ((s.advance t).deliver h.val)

/-! ### Frame starts of a head (R51, R52, R65, R77, R203, R401) -/

/-- What ends or is taken at a frame start of head `h` by its windows (R51, R65), the withholds of all its windows with it
(R203). -/
def State.frameWins (s : State) (h : Nat) : State :=
  (s.actWins h).foldl (fun s e =>
    let x := s.win e.1
    let x := { x with withheld := if x.release then none else x.withheld, release := false }
    s.setWin e.1 (if supervised e.2 then
      { x with bounds := s.boundsOf e.2, heldInt := 0, heldUnv := 0, echoLost := false, twinLogged := false } else x)) s

/-- The vigil's part of a frame start of head `h`. -/
def State.vigilFrameStart (s : State) (h : Nat) : State :=
  let s := (s.takeCeil h).frameWins h
  let k := s.head h
  let s := s.setHead h { k with stepHold := if k.stepHold = 2 then 3 else if k.stepHold = 3 then 0 else k.stepHold }
  let s := if s.on F.VIGIL_STATUS_ALL_SNUFF && 2 ≤ s.inService.length then
      (s.putB F.VIGIL_STATUS_ALL_SNUFF false).updMode else s
  if s.refHead = some h then s.vigilFrame else s

/-! ### Registers of the vigil (R52, R76, R87) -/

/-- A colour's largest component (R76). -/
def maxComp (c : Nat) : Nat := max (bits c 16 8) (max (bits c 8 8) (bits c 0 8))

/-- A write of COLOUR_v, v 1 to 7, or of CLOVE_HATCH, 0 (R52, R76). -/
def State.wrColour (s : State) (v : Nat) (x : Word) : State :=
  let f := if v = 0 then F.VIGIL_CLOVE_HATCH else F.VIGIL_COLOUR v
  let c := bits x.toNat 0 24
  if s.on F.VIGIL_CTRL_LOCK then s
  else if (if v = 2 then 0x80 ≤ maxComp c else maxComp c < 0x80) then
    s.raise 0x3D (keyAddr f.key) 0 (s.vigilDet 0 0 v 0)
  else s.put f c

/-- A write of VIGIL.CTRL (R52, R87). -/
def State.wrVigilCtrl (s : State) (v : Word) : State :=
  let n := v.toNat
  let s := if s.on F.VIGIL_CTRL_LOCK then s else s.putB F.VIGIL_CTRL_TWIN (bitAt n 1)
  let s := if bitAt n 0 then s.putB F.VIGIL_CTRL_LOCK true else s
  (s.putB F.VIGIL_CTRL_ECHO (bitAt n 8)).put F.VIGIL_CTRL_ECHO_EVERY (bits n 9 3)

/-- A write of VIGIL.INJECT (R87). -/
def State.wrInject (s : State) (v : Word) : State :=
  let n := v.toNat
  let s := (s.put F.VIGIL_INJECT_WINDOW (bits n 0 11)).put F.VIGIL_INJECT_INSTANCE (bits n 12 2)
  let w := bits n 0 11
  if bitAt n 16 && bits n 12 2 != 3 then s.setWin w { s.win w with inject := bits n 12 2 + 1 } else s

end Sys2Proof.Machine
end

