-- ==== Sys2Proof/Machine/Lanes.lean ====
section
/-! DEFINITION. Dravio lanes as every family sees them: groups, rates, records, packets that wait, and the demands of
mapped heads (R330 to R332, R345, R348, R355, R356, R359 to R361, R365, R378). -/
namespace Sys2Proof.Machine

/-! ### Lanes and groups (R330, R331) -/

def State.lane (s : State) (l : Nat) : Lane := tabGet {} s.lanes l
def State.setLane (s : State) (l : Nat) (x : Lane) : State := { s with lanes := tabSet s.lanes l x }

def roleOut : Nat := 1
def roleIn : Nat := 2

/-- Lanes of a group by the code of GSIZE (R335). -/
def groupSize (g : Nat) : Nat := if g = 0 then 1 else if g = 1 then 2 else 4

/-- Lanes of the group whose lead is `l`. -/
def State.groupN (s : State) (l : Nat) : Nat := groupSize (s.get (F.LANE_CFG_GSIZE l))
def State.groupLanes (s : State) (l : Nat) : List Nat := (List.range (s.groupN l)).map (fun i => l + i)

/-- The lead of the running group that lane `l` belongs to (R331). -/
def State.leadOf (s : State) (l : Nat) : Option Nat :=
  [l, l / 2 * 2, l / 4 * 4].find? (fun m => s.on (F.LANE_CFG_EN m) && l < m + s.groupN m)

def State.laneStage (s : State) (l : Nat) : Nat := s.get (F.LANE_STATE_STAGE l)
/-- The group whose lead is `l` is UP. -/
def State.laneUp (s : State) (l : Nat) : Bool := s.on (F.LANE_CFG_EN l) && s.laneStage l = 9

/-- STATE.STAGE of every member. -/
def State.setStage (s : State) (l st : Nat) : State :=
  (s.groupLanes l).foldl (fun s m => (s.put (F.LANE_STATE_STAGE m) st).setLane m { s.lane m with stageAt := s.time.pix }) s

/-! ### Rates (R332, R341) -/

/-- Line rate of a code in Mbit/s; the reserved code has none. -/
def laneMbps : Nat → Nat
  | 0 => 1250
  | 1 => 2500
  | 2 => 5000
  | 3 => 10000
  | 4 => 16000
  | 5 => 25000
  | 6 => 32000
  | _ => 0

/-- `n` nominal block times at rate code `r`, in PIXEL clocks (R341). -/
def blockTimes (n r : Nat) : Nat := divUp (n * 16514 * 1200) (max 1 (laneMbps r))

/-- Timeout of a stage at rate code `r` in PIXEL clocks, none for stages without one (R341). -/
def stageTimeout (stage r : Nat) : Option Nat :=
  match stage with
  | 2 => some (2 * clkMs)
  | 3 => some (blockTimes 32 r)
  | 4 => some (blockTimes 4 r)
  | 5 => some clkMs
  | 6 => some (blockTimes 64 r)
  | 7 => some (20 * clkMs)
  | 8 => some (3 * clkMs + blockTimes 100 r)
  | _ => none

/-! ### Records (R378) -/

def laneAddr (l : Nat) : Nat := keyAddr (F.LANE_CFG_ROLE l).key

/-- A record of classes 0x20 to 0x2E. Hop and code share bit 8 of the detail (log entry 31). -/
def State.laneRec (s : State) (cls l code : Nat) (hop : Nat := 0) (x : Nat := 0) (a2 : Nat := 0) (lim : Option Nat := none) :
    State :=
  s.raise cls (laneAddr l) a2 ((l % 64 + 0x40 * (hop % 8)) ||| (0x100 * (code % 256)) + 0x10000 * (x % 0x1000)) lim

/-! ### Packets (R348, R355, R359) -/

/-- A packet of type `ty`: its bytes from byte 4 on, padded to 8 bytes, between the header and the check unit. -/
def packet (ty flags : Nat) (rest : List Byte) : List Byte :=
  let body := rest ++ List.replicate (divUp (rest.length + 4) 8 * 8 - 4 - rest.length) 0
  let len := (body.length + 4) / 8 + 1
  let b := leBytes ty 1 ++ leBytes flags 1 ++ leBytes len 2 ++ body ++ [0, 0, 0, 0]
  b ++ leBytes (crc32c b) 4

/-- A CONTROL packet (R355). -/
def controlPacket (sub : Nat) (body : List Byte) : List Byte := packet 0x20 0 (leBytes sub 4 ++ body)

/-- A packet for the lantern at hop `k` (R359). -/
def toHop (k : Nat) (p : List Byte) : List Byte := if k = 0 then p else packet 0x50 k (leBytes 0 4 ++ p)

/-- A control packet waits to be sent by the group whose lead is `l`. -/
def State.queueCtl (s : State) (l k : Nat) (p : List Byte) : State :=
  s.setLane l { s.lane l with ctl := (s.lane l).ctl ++ [toHop k p] }

/-- The CAP body that the part sends (R356). What the manual does not state of it is a free value (log entry 2): ECHO,
NSENSE, TWIN_IN, TRANSFER, HACT, VACT, VENDOR and PRODUCT. -/
def State.capBody (s : State) (l : Nat) : List Byte × State :=
  let (f, s) := s.freeVal 64
  let twin := let t := s.get F.DRAVIO_CTRL_TWIN_ID; if t = 3 then 0 else t
  let ack := if s.on (F.LANE_STATE_PCAP_VALID l) then 0x80 else 0
  (leBytes (0x10 + 4 * twin) 1 ++ leBytes (s.get (F.LANE_CFG_TXMAX l) + 8 * s.get (F.LANE_CFG_RXMAX l) + 0x80) 1 ++
    leBytes (bits f 0 3 + 0x40 * bits f 3 1 + ack) 1 ++ leBytes (7 + 8 * bits f 4 2) 1 ++ leBytes (bits f 6 13) 2 ++
    leBytes (bits f 19 13) 2 ++ [0, 0] ++ leBytes (bits f 32 16) 2 ++ leBytes (bits f 48 16) 2 ++ [0, 0], s)

/-- LANTERN_CFG to the lantern at hop `k`, whose CAP has ECHO or not (R355, R365). -/
def State.lanternCfg (s : State) (l k : Nat) (echo : Bool) : State :=
  let fill := s.get F.DRAVIO_LOSS_FILL
  let twin := let t := s.get F.DRAVIO_CTRL_TWIN_ID; if t = 3 then 0 else t
  let en := if s.on F.VIGIL_CTRL_ECHO && echo then 1 else 0
  s.queueCtl l k (controlPacket 3 (leBytes fill 3 ++ leBytes (en + 2 * min 4 (s.get F.VIGIL_CTRL_ECHO_EVERY) + 0x10 * twin) 1))

/-- LANTERN_CFG to every lantern that the part has heard of on lane group `l` (R365). -/
def State.lanternCfgAll (s : State) (l : Nat) : State :=
  if s.laneUp l && s.get (F.LANE_CFG_ROLE l) = roleOut then
    let s := s.lanternCfg l 0 (bitAt (s.get (F.LANE_PCAP0 l)) 16)
    [1, 2, 3, 4, 5, 6, 7].foldl (fun s k => if s.bit (F.LANE_STATE_HOPS_SEEN l) (k - 1) then s.lanternCfg l k (bitAt (s.lane l).hopEcho k) else s) s
  else s

/-- A change of VIGIL.CTRL.ECHO, VIGIL.CTRL.ECHO_EVERY or DRAVIO.LOSS_FILL (R365). -/
def State.lanternCfgChange (s : State) : State := (List.range 64).foldl (fun s l => s.lanternCfgAll l) s

/-! ### Demand of mapped heads (R361) -/

/-- OUTMAP of head `h` is on and names group `l`. -/
def State.mapsTo (s : State) (h l : Nat) : Bool := s.on (F.DRAVIO_OUTMAP_EN h) && s.get (F.DRAVIO_OUTMAP_LEAD h) = l

/-- Demand D of head `h` in bits a second, as numerator and denominator (R361). -/
def State.headDemand (s : State) (h : Nat) : Nat × Nat :=
  let t := s.timingReg h
  let px := 64 * divUp (3 * s.depth h * t.hactive) 64
  let (qn, qd) := if s.get (F.DRAVIO_OUTMAP_HOP h) = 0 then (64, 63) else (32, 31)
  ((px * qn + 8960 * qd) * t.num * t.vtotal, qd * max 1 t.den)

/-- The demands of the heads that OUTMAP maps to group `l` sum to at most 0.95 × n × G at rate code `r`. G is 16,384 bits
of every 17,062 line bits (R332). -/
def State.demandFits (s : State) (l r : Nat) : Bool :=
  let (n, d) := ((List.range 32).filter (fun h => s.mapsTo h l)).foldl (fun (p : Nat × Nat) h =>
    let q := s.headDemand h; (p.1 * q.2 + q.1 * p.2, p.2 * q.2)) (0, 1)
  n * 100 * 17062 ≤ 95 * s.groupN l * laneMbps r * 1000000 * 16384 * d

/-! ### Scans by remote sense heads (R374) -/

/-- Lane group and hop of remote sense head `k`: its map is on, the group is UP and the hop has been seen. -/
def State.senseLane (s : State) (k : Nat) : Option (Nat × Nat) :=
  let l := s.get (F.DRAVIO_SENSEMAP_LANE k)
  let hop := s.get (F.DRAVIO_SENSEMAP_HOP k)
  if s.on (F.DRAVIO_SENSEMAP_EN k) && s.laneUp l && (hop = 0 || s.bit (F.LANE_STATE_HOPS_SEEN l) (hop - 1)) then some (l, hop) else none

/-- A SCAN goes to remote sense head `k` before any packet not yet begun. -/
def State.sendScan (s : State) (k profile no : Nat) : State :=
  match s.senseLane k with
  | none => s
  | some (l, hop) =>
    let p := controlPacket 4 (leBytes (s.get (F.DRAVIO_SENSEMAP_IDX k)) 1 ++ leBytes profile 1 ++ leBytes no 2)
    s.setLane l { s.lane l with scans := (s.lane l).scans ++ [toHop hop p] }

/-- A command of the touch engine or of host software to remote sense head `k` (R375, R410). -/
def State.sendSenseCmd (s : State) (k : Nat) (cmd : List Byte) : State :=
  match s.senseLane k with
  | none => s
  | some (l, hop) => s.queueCtl l hop (controlPacket 5 (leBytes (s.get (F.DRAVIO_SENSEMAP_IDX k)) 1 ++ cmd))

end Sys2Proof.Machine
end

