-- ==== Sys2Proof/Machine/Touch.lean ====
section
/-! DEFINITION. Console touch: panels, scans, baselines, tracking, electrode tests and reports (R409 to R432). -/
namespace Sys2Proof.Machine

/-! ### Panels (R409, R423) -/

def State.panel (s : State) (p : Nat) : Panel := tabGet {} s.panels p
def State.setPanel (s : State) (p : Nat) (x : Panel) : State := { s with panels := tabSet s.panels p x }

def phaseOff : Nat := 0
def phaseConfig : Nat := 1
def phaseSettle : Nat := 2
def phaseRun : Nat := 3
def phaseFault : Nat := 4

def State.phase (s : State) (p : Nat) : Nat := s.get (F.PANEL_STATE_PHASE p)
def State.drives (s : State) (p : Nat) : Nat := s.get (F.PANEL_CFG_NDRIVE p)
def State.senses (s : State) (p : Nat) : Nat := s.get (F.PANEL_CFG_NSENSE p)

/-- A record of classes 0x90 to 0x98 (R429). -/
def State.touchRec (s : State) (cls p code : Nat) : State :=
  s.raise cls (keyAddr (F.PANEL_CFG_EN p).key) 0 (p % 64 + 0x100 * (code % 256)) (some p)

/-- THRESH.RELEASE, THRESH2.ANTI and HOLD_S as they read (R431). -/
def State.releaseAt (s : State) (p : Nat) : Nat := min (s.get (F.PANEL_THRESH_TOUCH p)) (s.get (F.PANEL_THRESH_RELEASE p))
def State.antiLimit (s : State) (p : Nat) : Int := max 1 (s.get (F.PANEL_THRESH2_ANTI p))
def State.holdTime (s : State) (p : Nat) : Nat := clamp 5 600 (s.get (F.PANEL_HOLD_S p)) * clkS

/-- SAMPLE is lost under R19. -/
def State.sampleLost (s : State) : Bool := s.on F.SYS_DEGRADED_SAMPLE

/-! ### Tokens and rates (R425, R426) -/

def touchHz : Nat → Nat
  | 0 => 240
  | 1 => 120
  | 2 => 60
  | _ => 15

/-- Token capacity in 1/1,200,000,000 token. -/
def State.tokenCap (s : State) (p : Nat) : Nat := max 1 (s.get (F.PANEL_STEP_BURST p)) * clkS

/-- Tokens counted up to now at the current rate. -/
def State.countTokens (s : State) (p : Nat) : State :=
  let x := s.panel p
  let n := x.tok + (s.time.pix - x.tokAt) * touchHz (s.get (F.PANEL_STATE_RATE p))
  s.setPanel p { x with tok := min (s.tokenCap p) n, tokAt := s.time.pix }

/-- 240 Hz, with full tokens. -/
def State.fullRate (s : State) (p : Nat) : State :=
  let s := s.put (F.PANEL_STATE_RATE p) 0
  s.setPanel p { s.panel p with tok := s.tokenCap p, tokAt := s.time.pix }

/-- TOUCH_RATE_STEP: the rate of an idle panel in RUN, with full tokens on a return to 240 Hz (R425, R426). -/
def State.rateStep (s : State) (p : Nat) : State :=
  let x := s.panel p
  if s.phase p != phaseRun || !x.touches.isEmpty || !x.cands.isEmpty then s else
  let n := s.time.pix - x.active
  let r := if s.get (F.PANEL_STEP_STEP3_S p) * clkS ≤ n then 3
    else if s.get (F.PANEL_STEP_STEP2_S p) * clkS ≤ n then 2
    else if s.get (F.PANEL_STEP_STEP1_S p) * clkS ≤ n then 1 else 0
  if r = 0 then (if s.get (F.PANEL_STATE_RATE p) = 0 then s else s.fullRate p)
  else (s.countTokens p).put (F.PANEL_STATE_RATE p) r

def execTouchRateStep (t : Nat) (p : Fin 34) (s : State) : Host.Outcome State Fault Refusal := .next ((s.advance t).rateStep p.val)

/-! ### Reports (R417, R427) -/

/-- X and Y of a position after the transforms of R417. -/
def State.transform (s : State) (p x y : Nat) : Nat × Nat :=
  let x := if s.on (F.PANEL_CFG_FLIP_X p) then 256 * s.drives p - 1 - x else x
  let y := if s.on (F.PANEL_CFG_FLIP_Y p) then 256 * s.senses p - 1 - y else y
  if s.on (F.PANEL_CFG_SWAP_XY p) then (y, x) else (x, y)

/-- An entry of a report: EVENT 0 DOWN, 1 CONTACT, 2 LIFT with its REASON. -/
def State.touchEntry (s : State) (p : Nat) (t : Touch) (event reason : Nat) : List Byte :=
  let (x, y) := s.transform p t.x t.y
  leBytes (t.id + 0x40 * event) 1 ++ leBytes (reason + if t.unchecked then 4 else 0) 1 ++ leBytes x 2 ++ leBytes y 2 ++ leBytes t.z 2

/-- An entry for the ring of TOUCH.CTRL.RING (R427, R428). -/
def State.touchPost (s : State) (p : Nat) (b : List Byte) : State :=
  match s.ringPost touchSrc (s.get F.TOUCH_CTRL_RING) (slice b 0 256) with
  | (0, s) => s
  | (_, s) => (s.bump F.TOUCH_RING_DROP).touchRec 0x96 p 0

/-- A report with the panel's touches and the lifts of the moment. -/
def State.touchReport (s : State) (p flags stamp scan : Nat) (lifts : List (Touch × Nat)) : State :=
  let x := s.panel p
  let es := x.touches.map (fun t => s.touchEntry p t (if t.down then 0 else 1) 0) ++ lifts.map (fun l => s.touchEntry p l.1 2 l.2)
  let s := s.setPanel p { x with rseq := (x.rseq + 1) % 2 ^ 16, touches := x.touches.map (fun t => { t with down := false }) }
  let flags := flags + 2 * s.get (F.PANEL_STATE_RATE p)
  s.touchPost p (leBytes 1 1 ++ leBytes p 1 ++ leBytes es.length 1 ++ leBytes flags 1 ++ leBytes stamp 4 ++ leBytes scan 2 ++
    leBytes x.rseq 2 ++ leBytes 0 4 ++ es.flatten)

/-- STATE.NTOUCH follows the tracked touches. -/
def State.showTouches (s : State) (p : Nat) : State := s.put (F.PANEL_STATE_NTOUCH p) (s.panel p).touches.length

/-- Every touch lifts at once, without a frame (R427). STAMP32 and SCAN of such a report, which no frame caused, are free
values (log entry 2). -/
def State.liftAll (s : State) (p reason : Nat) : State :=
  let x := s.panel p
  let s := (s.setPanel p { x with touches := [], cands := [] }).showTouches p
  if x.touches.isEmpty then s else
  let (a, s) := s.freeVal 32
  let (b, s) := s.freeVal 16
  s.touchReport p 0 a b (x.touches.map (fun t => (t, reason)))

/-! ### Phases and commands to sense heads (R410, R411, R423) -/

def State.setPhase (s : State) (p ph : Nat) : State := s.put (F.PANEL_STATE_PHASE p) ph

/-- Entry to SETTLE with a cause: 0 START, 1 TEST, 2 RECOVERY. -/
def State.enterSettle (s : State) (p cause : Nat) : State :=
  let s := (s.setPhase p phaseSettle).put (F.PANEL_STATE_CAUSE p) cause
  (s.setPanel p { s.panel p with settle := [], redo := [], cands := [] }).fullRate p

/-- A command goes to the sense head of remote panel `p`: its opcode and arguments (R410, R411). -/
def State.startCmd (s : State) (p : Nat) (c : List Byte) : State :=
  let x := s.panel p
  let tag := 0x80 + x.nextTag % 0x80
  let s := s.setPanel p { x with cmd := some ⟨beNat (c.take 1), tag, c.drop 1, s.time.pix, 1⟩, nextTag := x.nextTag + 1 }
  s.sendSenseCmd p (c.take 1 ++ leBytes tag 1 ++ c.drop 1)

/-- The next command of CONFIG, or its end. -/
def State.nextCmd (s : State) (p : Nat) : State :=
  match (s.panel p).todo with
  | [] => (s.setPanel p { s.panel p with cmd := none }).enterSettle p 0
  | c :: r => (s.setPanel p { s.panel p with todo := r }).startCmd p c

/-- The PROFILE_SET commands of CONFIG (R410, R423). -/
def State.profileCmds (s : State) (p : Nat) : List (List Byte) :=
  ([0, 1, 2, 3].filter (fun j => s.on (F.PANEL_PROF_VALID p j))).map (fun j =>
    leBytes 2 1 ++ leBytes j 1 ++ leBytes (s.get (F.PANEL_PROF_KIND p j)) 1 ++ leBytes (s.get (F.PANEL_PROF_FREQ_KHZ p j)) 2 ++
      leBytes (s.get (F.PANEL_PROF_NINT p j)) 1)

/-- Entry to CONFIG. A remote panel whose sense head cannot be reached waits for its group (log entry 33). -/
def State.enterConfig (s : State) (p : Nat) : State :=
  let s := ((s.liftAll p 2).setPhase p phaseConfig).fullRate p
  let s := s.setPanel p { s.panel p with scan := none, busy := none, cmd := none, todo := [] }
  if 32 ≤ p then s.enterSettle p 0
  else if (s.senseLane p).isNone then s
  else (s.setPanel p { s.panel p with todo := s.profileCmds p }).startCmd p [1]

/-- A command has failed for the third time, or IDENT does not match: the panel is in FAULT, without scans (R411, R423). Mark:
DESIGN CHOICE, log entry 145: the touches that it holds lift with reason LOST. -/
def State.toFault (s : State) (p code : Nat) : State :=
  let s := (s.setPhase p phaseFault).liftAll p 2
  let s := s.setPanel p { s.panel p with cmd := none, todo := [], scan := none, busy := none }
  s.touchRec 0x95 p code

/-- A command that got no response, or BUSY (R411). -/
def State.retryCmd (s : State) (p : Nat) (c : SenseCmd) : State :=
  if 3 ≤ c.tries then s.toFault p c.op
  else (s.setPanel p { s.panel p with cmd := some { c with tries := c.tries + 1, at_ := s.time.pix } }).sendSenseCmd p
    (leBytes c.op 1 ++ leBytes c.tag 1 ++ c.args)

/-- SENSE_CMD_TIMEOUT: no response within 10 ms. -/
def State.cmdTimeout (s : State) (p : Nat) : State :=
  match (s.panel p).cmd with
  | none => s
  | some c => if c.at_ + 10 * clkMs ≤ s.time.pix then s.retryCmd p c else s

def execSenseCmdTimeout (t : Nat) (p : Fin 34) (s : State) : Host.Outcome State Fault Refusal := .next ((s.advance t).cmdTimeout p.val)

/-- SENSE_RSP_RX: a response with TAG bit 7 set reaches the engine (R411). `b` starts at OPCODE + 0x80. -/
def State.senseRsp (s : State) (p : Nat) (b : List Byte) : State :=
  match (s.panel p).cmd with
  | none => s
  | some c =>
    if leNat (slice b 0 1) != c.op + 0x80 || leNat (slice b 1 1) != c.tag then s
    else if leNat (slice b 2 1) = 3 then s.retryCmd p c
    else if c.op = 5 then s.setPanel p { s.panel p with cmd := none }
    else if c.op = 1 && (leNat (slice b 7 1) < s.drives p || leNat (slice b 8 1) < s.senses p) then s.toFault p 0xFE
    else s.nextCmd p

/-! ### Triggers (R412 to R414) -/

/-- DUR of a scan in µs, as numerator and denominator (R412). -/
def State.scanDur (s : State) (p j : Nat) : Nat × Nat :=
  if p < 32 then (s.get (F.PANEL_PROFDUR_DUR_US p j), 1) else
  let f := max 1 (s.get (F.PANEL_PROF_FREQ_KHZ p j))
  let n := s.get (F.PANEL_PROF_NINT p j) * 1000
  ((if s.on (F.PANEL_PROF_KIND p j) then n else s.drives p * n) + 10 * f, f)

/-- The scan lies within the quiet interval of its head (R414). -/
def State.quietFits (s : State) (p j : Nat) : Bool :=
  let h := s.get (F.PANEL_CFG_GUARD_HEAD p)
  let t := (s.tb (s.master h)).timing
  let l := s.lineOf h
  let f := s.frac h
  let (n, d) := s.scanDur p j
  let qe := s.get (F.PANEL_QUIET_QEND p) + 1
  s.get (F.PANEL_QUIET_QSTART p) ≤ l && 1024 * l + f < 1024 * qe &&
    1024 * n * t.num * t.vtotal < (1024 * qe - 1024 * l - f) * d * max 1 t.den * 1000000

/-- Values in a frame of profile `j` (R409). -/
def State.frameSize (s : State) (p j : Nat) : Nat :=
  if s.on (F.PANEL_PROF_KIND p j) then s.drives p + s.senses p else s.drives p * s.senses p

/-- The previous scan is outstanding (R374, R413). -/
def State.scanBusy (s : State) (p : Nat) : Bool :=
  if 32 ≤ p then (s.panel p).scan.isSome
  else match (s.panel p).busy with
    | some a => s.time.pix < a + 2 * clkMs
    | none => false

def State.declined (s : State) (p : Nat) : Nat × State := (4, s.bump (F.PANEL_DECLINED p))

/-- A frame is dropped (R415). -/
def State.dropScan (s : State) (p code : Nat) : State :=
  ((s.setPanel p { s.panel p with scan := none }).bump (F.PANEL_FRAME_ERR p)).touchRec 0x90 p code

/-- The scan starts: one token is spent, and SCAN is sent or the local front end starts (R374, R412, R413). A remote frame that
is still not complete then has had its 2 ms (R415). -/
def State.startScan (s : State) (p j : Nat) : State :=
  let s := if (s.panel p).scan.isSome then s.dropScan p 3 else s
  let x := s.panel p
  let self := s.on (F.PANEL_PROF_KIND p j)
  let no := if p < 32 then x.nextScan else 0
  let sc : Scan := ⟨no, j, self, s.stamp32, s.time.pix, List.replicate (s.frameSize p j) none⟩
  let s := s.setPanel p { x with tok := x.tok - clkS, scan := some sc, busy := if p < 32 then some s.time.pix else none,
                                 nextScan := if p < 32 then (x.nextScan + 1) % 2 ^ 16 else x.nextScan }
  if p < 32 then s.sendScan p j no else s

/-- A trigger aimed at panel `p` with profile `j`: the status of R205 (R413). -/
def State.touchTrig (s : State) (p j : Nat) : Nat × State :=
  if (p < 32 && s.nTouch ≤ p) || 3 < j || !s.on (F.PANEL_PROF_VALID p j) then (3, s)
  else if !s.on (F.PANEL_CFG_EN p) || (s.phase p != phaseSettle && s.phase p != phaseRun) || s.sampleLost || !s.running then s.declined p
  else if p < 32 && (s.senseLane p).isNone then s.declined p
  else if s.scanBusy p then (1, s)
  else if s.on (F.PANEL_CFG_GUARD p) && !s.quietFits p j then (s.bump (F.PANEL_GUARD_DECL p)).declined p
  else if s.phase p = phaseSettle && !s.on (F.PANEL_PROF_KIND p j) then s.declined p
  else
    let s := s.countTokens p
    if (s.panel p).tok < clkS then s.declined p else (0, s.startScan p j)

/-! ### Deltas and regions (R416, R421) -/

/-- A line by its bit in the bitmaps of R428 was found faulty. -/
def Panel.bad (x : Panel) (bit : Nat) : Bool := bitAt x.open_ bit || bitAt x.short bit || bitAt x.pair bit

/-- Bit of self line `i` of a panel with `nd` drive lines (R428). -/
def lineBit (nd i : Nat) : Nat := if i < nd then i else 96 + (i - nd)

/-- Deltas of a mutual frame, by node (R416). -/
def nodeDeltas (x : Panel) (nd ns : Nat) (vals : Array Nat) : Array Int :=
  let b := x.nodeB.toArray
  ((List.range (nd * ns)).map (fun i =>
    if x.bad (i / ns) || x.bad (96 + i % ns) then 0 else ((b.getD i 0 / 256 : Nat) : Int) - (vals.getD i 0 : Nat))).toArray

/-- Deltas of a self frame, by line (R416). -/
def lineDeltas (x : Panel) (nd ns : Nat) (vals : Array Nat) : Array Int :=
  let b := x.selfB.toArray
  ((List.range (nd + ns)).map (fun i =>
    if x.bad (lineBit nd i) then 0 else (vals.getD i 0 : Int) - ((b.getD i 0 / 256 : Nat) : Int))).toArray

/-- A rectangle of nodes: first and last drive line, first and last sense line. -/
structure Rect where
  d0 : Nat
  d1 : Nat
  s0 : Nat
  s1 : Nat
deriving DecidableEq, Repr

def inRect (r : Option Rect) (d s : Nat) : Bool :=
  match r with
  | some r => r.d0 ≤ d && d ≤ r.d1 && r.s0 ≤ s && s ≤ r.s1
  | none => false

/-- The anti region of a mutual frame (R421). -/
def antiRect (nd ns : Nat) (limit : Int) (dl : Array Int) : Option Rect :=
  let hit := (List.range (nd * ns)).filter (fun i => dl.getD i 0 ≤ -limit)
  let ds := hit.map (fun i => i / ns)
  let ss := hit.map (fun i => i % ns)
  if hit.isEmpty then none
  else some ⟨ds.foldl min nd - 2, min (nd - 1) (ds.foldl max 0 + 2), ss.foldl min ns - 2, min (ns - 1) (ss.foldl max 0 + 2)⟩

def rectSize (r : Rect) : Nat := (r.d1 + 1 - r.d0) * (r.s1 + 1 - r.s0)

/-- The anti lines of a self frame: anti-touched lines with their neighbours on the same axis to ±2 (R421). -/
def antiLines (nd ns : Nat) (limit : Int) (dl : Array Int) : List Nat :=
  let hit := (List.range (nd + ns)).filter (fun i => dl.getD i 0 ≤ -limit)
  (List.range (nd + ns)).filter (fun i => hit.any (fun j => decide (i < nd) = decide (j < nd) && i ≤ j + 2 && j ≤ i + 2))

/-! ### Baselines (R416) -/

/-- One step of the baseline follower over `dt` µs. -/
def follow (b raw dt : Nat) : Nat := (b + (((raw : Int) * 256 - b) * dt).tdiv 8000000).toNat

/-- µs since the previous complete frame of the same kind, capped. -/
def State.frameDt (s : State) (last : Option Nat) : Nat :=
  match last with
  | some a => min 1000000 ((s.time.pix - a) / clkUs)
  | none => 0

/-- Baselines after a frame: re-baselined where `redo` says so, followed when `free`. -/
def newBase (b vals : List Nat) (redo : Nat → Bool) (free : Bool) (dt : Nat) : List Nat :=
  let v := vals.toArray
  let b := b.toArray
  (List.range vals.length).map (fun i =>
    if redo i then v.getD i 0 * 256 else if free then follow (b.getD i 0) (v.getD i 0) dt else b.getD i 0)

/-! ### Peaks (R417) -/

/-- The neighbours of a node, itself among them, as offsets that exist. -/
def around (nd ns d s : Nat) : List (Int × Int) :=
  ([(-1, -1), (-1, 0), (-1, 1), (0, -1), (0, 0), (0, 1), (1, -1), (1, 0), (1, 1)] : List (Int × Int)).filter (fun o =>
    0 ≤ (d : Int) + o.1 && (d : Int) + o.1 < nd && 0 ≤ (s : Int) + o.2 && (s : Int) + o.2 < ns)

def nodeAt (ns d s : Nat) (o : Int × Int) : Nat := ((d : Int) + o.1).toNat * ns + ((s : Int) + o.2).toNat

def isPeak (nd ns : Nat) (limit : Int) (r : Option Rect) (dl : Array Int) (i : Nat) : Bool :=
  let v := dl.getD i 0
  let d := i / ns
  let s := i % ns
  limit ≤ v && !inRect r d s && (around nd ns d s).all (fun o =>
    let j := nodeAt ns d s o
    if j < i then dl.getD j 0 < v else dl.getD j 0 ≤ v)

/-- round(256 × (d + S / W)) + 128, halves upward. -/
def centroid (d : Nat) (sum : Int) (w : Nat) : Nat := ((512 * ((d : Int) * w + sum) + w) / (2 * w)).toNat + 128

/-- The peak at a node. With no weight around it the manual states no position: a free value (log entry 2). -/
def State.peakAt (s : State) (nd ns : Nat) (dl : Array Int) (i : Nat) : Peak × State :=
  let d := i / ns
  let e := i % ns
  let ws := (around nd ns d e).map (fun o => (o, (max 0 (dl.getD (nodeAt ns d e o) 0)).toNat))
  let w := (ws.map (fun a => a.2)).sum
  let sd := (ws.map (fun a => (a.2 : Int) * a.1.1)).sum
  let ss := (ws.map (fun a => (a.2 : Int) * a.1.2)).sum
  if w = 0 then
    let (x, s) := s.freeVal 16
    let (y, s) := s.freeVal 16
    (⟨d, e, x, y, 0, dl.getD i 0, 0⟩, s)
  else (⟨d, e, centroid d sd w, centroid e ss w, min 65535 w, dl.getD i 0, 0⟩, s)

/-- The peaks of a mutual frame. -/
def State.peaksOf (s : State) (nd ns : Nat) (limit : Int) (r : Option Rect) (dl : Array Int) : List Peak × State :=
  (((List.range (nd * ns)).filter (isPeak nd ns limit r dl)).foldl (fun (a : List Peak × State) i =>
    let (p, s) := a.2.peakAt nd ns dl i; (a.1 ++ [p], s)) ([], s))

/-! ### Tracking (R418 to R420) -/

def dist2 (x y a b : Nat) : Nat := (max x a - min x a) ^ 2 + (max y b - min y b) ^ 2

/-- A possible pair: squared distance, ID of the touch, number of the peak. -/
abbrev Pair := Nat × Nat × Nat

def insertPair (e : Pair) : List Pair → List Pair
  | [] => [e]
  | f :: r => if e.1 < f.1 || (e.1 = f.1 && e.2.1 < f.2.1) then e :: f :: r else f :: insertPair e r

/-- Tracked touches with the peaks they pair with, nearest first (R418). -/
def pairUp (maxMove : Nat) (ts : List Touch) (ps : List Peak) : List (Nat × Nat) :=
  let all := ts.flatMap (fun t => ps.zipIdx.map (fun (e : Peak × Nat) => (dist2 t.x t.y e.1.x e.1.y, t.id, e.2)))
  let all := (all.filter (fun e => e.1 ≤ maxMove ^ 2)).foldl (fun l e => insertPair e l) []
  all.foldl (fun (m : List (Nat × Nat)) e =>
    if m.any (fun q => q.1 = e.2.1 || q.2 = e.2.2) then m else m ++ [(e.2.1, e.2.2)]) []

/-- What tracking finds in a frame: touches that stay, lifts with their reasons, IDs still in use, touches re-baselined. -/
structure Track where
  stay : List Touch := []
  lifts : List (Touch × Nat) := []
  recal : List Touch := []
deriving DecidableEq, Repr

/-- A paired touch takes its peak's place; its still timer runs (R418, R420). -/
def State.follow1 (s : State) (p : Nat) (k : Track) (t : Touch) (pk : Option Peak) : Track :=
  match pk with
  | none => { k with lifts := k.lifts ++ [(t, 0)] }
  | some q =>
    let t := { t with x := q.x, y := q.y, z := q.z, d := q.d, s := q.s }
    if s.get (F.PANEL_MOVE_STILL p) ^ 2 < dist2 t.x t.y t.sx t.sy then
      { k with stay := k.stay ++ [{ t with sx := t.x, sy := t.y, stillAt := s.time.pix }] }
    else if t.stillAt + s.holdTime p ≤ s.time.pix then { k with lifts := k.lifts ++ [(t, 1)], recal := k.recal ++ [t] }
    else { k with stay := k.stay ++ [t] }

/-- The first ID after the last one assigned that is not in use (R418). -/
def nextId (last : Nat) (used : List Nat) : Nat :=
  (((List.range 64).map (fun i => (last + 1 + i) % 64)).find? (fun i => !used.contains i)).getD 0

def insertPeak (e : Peak) : List Peak → List Peak
  | [] => [e]
  | f :: r => if f.z < e.z then e :: f :: r else f :: insertPeak e r

/-- Candidates are admitted in order of falling Z while touches and lifts stay at most 20 (R418). Answers whether one was
not admitted. -/
def State.admitPeaks (s : State) (p : Nat) (lifts : List (Touch × Nat)) (unchecked : Bool) (cs : List Peak) : Bool × State :=
  (cs.foldl (fun l e => insertPeak e l) []).foldl (fun (a : Bool × State) c =>
    let s := a.2
    let x := s.panel p
    if x.touches.length + lifts.length < 20 then
      let id := nextId x.lastId (x.touches.map (fun t => t.id) ++ lifts.map (fun l => l.1.id))
      let t : Touch := ⟨id, c.x, c.y, c.z, c.d, c.s, c.x, c.y, s.time.pix, unchecked, true⟩
      (a.1, s.setPanel p { x with touches := x.touches ++ [t], lastId := id })
    else (true, (s.bump (F.PANEL_OVERFLOW p)).touchRec 0x94 p 0)) (false, s)

/-! ### Complete frames (R415, R416, R421 to R424) -/

/-- A region of a panel is anti-touched so widely that the panel recovers (R422). -/
def State.recover (s : State) (p flags : Nat) (sc : Scan) : State :=
  let x := s.panel p
  let lifts := x.touches.map (fun t => (t, 1))
  let s := (s.setPanel p { x with touches := [], cands := [] }).showTouches p
  let s := if lifts.isEmpty then s else s.touchReport p flags sc.stamp sc.no lifts
  (s.enterSettle p 2).touchRec 0x98 p 0

/-- The end of a frame in RUN: what holds a touch or a candidate, and the report (R425, R427). -/
def State.endFrame (s : State) (p : Nat) (sc : Scan) (found overflow : Bool) (lifts : List (Touch × Nat)) : State :=
  let s := if found then s.fullRate p else s
  let x := s.panel p
  let s := (s.setPanel p { x with active := if x.touches.isEmpty && x.cands.isEmpty && !found then x.active else s.time.pix }).showTouches p
  if x.touches.isEmpty && lifts.isEmpty then s
  else s.touchReport p ((if sc.self then 1 else 0) + if overflow then 8 else 0) sc.stamp sc.no lifts

/-- A mutual frame in RUN (R416 to R422). -/
def State.mutualFrame (s : State) (p : Nat) (sc : Scan) (vals : List Nat) : State :=
  let x := s.panel p
  let nd := s.drives p
  let ns := s.senses p
  let dt := s.frameDt x.lastMut
  let s := s.setPanel p { x with lastMut := some s.time.pix }
  if x.first then s.setPanel p { s.panel p with first := false, nodeB := vals.map (fun v => v * 256) } else
  let dl := nodeDeltas x nd ns vals.toArray
  let r := antiRect nd ns (s.antiLimit p) dl
  let big := match r with
    | some r => decide (nd * ns < 4 * rectSize r)
    | none => false
  if big then s.recover p 0 sc else
  let hit := x.touches.filter (fun t => inRect r (t.x / 256) (t.y / 256))
  let s := if r.isSome then (s.bump (F.PANEL_ANTI p)).touchRec 0x92 p 0 else s
  let live := x.touches.filter (fun t => !inRect r (t.x / 256) (t.y / 256))
  let (peaks, s) := s.peaksOf nd ns (s.releaseAt p) r dl
  let pairs := pairUp (s.get (F.PANEL_MOVE_MAX_MOVE p)) live peaks
  let k := live.foldl (fun k t =>
    s.follow1 p k t ((pairs.find? (fun q => q.1 = t.id)).bind (fun q => peaks[q.2]?))) { lifts := hit.map (fun t => (t, 1)) }
  let s := k.recal.foldl (fun s _ => (s.bump (F.PANEL_RECAL p)).touchRec 0x91 p 0) s
  let cs := (peaks.zipIdx.filter (fun (e : Peak × Nat) => (s.get (F.PANEL_THRESH_TOUCH p) : Int) ≤ e.1.delta &&
    !pairs.any (fun q => q.2 = e.2))).map (fun e => { e.1 with at_ := s.time.pix })
  let near := fun (t : Touch) (i : Nat) => i / ns ≤ t.d + 2 && t.d ≤ i / ns + 2 && i % ns ≤ t.s + 2 && t.s ≤ i % ns + 2
  let x := s.panel p
  let lines := k.recal.flatMap (fun t => (List.range (nd + ns)).filter (fun i =>
    if i < nd then i ≤ t.d + 2 && t.d ≤ i + 2 else i - nd ≤ t.s + 2 && t.s ≤ i - nd + 2))
  let s := s.setPanel p { x with touches := k.stay, redo := x.redo ++ lines }
  let (over_, s) := if s.on (F.PANEL_CFG_WATER p) then (false, s.setPanel p { s.panel p with cands := x.cands ++ cs })
    else s.admitPeaks p k.lifts false cs
  let x := s.panel p
  let s := s.setPanel p { x with nodeB := newBase x.nodeB vals (fun i => inRect r (i / ns) (i % ns) || k.recal.any (fun t => near t i))
                                            (x.touches.isEmpty && x.cands.isEmpty) dt }
  s.endFrame p sc (!cs.isEmpty) over_ k.lifts

/-- A self frame in RUN (R416, R419 to R422). -/
def State.selfFrame (s : State) (p : Nat) (sc : Scan) (vals : List Nat) : State :=
  let x := s.panel p
  let nd := s.drives p
  let ns := s.senses p
  let dt := s.frameDt x.lastSelf
  let s := s.setPanel p { x with lastSelf := some s.time.pix, redo := [] }
  let dl := lineDeltas x nd ns vals.toArray
  let anti := antiLines nd ns (s.antiLimit p) dl
  if nd + ns < 4 * anti.length then s.recover p 1 sc else
  let inAnti := fun (t : Touch) => anti.contains (t.x / 256) && t.x / 256 < nd || anti.contains (nd + t.y / 256)
  let s := if anti.isEmpty then s else (s.bump (F.PANEL_ANTI p)).touchRec 0x92 p 0
  let lifts := (x.touches.filter inAnti).map (fun t => (t, 1))
  let limit : Int := s.get (F.PANEL_THRESH2_SELF p)
  let pass := x.cands.filter (fun c => limit ≤ dl.getD c.d 0 && limit ≤ dl.getD (nd + c.s) 0)
  let s := s.setPanel p { s.panel p with touches := x.touches.filter (fun t => !inAnti t), cands := [] }
  let (over_, s) := s.admitPeaks p lifts false pass
  let y := s.panel p
  let s := s.setPanel p { y with selfB := newBase y.selfB vals (fun i => anti.contains i || x.redo.contains i) y.touches.isEmpty dt }
  s.endFrame p sc false over_ lifts

/-! ### SETTLE (R423, R424, R428) -/

def insertSorted (n : Nat) : List Nat → List Nat
  | [] => [n]
  | m :: r => if n ≤ m then n :: m :: r else m :: insertSorted n r

/-- Twice the median. -/
def median2 (l : List Nat) : Nat :=
  let a := l.foldl (fun r n => insertSorted n r) []
  if a.length % 2 = 1 then 2 * nth 0 a (a.length / 2) else nth 0 a (a.length / 2 - 1) + nth 0 a (a.length / 2)

/-- Lines of an axis in a PAIR fault, from four-frame sums: both of two neighbours exceed 1.6 medians (R424). -/
def pairFaults (l : List Nat) : List Nat :=
  let m := median2 l
  let high := fun i => i < l.length && 4 * m < 5 * nth 0 l i
  (List.range l.length).filter (fun i => high i && (high (i + 1) || (0 < i && high (i - 1))))

def bitsOf (l : List Nat) : Nat := l.foldl (fun n i => setBit n i true) 0

/-- Four self frames have come: baselines, electrode tests, the ELECTRODES entry, and RUN. -/
def State.settled (s : State) (p : Nat) (frames : List (List Nat)) : State :=
  let nd := s.drives p
  let ns := s.senses p
  let sums := (List.range (nd + ns)).map (fun i => (frames.map (fun f => nth 0 f i)).sum)
  let at_ := fun (f : Nat → Bool) => ((List.range (nd + ns)).filter (fun i => f (nth 0 sums i))).map (lineBit nd)
  let op := at_ (fun v => v < 4 * s.get (F.PANEL_LIMITS_OPEN p))
  let sh := at_ (fun v => 4 * s.get (F.PANEL_LIMITS_SHORT p) ≤ v)
  let pr := pairFaults (sums.take nd) ++ (pairFaults (sums.drop nd)).map (fun i => 96 + i)
  let x := s.panel p
  let s := s.setPanel p { x with settle := [], selfB := sums.map (fun v => v * 64), open_ := bitsOf op, short := bitsOf sh,
                                 pair := bitsOf pr, first := true, lastSelf := some s.time.pix, active := s.time.pix }
  let log := fun (s : State) (l : List Nat) => if l.isEmpty then s else s.touchRec 0x93 p l.length
  let s := log (log (log s op) sh) pr
  let s := s.touchPost p (leBytes 2 1 ++ leBytes p 1 ++ leBytes (s.get (F.PANEL_STATE_CAUSE p)) 1 ++
    leBytes (op ++ sh ++ pr).eraseDups.length 1 ++ leBytes s.stamp32 4 ++ leBytes 0 8 ++ leBytes (bitsOf op) 20 ++
    leBytes (bitsOf sh) 20 ++ leBytes (bitsOf pr) 20)
  s.setPhase p phaseRun

/-- TOUCH_FRAME: a complete frame (R415, R416, R423); none in an orderly stop (R508). -/
def State.touchFrame (s : State) (p : Nat) (sc : Scan) (vals : List Nat) : State :=
  if !s.running then s.setPanel p { s.panel p with scan := none } else
  let s := (s.setPanel p { s.panel p with scan := none }).bump (F.PANEL_FRAMES p)
  if s.phase p = phaseSettle then
    if !sc.self then s else
    let fs := (s.panel p).settle ++ [vals]
    if fs.length < 4 then s.setPanel p { s.panel p with settle := fs } else s.settled p fs
  else if s.phase p = phaseRun then (if sc.self then s.selfFrame p sc vals else s.mutualFrame p sc vals)
  else s

/-- SENSE_DATA_RX for remote panel `p`: SCAN, OFFSET, TOTAL, LAST and values (R358, R415). The LAST packet ends the scan for
R374 although its frame has been dropped. -/
def State.senseData (s : State) (p no off total : Nat) (last : Bool) (vals : List Nat) : State :=
  match (s.panel p).scan with
  | none => if last && (no + 1) % 2 ^ 16 = (s.panel p).nextScan then s.setPanel p { s.panel p with busy := none } else s
  | some sc =>
    if no != sc.no then s.dropScan p 4
    else
      let s := if last then s.setPanel p { s.panel p with busy := none } else s
      if total != sc.vals.length || total < off + vals.length then s.dropScan p 2
      else
        let got := sc.vals.take off ++ vals.map some ++ sc.vals.drop (off + vals.length)
        if !last then s.setPanel p { s.panel p with scan := some { sc with vals := got } }
        else if got.any (fun v => v.isNone) then s.dropScan p 1
        else s.touchFrame p sc (got.map (fun v => v.getD 0))

/-- LOCAL_SCAN_DONE: a local front end has taken its last count. -/
def State.localScan (s : State) (p : Nat) (counts : List Nat) : State :=
  match (s.panel p).scan with
  | none => s
  | some sc => if p < 32 then s else s.touchFrame p sc ((List.range sc.vals.length).map (fun i => nth 0 counts i))

def execLocalScanDone (t : Nat) (p : Fin 34) (counts : List (BitVec 16)) (s : State) : Host.Outcome State Fault Refusal :=
  .next ((s.advance t).localScan p.val (counts.map (fun c => c.toNat)))

/-- TOUCH_FRAME_TIMEOUT: a remote frame is not complete 2 ms after its SCAN. -/
def State.frameTimeout (s : State) (p : Nat) : State :=
  match (s.panel p).scan with
  | none => s
  | some sc => if p < 32 && sc.at_ + 2 * clkMs ≤ s.time.pix then s.dropScan p 3 else s

def execTouchFrameTimeout (t : Nat) (p : Fin 34) (s : State) : Host.Outcome State Fault Refusal := .next ((s.advance t).frameTimeout p.val)

/-- WATER_TIMEOUT: candidates that have waited 50 ms for a self frame are admitted unchecked (R419). -/
def State.waterTimeout (s : State) (p : Nat) : State :=
  let x := s.panel p
  let due := x.cands.filter (fun c => c.at_ + 50 * clkMs ≤ s.time.pix)
  if due.isEmpty then s else
  let s := s.setPanel p { x with cands := x.cands.filter (fun c => s.time.pix < c.at_ + 50 * clkMs) }
  (s.admitPeaks p [] true due).2.showTouches p

def execWaterTimeout (t : Nat) (p : Fin 34) (s : State) : Host.Outcome State Fault Refusal := .next ((s.advance t).waterTimeout p.val)

/-! ### Groups, maps and SAMPLE (R423) -/

/-- The panel's group, its map or SAMPLE is lost. -/
def State.panelLost (s : State) (p : Nat) : State :=
  if s.phase p = phaseOff || s.phase p = phaseFault then s else
  let s := s.liftAll p 2
  s.setPanel p { s.panel p with scan := none, busy := none, cmd := none }

/-- The panel's group comes UP. -/
def State.panelUp (s : State) (p : Nat) : State :=
  if s.phase p = phaseOff || s.phase p = phaseFault then s else s.enterConfig p

/-- Remote panels whose maps name lane group `l`. -/
def State.panelsOn (s : State) (l : Nat) : List Nat :=
  (List.range 32).filter (fun k => s.on (F.DRAVIO_SENSEMAP_EN k) && s.get (F.DRAVIO_SENSEMAP_LANE k) = l)

def State.touchGroupDown (s : State) (l : Nat) : State := (s.panelsOn l).foldl State.panelLost s
def State.touchGroupUp (s : State) (l : Nat) : State := (s.panelsOn l).foldl State.panelUp s
/-- A hop of a group is seen: the panels behind it can be reached. -/
def State.touchHopUp (s : State) (l hop : Nat) : State :=
  ((s.panelsOn l).filter (fun k => s.get (F.DRAVIO_SENSEMAP_HOP k) = hop)).foldl State.panelUp s
def State.touchSampleLost (s : State) : State := (List.range 34).foldl State.panelLost s
/-- SAMPLE returns: a panel in CONFIG, SETTLE or RUN enters SETTLE with cause RECOVERY (R423). -/
def State.touchSampleBack (s : State) : State :=
  (List.range 34).foldl (fun s p => if s.phase p = phaseOff || s.phase p = phaseFault then s
    else (s.setPanel p { s.panel p with cmd := none, todo := [] }).enterSettle p 2) s

/-! ### Registers (R430, R431) -/

/-- The code of the first check of R430 that fails, 0 for none. -/
def State.panelCode (s : State) (p : Nat) : Nat :=
  let nd := s.drives p
  let ns := s.senses p
  let valid := [0, 1, 2, 3].filter (fun j => s.on (F.PANEL_PROF_VALID p j))
  if nd < 4 || 96 < nd || ns < 4 || 64 < ns || 4096 < nd * ns || (32 ≤ p && (40 < nd || 24 < ns)) then 1
  else if valid.isEmpty || valid.any (fun j => s.get (F.PANEL_PROF_FREQ_KHZ p j) < 100 || 1000 < s.get (F.PANEL_PROF_FREQ_KHZ p j) ||
      s.get (F.PANEL_PROF_NINT p j) < 4) then 2
  else if (s.on (F.PANEL_CFG_GUARD p) && s.nHeads ≤ s.get (F.PANEL_CFG_GUARD_HEAD p)) ||
      s.get (F.PANEL_QUIET_QEND p) < s.get (F.PANEL_QUIET_QSTART p) then 3
  else if s.get (F.PANEL_STEP_STEP2_S p) ≤ s.get (F.PANEL_STEP_STEP1_S p) ||
      s.get (F.PANEL_STEP_STEP3_S p) ≤ s.get (F.PANEL_STEP_STEP2_S p) then 4
  else 0

/-- Local panel `p` is fenced (R539). -/
def State.panelFenced (s : State) (p : Nat) : Bool := 32 ≤ p && bitAt (s.get F.SYS_FENCE_TOUCH) (p - 32)

/-- The panel leaves service (R423). -/
def State.panelOff (s : State) (p : Nat) : State :=
  let s := (s.putB (F.PANEL_CFG_EN p) false).setPhase p phaseOff
  let s := s.liftAll p 2
  s.setPanel p { s.panel p with scan := none, busy := none, cmd := none, todo := [] }

/-- A write of CFG of panel `p` (R430). -/
def State.wrPanelCfg (s : State) (p : Nat) (v : Word) : State :=
  let key := (F.PANEL_CFG_EN p).key
  if s.on (F.PANEL_CFG_EN p) then (if bitAt v.toNat 0 then s else s.panelOff p)
  else
    let s := s.writeBits key (s.rwBits key - 1) v
    if !bitAt v.toNat 0 then s
    else
      let c := s.panelCode p
      if c != 0 then s.touchRec 0x97 p c
      else
        let s := s.putB (F.PANEL_CFG_EN p) true
        if s.panelFenced p then s else s.enterConfig p

def execPanelEnable (i : Initiator) (p : Fin 34) (v : Word) (s : State) : Host.Outcome State Fault Refusal :=
  .next (s.asWrite i (F.PANEL_CFG_EN p.val).key v (fun s => s.wrPanelCfg p.val v))

def execPanelDisable (i : Initiator) (p : Fin 34) (v : Word) (s : State) : Host.Outcome State Fault Refusal :=
  .next (s.asWrite i (F.PANEL_CFG_EN p.val).key v (fun s => s.wrPanelCfg p.val v))

/-- A write of CMD of panel `p`: TEST, or RECOVER, outside RUN without effect (R431). TEST goes before RECOVER when both
are written. -/
def State.wrPanelCmd (s : State) (p : Nat) (v : Word) : State :=
  if s.phase p != phaseRun then s
  else if bitAt v.toNat 0 then (s.liftAll p 3).enterSettle p 1
  else if bitAt v.toNat 1 then (s.liftAll p 1).enterSettle p 2
  else s

def execTouchCmdTest (i : Initiator) (p : Fin 34) (v : Word) (s : State) : Host.Outcome State Fault Refusal :=
  .next (s.asWrite i (F.PANEL_CMD_TEST p.val).key v (fun s => s.wrPanelCmd p.val v))

def execTouchCmdRecover (i : Initiator) (p : Fin 34) (v : Word) (s : State) : Host.Outcome State Fault Refusal :=
  .next (s.asWrite i (F.PANEL_CMD_TEST p.val).key v (fun s => s.wrPanelCmd p.val v))

/-- A write of register `k`, a word offset, of panel `p` (R430, R431): PROF only while EN is 0. The tokens of the time before a
write of STEP are those of the old BURST (R426). -/
def State.wrPanel (s : State) (p k : Nat) (v : Word) : State :=
  let key := (F.PANEL_CFG_EN p).key + 4 * k
  if k = 0 then s.wrPanelCfg p v
  else if k = 24 then s.wrPanelCmd p v
  else if 8 ≤ k && k ≤ 11 && s.on (F.PANEL_CFG_EN p) then s
  else (if key = (F.PANEL_STEP_BURST p).key then s.countTokens p else s).writeBits key (s.rwBits key) v

/-- The word at offset `o` of the baseline table of panel `p`: two halfwords of B / 256 (R432). -/
def State.baselineWord (s : State) (p o : Nat) : Word :=
  let x := s.panel p
  let half := fun (a : Nat) => if a < 0x2000 then nth 0 x.nodeB (a / 2) / 256 else nth 0 x.selfB ((a - 0x2000) / 2) / 256
  BitVec.ofNat 32 (half (o / 4 * 4) + 65536 * half (o / 4 * 4 + 2))

end Sys2Proof.Machine
end

