-- ==== Sys2Proof/Machine/Clock.lean ====
section
/-! DEFINITION. The clock domains as the health monitors see them (R12, R13, R16 to R20, R509). Domains go by the bit order
of CLK.STATUS.LOCK: REF 0, CORE 1, MEM 2, MEDIA 3, PIXEL 4, LINK 5, NET 6, SAMPLE 7. -/
namespace Sys2Proof.Machine

/-- REF_SWITCH: the source in use is lost and the other one takes over (R13). -/
def State.refSwitch (s : State) : State :=
  ((s.putB F.CLK_STATUS_REF_SRC (!s.on F.CLK_STATUS_REF_SRC)).putB F.CLK_FAULT_REF_SWITCH true).raise 0x7D 0 0 0

def execRefSwitch (t : Nat) (s : State) : Host.Outcome State Fault Refusal := .next (s.advance t).refSwitch

/-- REF_LOST_BOTH: the part resets to OFF (R13, R525). -/
def execRefLostBoth (t : Nat) (s : State) : Host.Outcome State Fault Refusal := .next (s.advance t).railsOff

/-- Nominal frequency of a domain in kHz (R11). -/
def State.nominalKhz (s : State) (d : Nat) : Nat :=
  match d with
  | 0 => 25000
  | 1 => 1600000
  | 2 => 1066500
  | 3 => 1024000
  | 4 => 1200000
  | 5 => 1000000
  | 6 => 390625
  | _ => s.sampleBase / 1000

/-- SAMPLE is lost or drifts: audio is muted, local and remote scans stop, and the part degrades (R19, R524). -/
def State.loseSample (s : State) : State :=
  if s.on F.SYS_DEGRADED_SAMPLE then s
  else ((s.putB F.SYS_DEGRADED_SAMPLE true).audioSampleLost.touchSampleLost).updMode

/-- What the loss or drift of a domain calls for: the loss of REF is the matter of REF_SWITCH and REF_LOST_BOTH (R13,
R17, R19). -/
def State.domainFails (s : State) (d : Nat) : State :=
  if d = 0 then s else if d = 7 then s.loseSample else s.orderlyStop 7

/-- CLOCK_LOSS: no edge for 1 µs (R16). -/
def State.clockLoss (s : State) (d : Nat) : State :=
  let s := ((s.putBit F.CLK_FAULT_LOSS d true).putB F.TEST_COND_CLK_OK false).raise 0x7E 0 0 0
  { s with power := { s.power with domLost := setBit s.power.domLost d true } }.domainFails d

def execClockLoss (t : Nat) (d : Fin 8) (s : State) : Host.Outcome State Fault Refusal := .next ((s.advance t).clockLoss d.val)

/-- CLOCK_DRIFT: a 1 ms gate reads `khz`, more than 1 % off (R16, R536). -/
def State.clockDrift (s : State) (d khz : Nat) : State :=
  let s := s.put (F.CLK_MEAS_KHZ d) khz
  let n := s.nominalKhz d
  let off := max khz n - min khz n
  let s := { s with power := { s.power with domOff := setBit s.power.domOff d (n < 50 * off) } }
  if 100 * off ≤ n then s
  else
    let s := (s.putBit F.CLK_FAULT_DRIFT d true).raise 0x7F 0 0 0
    let s := if 50 * off ≤ n then s else s.putB F.TEST_COND_CLK_OK false
    s.domainFails d

def execClockDrift (t : Nat) (d : Fin 8) (khz : Nat) (s : State) : Host.Outcome State Fault Refusal :=
  .next ((s.advance t).clockDrift d.val khz)

/-- A write of SAMPLE_CFG: in READY or SERVICE only (R20). -/
def State.wrSampleCfg (s : State) (v : Word) : State :=
  if s.mode = modeReady || s.mode = modeService then s.putB F.CLK_SAMPLE_CFG_BASE (bitAt v.toNat 0)
  else s.raise 0x7C 0 0 0

def execSampleCfgWrite (i : Initiator) (v : Word) (s : State) : Host.Outcome State Fault Refusal :=
  .next (s.asWrite i F.CLK_SAMPLE_CFG_BASE.key v (fun s => s.wrSampleCfg v))

/-- SAMPLE_RETURNS (R423, R438, R524). -/
def State.sampleBack (s : State) : State :=
  if !s.on F.SYS_DEGRADED_SAMPLE then s else
  let s := { s with power := { s.power with domLost := setBit s.power.domLost 7 false, domOff := setBit s.power.domOff 7 false } }
  ((s.putB F.SYS_DEGRADED_SAMPLE false).audioSampleBack.touchSampleBack).updMode

def execSampleReturns (t : Nat) (s : State) : Host.Outcome State Fault Refusal := .next (s.advance t).sampleBack

end Sys2Proof.Machine
end

