-- ==== Sys2Proof/Machine/Cores.lean ====
section
/-! DEFINITION. Starting, halting and watching the sconce cores (R173 to R177), and the debugger's halt (R151, R214). -/
namespace Sys2Proof.Machine

/-- Core `c` starts (R174, R207): its system registers other than PSTATE keep what they hold. Mark: DESIGN CHOICE, log entry 122:
its watchdog period begins anew. -/
def State.startCore (s : State) (c : Nat) : State :=
  let e := s.engine c
  let pc := s.get (F.CORE_ENTRY_LO c) / 4 * 4 + 2 ^ 32 * s.get (F.CORE_ENTRY_HI c)
  let s := s.setEngine c { e with g := [], pc := pc, sr := tabErase e.sr 1, startAt := s.time.pix, retired := 0, wait := .none,
                                  impr := [], halting := none, kickAt := s.time.pix,
                                  tb := List.replicate 32 0 }
  s.put (F.CORE_STATE c) 1

/-- A write of CTL of core `c` (R173 to R175): a write of 0 also clears DOUBLE_FAULT and WATCHDOG; every other write has no
effect, on RUN neither. A core that JTAG starts
while no image is loaded turns BOOT_STATUS.SLOT to JTAG (R535). -/
def State.wrCoreCtl (s : State) (src : Src) (c : Nat) (v : Word) : State :=
  let st := s.get (F.CORE_STATE c)
  let run := bitAt v.toNat 0
  if run then
    if st != 0 then s
    else
      let s := s.putB (F.CORE_CTL_RUN c) true
      let s := if src.id.val = 0x7E && s.mode = modeService && s.get F.SYS_BOOT_STATUS_SLOT = 2 then s.put F.SYS_BOOT_STATUS_SLOT 3 else s
      s.startCore c
  else if st = 3 || st = 4 then (s.putB (F.CORE_CTL_RUN c) false).put (F.CORE_STATE c) 0
  else if st = 1 || st = 2 then (s.putB (F.CORE_CTL_RUN c) false).haltCore c
  else s

def execCoreStart (i : Initiator) (c : Fin 16) (v : Word) (s : State) : Host.Outcome State Fault Refusal :=
  .next (s.asWrite i (F.CORE_CTL_RUN c.val).key v (fun s => s.wrCoreCtl (s.issuer i) c.val v))

def execCoreHalt (i : Initiator) (c : Fin 16) (v : Word) (s : State) : Host.Outcome State Fault Refusal :=
  .next (s.asWrite i (F.CORE_CTL_RUN c.val).key v (fun s => s.wrCoreCtl (s.issuer i) c.val v))

/-- The watchdog of core `c` watches it (R173, R176). -/
def State.watched (s : State) (c : Nat) : Bool :=
  (s.get (F.CORE_STATE c) = 1 || s.get (F.CORE_STATE c) = 2) && s.get (F.CORE_WDOG_CFG c) != 0

/-- The PIXEL clock at which the watchdog period of core `c` ends (R176). -/
def State.wdogEnd (s : State) (c : Nat) : Nat := (s.engine c).kickAt + s.get (F.CORE_WDOG_CFG c) * clkUs

/-- CORE_WATCHDOG: the period has passed without a valid kick; the core halts as R175 lays down (R176). -/
def State.coreWatchdog (s : State) (c : Nat) : State :=
  if s.watched c && s.wdogEnd c ≤ s.time.pix && (s.engine c).halting != some 4 then s.haltInto c 4 else s

def execCoreWatchdog (t : Nat) (c : Fin 16) (s : State) : Host.Outcome State Fault Refusal := .next ((s.advance t).coreWatchdog c.val)

/-- PIXEL clocks in a REF clock: 25 MHz against 1.2 GHz (R11). -/
def refClk : Nat := 48

/-- A write of WDOG_KICK: 0xA5 restarts the period, unless that expires in the same REF clock or has expired (R173, R176). -/
def State.wrKick (s : State) (c : Nat) (v : Word) : State :=
  if bits v.toNat 0 8 = 0xA5 && !(s.watched c && s.wdogEnd c / refClk ≤ s.time.pix / refClk) then s.setEngine c { s.engine c with kickAt := s.time.pix } else s

def execWdogKick (i : Initiator) (c : Fin 16) (v : Word) (s : State) : Host.Outcome State Fault Refusal :=
  .next (s.asWrite i (F.CORE_WDOG_KICK c.val).key v (fun s => s.wrKick c.val v))

/-- A write of WDOG_CFG, from which the period counts anew (log entry 40). -/
def State.wrWdogCfg (s : State) (c : Nat) (v : Word) : State :=
  (s.put (F.CORE_WDOG_CFG c) (bits v.toNat 0 24)).setEngine c { s.engine c with kickAt := s.time.pix }

/-- JTAG_HALT: a debugger attaches to an engine and halts it into DEBUG (R151, R214). -/
def State.jtagHalt (s : State) (k : Nat) : State :=
  let st := if k < 16 then s.get (F.CORE_STATE k) else s.get (F.SEQN_STATE (k - 16))
  let s := s.setEngine k { s.engine k with dbg := true }
  if st != 1 && st != 2 then s
  else if k < 16 then s.haltInto k 6
  else (s.setEngine k { s.engine k with wait := .none }).put (F.SEQN_STATE (k - 16)) 5

def Eng.key : Eng → Nat
  | .core c _ => c.val
  | .seq n _ => 16 + n.val

/-- The engine is a sconce core. -/
def Eng.isCore : Eng → Bool
  | .core _ _ => true
  | .seq _ _ => false

def execJtagHalt (e : Eng) (s : State) : Host.Outcome State Fault Refusal := .next (s.jtagHalt (Eng.key e))

end Sys2Proof.Machine
end

