-- ==== Sys2Proof/Machine/LineCode.lean ====
section
/-! DEFINITION. The line code of Dravio: bits, beacon, header check, scrambling and stuffing, in both directions (R333 to
R339). -/
namespace Sys2Proof.Machine

/-- The low `n` bits of `v`, bit 0 first. -/
def bitsLsb (v : Nat) : Nat → List Bool
  | 0 => []
  | n + 1 => (v % 2 = 1) :: bitsLsb (v / 2) n

/-- The value of a list of bits, bit 0 first. -/
def ofBits : List Bool → Nat
  | [] => 0
  | b :: r => (if b then 1 else 0) + 2 * ofBits r

/-- Bytes in order, each from bit 0 (R333). -/
def byteBits (bs : List Byte) : List Bool := bs.flatMap (fun b => bitsLsb b.toNat 8)

/-- Bits in order, eight to a byte. -/
def bitBytes : Nat → List Bool → List Byte
  | 0, _ => []
  | n + 1, l => BitVec.ofNat 8 (ofBits (l.take 8)) :: bitBytes n (l.drop 8)

/-- The beacon (R334). -/
def beacon : List Bool := [false] ++ List.replicate 40 true ++ List.replicate 40 false ++ [true]

/-- One bit into the CRC of R336. -/
def hchkBit (c : Nat) (b : Bool) : Nat :=
  let top := c / 2 ^ 11 % 2 = 1
  let c := c * 2 % 2 ^ 12
  if top != b then c ^^^ 0x80F else c

/-- HCHK over header bits 0 to 35 (R336). -/
def hchk (h : Nat) : Nat := (bitsLsb h 36).foldl hchkBit 0xFFF

/-- A header without its check: LANE, POS, GSIZE, BTYPE, BSEQ (R335). -/
def header (lane pos gsize btype bseq : Nat) : Nat :=
  lane % 64 + 0x40 * (pos % 4) + 0x100 * (gsize % 4) + 0x400 * (btype % 4) + 0x1000 * (bseq % 2 ^ 24)

/-- Scrambling and descrambling of a payload from register `k` (R337). -/
def scramble (k : Nat) : List Bool → List Bool
  | [] => []
  | b :: r =>
    let x := bitAt k 30 != bitAt k 27
    (b != x) :: scramble (k * 2 % 2 ^ 31 + if x then 1 else 0) r

/-- The seed of a block (R337). -/
def seedOf (lane bseq : Nat) : Nat := 2 ^ 30 + lane * 2 ^ 24 + bseq

/-- Stuffing: `n` bits equal to `p` have been sent. What remains at the end concerns the first bit of the next beacon
(R338). -/
def stuff (p : Bool) (n : Nat) : List Bool → List Bool
  | [] => if n = 31 then [!p] else []
  | b :: r =>
    if n = 31 then (!p) :: b :: stuff b (if b = !p then 2 else 1) r
    else b :: stuff b (if b = p then n + 1 else 1) r

/-- Destuffing: `none` is a stuffing error (R339). -/
def destuff (p : Bool) (n : Nat) : List Bool → Option (List Bool)
  | [] => some []
  | b :: r =>
    if n = 31 then (if b = p then none else destuff b 1 r)
    else (destuff b (if b = p then n + 1 else 1) r).map (fun l => b :: l)

/-- The line bits of a block (R333 to R338). -/
def blockBits (h : Nat) (payload : List Byte) : List Bool :=
  let lane := bits h 0 6
  let bseq := bits h 12 24
  beacon ++ stuff true 1 (bitsLsb h 36 ++ bitsLsb (hchk h) 12 ++ scramble (seedOf lane bseq) (byteBits payload))

/-- What a receiver makes of the line bits of a block: not a block, a stuffing error, a header that discards it, or header
and payload. -/
inductive RxBlock where
  | noBlock
  | stuffing
  | badHeader
  | short
  | ok (h : Nat) (payload : List Byte)
deriving DecidableEq, Repr

/-- A block as received, its line bits from the first of its beacon on, in the lane's true polarity (R334 to R340). -/
def receiveBits (l : List Bool) : RxBlock :=
  if l.take 82 != beacon then .noBlock else
  match destuff true 1 (l.drop 82) with
  | none => .stuffing
  | some d =>
    if d.length < 48 + 16384 then .short else
    let h := ofBits (d.take 36)
    if ofBits ((d.drop 36).take 12) != hchk h || bits h 8 2 = 3 || bits h 10 2 = 3 then .badHeader
    else .ok h (bitBytes 2048 (scramble (seedOf (bits h 0 6) (bits h 12 24)) ((d.drop 48).take 16384)))

/-- `n` bits of PRBS31 from register `k`, and the register after them (R377). -/
def prbs31 (k : Nat) : Nat → List Bool × Nat
  | 0 => ([], k)
  | n + 1 =>
    let x := bitAt k 30 != bitAt k 27
    let (l, k) := prbs31 (k * 2 % 2 ^ 31 + if x then 1 else 0) n
    (x :: l, k)

end Sys2Proof.Machine
end

