-- ==== Sys2Proof/Machine/Dravio.lean ====
section
/-! DEFINITION. The Dravio lane array: bring-up, capability exchange, blocks and packets in both directions, echo, consoles,
host rings and loopback (R82, R83, R85, R330 to R381). -/
namespace Sys2Proof.Machine

/-! ### Entry to stage 1, and stops (R341, R345, R346, R381) -/

/-- What bring-up found out about a lane is gone. -/
def State.clearLane (s : State) (m : Nat) : State :=
  (((s.put (F.LANE_STATE_TXRATE m) 0).put (F.LANE_STATE_RXRATE m) 0).putB (F.LANE_STATE_RX_INVERTED m) false).putB
    (F.LANE_STATE_REVERSED m) false

/-- The group enters bring-up at stage 1 and 1.25 Gbit/s. It may have to wait for its admission (R497). -/
def State.bringUp (s : State) (l : Nat) : State :=
  let s := (s.groupLanes l).foldl State.clearLane (s.setStage l 1)
  let s := s.putB (F.LANE_STATE_PCAP_VALID l) false
  let x := s.lane l
  let s := s.setLane l { x with waiting := none, window := [], trained := false, ready := false, left := false, rxG := none,
                                trainRun := 0, early := [], capAt := none, switch := none, scans := [], ctl := [], stopped := false }
  let s := { s with power := { s.power with wake := tabErase s.power.wake (256 + l) } }
  s.wakeAdmit true l

/-- The group may train: it has been admitted to bring-up. -/
def State.admitted (s : State) (l : Nat) : Bool := (tabGet? s.power.wake (256 + l)).isSome

/-- Bring-up has failed: the group waits 10 ms (R345). -/
def State.bringUpFail (s : State) (l : Nat) : State := s.setLane l { s.lane l with waiting := some s.time.pix }

/-- The rate ceiling steps down one code, as every member reports (R345, R381). -/
def State.stepCeiling (s : State) (l : Nat) : State :=
  let c := s.get (F.LANE_STATE_CEILING l)
  if c = 0 then s else ((s.groupLanes l).foldl (fun s m => s.put (F.LANE_STATE_CEILING m) (c - 1)) s).laneRec 0x26 l (c - 1)

/-- A console frame is dropped (R372). The rest of it is passed over. -/
def State.conDrop (s : State) (l code f : Nat) : State :=
  let c := s.get (F.LANE_CFG_CONTEXT l)
  let s := s.setLane l { s.lane l with con := some { fseq := f, dead := true } }
  (s.bump (F.LANE_IN_DROP l)).laneRec 0x29 l code 0 c (ctxAddr c) (some l)

/-- The console frame under way on lane `l`, if there is one, will never be whole: it is dropped (R370, R372). A frame that has
ended and only waits for an apply is whole. -/
def State.conBreak (s : State) (l : Nat) : State :=
  match (s.lane l).con with
  | some k => if k.dead || k.ended then s else s.conDrop l 1 k.fseq
  | none => s

/-- The lines that wait for a group are gone: each goes out during its line or not at all (R362). -/
def State.dropOutq (s : State) (l : Nat) : State :=
  (List.range 32).foldl (fun s h => if (s.head h).map.any (fun m => m.1 = l) then s.setHead h { s.head h with outq := [], outAt := 0 } else s) s

/-- The lanes of a group leave UP: their exits are counted, the panels behind them are lost, and so are the lines that wait for
it and the console frame under way (R346, R362, R372, R381, R423). -/
def State.leaveUp (s : State) (l : Nat) : State :=
  (((s.groupLanes l).foldl (fun s m => s.bump (F.LANE_DOWN_COUNT m)) s).touchGroupDown l |>.dropOutq l).conBreak l

/-- LINK_DOWN: the group goes down in UP (R346). -/
def State.linkDown (s : State) (l code : Nat) : State :=
  if !s.laneUp l then s else
  let s := ((s.laneRec 0x20 l code).leaveUp l).bringUp l
  let x := s.lane l
  let ds := (s.time.pix :: x.downs).filter (fun a => s.time.pix < a + 10 * clkS)
  if 3 ≤ ds.length then (s.setLane l { x with downs := [] }).stepCeiling l else s.setLane l { x with downs := ds }

def execLaneSignalLoss (t : Nat) (l : Fin 64) (s : State) : Host.Outcome State Fault Refusal :=
  let s := s.advance t
  .next (match s.leadOf l.val with
    | some m => s.linkDown m 1
    | none => s)

/-- LANE_BEACON_TIMEOUT: the link goes down once no beacon has arrived for 3 block times (R346). -/
def execLaneBeaconTimeout (t : Nat) (l : Fin 64) (s : State) : Host.Outcome State Fault Refusal :=
  let s := s.advance t
  .next (match s.leadOf l.val with
    | some m => if (s.lane l.val).beaconAt + blockTimes 3 (s.get (F.LANE_STATE_RXRATE l.val)) ≤ s.time.pix then s.linkDown m 2 else s
    | none => s)

/-! ### CFG and LOOP (R377, R379, R381) -/

def State.laneFenced (s : State) (l : Nat) : Bool := if l < 32 then s.bit F.SYS_FENCE_LANE_LO l else s.bit F.SYS_FENCE_LANE_HI (l - 32)

/-- The code of the first check of R379 that fails, 0 for none. -/
def State.laneCode (s : State) (l : Nat) : Nat :=
  let g := s.get (F.LANE_CFG_GSIZE l)
  let c := s.get (F.LANE_CFG_CONTEXT l)
  let role := s.get (F.LANE_CFG_ROLE l)
  if role = 0 || role = 3 then 1
  else if g = 3 || l % groupSize g != 0 || s.nLanes < l + groupSize g ||
      (s.groupLanes l).any (fun m => m != l && s.on (F.LANE_CFG_EN m)) then 2
  else if s.get (F.LANE_CFG_TXMAX l) = 7 || s.get (F.LANE_CFG_RXMAX l) = 7 then 3
  else if role = roleIn && (s.kind c != 4 || (List.range 64).any (fun m =>
      m != l && s.on (F.LANE_CFG_EN m) && s.get (F.LANE_CFG_ROLE m) = roleIn && s.get (F.LANE_CFG_CONTEXT m) = c)) then 4
  else 0

/-- STATE.STAGE of a lane out of service (R381). -/
def State.idleStage (s : State) (l : Nat) : Nat := if s.laneFenced l then 11 else if s.get (F.LANE_LOOP_MODE l) != 0 then 10 else 0

/-- The lane stops (R381). A console frame that has ended and still waits for its mark is dropped with it (R372). Mark: DESIGN
CHOICE, log entry 143: with code 1. -/
def State.laneStop (s : State) (l : Nat) : State :=
  let s := if s.laneUp l then s.leaveUp l else s
  let s := match (s.lane l).con with
    | some k => if k.ended && !k.dead then s.conDrop l 1 k.fseq else s
    | none => s
  let ms := s.groupLanes l
  let s := ms.foldl (fun s m => ((s.clearLane m).putB (F.LANE_STATE_MEMBER m) false).put (F.LANE_STATE_STAGE m) (s.idleStage m)) s
  let s := s.putB (F.LANE_STATE_PCAP_VALID l) false
  let x := s.lane l
  let s := s.setLane l { x with waiting := none, trained := false, ready := false, left := false, rxG := none, trainRun := 0,
                                early := [], switch := none, scans := [], ctl := [] }
  s.putB (F.LANE_CFG_EN l) false

/-- A write of CFG of lane `l` (R379, R381). A member takes no write but one of EN 0. Mark: DESIGN CHOICE, log entry 144: that
write stops its group. -/
def State.wrLaneCfg (s : State) (l : Nat) (v : Word) : State :=
  let key := (F.LANE_CFG_ROLE l).key
  let en := bitAt v.toNat 12
  if s.on (F.LANE_CFG_EN l) then (if en then s else s.laneStop l)
  else if s.on (F.LANE_STATE_MEMBER l) then
    (match s.leadOf l with
     | some m => if en then s else s.laneStop m
     | none => s)
  else
    let s := s.writeBits key (s.rwBits key &&& 0xFFFFEFFF) v
    if !en then s
    else
      let s := s.setReg (F.LANE_LOOP_MODE l).key 0
      let s := s.put (F.LANE_STATE_STAGE l) (s.idleStage l)
      let c := s.laneCode l
      if c != 0 then s.laneRec 0x28 l c 0 (if c = 4 then s.get (F.LANE_CFG_CONTEXT l) else 0)
      else
        let s := s.putB (F.LANE_CFG_EN l) true
        let s := (s.groupLanes l).foldl (fun s m => s.put (F.LANE_STATE_CEILING m) 6) s
        let s := (s.groupLanes l).foldl (fun s m => if m = l then s else s.putB (F.LANE_STATE_MEMBER m) true) s
        let s := s.setLane l { s.lane l with fails8 := 0, downs := [] }
        if (s.groupLanes l).any s.laneFenced then (s.groupLanes l).foldl (fun s m => s.put (F.LANE_STATE_STAGE m) 11) s
        else s.bringUp l

def execLaneEnable (i : Initiator) (l : Fin 64) (v : Word) (s : State) : Host.Outcome State Fault Refusal :=
  .next (s.asWrite i (F.LANE_CFG_ROLE l.val).key v (fun s => s.wrLaneCfg l.val v))

def execLaneDisable (i : Initiator) (l : Fin 64) (v : Word) (s : State) : Host.Outcome State Fault Refusal :=
  .next (s.asWrite i (F.LANE_CFG_ROLE l.val).key v (fun s => s.wrLaneCfg l.val v))

/-- A write of LOOP of lane `l`, while its CFG.EN is 0, as a member's is too (R377); a member's STAGE stays its group's. The
register from which PRBS31 starts is a free value (log entry 2). -/
def State.wrLoop (s : State) (l : Nat) (v : Word) : State :=
  if s.on (F.LANE_CFG_EN l) then s else
  let s := s.writeBits (F.LANE_LOOP_MODE l).key 0xF v
  let s := if s.on (F.LANE_STATE_MEMBER l) then s else s.put (F.LANE_STATE_STAGE l) (s.idleStage l)
  let (k, s) := if s.on (F.LANE_LOOP_PRBS_GEN l) then s.freeVal 31 else ((s.lane l).prbs, s)
  s.setLane l { s.lane l with prbs := k, prbsRef := none }

def execLoopWrite (i : Initiator) (l : Fin 64) (v : Word) (s : State) : Host.Outcome State Fault Refusal :=
  .next (s.asWrite i (F.LANE_LOOP_MODE l.val).key v (fun s => s.wrLoop l.val v))

/-! ### UP (R346, R360, R361) -/

/-- OUTMAP heads of the group whose lead is `l`. -/
def State.groupHeads (s : State) (l : Nat) : List Nat := (List.range 32).filter (fun h => s.mapsTo h l)

/-- OUTMAP.STATUS of a head whose mapping stands: SENDING or WAIT_HOP, or REFUSED for a group that R361 has stopped. -/
def State.mapStatus (s : State) (h : Nat) : State :=
  let l := s.get (F.DRAVIO_OUTMAP_LEAD h)
  let k := s.get (F.DRAVIO_OUTMAP_HOP h)
  s.put (F.DRAVIO_OUTMAP_STATUS h) (if (s.lane l).stopped then 2
    else if k != 0 && !s.bit (F.LANE_STATE_HOPS_SEEN l) (k - 1) then 1 else 0)

/-- LANE_UP: entry to UP. -/
def State.enterUp (s : State) (l : Nat) : State :=
  let s := (s.setStage l 9).put (F.LANE_STATE_HOPS_SEEN l) 0
  let s := (s.groupLanes l).foldl (fun s m => s.setLane m { s.lane m with beaconAt := s.time.pix }) s
  let s := s.setLane l { s.lane l with window := [], fails8 := 0, hopEcho := 0, status := [] }
  let r := s.get (F.LANE_STATE_TXRATE l)
  let s := (s.laneRec 0x27 l r).lanternCfgAll l
  let s := if (s.groupHeads l).isEmpty || s.demandFits l r then s
    else (s.setLane l { s.lane l with stopped := true }).laneRec 0x28 l 7
  ((s.groupHeads l).foldl State.mapStatus s).touchGroupUp l

/-! ### Stages (R341 to R345) -/

/-- The findings of stage 5: skew and order of a group (R343). -/
def State.orderCheck (s : State) (l : Nat) (obs : StageObs) : Bool × State :=
  let n := s.groupN l
  if n = 1 then (true, s) else
  let straight := List.range n
  let s := s.put (F.LANE_SKEW l) (min 0xFFFF obs.skew)
  if obs.order != straight && obs.order != straight.reverse then (false, (s.laneRec 0x22 l 1).bringUpFail l)
  else if 2 * 16514 < obs.skew then (false, (s.laneRec 0x22 l 2).bringUpFail l)
  else (true, (s.groupLanes l).foldl (fun s m => s.putB (F.LANE_STATE_REVERSED m) (obs.order = straight.reverse)) s)

/-- A failure in stage 8 of the group of `l`: the third in a row steps the ceiling down (R345). -/
def State.rateFail (s : State) (l : Nat) : State :=
  let f := (s.lane l).fails8 + 1
  if 3 ≤ f then (s.setLane l { s.lane l with fails8 := 0 }).stepCeiling l else s.setLane l { s.lane l with fails8 := f }

/-- Stage 8 begins, at the agreed rates; stages 2 to 6 run again (R344). Rates of code 0 both pass at once (R341). -/
def State.enterRate (s : State) (l tx rx : Nat) : State :=
  let s := (s.groupLanes l).foldl (fun s m => (s.put (F.LANE_STATE_TXRATE m) tx).put (F.LANE_STATE_RXRATE m) rx) (s.setStage l 8)
  if tx = 0 && rx = 0 then s.enterUp l
  else s.setLane l { s.lane l with trained := false, ready := false, left := false, rxG := none, trainRun := 0, early := [] }

/-- Stage 6 begins: its blocks count from here, and a group's are deskewed (R341, R343). -/
def State.enterScramble (s : State) (l : Nat) : State :=
  let s := s.setStage l 6
  s.setLane l { s.lane l with rxG := none, trainRun := 0, early := [] }

/-- BRINGUP_STAGE_DONE for lane `m` of the group of `l` (R341). Stages 1 to 4 are the lane's own, and stage 4 needs the polarity
that stage 3 found; stage 5 completes once every member is in it; stage 6, and stage 8 that repeats it, once 8 TRAIN blocks in
a row have been good. -/
def State.stageDone (s : State) (l m : Nat) (obs : StageObs) : State :=
  let own := fun (s : State) n => (s.put (F.LANE_STATE_STAGE m) n).setLane m { s.lane m with stageAt := s.time.pix }
  if (s.lane l).waiting.isSome then s else
  match s.laneStage m with
  | 1 => if s.admitted l then own s 2 else s
  | 2 => own s 3
  | 3 => own (s.putB (F.LANE_STATE_RX_INVERTED m) obs.inverted) 4
  | 4 => if obs.inverted != s.on (F.LANE_STATE_RX_INVERTED m) then s else if s.groupN l = 1 then s.enterScramble l else own s 5
  | 5 =>
    if !(s.groupLanes l).all (fun k => s.laneStage k = 5) then s else
    match s.orderCheck l obs with
    | (true, s) => s.enterScramble l
    | (false, s) => s
  | 6 => if (s.lane l).trainRun < 8 then s else (s.setLane l { s.lane l with trained := true, left := (s.lane l).ready }).setStage l 7
  | 8 =>
    if (s.lane l).trainRun < 8 then s else
    match (s.putB (F.LANE_STATE_RX_INVERTED m) obs.inverted).orderCheck l obs with
    | (true, s) => (s.setLane l { s.lane l with trained := true, left := (s.lane l).ready }).enterUp l
    | (false, s) => s.rateFail l
  | _ => s

def execBringupStageDone (t : Nat) (l : Fin 64) (obs : StageObs) (s : State) : Host.Outcome State Fault Refusal :=
  let s := s.advance t
  .next (match s.leadOf l.val with
    | some m => s.stageDone m l.val obs
    | none => s)

/-- BRINGUP_TIMEOUT for lane `m` of the group of `l` (R345). -/
def State.stageTimedOut (s : State) (l m : Nat) : State :=
  let st := s.laneStage m
  match stageTimeout st (s.get (F.LANE_STATE_RXRATE m)) with
  | none => s
  | some n =>
    if (s.lane l).waiting.isSome || (st = 7 && (s.lane l).switch.isSome) || s.time.pix < (s.lane m).stageAt + n then s else
    let s := ((s.put (F.LANE_STATE_FAILSTAGE m) st).laneRec 0x21 m st 0 0 0 (some m)).bringUpFail l
    if st = 8 then s.rateFail l else s

def execBringupTimeout (t : Nat) (l : Fin 64) (s : State) : Host.Outcome State Fault Refusal :=
  let s := s.advance t
  .next (match s.leadOf l.val with
    | some m => s.stageTimedOut m l.val
    | none => s)

/-- BRINGUP_RESTART (R345). -/
def State.restart (s : State) (l : Nat) : State :=
  match (s.lane l).waiting with
  | none => s
  | some a => if a + 10 * clkMs ≤ s.time.pix then s.bringUp l else s

def execBringupRestart (t : Nat) (l : Fin 64) (s : State) : Host.Outcome State Fault Refusal :=
  let s := s.advance t
  .next (match s.leadOf l.val with
    | some m => s.restart m
    | none => s)

/-! ### Capability exchange (R344, R356) -/

/-- CAP_SEND: every 1 ms in stage 7 once the end has left TRAIN. -/
def State.capSend (s : State) (l : Nat) : State :=
  let x := s.lane l
  let due := match x.capAt with
    | none => true
    | some a => decide (a + clkMs ≤ s.time.pix)
  if s.laneStage l != 7 || x.waiting.isSome || !x.left || !due then s else
  let s := s.setLane l { x with capAt := some s.time.pix }
  let (b, s) := s.capBody l
  s.queueCtl l 0 (controlPacket 1 b)

def execCapSend (t : Nat) (l : Fin 64) (s : State) : Host.Outcome State Fault Refusal :=
  let s := s.advance t
  .next (match s.leadOf l.val with
    | some m => s.capSend m
    | none => s)

/-- CAP_RECEIVED from the partner itself in stage 7: checks, and the agreed rates with RATE_SET (R344). -/
def State.capIn (s : State) (l : Nat) (b : List Byte) : State :=
  if s.laneStage l != 7 || (s.lane l).waiting.isSome || (s.lane l).switch.isSome then s else
  let w := fun i => BitVec.ofNat 32 (leNat (slice b (4 * i) 4))
  let s := ((((s.setReg (F.LANE_PCAP0 l).key (w 0)).setReg (F.LANE_PCAP1 l).key (w 1)).setReg (F.LANE_PCAP2 l).key (w 2)).setReg
    (F.LANE_PCAP3 l).key (w 3)).putB (F.LANE_STATE_PCAP_VALID l) true
  let c := (w 0).toNat
  let fail := fun (s : State) code => (s.laneRec 0x23 l code).bringUpFail l
  if bits c 0 2 != (if s.get (F.LANE_CFG_ROLE l) = roleOut then 1 else 2) then fail s 1
  else if bits c 4 4 != 1 then fail s 2
  else if bits c 14 2 < s.get (F.LANE_CFG_GSIZE l) then fail s 3
  else if !bitAt c 23 then s
  else
    let top := s.get (F.LANE_STATE_CEILING l)
    let tx := min top (min (s.get (F.LANE_CFG_TXMAX l)) (bits c 11 3))
    let rx := min top (min (s.get (F.LANE_CFG_RXMAX l)) (bits c 8 3))
    let x := s.lane l
    let g := x.txG + 16
    let s := s.setLane l { x with switch := some (tx, rx, g) }
    s.queueCtl l 0 (controlPacket 2 (leBytes (tx + 8 * rx) 1 ++ [0, 0, 0] ++ leBytes (g % 2 ^ 24) 4))

/-! ### Back ring and STATUS (R369, R376) -/

/-- BACK_RING_POST. -/
def State.backPost (s : State) (l hop : Nat) (p : List Byte) : State :=
  if !s.on F.DRAVIO_BACK_EN then s else
  let e := leBytes l 1 ++ leBytes (hop + if 248 < p.length then 0x80 else 0) 1 ++ leBytes p.length 2 ++ leBytes s.stamp32 4 ++ slice p 0 248
  match s.ringPost dravioSrc (s.get F.DRAVIO_BACK_RING) e with
  | (0, s) => s
  | (_, s) => (s.bump F.DRAVIO_BACK_DROP).laneRec 0x2E l 0 hop 0 0 (some 0)

/-- LANTERN_STATUS_RX: TWIN_SKEW set, or any other change. -/
def State.statusIn (s : State) (l hop st : Nat) : State :=
  let old := tabGet 0 (s.lane l).status hop
  let s := s.setLane l { s.lane l with status := tabSet (s.lane l).status hop st }
  let s := if bitAt st 1 then s.laneRec 0x2A l 0 hop else s
  if st - st / 2 % 2 * 2 != old - old / 2 % 2 * 2 || (bitAt old 1 && !bitAt st 1) then s.laneRec 0x2B l st hop else s

/-- A CAP from a hop above 0 (R360, R365, R376). -/
def State.hopCap (s : State) (l hop : Nat) (b : List Byte) : State :=
  if !s.laneUp l then s else
  let new := !s.bit (F.LANE_STATE_HOPS_SEEN l) (hop - 1)
  let echo := bitAt (leNat (slice b 2 1)) 0
  let s := s.putBit (F.LANE_STATE_HOPS_SEEN l) (hop - 1) true
  let s := s.setLane l { s.lane l with hopEcho := setBit (s.lane l).hopEcho hop echo }
  if !new then s else
  let s := if s.get (F.LANE_CFG_ROLE l) = roleOut then s.lanternCfg l hop echo else s
  ((s.groupHeads l).foldl State.mapStatus s).touchHopUp l hop

/-! ### Echo and twins (R82, R83, R85, R357, R368, R369) -/

/-- The head mapped to a lane group and hop. -/
def State.headAt (s : State) (l hop : Nat) : Option Nat := (List.range 32).find? (fun h => (s.head h).map = some (l, hop))

/-- Echo is expected on line `n` (R82). -/
def State.echoLine (s : State) (n : Nat) : Bool := s.on F.VIGIL_CTRL_ECHO && n % 2 ^ min 4 (s.get F.VIGIL_CTRL_ECHO_EVERY) = 0

/-- Lines of head `h`, blanking included, since line `n` of frame `f` was sent (R82). -/
def State.linesSince (s : State) (h f n : Nat) : Nat :=
  let b := s.tb (s.master h)
  ((b.fseq + 2 ^ 32 - f) % 2 ^ 32) * b.timing.vtotal + b.line - n

/-- Window `w` stands in the active state of head `h` (R83). -/
def State.winOn (s : State) (w h : Nat) : Bool :=
  match (s.win w).act with
  | some ws => wHead ws = h && supervised ws
  | none => false

/-- The lantern that head `h` sends to supports glass echo: its CAP has said so. A head without a lantern, such as a
virtual head, has none (R49, R82). -/
def State.headEcho (s : State) (h : Nat) : Bool :=
  match (s.head h).map with
  | none => false
  | some (l, k) => h < 32 && (if k = 0 then bitAt (s.get (F.LANE_PCAP0 l)) 16 else bitAt (s.lane l).hopEcho k)

/-- ECHO_JUDGE: one entry of an ECHO packet (R82); a head with ENABLE 0 is not judged (R95). -/
def State.echoEntry (s : State) (h f n w : Nat) (foreign : Bool) (crc : Nat) : State :=
  let x := s.head h
  if !s.enabled h || !s.echoLine n || !s.headEcho h || (s.winOn w h && !(((s.win w).act.map wEchoReq).getD false)) then s else
  match x.hist.find? (fun e => e.1 = n && e.2.1 = f && e.2.2.1 = w) with
  | none => s
  | some e =>
    if x.echoTimeout < s.linesSince h f n then s else
    let s := s.setHead h { x with hist := x.hist.map (fun g => if g.1 = n && g.2.1 = f && g.2.2.1 = w then (g.1, g.2.1, g.2.2.1, g.2.2.2.1, true) else g) }
    if foreign || crc = e.2.2.2.1 then s else
    let s := (s.bump F.VIGIL_ECHO_COUNT).vigilRec 0x36 w h n 5 16
    if s.winOn w h then (let y := s.win w; s.setWin w { y with heldInt := if y.heldInt = 0 then 16 else y.heldInt }) else s

/-- An ECHO packet (R357, R369). -/
def State.echoPacket (s : State) (l hop : Nat) (p : List Byte) : State :=
  match s.headAt l hop with
  | none => s.laneRec 0x2C l 2 hop (bits (leNat (slice p 10 2)) 0 6)
  | some h =>
    if bits (leNat (slice p 10 2)) 0 6 != h then s.laneRec 0x2C l 2 hop h else
    let f := leNat (slice p 4 4)
    let n := bits (leNat (slice p 8 2)) 0 14
    (List.range (leNat (slice p 12 2))).foldl (fun s i =>
      let a := leNat (slice p (16 + 8 * i) 4)
      if p.length < 32 + 8 * i then s else s.echoEntry h f n (bits a 0 11) (bitAt a 11) (leNat (slice p (20 + 8 * i) 4))) s

/-- ECHO_TIMEOUT: an expected echo, one that the line asked for, is absent after ECHO_TIMEOUT lines (R49, R82, R95). Mark: DESIGN CHOICE, log entry 93: the
absence for a window removed since the line was sent is neither logged nor counted. -/
def State.echoAbsent (s : State) (h n w : Nat) : State :=
  let x := s.head h
  if !s.enabled h || !s.echoLine n || !s.headEcho h || !s.winOn w h || !(((s.win w).act.map wEchoReq).getD false) then s else
  match x.hist.find? (fun e => e.1 = n && e.2.2.1 = w && !e.2.2.2.2) with
  | none => s
  | some e =>
    if s.linesSince h e.2.1 n < x.echoTimeout then s else
    let s := s.setHead h { x with hist := x.hist.map (fun g => if g = e then (g.1, g.2.1, g.2.2.1, g.2.2.2.1, true) else g) }
    (((s.bump F.VIGIL_ECHO_COUNT).setWin w { s.win w with echoLost := true })).vigilRec 0x37 w h n 4 14

def execEchoTimeout (t : Nat) (h : Fin 48) (line : Nat) (w : Fin 2048) (s : State) : Host.Outcome State Fault Refusal :=
  .next ((s.advance t).echoAbsent h.val line w.val)

/-- TWIN_DISAGREE: an entry of a TWIN_REPORT, on verdict or check value (R85). -/
def State.twinEntry (s : State) (h n w kind : Nat) : State :=
  let x := s.win w
  if 2 ≤ kind || x.twinLogged then s
  else (s.setWin w { x with twinLogged := true }).vigilRec 0x3C w h n x.last.1 x.last.2

/-- TWIN_REPORT_RX (R368, R369). `b` is the body. -/
def State.twinReport (s : State) (l hop : Nat) (b : List Byte) : State :=
  let s := ((s.bumpN (F.LANE_TWIN_A l) (leNat (slice b 4 2))).bumpN (F.LANE_TWIN_B l) (leNat (slice b 6 2))).bumpN
    (F.LANE_TWIN_NONE l) (leNat (slice b 8 2))
  match s.headAt l hop with
  | none => s
  | some h => (List.range (min 16 (leNat (slice b 12 1)))).foldl (fun s i =>
      let a := leNat (slice b (16 + 8 * i) 4)
      s.twinEntry h (bits a 0 14) (bits a 14 11) (bits a 25 2)) s

/-! ### Sense packets (R358, R375, R411) -/

/-- The remote sense head at a lane group, hop and IDX, by the enabled maps. -/
def State.senseAt (s : State) (l hop idx : Nat) : Option Nat :=
  (List.range 32).find? (fun k => s.on (F.DRAVIO_SENSEMAP_EN k) && s.get (F.DRAVIO_SENSEMAP_LANE k) = l &&
    s.get (F.DRAVIO_SENSEMAP_HOP k) = hop && s.get (F.DRAVIO_SENSEMAP_IDX k) = idx)

/-- SENSE_DATA_RX. -/
def State.sensePacket (s : State) (l hop : Nat) (p : List Byte) : State :=
  match s.senseAt l hop (leNat (slice p 4 1)) with
  | none => s.laneRec 0x2C l 1 hop
  | some k =>
    let n := leNat (slice p 10 2)
    s.senseData k (leNat (slice p 6 2)) (leNat (slice p 8 2)) (leNat (slice p 12 2)) (bitAt (leNat (slice p 1 1)) 0)
      ((List.range (min n 1012)).map (fun i => leNat (slice p (16 + 2 * i) 2)))

/-! ### Consoles (R370 to R373) -/

/-- FMT of a console context's surfaces (R371). -/
def State.conFmt (s : State) (c : Nat) : Nat := if s.on (F.CTX_CTRL_DEPTH10 c) then 5 else 3

/-- Lane `l` may write into its context: a CONSOLE context that is RUNNING (R370). -/
def State.conOpen (s : State) (c : Nat) : Bool := s.kind c = 4 && s.ctxState c = ctxRunning

/-- The context of a frame is still the one that it began in: RUNNING, and not closed since (R370). -/
def State.conLive (s : State) (l : Nat) (k : ConFrame) : Bool :=
  let c := s.get (F.LANE_CFG_CONTEXT l)
  s.conOpen c && (s.ctx c).opens = k.opens

/-- The lane marks the slot of its frame and writes what has waited for the mark, unless an apply is in progress (R47, R284,
R371). -/
def State.conMark (s : State) (l : Nat) : State :=
  match (s.lane l).con with
  | some k =>
    if k.dead || !k.markDue || s.anyApply then s else
    if !s.conLive l k then s.conDrop l 6 k.fseq else
    let c := s.get (F.LANE_CFG_CONTEXT l)
    let s := s.setLane l { s.lane l with con := some { k with markDue := false, todo := [] } }
    let s := s.markSlot dravioSrc 2 c k.slot true (if (s.slotShape c k.slot).2.2 then 5 else 3)
    k.todo.foldl (fun s e => (s.unitWrite dravioSrc e.1 e.2).2) s
  | none => s

/-- LINE_DATA of line 0 with a new FSEQ: a frame begins (R370, R371). Its slot is unlisted at once, and marked once no apply is
in progress (R284). A frame that begins while its predecessor still waits for that finds no free slot (log entry 39). -/
def State.conBegin (s : State) (l f width depth : Nat) : State :=
  let c := s.get (F.LANE_CFG_CONTEXT l)
  if !s.conOpen c then s.conDrop l 6 f
  else if width < 16 || s.get (F.CTX_MAX_W c) < width then s.conDrop l 2 f
  else if !(depth = 0 || (depth = 1 && s.on (F.CTX_CTRL_DEPTH10 c))) then s.conDrop l 3 f
  else match s.ctxFreeSlot c with
    | none => s.conDrop l 4 f
    | some j =>
      let s := s.putBit (F.CTX_LISTED c) j false
      (s.setLane l { s.lane l with con := some { fseq := f, slot := j, width := width, ten := depth = 1, epoch := s.epoch, opens := (s.ctx c).opens,
                                                 markDue := true, t0 := s.time64, tLast := s.time64 } }).conMark l

/-- The first packet of a frame, with a new FSEQ; `start` where it is the first of line 0. A frame whose start is missing is
dropped (R370, R372). -/
def State.conNew (s : State) (l f width depth : Nat) (start : Bool) : State :=
  let s := (s.conMark l).conBreak l
  let s := s.setLane l { s.lane l with lastFseq := some f }
  if ((s.lane l).con.map (fun k => k.ended)).getD false then
    (s.bump (F.LANE_IN_DROP l)).laneRec 0x29 l 4 0 (s.get (F.LANE_CFG_CONTEXT l)) (ctxAddr (s.get (F.LANE_CFG_CONTEXT l))) (some l)
  else if start then s.conBegin l f width depth
  else s.conDrop l (if s.conOpen (s.get (F.LANE_CFG_CONTEXT l)) then 1 else 6) f

/-- `n` pixels of depth `d` bits from a little-endian bit stream, widened to 10 bits (R352, R371). -/
def unpackLine (d : Nat) : Nat → Nat → List Px
  | 0, _ => []
  | n + 1, v => ⟨widen10 d (bits v 0 d), widen10 d (bits v d d), widen10 d (bits v (2 * d) d), 0⟩ :: unpackLine d n (v / 2 ^ (3 * d))

/-- A frame with the FSEQ of the one before it, which was tagged: it fails R370 (R372). Mark: DESIGN CHOICE, log entry 143: with
code 5. -/
def State.conAgain (s : State) (l f : Nat) : State :=
  s.conDrop l (if s.conOpen (s.get (F.LANE_CFG_CONTEXT l)) then 5 else 6) f

/-- LINE_DATA of a console. A line that is passed over is missing; one that comes again, or late, is out of order. -/
def State.conData (s : State) (l : Nat) (p : List Byte) : State :=
  let depth := bits (leNat (slice p 1 1)) 1 2
  let f := leNat (slice p 4 4)
  let n := bits (leNat (slice p 8 2)) 0 14
  let at_ := bits (leNat (slice p 12 2)) 0 13
  let npix := bits (leNat (slice p 14 2)) 0 13
  let width := bits (leNat (slice p 16 2)) 0 13
  let s := if (s.lane l).lastFseq != some f then s.conNew l f width depth (n = 0 && at_ = 0) else s.conMark l
  match (s.lane l).con with
  | none => s.conAgain l f
  | some k =>
    if k.dead || k.ended || k.fseq != f then s
    else if !s.conLive l k then s.conDrop l 6 f
    else
      -- the first packet of the next line
      let next := k.closed && n = k.line + 1
      let k := if next then { k with line := n, px := 0, closed := false, tLast := s.time64 } else k
      let c := s.get (F.LANE_CFG_CONTEXT l)
      if n != k.line then s.conDrop l (if k.line < n then 1 else 5) f
      else if width != k.width || s.get (F.CTX_MAX_H c) ≤ n then s.conDrop l 2 f
      else if depth != (if k.ten then 1 else 0) then s.conDrop l 3 f
      else if k.closed then s.conDrop l 5 f
      else if at_ != k.px || npix = 0 || k.width < k.px + npix || p.length < 32 + divUp (npix * 3 * (8 + 2 * depth)) 8 then
        s.conDrop l 1 f
      else
        let fmt := s.conFmt c
        let px := unpackLine (8 + 2 * depth) npix (leNat (p.drop 24))
        let row := s.ctxSlot c k.slot + (1 + n) * pitchOf k.width fmt + at_ * fmtBytes fmt
        let b := (px.map (fun q => packPx fmt fmt { q with alpha := alphaMax fmt })).flatten
        let k := { k with px := k.px + npix }
        if k.markDue then s.setLane l { s.lane l with con := some { k with todo := k.todo ++ [(row, b)] } }
        else (s.unitWrite dravioSrc row b).2.setLane l { s.lane l with con := some k }

/-- CONSOLE_FRAME_END: the frame is tagged and listed (R371); where an apply still holds up its mark, it waits (R284). -/
def State.conEnd (s : State) (l : Nat) (k : ConFrame) : State :=
  let c := s.get (F.LANE_CFG_CONTEXT l)
  let h := k.line + 1
  if !s.conLive l k then s.conDrop l 6 k.fseq
  else if h < 16 || s.get (F.CTX_MAX_H c) < h then s.conDrop l 2 k.fseq
  else if k.epoch != s.epoch then s.conDrop l 7 k.fseq
  else if k.markDue then s.setLane l { s.lane l with con := some { k with ended := true } }
  else
    let t : Tag := ⟨k.t0, s.get (F.CTX_SEQ c), c, 2, false, false, true, bits (s.get (F.LANE_PCAP0 l)) 27 2, s.conFmt c, s.epoch,
      s.ctxSlot c k.slot / 256, k.width, h, divUp k.width 16 * divUp h 16, 0, true⟩
    let s := s.closeSurface dravioSrc t (s.ctxTagAt c k.slot)
    let x := s.ctx c
    let q : PicSlot := ⟨0, 0, none, k.width, h, s.conFmt c = 5, t.transfer, false, true, t.coded⟩
    let s := s.setCtx c { x with slots := tabSet x.slots k.slot q }
    let s := ((s.put (F.CTX_SEQ c) (t.seq + 1)).putBit (F.CTX_LISTED c) k.slot true).put (F.CTX_NEWEST c) k.slot
    let s := (s.bump (F.CTX_PICS c)).bump (F.LANE_IN_FRAMES l)
    let s := s.put (F.LANE_IN_SPAN l) (min 0xFFFFFF ((k.tLast - k.t0) / 1000))
    let s := s.setLane l { s.lane l with con := none }
    s.queueCopies c ⟨s.ctxTagAt c k.slot, tagBytes t⟩

/-- LINE_TRAILER of a console. -/
def State.conTrailer (s : State) (l : Nat) (p : List Byte) : State :=
  let f := leNat (slice p 4 4)
  let n := bits (leNat (slice p 8 2)) 0 14
  let s := if (s.lane l).lastFseq != some f then s.conNew l f 0 0 false else s.conMark l
  match (s.lane l).con with
  | none => s.conAgain l f
  | some k =>
    if k.dead || k.ended || k.fseq != f then s
    else if !s.conLive l k then s.conDrop l 6 f
    else if k.line < n then s.conDrop l 1 k.fseq
    else if n != k.line || k.closed then s.conDrop l 5 k.fseq
    else if k.px != k.width then s.conDrop l 1 k.fseq
    else if bitAt (leNat (slice p 1 1)) 1 then s.conEnd l k
    else s.setLane l { s.lane l with con := some { k with closed := true } }

/-- An apply is over: the slot of the lane's frame is marked, and a frame that had ended is tagged (R284, R371). -/
def State.conApplied (s : State) (l : Nat) : State :=
  let s := s.conMark l
  match (s.lane l).con with
  | some k => if k.ended && !k.markDue then s.conEnd l { k with ended := false } else s
  | none => s

/-! ### Packets received (R348 to R350, R355, R359, R369, R376) -/

/-- A CONTROL packet. -/
def State.controlIn (s : State) (l hop : Nat) (p : List Byte) : State :=
  let sub := leNat (slice p 4 1)
  let b := (p.take (p.length - 8)).drop 8
  if sub = 1 then (if hop = 0 then s.capIn l (slice b 0 16) else (s.hopCap l hop b).backPost l hop p)
  else if sub = 6 then
    if bitAt (leNat (slice b 2 1)) 7 then
      (match s.senseAt l hop (leNat (slice b 0 1) % 4) with
       | some k => s.senseRsp k (b.drop 1)
       | none => s)
    else s.backPost l hop p
  else if sub = 7 then (s.statusIn l hop (bits (leNat (slice b 0 4)) 0 4)).backPost l hop p
  else if sub = 8 then s.twinReport l hop b
  else if 0x80 ≤ sub then s.backPost l hop p
  else s

/-- A packet other than CASCADE, from a hop. -/
def State.packetFrom (s : State) (l hop : Nat) (p : List Byte) : State :=
  match leNat (slice p 0 1) with
  | 0x20 => s.controlIn l hop p
  | 0x30 => if s.laneUp l then s.sensePacket l hop p else s
  | 0x40 => if s.laneUp l then s.echoPacket l hop p else s
  | 0x10 => if hop = 0 && s.laneUp l && s.get (F.LANE_CFG_ROLE l) = roleIn then s.conData l p else s
  | 0x11 => if hop = 0 && s.laneUp l && s.get (F.LANE_CFG_ROLE l) = roleIn then s.conTrailer l p else s
  | _ => s

def goodType (t : Nat) : Bool := [0x10, 0x11, 0x20, 0x30, 0x40, 0x50].contains t

/-- PACKET_DROP, with its code (R350). -/
def State.packetDrop (s : State) (m code : Nat) : State := (s.bump (F.LANE_PKT_ERR m)).laneRec 0x25 m code 0 0 0 (some m)

/-- PCHK of a packet holds (R348). -/
def pchkOk (p : List Byte) : Bool := leNat (slice p (p.length - 4) 4) = crc32c (p.take (p.length - 4))

/-- A packet of good length from lane `m`, the group's lead being `l`. -/
def State.packetOk (s : State) (l m : Nat) (p : List Byte) : State :=
  if !pchkOk p then s.packetDrop m 1
  else if !goodType (leNat (slice p 0 1)) then s.packetDrop m 3
  else if leNat (slice p 0 1) != 0x50 then s.packetFrom l 0 p
  else
    let hop := leNat (slice p 1 1) % 8
    let q := (p.take (p.length - 8)).drop 8
    let n := 8 * leNat (slice q 2 2)
    if hop = 0 then s
    else if n < 16 || q.length < n then s.packetDrop m 2
    else if !pchkOk (q.take n) then s.packetDrop m 1
    else if !goodType (leNat (slice q 0 1)) || leNat (slice q 0 1) = 0x50 then s.packetDrop m 3
    else s.packetFrom l hop (q.take n)

/-- The packets of a DATA payload (R348, R350). -/
def State.payloadIn (s : State) (l m : Nat) : Nat → List Byte → State
  | 0, _ => s
  | n + 1, b =>
    if b.isEmpty || leNat (slice b 0 1) = 0 then s else
    let len := 8 * leNat (slice b 2 2)
    if len < 16 || b.length < len then s.packetDrop m 2
    else State.payloadIn (s.packetOk l m (b.take len)) l m n (b.drop len)

/-! ### Blocks received (R339 to R341, R346, R377) -/

/-- Whether a block was discarded enters the window of 64; 16 of them take the link down. -/
def State.countBlock (s : State) (l : Nat) (bad : Bool) : State :=
  let w := (bad :: (s.lane l).window).take 64
  let s := s.setLane l { s.lane l with window := w }
  if 16 ≤ (w.filter id).length then s.linkDown l 3 else s

/-- A block whose header passes, from lane `m`, in its place among the group's (R340, R341). -/
def State.blockIn (s : State) (l m h : Nat) (payload : List Byte) : State :=
  let s := s.countBlock l false
  let x := s.lane l
  let seq := bits h 12 24
  let gap := x.trained && (match x.rxG with
    | some g => g != seq
    | none => false)
  let s := if gap then s.laneRec 0x24 m 3 0 0 0 (some m) else s
  let btype := bits h 10 2
  let last := leNat (slice payload 2047 1)
  let ready := x.ready || btype != 2 || bitAt last 0
  let good := btype = 2 && (payload.take 2047).all (fun b => b = 0) && last ≤ 1
  let follows := x.rxG = none || x.rxG = some seq
  let run := if s.laneStage l != 6 && s.laneStage l != 8 || !good then 0 else if follows then x.trainRun + 1 else 1
  let s := s.setLane l { x with trainRun := run, rxG := some ((seq + 1) % 2 ^ 24), ready := ready, left := x.left || (x.trained && ready) }
  if btype = 0 && x.trained then s.payloadIn l m 256 payload else s

/-- The next of a group's blocks that wait: the one due; the earliest of them where the member that carries the one due has
delivered a later one; and at first the earliest once every member has delivered one (R331, R340, R343). -/
def nextBlock (n : Nat) (x : Lane) : Option (Nat × Nat × List Byte) :=
  let seq := fun (e : Nat × Nat × List Byte) => bits e.2.1 12 24
  let base := x.rxG.getD (((x.early.map seq).headD 0 + 2 ^ 23) % 2 ^ 24)
  let ahead := fun (e : Nat × Nat × List Byte) => (seq e + 2 ^ 24 - base) % 2 ^ 24
  let has := fun p => x.early.any (fun e => bits e.2.1 6 2 = p)
  match x.early.find? (fun e => x.early.all (fun f => ahead e ≤ ahead f)) with
  | none => none
  | some e => if (match x.rxG with
    | some g => seq e = g || has (g % n)
    | none => (List.range n).all has) then some e else none

/-- The group takes its blocks in order (R343). -/
def State.drainBlocks (l : Nat) : Nat → State → State
  | 0, s => s
  | fuel + 1, s =>
    match nextBlock (s.groupN l) (s.lane l) with
    | none => s
    | some e => State.drainBlocks l fuel ((s.setLane l { s.lane l with early := (s.lane l).early.erase e }).blockIn l e.1 e.2.1 e.2.2)

/-- A good block of member `m` of the group of `l`: from stage 6 on, a group's blocks are put in order by POS and BSEQ
(R343). -/
def State.memberBlock (s : State) (l m h : Nat) (payload : List Byte) : State :=
  if s.groupN l = 1 || s.laneStage l < 6 then s.blockIn l m h payload
  else
    let s := s.setLane l { s.lane l with early := (s.lane l).early ++ [(m, h, payload)] }
    State.drainBlocks l (s.lane l).early.length s

/-- The bits that PRBS_CHK takes: the first 31 set the reference, the others are compared with it (R377). -/
def State.prbsCheck (s : State) (l : Nat) (b : List Bool) : State :=
  let x := s.lane l
  let (k, b) := match x.prbsRef with
    | some k => (k, b)
    | none => (ofBits (b.take 31).reverse, b.drop 31)
  let (want, k) := prbs31 k b.length
  (s.setLane l { x with prbsRef := some k }).bumpN (F.LANE_PRBS_ERR l) ((b.zip want).filter (fun e => e.1 != e.2)).length

/-- The receiver of a lane out of service: PRBS, or blocks that come back in loopback (R377). -/
def State.testIn (s : State) (l : Nat) (b : List Bool) : State :=
  if s.on (F.LANE_LOOP_PRBS_CHK l) then s.prbsCheck l b
  else if s.get (F.LANE_LOOP_MODE l) = 0 then s
  else match receiveBits b with
    | .stuffing => (s.bump (F.LANE_STUFF_ERR l)).laneRec 0x24 l 2 0 0 0 (some l)
    | .badHeader => (s.bump (F.LANE_HDR_ERR l)).laneRec 0x24 l 1 0 0 0 (some l)
    | _ => s

/-- A discarded block is no good TRAIN block (R341). -/
def State.trainBreak (s : State) (l : Nat) : State := s.setLane l { s.lane l with trainRun := 0 }

/-- A beacon has arrived on lane `m` (R346). -/
def State.sawBeacon (s : State) (m : Nat) : State := s.setLane m { s.lane m with beaconAt := s.time.pix }

/-- Bits in the receiver of lane `m`, which serves the group of `l`. -/
def State.laneIn (s : State) (l m : Nat) (b : List Bool) : State :=
  if (s.lane l).waiting.isSome || s.laneStage m = 11 then s else
  match receiveBits (if s.on (F.LANE_STATE_RX_INVERTED m) then b.map (fun x => !x) else b) with
  | .noBlock => s
  | .stuffing => ((((s.sawBeacon m).bump (F.LANE_STUFF_ERR m)).laneRec 0x24 m 2 0 0 0 (some m)).trainBreak l).countBlock l true
  | .badHeader => ((((s.sawBeacon m).bump (F.LANE_HDR_ERR m)).laneRec 0x24 m 1 0 0 0 (some m)).trainBreak l).countBlock l true
  | .short => ((s.sawBeacon m).trainBreak l).countBlock l true
  | .ok h p => (s.sawBeacon m).memberBlock l m h p

/-- Bits that reach the receiver of lane `m`, from outside or from its own transmitter (R377). -/
def State.feed (s : State) (m : Nat) (b : List Bool) : State :=
  match s.leadOf m with
  | none => s.testIn m b
  | some l => if s.on (F.LANE_LOOP_PRBS_CHK m) then s.prbsCheck m b else s.laneIn l m b

/-- BLOCK_RECEIVED on lane `m`. In near-end and parallel loopback its own transmitter feeds the receiver, and what comes from
outside goes nowhere; far-end loopback sends it back (R377). -/
def State.blockReceived (s : State) (m : Nat) (b : List Bool) : State :=
  let mode := s.get (F.LANE_LOOP_MODE m)
  if mode = 1 || mode = 3 then s
  else (if mode = 2 then s.setLane m { s.lane m with out := b } else s).feed m b

/-- Lane `m` sends a block: PRBS31 in its place under PRBS_GEN. Near-end loopback hands what is sent to the lane's receiver;
parallel loopback hands it the block ahead of the serialiser, so that nothing goes out; far-end loopback sends what has been
received instead (R377). -/
def State.transmit (s : State) (m : Nat) (b : List Bool) : State :=
  let mode := s.get (F.LANE_LOOP_MODE m)
  let (o, k) := if s.on (F.LANE_LOOP_PRBS_GEN m) then prbs31 (s.lane m).prbs 16514 else (b, (s.lane m).prbs)
  let s := s.setLane m { s.lane m with prbs := k, out := if mode = 2 || (mode = 3 && !s.on (F.LANE_LOOP_PRBS_GEN m)) then (s.lane m).out else o }
  if mode = 1 then s.feed m o else if mode = 3 then s.feed m b else s

def execBlockReceived (t : Nat) (l : Fin 64) (b : List Bool) (s : State) : Host.Outcome State Fault Refusal :=
  .next ((s.advance t).blockReceived l.val b)

/-! ### Line packets (R351 to R354, R362) -/

/-- Pixels as one little-endian bit stream of `d` bits a component (R352). -/
def packStream (d : Nat) : List Pix → Nat
  | [] => 0
  | p :: r => p.r % 2 ^ d + p.g % 2 ^ d * 2 ^ d + p.b % 2 ^ d * 2 ^ (2 * d) + 2 ^ (3 * d) * packStream d r

/-- LINE_DATA with `n` pixels of a line of head `h` from pixel `a` on (R351). -/
def State.linePacket (s : State) (h : Nat) (x : Line) (a n : Nat) : List Byte :=
  let d := s.depth h
  let w := x.pix.length
  let va := (s.tb (s.master h)).timing.vactive
  packet 0x10 ((if a + n = w then 1 else 0) + 2 * ((d - 8) / 2)) (leBytes x.fseq 4 ++ leBytes x.no 2 ++ leBytes h 2 ++ leBytes a 2 ++
    leBytes n 2 ++ leBytes w 2 ++ leBytes va 2 ++ leBytes 0 4 ++ leBytes (packStream d ((x.pix.drop a).take n)) (divUp (3 * d * n) 8))

/-- A window-line entry (R354). -/
def trailerEntry (w : WinLine) : List Byte :=
  leBytes (w.win + 0x800 * w.verdict + 0x4000 * w.reason + (if w.valid then 0x80000 else 0) + if w.altered then 0x100000 else 0) 4 ++
    leBytes w.x 2 ++ leBytes w.dw 2 ++ leBytes w.sent 4 ++ leBytes w.seq 4

/-- LINE_TRAILER of a line of head `h` (R353). VIGIL.CTRL.TWIN counts as the head has taken it at its frame start (R52). -/
def State.trailerPacket (s : State) (h : Nat) (x : Line) : List Byte :=
  let va := (s.tb (s.master h)).timing.vactive
  packet 0x11 ((if x.lvalid then 1 else 0) + (if x.no + 1 = va then 2 else 0) + if (s.head h).twin then 4 else 0)
    (leBytes x.fseq 4 ++ leBytes x.no 2 ++ leBytes h 2 ++ leBytes x.wins.length 2 ++ leBytes 0 2 ++ leBytes x.disp 8 ++
      (x.wins.map trailerEntry).flatten)

/-- Pixels of depth `d` that fit a packet in `room` bytes (R348, R362). -/
def pixelsIn (d room : Nat) : Nat := if room < 40 then 0 else (room - 32) / 8 * 64 / (3 * d)

/-- Packets of head `h` for the space left in a block, at hop `k`: what is packed, and the room left. -/
def State.headPackets (s : State) (h k : Nat) : Nat → Nat → List Byte × State
  | 0, _ => ([], s)
  | n + 1, room =>
    let x := s.head h
    let over_ := if k = 0 then 0 else 16
    let line? := match x.outq with
      | l :: _ => some (l, true)
      | [] => if x.sent.full then some (x.sent, false) else none
    match line? with
    | none => ([], s)
    | some (l, voted) =>
      let left := l.pix.length - x.outAt
      if left != 0 then
        let m := min left (pixelsIn (s.depth h) (room - over_))
        if m = 0 then ([], s) else
        let p := toHop k (s.linePacket h l x.outAt m)
        let (r, s) := (s.setHead h { x with outAt := x.outAt + m }).headPackets h k n (room - p.length)
        (p ++ r, s)
      else if !voted then ([], s)
      else
        let p := toHop k (s.trailerPacket h l)
        if room < p.length then ([], s) else
        let (r, s) := (s.setHead h { x with outq := x.outq.drop 1, outAt := 0 }).headPackets h k n (room - p.length)
        (p ++ r, s)

/-- Packets that fit in order: those taken, and those that stay. -/
def takeFit (room : Nat) : List (List Byte) → List Byte × List (List Byte)
  | [] => ([], [])
  | p :: r => if p.length ≤ room then (let (a, b) := takeFit (room - p.length) r; (p ++ a, b)) else ([], p :: r)

def insertDue (e : Nat × Nat) : List (Nat × Nat) → List (Nat × Nat)
  | [] => [e]
  | f :: r => if e.1 < f.1 then e :: f :: r else f :: insertDue e r

/-- Heads whose lines the group sends, in order of their composition deadlines (R362). -/
def State.sendHeads (s : State) (l : Nat) : List (Nat × Nat) :=
  let hs := (List.range 32).filterMap (fun h => match s.headLane h with
    | some (m, k) => if m = l then some (h, k) else none
    | none => none)
  let due := hs.map (fun e => let b := s.tb (s.master e.1); (b.lineAt + b.lineLen, e.1))
  (due.foldl (fun r e => insertDue e r) []).filterMap (fun e => hs.find? (fun q => q.1 = e.2))

/-- The payload of the next block of the group: scans, line packets, then the rest (R362). -/
def State.nextPayload (s : State) (l : Nat) : List Byte × State :=
  let x := s.lane l
  let (a, scans) := takeFit 2048 x.scans
  let s := s.setLane l { x with scans := scans }
  let (a, s) := if s.laneUp l && scans.isEmpty then (s.sendHeads l).foldl (fun (p : List Byte × State) e =>
      let (b, s) := p.2.headPackets e.1 e.2 64 (2048 - p.1.length); (p.1 ++ b, s)) (a, s) else (a, s)
  let x := s.lane l
  let (b, ctl) := takeFit (2048 - a.length) x.ctl
  (a ++ b, s.setLane l { x with ctl := ctl })

/-! ### Blocks sent (R331, R341, R344, R347, R362, R377) -/

/-- The transmitter of a lane out of service: PRBS31, or idle blocks in near-end and parallel loopback (R377). -/
def State.testSend (s : State) (l : Nat) : State :=
  let x := s.lane l
  let mode := s.get (F.LANE_LOOP_MODE l)
  if mode = 1 || mode = 3 then
    (s.setLane l { x with txG := x.txG + 1 }).transmit l (blockBits (header l 0 0 1 x.txG) (List.replicate 2048 0))
  else if s.on (F.LANE_LOOP_PRBS_GEN l) then s.transmit l []
  else s

/-- After block SWITCH_BSEQ − 1 the rates change (R344). -/
def State.rateSwitch (s : State) (l : Nat) : State :=
  match (s.lane l).switch with
  | some (tx, rx, g) => if (s.lane l).txG = g then (s.setLane l { s.lane l with switch := none }).enterRate l tx rx else s
  | none => s

/-- PIXEL or LINK is lost (R18). -/
def State.lineLoss (s : State) : Bool := bitAt s.power.domLost 4 || bitAt s.power.domLost 5

/-- BLOCK_SEND: the next block of the group of `l`; in a loss of PIXEL or LINK the serialiser's own generator sends an idle
block (R18, R347). -/
def State.blockSend (s : State) (l : Nat) : State :=
  let st := s.laneStage l
  if st = 0 || st = 11 || (s.lane l).waiting.isSome || !s.admitted l then s else
  let x := s.lane l
  let n := s.groupN l
  let pos := x.txG % n
  let m := l + pos
  let (btype, payload, s) := if s.lineLoss then (1, List.replicate 2048 0, s)
    else if !x.left then (2, List.replicate 2047 0 ++ leBytes (if x.trained then 1 else 0) 1, s)
    else let (p, s) := s.nextPayload l
      (if p.isEmpty then 1 else 0, p ++ List.replicate (2048 - p.length) 0, s)
  let b := blockBits (header m pos (s.get (F.LANE_CFG_GSIZE l)) btype x.txG) payload
  let s := s.setLane l { s.lane l with txG := x.txG + 1 }
  (s.transmit m b).rateSwitch l

def execBlockSend (t : Nat) (l : Fin 64) (s : State) : Host.Outcome State Fault Refusal :=
  let s := s.advance t
  .next (match s.leadOf l.val with
    | some m => s.blockSend m
    | none => s.testSend l.val)

/-! ### OUTMAP and SENSEMAP (R360, R361, R374) -/

/-- LEAD of a mapping of head `h` does not serve: it names no lead lane with ROLE OUT, lies beyond the member, or another
head has the group and hop (R360). -/
def State.mapBad (s : State) (h : Nat) : Bool :=
  let l := s.get (F.DRAVIO_OUTMAP_LEAD h)
  let k := s.get (F.DRAVIO_OUTMAP_HOP h)
  s.nLanes ≤ l || s.get (F.LANE_CFG_ROLE l) != roleOut || s.get (F.LANE_CFG_GSIZE l) = 3 || l % s.groupN l != 0 ||
    s.on (F.LANE_STATE_MEMBER l) || (List.range 32).any (fun g => g != h && s.mapsTo g l && s.get (F.DRAVIO_OUTMAP_HOP g) = k)

/-- The group of lead `l` has another mapping: R361 no longer stops it. -/
def State.unstop (s : State) (l : Nat) : State :=
  if !(s.lane l).stopped then s
  else (s.groupHeads l).foldl State.mapStatus (s.setLane l { s.lane l with stopped := false })

/-- Lead and hop of head `h` by OUTMAP. -/
def State.outmapOf (s : State) (h : Nat) : Option (Nat × Nat) :=
  if s.on (F.DRAVIO_OUTMAP_EN h) then some (s.get (F.DRAVIO_OUTMAP_LEAD h), s.get (F.DRAVIO_OUTMAP_HOP h)) else none

/-- A write of OUTMAP of head `h`. A refused mapping leaves EN 0; one that changes nothing leaves a group stopped (R361). -/
def State.wrOutmap (s : State) (h : Nat) (v : Word) : State :=
  let was := s.outmapOf h
  let s := s.writeBits (F.DRAVIO_OUTMAP_LEAD h).key 0x81FF v
  let l := s.get (F.DRAVIO_OUTMAP_LEAD h)
  let k := s.get (F.DRAVIO_OUTMAP_HOP h)
  let freed := fun (s : State) => if s.outmapOf h = was then s else
    let s := match was with
      | some m => s.unstop m.1
      | none => s
    match s.outmapOf h with
    | some m => s.unstop m.1
    | none => s
  if !s.on (F.DRAVIO_OUTMAP_EN h) then (freed s).put (F.DRAVIO_OUTMAP_STATUS h) 3
  else
    let code := if s.mapBad h then 6 else if !s.demandFits l (s.get (F.LANE_CFG_TXMAX l)) then 7 else 0
    if code != 0 then ((freed (s.putB (F.DRAVIO_OUTMAP_EN h) false)).put (F.DRAVIO_OUTMAP_STATUS h) 2).laneRec 0x28 l code k h
    else (freed s).mapStatus h

def execOutmapWrite (i : Initiator) (h : Fin 32) (v : Word) (s : State) : Host.Outcome State Fault Refusal :=
  .next (s.asWrite i (F.DRAVIO_OUTMAP_LEAD h.val).key v (fun s => s.wrOutmap h.val v))

/-- A mapping takes effect at the head's frame start (R360). -/
def State.takeMap (s : State) (h : Nat) : State :=
  if 32 ≤ h then s else
  let m := s.outmapOf h
  let x := s.head h
  if x.map = m then s else s.setHead h { x with map := m, outq := [], outAt := 0 }

/-- A write of SENSEMAP of sense head `k` (R374, R423). -/
def State.wrSensemap (s : State) (k : Nat) (v : Word) : State :=
  let old := s.reg (F.DRAVIO_SENSEMAP_LANE k).key
  let t := s.writeBits (F.DRAVIO_SENSEMAP_LANE k).key 0x87FF v
  if t.reg (F.DRAVIO_SENSEMAP_LANE k).key = old then t
  else
    let t := if s.on (F.DRAVIO_SENSEMAP_EN k) then t.panelLost k else t
    if (t.senseLane k).isSome then t.panelUp k else t

def execSensemapWrite (i : Initiator) (k : Fin 32) (v : Word) (s : State) : Host.Outcome State Fault Refusal :=
  .next (s.asWrite i (F.DRAVIO_SENSEMAP_LANE k.val).key v (fun s => s.wrSensemap k.val v))

/-! ### The transmit ring (R376) -/

/-- HOST_LANE_TX: an entry of the transmit ring is built into a control packet, or refused. -/
def State.hostLaneTx (s : State) : State :=
  if !s.on F.DRAVIO_HOSTTX_EN then s else
  match s.ringTake dravioSrc (s.get F.DRAVIO_HOSTTX_RING) with
  | (0, e, s) =>
    let m := leNat (slice e 0 1)
    let hop := leNat (slice e 1 1) % 8
    let sub := leNat (slice e 4 1)
    let l := (s.leadOf m).getD m
    if (sub != 5 && sub < 0x80) || 64 ≤ m || !s.laneUp l || (hop != 0 && !s.bit (F.LANE_STATE_HOPS_SEEN l) (hop - 1)) then
      s.laneRec 0x2D m sub hop
    else s.queueCtl l hop (controlPacket sub (slice e 8 (min 248 (leNat (slice e 2 2)))))
  | (_, _, s) => s

def execHostLaneTx (t : Nat) (s : State) : Host.Outcome State Fault Refusal := .next (s.advance t).hostLaneTx

end Sys2Proof.Machine
end

