-- ==== Sys2Proof/Machine/Rings.lean ====
section
/-! DEFINITION. Rule-set activation, ring configuration, check-value jobs and the fault log's posting (R463 to R488). -/
namespace Sys2Proof.Machine

/-! ### Activation (R464 to R466) -/

/-- An enabled STAGE region of set `n` whose LAST lies below its BASE (R464 step 1). -/
def State.stageBad (s : State) (n i : Nat) : Bool :=
  let r := 16 * n + i
  s.on (F.REGION_EN 1 r) && s.regionLast 1 r < s.regionBase 1 r

/-- Two enabled STAGE regions of set `n` share a granule (R464 step 2). -/
def State.stageOverlap (s : State) (n i j : Nat) : Bool :=
  let a := 16 * n + i
  let b := 16 * n + j
  s.on (F.REGION_EN 1 a) && s.on (F.REGION_EN 1 b) && s.regionBase 1 a ≤ s.regionLast 1 b && s.regionBase 1 b ≤ s.regionLast 1 a

/-- The first overlapping pair, lower region first. -/
def State.overlapPair (s : State) (n : Nat) : Option (Nat × Nat) :=
  (List.range 16).findSome? (fun i => ((List.range 16).find? (fun j => i < j && s.stageOverlap n i j)).map (fun j => (i, j)))

/-- A refused activation of set `n` (R464, R479). -/
def State.actRefused (s : State) (cls n : Nat) (src : Src) : State :=
  (s.put F.PROT_ACT_STATUS 3).raise cls 0 0 (protDetail src .write n 4 (s.epochOf n) (s.epochOf n)) (some src.id.val)

/-- A write of PROT.ACT (R464 steps 1 and 2). -/
def State.wrAct (s : State) (src : Src) (v : Word) : State :=
  let n := bits v.toNat 0 6
  let s := s.put F.PROT_ACT_SET n
  if !bitAt v.toNat 8 || s.get F.PROT_ACT_STATUS = 1 then s
  else match (List.range 16).find? (s.stageBad n) with
    | some i => (s.put F.PROT_ACT_BAD_I i).actRefused 8 n src
    | none => match s.overlapPair n with
      | some (i, j) => ((s.put F.PROT_ACT_BAD_I i).put F.PROT_ACT_BAD_J j).actRefused 7 n src
      | none => { s.put F.PROT_ACT_STATUS 1 with bus := { s.bus with actSet := n } }

/-- An access of set `n` tagged with an epoch other than the current one is in flight (R464 step 3). -/
def State.oldInFlight (s : State) (n : Nat) : Bool :=
  s.bus.inflight.any (fun x => x.set = n && x.epoch != s.epochOf n)

/-- The words of region entries `r` of STAGE copied to ACTIVE. -/
def State.copyRegions (s : State) (base : Nat) : Nat → State
  | 0 => s
  | k + 1 => (s.copyRegions base k).setReg ((F.REGION_BASE_LO 0 0).key + base + 4 * k)
      (s.reg ((F.REGION_BASE_LO 1 0).key + base + 4 * k))

/-- An engine whose `rulesync` waits for the activation that was BUSY at its arrival waits for that no longer (R466). -/
def Engine.actEnded (e : Engine) : Engine := if e.wait = .rulesync true then { e with wait := .rulesync false } else e

/-- RULESET_ACTIVATE_DONE: STAGE becomes ACTIVE and the epoch counts (R464 steps 3 and 4). -/
def State.actDone (s : State) : State :=
  let n := s.bus.actSet
  if s.get F.PROT_ACT_STATUS = 1 && !s.oldInFlight n then
    { ((s.copyRegions (0x100 * n) 64).put (F.PROT_EPOCH n) (s.epochOf n + 1)).put F.PROT_ACT_STATUS 2 with
      eng := s.eng.map (fun e => (e.1, e.2.actEnded)) }
  else s

def execRulesetActivate (i : Initiator) (v : Word) (s : State) : Host.Outcome State Fault Refusal :=
  .next (s.asWrite i F.PROT_ACT_SET.key v (fun s => s.wrAct (s.issuer i) v))

def execRulesetActivateDone (t : Nat) (s : State) : Host.Outcome State Fault Refusal := .next (s.advance t).actDone

/-- A write of BIND_i (R465). -/
def State.wrBind (s : State) (n : Nat) (v : Word) : State := s.put (F.PROT_BIND n) (bits v.toNat 0 6)

def execBindWrite (i : Initiator) (n : Fin 128) (v : Word) (s : State) : Host.Outcome State Fault Refusal :=
  .next (s.asWrite i (F.PROT_BIND n.val).key v (fun s => s.wrBind n.val v))

/-- A write of PROT.CTRL: LOCKDOWN is set by a 1 and stays (R460, R485). -/
def State.wrLockdown (s : State) (v : Word) : State := if bitAt v.toNat 0 then s.putB F.PROT_CTRL_LOCKDOWN true else s

def execLockdownWrite (i : Initiator) (v : Word) (s : State) : Host.Outcome State Fault Refusal :=
  .next (s.asWrite i F.PROT_CTRL_LOCKDOWN.key v (fun s => s.wrLockdown v))

/-- An access in flight that `rulesync` waits for (R466). -/
def State.staleInFlight (s : State) : Bool := s.bus.inflight.any (fun x => s.staleTag x)

/-- A `rulesync` that arrives now waits (R466). -/
def State.syncBusy (s : State) : Bool := s.get F.PROT_ACT_STATUS = 1 || s.staleInFlight

/-! ### Ring registers (R467 to R471) -/

/-- The bytes lie wholly in usable DRAM, or wholly in frame SRAM (R470). -/
def State.ringMemOk (s : State) (a n : Nat) : Bool :=
  a + n ≤ s.dramEnd ||
    (0x1000000000 ≤ a && a + n ≤ 0x1000000000 + s.sramMib * 2 ^ 20 &&
      (List.range ((a + n - 1) / 0x40000 + 1 - a / 0x40000)).all (fun i => !s.bankOut ((a - 0x1000000000) / 0x40000 + i)))

/-- Code of the refusal of an enable of ring `k`, 0 for none (R470). -/
def State.ringCode (s : State) (k : Nat) : Nat :=
  let l := s.get (F.RINGS_CFG_LOG2N k)
  if l = 0 || 16 < l then 1
  else if 4 < s.get (F.RINGS_CFG_ESIZE k) then 2
  else if !s.ringMemOk (s.get (F.RINGS_BASE k) * 256) (s.ringN k * s.ringSize k) then 3
  else 0

/-- A write of CFG of ring `k` (R470). -/
def State.wrRingCfg (s : State) (k : Nat) (v : Word) : State :=
  let n := v.toNat
  let s := if s.on (F.RINGS_CFG_EN k) then s else
    (((s.put (F.RINGS_CFG_LOG2N k) (bits n 0 5)).put (F.RINGS_CFG_ESIZE k) (bits n 5 3)).putB (F.RINGS_CFG_PMODE k) (bitAt n 8)).putB
      (F.RINGS_CFG_CMODE k) (bitAt n 9)
  let s := if !bitAt n 12 then s.putB (F.RINGS_CFG_EN k) false
    else
      let c := s.ringCode k
      let s := ((s.put (F.RINGS_PUT k) 0).put (F.RINGS_GET k) 0).putB (F.RINGS_CFG_EN k) (c = 0)
      if c = 0 then s else s.raise 0x0A 0 0 (k + 0x100 * c)
  s.ringUpdate k

/-- A write of BASE of ring `k`: only while EN is 0 (R470). -/
def State.wrRingBase (s : State) (k : Nat) (v : Word) : State :=
  if s.on (F.RINGS_CFG_EN k) then s else s.put (F.RINGS_BASE k) v.toNat

/-- A write of BELL of ring `k` (R469). -/
def State.wrBell (s : State) (k : Nat) (v : Word) : State := (s.ringBell k (bits v.toNat 0 17) (bitAt v.toNat 31)).2

def execRingEnable (i : Initiator) (k : Fin 128) (v : Word) (s : State) : Host.Outcome State Fault Refusal :=
  .next (s.asWrite i (F.RINGS_CFG_EN k.val).key v (fun s => s.wrRingCfg k.val v))

def execRingDisable (i : Initiator) (k : Fin 128) (v : Word) (s : State) : Host.Outcome State Fault Refusal :=
  .next (s.asWrite i (F.RINGS_CFG_EN k.val).key v (fun s => s.wrRingCfg k.val v))

def execDoorbell (i : Initiator) (k : Fin 128) (v : Word) (s : State) : Host.Outcome State Fault Refusal :=
  .next (s.asWrite i (F.RINGS_BELL_INDEX k.val).key v (fun s => s.wrBell k.val v))

/-- RING_AGE_ATTENTION: the age condition of ring `k` is judged (R471). -/
def execRingAgeAttention (t : Nat) (k : Fin 128) (s : State) : Host.Outcome State Fault Refusal :=
  .next ((s.advance t).ringUpdate k.val)

/-! ### Check-value jobs (R473 to R478) -/

/-- A job descriptor (R474). -/
structure Job where
  op : Nat
  poly : Nat
  alive : Bool
  resume : Bool
  save : Bool
  ctx : Nat
  achan : Nat
  ring : Bool
  zero : Bool
  len : Nat
  src : Nat
  dst : Nat
  result : Nat
  acount : Nat
deriving DecidableEq, Repr

/-- The job that 32 bytes describe (R474). -/
def jobOf (b : List Byte) : Job :=
  let w := leNat (slice b 0 4)
  ⟨bits w 0 3, bits w 3 2, bitAt w 5, bitAt w 6, bitAt w 7, bits w 8 4, bits w 12 6, bitAt w 20,
   bits w 18 2 = 0 && bits w 21 11 = 0, bits (leNat (slice b 4 4)) 0 24, bits (leNat (slice b 8 8)) 0 40,
   bits (leNat (slice b 16 8)) 0 40, leNat (slice b 24 4), bits (leNat (slice b 28 4)) 16 16⟩

/-- Code of the refusal of a job by unit `u`, 0 for none (R478). -/
def State.jobCode (s : State) (u : Nat) (j : Job) : Nat :=
  if 3 ≤ j.op || !j.zero then 1
  else if j.save && j.op != 0 then 2
  else if j.resume && (!s.on (F.CHK_CTX_VALID u j.ctx) || s.get (F.CHK_CTX_POLY u j.ctx) != j.poly) then 3
  else if j.op = 2 && j.len < polyWidth j.poly + (if j.alive then 2 else 0) + 1 then 4
  else 0

/-- Detail of the classes of the check-value units (R479). -/
def chkDetail (u chan code : Nat) : Nat := u + 0x100 * chan + 0x10000 * code

def State.chkQueue (s : State) (u : Nat) : List ChkJob := tabGet [] s.chk u

/-- The queue of unit `u` becomes `q`, with STATE (R487). -/
def State.setChkQueue (s : State) (u : Nat) (q : List ChkJob) : State :=
  ({ s with chk := tabSet s.chk u q }.put (F.CHK_STATE_QUEUED u) q.length).putB (F.CHK_STATE_BUSY u) (!q.isEmpty)

/-- The last 8 bytes of a descriptor (R474, R477). -/
def jobTail (result code acount : Nat) : List Byte := leBytes result 4 ++ leBytes (code + 0x10000 * (acount % 0x10000)) 4

/-- `scan`: the job at `a` is submitted to unit `u` on behalf of `src` (R210, R474, R478). -/
def State.chkSubmit (s : State) (src : Src) (a u : Nat) : Nat × State :=
  if 8 ≤ u then (3, s)
  else if 16 ≤ (s.chkQueue u).length then (1, s)
  else match s.unitRead src a 32 with
    | (none, s) => (2, s.bump (F.CHK_REFUSED u))
    | (some b, s) =>
      let j := jobOf b
      let c := s.jobCode u j
      if c != 0 then (2, (s.bump (F.CHK_REFUSED u)).raise 0x0B 0 0 (chkDetail u j.achan c))
      else
        let (_, s) := s.unitWrite src (a + 24) (jobTail j.result 1 j.acount)
        (0, s.setChkQueue u (s.chkQueue u ++ [⟨a, b, src⟩]))

/-- A job of unit `u` ends with RESULT, CODE and ACOUNT (R477). -/
def State.chkEnd (s : State) (u : Nat) (q : ChkJob) (j : Job) (result code acount : Nat) : State :=
  let tail := jobTail result code acount
  let (_, s) := s.unitWrite q.src (q.at_ + 24) tail
  let s := s.bump (F.CHK_JOBS u)
  let s := if code = 3 then (s.bump (F.CHK_MISMATCH u)).raise 0x0C 0 0 (chkDetail u j.achan 3) (some u)
    else if code = 4 || code = 5 then (s.bump (F.CHK_ALIVE_ERR u)).raise 0x0D 0 0 (chkDetail u j.achan code) (some u)
    else if code = 6 then s.bump (F.CHK_REFUSED u) else s
  let s := s.setChkQueue u (s.chkQueue u).tail
  if j.ring && s.on (F.CHK_RING_EN u) then
    (s.ringPost q.src (s.get (F.CHK_RING_RING u)) (leBytes q.at_ 8 ++ tail)).2
  else s

/-- State from which a job starts (R475). -/
def State.jobInit (s : State) (u : Nat) (j : Job) : Nat :=
  if j.resume then s.get (F.CHK_CTX_STATE u j.ctx) else polyInit j.poly

/-- COMPUTE (R475). -/
def State.chkCompute (s : State) (u : Nat) (q : ChkJob) (j : Job) (data : List Byte) : State :=
  let st := polyFrom j.poly (s.jobInit u j) data
  if j.save then
    let s := ((s.put (F.CHK_CTX_STATE u j.ctx) st).put (F.CHK_CTX_POLY u j.ctx) j.poly).putB (F.CHK_CTX_VALID u j.ctx) true
    s.chkEnd u q j st 2 j.acount
  else s.chkEnd u q j (polyFinal j.poly st) 2 j.acount

/-- APPEND (R475). -/
def State.chkAppend (s : State) (u : Nat) (q : ChkJob) (j : Job) (data : List Byte) : State :=
  let c := s.get (F.CHK_ACH_TX j.achan)
  let body := data ++ (if j.alive then leBytes c 2 else [])
  let crc := polyFinal j.poly (polyFrom j.poly (s.jobInit u j) body)
  let ac := if j.alive then c else j.acount
  let (ok, s) := s.unitWrite q.src j.dst (body ++ leBytes crc (polyWidth j.poly))
  if ok then (if j.alive then s.put (F.CHK_ACH_TX j.achan) (c + 1) else s).chkEnd u q j crc 2 ac
  else s.chkEnd u q j crc 6 ac

/-- Verdict of an alive channel on a received count: CODE, copied, RX taken (R476). -/
def State.aliveJudge (s : State) (chan c : Nat) : Nat × Bool :=
  let d := (c + 0x10000 - s.get (F.CHK_ACH_RX chan)) % 0x10000
  if !s.on (F.CHK_ACH_RX_VALID chan) then (2, true)
  else if d = 0 then (4, false)
  else if d ≤ max 1 (s.get (F.CHK_ACH_WIN chan)) then (2, true)
  else (5, true)

/-- CHECK (R475, R476). -/
def State.chkCheck (s : State) (u : Nat) (q : ChkJob) (j : Job) (data : List Byte) : State :=
  let w := polyWidth j.poly
  let body := data.take (j.len - w)
  let crc := polyFinal j.poly (polyFrom j.poly (s.jobInit u j) body)
  let payload := if j.alive then body.take (body.length - 2) else body
  let c := if j.alive then leNat (body.drop (body.length - 2)) else j.acount
  if crc != leNat (data.drop (j.len - w)) then s.chkEnd u q j crc 3 c
  else
    let (code, copy) := if j.alive then s.aliveJudge j.achan c else (2, true)
    if !copy then s.chkEnd u q j crc code c
    else
      let (ok, s) := s.unitWrite q.src j.dst payload
      if !ok then s.chkEnd u q j crc 6 c
      else
        let s := if j.alive then (s.put (F.CHK_ACH_RX j.achan) c).putB (F.CHK_ACH_RX_VALID j.achan) true else s
        s.chkEnd u q j crc code c

/-- The oldest job of unit `u` runs to its end (R475 to R477). -/
def State.chkRun (s : State) (u : Nat) : State :=
  match s.chkQueue u with
  | [] => s
  | q :: _ =>
    let j := jobOf q.desc
    if s.bit F.SYS_FENCE_CHK u || s.test.unit = some (0xB8 + u) then s.chkEnd u q j j.result 7 j.acount
    else match s.unitRead q.src j.src j.len with
      | (none, s) => s.chkEnd u q j j.result 6 j.acount
      | (some data, s) =>
        match j.op with
        | 0 => s.chkCompute u q j data
        | 1 => s.chkAppend u q j data
        | _ => s.chkCheck u q j data

/-- Every queued job of unit `u` ends with CODE 7: the unit is fenced or tested (R477, R539, R543). -/
def State.chkAbort (s : State) (u : Nat) : State :=
  (s.chkQueue u).foldl (fun s q => let j := jobOf q.desc; s.chkEnd u q j j.result 7 j.acount) s

def execChkJobDone (t : Nat) (u : Fin 8) (s : State) : Host.Outcome State Fault Refusal := .next ((s.advance t).chkRun u.val)

/-! ### The fault log (R481, R483) -/

def logSrc : Src := ⟨0x7F, true⟩

/-- The log ring can take a record (R481). -/
def State.logReady (s : State) : Bool :=
  let k := s.get F.FAULT_CTRL_RING
  s.on F.FAULT_CTRL_EN && s.on (F.RINGS_CFG_EN k) && !s.on (F.RINGS_CFG_PMODE k) && s.ringSize k = 32 && s.ringFill k != s.ringN k

/-- The LOG_OVERFLOW record goes to the log ring, past the queue; where the ring refuses it, it is not raised and the records
stay lost (R481). -/
def State.postOverflow (s : State) : State :=
  let q := s.log.queue
  let t := { s with log := { s.log with queue := [], lost := 0 } }.raise 0x0F 0 0 s.log.lost
  let b := (t.log.queue.map Rec.bytes).flatten
  let (st, u) := { t with log := { t.log with queue := q } }.ringPost logSrc (s.get F.FAULT_CTRL_RING) b
  if st = 0 then u else (s.ringPost logSrc (s.get F.FAULT_CTRL_RING) b).2

/-- FAULT_RECORD_POST: the oldest record goes to the log ring, after a record of those lost (R481). -/
def State.postRecord (s : State) : State :=
  if !s.logReady then s
  else if s.log.lost != 0 then s.postOverflow
  else match s.log.queue with
    | [] => s
    | r :: q =>
      let (st, s) := s.ringPost logSrc (s.get F.FAULT_CTRL_RING) r.bytes
      if st = 0 then { s with log := { s.log with queue := q } } else s

def execFaultRecordPost (t : Nat) (s : State) : Host.Outcome State Fault Refusal := .next (s.advance t).postRecord

/-- The register at a key is a saturating event counter (R483). -/
def State.isCounter (s : State) (key : Nat) : Bool :=
  match rowAt (ctxLayout s.regs key) key with
  | some (r, _, _) => r.cnt
  | none => false

/-- A write of FAULT.CTR_CLEAR (R483, R488). -/
def State.wrCtrClear (s : State) (v : Word) : State :=
  if bitAt v.toNat 8 then
    { s with regs := s.regs.filter (fun e => !(e.1 / 0x100000 = bits v.toNat 0 5 && s.isCounter e.1)) }
  else s

def execCounterClear (i : Initiator) (v : Word) (s : State) : Host.Outcome State Fault Refusal :=
  .next (s.asWrite i F.FAULT_CTR_CLEAR_BLOCK.key v (fun s => s.wrCtrClear v))

end Sys2Proof.Machine
end

