-- ==== Sys2Proof/Machine/Test.lean ====
section
/-! DEFINITION. Fences, fuses, repair, start tests and in-service tests (R528, R536 to R546). Unit codes are those of
R537. -/
namespace Sys2Proof.Machine

/-- A record of classes 0xB0 to 0xBE (R545). -/
def State.testRec (s : State) (cls unit code : Nat) (a2 : Nat := 0) : State :=
  s.raise cls (if 0xB9 ≤ cls && cls ≤ 0xBD then keyAddr F.SYS_BOOT_STATUS_SLOT.key else keyAddr F.TEST_STATUS_STATE.key) a2
    (unit + 0x100 * code + 0x10000 * s.mode)

/-- The member has the unit (R36, R537). -/
def State.unitPresent (s : State) (u : Nat) : Bool :=
  if u < 0x10 then u < s.nDec
  else if u < 0x18 then u - 0x10 < s.nEnc
  else if u < 0x20 then u ≤ 0x1A
  else if u < 0x30 then u - 0x20 < s.nSconce
  else if u < 0x40 then u - 0x30 < s.nSlices
  else if u < 0x80 then u - 0x40 < s.nLanes
  else if u < 0x90 then u - 0x80 < s.nAudio
  else if u < 0xB2 then 0xB0 ≤ u || u - 0x90 < s.nTouch
  else 0xB8 ≤ u

/-! ### Fences (R539) -/

/-- Fence register and bit of a unit that can be fenced. -/
def fenceBit (u : Nat) : Option (Fld × Nat) :=
  if u < 0x10 then some (F.SYS_FENCE_DEC, u)
  else if u < 0x18 then some (F.SYS_FENCE_ENC, u - 0x10)
  else if u < 0x20 then none
  else if u < 0x30 then some (F.SYS_FENCE_CORE, u - 0x20)
  else if u < 0x3A then some (F.SYS_FENCE_SLICE, u - 0x30)
  else if u < 0x40 then none
  else if u < 0x60 then some (F.SYS_FENCE_LANE_LO, u - 0x40)
  else if u < 0x80 then some (F.SYS_FENCE_LANE_HI, u - 0x60)
  else if u < 0x90 then some (F.SYS_FENCE_AUDIO, u - 0x80)
  else if u = 0xB0 || u = 0xB1 then some (F.SYS_FENCE_TOUCH, u - 0xB0)
  else if 0xB8 ≤ u && u < 0xC0 then some (F.SYS_FENCE_CHK, u - 0xB8)
  else none

/-- The unit leaves service (R252, R292, R313, R477, R539). -/
def State.fenceEffect (s : State) (u : Nat) : State :=
  if u < 0x10 then (s.returnJob u).put (F.PIPE_STATE u) 5
  else if u < 0x18 then s.put (F.EPIPE_STATE (u - 0x10)) 5
  else if u < 0x30 then s.put (F.CORE_STATE (u - 0x20)) 5
  else if u < 0x40 then s.putB (F.COMP_SLICE_LOAD_FENCED (u - 0x30)) true
  else if u < 0x80 then
    let l := u - 0x40
    (match s.leadOf l with
     | some m => s.laneStop m
     | none => s).put (F.LANE_STATE_STAGE l) 11
  else if u < 0x90 then (s.sideStop (2 * (u - 0x80))).sideStop (2 * (u - 0x80) + 1)
  else if u < 0xB8 then s.panelOff (32 + (u - 0xB0))
  else s.chkAbort (u - 0xB8)

/-- A fence of unit `u` for a reason: 1 fuse, 2 start test, 3 register (R539, R545). An in-service test of the unit is
aborted (R544). -/
def State.fence (s : State) (u why : Nat) : State :=
  match fenceBit u with
  | none => s
  | some (f, i) =>
    if !s.unitPresent u || s.bit f i then s else
    let s := if s.test.unit = some u then s.abortTest else s
    (((s.putBit f i true).fenceEffect u).testRec 0xB6 u why).updMode

/-- Unit codes whose bits register `k` of the fence registers holds. -/
def fenceUnits (k : Nat) (v : Nat) : List Nat :=
  let from_ := fun base lo n => (List.range n).filterMap (fun i => if bitAt v (lo + i) then some (base + i) else none)
  match k with
  | 0 => from_ 0 0 16
  | 1 => from_ 0x10 0 8
  | 2 => from_ 0x20 0 16
  | 3 => from_ 0x30 0 10
  | 4 => from_ 0x40 0 32
  | 5 => from_ 0x60 0 32
  | _ => from_ 0xB8 0 8 ++ from_ 0x80 8 16 ++ from_ 0xB0 24 2

/-- Cores that a write of FENCE_CORE would fence newly. -/
def State.newCores (s : State) (v : Nat) : List Nat :=
  (List.range s.nSconce).filter (fun c => bitAt v c && !s.bit F.SYS_FENCE_CORE c)

/-- A write of fence register `k`: the six words at 0x0040 to 0x0054, and 0x0058 as 6 (R539, R547). -/
def State.wrFence (s : State) (k : Nat) (v : Word) : State :=
  let new := s.newCores v.toNat
  if k = 2 && !new.isEmpty && (s.get F.SYS_FENCE_CORE != 0 || 2 ≤ new.length || new.any (fun c => s.get (F.CORE_STATE c) != 0)) then
    s.testRec 0xB7 (0x20 + (new.head?.getD 0)) 5
  else (fenceUnits k v.toNat).foldl (fun s u => s.fence u 3) s

def execFenceWrite (i : Initiator) (k : Fin 7) (v : Word) (s : State) : Host.Outcome State Fault Refusal :=
  .next (s.asWrite i (F.SYS_FENCE_DEC.key + 4 * k.val) v (fun s => s.wrFence k.val v))

/-! ### Entry to SELF_TEST (R525, R528, R539) -/

/-- Of fuse records in the order written, those in force: valid, and not cleared by a later record of the same body (R541).
`body` is a record without VALID. -/
def inForce (body : Nat → Nat) (valid : Nat → Bool) : List Nat → List Nat
  | [] => []
  | e :: l =>
    let later := l.any (fun x => body x = body e)
    if valid e && !later then e :: inForce body valid l else inForce body valid l

/-- Units that the fence records fence (R539, R541). -/
def State.fuseFences (s : State) : List Nat := (inForce (fun e => e % 256) (fun e => bitAt e 8) s.fuses.fences).map (fun e => e % 256)

/-- The repair bank is read and the fences of its valid records apply. -/
def State.readRepairBank (s : State) : State :=
  let s := { s with fuses := { s.fuses with repairRead := true } }
  if s.fuses.repairBad then s.testRec 0xB4 0 4
  else s.fuseFences.foldl (fun s u => s.fence u 1) s

/-- SELF_TEST begins with its first test. Mark: DESIGN CHOICE, log entry 95: RASTER leaves reset here (R88). -/
def State.enterSelfTest (s : State) : State :=
  let s := { s with tbs := [], time := { s.time with rasterAt := s.time.pix, rasterT64 := s.time64 } }
  let s := (s.setMode modeSelfTest).put F.TEST_STATUS_STATE 1
  ((s.putB F.TEST_COND_CLK_OK true).putB F.TEST_COND_RAIL_OK true).readRepairBank

/-- START_STEP_DONE: the next rail of R491 lies within ±3 % (R496). `temp` is T in 0.125 °C, `extOk` says whether
REFCLK_IN qualifies (R12), `repairOk` whether a read of the repair bank succeeds (R528). -/
def State.stepDone (s : State) (temp : Int) (extOk repairOk : Bool) : State :=
  if s.mode != modeStaged || s.power.held || s.on F.HLTH_STATUS_LOW_HALT then s else
  let n := s.get F.PWR_STATUS_START_STEP + 1
  if 9 < n then s else
  let s := (stepRails n).foldl (fun s r => s.putBit F.PWR_RAIL_OK r true) (s.put F.PWR_STATUS_START_STEP n).stepBegins
  if n = 3 then
    let s := s.putI F.HLTH_TEMP_T temp
    if temp < -30 * 8 then (s.putB F.HLTH_STATUS_LOW_HALT true).heatRec 0x74 0 2 else s
  else if n = 9 then
    let s := (s.putB F.CLK_STATUS_REF_SRC (s.on F.CLK_REF_CFG_PREFER_EXT && extOk)).put F.CLK_STATUS_LOCK 0xFF
    { s with fuses := { s.fuses with repairBad := !repairOk } }.enterSelfTest
  else s

def execStartStepDone (t : Nat) (temp : Int) (extOk repairOk : Bool) (s : State) : Host.Outcome State Fault Refusal :=
  .next ((s.advance t).stepDone temp extOk repairOk)

/-! ### Warm reset and RESET_N (R527, R558) -/

/-- A warm reset. -/
def State.warmReset (s : State) : State := ((s.wipe.setMode modeSelfTest).testRec 0xBC 0 0).enterSelfTest

/-- A write of RESET_REQ (R527): ignored in OFF, INRUSH, STAGED_START and ORDERLY_STOP. -/
def State.wrResetReq (s : State) (v : Word) : State :=
  if bits v.toNat 0 16 = 0xB007 && modeSelfTest ≤ s.mode && s.mode != modeStop then s.warmReset else s

def execWarmReset (i : Initiator) (v : Word) (s : State) : Host.Outcome State Fault Refusal :=
  .next (s.asWrite i F.SYS_RESET_REQ_KEY.key v (fun s => s.wrResetReq v))

/-- RESET_N_ASSERT: low for 10 µs. -/
def State.resetLow (s : State) : State :=
  let s := s.railsOff
  { s with power := { s.power with resetLow := true } }

def execResetNAssert (t : Nat) (s : State) : Host.Outcome State Fault Refusal := .next (s.advance t).resetLow

/-- RESET_N_RELEASE: the part leaves OFF again under R493 and R510. -/
def State.resetHigh (s : State) : State :=
  let s := { s with power := { s.power with resetLow := false, holdOff := false } }
  s.vinStart (s.get F.PWR_VIN_MV)

def execResetNRelease (t : Nat) (s : State) : Host.Outcome State Fault Refusal := .next (s.advance t).resetHigh

/-- VAON_LOST: nothing holds but fuses, flash and the level of the reset input (R491, R533). -/
def State.vaonLost (s : State) : State :=
  { State.reset with pending := s.pending, time := { pix := s.time.pix },
                     fuses := { s.fuses with repairRead := false, mainRead := false, repairBad := false }, flash := s.flash,
                     power := { resetLow := s.power.resetLow }, free := s.free }

def execVaonLost (t : Nat) (s : State) : Host.Outcome State Fault Refusal := .next (s.advance t).vaonLost

/-! ### The start tests (R536 to R540, R542) -/

/-- A repair record from bits [23:0], with CHECK (R540). -/
def repairWord (r : Nat) : Nat := r % 2 ^ 24 + 2 ^ 24 * (polyFinal 3 (polyFrom 3 (polyInit 3) (leBytes r 3)) % 256)

/-- The repair records in force, whose CHECK is correct (R540, R541). -/
def State.fusedRepairs (s : State) : List Nat :=
  inForce (fun e => e % 2 ^ 23) (fun e => bitAt e 23) ((s.fuses.repairs.map (fun r => r.toNat)).filter (fun e => e = repairWord e))

/-- The repairs applied at this start: the fused ones, none of them from a blank bank, and the soft ones (R528, R540). -/
def State.repairsApplied (s : State) : List Nat :=
  (if s.fuses.repairRead && !s.fuses.repairBad then s.fusedRepairs else []) ++ s.test.soft.map (fun w => w.toNat)

/-- The lowest spare of the bank and kind of `r` that no repair applied has taken: 4 rows and 2 columns a bank (R540). -/
def State.freeSpare (s : State) (r : Nat) : Option Nat :=
  (List.range (if bitAt r 8 then 2 else 4)).find? (fun n => !s.repairsApplied.any (fun e => bits e 0 9 = bits r 0 9 && bits e 9 2 = n))

/-- A bank that cannot be repaired is removed (R538, R540). -/
def State.bankRemove (s : State) (b : Nat) : State :=
  if s.bus.banksOut.contains b then s else
  let s := { s with bus := { s.bus with banksOut := b :: s.bus.banksOut } }
  (s.put F.SYS_SRAM_OUT s.bus.banksOut.length).testRec 0xB3 0xC1 0

/-- A failure of the frame SRAM in the bank, of the kind and at the INDEX of `r` takes a spare: a soft repair, listed, counted and
logged with its spare; a bank whose spares run out is removed (R540). Mark: DESIGN CHOICE, log entry 150: the lowest free spare is
taken. -/
def State.softRepair (s : State) (r : Nat) : State :=
  if s.bus.banksOut.contains (bits r 0 8) then s else
  match s.freeSpare r with
  | none => s.bankRemove (bits r 0 8)
  | some sp =>
    let w := repairWord (bits r 0 9 + 2 ^ 9 * sp + 2 ^ 11 * bits r 11 12 + 2 ^ 23)
    let n := s.test.soft.length
    let s := { s with test := { s.test with soft := s.test.soft ++ [BitVec.ofNat 32 w] } }
    let s := if n < 256 then s.put (F.TEST_SOFT n) w else s
    (s.put F.TEST_SRAM_SOFT (n + 1)).testRec 0xB2 0xC1 sp

/-- A failed DRAM row takes soft post-package repair (R542). -/
def State.dramSoft (s : State) (rows : List Nat) : State :=
  ((List.range rows.length).zip rows).foldl (fun s e =>
    (if e.1 < 16 then s.put (F.TEST_DRAM_FAIL e.1) (e.2 % 2 ^ 27 + 2 ^ 31) else s).testRec 0xB5 0xC2 1) s

/-- The start stops in SELF_TEST (R538). -/
def State.testHalt (s : State) (u : Nat) : State :=
  if s.get F.TEST_STATUS_STATE = 3 then s
  else ((s.put F.TEST_STATUS_STATE 3).put F.TEST_STATUS_UNIT u).testRec 0xBE u 0

/-- A unit that the start tests cover: not fenced by fuse, not a remote panel (R537, R538). -/
def State.startTested (s : State) (u : Nat) : Bool :=
  s.unitPresent u && u < 0xCE && !(0x90 ≤ u && u < 0xB0) && !(s.fuseFences.contains u && !s.fuses.repairBad)

/-- A failing start test (R538). -/
def State.startFail (s : State) (u : Nat) : State :=
  let s := s.testRec 0xB0 u 0
  if 0x18 ≤ u && u ≤ 0x1A then s.failInstance (u - 0x18)
  else if 0x20 ≤ u && u < 0x30 then (if s.get F.SYS_FENCE_CORE = 0 then s.fence u 2 else s.testHalt u)
  else if (fenceBit u).isSome then s.fence u 2
  else if u = 0xC1 then s
  else s.testHalt u

/-- One result of the start tests: 1 PASS, 2 FAIL, 3 CONDITIONS, 5 REPAIRED (R536, R538, R546). -/
def State.startResult (s : State) (x : TestResult) : State :=
  let u := x.unit.val
  if !s.startTested u then s else
  let s := ((s.put (F.TEST_RESULT_RESULT u) x.result.val).putB (F.TEST_RESULT_IN_SERVICE u) false).put (F.TEST_RESULT_DETAIL u) x.detail.toNat
  let s := if x.result.val = 2 then s.startFail u else s
  let s := if x.result.val = 3 then
      let n := tabGet 0 s.test.tries u + 1
      { s with test := { s.test with tries := tabSet s.test.tries u n, tryAt := s.time.pix } }.testRec 0xB1 u n
    else s
  x.badBanks.foldl (fun s b => s.bankRemove b.val) s

/-- A test that ended in CONDITIONS is still to be repeated (R536). -/
def State.retryDue (s : State) : Bool := s.test.tries.any (fun e => s.get (F.TEST_RESULT_RESULT e.1) = 3 && e.2 < 3)

/-- The records that VAON logic has latched for the next BOOT (R509, R514). Mark: DESIGN CHOICE, log entry 130: the second address
of 0x8A holds the lost domains. -/
def State.latchedRecords (s : State) : State :=
  let s := if s.power.tripLatch then s.heatRec 0x73 0 0 else s
  let s := match s.power.clockLatch with
    | some d => s.pwrRec 0x8A 0 7 none d
    | none => s
  { s with power := { s.power with tripLatch := false, clockLatch := none } }

/-- BOOT begins with the read of the main bank (R519, R525, R528). -/
def State.enterBoot (s : State) (mainOk : Bool) : State :=
  if !mainOk then (s.testRec 0xB4 0 4).testHalt 0
  else
    let s := { s with fuses := { s.fuses with mainRead := true }, test := { s.test with bootEntry := s.time.pix } }
    ((s.put F.TEST_STATUS_STATE 0).setMode modeBoot).ledgerLoad.latchedRecords

/-- SELF_TEST_DONE: the start tests have given these results. A start that holds stays where it is (R498). -/
def State.testsDone (s : State) (results : List TestResult) (repairs : RepairFind) (mainOk : Bool) : State :=
  if s.mode != modeSelfTest || s.power.held || s.get F.TEST_STATUS_STATE = 3 then s else
  let s := results.foldl (fun s x => s.startResult x) s
  let s := repairs.soft.foldl (fun s r => s.softRepair r.toNat) s
  let s := s.dramSoft (repairs.dramRows.map (fun r => r.toNat))
  if s.get F.TEST_STATUS_STATE = 3 || s.retryDue then s
  else (s.put F.MEMC_TRAINED (2 ^ 2 ^ s.logChan - 1)).enterBoot mainOk

def execSelfTestDone (t : Nat) (results : List TestResult) (repairs : RepairFind) (mainOk : Bool) (s : State) :
    Host.Outcome State Fault Refusal := .next ((s.advance t).testsDone results repairs mainOk)

/-- TEST_CONDITIONS_RETRY: the test of `u` runs again 10 ms later, inside the window (R536). -/
def State.testRetry (s : State) (u : Nat) : State :=
  if s.mode = modeSelfTest && !s.power.held && s.get F.TEST_STATUS_STATE = 1 && s.get (F.TEST_RESULT_RESULT u) = 3 && tabGet 0 s.test.tries u < 3 &&
      s.test.tryAt + 10 * clkMs ≤ s.time.pix then
    (((s.put F.TEST_STATUS_UNIT u).put (F.TEST_RESULT_RESULT u) 0).putB F.TEST_COND_CLK_OK true).putB F.TEST_COND_RAIL_OK true
  else s

def execTestConditionsRetry (t : Nat) (u : Fin 256) (s : State) : Host.Outcome State Fault Refusal := .next ((s.advance t).testRetry u.val)

/-! ### In-service tests (R543, R544) -/

/-- A unit code that R537 tests in service. -/
def istTestable (u : Nat) : Bool :=
  u < 0x1B || (0x40 ≤ u && u < 0xB2) || (0xB8 ≤ u && u < 0xC0) || u = 0xC1

/-- Every session of encode pipe `p` fits on another pipe (R308, R543): each in turn takes the room that is left. -/
def State.sessionsFit (s : State) (p : Nat) : Bool :=
  let others := (List.range s.nEnc).filter (fun q => q != p && s.epipeIn q)
  let loads := others.map s.epipeLoad
  let put := fun (l : Option (List Nat)) v => match l with
    | none => none
    | some l =>
      let r := s.encRate v
      match leastBy (fun i => nth 0 l i) ((List.range l.length).filter (fun i => nth 0 l i + r ≤ 504000000)) with
      | none => none
      | some i => some (addAt l i r)
  ((s.epipeSess p).foldl put (some loads)).isSome

/-- The precondition of R543, which a unit that the member does not have cannot fail. -/
def State.istReady (s : State) (u : Nat) : Bool :=
  if !s.unitPresent u then true
  else if u < 0x10 then
    100 * (s.openVideo.map s.declaredOf).sum ≤ 95 * ((s.pipesIn.filter (fun q => q != u)).map s.pipeRate).sum
  else if u < 0x18 then s.sessionsFit (u - 0x10)
  else if u < 0x1B then (s.inService.filter (fun i => i != u - 0x18)).length = 2
  else if u < 0x80 then !s.on (F.LANE_CFG_EN (u - 0x40)) && !s.on (F.LANE_STATE_MEMBER (u - 0x40))
  else if u < 0x90 then !s.sideOn (2 * (u - 0x80)) && !s.sideOn (2 * (u - 0x80) + 1)
  else if u < 0xB2 then !s.on (F.PANEL_CFG_EN (u - 0x90)) && (0xB0 ≤ u || (s.senseLane (u - 0x90)).isSome)
  else if u < 0xC0 then true
  else (List.range 8).any (fun n => s.get (F.TEST_SRAM_RESERVE n) != 0)

/-- Refusal code of a request, 0 for none (R543). -/
def State.istCode (s : State) (u : Nat) : Nat :=
  if s.test.unit.isSome then 1
  else if !istTestable u then 2
  else if !(s.mode = modeReady || s.mode = modeLive || s.mode = modeDegraded) then 3
  else if !s.istReady u then 4
  else if !s.unitPresent u then 6
  else 0

/-- The unit goes under test: what it was is kept (R543, R544). -/
def State.istTake (s : State) (u : Nat) : State :=
  let keep := fun (s : State) p => { s with test := { s.test with prior := p } }
  if u < 0x10 then
    let s := s.returnJob u
    let s := if s.pipeLive u then s.pipeRest u else s
    (keep s (s.get (F.PIPE_STATE u))).put (F.PIPE_STATE u) 4
  else if u < 0x18 then
    let st := s.get (F.EPIPE_STATE (u - 0x10))
    (keep s (if st = 1 then 0 else st)).put (F.EPIPE_STATE (u - 0x10)) 4
  else if u < 0x1B then
    let s := keep s (s.get (vigilState (u - 0x18)))
    if s.refHead.isNone then s.vigilTestEnter (u - 0x18) else s
  else if u < 0x80 then (keep s (s.get (F.LANE_STATE_STAGE (u - 0x40)))).put (F.LANE_STATE_STAGE (u - 0x40)) 10
  else if u < 0x90 then s
  else if u < 0xB0 then s.startCmd (u - 0x90) [5]
  else if u < 0xB8 then s
  else if u < 0xC0 then s.chkAbort (u - 0xB8)
  else s

/-- TEST.COND shows the window before a test: no domain lost or more than 2 % off, every rail within ±3 % (R536). -/
def State.condSample (s : State) : State :=
  (s.putB F.TEST_COND_CLK_OK (s.power.domLost = 0 && s.power.domOff = 0)).putB F.TEST_COND_RAIL_OK (s.get F.PWR_RAIL_OK = 0xFFF)

/-- A write of IST_CMD (R543, R546). Outside the window of R536 the test stops at once. -/
def State.wrIst (s : State) (v : Word) : State :=
  let u := bits v.toNat 0 8
  let s := s.put F.TEST_IST_CMD_UNIT u
  if !bitAt v.toNat 8 then s else
  let c := s.istCode u
  if c != 0 then ((s.put F.TEST_IST_CMD_STATUS 2).put F.TEST_IST_CMD_CODE c).testRec 0xB7 u c
  else
    let s := { s with test := { s.test with unit := some u } }
    let s := (((s.put F.TEST_IST_CMD_STATUS 1).put F.TEST_IST_CMD_CODE 0).put F.TEST_STATUS_STATE 2).put F.TEST_STATUS_UNIT u
    let s := s.condSample
    if s.on F.TEST_COND_CLK_OK && s.on F.TEST_COND_RAIL_OK then (s.istTake u).updMode
    else ((s.testRec 0xB1 u 1).endTest 3 0).updMode

def execIstGo (i : Initiator) (v : Word) (s : State) : Host.Outcome State Fault Refusal :=
  .next (s.asWrite i F.TEST_IST_CMD_UNIT.key v (fun s => s.wrIst v))

/-- A unit that passed returns to service; a fenced one stays fenced (R544). -/
def State.istPass (s : State) (u : Nat) : State :=
  if u < 0x10 then
    (if s.bit F.SYS_FENCE_DEC u then s.put (F.PIPE_STATE u) 5 else (s.putBit F.DEC_FAILED u false).pipeRest u)
  else if u < 0x18 then
    let p := u - 0x10
    if s.bit F.SYS_FENCE_ENC p then s.put (F.EPIPE_STATE p) 5
    else if !s.bit F.ENC_PIPE_EN p then (s.putBit F.ENC_FAILED p false).put (F.EPIPE_STATE p) 6
    else ((s.putBit F.ENC_FAILED p false).put (F.EPIPE_STATE p) 0).epipeState p
  else if u < 0x1B then
    let i := u - 0x18
    if s.refHead.isNone then s.restoreInstance i
    else { s with vigil := { s.vigil with restore := s.vigil.restore.set i true } }
  else if 0x40 ≤ u && u < 0x80 then s.put (F.LANE_STATE_STAGE (u - 0x40)) (s.idleStage (u - 0x40))
  else s

/-- A unit that failed is FAILED, where it has such a state (R544). -/
def State.istFail (s : State) (u : Nat) : State :=
  if u < 0x10 then (s.put (F.PIPE_STATE u) 3).putBit F.DEC_FAILED u true
  else if u < 0x18 then (s.put (F.EPIPE_STATE (u - 0x10)) 3).putBit F.ENC_FAILED (u - 0x10) true
  else if u < 0x1B then
    { s with vigil := { s.vigil with restore := s.vigil.restore.set (u - 0x18) false } }.setInstance (u - 0x18) 2
  else if 0x40 ≤ u && u < 0x80 then s.put (F.LANE_STATE_STAGE (u - 0x40)) (s.idleStage (u - 0x40))
  else s

/-- IST_DONE: the test under way ends with 1 PASS, 2 FAIL or 5 REPAIRED; `soft` are the soft repairs of a failed bank. -/
def State.istDone (s : State) (result detail : Nat) (soft : List Nat) : State :=
  match s.test.unit with
  | none => s
  | some u =>
    if s.istWaits u || !(result = 1 || result = 2 || result = 5) then s else
    let s := if u = 0xC1 then soft.foldl (fun s r => s.softRepair r) s else s
    let s := if result = 2 then s.istFail u else s.istPass u
    (s.endTest result detail).updMode

def execIstDone (t : Nat) (result : Fin 8) (detail : BitVec 8) (soft : List (BitVec 24)) (s : State) : Host.Outcome State Fault Refusal :=
  .next ((s.advance t).istDone result.val detail.toNat (soft.map (fun r => r.toNat)))

/-- TEST_OUT_OF_CONDITIONS: the test under way stops with CONDITIONS; which of the two conditions is broken the event does
not say, a free value (R536, log entry 2). -/
def State.outOfConditions (s : State) : State :=
  let (f, s) := s.freeVal 8
  let s := (s.putB F.TEST_COND_CLK_OK (f % 3 = 1)).putB F.TEST_COND_RAIL_OK (f % 3 = 2)
  match s.test.unit with
  | some u =>
    let s := s.testRec 0xB1 u 1
    let s := s.untest u
    (s.endTest 3 0).updMode
  | none =>
    if s.mode = modeSelfTest && s.get F.TEST_STATUS_STATE = 1 then
      s.startResult ⟨Fin.ofNat 256 (s.get F.TEST_STATUS_UNIT), 3, 0, []⟩
    else s

def execTestOutOfConditions (t : Nat) (s : State) : Host.Outcome State Fault Refusal := .next (s.advance t).outOfConditions

/-! ### Fuses and hard repair (R541, R542) -/

/-- Soft repairs not yet fused. -/
def State.unfused (s : State) : List Nat := (s.test.soft.map (fun w => w.toNat)).filter (fun r => !s.fusedRepairs.contains r)

/-- Refusal code of a fuse command, 0 for none (R541). -/
def State.fuseCode (s : State) (op : Nat) : Nat :=
  let t := s.getI F.HLTH_TEMP_T
  if s.mode != modeService then 1
  else if t < 0 || 85 * 8 < t then 2
  else if op = 0 then (if 256 - s.fuses.repairs.length < s.unfused.length then 3 else 0)
  else if 32 ≤ s.fuses.fences.length then 3 else 0

/-- A write of FUSE_CMD (R541, R546). GO does nothing with a reserved OP or while a command is busy. -/
def State.wrFuseCmd (s : State) (v : Word) : State :=
  let op := bits v.toNat 0 2
  let u := bits v.toNat 8 8
  let s := (s.put F.TEST_FUSE_CMD_OP op).put F.TEST_FUSE_CMD_UNIT u
  if !bitAt v.toNat 16 || s.test.fuse.isSome || 2 ≤ op then s else
  let c := s.fuseCode op
  if c != 0 then ((s.put F.TEST_FUSE_CMD_STATUS 2).put F.TEST_FUSE_CMD_CODE c).testRec 0xB4 (if op = 0 then 0xC1 else u) c
  else
    let s := { s with test := { s.test with fuse := some (op, u), abandon := false } }
    ((s.put F.TEST_FUSE_CMD_STATUS 1).put F.TEST_FUSE_CMD_CODE 0).put F.TEST_STATUS_STATE 4

def execFuseSramRepair (i : Initiator) (v : Word) (s : State) : Host.Outcome State Fault Refusal :=
  .next (s.asWrite i F.TEST_FUSE_CMD_OP.key v (fun s => s.wrFuseCmd v))

def execFuseFence (i : Initiator) (v : Word) (s : State) : Host.Outcome State Fault Refusal :=
  .next (s.asWrite i F.TEST_FUSE_CMD_OP.key v (fun s => s.wrFuseCmd v))

/-- `todo` is written to free records, `room` of them; a record that fails its verify is followed by one that clears its
VALID bit, and the next free record takes the repair (R541). With `stop`, no record is written beyond the listed
verifies. -/
def blowRecords (invalid : Nat → Nat) (stop : Bool) : Nat → List Nat → List Bool → List Nat
  | 0, _, _ => []
  | _ + 1, [], _ => []
  | room + 1, r :: todo, [] => if stop then [] else r :: blowRecords invalid stop room todo []
  | room + 1, r :: todo, true :: vs => r :: blowRecords invalid stop room todo vs
  | room + 1, r :: todo, false :: vs =>
    match room with
    | 0 => [r]
    | room + 1 => r :: invalid r :: blowRecords invalid stop room (r :: todo) vs

/-- A repair record with VALID clear. -/
def invalidRepair (r : Nat) : Nat := repairWord (r % 2 ^ 23)

/-- FUSE_CMD_DONE: `verify` holds the program-verify of each record written in order, true where it ends early. -/
def State.fuseDone (s : State) (verify : List Bool) : State :=
  match s.test.fuse with
  | none => s
  | some (op, u) =>
    let stop := s.test.abandon
    let todo := s.unfused
    let l := if op = 0 then blowRecords invalidRepair stop (256 - s.fuses.repairs.length) todo verify
      else blowRecords (fun r => r % 256) stop (32 - s.fuses.fences.length) [0x100 + u] verify
    let s := if op = 0 then { s with fuses := { s.fuses with repairs := s.fuses.repairs ++ l.map (fun r => BitVec.ofNat 32 r) } }
      else { s with fuses := { s.fuses with fences := s.fuses.fences ++ l } }
    let s := { s with test := { s.test with fuse := none, abandon := false, dirty := s.test.dirty || !l.isEmpty } }
    let s := s.put F.TEST_STATUS_STATE 0
    let c : Nat := if stop then 6 else if op = 0 && !todo.all l.contains then 3 else 0
    if c = 0 then s.put F.TEST_FUSE_CMD_STATUS 0
    else ((s.put F.TEST_FUSE_CMD_STATUS 2).put F.TEST_FUSE_CMD_CODE c).testRec 0xB4 (if op = 0 then 0xC1 else u) c

def execFuseCmdDone (t : Nat) (verify : List Bool) (s : State) : Host.Outcome State Fault Refusal := .next ((s.advance t).fuseDone verify)

/-- Channel `c` is trained and in service, or not (R33). -/
def State.putTrained (s : State) (c : Nat) (b : Bool) : State := if c < 2 ^ s.logChan then s.putBit F.MEMC_TRAINED c b else s

/-- A write of PPR_CMD (R542, R546): refused outside SERVICE (R526). The channel leaves service for the repair. -/
def State.wrPpr (s : State) (v : Word) : State :=
  let s := ((s.put F.TEST_PPR_CMD_CHANNEL (bits v.toNat 0 5)).put F.TEST_PPR_CMD_BANK (bits v.toNat 5 4)).put F.TEST_PPR_CMD_ROW (bits v.toNat 9 18)
  if !bitAt v.toNat 27 || s.test.ppr.isSome then s
  else if s.mode != modeService then s.put F.TEST_PPR_CMD_STATUS 2
  else
    let c := bits v.toNat 0 5
    ({ s with test := { s.test with ppr := some c } }.putTrained c false).put F.TEST_PPR_CMD_STATUS 1

def execPprGo (i : Initiator) (v : Word) (s : State) : Host.Outcome State Fault Refusal :=
  .next (s.asWrite i F.TEST_PPR_CMD_CHANNEL.key v (fun s => s.wrPpr v))

/-- PPR_DONE: the device had a repair resource left, or not (R542). -/
def State.pprDone (s : State) (resource : Bool) : State :=
  match s.test.ppr with
  | none => s
  | some c =>
  let s := { s with test := { s.test with ppr := none } }.putTrained c true
  if resource then ({ s with test := { s.test with dirty := true } }.put F.TEST_PPR_CMD_STATUS 0).testRec 0xB5 0xC2 3
  else (s.put F.TEST_PPR_CMD_STATUS 2).testRec 0xB5 0xC2 2

def execPprDone (t : Nat) (resource : Bool) (s : State) : Host.Outcome State Fault Refusal := .next ((s.advance t).pprDone resource)

/-! ### Supply events that bear on these (R489, R498, R501, R541) -/

/-- VIN falls below VIN_WARN; a fuse command in progress is abandoned after its record. -/
def State.vinLow (s : State) (mv : Nat) : State :=
  let s := if s.mode = modeService && s.test.fuse.isSome && mv < s.vinWarnMv then { s with test := { s.test with abandon := true } } else s
  s.vinWarn mv

def execVinWarnCross (t : Nat) (mv : Nat) (s : State) : Host.Outcome State Fault Refusal := .next ((s.advance t).vinLow mv)

/-- A write of VIN_WARN_CFG: a VIN below it counts at once (R489). -/
def State.wrVinWarn (s : State) (v : Word) : State :=
  let s := s.put F.PWR_VIN_WARN_CFG (bits v.toNat 0 13)
  if s.get F.PWR_VIN_MV < s.vinWarnMv then s.vinLow (s.get F.PWR_VIN_MV) else s

def execVinWarnCfgWrite (i : Initiator) (v : Word) (s : State) : Host.Outcome State Fault Refusal :=
  .next (s.asWrite i F.PWR_VIN_WARN_CFG.key v (fun s => s.wrVinWarn v))

def execGovernorRelease (t : Nat) (pin : Nat) (s : State) : Host.Outcome State Fault Refusal := .next ((s.advance t).governorRelease pin)

end Sys2Proof.Machine
end

