-- ==== Sys2Proof/Machine/Boot.lean ====
section
/-! DEFINITION. Mode requests and boot (R526, R529 to R535), with the loading of Exfort objects (R178 to R181). -/
namespace Sys2Proof.Machine

/-! ### Mode requests (R525, R526) -/

/-- A write of MODE_REQ. A fuse program or hard repair still in progress counts as made (R525, R542). -/
def State.wrModeReq (s : State) (v : Word) : State :=
  let q := bits v.toNat 0 4
  let s := s.put F.SYS_MODE_REQ_REQ q
  if q = modeService && s.mode = modeReady && !s.anyHead then
    ({ s with test := { s.test with dirty := false } }.setMode modeService).put F.SYS_MODE_REQ_STATUS 1
  else if q = modeReady && s.mode = modeService && !s.test.dirty && s.test.fuse.isNone && s.test.ppr.isNone then (s.setMode modeReady).put F.SYS_MODE_REQ_STATUS 1
  else (s.put F.SYS_MODE_REQ_STATUS 2).testRec 0xBB 0 q

def execModeReqWrite (i : Initiator) (v : Word) (s : State) : Host.Outcome State Fault Refusal :=
  .next (s.asWrite i F.SYS_MODE_REQ_REQ.key v (fun s => s.wrModeReq v))

/-! ### Exfort objects (R178 to R180) -/

/-- A segment of an object: KIND, FILE_OFS, LOAD_ADDR, FILE_SIZE, MEM_SIZE, CHECK. -/
structure Seg where
  kind : Nat
  ofs : Nat
  load : Nat
  file : Nat
  mem : Nat
  check : Nat
deriving DecidableEq, Repr

/-- An object in memory, read from its first byte on. -/
structure Obj where
  target : Nat
  level : Nat
  entry : Nat
  size : Nat
  member : Nat
  isa : Nat
  headOk : Bool
  segs : List Seg
deriving DecidableEq, Repr

/-- A segment table entry (R179). -/
def segOf (b : List Byte) : Seg :=
  ⟨leNat (slice b 0 1), leNat (slice b 4 4), leNat (slice b 8 8), leNat (slice b 0x10 4), leNat (slice b 0x14 4), leNat (slice b 0x1C 4)⟩

/-- The object whose bytes stand in `rd` (R178): `rd i n` reads n bytes from offset i. -/
def objOf (rd : Nat → Nat → List Byte) : Obj :=
  let b := rd 0 0x40
  let n := leNat (slice b 0x18 2)
  let so := leNat (slice b 0x1A 2)
  { target := leNat (slice b 6 1), level := leNat (slice b 7 1), entry := leNat (slice b 8 8), size := leNat (slice b 0x20 4),
    member := leNat (slice b 0x1C 1), isa := leNat (slice b 0x24 4),
    headOk := leNat (slice b 0 4) = 0x31465845 && leNat (slice b 4 2) = 1 && leNat (slice b 0x3C 4) = crc32c (slice b 0 0x3C),
    segs := (List.range n).map (fun i => segOf (rd (so + 32 * i) 32)) }

/-- Two segments share a byte of the same space. -/
def segsMeet (a b : Seg) : Bool :=
  ((a.kind = 4) = (b.kind = 4)) && a.mem != 0 && b.mem != 0 && a.load < b.load + b.mem && b.load < a.load + a.mem

/-- Some two segments of a list meet. -/
def anyMeet : List Seg → Bool
  | [] => false
  | a :: r => r.any (segsMeet a) || anyMeet r

/-- A TEXT segment lies in DRAM or in the L2 SRAM window. -/
def State.textOk (s : State) (g : Seg) : Bool :=
  g.mem = 0 || (s.region g.load = .dram && g.load + g.mem ≤ s.dramEnd) ||
    (s.region g.load = .l2sram && g.load + g.mem ≤ 0x1080000000 + s.windowWays * 0x80000)

/-- A loader accepts the object (R180). -/
def State.objOk (s : State) (o : Obj) (rd : Nat → Nat → List Byte) : Bool :=
  o.headOk && o.isa ≤ 1 && o.member ≤ s.fuses.member && o.target ≤ 1 && o.level ≤ 1 &&
    o.segs.all (fun g => 1 ≤ g.kind && g.kind ≤ 4 && g.check = (if g.kind = 3 then 0 else crc32c (rd g.ofs g.file)) &&
      (g.kind != 4 || g.load + g.mem ≤ 0x4000) && (g.kind != 1 || s.textOk g)) &&
    !anyMeet o.segs

/-! ### Directory and slots (R530 to R532) -/

def State.flashRead (s : State) (a n : Nat) : List Byte := cellRead 0xFF s.flash a n

/-- A directory: its sequence, and offset, length and BAD of each slot. -/
structure Dir where
  seq : Nat
  slots : List (Nat × Nat × Bool)
deriving DecidableEq, Repr

/-- The directory copy at an offset, when its CHECK is correct. -/
def State.dirAt (s : State) (a : Nat) : Option Dir :=
  let b := s.flashRead a 0x40
  if leNat (slice b 0x3C 4) = crc32c (slice b 0 0x3C) then
    let bad := leNat (slice b 0x18 4)
    some ⟨leNat (slice b 4 4), [(leNat (slice b 8 4), leNat (slice b 0xC 4), bitAt bad 0), (leNat (slice b 0x10 4), leNat (slice b 0x14 4), bitAt bad 1)]⟩
  else none

/-- The directory that the boot unit uses (R530). -/
def State.directory (s : State) : Option Dir :=
  match s.dirAt 0, s.dirAt 0x10000 with
  | some a, some b => some (if seqLater 32 b.seq a.seq then b else a)
  | some a, none => some a
  | none, d => d

/-- The objects of an image, with their offsets: each begins on the next 8-byte boundary. -/
def State.objects (s : State) (at_ : Nat) : Nat → List (Nat × Obj)
  | 0 => []
  | n + 1 =>
    let o := objOf (fun i k => s.flashRead (at_ + i) k)
    (at_, o) :: s.objects (divUp (at_ + o.size) 8 * 8) n

/-- Objects of the slot at an offset. -/
def State.slotObjects (s : State) (ofs : Nat) : List (Nat × Obj) := s.objects (ofs + 256) (leNat (s.flashRead (ofs + 0xC) 1))

/-- The public key of an image: the last segment of KIND DATA of its first object, 97 bytes (R531). -/
def State.slotKey (s : State) (ofs : Nat) : List Byte :=
  match s.slotObjects ofs with
  | [] => []
  | (a, o) :: _ => match (o.segs.filter (fun g => g.kind = 2)).getLast? with
    | some g => s.flashRead (a + g.ofs) g.file
    | none => []

/-- What the signature of an image covers: bytes 0x00 to 0x7F, then the ILEN − 256 bytes of the objects; the ECDSA check of SIG is
made over its SHA-384 digest (R531). -/
def State.slotDigest (s : State) (ofs : Nat) : List Byte :=
  sha384 (s.flashRead ofs 0x80 ++ s.flashRead (ofs + 256) (leNat (s.flashRead (ofs + 8) 4) - 256))

/-- Key KEY is fused and not revoked, and its hash is that of the image's public key (R531, R532). -/
def State.keyGood (s : State) (ofs key : Nat) : Bool :=
  match nth none s.fuses.keys key with
  | none => false
  | some k => !k.revoked && (s.slotKey ofs).length = 97 && sha384 (s.slotKey ofs) = k.hash

/-- The objects of an image end within its ILEN bytes (R531). -/
def objectsFit (ofs ilen : Nat) (os : List (Nat × Obj)) : Bool := os.all (fun e => e.1 + e.2.size ≤ ofs + ilen)

/-- Result of R532 for a slot: 0 a pass, else the code. `sig` says whether SIG verifies over the digest under the public key, which
is the matter of FIPS 186-5. Mark: DEDUCED, log entry 132: objects that run past ILEN fail as objects. -/
def State.slotCode (s : State) (ofs len : Nat) (sig : Bool) : Nat :=
  let b := s.flashRead ofs 256
  let il := leNat (slice b 8 4)
  let nobj := leNat (slice b 0xC 1)
  if leNat (slice b 0 4) != 0x4D494B53 || leNat (slice b 0x70 4) != crc32c (slice b 0 0x70) || len < il || nobj = 0 || 32 < nobj then 1
  else
    let os := s.slotObjects ofs
    let first := match os with
      | (_, o) :: _ => o.target = 0 && o.level = 1
      | [] => false
    if !first || !objectsFit ofs il os || os.any (fun e => !s.objOk e.2 (fun i k => s.flashRead (e.1 + i) k)) then 2
    else if !s.fuses.secure then 0
    else if !bitAt (leNat (slice b 0xC 4)) 10 then 3
    else if !s.keyGood ofs (bits (leNat (slice b 0xC 4)) 8 2) then 4
    else if !sig then 3
    else 0

/-- A slot is refused with a code of R532. -/
def State.slotFails (s : State) (i ofs code : Nat) : State :=
  (s.put (if i = 0 then F.SYS_BOOT_STATUS_RESULT_A else F.SYS_BOOT_STATUS_RESULT_B) code).testRec 0xB9 0 code ofs

/-- The first slot of a list of slot numbers that passes; the ones before it are refused. -/
def State.trySlots (s : State) (d : Dir) (sigs : List Bool) : List Nat → Option Nat × State
  | [] => (none, s)
  | i :: r =>
    let (ofs, len, _) := nth (0, 0, true) d.slots i
    let c := s.slotCode ofs len (nth false sigs i)
    if c = 0 then (some i, s) else (s.slotFails i ofs c).trySlots d sigs r

/-! ### Boot (R529, R533 to R535) -/

/-- A segment is copied and its excess zeroed (R181); sequencer programs are not the boot loader's (log entry 41). -/
def State.loadSeg (s : State) (at_ : Nat) (g : Seg) : State :=
  if g.kind = 4 then s
  else (s.unitWrite bootSrc g.load (s.flashRead (at_ + g.ofs) g.file ++ List.replicate (g.mem - g.file) 0)).2

/-- The image of the slot is placed, and the lowest core not fenced starts at the entry of its first object (R533). -/
def State.loadImage (s : State) (i ofs : Nat) : State :=
  let os := s.slotObjects ofs
  let s := os.foldl (fun s e => e.2.segs.foldl (fun s g => s.loadSeg e.1 g) s) s
  let entry := ((os.head?).map (fun e => e.2.entry)).getD 0
  let c := (((List.range s.nSconce).find? (fun c => !s.bit F.SYS_FENCE_CORE c))).getD 0
  let s := ((s.put F.SYS_BOOT_STATUS_SLOT i).put F.SYS_BOOT_STATE_LAST_SLOT i).putB F.SYS_BOOT_STATE_CONFIRMED false
  let s := (s.put F.SYS_IMAGE_VERSION (leNat (s.flashRead (ofs + 4) 4))).put F.SYS_BOOT_CORE c
  let s := ((s.put (F.CORE_ENTRY_LO c) (entry % 2 ^ 32 / 4 * 4)).put (F.CORE_ENTRY_HI c) (entry / 2 ^ 32)).putB (F.CORE_CTL_RUN c) true
  ({ s with test := { s.test with bootAt := some s.time.pix } }.startCore c).setMode modeReady

/-- The order in which the slots are checked: BAD ones dropped, the later IVER first (R533). -/
def State.slotOrder (s : State) (d : Dir) : List Nat :=
  let ver := fun i => leNat (s.flashRead ((nth (0, 0, true) d.slots i).1 + 4) 4)
  (if seqLater 32 (ver 1) (ver 0) then [1, 0] else [0, 1]).filter (fun i => !(nth (0, 0, true) d.slots i).2.2)

/-- READ_MODE: the fastest read mode that the SFDP tables list, 5 where their signature is absent (R529). -/
def readMode : Option Sfdp → Nat
  | none => 5
  | some f => if f.octalDdr then 0 else if f.octal then 1 else if f.quadIo then 2 else if f.quadOut then 3 else 4

/-- The boot unit addresses the flash with 4 bytes: the tables declare a device above 16 MiB (R529). -/
def flashAddr4 : Option Sfdp → Bool
  | none => false
  | some f => 16 < f.mib

/-- BOOT_LOAD_DONE: what the SFDP tables of the flash list (R529), and for each slot whether its SIG verifies (R531). A start that
holds stays where it is (R498). -/
def State.bootLoad (s : State) (sfdp : Option Sfdp) (sigA sigB : Bool) : State :=
  if s.mode != modeBoot || s.power.held then s else
  let s := (s.put F.SYS_BOOT_STATUS_READ_MODE (readMode sfdp)).putB F.SYS_BOOT_STATUS_SECURE s.fuses.secure
  let s := { s with test := { s.test with addr4 := flashAddr4 sfdp } }
  let none_ := fun (s : State) => ((s.put F.SYS_BOOT_STATUS_SLOT 2).testRec 0xBA 0 0).setMode modeService
  match s.directory with
  | none => none_ s
  | some d =>
    let last := s.get F.SYS_BOOT_STATE_LAST_SLOT
    let skip := s.on F.SYS_BOOT_STATE_RETRY && (s.slotOrder d).contains last
    let order := (s.slotOrder d).filter (fun i => !(skip && i = last))
    let s := if skip then s.slotFails last (nth (0, 0, true) d.slots last).1 5 else s
    match s.trySlots d [sigA, sigB] order with
    | (some i, s) => s.loadImage i (nth (0, 0, true) d.slots i).1
    | (none, s) => none_ s

def execBootLoadDone (t : Nat) (sfdp : Option Sfdp) (sigA sigB : Bool) (s : State) : Host.Outcome State Fault Refusal :=
  .next ((s.advance t).bootLoad sfdp sigA sigB)

/-- A write of BOOT_CONFIRM (R534). -/
def State.wrBootConfirm (s : State) (v : Word) : State :=
  if bits v.toNat 0 16 = 0xC0F1 then
    let s := { s with test := { s.test with bootAt := none } }
    (s.putB F.SYS_BOOT_STATE_CONFIRMED true).putB F.SYS_BOOT_STATE_RETRY false
  else s

def execBootConfirm (i : Initiator) (v : Word) (s : State) : Host.Outcome State Fault Refusal :=
  .next (s.asWrite i F.SYS_BOOT_CONFIRM.key v (fun s => s.wrBootConfirm v))

/-- BOOT_WDOG: BOOT_WDOG_S seconds have passed since the start without a confirmation (R534). -/
def State.bootWdog (s : State) : State :=
  let n := s.get F.SYS_BOOT_WDOG_S
  match s.test.bootAt with
  | none => s
  | some a =>
    if n != 0 && a + n * clkS ≤ s.time.pix && modeSelfTest ≤ s.mode && s.mode != modeStop then
      ((s.testRec 0xBD 0 0).putB F.SYS_BOOT_STATE_RETRY true).warmReset
    else s

def execBootWdog (t : Nat) (s : State) : Host.Outcome State Fault Refusal := .next (s.advance t).bootWdog

end Sys2Proof.Machine
end

