-- ==== Sys2Proof/Machine/L2.lean ====
section
/-! DEFINITION. The L2's control registers: ways held as SRAM and the non-cacheable windows (R170 to R172). -/
namespace Sys2Proof.Machine

/-- First address past the L2 SRAM window of `n` ways (R170). -/
def l2WindowEnd (n : Nat) : Nat := 0x1080000000 + n * 0x80000

/-- A write of SRAM_WAYS: BUSY is set, and L2 misses stall, until the change is done (R171). -/
def State.wrSramWays (s : State) (v : Word) : State :=
  let s := (s.put F.L2_SRAM_WAYS (bits v.toNat 0 4)).putB F.L2_STATUS_BUSY true
  { s with bus := { s.bus with waysDue := true } }

def execL2SramWaysWrite (i : Initiator) (v : Word) (s : State) : Host.Outcome State Fault Refusal :=
  .next (s.asWrite i F.L2_SRAM_WAYS.key v (fun s => s.wrSramWays v))

/-- Memory and poison outside an address range: what the range held is gone, and reads as zero. -/
def State.eraseRange (s : State) (lo hi : Nat) : State :=
  { s with mem := s.mem.filter (fun c => !(lo ≤ c.1 && c.1 < hi)), dirty := s.dirty.filter (fun c => !(lo ≤ c.1 && c.1 < hi))
           poison := s.poison.filter (fun w => !(lo ≤ w && w < hi)) }

/-- L2_RECONFIG_DONE: ways that left the cache are written back and zeroed, ways that left the SRAM are discarded, the
window covers the new number of ways, and BUSY clears (R171). Mark: DESIGN CHOICE, log entry 100: the dirty lines in the ways
that leave the cache are all the dirty lines there are. -/
def State.l2Done (s : State) : State :=
  if !s.on F.L2_STATUS_BUSY then s
  else
    let old := s.bus.l2Ways
    let new := s.sramWays
    let s := if old < new then s.cleanRange 0 (2 ^ 40) else s
    let s := if old = new then s else s.eraseRange (l2WindowEnd (min old new)) (l2WindowEnd (max old new))
    { s with bus := { s.bus with l2Ways := new, waysDue := false, ncDue := [] } }.putB F.L2_STATUS_BUSY false

def execL2ReconfigDone (t : Nat) (s : State) : Host.Outcome State Fault Refusal := .next (s.advance t).l2Done

/-- The DRAM that non-cacheable window `n` covers, enabled, is cleaned and invalidated; BUSY is set, and cores stall on that
range, until it clears (R171). -/
def State.ncClean (s : State) (n : Nat) : State :=
  if s.on (F.L2_NC_LIMIT_EN n) then
    let lo := s.get (F.L2_NC_BASE n) * 2 ^ 20
    let hi := (s.get (F.L2_NC_LIMIT_LAST n) + 1) * 2 ^ 20
    let s := (s.cleanRange lo hi).putB F.L2_STATUS_BUSY true
    { s with bus := { s.bus with ncDue := s.bus.ncDue ++ [(lo, hi)] } }
  else s

/-- A write of NC_BASE or NC_LIMIT of window `n`: what it covers is written back first (R171, R172). -/
def State.wrNc (s : State) (n : Nat) (limit : Bool) (v : Word) : State :=
  let w := v.toNat
  let s := if limit then (s.put (F.L2_NC_LIMIT_LAST n) (bits w 0 20)).putB (F.L2_NC_LIMIT_EN n) (bitAt w 31)
    else s.put (F.L2_NC_BASE n) (bits w 0 20)
  s.ncClean n

def execNcWindowWrite (i : Initiator) (n : Fin 4) (limit : Bool) (v : Word) (s : State) : Host.Outcome State Fault Refusal :=
  .next (s.asWrite i (if limit then (F.L2_NC_LIMIT_EN n.val).key else (F.L2_NC_BASE n.val).key) v (fun s => s.wrNc n.val limit v))

end Sys2Proof.Machine
end

