-- ==== Sys2Proof/Machine/Time.lean ====
section
/-! DEFINITION. The servo of the time unit and the steps of time (R392 to R401, R406). FREQ and RATE count 0.001 ppb. -/
namespace Sys2Proof.Machine

/-! ### Waits of an engine that end (R193, R401, R466) -/

/-- The instruction on which an engine waits completes: destination `d` takes `v`, and the PC passes on. -/
def State.finishWait (s : State) (k d v : Nat) : State :=
  let e := s.engine k
  let g := if d = 0 then e.g else tabSet e.g d (BitVec.ofNat 64 v)
  s.setEngine k { e with g := g, wait := .none, pc := (e.pc + 4) % 2 ^ 40, retired := e.retired + 1 }

/-! ### Steps of time (R398, R401) -/

def servoUnset : Nat := 0
def servoLocking : Nat := 1
def servoLocked : Nat := 2
def servoHoldover : Nat := 3
def servoStepping : Nat := 4

def State.servoState (s : State) : Nat := s.get F.TIME_STATUS_SERVO
def State.setServo (s : State) (v : Servo) : State := { s with servo := v }

/-- Core `c` has waited for a step, which is made: `timerestep` completes (R401). -/
def State.stepCoreDone (s : State) (c : Nat) : State :=
  if c < 16 && (s.engine c).wait = .step then (s.finishWait c 0 0).settleHalt c else s

/-- TIME64 and the epoch step by `a`; the records and counts of a step (R398, R401). -/
def State.applyStep (s : State) (a : Int) (first : Bool) (core prior : Nat) : State :=
  let n : Int := (2 ^ 64 * nsUnit : Nat)
  let s := { s with time := { s.time with acc := (((s.time.acc : Int) + a * nsUnit) % n).toNat, everLocked := s.time.everLocked || first } }
  let s := s.put F.TIME_STATUS_EPOCH (s.get F.TIME_STATUS_EPOCH + 1)
  let s := (s.put64 F.TIME_LAST_STEP (uint 64 a)).bump F.TIME_STEP_COUNT
  let s := s.timeRec (if first then 0x64 else 0x65) 0 (uint 64 a)
  let s := (s.put F.TIME_STATUS_SERVO (if first then servoLocking else prior)).putB F.TIME_STATUS_STEP_BUSY false
  let s := if first then s.putB F.TIME_STATUS_STEPPED true else s
  let s := s.setServo { s.servo with step := none, needRef := true, inRun := 0, outRun := 0
                                     quietAt := if first then s.time.pix else s.servo.quietAt }
  let s := { s with heads := s.heads.map (fun (e : Nat × Head) => (e.1, if e.2.stepHold = 1 then { e.2 with stepHold := 2 } else e.2)) }
  s.stepCoreDone core

/-- A step arrives at the time unit, with none under way: every enabled head withholds its windows, and with no head
enabled time steps at once (R401). `core` is 16 for the first step. -/
def State.beginStep (s : State) (a : Int) (first : Bool) (core : Nat) : State :=
  let prior := s.servoState
  if !s.anyHead then s.applyStep a first core prior
  else
    let s := (s.put F.TIME_STATUS_SERVO servoStepping).putB F.TIME_STATUS_STEP_BUSY true
    let s := s.setServo { s.servo with step := some (a, first, core, prior) }
    ((List.range 48).filter s.enabled).foldl (fun s h => s.setHead h { s.head h with stepHold := 1, stepAt := s.time.pix }) s

/-- The steps that have waited begin, one after another (R401). -/
def State.nextSteps (s : State) : Nat → State
  | 0 => s
  | fuel + 1 =>
    match s.servo.step, s.servo.waiting with
    | none, (a, c) :: r => ((s.setServo { s.servo with waiting := r }).beginStep a false c).nextSteps fuel
    | _, _ => s

/-- Head `h` has started to send a line at least one line period after the step arrived (R401). -/
def State.stepLineStarted (s : State) (h : Nat) : Bool :=
  (s.tb h).sending && (s.head h).stepAt + (s.tb (s.master h)).lineLen ≤ (s.head h).sentAt

/-- TIME_STEP_APPLY: once every enabled head that withholds has started such a line, time steps (R401). -/
def State.stepApply (s : State) : State :=
  match s.servo.step with
  | none => s
  | some (a, first, core, prior) =>
    if ((List.range 48).filter (fun h => s.enabled h && (s.head h).stepHold = 1)).all s.stepLineStarted then
      (s.applyStep a first core prior).nextSteps (s.servo.waiting.length + 1)
    else s

def execTimeStepApply (t : Nat) (s : State) : Host.Outcome State Fault Refusal := .next (s.advance t).stepApply

/-- `timerestep` of core `c` by `a` (R401): whether it completes at once, and the state. -/
def State.timeRestep (s : State) (c : Nat) (a : Int) : Bool × State :=
  if a = 0 then (true, s)
  else if s.servo.step.isSome then (false, s.setServo { s.servo with waiting := s.servo.waiting ++ [(a, c)] })
  else
    let s := s.beginStep a false 16
    match s.servo.step with
    | none => (true, s)
    | some (a, f, _, p) => (false, s.setServo { s.servo with step := some (a, f, c, p) })

/-! ### Samples (R397 to R400) -/

/-- LOCK_NS, OUTLIER_US in ns, SPREAD_US in ns and HOLD_MS in PIXEL clocks as they read (R406). -/
def State.lockNs (s : State) : Nat := max 1 (s.get F.TIME_SERVO_CFG_LOCK_NS)
def State.outlierNs (s : State) : Nat := 1000 * max 1 (s.get F.TIME_SERVO_LIM_OUTLIER_US)
def State.spreadNs (s : State) : Nat := 1000 * max 1 (s.get F.TIME_SERVO_LIM_SPREAD_US)
def State.holdClk (s : State) : Nat := clkMs * max 100 (s.get F.TIME_HOLD_MS)

/-- Entry to HOLDOVER with a code (R399, R400). -/
def State.toServoHoldover (s : State) (code : Nat) : State :=
  let s := match s.servo.step with
    | some (a, f, c, _) => s.setServo { s.servo with step := some (a, f, c, servoHoldover), needRef := true }
    | none => (s.put F.TIME_STATUS_SERVO servoHoldover).setServo { s.servo with needRef := true }
  (s.put F.TIME_RATE (s.get F.TIME_FREQ)).timeRec 0x67 code 0

/-- The state that the servo is in, or returns to after the step under way. -/
def State.servoBase (s : State) : Nat :=
  match s.servo.step with
  | some (_, _, _, p) => p
  | none => s.servoState

/-- The sample `o` breaks the spread with those counted before it (R398). -/
def State.spreadBroken (s : State) (o : Int) : Bool :=
  s.servo.counted.any (fun c => (s.spreadNs : Int) < (o - c).natAbs)

/-- Code with which a sample is rejected, 0 for none (R397). -/
def State.sampleCode (s : State) (o : Int) (at_ : Nat) : Nat :=
  if s.on F.TIME_STATUS_STEPPED && s.outlierNs < o.natAbs then 1
  else if (match s.servo.prevAt with
    | some p => decide (sint 64 (at_ + 2 ^ 64 - p) ≤ 0)
    | none => false) then 2
  else if s.servoState = servoUnset && s.spreadBroken o then 3
  else if s.get F.TIME_SAMPLE_EPOCH != s.epoch then 4
  else if s.servo.step.isSome then 5
  else 0

/-- A sample is rejected (R397 to R399). -/
def State.rejectSample (s : State) (o : Int) (at_ code : Nat) : State :=
  let s := (s.bump F.TIME_REJECT).timeRec 0x68 code 0 (some 0)
  match code with
  | 1 =>
    let n := s.servo.outliers + 1
    let s := s.setServo { s.servo with outliers := n }
    if n = 16 && s.servoBase != servoHoldover then s.toServoHoldover 2 else s
  | 3 => s.setServo { s.servo with counted := [o], prevAt := some at_ }
  | _ => s

/-- LAST_OFS, saturating (R406). -/
def State.putLastOfs (s : State) (o : Int) : State := s.putI F.TIME_LAST_OFS (max (-(2 ^ 31)) (min (2 ^ 31 - 1) o))

/-- An accepted sample in UNSET counts; the third makes the first step (R398). -/
def State.countSample (s : State) (o : Int) : State :=
  let l := (o :: s.servo.counted).take 3
  if l.length < 3 then s.setServo { s.servo with counted := l }
  else
    let s := s.setServo { s.servo with counted := [] }
    if o = 0 then
      let s := (s.putB F.TIME_STATUS_STEPPED true).put F.TIME_STATUS_SERVO servoLocking
      let s := s.setServo { s.servo with needRef := true, quietAt := s.time.pix }
      { s with time := { s.time with everLocked := true } }.timeRec 0x64 0 0
    else s.beginStep (-o) true 16

/-- The limit of FREQ and r: ±500,000 ppb. -/
def rateMax : Int := 500000000
def rateClamp (i : Int) : Int := max (-rateMax) (min rateMax i)

/-- A sample with a reference before it, `dt` ns ago, steers FREQ and r and counts toward lock (R398). -/
def State.steer (s : State) (o : Int) (dt : Nat) : State :=
  let d := max 1 (min 1000000000 dt)
  let term := fun (sh : Nat) => roundDivI (o * 1000000000000) (d * 2 ^ sh)
  let f := s.getI F.TIME_FREQ - term (s.get F.TIME_SERVO_CFG_KI_SHIFT)
  let f' := rateClamp f
  let r := f' - term (s.get F.TIME_SERVO_CFG_KP_SHIFT)
  let bind := f != f' || r != rateClamp r
  let s := (s.putI F.TIME_FREQ f').putI F.TIME_RATE (rateClamp r)
  let s := if bind && !s.servo.clamped then s.timeRec 0x69 0 0 else s
  let inw := o.natAbs ≤ s.lockNs
  let i := if inw then s.servo.inRun + 1 else 0
  let u := if inw then 0 else s.servo.outRun + 1
  let s := s.setServo { s.servo with clamped := bind, inRun := i, outRun := u }
  if s.servoState = servoLocking && 16 ≤ i then
    (((s.put F.TIME_STATUS_SERVO servoLocked).setServo { s.servo with outRun := 0 })).timeRec 0x66 0 0
  else if s.servoState = servoLocked && 4 ≤ u then
    (s.put F.TIME_STATUS_SERVO servoLocking).setServo { s.servo with inRun := 0 }
  else s

/-- A write of OFS_SAMPLE submits a sample (R397 to R400). After any step, one of `timerestep` in UNSET included, the first
accepted sample only sets the reference (R398, R401). -/
def State.sample (s : State) (v : Nat) : State :=
  let o := sint 64 v
  let at_ := s.get64 F.TIME_SAMPLE_AT
  let s := s.put64 F.TIME_OFS_SAMPLE v
  if !s.on F.TIME_SERVO_CFG_EN then s else
  let code := s.sampleCode o at_
  if code != 0 then s.rejectSample o at_ code
  else
    let prev := s.servo.prevAt
    let s := (s.putLastOfs o).setServo { s.servo with prevAt := some at_, outliers := 0, quietAt := s.time.pix }
    if s.servo.needRef then
      let s := s.setServo { s.servo with needRef := false, inRun := 0, outRun := 0 }
      if s.servoState = servoHoldover then s.put F.TIME_STATUS_SERVO servoLocking else s
    else if s.servoState = servoUnset then s.countSample o
    else s.steer o (sint 64 (at_ + 2 ^ 64 - prev.getD at_)).toNat

/-- SERVO_SAMPLE: a 64-bit write of OFS_SAMPLE, in one step; a low half held goes (R397, R573). Mark: DESIGN CHOICE, log entry 114. -/
def execServoSample (i : Initiator) (v : Dword) (s : State) : Host.Outcome State Fault Refusal :=
  .next (s.asWrite i F.TIME_OFS_SAMPLE v (fun s => (s.dropLow F.TIME_OFS_SAMPLE).sample v.toNat))

/-- A write of FREQ: taken in UNSET only, where r follows it (R398, R406). -/
def State.wrFreq (s : State) (v : Word) : State :=
  if s.servoState = servoUnset then (s.setReg F.TIME_FREQ.key v).setReg F.TIME_RATE.key v else s

def execFreqWrite (i : Initiator) (v : Word) (s : State) : Host.Outcome State Fault Refusal :=
  .next (s.asWrite i F.TIME_FREQ.key v (fun s => s.wrFreq v))

/-- A write of SERVO_CFG: EN written 0 after the first step enters HOLDOVER (R400, R406). -/
def State.wrServoCfg (s : State) (v : Word) : State :=
  let s := s.setReg F.TIME_SERVO_CFG_EN.key (v &&& 0xFFFF7701#32)
  if !bitAt v.toNat 0 && s.on F.TIME_STATUS_STEPPED && s.servoBase != servoHoldover then s.toServoHoldover 1 else s

def execServoCfgWrite (i : Initiator) (v : Word) (s : State) : Host.Outcome State Fault Refusal :=
  .next (s.asWrite i F.TIME_SERVO_CFG_EN.key v (fun s => s.wrServoCfg v))

/-- SERVO_HOLDOVER: no sample has been accepted for HOLD_MS (R400). -/
def State.servoQuiet (s : State) : State :=
  if (s.servoBase = servoLocking || s.servoBase = servoLocked) && s.on F.TIME_STATUS_STEPPED &&
    s.servo.quietAt + s.holdClk ≤ s.time.pix then s.toServoHoldover 1
  else s

def execServoHoldover (t : Nat) (s : State) : Host.Outcome State Fault Refusal := .next (s.advance t).servoQuiet

/-! ### Trigger registers (R403, R407) -/

/-- A write of word `k` of time trigger `n`: AT only while EN is 0 (R403, R573). -/
def State.wrTrigger (s : State) (n k : Nat) (v : Word) : State :=
  let base := F.TTRIG_AT n
  match k with
  | 0 => if s.on (F.TTRIG_CTL_EN n) then s else s.holdLow base v
  | 1 =>
    if s.on (F.TTRIG_CTL_EN n) then s else
    let (t, s) := s.joinHigh base v
    s.put64 base t
  | 2 => s.put (F.TTRIG_PERIOD n) v.toNat
  | 3 => (s.put (F.TTRIG_CTL_TARGET n) (bits v.toNat 0 8)).putB (F.TTRIG_CTL_EN n) (bitAt v.toNat 8)
  | 4 => s.put (F.TTRIG_ARG n) v.toNat
  | _ => s

def execTriggerCtlWrite (i : Initiator) (n : Fin 16) (k : Fin 8) (v : Word) (s : State) : Host.Outcome State Fault Refusal :=
  .next (s.asWrite i (F.TTRIG_AT n.val + 4 * k.val) v (fun s => s.wrTrigger n.val k.val v))

end Sys2Proof.Machine
end

