-- ==== Sys2Proof/Machine/Frame.lean ====
section
/-! DEFINITION. Line and frame starts, the apply point, heads, spans and their registers, the pulses of genlock, and
maintenance of the memory channels (R88 to R132, R576, R577, with R61, R190 to R192, R315). -/
namespace Sys2Proof.Machine

/-! ### Waits on the raster (R190 to R194, R213, R223) -/

/-- A sequencer's count of its run begins anew, with the budget that it now holds (R219, R223). -/
def State.runRestart (s : State) (n : Nat) : State :=
  s.setEngine (16 + n) { s.engine (16 + n) with runAt := s.time.pix, budget := s.get (F.SEQN_BUDGET n), overrun := false }

/-- The wait of engine `k` completes: a line sequencer runs again, and its budget counts from here (R194, R219, R223). -/
def State.endWait (s : State) (k d v : Nat) : State :=
  let s := s.finishWait k d v
  if k < 16 then s
  else
    let n := k - 16
    let s := s.runRestart n
    (s.put (F.SEQN_STATE n) 1).put (F.SEQN_LAST_WAIT n) (s.pos n)

/-- Heads that run on timebase `h` (R115). -/
def State.tbHeads (s : State) (h : Nat) : List Nat := (List.range 48).filter (fun g => s.hasHead g && s.master g = h)

/-- A frame start of timebase `h` at the PIXEL clock `start` for the `wframe` of engine `k`: one in the clock of arrival does
not count (R192). -/
def State.frameWait (s : State) (start h k : Nat) : State :=
  let e := s.engine k
  match e.wait with
  | .frame d g (n + 1) _ came =>
    if s.master g = h && came < start then s.setEngine k { e with wait := .frame d g n (s.tb h).fseq came } else s
  | _ => s

/-- The position of timebase `h` was stepped: every `wline` on its heads completes (R190). -/
def State.stepWait (s : State) (h k : Nat) : State :=
  match (s.engine k).wait with
  | .line d g _ => if s.master g = h then s.endWait k d (s.pos g) else s
  | _ => s

/-- The line sequencer of head `g` at a frame start: its watchdog counts, its budget record is armed anew (R219, R220),
and a stepped position gives FMARK the new FRAME (R190). -/
def State.seqFrame (s : State) (stepped : Bool) (g : Nat) : State :=
  let k := 16 + g
  let e := s.engine k
  let st := s.get (F.SEQN_STATE g)
  let s := s.setEngine k { e with budgetLogged := false, sinceCommit := if st = 1 || st = 2 then e.sinceCommit + 1 else e.sinceCommit }
  if stepped then s.put (F.SEQN_FMARK g) ((s.tb (s.master g)).fseq % 256) else s

/-! ### Frame starts (R90, R93 to R96, R508, R577) -/

/-- A line of head `g` that is due and not composed is an underrun (R123). Mark: DESIGN CHOICE, log entry 119: also of a head that is
enabled and does not send yet. -/
def State.dueLine (s : State) (g : Nat) : State :=
  let (y, fs) := s.nextLine g
  let c := (s.head g).composed
  if s.composes g && y < (s.tb (s.master g)).timing.vactive && !(c.full && c.no = y && c.fseq = fs) then s.underrun g [] else s

/-- Head `g` at the frame start of its timebase. -/
def State.headFrame (s : State) (h g : Nat) : State :=
  let s := if g = h then s else s.takeTiming g
  let b := s.tb g
  let s := s.setTb g { b with sending := s.enabled g && s.mode != modeStop }
  let x := s.head g
  let s := if x.composed.no = (s.tb h).line then s.setHead g { x with composed := { x.composed with fseq := (s.tb h).fseq } } else s
  let s := if g < 32 then s.takeMap g else s
  let s := s.vigilFrameStart g
  if 32 ≤ g then s.encFrame (g - 32) else s

/-- The commit unit that runs on timebase `h`: its hold is taken, and what is limited to one per frame starts anew. -/
def State.unitFrame (s : State) (h : Nat) : State :=
  let u := s.unitOf h
  let hold := if u < 48 then s.get (F.HEAD_CFG_FHOLD u) else s.get (F.SPAN_CTRL_FHOLD (u - 48))
  s.setUnit u { s.unit u with hold := hold, lateLogged := false, placeLogged := false, applying := false }

/-- The frame of timebase `h` ends (R88, R90). -/
def State.frameOver (s : State) (h : Nat) : Bool :=
  (s.tb h).timing.vtotal ≤ (s.tb h).line + 1 && s.lineOver h

/-- FRAME_START of timebase `h`, once its last line has lasted its duration; the heads of a span start their frames with
their master. -/
def State.frameStart (s : State) (h : Nat) : State :=
  if !s.hasHead h || s.master h != h || !s.frameOver h then s else
  let gs := s.tbHeads h
  let start := (s.lineEnd h).1
  let s := gs.foldl (fun s g => s.dueLine g) s
  let (s, stepped) := s.tbFrameStart h
  let s := s.unitFrame h
  let s := gs.foldl (fun s g => s.headFrame h g) s
  let s := (List.range 64).foldl (fun s k => s.frameWait start h k) s
  let s := gs.foldl (fun s g => s.seqFrame stepped g) s
  if stepped then (List.range 64).foldl (fun s k => s.stepWait h k) s else s

def execFrameStart (t : Nat) (h : Fin 48) (s : State) : Host.Outcome State Fault Refusal := .next ((s.advance t).frameStart h.val)

/-! ### Line starts (R57, R61, R82, R310) -/

/-- The timebase `h` reaches its next line; a frame start that has not been commanded comes first. -/
def State.nextTbLine (s : State) (h : Nat) : State :=
  let b := s.tb h
  if b.fresh then s.setTb h { b with fresh := false }
  else if b.timing.vtotal ≤ b.line + 1 then
    let s := s.frameStart h
    s.setTb h { s.tb h with fresh := false }
  else s.tbLineStart h

/-- SENT values that no echo can still meet are forgotten (R82). -/
def State.pruneHist (s : State) (h : Nat) : State :=
  let x := s.head h
  s.setHead h { x with hist := x.hist.filter (fun e => s.linesSince h e.2.1 e.1 ≤ x.echoTimeout + 1) }

/-- What holds of every line from the moment it arises on reaches the snuff stage at the line start: fewer than two instances in
service, and ORDERLY_STOP (R39, R67). -/
def State.snuffAtLine (s : State) (h : Nat) : State :=
  (s.supWins h).foldl (fun s e => s.setWin e.1 { s.win e.1 with snuff := s.atLine (s.win e.1).snuff }) s

/-- Head `h` sends the line that starts, when it sends and the line is active (R61, R95). -/
def State.sendNow (s : State) (h : Nat) (ups : List PixUpset) : State :=
  let b := s.tb (s.master h)
  let c := (s.head h).composed
  let s := s.snuffAtLine h
  if (s.tb h).sending && s.composes h && b.line < b.timing.vactive && c.full && c.no = b.line && c.fseq = b.fseq then
    let s := s.sendLine h b.line b.fseq ups
    if 32 ≤ h then s.encLine (h - 32) (s.head h).sent.pix else s
  else s

/-- LINE_START of head `h`, once the line before has lasted its duration (R88, R92); line 0 starts with its frame. The
heads of a span that follow its master start the same line in the same clock. -/
def State.lineStart (s : State) (h : Nat) (ups : List PixUpset) : State :=
  let m := s.master h
  if !s.hasHead h || (m = h && !(s.tb h).fresh && !s.lineOver h) then s else
  let s := if m = h && !(s.tb h).fresh then (s.tbHeads h).foldl (fun s g => s.dueLine g) s else s
  let s := if m = h then (s.nextTbLine h).latchDisp h else s
  let s := (s.sendNow h ups).pruneHist h
  let b := s.tb m
  if s.enabled h && b.line + 2 = b.timing.vtotal then s.pickChecks h else s

def execLineStart (t : Nat) (h : Fin 48) (ups : List PixUpset) (s : State) : Host.Outcome State Fault Refusal :=
  .next ((s.advance t).lineStart h.val ups)

/-! ### The apply point and commit requests (R91, R117 to R121, R131, R132) -/

/-- A commit unit that exists: a head outside any enabled span, or an enabled span (R116). -/
def State.unitLive (s : State) (u : Nat) : Bool :=
  if u < 48 then s.hasHead u && s.unitOf u = u else u < 64 && s.on (F.SPAN_CTRL_ENABLE (u - 48))

/-- The apply point of unit `u` has come: its timebase is at line VACTIVE. -/
def State.applyOne (s : State) (u : Nat) : State :=
  let b := s.tb (s.unitMaster u)
  if s.unitLive u && b.line = b.timing.vactive && !(s.unit u).applying then s.applyPoint u else s

/-- Units that one slice serves with unit `u` and whose line began at the same PIXEL clock, up to `u`, in ascending order
of master (R230). -/
def State.applyOrder (s : State) (u : Nat) : List Nat :=
  let m := s.unitMaster u
  let slices := (s.unitHeads u).map s.sliceOf
  ((List.range 48).filter (fun g => g < m && s.hasHead g && s.master g = g && (s.tb g).lineAt = (s.tb m).lineAt &&
    (s.unitHeads (s.unitOf g)).any (fun h => slices.contains (s.sliceOf h)))).map s.unitOf

/-- APPLY: the units that apply in the same clock before `u`, then `u` (R230). -/
def State.applyEvent (s : State) (u : Nat) : State := ((s.applyOrder u).foldl State.applyOne s).applyOne u

def execApply (t : Nat) (u : Fin 64) (s : State) : Host.Outcome State Fault Refusal := .next ((s.advance t).applyEvent u.val)

/-- APPLY_DONE: the transfer is complete, and PENDING clears unless a further bank is sealed (R120); the pipes and
consoles that have waited for it mark their slots (R284, R371). -/
def State.applyDone (s : State) (u : Nat) : State :=
  let s := (List.range 16).foldl (fun s p => s.pipeMark p) (s.setUnit u { s.unit u with applying := false })
  (List.range 64).foldl (fun s l => s.conApplied l) s

def execApplyDone (t : Nat) (u : Fin 64) (s : State) : Host.Outcome State Fault Refusal := .next ((s.advance t).applyDone u.val)

/-- A write of COMMIT of unit register `u`, a head's 0 to 47 or a span's 48 to 63 (R117, R131, R132). -/
def State.wrCommit (s : State) (u : Nat) (v : Word) : State :=
  let u := if u < 48 then s.unitOf u else u
  if !s.unitLive u then s
  else
    let late := if u < 48 then F.HEAD_COMMIT_LATE u else F.SPAN_COMMIT_LATE (u - 48)
    let s := if bitAt v.toNat 3 then s.putB late false else s
    if bitAt v.toNat 0 then (s.commitReq u).2 else s

def commitKey (u : Nat) : Nat := if u < 48 then (F.HEAD_COMMIT_REQ u).key else (F.SPAN_COMMIT_REQ (u - 48)).key

def execCommitReq (i : Initiator) (u : Fin 64) (v : Word) (s : State) : Host.Outcome State Fault Refusal :=
  .next (s.asWrite i (commitKey u.val) v (fun s => s.wrCommit u.val v))

/-! ### Registers of a head (R93 to R96, R131, R401, R526) -/

/-- A write of HTIM, VTIM or RATE, `k` 0 to 2 (R93). -/
def State.wrTiming (s : State) (h k : Nat) (v : Word) : State :=
  let spanOn := match s.spanOf h with
    | some sp => (s.members sp).any s.enabled
    | none => false
  if s.enabled h || (k != 0 && spanOn) then s.headRec 0x45 h 0
  else
    let key := (F.HEAD_HTIM_HACTIVE h).key + 4 * k
    s.writeBits key (s.rwBits key) v

def execTimingWrite (i : Initiator) (h : Fin 48) (k : Fin 3) (v : Word) (s : State) : Host.Outcome State Fault Refusal :=
  .next (s.asWrite i ((F.HEAD_HTIM_HACTIVE h.val).key + 4 * k.val) v (fun s => s.wrTiming h.val k.val v))

/-- The windows of a head that is enabled in the last two lines of a frame, after moments at which R61 and R62 judge line 0, are
judged for line 0 at once, so that none is shown unjudged: the compositor has the verdict before it composes line 0, and in
the last line the snuff stage has it too. Mark: DESIGN CHOICE, log entry 91. -/
def State.judgeLate (s : State) (h : Nat) : State :=
  let b := s.tb (s.master h)
  if b.timing.vtotal ≤ b.line + 2 then
    let s := s.pickChecks h
    (s.supWins h).foldl (fun s e =>
      let s := s.judgeNext [] h e
      let x := s.win e.1
      let v := s.atLine x.freshV
      s.setWin e.1 (if b.timing.vtotal ≤ b.line + 1 then { x with next := v, snuff := v, comp := v } else { x with comp := v })) s
  else s

/-- Head `h` is enabled. While a time step is under way it withholds its windows as the others do (R401). -/
def State.headOn (s : State) (h : Nat) : State :=
  let s := s.putB (F.HEAD_CFG_ENABLE h) true
  let x := s.head h
  let step := s.servo.step.isSome
  ((s.setHead h { x with composed := {}, sent := {}, outq := [], outAt := 0, hist := [], stepHold := if step then 1 else 0,
                         stepAt := if step then s.time.pix else x.stepAt }).judgeLate h).updMode

/-- Head `h` stops: it finishes its line and sends no other, and none of its windows is snuffed any more (R87, R95,
R121). Once no head is enabled, what waits for a vigil frame start is done (R575). -/
def State.headOff (s : State) (h : Nat) : State :=
  let s := s.putB (F.HEAD_CFG_ENABLE h) false
  let s := s.setTb h { s.tb h with sending := false }
  let s := s.setHead h { s.head h with composed := {}, stepHold := 0, hist := [] }
  let s := if 32 ≤ h then s.encHeadStop (h - 32) else s
  let u := s.unitOf h
  let s := if s.unitOff u && (s.unit u).sealed then s.applyAtOnce u else s
  let s := s.countSnuffed h
  (if s.refHead.isNone then s.vigilTake else s).updMode

/-- A write of CFG of head `h`: ENABLE with its checks; DEPTH and DEADLINE only while ENABLE is 0 (R94, R95, R526). -/
def State.wrHeadCfg (s : State) (h : Nat) (v : Word) : State :=
  let n := v.toNat
  let s := s.put (F.HEAD_CFG_FHOLD h) (bits n 4 2)
  if s.enabled h then (if bitAt n 0 then s else s.headOff h)
  else
    let s := (s.put (F.HEAD_CFG_DEPTH h) (bits n 1 2)).put (F.HEAD_CFG_DEADLINE h) (bits n 16 14)
    if !bitAt n 0 then s
    else if s.mode = modeService then
      s.raise 0xBB (keyAddr F.SYS_BOOT_STATUS_SLOT.key) 0 (0x100 * 12 + 0x10000 * s.mode)
    else
      let c := s.enableCode h
      if c != 0 then s.headRec 0x45 h c else s.headOn h

def execHeadEnable (i : Initiator) (h : Fin 48) (v : Word) (s : State) : Host.Outcome State Fault Refusal :=
  .next (s.asWrite i (F.HEAD_CFG_ENABLE h.val).key v (fun s => s.wrHeadCfg h.val v))

def execHeadDisable (i : Initiator) (h : Fin 48) (v : Word) (s : State) : Host.Outcome State Fault Refusal :=
  .next (s.asWrite i (F.HEAD_CFG_ENABLE h.val).key v (fun s => s.wrHeadCfg h.val v))

/-- A write of REF, which applies at the next frame start (R96). -/
def State.wrRef (s : State) (h : Nat) (v : Word) : State := s.writeBits (F.HEAD_REF_SRC h).key 0x7F v

def execRefWrite (i : Initiator) (h : Fin 48) (v : Word) (s : State) : Host.Outcome State Fault Refusal :=
  .next (s.asWrite i (F.HEAD_REF_SRC h.val).key v (fun s => s.wrRef h.val v))

/-! ### Genlock (R97 to R112) -/

def execGenlockPulse (t : Nat) (n : Fin 2) (width : Nat) (s : State) : Host.Outcome State Fault Refusal :=
  .next ((s.advance t).genlockPulse n.val width)

/-- The window of the next pulse that timebase `h` expects and has not yet found missing has ended (R99, R100). -/
def State.windowOver (s : State) (h : Nat) : Bool :=
  let b := s.tb h
  let m := glSpacing b
  match b.lastPulse with
  | none => false
  | some p =>
    let x := p * m.2 + (b.missed + 1) * m.1
    x ≤ s.time.pix * m.2 && !withinLines b.timing 2 1 (distTo s.time.pix x m.2) m.2

def execPulseMissing (t : Nat) (h : Fin 48) (s : State) : Host.Outcome State Fault Refusal :=
  let s := s.advance t
  .next (if s.hasHead h.val && s.master h.val = h.val && s.windowOver h.val then s.pulseMissing h.val else s)

def execGenlockLost (t : Nat) (h : Fin 48) (s : State) : Host.Outcome State Fault Refusal :=
  let s := s.advance t
  .next (if s.hasHead h.val && s.master h.val = h.val && 8 ≤ (s.tb h.val).freeFrames then s.genlockLost h.val else s)

def execVirtualPulse (t : Nat) (h : Fin 48) (s : State) : Host.Outcome State Fault Refusal :=
  let s := s.advance t
  .next (if s.hasHead h.val then s.virtualPulse h.val else s)

/-! ### Spans (R113 to R115, R576) -/

/-- The checks of R113 on span `sp`: the code of the first that fails, 0 for none. -/
def State.spanCode (s : State) (sp : Nat) : Nat :=
  let ms := s.members sp
  let t := s.timingReg (ms.head?.getD 0)
  if ms.isEmpty || 32 < ms.length then 1
  else if ms.any (fun h => (s.spanOf h).isSome) then 2
  else if ms.any (fun h => let x := s.timingReg h
      !(x.vactive = t.vactive && x.vtotal = t.vtotal && x.num = t.num && x.den = t.den)) then 3
  else if ms.any s.enabled then 4
  else if s.get (F.SPAN_CTRL_DEADLINE sp) != 0 && t.vactive ≤ s.get (F.SPAN_CTRL_DEADLINE sp) then 5
  else 0

/-- Windows of the OPEN bank of unit `u` pass to other units: `f` gives the unit for the head of each (R576). -/
def State.moveWins (s : State) (u : Nat) (f : Nat → Nat) : State :=
  { s with wins := s.wins.map (fun (e : Nat × Win) =>
      if e.2.unit = some u then
        let ws := s.winWords e.1
        let h := if wPlaced ws then wHead ws else (e.2.act.map wHead).getD (wHead ws)
        (e.1, { e.2 with unit := some (f h) })
      else e) }

/-- A commit unit ceases: its sealed and queued banks apply at once (R576). -/
def State.unitCease (s : State) (u : Nat) : State :=
  let s := if (s.unit u).sealed then s.applyAtOnce u else s
  s.setUnit u {}

/-- Span `sp` begins: its unit takes over from its members' (R115, R576, R577). -/
def State.spanOn (s : State) (sp : Nat) : State :=
  let ms := s.members sp
  let s := ms.foldl (fun s h => (s.unitCease h).moveWins h (fun _ => 48 + sp)) s
  let s := (s.setUnit (48 + sp) {}).putB (F.SPAN_CTRL_ENABLE sp) true
  let s := s.put (F.SPAN_STATUS_MASTER sp) (ms.head?.getD 0)
  ms.foldl (fun s h => (s.putB (F.HEAD_GL_STATE_MEMBER h) true).put (F.HEAD_GL_STATE_SPAN h) sp) s

/-- Span `sp` ends: each member is a unit of its own again, and its timebase goes on from the master's position, with its
own HACTIVE and HTOTAL (R93, R115, R576, log entry 42). Mark: DESIGN CHOICE, log entry 92: LATE clears for good, and the
unit of a member runs with hold 0 up to its first frame start. Mark: DESIGN CHOICE, log entry 120: STATUS.MASTER of a span that
is not enabled, which has no master, reads 0. -/
def State.spanOff (s : State) (sp : Nat) : State :=
  let ms := s.members sp
  let m := s.tb (s.get (F.SPAN_STATUS_MASTER sp))
  let s := (s.unitCease (48 + sp)).moveWins (48 + sp) (fun h => h)
  let s := ms.foldl (fun s h =>
    let b := s.tb h
    let s := (s.setUnit h {}).setTb h { b with
      fseq := m.fseq, line := m.line, lineAt := m.lineAt, lineT64 := m.lineT64, lineLen := m.lineLen, carry := m.carry, succ := m.succ, fresh := m.fresh,
      timing := { m.timing with hactive := b.timing.hactive, htotal := b.timing.htotal } }
    (s.putB (F.HEAD_GL_STATE_MEMBER h) false).put (F.HEAD_GL_STATE_SPAN h) 0) s
  ((s.putB (F.SPAN_CTRL_ENABLE sp) false).putB (F.SPAN_COMMIT_LATE sp) false).put (F.SPAN_STATUS_MASTER sp) 0

/-- A write of CTRL of span `sp` (R113, R114, R577). -/
def State.wrSpanCtrl (s : State) (sp : Nat) (v : Word) : State :=
  let n := v.toNat
  let en := s.on (F.SPAN_CTRL_ENABLE sp)
  let s := s.put (F.SPAN_CTRL_FHOLD sp) (bits n 4 2)
  let s := if !en then s.put (F.SPAN_CTRL_DEADLINE sp) (bits n 16 14)
    else if bits n 16 14 = s.get (F.SPAN_CTRL_DEADLINE sp) then s else s.spanRec 0x47 sp 6
  if en && !bitAt n 0 then (if (s.members sp).any s.enabled then s.spanRec 0x47 sp 7 else s.spanOff sp)
  else if !en && bitAt n 0 then
    let c := s.spanCode sp
    if c != 0 then s.spanRec 0x47 sp c else s.spanOn sp
  else s

def execSpanEnable (i : Initiator) (sp : Fin 16) (v : Word) (s : State) : Host.Outcome State Fault Refusal :=
  .next (s.asWrite i (F.SPAN_CTRL_ENABLE sp.val).key v (fun s => s.wrSpanCtrl sp.val v))

def execSpanDisable (i : Initiator) (sp : Fin 16) (v : Word) (s : State) : Host.Outcome State Fault Refusal :=
  .next (s.asWrite i (F.SPAN_CTRL_ENABLE sp.val).key v (fun s => s.wrSpanCtrl sp.val v))

/-- Heads that the member has, as bits of MEMBERS_LO or MEMBERS_HI (R113). -/
def State.headMask (s : State) (hi : Bool) : Nat := if hi then 2 ^ s.nVheads - 1 else 2 ^ s.nHeads - 1

/-- A write of MEMBERS_LO, MEMBERS_HI or CTRL of span `sp`, `k` 0 to 2 (R114). -/
def State.wrSpan (s : State) (sp k : Nat) (v : Word) : State :=
  if 2 ≤ k then s.wrSpanCtrl sp v
  else if s.on (F.SPAN_CTRL_ENABLE sp) then s.spanRec 0x47 sp 6
  else
    let s := if k = 0 then s.put (F.SPAN_MEMBERS_LO sp) (v.toNat &&& s.headMask false)
      else s.put (F.SPAN_MEMBERS_HI sp) (v.toNat % 2 ^ 16 &&& s.headMask true)
    s.put (F.SPAN_STATUS_COUNT sp) (s.members sp).length

def execSpanMembersWrite (i : Initiator) (sp : Fin 16) (k : Fin 3) (v : Word) (s : State) : Host.Outcome State Fault Refusal :=
  .next (s.asWrite i ((F.SPAN_MEMBERS_LO sp.val).key + 4 * k.val) v (fun s => s.wrSpan sp.val k.val v))

/-! ### Maintenance of the channels (R125, R126) -/

/-- An operation of `dur` PIXEL clocks may start: the least LT is at least RELAX and exceeds it (R126). -/
def State.mayMaintain (s : State) (dur : Nat) : Bool := s.relax ≤ s.minLt.1 && dur * 10 < s.minLt.1 * 768

/-- MAINTENANCE_START: an operation of `dur` PIXEL clocks that is due, a scrub burst or another, occupies channel `ch`, once it
may start, and otherwise waits (R126). -/
def State.maintain (s : State) (scrub : Bool) (ch dur : Nat) : State :=
  if s.mayMaintain dur && ch < 2 ^ s.logChan then
    let e := s.time.pix + dur
    { s with bus := { s.bus with maint := tabSet s.bus.maint ch e
                                 scrubs := if scrub then tabSet s.bus.scrubs ch e else s.bus.scrubs } }
  else s

def execMaintenanceStart (t : Nat) (ch : Fin 32) (op : Maint) (dur : Nat) (s : State) : Host.Outcome State Fault Refusal :=
  match op with
  | .refresh => .next ((s.advance t).maintain false ch.val dur)
  | .retrain => .next ((s.advance t).maintain false ch.val dur)
  | .scrub => .next ((s.advance t).maintain true ch.val dur)

/-- REFRESH_FORCED: at the limit of JESD209-5B the refresh runs regardless, and is counted (R126). -/
def execRefreshForced (t : Nat) (ch : Fin 32) (s : State) : Host.Outcome State Fault Refusal :=
  let s := s.advance t
  .next (if ch.val < 2 ^ s.logChan then s.bump F.RASTER_LTR_FORCED else s)

/-! ### Registers of the vigil (R52, R76, R82, R87, R363) -/

/-- A write of VIGIL.CTRL; the lanterns learn of a change of what they echo. -/
def State.setVigilCtrl (s : State) (v : Word) : State :=
  let old := (s.on F.VIGIL_CTRL_ECHO, s.get F.VIGIL_CTRL_ECHO_EVERY)
  let s := s.wrVigilCtrl v
  if (s.on F.VIGIL_CTRL_ECHO, s.get F.VIGIL_CTRL_ECHO_EVERY) = old then s else s.lanternCfgChange

def execVigilCtrlWrite (i : Initiator) (v : Word) (s : State) : Host.Outcome State Fault Refusal :=
  .next (s.asWrite i F.VIGIL_CTRL_LOCK.key v (fun s => s.setVigilCtrl v))

def colourKey (c : Nat) : Nat := if c = 0 then F.VIGIL_CLOVE_HATCH.key else (F.VIGIL_COLOUR c).key

def execColourWrite (i : Initiator) (c : Fin 8) (v : Word) (s : State) : Host.Outcome State Fault Refusal :=
  .next (s.asWrite i (colourKey c.val) v (fun s => s.wrColour c.val v))

def execVigilInject (i : Initiator) (v : Word) (s : State) : Host.Outcome State Fault Refusal :=
  .next (s.asWrite i F.VIGIL_INJECT_WINDOW.key v (fun s => s.wrInject v))

end Sys2Proof.Machine
end

