-- ==== Sys2Proof/Machine/Seq.lean ====
section
/-! DEFINITION. The line sequencers as the other units see them: start and halt, faults, the line budget, the watchdog
and their local memories (R211 to R224). Sequencer n is engine 16 + n. -/
namespace Sys2Proof.Machine

/-- A record of sequencer `n` (R221). -/
def State.seqRec (s : State) (cls n a2 code : Nat) : State :=
  s.raise cls (keyAddr (F.SEQN_CTL_RUN n).key) a2 (rasterDet n (s.lineOf n) ((s.spanOf n).getD 0) code)

def causeBudget : Nat := 0x20

/-- Sequencer `n` meets a cause, raised by the instruction at `fpc`: it stops in FAULTED (R215, R223). -/
def State.seqFaultAt (s : State) (n cause : Nat) (addr : Option Nat) (fpc : Nat) : State :=
  let s := (s.put (F.SEQN_FAULT_CAUSE n) cause).put (F.SEQN_FAULT_FPC n) fpc
  let s := match addr with
    | some a => (s.put (F.SEQN_FADDR_LO n) (a % 2 ^ 32)).put (F.SEQN_FADDR_HI n) (a / 2 ^ 32)
    | none => s
  let s := (s.setEngine (16 + n) { s.engine (16 + n) with wait := .none }).put (F.SEQN_STATE n) 3
  s.seqRec 0x49 n (s.get (F.SEQN_FADDR_LO n) + 2 ^ 32 * s.get (F.SEQN_FADDR_HI n)) cause

/-- The instruction at the PC of sequencer `n` meets a cause (R215). -/
def State.seqFault (s : State) (n cause : Nat) (addr : Option Nat) : State := s.seqFaultAt n cause addr (s.engine (16 + n)).pc

/-! ### Start and halt (R213) -/

/-- Sequencer `n` starts (R213). -/
def State.startSeq (s : State) (n : Nat) : State :=
  let g : Tab Dword := if n = 0 then [(2, BitVec.ofNat 64 (s.fpbWord 1))] else [(1, BitVec.ofNat 64 n), (2, BitVec.ofNat 64 (s.fpbWord 1))]
  let s := s.setEngine (16 + n) { s.engine (16 + n) with g := g, pc := s.get (F.SEQN_ENTRY n) / 4 * 4, startAt := s.time.pix,
                                                         retired := 0, wait := .none, sinceCommit := 0 }
  let s := s.runRestart n
  (s.put (F.SEQN_STATE n) 1).put (F.SEQN_FMARK n) ((s.tb (s.master n)).fseq % 256)

/-- A write of CTL of sequencer `n` (R213, R223). -/
def State.wrSeqCtl (s : State) (n : Nat) (v : Word) : State :=
  let run := bitAt v.toNat 0
  let s := (s.putB (F.SEQN_CTL_RUN n) run).putB (F.SEQN_CTL_BUDGET_STOP n) (bitAt v.toNat 1)
  let st := s.get (F.SEQN_STATE n)
  if run then (if st = 0 then s.startSeq n else s)
  else if st = 3 || st = 4 then s.put (F.SEQN_STATE n) 0
  else s.haltSeq n

def execSeqStart (i : Initiator) (n : Fin 48) (v : Word) (s : State) : Host.Outcome State Fault Refusal :=
  .next (s.asWrite i (F.SEQN_CTL_RUN n.val).key v (fun s => s.wrSeqCtl n.val v))

def execSeqHalt (i : Initiator) (n : Fin 48) (v : Word) (s : State) : Host.Outcome State Fault Refusal :=
  .next (s.asWrite i (F.SEQN_CTL_RUN n.val).key v (fun s => s.wrSeqCtl n.val v))

/-! ### Line budget and watchdog (R219, R220) -/

/-- The budget of a sequencer's run in PIXEL clocks (R219). -/
def State.budgetOf (s : State) (n : Nat) : Nat :=
  let b := (s.engine (16 + n)).budget
  if b = 0 then linePeriod (s.tb (s.master n)).timing else b

/-- The run of sequencer `n` as counted now: MAXRUN follows, and an overrun counts once (R219). -/
def State.countRun (s : State) (n : Nat) : State :=
  let e := s.engine (16 + n)
  let run := s.time.pix - e.runAt
  let s := s.put (F.SEQN_MAXRUN n) (max (s.get (F.SEQN_MAXRUN n)) (min 65535 run))
  if e.overrun || run ≤ s.budgetOf n then s
  else
    let s := (s.setEngine (16 + n) { e with overrun := true, budgetLogged := true }).bump (F.SEQN_BUDGET_COUNT n)
    let s := if e.budgetLogged then s else s.seqRec 0x4B n 0 causeBudget
    if s.on (F.SEQN_CTL_BUDGET_STOP n) then s.seqFault n causeBudget none else s

/-- SEQ_BUDGET: the run of sequencer `n` has gone on past its budget (R219). -/
def execSeqBudget (t : Nat) (n : Fin 48) (s : State) : Host.Outcome State Fault Refusal :=
  let s := s.advance t
  .next (if s.get (F.SEQN_STATE n.val) = 1 then s.countRun n.val else s)

/-- SEQ_WATCHDOG: WDOG frame starts have passed without a `commit` (R220). -/
def State.seqWatchdog (s : State) (n : Nat) : State :=
  let st := s.get (F.SEQN_STATE n)
  let w := s.get (F.SEQN_WDOG n)
  let e := s.engine (16 + n)
  if (st = 1 || st = 2) && w != 0 && w ≤ e.sinceCommit then
    ((s.setEngine (16 + n) { e with wait := .none }).put (F.SEQN_STATE n) 4).seqRec 0x4A n 0 0
  else s

def execSeqWatchdog (t : Nat) (n : Fin 48) (s : State) : Host.Outcome State Fault Refusal := .next ((s.advance t).seqWatchdog n.val)

/-! ### Local memory (R211, R216, R218, R224) -/

/-- `bytes` written from byte `at_` of the local memories on; a 32-bit word written whole loses its error (R216). -/
def State.seqWrite (s : State) (at_ : Nat) (bytes : List Byte) : State :=
  { s with seqMem := cellWrite 0 s.seqMem at_ bytes
           seqBad := s.seqBad.filter (fun w => !(at_ ≤ 4 * w && 4 * w + 4 ≤ at_ + bytes.length)) }

/-- What a read at byte `at_` of the local memories finds in the word there (R216). -/
def State.seqFind (s : State) (at_ : Nat) (f : MemFind) : State :=
  match f with
  | .ce _ => s.bump F.SEQ_ECC_CE
  | .ue => { s with seqBad := if s.seqBad.contains (at_ / 4) then s.seqBad else at_ / 4 :: s.seqBad }
  | _ => s

/-- One of the words that `n` bytes from byte `at_` of the local memories meet has an uncorrectable error (R216). -/
def State.seqBadAt (s : State) (at_ n : Nat) : Bool := s.seqBad.any (fun w => at_ / 4 ≤ w && w ≤ (at_ + n - 1) / 4)

/-- Local memory of sequencer `n` takes writes through the SEQ block (R218). -/
def State.seqOpen (s : State) (n : Nat) : Bool :=
  let st := s.get (F.SEQN_STATE n)
  st = 0 || st = 3 || st = 4

/-- A word written to offset `o` of the local memory of sequencer `n` through the SEQ block; `false`: an error response
(R218). -/
def State.wrSeqMem (s : State) (n o : Nat) (v : Word) : Bool × State :=
  if s.seqOpen n then (true, s.seqWrite (0x4000 * n + o) (leBytes v.toNat 4))
  else (false, s.seqRec 0x4E n 0 0)

/-- Key of word `o` of the local memory of sequencer `n` (R224). -/
def seqMemKey (n o : Nat) : Nat := 0x640000 + 0x4000 * n + 4 * o

/-- What reads of `n` bytes of the registers from `key` on find in the local memories, each finding at its offset (R216,
R222). -/
def State.seqFinds (s : State) (key n : Nat) (fs : List (Nat × MemFind)) : State :=
  if 0x640000 ≤ key && key < 0x700000 then
    (fs.filter (fun f => f.1 < n)).foldl (fun s f => s.seqFind (key - 0x640000 + f.1) f.2) s
  else s

def execSeqMemWrite (i : Initiator) (n : Fin 48) (o : Fin 4096) (v : Word) (s : State) : Host.Outcome State Fault Refusal :=
  .next (s.asWrite i (seqMemKey n.val o.val) v (fun s => (s.wrSeqMem n.val (4 * o.val) v).2))

end Sys2Proof.Machine
end

