-- ==== Sys2Proof/Machine/Trig.lean ====
section
/-! DEFINITION. Triggers: the targets of `trig` and of the time triggers (R204, R205, R402 to R404). -/
namespace Sys2Proof.Machine

/-- The class bit of a target code, `none` for a reserved code (R204). -/
def trigClass (b : Nat) : Option Nat :=
  if b < 0x22 then (if b < 0x20 then some 0 else some 1)
  else if 0x30 ≤ b && b < 0x40 then some 2
  else if 0x40 ≤ b && b < 0x44 then some 3
  else if 0x80 ≤ b && b < 0x100 then some 4
  else none

/-- A pulse of `a` × 10 ns on ball TRIG_OUT `n`; a width of 0 counts as 1 (R204). -/
def State.trigPulse (s : State) (n a : Nat) : Nat × State :=
  if s.time.pix < tabGet 0 s.trigOut n then (1, s)
  else (0, { s with trigOut := tabSet s.trigOut n (s.time.pix + 12 * max 1 (a % 2 ^ 16)) })

/-- Target `b` fires on behalf of `src` with argument `a`: the status of R205. `entry` is the ring
entry of class 4 (R204, R402). -/
def State.fire (s : State) (src : Src) (b a : Nat) (entry : List Byte) : Nat × State :=
  match trigClass b with
  | some 0 => s.touchTrig b (a % 256)
  | some 1 => s.touchTrig (32 + b % 2) (a % 256)
  | some 2 => s.audioTrig (b % 16)
  | some 3 => s.trigPulse (b % 4) a
  | some 4 => s.ringPost src (b - 0x80) entry
  | _ => (3, s)

/-! ### Time triggers (R402 to R404) -/

/-- PERIOD as it reads (R403). -/
def State.trigPeriod (s : State) (n : Nat) : Nat :=
  let p := s.get (F.TTRIG_PERIOD n)
  if p = 0 then 0 else max 1000 p

/-- A record of trigger `n` (R405). -/
def State.trigRec (s : State) (cls n code : Nat) (lim : Option Nat := none) : State :=
  s.raise cls (keyAddr (F.TTRIG_CTL_EN n).key) 0 (7 + 8 * n + 0x100 * code) lim

/-- TIME64 has reached AT of trigger `n` (R402). -/
def State.trigDue (s : State) (n : Nat) : Bool :=
  s.on (F.TTRIG_CTL_EN n) && 0 ≤ sint 64 (s.time64 + 2 ^ 64 - s.get64 (F.TTRIG_AT n))

/-- AT of trigger `n` passes on by PERIOD, over every period that TIME64 has reached; the record is one a second (R403). -/
def State.trigNext (s : State) (n : Nat) : State :=
  let p := s.trigPeriod n
  if p = 0 then s.putB (F.TTRIG_CTL_EN n) false
  else
    let at_ := s.get64 (F.TTRIG_AT n)
    let skipped := (sint 64 (s.time64 + 2 ^ 64 - at_)).toNat / p
    let s := s.put64 (F.TTRIG_AT n) ((at_ + (skipped + 1) * p) % 2 ^ 64)
    if skipped = 0 then s else (s.bumpN (F.TTRIG_MISSED n) skipped).trigRec 0x6A n 0 (some 0)

/-- Trigger `n` fires once it is due (R402 to R404). -/
def State.trigFire (s : State) (n : Nat) : State :=
  if !s.trigDue n then s
  else
    let arg := s.get (F.TTRIG_ARG n)
    let (st, s) := s.fire timeSrc (s.get (F.TTRIG_CTL_TARGET n)) arg
      (leBytes (s.get64 (F.TTRIG_AT n)) 8 ++ leBytes arg 4 ++ leBytes s.stamp32 4)
    let s := (s.put (F.TTRIG_CTL_STATUS n) st).bump (F.TTRIG_FIRED n)
    let s := if st = 2 || st = 3 then s.trigRec 0x6B n st else s
    s.trigNext n

/-- The time triggers below `n` that are due fire, in ascending number (R404). -/
def State.trigsBelow (s : State) (n : Nat) : State := (List.range n).foldl State.trigFire s

/-- TIME_TRIGGER_FIRE: those that are due with it and have a lower number come first (R404). -/
def execTimeTriggerFire (t : Nat) (n : Fin 16) (s : State) : Host.Outcome State Fault Refusal :=
  .next (((s.advance t).trigsBelow n.val).trigFire n.val)

end Sys2Proof.Machine
end

