-- ==== Sys2Proof/Machine/View.lean ====
section
/-! DEFINITION. What a read of a register returns: the stored word, with the fields that the state gives and the values
that read as the nearer end of their range (R7, R20 to R36, R87, R130 to R132, R223, R262, R300 to R302, R328, R380, R406,
R431, R452, R485 to R488, R521, R546, R547, R573). -/
namespace Sys2Proof.Machine

/-- A field of a word as it reads. -/
def Fld.set (f : Fld) (v : Nat) (w : Word) : Word := f.ins w v

/-- A field of a word that reads as the nearer end of its range. -/
def Fld.near (f : Fld) (lo hi : Nat) (w : Word) : Word := f.ins w (clamp lo hi (f.of w))

/-- A field of a word whose value 0 reads as 1. -/
def Fld.least1 (f : Fld) (w : Word) : Word := f.ins w (max 1 (f.of w))

/-- A flag as a number. -/
def b2n (b : Bool) : Nat := if b then 1 else 0

/-! ### SYS, PWR, HLTH (R35, R521, R522, R547) -/

/-- Units of the first `n` that no fence register bit takes out (R539, R547). -/
def State.unfenced (s : State) (f : Fld) (n : Nat) : Nat := n - popCount (s.get f) n

def State.viewSys (s : State) (key : Nat) (w : Word) : Word :=
  if 0x100 ≤ key && key < 0x118 then BitVec.ofNat 32 (s.fpbWord ((key - 0x100) / 4))
  else if key = 0x60 then
    F.SYS_AVAIL_DEC_PIPES.set (s.unfenced F.SYS_FENCE_DEC s.nDec) <| F.SYS_AVAIL_ENC_PIPES.set (s.unfenced F.SYS_FENCE_ENC s.nEnc) <|
    F.SYS_AVAIL_SLICES.set (s.unfenced F.SYS_FENCE_SLICE s.nSlices) <| F.SYS_AVAIL_SCONCE.set (s.unfenced F.SYS_FENCE_CORE s.nSconce) w
  else if 0x1000 ≤ key && key % 0x40 = 8 then w &&& 0xFFFFFFFC#32
  else w

def State.viewPwr (s : State) (key : Nat) (w : Word) : Word :=
  match key % 0x100000 with
  | 0x10 => BitVec.ofNat 32 (min 0x1FFFF s.holdupMv)
  | 0x18 => BitVec.ofNat 32 (min 65535 (s.holdupE / 12000000))
  | 0x1C => F.PWR_VIN_WARN_CFG.near 800 5600 w
  | 0x20 => F.PWR_CAP_SET.near 40 150 w
  | 0x28 => F.PWR_RT_CFG_RT_BUDGET.near 30 100 <| F.PWR_RT_CFG_RT_DEC_SHARE.near 1 7 <| F.PWR_RT_CFG_STOP_RESERVE.near 3 15 w
  | 0x2C => F.PWR_CHG_CFG_CHG_W.near 5 40 w
  | 0x30 => F.PWR_SHED_CFG_DEC_MIN.near 1 8 (F.PWR_SHED_CFG_CORE_MIN.least1 w)
  | 0x34 => F.PWR_CTRL_RESTART_T.near 40 95 w
  | o => if 0x40 ≤ o && o < 0x70 then
      let r := s.railReads ((o - 0x40) / 4)
      BitVec.ofNat 32 (r.1 + 0x10000 * r.2)
    else w

def viewHlth (key : Nat) (w : Word) : Word :=
  match key % 0x100000 with
  | 0x14 => F.HLTH_WARM_CFG_WARM_W.near 10 60 w
  | 0x190 => w &&& 0xFFFE0000#32
  | _ => w

/-! ### TIME (R403, R406 to R408) -/

/-- What TIME shows. The link of the management port, and the codewords that a port with FEC has corrected, are free values (log
entry 137). -/
def State.viewTime (s : State) (key : Nat) (w : Word) : Word :=
  if key = F.TIME_SERVO_CFG_EN.key then F.TIME_SERVO_CFG_LOCK_NS.least1 w
  else if key = F.TIME_SERVO_LIM_OUTLIER_US.key then F.TIME_SERVO_LIM_OUTLIER_US.least1 (F.TIME_SERVO_LIM_SPREAD_US.least1 w)
  else if key = F.TIME_HOLD_MS.key then F.TIME_HOLD_MS.near 100 0xFFFF w
  else if key = F.TIME_TIME64 then BitVec.ofNat 32 s.time64
  else if key = F.TIME_TIME64 + 4 then BitVec.ofNat 32 (s.time64 / 2 ^ 32)
  else if key = F.TIME_STAMP32.key then BitVec.ofNat 32 s.stamp32
  else if (F.TTRIG_AT 0) ≤ key && key < F.TTRIG_AT 16 && (key - F.TTRIG_AT 0) % 0x20 = 8 then
    BitVec.ofNat 32 (s.trigPeriod ((key - F.TTRIG_AT 0) / 0x20))
  else if key = F.TIME_MGMT_CFG_LINK.key && s.on F.TIME_MGMT_CFG_EN then
    F.TIME_MGMT_CFG_LINK.ins w ((Config.monitor 16 s.time.pix).toNat % 2)
  else match [0, 1, 2, 3].find? (fun p => key = (F.PORT_FEC_CORR p).key && s.on (F.PORT_CFG_FEC p)) with
    | some p => Config.monitor (17 + p) s.time.pix
    | none => w

/-! ### RASTER (R89, R115, R118, R130 to R132) -/

/-- A genlock input has had a pulse in the last 100 ms (R130). -/
def State.glActive (s : State) (a : Option Nat) : Bool :=
  match a with
  | none => false
  | some t => s.time.pix < t + 100 * clkMs

/-- PENDING and QUEUED of a commit unit, at bits 1 and 2 (R117, R119, R120). -/
def State.commitBits (s : State) (u : Nat) : Nat :=
  let x := s.unit u
  2 * b2n (x.sealed || x.applying) + 4 * b2n x.queued

/-- COMMIT of head `h`, or of its span (R116, R131). -/
def State.viewCommit (s : State) (u : Nat) : Word :=
  let late := if u < 48 then F.HEAD_COMMIT_LATE u else F.SPAN_COMMIT_LATE (u - 48)
  BitVec.ofNat 32 (s.commitBits u + 8 * s.get late)

/-- Word at offset `o` of head `h`: a member of a span reports its master's timebase (R115, R131). -/
def State.viewHead (s : State) (h o : Nat) (w : Word) : Word :=
  let m := s.master h
  match o with
  | 0x1C => BitVec.ofNat 32 (s.pos h)
  | 0x20 => BitVec.ofNat 32 (s.tb m).fseq
  | 0x24 => (F.HEAD_GL_STATE_STATE h).set (s.get (F.HEAD_GL_STATE_STATE m)) ((F.HEAD_GL_STATE_RATE_OUT h).set (s.get (F.HEAD_GL_STATE_RATE_OUT m)) w)
  | 0x28 => s.reg (F.HEAD_GL_PHASE m).key
  | 0x2C => s.reg (F.HEAD_GL_RATE m).key
  | 0x30 => s.reg (F.HEAD_GL_MEAS m).key
  | 0x34 => s.viewCommit (s.unitOf h)
  | 0x48 => BitVec.ofNat 32 (s.ltOf h)
  | _ => w

def State.viewRaster (s : State) (key : Nat) (w : Word) : Word :=
  let o := key % 0x100000
  if o = 0 then F.RASTER_GL_IN_CFG_MIN_W.least1 w
  else if o = 4 then BitVec.ofNat 32 (b2n (s.glActive s.glin.at0) + 2 * b2n (s.glActive s.glin.at1))
  else if o = 0x10 then F.RASTER_LTR_CFG_RELAX.set s.relax w
  else if o = 0x14 then BitVec.ofNat 32 (s.minLt.1 + 0x10000 * s.minLt.2)
  else if 0x1000 ≤ o && o < 0x2800 then s.viewHead ((o - 0x1000) / 0x80) (o % 0x80) w
  else if 0x3000 ≤ o && o < 0x3200 && o % 0x20 = 0x0C then
    let sp := (o - 0x3000) / 0x20
    if s.on (F.SPAN_CTRL_ENABLE sp) then s.viewCommit (48 + sp) else 0
  else w

/-! ### SEQ, COMP, VIGIL (R87, R222 to R227) -/

/-- Sequencers `lo` to `lo + n − 1` in RUNNING or WAITING, a bit each (R222). -/
def State.seqActive (s : State) (lo n : Nat) : Nat :=
  (List.range n).foldl (fun m i =>
    let st := s.get (F.SEQN_STATE (lo + i))
    if st = 1 || st = 2 then m + 2 ^ i else m) 0

def State.viewSeq (s : State) (key : Nat) (w : Word) : Word :=
  let o := key % 0x100000
  if o = 0 then BitVec.ofNat 32 (s.seqActive 0 32)
  else if o = 4 then BitVec.ofNat 32 (s.seqActive 32 16)
  else if 0x1000 ≤ o && o < 0x1C00 then
    (if o % 0x40 = 8 then w &&& 0xFFFFFFFC#32
     else if o % 0x40 = 0x0C then BitVec.ofNat 32 ((s.engine (16 + (o - 0x1000) / 0x40)).pc % 0x4000) else w)
  else if 0x40000 ≤ o then BitVec.ofNat 32 (leNat (cellRead 0 s.seqMem (o - 0x40000) 4))
  else w

/-- Registers of COMP: what they report of the active state follows it (R253, R256, R257). -/
def State.viewComp (s : State) (key : Nat) (w : Word) : Word :=
  let o := key % 0x100000
  if 0x20000 ≤ o then (if o % 0x40 = 0x28 then (F.WIN_DELAY 0).near 0 10000000 w else w)
  else if 0x40 ≤ o && o < 0x68 then (F.COMP_SLICE_LOAD_LOAD 0).set (s.loadOf ((o - 0x40) / 4)) w
  else if 0x1000 ≤ o && o < 0x1600 then
    let h := (o - 0x1000) / 0x20
    (match o % 0x20 with
     | 4 => (F.CHEAD_NWIN h).set (s.actWins h).length w
     | 8 => (F.CHEAD_PEAK h).set (peakOf (s.tb h).timing.hactive (s.tb h).timing.vactive (s.actWins h)) w
     | 0x0C => (F.CHEAD_ROWBYTES h).set (rowBytesMax (s.actWins h)) w
     | _ => w)
  else w

def viewVigil (key : Nat) (w : Word) : Word :=
  match key % 0x100000 with
  | 0x00 => F.VIGIL_CTRL_ECHO_EVERY.near 0 4 w
  | 0x24 => F.VIGIL_RETIRE_CFG_FRAMES.near 2 255 w
  | 0x28 => F.VIGIL_DISP_OFS.near 0 1000 w
  | 0x2C => F.VIGIL_ECHO_TIMEOUT.near 8 255 w
  | 0x40 => F.VIGIL_CEIL_STALE.near 1000 60000000 w
  | 0x44 => F.VIGIL_CEIL_FREEZE.near 1000 60000000 w
  | 0x48 => F.VIGIL_CEIL_SKIP_N.near 4 4096 w
  | _ => w

/-! ### INTAKE, DEC, ENC (R262, R300 to R302, R327 to R329, R445) -/

/-- WIN of R262 as it reads: 0 stands. -/
def winReads (w : Word) : Word :=
  let f := F.CTX_WIN 0
  if f.of w = 0 then w else f.near 64 4096 w

/-- Least fill of the readers of audio stream `c`, in µs (R445). -/
def State.fillUs (s : State) (c : Nat) : Nat :=
  let e := (s.ctx c).playEnd
  let fills := s.sides.filterMap (fun (k : Nat × Side) => (tabGet? k.2.readers c).map (fun r => e - r.pos))
  match fills with
  | [] => 0
  | a :: l => min 0xFFFFF (l.foldl min a * 1000000 / max 1 (s.get (F.CTXR_RATE_HZ c)))

/-- The bits of the bytes 0x0C to 0x37 of a context that its layout `v` defines: what an earlier layout left in the others reads
as zero (R6, R260). -/
def ctxDefined (v key : Nat) : Nat :=
  if !isCtxOwn key then 0xFFFFFFFF
  else match rowAt v key with
    | some (r, _, _) => if r.cnt then 0xFFFFFFFF else r.rw ||| r.wk
    | none => 0

/-- Word at offset `o` of context `c`; `v` is its layout (R262, R323, R445, R448). -/
def State.viewCtx (s : State) (c o v : Nat) (w : Word) : Word :=
  let heard := fun (a : Option Nat) => match a with
    | none => false
    | some t => decide (s.time.pix < t + 100 * clkMs)
  match o, v with
  | 0x04, _ => (F.CTX_STATUS_NET_A c).set (b2n (heard (s.ctx c).netA)) ((F.CTX_STATUS_NET_B c).set (b2n (heard (s.ctx c).netB)) w)
  | 0x20, 0 => winReads w
  | 0x20, 2 => winReads w
  | 0x24, 0 => (F.CTX_KP_INT_MS c).near 500 10000 w
  | 0x1C, 2 => if w = 0 then w else (F.CTXR_TARGET_US c).near 500 0xFFFFF w
  | 0x28, 2 => BitVec.ofNat 32 (s.fillUs c)
  | 0x50, _ => (F.CTX_DEMAND c).set (min 8191 (s.measuredOf c / 100000)) w
  | _, _ => w

def State.viewIntake (s : State) (key : Nat) (w : Word) : Word :=
  let o := key % 0x100000
  if o = 0x14 then BitVec.ofNat 32 s.bufFree
  else if o = 0xA0 then BitVec.ofNat 32 s.openVideo.length
  else if o = 0xA4 then BitVec.ofNat 32 (min 0xFFFF ((s.openVideo.map s.declaredOf).sum / 1000000))
  else if 0x80000 ≤ o then
    let c := (o - 0x80000) / 0x80
    let v := ctxLayout s.regs (0xA80000 + 0x80 * c + 0x0C)
    s.viewCtx c (o % 0x80) v (w &&& BitVec.ofNat 32 (ctxDefined v (0xA80000 + o - 0x80000)))
  else w

def State.viewDec (s : State) (key : Nat) (w : Word) : Word :=
  let o := key % 0x100000
  if o = 0x0C then F.DEC_SLOW_CFG_THRESH.near 50 95 (F.DEC_SLOW_CFG_WINDOW.least1 w)
  else if o = 0x10 then BitVec.ofNat 32 (s.decCapacity / 1000000)
  else if o = 0x14 then BitVec.ofNat 32 (min 0xFFFF ((s.openVideo.map s.measuredOf).sum / 1000000))
  else if 0x100 ≤ o && o < 0x300 then
    let p := (o - 0x100) / 0x20
    (if o % 0x20 = 0 then (F.PIPE_CONTEXTS p).set (s.pipeCtxs p).length w
     else if o % 0x20 = 4 then (F.PIPE_LOAD p).set (min 1023 (s.pipeLoad p / 1000000)) w else w)
  else w

def State.viewEnc (s : State) (key : Nat) (w : Word) : Word :=
  let o := key % 0x100000
  if 0x100 ≤ o && o < 0x200 then
    let p := (o - 0x100) / 0x20
    (if o % 0x20 = 0 then (F.EPIPE_SESSIONS p).set ((s.epipeSess p).foldl (fun m v => m + 2 ^ v) 0) w
     else if o % 0x20 = 4 then (F.EPIPE_LOAD p).set (s.epipeLoad p / 1000000) w else w)
  else if 0x1000 ≤ o then
    let v := (o - 0x1000) / 0x80
    (match o % 0x80 with
     | 0x0C => (F.SESS_KEY_W v).near 4 32 w
     | 0x10 => (F.SESS_QPMAX v).near (min 51 ((F.SESS_QPMIN v).of w)) 51 w
     | 0x14 => (F.SESS_KEY_MIN_MS v).near 100 10000 w
     | 0x18 => (F.SESS_SLICE_ROWS v).least1 w
     | _ => w)
  else w

/-! ### DRAVIO, TOUCH, AUDIO (R380, R431, R432, R452, R453, R559, R560) -/

def State.viewDravio (s : State) (key : Nat) (w : Word) : Word :=
  let up := fun (lo : Nat) => BitVec.ofNat 32 ((List.range 32).foldl (fun m i => if s.laneStage (lo + i) = 9 then m + 2 ^ i else m) 0)
  match key % 0x100000 with
  | 0x00 => if F.DRAVIO_CTRL_TWIN_ID.of w = 3 then F.DRAVIO_CTRL_TWIN_ID.set 0 w else w
  | 0x04 => up 0
  | 0x08 => up 32
  | o => if o < 0x1000 || 0x3000 ≤ o then w
    else if o % 0x80 = 0x48 then (F.LANE_TXEQ_PRE 0).near 0 10 ((F.LANE_TXEQ_POST 0).near 0 20 w)
    else if o % 0x80 = 0x4C then (F.LANE_RXEQ_CTLE 0).near 0 23 w
    else w

def State.viewTouch (s : State) (key : Nat) (w : Word) : Word :=
  let o := key % 0x100000
  if 0x40000 ≤ o then (let p := (o - 0x40000) / 0x4000; if p < 34 then s.baselineWord p (o % 0x4000) else 0)
  else if 0x1000 ≤ o then
    let p := (o - 0x1000) / 0x100
    (match o % 0x100 with
     | 0x08 => (F.PANEL_THRESH_RELEASE p).near 0 ((F.PANEL_THRESH_TOUCH p).of w) w
     | 0x0C => (F.PANEL_THRESH2_ANTI p).least1 w
     | 0x10 => (F.PANEL_HOLD_S p).near 5 600 w
     | 0x18 => (F.PANEL_STEP_BURST p).least1 w
     | _ => w)
  else w

/-- Sides in RUN of one direction, a bit each (R452). -/
def State.sidesRun (s : State) (r : Nat) : Nat :=
  (List.range 16).foldl (fun m p => if s.sideState (2 * p + r) = sideRun then m + 2 ^ p else m) 0

def State.viewAudio (s : State) (key : Nat) (w : Word) : Word :=
  let o := key % 0x100000
  if o = 4 then BitVec.ofNat 32 (s.sidesRun 0 + 0x10000 * s.sidesRun 1)
  else if o = 8 then BitVec.ofNat 32 s.openAudio.length
  else if 0x1000 ≤ o && (o % 0x100 = 0 || o % 0x100 = 0x40) && !bitAt w.toNat 1 then (F.SIDE_CFG_SLOTS 0 0).set 1 w
  else w

/-! ### PROT, RINGS, CHK, TEST, MEMC, FAULT, L2 (R33, R172, R485 to R488, R546) -/

def State.viewRings (s : State) (key : Nat) (w : Word) : Word :=
  let o := key % 0x100000
  if o < 0x1000 then w
  else
    let k := (o - 0x1000) / 0x20
    (match o % 0x20 with
     | 0x14 => BitVec.ofNat 32 (s.ringFill k)
     | 0x1C => (F.RINGS_THRESH k).least1 w
     | 0x18 => if (F.RINGS_ATTN_AMODE k).of w = 3 then (F.RINGS_ATTN_AMODE k).set 0 w else w
     | _ => w)

/-- Fuse records as they read once the repair bank has been read (R528, R540, R541, R546). -/
def State.viewTest (s : State) (key : Nat) (w : Word) : Word :=
  let o := key % 0x100000
  let live := s.fuses.repairRead && !s.fuses.repairBad
  if o = 0x10 then (if live then BitVec.ofNat 32 s.fuses.repairs.length else 0)
  else if 0xC00 ≤ o && o < 0x1000 then (if live then (s.fuses.repairs.getD ((o - 0xC00) / 4) 0) else 0)
  else if 0x1000 ≤ o && o < 0x1080 then (if live then BitVec.ofNat 32 (s.fuses.fences.getD ((o - 0x1000) / 4) 0) else 0)
  else w

/-- The word that a read of the register at `key` returns, before the capture of R573. -/
def State.view (s : State) (key : Nat) : Word :=
  if !s.keyPresent key then 0
  else
    let w := s.reg key
    match key / 0x100000 with
    | 0 => s.viewSys key w
    | 1 => s.viewPwr key w
    | 2 => viewHlth key w
    | 4 => s.viewTime key w
    | 5 => s.viewRaster key w
    | 6 => s.viewSeq key w
    | 7 => s.viewComp key w
    | 9 => viewVigil key w
    | 10 => s.viewIntake key w
    | 11 => s.viewDec key w
    | 12 => s.viewEnc key w
    | 13 => s.viewDravio key w
    | 14 => s.viewTouch key w
    | 15 => s.viewAudio key w
    | 16 => if key = F.PROT_INFLIGHT_OLD.key then BitVec.ofNat 32 (b2n (s.bus.inflight.any s.staleTag)) else w
    | 17 => s.viewRings key w
    | 18 => if 0x1208000 ≤ key && key < 0x1208200 && key % 8 = 0 then (F.CHK_ACH_WIN 0).least1 w else w
    | 19 => s.viewTest key w
    | 20 => if key = F.MEMC_SCRUB_CFG_PERIOD_H.key then F.MEMC_SCRUB_CFG_PERIOD_H.near 1 168 w else w
    | 21 => if key = F.FAULT_QUEUED.key then BitVec.ofNat 32 s.log.queue.length else w
    | 22 => if key = F.L2_SRAM_WAYS.key then F.L2_SRAM_WAYS.near 0 12 w else w
    | _ => w

/-! ### 64-bit registers (R573) -/

/-- The key is that of the low half of a register that its chapter names a 64-bit register (R262, R329, R406, R407). -/
def isLow64 (key : Nat) : Bool :=
  key = F.TIME_OFS_SAMPLE || key = F.TIME_SAMPLE_AT || key = F.TIME_TIME64 || key = F.TIME_LAST_STEP ||
  (F.TTRIG_AT 0 ≤ key && key < F.TTRIG_AT 16 && (key - F.TTRIG_AT 0) % 0x20 = 0) ||
  (0xA80000 ≤ key && key < 0xB00000 && key % 0x80 = 0x40) ||
  (0xC01000 ≤ key && key < 0xC01800 && key % 0x80 = 0x48)

/-- Key of what initiator `i` has captured of the high half at `key + 4`. -/
def captKey (i key : Nat) : Nat := 2 ^ 32 * i + key

/-- A 32-bit read of the register at `key` by initiator `i`: a low half captures its high half, and the next read of
the high half returns what was captured (R573). No other read has an effect (R27). -/
def State.readReg (s : State) (i key : Nat) : Word × State :=
  if isLow64 key then (s.view key, { s with bus := { s.bus with capt := tabSet s.bus.capt (captKey i key) (s.view (key + 4)) } })
  else if 4 ≤ key && isLow64 (key - 4) then
    match tabGet? s.bus.capt (captKey i (key - 4)) with
    | some w => (w, { s with bus := { s.bus with capt := tabErase s.bus.capt (captKey i (key - 4)) } })
    | none => (s.view key, s)
  else (s.view key, s)

/-- A 64-bit read of the registers at `key` and `key + 4`: a 64-bit register is read in one step, other pairs low address
first (R25, R573). -/
def State.readReg64 (s : State) (i key : Nat) : Nat × State :=
  if isLow64 key then ((s.view key).toNat + 2 ^ 32 * (s.view (key + 4)).toNat, s)
  else
    let (a, s) := s.readReg i key
    let (b, s) := s.readReg i (key + 4)
    (a.toNat + 2 ^ 32 * b.toNat, s)

/-! ### Balls (R204, R565, R566) -/

/-- PG is released, which the integrator's pull-up makes high (R565). -/
def State.pgReleased (s : State) : Bool := (modeReady ≤ s.mode && s.mode ≤ modeRide) || s.mode = modeService

/-- ALERT_N is low (R566). -/
def State.alertLow (s : State) : Bool :=
  s.on F.HLTH_STATUS_HIGH_WARN || s.on F.HLTH_STATUS_THROTTLE || s.on F.PWR_STATUS_ON_HOLDUP || s.on F.PWR_STATUS_IIN_LIMIT ||
    s.mode = modeStop || s.on F.VIGIL_STATUS_ALL_SNUFF

/-- TRIG_OUT `n` is high: its pulse has not ended (R204). -/
def State.trigHigh (s : State) (n : Nat) : Bool := s.time.pix < tabGet 0 s.trigOut n

/-- Balls of R565 that are not PG, ALERT_N and the supplies. -/
inductive Ball where
  | laneTx (l : Fin 64)
  | laneRx
  | ethTx (p : Fin 4)
  | flashSelect
  | flashReset
  | flashData
  | mgmt
  | audio (k : Fin 32)
  | touchDrive (n : Fin 2)
  | touchSense
  | trigOut (n : Fin 4)
  | debugTx
deriving DecidableEq, Repr

/-- What R565 says of a ball; `driven` where another chapter has the signal. -/
inductive BallState where
  | highZ
  | termOff
  | termOn
  | idle
  | low
  | high
  | pullDown
  | input
  | bias
  | driven
deriving DecidableEq, Repr

/-- The rail that supplies a ball: VIO18 is 0, VIO33 is 1, VLANE is 8 (R551, R491). -/
def Ball.rail : Ball → Nat
  | .laneTx _ => 8
  | .laneRx => 8
  | .ethTx _ => 8
  | .flashSelect => 0
  | .flashReset => 0
  | .flashData => 0
  | .mgmt => 0
  | _ => 1

/-- A ball whose supply stands, before SELF_TEST. -/
def Ball.early : Ball → BallState
  | .laneTx _ => .highZ
  | .laneRx => .termOff
  | .ethTx _ => .highZ
  | .flashSelect => .highZ
  | .flashReset => .highZ
  | .flashData => .pullDown
  | .mgmt => .input
  | .audio _ => .pullDown
  | .touchDrive _ => .low
  | .touchSense => .bias
  | .trigOut _ => .low
  | .debugTx => .high

/-- A ball in SELF_TEST and BOOT: FL_RESET_N is low for 10 µs from the entry into BOOT. -/
def State.ballStart (s : State) : Ball → BallState
  | .laneTx _ => .idle
  | .laneRx => .termOn
  | .ethTx _ => .idle
  | .flashSelect => if s.mode = modeBoot then .driven else .highZ
  | .flashReset => if s.mode != modeBoot then .highZ else if s.time.pix < s.test.bootEntry + 10 * clkUs then .low else .driven
  | .flashData => if s.mode = modeBoot then .driven else .pullDown
  | b => b.early

/-- A ball in READY and later. -/
def State.ballLater (s : State) : Ball → BallState
  | .laneTx l => if (s.leadOf l.val).isSome then .driven else .idle
  | .laneRx => .termOn
  | .ethTx p => if s.on (F.PORT_CFG_EN p.val) then .driven else .idle
  | .flashSelect => if s.ledger.busy.isSome then .driven else .high
  | .flashReset => .high
  | .flashData => if s.ledger.busy.isSome then .driven else .pullDown
  | .mgmt => if s.on F.TIME_MGMT_CFG_EN then .driven else .input
  | .audio k => if s.sideOn k.val then .driven else .pullDown
  | .touchDrive n => if (s.panel (32 + n.val)).scan.isSome then .driven else .low
  | .touchSense => .bias
  | .trigOut n => if s.trigHigh n.val then .high else .low
  | .debugTx => .high

/-- The state of a ball: high impedance, or its termination off, while its supply is away (R565). Mark: DEDUCED, log entry 73. -/
def State.ball (s : State) (b : Ball) : BallState :=
  if s.mode = modeOff || !s.bit F.PWR_RAIL_OK b.rail then (if b = .laneRx then .termOff else .highZ)
  else if s.mode < modeSelfTest then b.early
  else if s.mode < modeReady then s.ballStart b
  else s.ballLater b

/-- Millivolts peak to peak of a lane's transmitter (R559). -/
def State.txSwing (s : State) (l : Nat) : Nat := 400 + 25 * s.get (F.LANE_TXEQ_SWING l)

/-- Steps of pre-cursor and post-cursor de-emphasis that a lane's transmitter applies, 24 together (R559). -/
def State.txEq (s : State) (l : Nat) : Nat × Nat :=
  let pre := min 10 (s.get (F.LANE_TXEQ_PRE l))
  (pre, min (24 - pre) (min 20 (s.get (F.LANE_TXEQ_POST l))))

end Sys2Proof.Machine
end

