-- ==== Sys2Proof/Machine/WinRegs.lean ====
section
/-! DEFINITION. Register writes of windows, coefficient loads and copy sets (R226 to R228, R239, R241). -/
namespace Sys2Proof.Machine

/-- A write of COMP.PLACE_CTL: GO performs `place` at Keeper level with PLACE_A and PLACE_B (R228). -/
def State.wrPlaceCtl (s : State) (v : Word) : State :=
  if !bitAt v.toNat 0 then s
  else
    let (st, s) := s.place none (keyAddr F.COMP_PLACE_CTL_GO.key) (s.get F.COMP_PLACE_A) (s.get F.COMP_PLACE_B)
    s.put F.COMP_PLACE_CTL_STATUS st

def execPlaceCtlGo (i : Initiator) (v : Word) (s : State) : Host.Outcome State Fault Refusal :=
  .next (s.asWrite i F.COMP_PLACE_CTL_GO.key v (fun s => s.wrPlaceCtl v))

def execDescriptorWrite (i : Initiator) (w : Fin 2048) (k : Fin 16) (v : Word) (s : State) : Host.Outcome State Fault Refusal :=
  .next (s.asWrite i (winKey w.val + 4 * k.val) v (fun s => s.writeDescriptor w.val k.val v))

def execCoefLoadGo (i : Initiator) (v : Word) (s : State) : Host.Outcome State Fault Refusal :=
  .next (s.asWrite i F.PIXP_COEF_LOAD_SET.key v (fun s => s.wrCoefLoad v))

def execCopySetEnable (i : Initiator) (k : Fin 256) (v : Word) (s : State) : Host.Outcome State Fault Refusal :=
  .next (s.asWrite i (F.COPY_SRC k.val).key v (fun s => s.wrCopyCtl k.val v))

end Sys2Proof.Machine
end

