-- ==== Sys2Proof/Machine/Write.lean ====
section
/-! DEFINITION. A write of any register, whatever block owns it: REGISTER_WRITE, the 64-bit registers, and the checks of
an access at its initiator and at its target (R2, R6, R7, R25 to R27, R459 to R466, R573). -/
namespace Sys2Proof.Machine

/-- The element of a table of `n` elements `stride` apart from `base` that offset `o` falls in, with the offset there. -/
def inTab (o base stride n : Nat) : Option (Nat × Nat) :=
  if base ≤ o && o < base + stride * n then some ((o - base) / stride, (o - base) % stride) else none

/-- Bits of the register at `key` that a write of 1 clears (R7). -/
def State.w1cBits (s : State) (key : Nat) : Nat :=
  match rowAt (ctxLayout s.regs key) key with
  | some (r, _, _) => r.w1c
  | none => 0

/-- A write of a register that has no effect beyond its fields: RW, RWS and WK fields take the value, a 1 clears a W1C
field, and everything else stays (R7, R26). -/
def State.wrPlain (s : State) (key : Nat) (v : Word) : State :=
  let m := s.rwBits key
  let c := s.w1cBits key
  if m = 0 && c = 0 then s
  else
    let s := s.writeBits key m v
    if c = 0 then s else s.writeBits key (c &&& v.toNat) 0

/-! ### One function per block, by the offset in the block -/

def State.wrSys (s : State) (src : Src) (o : Nat) (v : Word) : State :=
  match inTab o 0x1000 0x40 16 with
  | some (c, 0) => s.wrCoreCtl src c v
  | some (c, 0x10) => s.wrWdogCfg c v
  | some (c, 0x14) => s.wrKick c v
  | _ =>
    match o with
    | 0x04 => s.wrModeReq v
    | 0x0C => s.wrResetReq v
    | 0x14 => s.wrBootConfirm v
    | _ => if 0x40 ≤ o && o ≤ 0x58 && o % 4 = 0 then s.wrFence ((o - 0x40) / 4) v else s.wrPlain o v

def State.wrPwr (s : State) (key : Nat) (v : Word) : State :=
  if key = F.PWR_VIN_WARN_CFG.key then s.wrVinWarn v
  else if key = F.PWR_CTRL_STOP.key then s.wrPwrCtrl v
  else if key = F.PWR_RT_CFG_RT_BUDGET.key then s.wrRtCfg v
  else if key = F.PWR_CAP_SET.key then (s.wrPlain key v).updCap
  else if key = F.PWR_SHED_CFG_DEC_MIN.key then s.countPipes.wrPlain key v
  else s.wrPlain key v

def State.wrTime (s : State) (key : Nat) (v : Word) : State :=
  match inTab key (F.TTRIG_AT 0) 0x20 16, inTab key (F.PORT_CFG_EN 0).key 0x100 4 with
  | some (n, r), _ => if r % 4 = 0 then s.wrTrigger n (r / 4) v else s
  | _, some (p, 0) => s.wrPortCfg p v
  | _, some (p, 8) => s.wrPortMac p false v
  | _, some (p, 12) => s.wrPortMac p true v
  | _, _ =>
    if key = F.TIME_SERVO_CFG_EN.key then s.wrServoCfg v
    else if key = F.TIME_FREQ.key then s.wrFreq v
    else if key = F.TIME_OFS_SAMPLE then s.holdLow key v
    else if key = F.TIME_OFS_SAMPLE + 4 then
      let (t, s) := s.joinHigh F.TIME_OFS_SAMPLE v
      s.sample t
    else if key = F.TIME_SAMPLE_AT then s.holdLow key v
    else if key = F.TIME_SAMPLE_AT + 4 then
      let (t, s) := s.joinHigh F.TIME_SAMPLE_AT v
      s.put64 F.TIME_SAMPLE_AT t
    else if key = F.TIME_MDIO_CMD_GO.key then s.wrMdio v
    else if key = F.TIME_MGMT_CFG_EN.key then s.wrMgmtCfg v
    else s.wrPlain key v

def State.wrRaster (s : State) (key : Nat) (v : Word) : State :=
  match inTab key (F.HEAD_HTIM_HACTIVE 0).key 0x80 48, inTab key (F.SPAN_MEMBERS_LO 0).key 0x20 16 with
  | some (h, r), _ =>
    if r ≤ 8 && r % 4 = 0 then s.wrTiming h (r / 4) v
    else match r with
      | 0x0C => s.wrHeadCfg h v
      | 0x10 => s.wrRef h v
      | 0x34 => s.wrCommit h v
      | _ => s.wrPlain key v
  | _, some (sp, r) =>
    if r ≤ 8 && r % 4 = 0 then s.wrSpan sp (r / 4) v
    else if r = 0x0C then s.wrCommit (48 + sp) v
    else s.wrPlain key v
  | _, _ => s.wrPlain key v

/-- Registers of SEQ and the local memories behind them; `false`: an error response (R218, R224). -/
def State.wrSeq (s : State) (key : Nat) (v : Word) : Bool × State :=
  match inTab key (F.SEQN_CTL_RUN 0).key 0x40 48, inTab key 0x640000 0x4000 48 with
  | some (n, 0), _ => (true, s.wrSeqCtl n v)
  | _, some (n, o) => if o % 4 = 0 then s.wrSeqMem n o v else (true, s)
  | _, _ => (true, s.wrPlain key v)

def State.wrComp (s : State) (key : Nat) (v : Word) : State :=
  match inTab key (F.WIN_KIND 0).key 0x40 2048 with
  | some (w, r) => if r % 4 = 0 then s.writeDescriptor w (r / 4) v else s
  | none => if key = F.COMP_PLACE_CTL_GO.key then s.wrPlaceCtl v else s.wrPlain key v

def State.wrPixp (s : State) (key : Nat) (v : Word) : State :=
  match inTab key (F.COPY_SRC 0).key 0x20 256 with
  | some (k, r) =>
    if r = 0 then s.wrCopyCtl k v
    else if s.on (F.COPY_ENABLE k) then s
    else s.wrPlain key v
  | none =>
    if key = F.PIXP_COEF_LOAD_SET.key then s.wrCoefLoad v
    else if (inTab key (F.PIXP_COEF_STAGE 0).key 4 256).isSome && s.get F.PIXP_COEF_LOAD_STATUS = 1 then s
    else s.wrPlain key v

/-- Registers of VIGIL: what R52 names stays after LOCK. -/
def State.wrVigil (s : State) (key : Nat) (v : Word) : State :=
  let locked := [F.VIGIL_RETIRE_CFG_FRAMES.key, F.VIGIL_ECHO_TIMEOUT.key, F.VIGIL_CEIL_STALE.key, F.VIGIL_CEIL_FREEZE.key,
    F.VIGIL_CEIL_SKIP_N.key, F.VIGIL_FILL.key]
  if key = F.VIGIL_CTRL_LOCK.key then s.setVigilCtrl v
  else if key = F.VIGIL_INJECT_WINDOW.key then s.wrInject v
  else if key = F.VIGIL_CLOVE_HATCH.key then s.wrColour 0 v
  else match inTab key (F.VIGIL_COLOUR 1).key 4 7 with
    | some (c, 0) => s.wrColour (c + 1) v
    | _ => if locked.contains key && s.on F.VIGIL_CTRL_LOCK then s else s.wrPlain key v

def State.wrIntake (s : State) (key : Nat) (v : Word) : State :=
  match inTab key (F.CTX_CTRL_KIND 0).key 0x80 4096 with
  | some (c, r) => if r % 4 = 0 then s.wrCtx c (r / 4) v else s
  | none =>
    if key = F.INTAKE_BUF_RETURN.key then s.wrBufReturn v
    else if key = F.INTAKE_RULE_CMD_OP.key then s.wrRuleCmd v
    else if (key = F.INTAKE_PKT_BASE.key || key = F.INTAKE_PKT_SIZE.key) && s.get F.INTAKE_CTRL_PORT_EN != 0 then s
    else s.wrPlain key v

def State.wrEnc (s : State) (key : Nat) (v : Word) : State :=
  match inTab key (F.SESS_CTL_ENABLE 0).key 0x80 16 with
  | some (n, r) => if r % 4 = 0 then s.wrSess n (r / 4) v else s
  | none => if key = F.ENC_PIPE_EN.key then s.wrEncEn v else s.wrPlain key v

def State.wrDravio (s : State) (key : Nat) (v : Word) : State :=
  match inTab key (F.LANE_CFG_ROLE 0).key 0x80 64, inTab key (F.DRAVIO_OUTMAP_LEAD 0).key 4 32,
    inTab key (F.DRAVIO_SENSEMAP_LANE 0).key 4 32 with
  | some (l, 0), _, _ => s.wrLaneCfg l v
  | some (l, 0x50), _, _ => s.wrLoop l v
  | _, some (h, 0), _ => s.wrOutmap h v
  | _, _, some (k, 0) => s.wrSensemap k v
  | _, _, _ =>
    let t := s.wrPlain key v
    if key = F.DRAVIO_LOSS_FILL.key && t.get F.DRAVIO_LOSS_FILL != s.get F.DRAVIO_LOSS_FILL then t.lanternCfgChange else t

def State.wrTouch (s : State) (key : Nat) (v : Word) : State :=
  match inTab key (F.PANEL_CFG_EN 0).key 0x100 34 with
  | some (p, r) => if r % 4 = 0 then s.wrPanel p (r / 4) v else s
  | none => s.wrPlain key v

def State.wrAudioBlk (s : State) (key : Nat) (v : Word) : State :=
  match inTab key (F.SIDE_CFG_EN 0 0).key 0x100 16 with
  | some (p, r) => if r % 4 = 0 then s.wrAudio p (r / 4) v else s
  | none => s.wrPlain key v

def State.wrProt (s : State) (src : Src) (key : Nat) (v : Word) : State :=
  match inTab key (F.PROT_BIND 0).key 4 128 with
  | some (n, 0) => s.wrBind n v
  | _ =>
    if key = F.PROT_CTRL_LOCKDOWN.key then s.wrLockdown v
    else if key = F.PROT_ACT_SET.key then s.wrAct src v
    else s.wrPlain key v

/-- Registers of RINGS; the attention condition follows THRESH and ATTN (R471). -/
def State.wrRings (s : State) (key : Nat) (v : Word) : State :=
  match inTab key (F.RINGS_BASE 0).key 0x20 128 with
  | some (k, 0) => s.wrRingBase k v
  | some (k, 4) => s.wrRingCfg k v
  | some (k, 0x10) => s.wrBell k v
  | some (k, _) => (s.wrPlain key v).ringUpdate k
  | none => s.wrPlain key v

/-- Frame SRAM banks of SRAM_RESERVE word `n` that the bits of `m` reserve anew lose their contents (R543). -/
def State.loseBanks (s : State) (n m : Nat) : State :=
  ((List.range 32).filter (fun b => bitAt m b)).foldl (fun s b =>
    s.eraseRange (0x1000000000 + 0x40000 * (32 * n + b)) (0x1000000000 + 0x40000 * (32 * n + b + 1))) s

def State.wrTest (s : State) (key : Nat) (v : Word) : State :=
  match inTab key (F.TEST_SRAM_RESERVE 0).key 4 8 with
  | some (n, 0) =>
    let old := s.get (F.TEST_SRAM_RESERVE n)
    (s.wrPlain key v).loseBanks n (v.toNat &&& (0xFFFFFFFF ^^^ old))
  | _ =>
    if key = F.TEST_IST_CMD_UNIT.key then s.wrIst v
    else if key = F.TEST_FUSE_CMD_OP.key then s.wrFuseCmd v
    else if key = F.TEST_PPR_CMD_CHANNEL.key then s.wrPpr v
    else s.wrPlain key v

def State.wrL2 (s : State) (key : Nat) (v : Word) : State :=
  match inTab key (F.L2_NC_BASE 0).key 8 4 with
  | some (n, 0) => s.wrNc n false v
  | some (n, 4) => s.wrNc n true v
  | _ => if key = F.L2_SRAM_WAYS.key then s.wrSramWays v else s.wrPlain key v

/-- A 32-bit write of `v` to the register at `key`, which has passed every check; `false`: an error response. A register
of a unit that the member has not takes no write (R2). -/
def State.regWrite (s : State) (src : Src) (key : Nat) (v : Word) : Bool × State :=
  if !s.keyPresent key then (true, s)
  else match key / 0x100000 with
    | 0 => (true, s.wrSys src key v)
    | 1 => (true, s.wrPwr key v)
    | 2 => (true, if key = F.HLTH_LEDGER_CTRL_EN.key then s.wrLedgerCtrl v else s.wrPlain key v)
    | 3 => (true, if key = F.CLK_SAMPLE_CFG_BASE.key then s.wrSampleCfg v else s.wrPlain key v)
    | 4 => (true, s.wrTime key v)
    | 5 => (true, s.wrRaster key v)
    | 6 => s.wrSeq key v
    | 7 => (true, s.wrComp key v)
    | 8 => (true, s.wrPixp key v)
    | 9 => (true, s.wrVigil key v)
    | 10 => (true, s.wrIntake key v)
    | 11 => (true, if key = F.DEC_PIPE_EN.key then s.wrDecEn v else s.wrPlain key v)
    | 12 => (true, s.wrEnc key v)
    | 13 => (true, s.wrDravio key v)
    | 14 => (true, s.wrTouch key v)
    | 15 => (true, s.wrAudioBlk key v)
    | 16 => (true, s.wrProt src key v)
    | 17 => (true, s.wrRings key v)
    | 19 => (true, s.wrTest key v)
    | 21 => (true, if key = F.FAULT_CTR_CLEAR_BLOCK.key then s.wrCtrClear v else s.wrPlain key v)
    | 22 => (true, s.wrL2 key v)
    | _ => (true, s.wrPlain key v)

/-- A register write of 4 or 8 bytes: a 64-bit one is made low address first (R25, R573). -/
def State.regWriteN (s : State) (src : Src) (key len v : Nat) : Bool × State :=
  if len ≤ 4 then s.regWrite src key (BitVec.ofNat 32 v)
  else
    let (a, s) := s.regWrite src key (BitVec.ofNat 32 v)
    let (b, s) := s.regWrite src (key + 4) (BitVec.ofNat 32 (v / 2 ^ 32))
    (a && b, s)

/-- A register read of 4 or 8 bytes. -/
def State.regReadN (s : State) (src : Src) (key len : Nat) : Nat × State :=
  if len ≤ 4 then
    let (w, s) := s.readReg src.id.val key
    (w.toNat, s)
  else s.readReg64 src.id.val key

/-! ### Performing an access that has passed its checks -/

/-- An access performed at its target; `false`: an error response. A read of memory meets what the ECC finds (R28 to R30,
R169); a write of a core goes through the L2, one of any other initiator past it with a snoop (R163 to R167). -/
def State.perform (s : State) (x : Access) (finds : List (Nat × MemFind)) : Bool × State :=
  if (s.region x.addr).isReg then
    match x.kind with
    | .write => s.regWriteN x.src (regKey x.addr) x.len (leNat x.data)
    | _ => (true, ((s.seqFinds (regKey x.addr) x.len finds).regReadN x.src (regKey x.addr) x.len).2)
  else
    match x.kind with
    | .write =>
      if x.src.id.val < 16 then (true, s.coreWrite x.src.id.val x.addr x.data)
      else (true, { s with dirty := dropLines s.dirty x.addr x.len }.memWrite x.addr x.data)
    | _ =>
      let s := s.applyFinds x.addr x.len x.src.id.val finds
      (!s.poisoned x.addr x.len, s)

/-- The store of an engine gets an error response: a core takes an imprecise refusal, a line sequencer stops (R161, R215). -/
def State.storeFailed (s : State) (x : Access) : State :=
  let k := x.src.id.val
  if k < 16 then s.setEngine k { s.engine k with impr := (s.engine k).impr ++ [(x.addr, x.word)] }
  else if k < 64 && (s.get (F.SEQN_STATE (k - 16)) = 1 || s.get (F.SEQN_STATE (k - 16)) = 2) then
    s.seqFaultAt (k - 16) 8 (some x.addr) x.pc
  else s

/-- The target's check of an access and the access itself (R459, R463). -/
def State.atTarget (s : State) (x : Access) (finds : List (Nat × MemFind)) : Bool × State :=
  let (ok, s) := s.tgtCheck x
  if ok then s.perform x finds else (false, s)

/-- A register access that has passed its initiator's check: it waits for those that the initiator has issued before, and
otherwise reaches its target (R27). -/
def State.regAccess (s : State) (x : Access) : State :=
  if s.regQueued x.src then { s with bus := { s.bus with inflight := s.bus.inflight ++ [x] } } else (s.atTarget x []).2

/-! ### The commands -/

/-- A 32-bit register access of `i`: checked at its initiator, then on its way to its target (R27, R459). -/
def State.regCommand (s : State) (i : Initiator) (k : AccKind) (a : Nat) (data : List Byte) : State :=
  let src := s.issuer i
  let (ok, s) := s.initCheck src k a 4
  if !ok then s else s.regAccess (s.tagged src k a 4 data)

/-- REGISTER_WRITE: a 32-bit write of `i` reaches its register (R6, R7, R25 to R27). -/
def execRegisterWrite (i : Initiator) (a : PAddr) (v : Word) (s : State) : Host.Outcome State Fault Refusal :=
  .next (s.regCommand i .write a.toNat (leBytes v.toNat 4))

/-- REG64_LOW_WRITE: a 32-bit write of the low half of a 64-bit register is held (R573). -/
def execReg64LowWrite (i : Initiator) (a : PAddr) (v : Word) (s : State) : Host.Outcome State Fault Refusal :=
  .next (s.regCommand i .write a.toNat (leBytes v.toNat 4))

/-- REG64_HIGH_WRITE: a 32-bit write of the high half takes effect with the low half held (R573). -/
def execReg64HighWrite (i : Initiator) (a : PAddr) (v : Word) (s : State) : Host.Outcome State Fault Refusal :=
  .next (s.regCommand i .write a.toNat (leBytes v.toNat 4))

/-- REG64_LOW_READ: a 32-bit read of the low half captures the high half (R573). -/
def execReg64LowRead (i : Initiator) (a : PAddr) (s : State) : Host.Outcome State Fault Refusal :=
  .next (s.regCommand i .read a.toNat [])

/-- One transaction of INITIATOR_CHECK: it enters flight with its tags once it passes (R459, R463, R466). -/
def State.launch (s : State) (i : Src) (k : AccKind) (a len : Nat) (data : List Byte) : State :=
  let (ok, s) := s.initCheck i k a len
  if ok then { s with bus := { s.bus with inflight := s.bus.inflight ++ [s.tagged i k a len data] } } else s

/-- INITIATOR_CHECK: the transfer is split into transactions of one 256-byte block each, and each is checked (R456). -/
def execInitiatorCheck (i : Initiator) (k : AccKind) (a : Nat) (len : Fin 257) (data : List Byte) (s : State) :
    Host.Outcome State Fault Refusal :=
  .next ((splitTx 3 a len.val).foldl (fun t p => t.launch (s.issuer i) k p.1 p.2 (slice data (p.1 - a) p.2)) s)

/-- Normal memory of a core: DRAM outside the non-cacheable windows, and the L2 SRAM window (R163, R172). -/
def State.isNormal (s : State) (a : Nat) : Bool :=
  (s.region a = .dram && !(s.ncHit a 0 || s.ncHit a 1 || s.ncHit a 2 || s.ncHit a 3)) || s.region a = .l2sram

/-- Nothing but the program's own order ties two accesses in flight together: one initiator, and for a sconce core both
uncached or both to normal memory (R27, R163, R164). -/
def State.inOrder (s : State) (x y : Access) : Bool :=
  x.src.id = y.src.id && (16 ≤ x.src.id.val || s.isNormal x.addr = s.isNormal y.addr)

/-- Position in flight of the oldest access that comes before `y` in order, or of `y` itself. -/
def State.oldestOf (s : State) (y : Access) : Nat := s.bus.inflight.findIdx (s.inOrder y)

/-- A core's write in flight stalls in the L2 (R171). -/
def State.accessStalls (s : State) (x : Access) : Bool := x.src.id.val < 16 && s.l2Stalls x.addr x.len

/-- The access at position `j` in flight reaches its target (R463, R466). -/
def State.land (s : State) (j : Nat) (finds : List (Nat × MemFind)) : State :=
  match s.bus.inflight[j]? with
  | none => s
  | some x =>
    let s := { s with bus := { s.bus with inflight := s.bus.inflight.eraseIdx j } }
    let (ok, s) := s.atTarget x finds
    if !ok && x.kind = .write then s.storeFailed x else s

/-- The oldest access in flight that access `n` must follow reaches its target, unless it stalls in the L2 (R27, R163, R164,
R171). -/
def State.reach (s : State) (n : Nat) (finds : List (Nat × MemFind)) : State :=
  match s.bus.inflight[n]? with
  | none => s
  | some y =>
    let j := s.oldestOf y
    if (s.bus.inflight[j]?).any s.accessStalls then s else (s.land j finds).settleHalt y.src.id.val

/-- Up to `n` accesses in flight that meet `p` reach their targets, oldest first. -/
def State.landAll (s : State) (p : Access → Bool) : Nat → State
  | 0 => s
  | n + 1 => if s.bus.inflight.any p then (s.land (s.bus.inflight.findIdx p) []).landAll p n else s

/-- Every access of engine `k` in flight completes at its target, as `fence` asks (R165, R187). -/
def State.drain (s : State) (k : Nat) : State := s.landAll (fun x => x.src.id.val = k) s.bus.inflight.length

/-- TARGET_CHECK. -/
def execTargetCheck (n : Nat) (finds : List (Nat × MemFind)) (s : State) : Host.Outcome State Fault Refusal := .next (s.reach n finds)

/-- A scrub burst is under way on the channel of each of the next `words` units that the scrub reads; 2^(LOG_CHAN + 1) units in a
row lie on every channel (R126, R571). -/
def State.scrubOpen (s : State) (words : Nat) : Bool :=
  let units := max 1 (s.dramEnd / 256)
  (List.range (min words (2 ^ (s.logChan + 1)))).all (fun i =>
    s.time.pix ≤ tabGet 0 s.bus.scrubs (s.channelOf ((s.get F.MEMC_SCRUB_POS + i) % units * 256)))

/-- PATROL_SCRUB: the scrub reads `words` units of 256 bytes from SCRUB_POS on; what it finds there follows R29 and R30
(R32, R33). A burst reads only on channels on which it has started and has not ended, and waits elsewhere (R126). -/
def State.scrub (s : State) (words : Nat) (finds : List (Nat × MemFind)) : State :=
  if !s.on F.MEMC_SCRUB_CFG_ENABLE || !s.scrubOpen words then s
  else
    let units := s.dramEnd / 256
    let pos := s.get F.MEMC_SCRUB_POS
    let s := (finds.filter (fun f => f.1 < s.dramEnd && (f.1 / 256 + units - pos % units) % units < words)).foldl
      (fun s f => s.applyFind f.1 0xFF f.2) s
    s.put F.MEMC_SCRUB_POS ((pos + words) % units)

def execPatrolScrub (t : Nat) (words : Nat) (finds : List (Nat × MemFind)) (s : State) : Host.Outcome State Fault Refusal :=
  .next ((s.advance t).scrub words finds)

end Sys2Proof.Machine
end

