-- ==== Sys2Proof/Machine/Operands.lean ====
section
/-! DEFINITION. Operands of Priad instructions: general registers, immediates, the words of the formats of R139,
effective addresses, and the data of loads and stores (R136, R139 to R146, R163, R164). -/
namespace Sys2Proof.Machine

/-! ### Registers -/

/-- General register `r` of engine `k`; g0 reads as zero (R136). -/
def State.gr (s : State) (k r : Nat) : Dword := if r = 0 then 0 else tabGet 0 (s.engine k).g r

/-- The general registers with `v` in register `d`; a write of g0 is discarded (R136). -/
def Engine.setG (e : Engine) (d : Nat) (v : Dword) : Engine := if d = 0 then e else { e with g := tabSet e.g d v }

/-- General register `d` of engine `k` made `v`. -/
def State.setGr (s : State) (k d : Nat) (v : Dword) : State := s.setEngine k ((s.engine k).setG d v)

/-- `g31`, the link register of `call` (R136). -/
def linkReg : Nat := 31

/-! ### Immediates (R143, R144, R147) -/

/-- IMM16 sign-extended and zero-extended. -/
def sx16 (i : BitVec 16) : Dword := i.signExtend 64
def zx16 (i : BitVec 16) : Dword := i.zeroExtend 64

/-- IMM21 sign-extended. -/
def sx21 (i : BitVec 21) : Dword := i.signExtend 64

/-- The PC, an address of 40 bits (R136), plus a signed number of words. -/
def pcPlus (pc : Nat) (words : Int) : Nat := (((pc : Int) + 4 * words) % (2 ^ 40 : Nat)).toNat

/-! ### Instruction words (R139, R140, R183), as EINST holds them -/

def wordT (maj : Nat) (d a b : Fin 32) (fn : Nat) : Nat :=
  maj * 0x4000000 + d.val * 0x200000 + a.val * 0x10000 + b.val * 0x800 + fn
def wordI (maj : Nat) (d a : Fin 32) (imm : BitVec 16) : Nat := maj * 0x4000000 + d.val * 0x200000 + a.val * 0x10000 + imm.toNat
def wordU (maj : Nat) (d : Fin 32) (imm : BitVec 21) : Nat := maj * 0x4000000 + d.val * 0x200000 + imm.toNat
def wordB (maj : Nat) (a b : Fin 32) (off : BitVec 16) : Nat := maj * 0x4000000 + a.val * 0x200000 + b.val * 0x10000 + off.toNat
def wordJ (maj : Nat) (off : BitVec 26) : Nat := maj * 0x4000000 + off.toNat
def wordS (d a : Fin 32) (sub : Nat) (sr : Nat) : Nat := 0x30 * 0x4000000 + d.val * 0x200000 + a.val * 0x10000 + sub * 0x1000 + sr

/-- The immediate of a shift of kind `k` of major opcode 0x09: the kind stands in IMM16 [7:6] (R143). -/
def shiftImm (k : Nat) (imm : BitVec 16) : BitVec 16 := (imm &&& 0xFF3F#16) ||| BitVec.ofNat 16 (k * 64)

/-! ### Effective addresses (R144, R145) -/

/-- A plus IMM16 sign-extended. -/
def State.effAddr (s : State) (k a : Nat) (imm : BitVec 16) : Nat := (s.gr k a + sx16 imm).toNat

/-- The cause of an address: bits [63:40] set, or no multiple of the width (R145, R157). -/
def addrCause (a width : Nat) : Option Nat := if 2 ^ 40 ≤ a then some 5 else if a % width ≠ 0 then some 6 else none

/-! ### Data of a core's loads and stores (R163, R164) -/

/-- The byte at `a` of the latest write among accesses in flight of engine `k`. -/
def flightByte (k : Nat) (a : Nat) : List Access → Option Byte
  | [] => none
  | x :: xs =>
    match flightByte k a xs with
    | some b => some b
    | none =>
      if x.src.id.val = k && x.kind = .write && x.addr ≤ a && a < x.addr + x.data.length then some (nth 0 x.data (a - x.addr))
      else none

/-- The byte that a load of core `k` returns: that of its own latest store, or that of memory as the cores see it (R163). -/
def State.loadByte (s : State) (k a : Nat) : Byte := (flightByte k a s.bus.inflight).getD (s.coreByte a)

/-- `n` bytes as core `k` loads them. -/
def State.loadBytes (s : State) (k a : Nat) : Nat → List Byte
  | 0 => []
  | n + 1 => s.loadByte k a :: s.loadBytes k (a + 1) n

/-- Whether a load of core `k` finds one of the bytes poisoned (R30). -/
def State.loadPoison (s : State) (k a : Nat) : Nat → Bool
  | 0 => false
  | n + 1 => ((flightByte k a s.bus.inflight).isNone && s.corePoisoned a 1) || s.loadPoison k (a + 1) n

/-- Accesses in flight of engine `k` that meet `p` complete at their targets. `false`: what they did has stopped the
engine, or one of them stalls, so that none completes yet (R171). -/
def State.complete (s : State) (k : Nat) (p : Access → Bool) : Bool × State :=
  if s.bus.inflight.any (fun x => x.src.id.val = k && p x && s.accessStalls x) then (false, s)
  else if s.bus.inflight.any (fun x => x.src.id.val = k && p x) then
    let s := s.setEngine k { s.engine k with wait := .busy }
    let s := s.landAll (fun x => x.src.id.val = k && p x) s.bus.inflight.length
    let e := s.engine k
    if e.wait = .busy then (true, s.setEngine k { e with wait := .none }) else (false, s)
  else (true, s)

/-- A full `fence` of engine `k` (R165, R187). -/
def State.fenceAll (s : State) (k : Nat) : Bool × State := s.complete k (fun _ => true)

/-- Offset `o` of the local memory of the sequencer that is engine `k` (R211). -/
def localAddr (k o : Nat) : Nat := 0x4000 * (k - 16) + o

/-- A loaded datum of `width` bytes, sign-extended or zero-extended to 64 bits (R144). -/
def loadExt (signed : Bool) (width v : Nat) : Dword :=
  if signed then BitVec.ofInt 64 (sint (8 * width) v) else BitVec.ofNat 64 (v % 2 ^ (8 * width))

end Sys2Proof.Machine
end

