-- ==== Sys2Proof/Machine/Flags.lean ====
section
/-! DEFINITION. Conditions and results of the arithmetic: comparisons, the corners of division, shifts, counts of bits
and the values of atomic operations (R141, R142, R147, R149). Priad has no condition flags: a comparison writes 1 or 0
into a register. -/
namespace Sys2Proof.Machine

/-- 1 or 0. -/
def flag (b : Bool) : Dword := if b then 1 else 0

/-- The 32-bit result of an operation on bits [31:0], zero-extended (R141). -/
def op32 (f : BitVec 32 → BitVec 32 → BitVec 32) (a b : Dword) : Dword := (f (a.setWidth 32) (b.setWidth 32)).zeroExtend 64

/-- Quotient and remainder of R142. -/
def quosOf (a b : Dword) : Dword :=
  if b = 0 then (if a.toInt < 0 then BitVec.ofInt 64 (-(2 ^ 63)) else BitVec.ofNat 64 (2 ^ 63 - 1))
  else if a.toInt = -(2 ^ 63) && b.toInt = -1 then BitVec.ofNat 64 (2 ^ 63 - 1)
  else BitVec.ofInt 64 (a.toInt.tdiv b.toInt)
def quouOf (a b : Dword) : Dword := if b = 0 then BitVec.ofNat 64 (2 ^ 64 - 1) else BitVec.ofNat 64 (a.toNat / b.toNat)
def modsOf (a b : Dword) : Dword :=
  if b = 0 then a
  else if a.toInt = -(2 ^ 63) && b.toInt = -1 then 0
  else BitVec.ofInt 64 (a.toInt.tmod b.toInt)
def moduOf (a b : Dword) : Dword := if b = 0 then a else BitVec.ofNat 64 (a.toNat % b.toNat)

/-- Lesser and greater of two numbers of `w` bits. -/
def minS (w a b : Nat) : Nat := if sint w a ≤ sint w b then a else b
def maxS (w a b : Nat) : Nat := if sint w a ≤ sint w b then b else a

/-- `a` rotated left by `n`, of 64 bits. -/
def rolOf (a : Dword) (n : Nat) : Dword := a.rotateLeft n

/-- Leading and trailing zero bits of a number of `n` bits. -/
def lzcOf (a : Nat) : Nat → Nat
  | 0 => 0
  | n + 1 => if bitAt a n then 0 else 1 + lzcOf a n
def tzcOf (a : Nat) : Nat → Nat
  | 0 => 0
  | n + 1 => if a % 2 = 1 then 0 else 1 + tzcOf (a / 2) n

/-- The eight bytes of a doubleword in reverse order. -/
def bswapOf (a : Dword) : Dword := BitVec.ofNat 64 (leNat (leBytes a.toNat 8).reverse)

/-- The amount and the operand of a shift by an immediate: IMM16 [8] selects the 32-bit form (R143). -/
def shiftBy (k : Nat) (a : Dword) (imm : BitVec 16) : Dword :=
  if bitAt imm.toNat 8 then
    let n := bits imm.toNat 0 5
    let x : BitVec 32 := a.setWidth 32
    (match k with
      | 0 => x <<< n
      | 1 => x >>> n
      | 2 => x.sshiftRight n
      | _ => x.rotateLeft n).zeroExtend 64
  else
    let n := bits imm.toNat 0 6
    match k with
    | 0 => a <<< n
    | 1 => a >>> n
    | 2 => a.sshiftRight n
    | _ => rolOf a n

/-- A shift immediate that R143 reserves. -/
def shiftBad (imm : BitVec 16) : Bool := bits imm.toNat 9 7 != 0 || (bitAt imm.toNat 8 && bitAt imm.toNat 5)

/-- The new value of an atomic of `w` bits, `none` for a compare that fails (R149). -/
def atomicNew (op w old b d : Nat) : Option Nat :=
  let m := 2 ^ w
  let b := b % m
  match op with
  | 0 => some b
  | 1 => some ((old + b) % m)
  | 2 => some (old &&& b)
  | 3 => some (old ||| b)
  | 4 => some (old ^^^ b)
  | 5 => some (minS w old b)
  | 6 => some (maxS w old b)
  | 7 => some (min old b)
  | 8 => some (max old b)
  | 9 => if old = d % m then some b else none
  | _ => some (if m ≤ old + b then m - 1 else old + b)

end Sys2Proof.Machine
end

