-- ==== Sys2Proof/Machine/Priad.lean ====
section
/-! DEFINITION. Issuing a Priad instruction on a sconce core or a line sequencer: the instruction boundary, the fetch, the
exceptions of a core and the faults of a sequencer, and completion (R133, R134, R138, R151 to R161, R175, R182, R211 to R215). -/
namespace Sys2Proof.Machine

/-- What an instruction does once it is issued. -/
inductive Act where
  /-- It completes, and the next instruction follows. -/
  | next (s : State)
  /-- It completes, and the PC goes to an address. -/
  | goto (pc : Nat) (s : State)
  /-- It does not complete now: the engine waits, or has stopped. -/
  | hold (s : State)
  /-- It raises a cause of R156, with the address that EADDR takes. -/
  | cause (c : Nat) (addr : Option Nat) (s : State)

/-- Which engines execute an instruction (R133, R134, R182). -/
inductive Who where
  | both
  | coreOnly
  | seqOnly
deriving DecidableEq, Repr

/-! ### Attention (R155, R161, R162) -/

/-- Ring `r` has attention pending at core `c` (R162, R471). -/
def State.attnRing (s : State) (c r : Nat) : Bool :=
  s.bit (F.RINGS_ATTN_STATE (r / 32)) (r % 32) && s.bit (F.RINGS_ATTN_ROUTE r) c

/-- ATTN_PEND `i` of core `c`: one bit per ring 64i to 64i + 63 (R137). -/
def State.attnPend (s : State) (c i : Nat) : Nat :=
  if s.get (F.RINGS_ATTN_STATE (2 * i)) = 0 && s.get (F.RINGS_ATTN_STATE (2 * i + 1)) = 0 then 0
  else (List.range 64).foldl (fun n j => if s.attnRing c (64 * i + j) then n + 2 ^ j else n) 0

/-- The lowest set bit of a number of `n` bits, counted from `i`. -/
def lowBit (x : Nat) : Nat → Nat → Option Nat
  | _, 0 => none
  | i, n + 1 => if x % 2 = 1 then some i else lowBit (x / 2) (i + 1) n

/-- A system register that holds a value of its own (R137). -/
def Engine.sreg (e : Engine) (n : Nat) : Nat := (tabGet (if n = 1 then 1 else 0) e.sr n).toNat

/-- The lowest ring whose attention is pending and enabled at core `c` (R155). -/
def State.attention (s : State) (c : Nat) : Option Nat :=
  let e := s.engine c
  match lowBit (s.attnPend c 0 &&& e.sreg 0x22) 0 64 with
  | some r => some r
  | none => lowBit (s.attnPend c 1 &&& e.sreg 0x23) 64 64

/-- PSTATE.IE and PSTATE.EX (R137). -/
def Engine.ie (e : Engine) : Bool := bitAt e.pstate 1
def Engine.ex (e : Engine) : Bool := bitAt e.pstate 2

/-! ### Exceptions of a core (R156 to R161) -/

/-- Core `c` takes an exception: EPC, EPSTATE, PSTATE, ECAUSE, EADDR and EINST are written and the PC goes to EVEC plus
the vector's offset (R159). -/
def State.enterExc (s : State) (c cause : Nat) (imprecise : Bool) (addr : Option Nat) (inst off : Nat) : State :=
  let e := s.engine c
  let set := fun (n v : Nat) (t : Tab Dword) => tabSet t n (BitVec.ofNat 64 v)
  let ec := cause + (if imprecise then 0x100 else 0) + (if e.keeper then 0 else 0x200)
  let sr := set 6 inst (set 4 ec (set 1 5 (set 3 e.pstate (set 2 e.pc e.sr))))
  let sr := match addr with
    | some a => set 5 a sr
    | none => sr
  s.setEngine c { e with sr := sr, pc := (e.sreg 8 + off) % 2 ^ 40, wait := .none }

/-- A synchronous cause: an exception, or a double fault while EX is 1, which halts the core as every halt does (R159, R160,
R175). -/
def State.syncCause (s : State) (c cause : Nat) (addr : Option Nat) (inst : Nat) : State :=
  let e := s.engine c
  if e.ex then (s.haltInto c 3).raise 0x7B e.pc 0 c
  else s.enterExc c cause false addr inst (if e.keeper then 0x100 else 0x000)

/-- The oldest imprecise store refusal of core `c` is taken (R158, R161). EINST holds the word of the store; for a write
whose word the part was not told it is a free value (log entry 2). -/
def State.takeImprecise (s : State) (c : Nat) : State :=
  match (s.engine c).impr with
  | [] => s
  | (a, w) :: r =>
    let (inst, s) := match w with
      | some w => (w, s)
      | none => s.freeVal 32
    let s := s.setEngine c { s.engine c with impr := r }
    s.enterExc c 8 true (some a) inst 0x300

/-- The attention exception (R156, R159). -/
def State.takeAttention (s : State) (c : Nat) : State := s.enterExc c 13 false none 0 0x200

/-! ### The instruction boundary -/

/-- What the ECC finds in the fetch of the instruction at the PC of an engine (R29, R30, R169, R216, R222). -/
def State.fetched (s : State) : Eng → State
  | .core c f => s.applyFind (s.engine c.val).pc c.val f
  | .seq n f => s.seqFind (0x4000 * n.val + (s.engine (16 + n.val)).pc) f

/-- The cause of the fetch at the PC of core `c`, and what the refusal logs; `f` is what the ECC finds there (R30, R156 to
R158). -/
def State.fetchCore (s : State) (c : Nat) (f : MemFind) : Option Nat × State :=
  let pc := (s.engine c).pc
  let (ok, s) := s.initCheck (s.engSrc c) .fetch pc 4
  if !ok then (some 4, s)
  else if s.region pc != .dram && s.region pc != .l2sram then (some 4, s)
  else
    let s := s.applyFind pc c f
    if s.corePoisoned pc 4 then (some 10, s) else (none, s)

/-- Quarters of the CORE clocks in which the sconce cores issue: by SHED_LEVEL 9 to 11, and in RIDE_THROUGH at most 1/2, or CORE_MIN
when that is higher (R500, R504). -/
def State.coreDuty (s : State) : Nat :=
  let d := 12 - max 8 (s.get F.PWR_STATUS_SHED_LEVEL)
  if s.mode = modeRide then min d (max 2 (s.get F.PWR_SHED_CFG_CORE_MIN)) else d

/-- The CORE clock, 4/3 of the PIXEL clock, lies in the part of its 1,024 in which cores issue (R11, R500). -/
def State.dutyOpen (s : State) : Bool := s.time.pix * 4 / 3 % 1024 < 256 * s.coreDuty

/-- Core `c` issues instructions: RUNNING, in no wait, and not about to halt (R173, R175). -/
def State.coreIssues (s : State) (c : Nat) : Bool :=
  s.get (F.CORE_STATE c) = 1 && (s.engine c).wait = .none && (s.engine c).halting = none

/-- What happens on core `c` in place of the next instruction, in the order of R161; `none` when the instruction is
fetched and issues. The word of an instruction whose fetch fails is a free value (log entry 2). A fetch that a change of the L2
stalls waits, and nothing happens (R171). -/
def State.boundaryCore (s : State) (c : Nat) (f : MemFind) : Option State :=
  let e := s.engine c
  if !s.coreIssues c || !s.dutyOpen then some s
  else if !e.impr.isEmpty && !e.ex then some (s.takeImprecise c)
  else if e.ie && (s.attention c).isSome then some (s.takeAttention c)
  else if (s.initCheck (s.engSrc c) .fetch e.pc 4).1 && s.l2Stalls e.pc 4 then some s
  else match s.fetchCore c f with
    | (some cause, s) =>
      let (inst, s) := s.freeVal 32
      some (s.syncCause c cause (some (s.engine c).pc) inst)
    | (none, _) => none

/-- As `boundaryCore` for sequencer `n`; a fetch of a word of local memory with an uncorrectable error gives MEM_ERROR (R211,
R214 to R216). -/
def State.boundarySeq (s : State) (n : Nat) (f : MemFind) : Option State :=
  let e := s.engine (16 + n)
  if s.get (F.SEQN_STATE n) != 1 || e.wait != .none then some s
  else if 0x4000 ≤ e.pc then some (s.seqFault n 4 (some e.pc))
  else
    let s := s.seqFind (0x4000 * n + e.pc) f
    if s.seqBad.contains ((0x4000 * n + e.pc) / 4) then some (s.seqFault n 10 (some e.pc)) else none

def State.boundary (s : State) : Eng → Option State
  | .core c f => s.boundaryCore c.val f
  | .seq n f => s.boundarySeq n.val f

/-! ### Issue and completion -/

/-- The instruction of engine `k` completes and the PC goes to `pc` (R137, R175). -/
def State.retire (s : State) (k pc : Nat) : State :=
  let e := s.engine k
  s.setEngine k { e with pc := pc, retired := (e.retired + 1) % 2 ^ 64 }

/-- A cause that the instruction `word` raises: an exception of a core, a fault of a sequencer (R159, R215). -/
def State.raiseCause (s : State) (e : Eng) (cause : Nat) (addr : Option Nat) (word : Nat) : State :=
  match e with
  | .core c _ => s.syncCause c.val cause addr word
  | .seq n _ => s.seqFault n.val cause addr

/-- A halt that a core's own stores have asked for takes effect when its instruction has completed (R175). -/
def State.settleEng (s : State) : Eng → State
  | .core c _ => s.settleHalt c.val
  | .seq _ _ => s

/-- The outcome of an issued instruction. A halt that its own stores have asked for takes effect also where it goes on waiting
(R175). -/
def State.conclude (e : Eng) (word : Nat) : Act → State
  | .next s => (s.retire (Eng.key e) (((s.engine (Eng.key e)).pc + 4) % 2 ^ 40)).settleEng e
  | .goto pc s => (s.retire (Eng.key e) pc).settleEng e
  | .hold s => s.settleEng e
  | .cause c a s => (s.raiseCause e c a word).settleEng e

/-- The engine executes the instruction (R133, R134, R182). -/
def Who.runs : Who → Eng → Bool
  | .both, _ => true
  | .coreOnly, .core _ _ => true
  | .seqOnly, .seq _ _ => true
  | _, _ => false

/-- The engine runs at Keeper level; a sequencer never does (R137, R454). -/
def State.atKeeper (s : State) : Eng → Bool
  | .core c _ => (s.engine c.val).keeper
  | .seq _ _ => false

/-- What the instruction itself does, ILLEGAL and PRIVILEGE before everything else (R157). -/
def State.actOf (s : State) (e : Eng) (who : Who) (keeperOnly : Bool) (f : State → Act) : Act :=
  if !who.runs e then .cause 1 none s
  else if keeperOnly && !s.atKeeper e then .cause 2 none s
  else f s

/-- The instruction `word` of engine `e` issues: what stands at the boundary comes first, then what the fetch finds. -/
def State.issue (s : State) (e : Eng) (word : Nat) (who : Who) (keeperOnly : Bool) (f : State → Act) : State :=
  match s.boundary e with
  | some t => t
  | none => State.conclude e word ((s.fetched e).actOf e who keeperOnly f)

/-- An instruction that writes `v` into D and has no other effect. -/
def State.issueVal (s : State) (e : Eng) (word : Nat) (who : Who) (d : Nat) (v : State → Dword) : State :=
  s.issue e word who false (fun s => .next (s.setGr (Eng.key e) d (v s)))

/-- What follows once every earlier store of the engine has completed at its target (R150, R154, R165, R187). -/
def State.afterFence (s : State) (e : Eng) (f : State → Act) : Act :=
  match s.fenceAll (Eng.key e) with
  | (true, s) => f s
  | (false, s) => .hold s

/-! ### Attention and refusals that arrive (R158, R161, R195) -/

/-- A wait of the raster group, which an attention ends (R195). -/
def Wait.isRaster : Wait → Bool
  | .line _ _ _ => true
  | .frame _ _ _ _ _ => true
  | .time _ _ => true
  | _ => false

/-- ATTENTION: the router's attention reaches core `c`, at a boundary or in a wait of the raster group (R138, R155, R161,
R195). -/
def State.attentionArrives (s : State) (c : Nat) : State :=
  let e := s.engine c
  if s.get (F.CORE_STATE c) != 1 || e.halting.isSome || !(e.wait = .none || e.wait.isRaster) then s
  else if e.wait = .none && !e.impr.isEmpty && !e.ex then s.takeImprecise c
  else if e.ie && (s.attention c).isSome then s.takeAttention c
  else s

def execAttention (t : Nat) (c : Fin 16) (s : State) : Host.Outcome State Fault Refusal :=
  .next ((s.advance t).attentionArrives c.val)

/-- IMPRECISE_STORE_REFUSAL: at a boundary with EX 0 the oldest one is taken (R158, R161). -/
def State.impreciseArrives (s : State) (c : Nat) : State :=
  if s.coreIssues c && !(s.engine c).impr.isEmpty && !(s.engine c).ex then s.takeImprecise c else s

def execImpreciseStoreRefusal (t : Nat) (c : Fin 16) (s : State) : Host.Outcome State Fault Refusal :=
  .next ((s.advance t).impreciseArrives c.val)

/-! ### Words that no engine, or not this one, executes (R133, R134, R140, R182) -/

/-- A system register number of R137. -/
def srKnown (n : Nat) : Bool :=
  [0, 1, 2, 3, 4, 5, 6, 8, 0xA, 0xB, 0x10, 0x11, 0x12, 0x13, 0x20, 0x21, 0x22, 0x23].contains n

/-- The system word is one that a core executes (R137, R151). -/
def sysKnown (sub sr : Nat) : Bool :=
  match sub with
  | 0 => srKnown sr
  | 1 => srKnown sr
  | 2 => srKnown sr
  | 3 => srKnown sr
  | 4 => true
  | 5 => true
  | 6 => true
  | 7 => sr ≤ 1
  | 8 => sr ≤ 2
  | 10 => true
  | 11 => true
  | _ => false

/-- The function of an integer word, and whether a line sequencer lacks it (R134, R141). -/
def fnKnown (fn : Nat) : Bool :=
  fn ≤ 0x12 || (0x14 ≤ fn && fn ≤ 0x17) || fn = 0x20 || fn = 0x21 || (0x25 ≤ fn && fn ≤ 0x27) || fn = 0x30 ||
    fn = 0x38 || fn = 0x39 || (0x40 ≤ fn && fn ≤ 0x42)
def fnDivides (fn : Nat) : Bool := 0x14 ≤ fn && fn ≤ 0x17

/-- The engine executes the word `w`. -/
def executes (core : Bool) (w : Nat) : Bool :=
  let maj := bits w 26 6
  let fn := bits w 0 11
  if maj = 0x01 then fnKnown fn && (core || !fnDivides fn)
  else if maj = 0x09 then !shiftBad (BitVec.ofNat 16 (bits w 0 16))
  else if (0x02 ≤ maj && maj ≤ 0x0C) || (0x10 ≤ maj && maj ≤ 0x16) || (0x18 ≤ maj && maj ≤ 0x1B) || (0x20 ≤ maj && maj ≤ 0x28) then true
  else if maj = 0x2C then core && fn < 32 && fn % 16 ≤ 10
  else if maj = 0x30 then
    let sub := bits w 12 4
    let sr := bits w 0 12
    if core then sysKnown sub sr else sub = 5 || (sub = 7 && sr = 0)
  else if maj = 0x34 then core && fn ≤ 3
  else if maj = 0x38 then fn ≤ 3
  else if maj = 0x39 then fn ≤ 2
  else if maj = 0x3A then fn ≤ 1
  else if maj = 0x3B then !core && bits w 14 2 = 0
  else if maj = 0x3C then core && fn ≤ 2
  else if maj = 0x3D then core && fn ≤ 3
  else false

/-- ILLEGAL_INSTRUCTION: the engine meets a word that it does not execute (R140, R156). A word that it executes is no
such event. -/
def execIllegalInstruction (e : Eng) (w : Word) (s : State) : Host.Outcome State Fault Refusal :=
  .next (if executes (Eng.isCore e) w.toNat then s
    else s.issue e w.toNat .both false (fun s => .cause 1 none s))

end Sys2Proof.Machine
end

