-- ==== Sys2Proof/Machine/Atomic.lean ====
section
/-! DEFINITION. The atomic group (R149, R150, R157, R158). -/
namespace Sys2Proof.Machine

/-- The cause of an atomic that protection refuses: LOAD_REFUSED where reading is forbidden, else STORE_REFUSED (log entry
50). -/
def State.atomicRefused (s : State) (src : Src) (a w : Nat) : Nat := if (s.firstBad src .read a w).isSome then 7 else 8

/-- An atomic of `w` bytes at address `a`, performed at the L2, a fence before and after itself (R149, R150). -/
def State.atomic (s : State) (e : Eng) (op d a w : Nat) (b : Dword) (find : MemFind) : Act :=
  let k := Eng.key e
  match addrCause a w with
  | some c => .cause c (some a) s
  | none =>
    if s.region a != .dram && s.region a != .l2sram then .cause 9 (some a) s
    else
      let x := s.tagged (s.engSrc k) .atomic a w []
      let (ok, s) := s.initCheck x.src .atomic a w
      if !ok then .cause (s.atomicRefused x.src a w) (some a) s
      else s.afterFence e (fun s =>
        let (ok, s) := s.tgtCheck x
        if !ok then .cause (s.atomicRefused x.src a w) (some a) s
        else if s.l2Stalls a w then .hold s
        else
          let s := s.applyFind a k find
          if s.corePoisoned a w then .cause 10 (some a) s
          else
            let old := leNat (s.coreRead a w)
            let s := match atomicNew op (8 * w) old b.toNat (s.gr k d).toNat with
              | some v => s.coreWrite k a (leBytes v w)
              | none => s
            .next (s.setGr k d (BitVec.ofNat 64 old)))

/-- An atomic instruction: FN [4] selects the width (R149). -/
def State.atomicOp (s : State) (e : Eng) (op : Nat) (d a b : Fin 32) (w64 : Bool) (find : MemFind) : State :=
  s.issue e (wordT 0x2C d a b (op + (if w64 then 16 else 0))) .coreOnly false (fun s =>
    s.atomic e op d.val (s.gr (Eng.key e) a.val).toNat (if w64 then 8 else 4) (s.gr (Eng.key e) b.val) find)

def execAtSwap (e : Eng) (d a b : Fin 32) (w64 : Bool) (find : MemFind) (s : State) : Host.Outcome State Fault Refusal :=
  .next (s.atomicOp e 0 d a b w64 find)

def execAtAdd (e : Eng) (d a b : Fin 32) (w64 : Bool) (find : MemFind) (s : State) : Host.Outcome State Fault Refusal :=
  .next (s.atomicOp e 1 d a b w64 find)

def execAtAnd (e : Eng) (d a b : Fin 32) (w64 : Bool) (find : MemFind) (s : State) : Host.Outcome State Fault Refusal :=
  .next (s.atomicOp e 2 d a b w64 find)

def execAtOr (e : Eng) (d a b : Fin 32) (w64 : Bool) (find : MemFind) (s : State) : Host.Outcome State Fault Refusal :=
  .next (s.atomicOp e 3 d a b w64 find)

def execAtXor (e : Eng) (d a b : Fin 32) (w64 : Bool) (find : MemFind) (s : State) : Host.Outcome State Fault Refusal :=
  .next (s.atomicOp e 4 d a b w64 find)

def execAtMins (e : Eng) (d a b : Fin 32) (w64 : Bool) (find : MemFind) (s : State) : Host.Outcome State Fault Refusal :=
  .next (s.atomicOp e 5 d a b w64 find)

def execAtMaxs (e : Eng) (d a b : Fin 32) (w64 : Bool) (find : MemFind) (s : State) : Host.Outcome State Fault Refusal :=
  .next (s.atomicOp e 6 d a b w64 find)

def execAtMinu (e : Eng) (d a b : Fin 32) (w64 : Bool) (find : MemFind) (s : State) : Host.Outcome State Fault Refusal :=
  .next (s.atomicOp e 7 d a b w64 find)

def execAtMaxu (e : Eng) (d a b : Fin 32) (w64 : Bool) (find : MemFind) (s : State) : Host.Outcome State Fault Refusal :=
  .next (s.atomicOp e 8 d a b w64 find)

def execAtCas (e : Eng) (d a b : Fin 32) (w64 : Bool) (find : MemFind) (s : State) : Host.Outcome State Fault Refusal :=
  .next (s.atomicOp e 9 d a b w64 find)

def execAtSadd (e : Eng) (d a b : Fin 32) (w64 : Bool) (find : MemFind) (s : State) : Host.Outcome State Fault Refusal :=
  .next (s.atomicOp e 10 d a b w64 find)

end Sys2Proof.Machine
end

