-- ==== Sys2Proof/Machine/Branch.lean ====
section
/-! DEFINITION. The branch group (R147, R148). -/
namespace Sys2Proof.Machine

/-- A branch of format B: to its own address plus 4 × OFF16 when the condition holds (R147). -/
def State.branch (s : State) (e : Eng) (maj : Nat) (a b : Fin 32) (off : BitVec 16) (p : Dword → Dword → Bool) : State :=
  s.issue e (wordB maj a b off) .both false (fun s =>
    let k := Eng.key e
    if p (s.gr k a.val) (s.gr k b.val) then .goto (pcPlus (s.engine k).pc off.toInt) s else .next s)

def execBraEq (e : Eng) (a b : Fin 32) (off : BitVec 16) (s : State) : Host.Outcome State Fault Refusal :=
  .next (s.branch e 0x20 a b off (fun x y => x == y))

def execBraNe (e : Eng) (a b : Fin 32) (off : BitVec 16) (s : State) : Host.Outcome State Fault Refusal :=
  .next (s.branch e 0x21 a b off (fun x y => x != y))

def execBraLt (e : Eng) (a b : Fin 32) (off : BitVec 16) (s : State) : Host.Outcome State Fault Refusal :=
  .next (s.branch e 0x22 a b off (fun x y => decide (x.toInt < y.toInt)))

def execBraGe (e : Eng) (a b : Fin 32) (off : BitVec 16) (s : State) : Host.Outcome State Fault Refusal :=
  .next (s.branch e 0x23 a b off (fun x y => decide (y.toInt ≤ x.toInt)))

def execBraLtu (e : Eng) (a b : Fin 32) (off : BitVec 16) (s : State) : Host.Outcome State Fault Refusal :=
  .next (s.branch e 0x24 a b off (fun x y => decide (x.toNat < y.toNat)))

def execBraGeu (e : Eng) (a b : Fin 32) (off : BitVec 16) (s : State) : Host.Outcome State Fault Refusal :=
  .next (s.branch e 0x25 a b off (fun x y => decide (y.toNat ≤ x.toNat)))

def execJmp (e : Eng) (off : BitVec 26) (s : State) : Host.Outcome State Fault Refusal :=
  .next (s.issue e (wordJ 0x26 off) .both false (fun s => .goto (pcPlus (s.engine (Eng.key e)).pc off.toInt) s))

/-- The address after the instruction, as `call` and `callr` write it (R147). -/
def State.linkOf (s : State) (k : Nat) : Dword := BitVec.ofNat 64 (pcPlus (s.engine k).pc 1)

def execCall (e : Eng) (off : BitVec 26) (s : State) : Host.Outcome State Fault Refusal :=
  .next (s.issue e (wordJ 0x27 off) .both false (fun s =>
    let k := Eng.key e
    .goto (pcPlus (s.engine k).pc off.toInt) (s.setGr k linkReg (s.linkOf k))))

/-- `callr`: A is read before D is written; a target out of range or not aligned raises its cause at the `callr` (R147,
R148). -/
def execCallr (e : Eng) (d a : Fin 32) (imm : BitVec 16) (s : State) : Host.Outcome State Fault Refusal :=
  .next (s.issue e (wordI 0x28 d a imm) .both false (fun s =>
    let k := Eng.key e
    let t := (s.gr k a.val + (sx16 imm <<< 2)).toNat
    if t % 4 ≠ 0 then .cause 3 (some t) s
    else if 2 ^ 40 ≤ t then .cause 5 (some t) s
    else .goto t (s.setGr k d.val (s.linkOf k))))

end Sys2Proof.Machine
end

