-- ==== Sys2Proof/Machine/Immediate.lean ====
section
/-! DEFINITION. The immediate group (R143). -/
namespace Sys2Proof.Machine

/-- An instruction of format I: D receives `f` of A (R143). -/
def State.immOp (s : State) (e : Eng) (maj : Nat) (d a : Fin 32) (imm : BitVec 16) (f : Dword → Dword) : State :=
  s.issueVal e (wordI maj d a imm) .both d.val (fun s => f (s.gr (Eng.key e) a.val))

def execAddk (e : Eng) (d a : Fin 32) (imm : BitVec 16) (s : State) : Host.Outcome State Fault Refusal :=
  .next (s.immOp e 0x02 d a imm (fun x => x + sx16 imm))

def execAddk32 (e : Eng) (d a : Fin 32) (imm : BitVec 16) (s : State) : Host.Outcome State Fault Refusal :=
  .next (s.immOp e 0x03 d a imm (fun x => op32 (fun p q => p + q) x (sx16 imm)))

def execAndk (e : Eng) (d a : Fin 32) (imm : BitVec 16) (s : State) : Host.Outcome State Fault Refusal :=
  .next (s.immOp e 0x04 d a imm (fun x => x &&& zx16 imm))

def execOrk (e : Eng) (d a : Fin 32) (imm : BitVec 16) (s : State) : Host.Outcome State Fault Refusal :=
  .next (s.immOp e 0x05 d a imm (fun x => x ||| zx16 imm))

def execXork (e : Eng) (d a : Fin 32) (imm : BitVec 16) (s : State) : Host.Outcome State Fault Refusal :=
  .next (s.immOp e 0x06 d a imm (fun x => x ^^^ zx16 imm))

def execLtk (e : Eng) (d a : Fin 32) (imm : BitVec 16) (s : State) : Host.Outcome State Fault Refusal :=
  .next (s.immOp e 0x07 d a imm (fun x => flag (decide (x.toInt < (sx16 imm).toInt))))

def execLtuk (e : Eng) (d a : Fin 32) (imm : BitVec 16) (s : State) : Host.Outcome State Fault Refusal :=
  .next (s.immOp e 0x08 d a imm (fun x => flag (decide (x.toNat < (sx16 imm).toNat))))

def execAddh (e : Eng) (d a : Fin 32) (imm : BitVec 16) (s : State) : Host.Outcome State Fault Refusal :=
  .next (s.immOp e 0x0B d a imm (fun x => x + (sx16 imm <<< 32)))

/-- A shift by an immediate: kind `k` is 0 `shlk`, 1 `shrk`, 2 `sark`, 3 `rolk`; a reserved immediate is ILLEGAL (R143). -/
def State.shiftOp (s : State) (e : Eng) (k : Nat) (d a : Fin 32) (imm : BitVec 16) : State :=
  s.issue e (wordI 0x09 d a (shiftImm k imm)) .both false (fun s =>
    if shiftBad imm then .cause 1 none s
    else .next (s.setGr (Eng.key e) d.val (shiftBy k (s.gr (Eng.key e) a.val) imm)))

def execShlk (e : Eng) (d a : Fin 32) (imm : BitVec 16) (s : State) : Host.Outcome State Fault Refusal :=
  .next (s.shiftOp e 0 d a imm)

def execShrk (e : Eng) (d a : Fin 32) (imm : BitVec 16) (s : State) : Host.Outcome State Fault Refusal :=
  .next (s.shiftOp e 1 d a imm)

def execSark (e : Eng) (d a : Fin 32) (imm : BitVec 16) (s : State) : Host.Outcome State Fault Refusal :=
  .next (s.shiftOp e 2 d a imm)

def execRolk (e : Eng) (d a : Fin 32) (imm : BitVec 16) (s : State) : Host.Outcome State Fault Refusal :=
  .next (s.shiftOp e 3 d a imm)

def execSetu (e : Eng) (d : Fin 32) (imm : BitVec 21) (s : State) : Host.Outcome State Fault Refusal :=
  .next (s.issueVal e (wordU 0x0A d imm) .both d.val (fun _ => sx21 imm <<< 16))

/-- `pcrel`: the instruction's own address plus 4 × IMM21 (R143). -/
def execPcrel (e : Eng) (d : Fin 32) (imm : BitVec 21) (s : State) : Host.Outcome State Fault Refusal :=
  .next (s.issueVal e (wordU 0x0C d imm) .both d.val (fun s => BitVec.ofNat 64 (s.engine (Eng.key e)).pc + (sx21 imm <<< 2)))

end Sys2Proof.Machine
end

