-- ==== Sys2Proof/Machine/Integer.lean ====
section
/-! DEFINITION. The integer group (R141, R142). -/
namespace Sys2Proof.Machine

/-- An integer instruction: D receives `f` of A and B (R141). -/
def State.intOp (s : State) (e : Eng) (fn : Nat) (who : Who) (d a b : Fin 32) (f : Dword → Dword → Dword) : State :=
  s.issueVal e (wordT 0x01 d a b fn) who d.val (fun s => f (s.gr (Eng.key e) a.val) (s.gr (Eng.key e) b.val))

def execAdd (e : Eng) (d a b : Fin 32) (s : State) : Host.Outcome State Fault Refusal :=
  .next (s.intOp e 0x000 .both d a b (fun x y => x + y))

def execSub (e : Eng) (d a b : Fin 32) (s : State) : Host.Outcome State Fault Refusal :=
  .next (s.intOp e 0x001 .both d a b (fun x y => x - y))

def execAnd (e : Eng) (d a b : Fin 32) (s : State) : Host.Outcome State Fault Refusal :=
  .next (s.intOp e 0x002 .both d a b (fun x y => x &&& y))

def execOr (e : Eng) (d a b : Fin 32) (s : State) : Host.Outcome State Fault Refusal :=
  .next (s.intOp e 0x003 .both d a b (fun x y => x ||| y))

def execXor (e : Eng) (d a b : Fin 32) (s : State) : Host.Outcome State Fault Refusal :=
  .next (s.intOp e 0x004 .both d a b (fun x y => x ^^^ y))

def execShl (e : Eng) (d a b : Fin 32) (s : State) : Host.Outcome State Fault Refusal :=
  .next (s.intOp e 0x005 .both d a b (fun x y => x <<< (y.toNat % 64)))

def execShr (e : Eng) (d a b : Fin 32) (s : State) : Host.Outcome State Fault Refusal :=
  .next (s.intOp e 0x006 .both d a b (fun x y => x >>> (y.toNat % 64)))

def execSar (e : Eng) (d a b : Fin 32) (s : State) : Host.Outcome State Fault Refusal :=
  .next (s.intOp e 0x007 .both d a b (fun x y => x.sshiftRight (y.toNat % 64)))

def execLt (e : Eng) (d a b : Fin 32) (s : State) : Host.Outcome State Fault Refusal :=
  .next (s.intOp e 0x008 .both d a b (fun x y => flag (decide (x.toInt < y.toInt))))

def execLtu (e : Eng) (d a b : Fin 32) (s : State) : Host.Outcome State Fault Refusal :=
  .next (s.intOp e 0x009 .both d a b (fun x y => flag (decide (x.toNat < y.toNat))))

def execMins (e : Eng) (d a b : Fin 32) (s : State) : Host.Outcome State Fault Refusal :=
  .next (s.intOp e 0x00A .both d a b (fun x y => if x.toInt ≤ y.toInt then x else y))

def execMaxs (e : Eng) (d a b : Fin 32) (s : State) : Host.Outcome State Fault Refusal :=
  .next (s.intOp e 0x00B .both d a b (fun x y => if x.toInt ≤ y.toInt then y else x))

def execMinu (e : Eng) (d a b : Fin 32) (s : State) : Host.Outcome State Fault Refusal :=
  .next (s.intOp e 0x00C .both d a b (fun x y => if x.toNat ≤ y.toNat then x else y))

def execMaxu (e : Eng) (d a b : Fin 32) (s : State) : Host.Outcome State Fault Refusal :=
  .next (s.intOp e 0x00D .both d a b (fun x y => if x.toNat ≤ y.toNat then y else x))

def execAndn (e : Eng) (d a b : Fin 32) (s : State) : Host.Outcome State Fault Refusal :=
  .next (s.intOp e 0x00E .both d a b (fun x y => x &&& ~~~y))

def execRol (e : Eng) (d a b : Fin 32) (s : State) : Host.Outcome State Fault Refusal :=
  .next (s.intOp e 0x00F .both d a b (fun x y => rolOf x (y.toNat % 64)))

def execMul (e : Eng) (d a b : Fin 32) (s : State) : Host.Outcome State Fault Refusal :=
  .next (s.intOp e 0x010 .both d a b (fun x y => x * y))

def execMulhs (e : Eng) (d a b : Fin 32) (s : State) : Host.Outcome State Fault Refusal :=
  .next (s.intOp e 0x011 .both d a b (fun x y => BitVec.ofInt 64 (x.toInt * y.toInt / 2 ^ 64)))

def execMulhu (e : Eng) (d a b : Fin 32) (s : State) : Host.Outcome State Fault Refusal :=
  .next (s.intOp e 0x012 .both d a b (fun x y => BitVec.ofNat 64 (x.toNat * y.toNat / 2 ^ 64)))

/-- A / B signed, rounded toward zero; it saturates (R142). -/
def execQuos (e : Eng) (d a b : Fin 32) (s : State) : Host.Outcome State Fault Refusal :=
  .next (s.intOp e 0x014 .coreOnly d a b (fun x y => quosOf x y))

/-- A / B unsigned (R142). -/
def execQuou (e : Eng) (d a b : Fin 32) (s : State) : Host.Outcome State Fault Refusal :=
  .next (s.intOp e 0x015 .coreOnly d a b (fun x y => quouOf x y))

/-- The remainder of `quos`, with the sign of A (R142). -/
def execMods (e : Eng) (d a b : Fin 32) (s : State) : Host.Outcome State Fault Refusal :=
  .next (s.intOp e 0x016 .coreOnly d a b (fun x y => modsOf x y))

/-- The remainder of `quou` (R142). -/
def execModu (e : Eng) (d a b : Fin 32) (s : State) : Host.Outcome State Fault Refusal :=
  .next (s.intOp e 0x017 .coreOnly d a b (fun x y => moduOf x y))

def execAdd32 (e : Eng) (d a b : Fin 32) (s : State) : Host.Outcome State Fault Refusal :=
  .next (s.intOp e 0x020 .both d a b (fun x y => op32 (fun p q => p + q) x y))

def execSub32 (e : Eng) (d a b : Fin 32) (s : State) : Host.Outcome State Fault Refusal :=
  .next (s.intOp e 0x021 .both d a b (fun x y => op32 (fun p q => p - q) x y))

def execShl32 (e : Eng) (d a b : Fin 32) (s : State) : Host.Outcome State Fault Refusal :=
  .next (s.intOp e 0x025 .both d a b (fun x y => op32 (fun p q => p <<< (q.toNat % 32)) x y))

def execShr32 (e : Eng) (d a b : Fin 32) (s : State) : Host.Outcome State Fault Refusal :=
  .next (s.intOp e 0x026 .both d a b (fun x y => op32 (fun p q => p >>> (q.toNat % 32)) x y))

def execSar32 (e : Eng) (d a b : Fin 32) (s : State) : Host.Outcome State Fault Refusal :=
  .next (s.intOp e 0x027 .both d a b (fun x y => op32 (fun p q => p.sshiftRight (q.toNat % 32)) x y))

def execMul32 (e : Eng) (d a b : Fin 32) (s : State) : Host.Outcome State Fault Refusal :=
  .next (s.intOp e 0x030 .both d a b (fun x y => op32 (fun p q => p * q) x y))

def execSext32 (e : Eng) (d a b : Fin 32) (s : State) : Host.Outcome State Fault Refusal :=
  .next (s.intOp e 0x038 .both d a b (fun x _ => (x.setWidth 32).signExtend 64))

def execBswap (e : Eng) (d a b : Fin 32) (s : State) : Host.Outcome State Fault Refusal :=
  .next (s.intOp e 0x039 .both d a b (fun x _ => bswapOf x))

def execLzc (e : Eng) (d a b : Fin 32) (s : State) : Host.Outcome State Fault Refusal :=
  .next (s.intOp e 0x040 .both d a b (fun x _ => BitVec.ofNat 64 (lzcOf x.toNat 64)))

def execTzc (e : Eng) (d a b : Fin 32) (s : State) : Host.Outcome State Fault Refusal :=
  .next (s.intOp e 0x041 .both d a b (fun x _ => BitVec.ofNat 64 (tzcOf x.toNat 64)))

def execOnes (e : Eng) (d a b : Fin 32) (s : State) : Host.Outcome State Fault Refusal :=
  .next (s.intOp e 0x042 .both d a b (fun x _ => BitVec.ofNat 64 (popCount x.toNat 64)))

end Sys2Proof.Machine
end

