-- ==== Sys2Proof/Machine/LoadStore.lean ====
section
/-! DEFINITION. The load and store group (R144 to R146, R157, R158, R163 to R169, R211, R216). -/
namespace Sys2Proof.Machine

/-! ### Loads -/

/-- Every byte of a load of core `k` comes from its own stores in flight (R163). -/
def State.allForwarded (s : State) (k a w : Nat) : Bool :=
  (List.range w).all (fun i => (flightByte k (a + i) s.bus.inflight).isSome)

/-- A load of normal memory by core `k`: its own latest stores are seen (R163); an L2 miss may stall it (R171). -/
def State.loadNormal (s : State) (k d a w : Nat) (signed : Bool) (find : MemFind) : Act :=
  if s.l2Stalls a w && !s.allForwarded k a w then .hold s else
  let s := s.applyFind a k find
  if s.loadPoison k a w then .cause 10 (some a) s
  else .next (s.setGr k d (loadExt signed w (leNat (s.loadBytes k a w))))

/-- A load past the caches of a register or of memory by engine `k`, after its earlier uncached stores: the target checks
it again (R25, R164, R463). -/
def State.loadUncached (s : State) (k d a w : Nat) (signed : Bool) (find : MemFind) : Act :=
  if k < 16 && s.l2Stalls a w then .hold s else
  let x := s.tagged (s.engSrc k) .read a w []
  match s.complete k (fun y => k ≥ 16 || !s.isNormal y.addr) with
  | (false, s) => .hold s
  | (true, s) =>
    let (ok, s) := s.tgtCheck x
    if !ok then .cause 7 (some a) s
    else if (s.region a).isReg then
      let (v, s) := (s.seqFinds (regKey a) w [(0, find)]).regReadN x.src (regKey a) w
      .next (s.setGr k d (loadExt signed w v))
    else
      let s := s.applyFind a k find
      if s.poisoned a w then .cause 10 (some a) s
      else .next (s.setGr k d (loadExt signed w (leNat (cellRead 0 s.mem a w))))

/-- A load of local memory by a line sequencer, with what its ECC finds (R211, R216). -/
def State.loadLocal (s : State) (k d a w : Nat) (signed : Bool) (find : MemFind) : Act :=
  let s := s.seqFind (localAddr k a) find
  if s.seqBadAt (localAddr k a) w then .cause 10 (some a) s
  else .next (s.setGr k d (loadExt signed w (leNat (cellRead 0 s.seqMem (localAddr k a) w))))

/-- A load of `w` bytes at address `a` into register `d` (R144 to R146, R157, R158, R211). -/
def State.load (s : State) (e : Eng) (d a w : Nat) (signed : Bool) (find : MemFind) : Act :=
  let k := Eng.key e
  match addrCause a w, e with
  | some c, _ => .cause c (some a) s
  | none, .core _ _ =>
    let (ok, s) := s.initCheck (s.engSrc k) .read a w
    if !ok then .cause 7 (some a) s
    else if s.isNormal a then s.loadNormal k d a w signed find
    else s.loadUncached k d a w signed find
  | none, .seq _ _ =>
    if a < 0x4000 then s.loadLocal k d a w signed find
    else if s.region a != .regs then .cause 7 (some a) s
    else
      let (ok, s) := s.initCheck (s.engSrc k) .read a w
      if !ok then .cause 7 (some a) s else s.loadUncached k d a w signed find

/-- A load instruction (R144). -/
def State.loadOp (s : State) (e : Eng) (maj : Nat) (d a : Fin 32) (imm : BitVec 16) (w : Nat) (signed : Bool) (find : MemFind) :
    State :=
  s.issue e (wordI maj d a imm) .both false (fun s => s.load e d.val (s.effAddr (Eng.key e) a.val imm) w signed find)

def execLdS8 (e : Eng) (d a : Fin 32) (imm : BitVec 16) (find : MemFind) (s : State) : Host.Outcome State Fault Refusal :=
  .next (s.loadOp e 0x10 d a imm 1 true find)

def execLdS16 (e : Eng) (d a : Fin 32) (imm : BitVec 16) (find : MemFind) (s : State) : Host.Outcome State Fault Refusal :=
  .next (s.loadOp e 0x11 d a imm 2 true find)

def execLdS32 (e : Eng) (d a : Fin 32) (imm : BitVec 16) (find : MemFind) (s : State) : Host.Outcome State Fault Refusal :=
  .next (s.loadOp e 0x12 d a imm 4 true find)

def execLd64 (e : Eng) (d a : Fin 32) (imm : BitVec 16) (find : MemFind) (s : State) : Host.Outcome State Fault Refusal :=
  .next (s.loadOp e 0x13 d a imm 8 false find)

def execLdU8 (e : Eng) (d a : Fin 32) (imm : BitVec 16) (find : MemFind) (s : State) : Host.Outcome State Fault Refusal :=
  .next (s.loadOp e 0x14 d a imm 1 false find)

def execLdU16 (e : Eng) (d a : Fin 32) (imm : BitVec 16) (find : MemFind) (s : State) : Host.Outcome State Fault Refusal :=
  .next (s.loadOp e 0x15 d a imm 2 false find)

def execLdU32 (e : Eng) (d a : Fin 32) (imm : BitVec 16) (find : MemFind) (s : State) : Host.Outcome State Fault Refusal :=
  .next (s.loadOp e 0x16 d a imm 4 false find)

/-! ### Stores -/

/-- A store that has passed its initiator's check waits for its target (R158, R163, R466). -/
def State.launchStore (s : State) (k a : Nat) (bytes : List Byte) (word : Nat) : State :=
  { s with bus := { s.bus with inflight := s.bus.inflight ++ [s.tagged (s.engSrc k) .write a bytes.length bytes (some word) (s.engine k).pc] } }

/-- A store of the low `w` bytes of `v` at address `a` (R144 to R146, R157, R158, R211). -/
def State.store (s : State) (e : Eng) (a w : Nat) (v : Dword) (word : Nat) : Act :=
  let k := Eng.key e
  let bytes := leBytes v.toNat w
  match addrCause a w, e with
  | some c, _ => .cause c (some a) s
  | none, .core _ _ =>
    let (ok, s) := s.initCheck (s.engSrc k) .write a w
    if !ok then .cause 8 (some a) s else .next (s.launchStore k a bytes word)
  | none, .seq _ _ =>
    if a < 0x4000 then .next (s.seqWrite (localAddr k a) bytes)
    else if s.region a != .regs then .cause 8 (some a) s
    else
      let (ok, s) := s.initCheck (s.engSrc k) .write a w
      if !ok then .cause 8 (some a) s else .next (s.launchStore k a bytes word)

/-- A store instruction (R144). -/
def State.storeOp (s : State) (e : Eng) (maj : Nat) (d a : Fin 32) (imm : BitVec 16) (w : Nat) : State :=
  s.issue e (wordI maj d a imm) .both false (fun s =>
    s.store e (s.effAddr (Eng.key e) a.val imm) w (s.gr (Eng.key e) d.val) (wordI maj d a imm))

def execSt8 (e : Eng) (d a : Fin 32) (imm : BitVec 16) (s : State) : Host.Outcome State Fault Refusal :=
  .next (s.storeOp e 0x18 d a imm 1)

def execSt16 (e : Eng) (d a : Fin 32) (imm : BitVec 16) (s : State) : Host.Outcome State Fault Refusal :=
  .next (s.storeOp e 0x19 d a imm 2)

def execSt32 (e : Eng) (d a : Fin 32) (imm : BitVec 16) (s : State) : Host.Outcome State Fault Refusal :=
  .next (s.storeOp e 0x1A d a imm 4)

def execSt64 (e : Eng) (d a : Fin 32) (imm : BitVec 16) (s : State) : Host.Outcome State Fault Refusal :=
  .next (s.storeOp e 0x1B d a imm 8)

end Sys2Proof.Machine
end

