-- ==== Sys2Proof/Machine/Media.lean ====
section
/-! DEFINITION. The media group (R206 to R210). -/
namespace Sys2Proof.Machine

/-- What a media instruction of core `k` does with the `n` bytes at `a`: `f` of them, or the cause that meets it. A read past the
caches follows the core's earlier accesses past the caches, and its target checks it again (R31, R156, R158, R164, R463); a
change of the L2 may stall it (R171). -/
def State.mediaRead (s : State) (k a n : Nat) (f : State → List Byte → Act) : Act :=
  let x := s.tagged (s.engSrc k) .read a n []
  let (ok, s) := s.initCheck x.src .read a n
  if !ok then .cause 7 (some a) s
  else if s.l2Stalls a n then .hold s
  else if s.isNormal a then (if s.loadPoison k a n then .cause 10 (some a) s else f s (s.loadBytes k a n))
  else match s.complete k (fun y => !s.isNormal y.addr) with
    | (false, s) => .hold s
    | (true, s) =>
      let (ok, s) := s.tgtCheck x
      if !ok then .cause 7 (some a) s
      else if s.poisoned a n then .cause 10 (some a) s
      else f s (cellRead 0 s.mem a n)

/-- The tag buffer of core `k` made `bs` (R207). -/
def State.setTb32 (s : State) (k : Nat) (bs : List Byte) : State := s.setEngine k { s.engine k with tb := bs }

/-- The tag at `a` read by core `k`, then `f` of its bytes (R206, R207); a change of the L2 may stall it (R171). -/
def State.tagRead (s : State) (k a : Nat) (f : State → List Byte → Act) : Act :=
  match addrCause a 32 with
  | some c => .cause c (some a) s
  | none =>
    if s.region a != .dram && s.region a != .fsram then .cause 7 (some a) s
    else s.mediaRead k a 32 f

/-- Doubleword `j` of 32 bytes. -/
def tbWord (bs : List Byte) (j : Nat) : Dword := BitVec.ofNat 64 (leNat (slice bs (8 * j) 8))

/-- `tagld` (R207). -/
def execTagld (e : Eng) (d a b : Fin 32) (s : State) : Host.Outcome State Fault Refusal :=
  .next (s.issue e (wordT 0x3C d a b 0) .coreOnly false (fun s =>
    let k := Eng.key e
    let x := (s.gr k b.val).toNat
    if bitAt x 2 then .next (s.setGr k d.val (tbWord (s.engine k).tb (bits x 0 2)))
    else s.tagRead k (s.gr k a.val).toNat (fun s bs => .next ((s.setTb32 k bs).setGr k d.val (tbWord bs (bits x 0 2))))))

/-- AGE of `tagchk`: STAMP32 rounded up, less STAMP32 of CAPTURE rounded down (R208). -/
def State.tagAge (s : State) (t : Tag) : Nat := (dispStamp s.time64 + 2 ^ 32 - t.capture / 1000 % 2 ^ 32) % 2 ^ 32

/-- The word that `tagchk` writes (R208). -/
def State.tagWord (s : State) (t : Tag) (sentinel : Bool) : Nat :=
  let b := fun (x : Bool) (i : Nat) => if x then 2 ^ i else 0
  b t.checkOk 0 + b t.fieldsOk 1 + b sentinel 2 + b t.impaired 3 + b t.skipall 4 + b t.rap 5 + b (t.tepoch = s.epoch) 6 +
    (if t.checkOk then s.tagAge t * 2 ^ 32 else 0)

/-- `tagchk` of a tag read: the sentinels are read when CHECK and the fields are right (R48, R171, R208). -/
def State.tagJudge (s : State) (k d : Nat) (bs : List Byte) : Act :=
  let t := tagOf bs
  if !t.ok then .next ((s.setTb32 k bs).setGr k d (BitVec.ofNat 64 (s.tagWord t false)))
  else s.mediaRead k (topRow t) 16 (fun s x => s.mediaRead k (bottomRow t) 16 (fun s y =>
    .next ((s.setTb32 k bs).setGr k d (BitVec.ofNat 64 (s.tagWord t (sentinelOk t 0xA1 x && sentinelOk t 0xB2 y))))))

def execTagchk (e : Eng) (d a : Fin 32) (s : State) : Host.Outcome State Fault Refusal :=
  .next (s.issue e (wordT 0x3C d a 0 1) .coreOnly false (fun s =>
    let k := Eng.key e
    s.tagRead k (s.gr k a.val).toNat (fun s bs => s.tagJudge k d.val bs)))

/-- `crc`: the low bytes of B into the CRC-32C state in A (R209). -/
def execCrc (e : Eng) (d a b : Fin 32) (n : Fin 4) (s : State) : Host.Outcome State Fault Refusal :=
  .next (s.issueVal e (wordT 0x3D d a b n.val) .coreOnly d.val (fun s =>
    let k := Eng.key e
    BitVec.ofNat 64 (crc32cFrom ((s.gr k a.val).toNat % 2 ^ 32) (leBytes (s.gr k b.val).toNat (2 ^ n.val)))))

/-- `scan`: the descriptor's line is written back and the job submitted (R187, R210). -/
def execScan (e : Eng) (d a b : Fin 32) (s : State) : Host.Outcome State Fault Refusal :=
  .next (s.issue e (wordT 0x3C d a b 2) .coreOnly false (fun s => s.afterFence e (fun s =>
    let k := Eng.key e
    let x := (s.gr k a.val).toNat
    match addrCause x 32 with
    | some c => .cause c (some x) s
    | none =>
      let s := s.cleanLine x
      let (st, s) := s.chkSubmit (s.engSrc k) x (s.gr k b.val).toNat
      .next (s.setGr k d.val (BitVec.ofNat 64 st)))))

end Sys2Proof.Machine
end

