-- ==== Sys2Proof/Machine/RingGroup.lean ====
section
/-! DEFINITION. The ring group (R153 to R155, R458, R469, R471). -/
namespace Sys2Proof.Machine

/-- A ring instruction: B names the ring, above 127 it gives status 3; it is a fence before and after itself (R153, R154). -/
def State.ringOp (s : State) (e : Eng) (fn : Nat) (d a b : Fin 32) (f : State → Nat → Nat → Act) : State :=
  s.issue e (wordT 0x34 d a b fn) .coreOnly false (fun s =>
    let k := Eng.key e
    let x := (s.gr k a.val).toNat
    let r := (s.gr k b.val).toNat
    s.afterFence e (fun s => if 128 ≤ r then .next (s.setGr k d.val 3) else f s x r))

/-- `rput`: one entry of the core's view of memory at A is posted whole; its reading is a load of the core, the write of the
ring a store of the core (R153, R154, R458, R468). -/
def State.rputAct (s : State) (k d x r : Nat) : Act :=
  let n := s.ringSize r
  match addrCause x n with
  | some c => .cause c (some x) s
  | none =>
    let (ok, s) := s.transferCheck (s.engSrc k) .read x n
    if !ok then .cause 7 (some x) s
    else if s.l2Stalls x n then .hold s
    else if s.corePoisoned x n then .cause 10 (some x) s
    else
      let (st, s) := s.ringPost (s.engSrc k) r (s.coreRead x n)
      .next (s.setGr k d (BitVec.ofNat 64 st))

def execRput (e : Eng) (d a b : Fin 32) (s : State) : Host.Outcome State Fault Refusal :=
  .next (s.ringOp e 0 d a b (fun s x r => s.rputAct (Eng.key e) d.val x r))

/-- `rget`: the oldest entry is taken and written whole at A, a store of the core; a refused store takes no entry (R153,
R154, R157). -/
def State.rgetAct (s : State) (k d x r : Nat) : Act :=
  let n := s.ringSize r
  match addrCause x n with
  | some c => .cause c (some x) s
  | none =>
    let src := s.engSrc k
    if s.l2Stalls x n then .hold s else
    match s.ringTake src r with
    | (0, bs, t) =>
      let (ok, s) := s.transferCheck src .write x n
      if !ok then .cause 8 (some x) s
      else .next ((t.coreWrite k x bs).setGr k d 0)
    | (st, _, t) => .next (t.setGr k d (BitVec.ofNat 64 st))

def execRget (e : Eng) (d a b : Fin 32) (s : State) : Host.Outcome State Fault Refusal :=
  .next (s.ringOp e 1 d a b (fun s x r => s.rgetAct (Eng.key e) d.val x r))

/-- `rbell`: the doorbell write of ring B with value A, checked as a register write of the core (R153, R469). -/
def State.rbellAct (s : State) (k d x r : Nat) : Act :=
  let at_ := keyAddr (F.RINGS_BELL_INDEX r).key
  let (ok, s) := s.initCheck (s.engSrc k) .write at_ 4
  if !ok then .cause 8 (some at_) s
  else
    let (st, s) := s.ringBell r (bits x 0 17) (bitAt x 31)
    .next (s.setGr k d (BitVec.ofNat 64 st))

def execRbell (e : Eng) (d a b : Fin 32) (s : State) : Host.Outcome State Fault Refusal :=
  .next (s.ringOp e 2 d a b (fun s x r => s.rbellAct (Eng.key e) d.val x r))

/-- `rwait`: after its fence it completes at once when attention is pending and enabled, and otherwise the core idles (R154,
R155, R173). -/
def execRwait (e : Eng) (d a : Fin 32) (s : State) : Host.Outcome State Fault Refusal :=
  .next (s.issue e (wordT 0x34 d a 0 3) .coreOnly false (fun s => s.afterFence e (fun s =>
    let c := Eng.key e
    match s.attention c with
    | some r => .next (s.setGr c d.val (BitVec.ofNat 64 r))
    | none =>
      let us := (s.gr c a.val).toNat
      let w := Wait.ring d.val (if us = 0 then none else some (s.time.pix + us * clkUs))
      .hold ((s.setEngine c { s.engine c with wait := w }).put (F.CORE_STATE c) 2))))

/-- All ones, which a timeout, an absent head and an unmade arm give (R155, R185, R202). -/
def allOnes : Nat := 2 ^ 64 - 1

/-- RWAIT_DONE: attention has come, or A µs have passed (R155). -/
def State.rwaitEnds (s : State) (c : Nat) : State :=
  match (s.engine c).wait with
  | .ring d timeout =>
    match s.attention c with
    | some r => (s.finishWait c d r).put (F.CORE_STATE c) 1
    | none =>
      match timeout with
      | some t => if t ≤ s.time.pix then (s.finishWait c d allOnes).put (F.CORE_STATE c) 1 else s
      | none => s
  | _ => s

def execRwaitDone (t : Nat) (c : Fin 16) (s : State) : Host.Outcome State Fault Refusal :=
  .next ((s.advance t).rwaitEnds c.val)

end Sys2Proof.Machine
end

