-- ==== Sys2Proof/Machine/RasterGroup.lean ====
section
/-! DEFINITION. The raster group (R182 to R205) and the waits it makes. -/
namespace Sys2Proof.Machine

/-! ### The target head (R184 to R186) -/

/-- The head that `wline`, `wframe`, `stamp` and `commit` act on (R184). -/
def State.tgtHead (s : State) (e : Eng) (b : Nat) : Nat :=
  match e with
  | .core c _ => bits (s.gr c.val b).toNat 0 6
  | .seq n _ => n.val

/-- A core at User level may not reach head `h` (R186). -/
def State.headBarred (s : State) (e : Eng) (h : Nat) : Bool :=
  match e with
  | .core c _ => !(s.engine c.val).keeper &&
      !(if h < 32 then s.bit (F.SEQ_HEAD_ALLOW_LO c.val) h else s.bit (F.SEQ_HEAD_ALLOW_HI c.val) (h - 32))
  | .seq _ _ => false

/-- The first address of the records of a raster instruction: its own on a core, SEQ_n.CTL for a sequencer (R221). -/
def State.rasterAt (s : State) : Eng → Nat
  | .core c _ => (s.engine c.val).pc
  | .seq n _ => keyAddr (F.SEQN_CTL_RUN n.val).key

/-- An instruction that names an absent head or window: D takes all ones (R185). -/
def State.absentAct (s : State) (e : Eng) (d h : Nat) : Act :=
  .next ((s.rasterAbsent (s.rasterAt e) h 0).setGr (Eng.key e) d (BitVec.ofNat 64 allOnes))

/-- An instruction that acts on head `h`: absent, barred, or `f` (R185, R186). -/
def State.withHead (s : State) (e : Eng) (d h : Nat) (f : Act) : Act :=
  if !s.hasHead h then s.absentAct e d h
  else if s.headBarred e h then .cause 2 none s
  else f

/-- Head of a line sequencer; `none` for a core (R221). -/
def Eng.seqHead : Eng → Option Nat
  | .core _ _ => none
  | .seq n _ => some n.val

/-- The commit unit of a line sequencer's head; `none` for a core (R199, R202). -/
def State.ownUnit (s : State) : Eng → Option Nat
  | .core _ _ => none
  | .seq n _ => some (s.unitOf n.val)

/-! ### Waits (R190 to R195, R219) -/

/-- A wait issues: a sequencer's run is counted, which may stop it (R219). `done` holds already, or the wait begins. A wait
that holds at arrival completes at once, and LATE_WAIT counts it on a sequencer (R190). -/
def State.waitAct (s : State) (e : Eng) (d : Nat) (done : Option (State × Nat)) (w : Wait) : Act :=
  let k := Eng.key e
  match e with
  | .core _ _ =>
    match done with
    | some (s, v) => .next (s.setGr k d (BitVec.ofNat 64 v))
    | none => .hold (s.setEngine k { s.engine k with wait := w })
  | .seq n _ =>
    match done with
    | some (s, v) => .hold ((s.bump (F.SEQN_LATE_WAIT n.val)).endWait k d v)
    | none => .hold ((s.setEngine k { s.engine k with wait := w }).put (F.SEQN_STATE n.val) 2)

/-- The run of a sequencer is counted at the issue of a wait; a run past its budget may stop it (R219). -/
def State.countAct (s : State) (e : Eng) (f : State → Act) : Act :=
  match e with
  | .core _ _ => f s
  | .seq n _ =>
    let s := s.countRun n.val
    if s.get (F.SEQN_STATE n.val) = 1 then f s else .hold s

/-- The position of head `h` has reached `target` (R190). -/
def State.lineReached (s : State) (h target : Nat) : Bool := (s.pos h + 2 ^ 32 - target % 2 ^ 32) % 2 ^ 32 < 2 ^ 31

/-- `wline` on head `h` for position word `target` (R190). -/
def State.wlineAct (s : State) (e : Eng) (d h target : Nat) : Act :=
  s.countAct e (fun s =>
    s.waitAct e d (if s.lineReached h target then some (s, s.pos h) else none) (.line d h (target % 2 ^ 32)))

def execWline (e : Eng) (d a b : Fin 32) (s : State) : Host.Outcome State Fault Refusal :=
  .next (s.issue e (wordT 0x38 d a b 0) .both false (fun s =>
    let h := s.tgtHead e b.val
    s.withHead e d.val h (s.wlineAct e d.val h (s.gr (Eng.key e) a.val).toNat)))

/-- The I form: FMARK in [31:24], the line in [23:10], FRAC 0; a non-zero IMM16 [15:14] is reserved (R183, R191). -/
def execWlineI (e : Eng) (d : Fin 32) (imm : BitVec 16) (s : State) : Host.Outcome State Fault Refusal :=
  .next (s.issue e (wordI 0x3B d 0 imm) .seqOnly false (fun s =>
    let n := Eng.key e - 16
    if bits imm.toNat 14 2 != 0 then .cause 1 none s
    else s.wlineAct e d.val n (s.get (F.SEQN_FMARK n) * 0x1000000 + bits imm.toNat 0 14 * 0x400)))

/-- `wframe`: the k-th frame start after arrival, 0 counting as 1 (R192). -/
def execWframe (e : Eng) (d a b : Fin 32) (s : State) : Host.Outcome State Fault Refusal :=
  .next (s.issue e (wordT 0x38 d a b 1) .both false (fun s =>
    let h := s.tgtHead e b.val
    let k := bits (s.gr (Eng.key e) a.val).toNat 0 8
    s.withHead e d.val h (s.countAct e (fun s => s.waitAct e d.val none (.frame d.val h (max 1 k) 0 s.time.pix)))))

/-- TIME64 has reached `a` (R193). -/
def State.timeReached (s : State) (a : Nat) : Bool := 0 ≤ sint 64 (s.time64 + 2 ^ 64 - a)

def execWtime (e : Eng) (d a : Fin 32) (s : State) : Host.Outcome State Fault Refusal :=
  .next (s.issue e (wordT 0x38 d a 0 2) .both false (fun s =>
    let x := (s.gr (Eng.key e) a.val).toNat
    s.countAct e (fun s => s.waitAct e d.val (if s.timeReached x then some (s, s.time64) else none) (.time d.val x))))

/-- WAIT_DONE: the condition of the wait of engine `k` holds (R190 to R194). -/
def State.waitEnds (s : State) (e : Eng) : State :=
  let k := Eng.key e
  match (s.engine k).wait with
  | .line d h target => if s.lineReached h target then s.endWait k d (s.pos h) else s
  | .frame d _ 0 fs _ =>
    let s := s.endWait k d fs
    match e with
    | .core _ _ => s
    | .seq n _ => s.put (F.SEQN_FMARK n.val) (fs % 256)
  | .time d a => if s.timeReached a then s.endWait k d s.time64 else s
  | _ => s

def execWaitDone (t : Nat) (e : Eng) (s : State) : Host.Outcome State Fault Refusal := .next ((s.advance t).waitEnds e)

/-- `stamp`: POS and STAMP32 at arrival (R196). -/
def execStamp (e : Eng) (d b : Fin 32) (s : State) : Host.Outcome State Fault Refusal :=
  .next (s.issue e (wordT 0x38 d 0 b 3) .both false (fun s =>
    let h := s.tgtHead e b.val
    s.withHead e d.val h (.next (s.setGr (Eng.key e) d.val (BitVec.ofNat 64 (s.pos h + 2 ^ 32 * s.stamp32))))))

/-! ### Commits, windows and pictures (R197 to R203) -/

/-- A sequencer has issued a `commit` (R220). -/
def State.noteCommit (s : State) : Eng → State
  | .core _ _ => s
  | .seq n _ => s.setEngine (16 + n.val) { s.engine (16 + n.val) with sinceCommit := 0 }

/-- `commit`: a request for the unit of the head (R184, R187, R197). -/
def execCommit (e : Eng) (d b : Fin 32) (s : State) : Host.Outcome State Fault Refusal :=
  .next (s.issue e (wordT 0x3A d 0 b 0) .both false (fun s => s.afterFence e (fun s =>
    let h := s.tgtHead e b.val
    let (st, t) := s.commitReq (s.unitOf h)
    s.withHead e d.val h (.next ((t.noteCommit e).setGr (Eng.key e) d.val (BitVec.ofNat 64 st))))))

/-- `place` (R186, R187, R198, R199): REMOVE names no head. -/
def execPlace (e : Eng) (d a b : Fin 32) (s : State) : Host.Outcome State Fault Refusal :=
  .next (s.issue e (wordT 0x39 d a b 0) .both false (fun s => s.afterFence e (fun s =>
    let x := (s.gr (Eng.key e) a.val).toNat
    let h := bits x 16 6
    if !bitAt x 31 && s.hasHead h && s.headBarred e h then .cause 2 none s
    else
      let (st, s) := s.place (Eng.seqHead e) (s.rasterAt e) x (s.gr (Eng.key e) b.val).toNat
      .next (s.setGr (Eng.key e) d.val (BitVec.ofNat 64 st)))))

/-- Offsets, in frames after the one under way, of the apply points still to come of unit `u` (R118, R119, R127). -/
def State.applyAhead (s : State) (u : Nat) (late : Bool) : List Nat :=
  let b := s.tb (s.unitMaster u)
  let m := s.unitMaster u
  let next := b.succ.getD (s.nextFseq m)
  (List.range 9).filter (fun i =>
    (if i = 0 then s.lastFrame m (s.holdOf u) else lastOfPeriod ((next + i - 1) % 2 ^ 32) (s.holdOf u)) &&
    (i != 0 || (!late && b.line < b.timing.vactive)))

/-- T0 of the frame that a commit requested now for unit `u` would first show (R118, R119, R121, R127, R200). -/
def State.previewT0 (s : State) (u : Nat) : Nat :=
  if s.unitOff u then s.t0Now u
  else
    let x := s.unit u
    let m := s.unitMaster u
    let b := s.tb m
    let held := x.sealed && x.skip = some b.fseq
    let i := if x.sealed then (s.applyAhead u held).getD 1 1 else (s.applyAhead u (s.isLate u)).getD 0 0
    s.nextFrameT64 m + edgeBase b.timing (s.rateOf m) (0, 1) (b.timing.vtotal * i) * 10 / 12 + s.dispOfs

/-- Window `w` is placed in the OPEN bank and carries no REMOVE there (R202). -/
def State.openPlaced (s : State) (w : Nat) : Bool :=
  (s.win w).unit.isSome && wPlaced (s.winWords w) && !(s.win w).openRemove

/-- The latched tag is still a candidate at the apply of an OPEN image `ws`: no bank up to it changes KIND or SRC (R229,
R232). -/
def keepsTag (x : Win) (ws : List Word) : Bool :=
  let same := fun (a b : List Word) => wKind a = wKind b && wSrc a = wSrc b
  match x.act, x.sealed with
  | none, _ => false
  | some o, none => same o ws
  | some o, some b => !b.remove && same o b.words && same b.words ws

/-- `pick` (R185 to R187, R200, R202). -/
def State.pickAct (s : State) (e : Eng) (d x : Nat) : Act :=
  let k := Eng.key e
  let w := bits x 0 11
  let ws := s.winWords w
  if s.nWins ≤ w then s.absentAct e d 0
  else if !s.openPlaced w then .next (s.setGr k d (BitVec.ofNat 64 allOnes))
  else if s.headBarred e (wHead ws) then .cause 2 none s
  else if (s.ownUnit e).isSome && s.ownUnit e != (s.win w).unit then .next (s.setGr k d (BitVec.ofNat 64 allOnes))
  else
    let s := s.setWin w { s.win w with openArm := true }
    if bitAt x 31 then
      let (c, s) := s.choose ws (if keepsTag (s.win w) ws then (s.win w).tag else none) (s.previewT0 (((s.win w).unit).getD 0))
      .next (s.setGr k d (match c with
        | some l => BitVec.ofNat 64 l.at_
        | none => 0))
    else .next (s.setGr k d 0)

def execPick (e : Eng) (d a : Fin 32) (s : State) : Host.Outcome State Fault Refusal :=
  .next (s.issue e (wordT 0x39 d a 0 1) .both false (fun s => s.afterFence e (fun s =>
    s.pickAct e d.val (s.gr (Eng.key e) a.val).toNat)))

/-- `withhold` (R185 to R187, R203). -/
def State.withholdAct (s : State) (e : Eng) (d x : Nat) : Act :=
  let k := Eng.key e
  let w := bits x 0 11
  let win := s.win w
  if s.nWins ≤ w then s.absentAct e d 0
  else match win.act with
    | none => .next (s.setGr k d 3)
    | some ws =>
      if s.headBarred e (wHead ws) then .cause 2 none s
      else if bitAt x 31 then
        .next ((s.setWin w { win with release := win.withheld.isSome }).setGr k d 0)
      else
        .next ((s.setWin w { win with withheld := some (win.withheld.getD s.time.pix), release := false }).setGr k d 0)

def execWithhold (e : Eng) (d a : Fin 32) (s : State) : Host.Outcome State Fault Refusal :=
  .next (s.issue e (wordT 0x39 d a 0 2) .both false (fun s => s.afterFence e (fun s =>
    s.withholdAct e d.val (s.gr (Eng.key e) a.val).toNat)))

/-! ### Triggers (R187, R204, R205) -/

/-- POS that a ring entry carries: the sequencer's head's; no head is named on a core, so that it is a free value there (log
entries 2 and 51). -/
def State.trigPos (s : State) : Eng → Nat × State
  | .core _ _ => s.freeVal 32
  | .seq n _ => (s.pos n.val, s)

/-- `trig` of an engine that may fire target `b` (R204, R205); time triggers that are due come before it (R404). -/
def State.trigGo (s : State) (e : Eng) (d b : Nat) (a : Dword) : Act :=
  let k := Eng.key e
  let s := s.trigsBelow 16
  let (p, s) := if trigClass b = some 4 then s.trigPos e else (0, s)
  let (st, s) := s.fire (s.engSrc k) b a.toNat (leBytes a.toNat 8 ++ leBytes p 4 ++ leBytes s.stamp32 4)
  .next (s.setGr k d (BitVec.ofNat 64 st))

/-- `trig`: a sequencer fires the classes of its TRIG_ALLOW, a User-level core ring targets only (R204). -/
def State.trigAct (s : State) (e : Eng) (d b : Nat) (a : Dword) : Act :=
  match e with
  | .core c _ =>
    if !(s.engine c.val).keeper && trigClass b != some 4 then .cause 2 none s else s.trigGo e d b a
  | .seq n _ =>
    match trigClass b with
    | none => .next (s.setGr (16 + n.val) d 3)
    | some cl => if s.bit (F.SEQN_TRIG_ALLOW n.val) cl then s.trigGo e d b a else .next (s.setGr (16 + n.val) d 2)

def execTrig (e : Eng) (d a b : Fin 32) (s : State) : Host.Outcome State Fault Refusal :=
  .next (s.issue e (wordT 0x3A d a b 1) .both false (fun s => s.afterFence e (fun s =>
    s.trigAct e d.val (bits (s.gr (Eng.key e) b.val).toNat 0 8) (s.gr (Eng.key e) a.val))))

end Sys2Proof.Machine
end

