-- ==== Sys2Proof/Machine/System.lean ====
section
/-! DEFINITION. The system group (R137, R138, R151, R152, R165, R168, R401, R466). -/
namespace Sys2Proof.Machine

/-! ### System registers (R137) -/

/-- A User-level program may read these (R137). -/
def srUser (n : Nat) : Bool := n = 0 || n = 0x10 || n = 0x11 || n = 0x12 || n = 0x13

/-- The bits of a system register that a write reaches; the others are read-only (R137). -/
def srMask (n : Nat) : Nat :=
  match n with
  | 1 => 7
  | 2 => 2 ^ 40 - 4
  | 3 => 7
  | 4 => 0x3FF
  | 5 => 2 ^ 64 - 1
  | 6 => 2 ^ 32 - 1
  | 8 => 2 ^ 40 - 4096
  | 0xA => 2 ^ 64 - 1
  | 0xB => 2 ^ 64 - 1
  | 0x22 => 2 ^ 64 - 1
  | 0x23 => 2 ^ 64 - 1
  | _ => 0

/-- CORE clocks up to a PIXEL clock: 1.6 GHz against 1.2 GHz (R11). -/
def coreEdges (pix : Nat) : Nat := pix * 4 / 3

/-- The value of system register `n` of core `c` (R137). -/
def State.srView (s : State) (c n : Nat) : Nat :=
  let e := s.engine c
  match n with
  | 0 => c + 0x100 * bits (s.fpbWord 0) 8 8
  | 0x10 => coreEdges s.time.pix - coreEdges e.startAt
  | 0x11 => e.retired % 2 ^ 64
  | 0x12 => s.time64
  | 0x13 => s.stamp32
  | 0x20 => s.attnPend c 0
  | 0x21 => s.attnPend c 1
  | _ => e.sreg n

/-- System register `n` of core `c` written with `v`; a read-only one keeps what it holds (R137). -/
def State.srWrite (s : State) (c n v : Nat) : State :=
  let e := s.engine c
  if srMask n = 0 then s else s.setEngine c { e with sr := tabSet e.sr n (BitVec.ofNat 64 (v &&& srMask n)) }

/-- The cause of an access to system register `n`: a number not in the table, then the level (R137, R157). -/
def State.srCause (s : State) (c n : Nat) (write : Bool) : Option Nat :=
  if !srKnown n then some 1
  else if !(s.engine c).keeper && (write || !srUser n) then some 2
  else none

/-- An access to system register `sr`: D takes its value if `d` names one, and it takes `f` of that value (R151). -/
def State.srOp (s : State) (e : Eng) (sub : Nat) (d : Fin 32) (sr : Fin 4096) (a : Fin 32) (f : Option (Nat → Nat → Nat))
    (reads : Bool) : State :=
  s.issue e (wordS d a sub sr.val) .coreOnly false (fun s =>
    let c := Eng.key e
    match s.srCause c sr.val f.isSome with
    | some k => .cause k none s
    | none =>
      let old := s.srView c sr.val
      let x := (s.gr c a.val).toNat
      let s := match f with
        | some g => s.srWrite c sr.val (g old x)
        | none => s
      .next (if reads then s.setGr c d.val (BitVec.ofNat 64 old) else s))

def execSrd (e : Eng) (d : Fin 32) (sr : Fin 4096) (s : State) : Host.Outcome State Fault Refusal :=
  .next (s.srOp e 0 d sr 0 none true)

def execSwr (e : Eng) (sr : Fin 4096) (a : Fin 32) (s : State) : Host.Outcome State Fault Refusal :=
  .next (s.srOp e 1 0 sr a (some (fun _ x => x)) false)

def execSrs (e : Eng) (d : Fin 32) (sr : Fin 4096) (a : Fin 32) (s : State) : Host.Outcome State Fault Refusal :=
  .next (s.srOp e 2 d sr a (some (fun o x => o ||| x)) true)

def execSrc (e : Eng) (d : Fin 32) (sr : Fin 4096) (a : Fin 32) (s : State) : Host.Outcome State Fault Refusal :=
  .next (s.srOp e 3 d sr a (some (fun o x => o &&& (2 ^ 64 - 1 - x))) true)

/-! ### Traps and returns -/

/-- `trap`: EINST carries the code in SR (R151). -/
def execTrap (e : Eng) (code : Fin 4096) (s : State) : Host.Outcome State Fault Refusal :=
  .next (s.issue e (wordS 0 0 4 code.val) .coreOnly false (fun s => .cause 11 none s))

/-- Engine `e` halts for the debugger attached to it (R151, R214). -/
def State.brkHalt (s : State) : Eng → State
  | .core c _ => s.haltInto c.val 6
  | .seq n _ => s.put (F.SEQN_STATE n.val) 5

/-- `brk`: a halt for a debugger, or BREAK (R151, R214, R215). -/
def execBrk (e : Eng) (code : Fin 4096) (s : State) : Host.Outcome State Fault Refusal :=
  .next (s.issue e (wordS 0 0 5 code.val) .both false (fun s =>
    if (s.engine (Eng.key e)).dbg then .hold (s.brkHalt e) else .cause 12 none s))

/-- `eret`: PC from EPC and PSTATE from EPSTATE (R151). -/
def execEret (e : Eng) (s : State) : Host.Outcome State Fault Refusal :=
  .next (s.issue e (wordS 0 0 6 0) .coreOnly true (fun s =>
    let c := Eng.key e
    .goto (s.srView c 2) (s.srWrite c 1 (s.srView c 3))))

/-! ### Fences and cache operations (R165, R168) -/

def execFence (e : Eng) (s : State) : Host.Outcome State Fault Refusal :=
  .next (s.issue e (wordS 0 0 7 0) .both false (fun s => s.afterFence e (fun s => .next s)))

/-- `fence.i`: the model keeps no fetched instructions, so that it is a full fence here (R165). -/
def execFenceI (e : Eng) (s : State) : Host.Outcome State Fault Refusal :=
  .next (s.issue e (wordS 0 0 7 1) .coreOnly false (fun s => s.afterFence e (fun s => .next s)))

/-- Whether a write in flight of engine `k` meets the 64-byte line of `a`. -/
def State.lineInFlight (s : State) (k a : Nat) : Bool :=
  s.bus.inflight.any (fun x => x.src.id.val = k && x.kind = .write && x.addr / 64 = a / 64)

/-- A cache operation on the line that holds A: the core's own stores to it come first, in their order (R163, R168). -/
def State.cacheOp (s : State) (e : Eng) (sr : Nat) (a : Fin 32) (keeperOnly : Bool) (f : State → Nat → State) : State :=
  s.issue e (wordS 0 a 8 sr) .coreOnly keeperOnly (fun s =>
    let k := Eng.key e
    let x := (s.gr k a.val).toNat
    if s.lineInFlight k x then
      match s.complete k (fun y => s.isNormal y.addr) with
      | (true, s) => .next (f s x)
      | (false, s) => .hold s
    else .next (f s x))

def execCclean (e : Eng) (a : Fin 32) (s : State) : Host.Outcome State Fault Refusal :=
  .next (s.cacheOp e 0 a false (fun s x => s.cleanLine x))

/-- `cinval`: data that no other copy holds is discarded (R168). -/
def execCinval (e : Eng) (a : Fin 32) (s : State) : Host.Outcome State Fault Refusal :=
  .next (s.cacheOp e 1 a true (fun s x => { s with dirty := dropLines s.dirty x 1 }))

def execCflush (e : Eng) (a : Fin 32) (s : State) : Host.Outcome State Fault Refusal :=
  .next (s.cacheOp e 2 a false (fun s x => s.cleanLine x))

/-! ### `rulesync` and `timerestep` (R152, R401, R466) -/

/-- `rulesync`: it completes once no access in flight carries an old tag, and the activation under way at its arrival has
ended (R466). -/
def execRulesync (e : Eng) (s : State) : Host.Outcome State Fault Refusal :=
  .next (s.issue e (wordS 0 0 10 0) .coreOnly true (fun s =>
    if s.syncBusy then
      .hold (s.setEngine (Eng.key e) { s.engine (Eng.key e) with wait := .rulesync (s.get F.PROT_ACT_STATUS = 1) })
    else .next s))

/-- RULESYNC_DONE: the condition of R466 holds; a halt asked for meanwhile then takes effect (R152). -/
def State.rulesyncEnds (s : State) (c : Nat) : State :=
  if (s.engine c).wait = .rulesync false && !s.staleInFlight then (s.finishWait c 0 0).settleHalt c else s

def execRulesyncDone (t : Nat) (c : Fin 16) (s : State) : Host.Outcome State Fault Refusal :=
  .next ((s.advance t).rulesyncEnds c.val)

/-- `timerestep`: network time steps by A (R151, R401). -/
def execTimerestep (e : Eng) (a : Fin 32) (s : State) : Host.Outcome State Fault Refusal :=
  .next (s.issue e (wordS 0 a 11 0) .coreOnly true (fun s =>
    let c := Eng.key e
    match s.timeRestep c (s.gr c a.val).toInt with
    | (true, s) => .next s
    | (false, s) => .hold (s.setEngine c { s.engine c with wait := .step })))

end Sys2Proof.Machine
end

