-- ==== Sys2Proof/Machine/Dispatch.lean ====
section
/-! DEFINITION. One arm per command of the table. -/
namespace Sys2Proof.Machine

def exec (i : Instr) (s : State) : Host.Outcome State Fault Refusal :=
  match i with
  | .refSwitch t => Sys2Proof.Machine.execRefSwitch t s
  | .refLostBoth t => Sys2Proof.Machine.execRefLostBoth t s
  | .clockLoss t d => Sys2Proof.Machine.execClockLoss t d s
  | .clockDrift t d khz => Sys2Proof.Machine.execClockDrift t d khz s
  | .sampleCfgWrite src v => Sys2Proof.Machine.execSampleCfgWrite src v s
  | .registerWrite src a v => Sys2Proof.Machine.execRegisterWrite src a v s
  | .reg64LowWrite src a v => Sys2Proof.Machine.execReg64LowWrite src a v s
  | .reg64HighWrite src a v => Sys2Proof.Machine.execReg64HighWrite src a v s
  | .reg64LowRead src a => Sys2Proof.Machine.execReg64LowRead src a s
  | .initiatorCheck src k a len data => Sys2Proof.Machine.execInitiatorCheck src k a len data s
  | .targetCheck n find => Sys2Proof.Machine.execTargetCheck n find s
  | .patrolScrub t words finds => Sys2Proof.Machine.execPatrolScrub t words finds s
  | .lineStart t h ups => Sys2Proof.Machine.execLineStart t h ups s
  | .ageProgressVote t h ups => Sys2Proof.Machine.execAgeProgressVote t h ups s
  | .integrityCompare t h => Sys2Proof.Machine.execIntegrityCompare t h s
  | .voteComplete t h ups pilot voters => Sys2Proof.Machine.execVoteComplete t h ups pilot voters s
  | .verdictDelivery t h => Sys2Proof.Machine.execVerdictDelivery t h s
  | .composeLine t h => Sys2Proof.Machine.execComposeLine t h s
  | .lineUnderrun t h ws => Sys2Proof.Machine.execLineUnderrun t h ws s
  | .echoTimeout t h line w => Sys2Proof.Machine.execEchoTimeout t h line w s
  | .vigilCtrlWrite src v => Sys2Proof.Machine.execVigilCtrlWrite src v s
  | .colourWrite src c v => Sys2Proof.Machine.execColourWrite src c v s
  | .vigilInject src v => Sys2Proof.Machine.execVigilInject src v s
  | .frameStart t h => Sys2Proof.Machine.execFrameStart t h s
  | .apply t u => Sys2Proof.Machine.execApply t u s
  | .applyDone t u => Sys2Proof.Machine.execApplyDone t u s
  | .commitReq src u v => Sys2Proof.Machine.execCommitReq src u v s
  | .timingWrite src h k v => Sys2Proof.Machine.execTimingWrite src h k v s
  | .headEnable src h v => Sys2Proof.Machine.execHeadEnable src h v s
  | .headDisable src h v => Sys2Proof.Machine.execHeadDisable src h v s
  | .refWrite src h v => Sys2Proof.Machine.execRefWrite src h v s
  | .genlockPulse t n width => Sys2Proof.Machine.execGenlockPulse t n width s
  | .pulseMissing t h => Sys2Proof.Machine.execPulseMissing t h s
  | .genlockLost t h => Sys2Proof.Machine.execGenlockLost t h s
  | .virtualPulse t h => Sys2Proof.Machine.execVirtualPulse t h s
  | .spanEnable src x1 v => Sys2Proof.Machine.execSpanEnable src x1 v s
  | .spanDisable src x1 v => Sys2Proof.Machine.execSpanDisable src x1 v s
  | .spanMembersWrite src x1 k v => Sys2Proof.Machine.execSpanMembersWrite src x1 k v s
  | .maintenanceStart t ch op dur => Sys2Proof.Machine.execMaintenanceStart t ch op dur s
  | .refreshForced t ch => Sys2Proof.Machine.execRefreshForced t ch s
  | .add e d a b => Sys2Proof.Machine.execAdd e d a b s
  | .sub e d a b => Sys2Proof.Machine.execSub e d a b s
  | .and e d a b => Sys2Proof.Machine.execAnd e d a b s
  | .or e d a b => Sys2Proof.Machine.execOr e d a b s
  | .xor e d a b => Sys2Proof.Machine.execXor e d a b s
  | .shl e d a b => Sys2Proof.Machine.execShl e d a b s
  | .shr e d a b => Sys2Proof.Machine.execShr e d a b s
  | .sar e d a b => Sys2Proof.Machine.execSar e d a b s
  | .lt e d a b => Sys2Proof.Machine.execLt e d a b s
  | .ltu e d a b => Sys2Proof.Machine.execLtu e d a b s
  | .mins e d a b => Sys2Proof.Machine.execMins e d a b s
  | .maxs e d a b => Sys2Proof.Machine.execMaxs e d a b s
  | .minu e d a b => Sys2Proof.Machine.execMinu e d a b s
  | .maxu e d a b => Sys2Proof.Machine.execMaxu e d a b s
  | .andn e d a b => Sys2Proof.Machine.execAndn e d a b s
  | .rol e d a b => Sys2Proof.Machine.execRol e d a b s
  | .mul e d a b => Sys2Proof.Machine.execMul e d a b s
  | .mulhs e d a b => Sys2Proof.Machine.execMulhs e d a b s
  | .mulhu e d a b => Sys2Proof.Machine.execMulhu e d a b s
  | .quos e d a b => Sys2Proof.Machine.execQuos e d a b s
  | .quou e d a b => Sys2Proof.Machine.execQuou e d a b s
  | .mods e d a b => Sys2Proof.Machine.execMods e d a b s
  | .modu e d a b => Sys2Proof.Machine.execModu e d a b s
  | .add32 e d a b => Sys2Proof.Machine.execAdd32 e d a b s
  | .sub32 e d a b => Sys2Proof.Machine.execSub32 e d a b s
  | .shl32 e d a b => Sys2Proof.Machine.execShl32 e d a b s
  | .shr32 e d a b => Sys2Proof.Machine.execShr32 e d a b s
  | .sar32 e d a b => Sys2Proof.Machine.execSar32 e d a b s
  | .mul32 e d a b => Sys2Proof.Machine.execMul32 e d a b s
  | .sext32 e d a b => Sys2Proof.Machine.execSext32 e d a b s
  | .bswap e d a b => Sys2Proof.Machine.execBswap e d a b s
  | .lzc e d a b => Sys2Proof.Machine.execLzc e d a b s
  | .tzc e d a b => Sys2Proof.Machine.execTzc e d a b s
  | .ones e d a b => Sys2Proof.Machine.execOnes e d a b s
  | .addk e d a imm => Sys2Proof.Machine.execAddk e d a imm s
  | .addk32 e d a imm => Sys2Proof.Machine.execAddk32 e d a imm s
  | .andk e d a imm => Sys2Proof.Machine.execAndk e d a imm s
  | .ork e d a imm => Sys2Proof.Machine.execOrk e d a imm s
  | .xork e d a imm => Sys2Proof.Machine.execXork e d a imm s
  | .ltk e d a imm => Sys2Proof.Machine.execLtk e d a imm s
  | .ltuk e d a imm => Sys2Proof.Machine.execLtuk e d a imm s
  | .shlk e d a imm => Sys2Proof.Machine.execShlk e d a imm s
  | .shrk e d a imm => Sys2Proof.Machine.execShrk e d a imm s
  | .sark e d a imm => Sys2Proof.Machine.execSark e d a imm s
  | .rolk e d a imm => Sys2Proof.Machine.execRolk e d a imm s
  | .setu e d imm => Sys2Proof.Machine.execSetu e d imm s
  | .addh e d a imm => Sys2Proof.Machine.execAddh e d a imm s
  | .pcrel e d imm => Sys2Proof.Machine.execPcrel e d imm s
  | .ldS8 e d a imm find => Sys2Proof.Machine.execLdS8 e d a imm find s
  | .ldS16 e d a imm find => Sys2Proof.Machine.execLdS16 e d a imm find s
  | .ldS32 e d a imm find => Sys2Proof.Machine.execLdS32 e d a imm find s
  | .ld64 e d a imm find => Sys2Proof.Machine.execLd64 e d a imm find s
  | .ldU8 e d a imm find => Sys2Proof.Machine.execLdU8 e d a imm find s
  | .ldU16 e d a imm find => Sys2Proof.Machine.execLdU16 e d a imm find s
  | .ldU32 e d a imm find => Sys2Proof.Machine.execLdU32 e d a imm find s
  | .st8 e d a imm => Sys2Proof.Machine.execSt8 e d a imm s
  | .st16 e d a imm => Sys2Proof.Machine.execSt16 e d a imm s
  | .st32 e d a imm => Sys2Proof.Machine.execSt32 e d a imm s
  | .st64 e d a imm => Sys2Proof.Machine.execSt64 e d a imm s
  | .braEq e a b off => Sys2Proof.Machine.execBraEq e a b off s
  | .braNe e a b off => Sys2Proof.Machine.execBraNe e a b off s
  | .braLt e a b off => Sys2Proof.Machine.execBraLt e a b off s
  | .braGe e a b off => Sys2Proof.Machine.execBraGe e a b off s
  | .braLtu e a b off => Sys2Proof.Machine.execBraLtu e a b off s
  | .braGeu e a b off => Sys2Proof.Machine.execBraGeu e a b off s
  | .jmp e off => Sys2Proof.Machine.execJmp e off s
  | .call e off => Sys2Proof.Machine.execCall e off s
  | .callr e d a imm => Sys2Proof.Machine.execCallr e d a imm s
  | .atSwap e d a b w64 find => Sys2Proof.Machine.execAtSwap e d a b w64 find s
  | .atAdd e d a b w64 find => Sys2Proof.Machine.execAtAdd e d a b w64 find s
  | .atAnd e d a b w64 find => Sys2Proof.Machine.execAtAnd e d a b w64 find s
  | .atOr e d a b w64 find => Sys2Proof.Machine.execAtOr e d a b w64 find s
  | .atXor e d a b w64 find => Sys2Proof.Machine.execAtXor e d a b w64 find s
  | .atMins e d a b w64 find => Sys2Proof.Machine.execAtMins e d a b w64 find s
  | .atMaxs e d a b w64 find => Sys2Proof.Machine.execAtMaxs e d a b w64 find s
  | .atMinu e d a b w64 find => Sys2Proof.Machine.execAtMinu e d a b w64 find s
  | .atMaxu e d a b w64 find => Sys2Proof.Machine.execAtMaxu e d a b w64 find s
  | .atCas e d a b w64 find => Sys2Proof.Machine.execAtCas e d a b w64 find s
  | .atSadd e d a b w64 find => Sys2Proof.Machine.execAtSadd e d a b w64 find s
  | .srd e d sr => Sys2Proof.Machine.execSrd e d sr s
  | .swr e sr a => Sys2Proof.Machine.execSwr e sr a s
  | .srs e d sr a => Sys2Proof.Machine.execSrs e d sr a s
  | .src e d sr a => Sys2Proof.Machine.execSrc e d sr a s
  | .trap e code => Sys2Proof.Machine.execTrap e code s
  | .brk e code => Sys2Proof.Machine.execBrk e code s
  | .eret e => Sys2Proof.Machine.execEret e s
  | .fence e => Sys2Proof.Machine.execFence e s
  | .fenceI e => Sys2Proof.Machine.execFenceI e s
  | .cclean e a => Sys2Proof.Machine.execCclean e a s
  | .cinval e a => Sys2Proof.Machine.execCinval e a s
  | .cflush e a => Sys2Proof.Machine.execCflush e a s
  | .rulesync e => Sys2Proof.Machine.execRulesync e s
  | .rulesyncDone t c => Sys2Proof.Machine.execRulesyncDone t c s
  | .timerestep e a => Sys2Proof.Machine.execTimerestep e a s
  | .rput e d a b => Sys2Proof.Machine.execRput e d a b s
  | .rget e d a b => Sys2Proof.Machine.execRget e d a b s
  | .rbell e d a b => Sys2Proof.Machine.execRbell e d a b s
  | .rwait e d a => Sys2Proof.Machine.execRwait e d a s
  | .rwaitDone t c => Sys2Proof.Machine.execRwaitDone t c s
  | .impreciseStoreRefusal t c => Sys2Proof.Machine.execImpreciseStoreRefusal t c s
  | .attention t c => Sys2Proof.Machine.execAttention t c s
  | .coreStart src c v => Sys2Proof.Machine.execCoreStart src c v s
  | .coreHalt src c v => Sys2Proof.Machine.execCoreHalt src c v s
  | .coreWatchdog t c => Sys2Proof.Machine.execCoreWatchdog t c s
  | .wdogKick src c v => Sys2Proof.Machine.execWdogKick src c v s
  | .l2SramWaysWrite src v => Sys2Proof.Machine.execL2SramWaysWrite src v s
  | .l2ReconfigDone t => Sys2Proof.Machine.execL2ReconfigDone t s
  | .ncWindowWrite src n limit v => Sys2Proof.Machine.execNcWindowWrite src n limit v s
  | .wline e d a b => Sys2Proof.Machine.execWline e d a b s
  | .wlineI e d imm => Sys2Proof.Machine.execWlineI e d imm s
  | .wframe e d a b => Sys2Proof.Machine.execWframe e d a b s
  | .wtime e d a => Sys2Proof.Machine.execWtime e d a s
  | .waitDone t e => Sys2Proof.Machine.execWaitDone t e s
  | .stamp e d b => Sys2Proof.Machine.execStamp e d b s
  | .commit e d b => Sys2Proof.Machine.execCommit e d b s
  | .place e d a b => Sys2Proof.Machine.execPlace e d a b s
  | .pick e d a => Sys2Proof.Machine.execPick e d a s
  | .withhold e d a => Sys2Proof.Machine.execWithhold e d a s
  | .trig e d a b => Sys2Proof.Machine.execTrig e d a b s
  | .tagld e d a b => Sys2Proof.Machine.execTagld e d a b s
  | .tagchk e d a => Sys2Proof.Machine.execTagchk e d a s
  | .crc e d a b n => Sys2Proof.Machine.execCrc e d a b n s
  | .scan e d a b => Sys2Proof.Machine.execScan e d a b s
  | .seqStart src n v => Sys2Proof.Machine.execSeqStart src n v s
  | .seqHalt src n v => Sys2Proof.Machine.execSeqHalt src n v s
  | .seqBudget t n => Sys2Proof.Machine.execSeqBudget t n s
  | .seqWatchdog t n => Sys2Proof.Machine.execSeqWatchdog t n s
  | .seqMemWrite src n o v => Sys2Proof.Machine.execSeqMemWrite src n o v s
  | .placeCtlGo src v => Sys2Proof.Machine.execPlaceCtlGo src v s
  | .descriptorWrite src w k v => Sys2Proof.Machine.execDescriptorWrite src w k v s
  | .coefLoadGo src v => Sys2Proof.Machine.execCoefLoadGo src v s
  | .coefLoadDone t => Sys2Proof.Machine.execCoefLoadDone t s
  | .copySetEnable src k v => Sys2Proof.Machine.execCopySetEnable src k v s
  | .copyJobStart t n => Sys2Proof.Machine.execCopyJobStart t n s
  | .copyJobDone t n => Sys2Proof.Machine.execCopyJobDone t n s
  | .contextOpen src c v => Sys2Proof.Machine.execContextOpen src c v s
  | .contextClose src c v => Sys2Proof.Machine.execContextClose src c v s
  | .contextDrained t c => Sys2Proof.Machine.execContextDrained t c s
  | .contextFieldWrite src c k v => Sys2Proof.Machine.execContextFieldWrite src c k v s
  | .ruleAdd src v => Sys2Proof.Machine.execRuleAdd src v s
  | .ruleDel src v => Sys2Proof.Machine.execRuleDel src v s
  | .ruleRead src v => Sys2Proof.Machine.execRuleRead src v s
  | .ruleCmdDone t => Sys2Proof.Machine.execRuleCmdDone t s
  | .ethRxFrame t p fcsOk frame => Sys2Proof.Machine.execEthRxFrame t p fcsOk frame s
  | .gapDeclaredLost t c => Sys2Proof.Machine.execGapDeclaredLost t c s
  | .networkSilent t c netB => Sys2Proof.Machine.execNetworkSilent t c netB s
  | .pipeDispatch t p => Sys2Proof.Machine.execPipeDispatch t p s
  | .pictureDecoded t p pic => Sys2Proof.Machine.execPictureDecoded t p pic s
  | .slotWaitExpiry t p => Sys2Proof.Machine.execSlotWaitExpiry t p s
  | .bufReturn src v => Sys2Proof.Machine.execBufReturn src v s
  | .keypicRequest t c => Sys2Proof.Machine.execKeypicRequest t c s
  | .contextMigrate t => Sys2Proof.Machine.execContextMigrate t s
  | .pipeRateUpdate t p => Sys2Proof.Machine.execPipeRateUpdate t p s
  | .pipeStallFail t p internal => Sys2Proof.Machine.execPipeStallFail t p internal s
  | .decPipeEnWrite src v => Sys2Proof.Machine.execDecPipeEnWrite src v s
  | .sessionEnable src n v => Sys2Proof.Machine.execSessionEnable src n v s
  | .sessionFieldWrite src n k v => Sys2Proof.Machine.execSessionFieldWrite src n k v s
  | .keyReq src n v => Sys2Proof.Machine.execKeyReq src n v s
  | .encRow t n row => Sys2Proof.Machine.execEncRow t n row s
  | .encPipeStall t p internal => Sys2Proof.Machine.execEncPipeStall t p internal s
  | .encPipeEnWrite src v => Sys2Proof.Machine.execEncPipeEnWrite src v s
  | .ethTxFrame t p => Sys2Proof.Machine.execEthTxFrame t p s
  | .hosttxEntry t => Sys2Proof.Machine.execHosttxEntry t s
  | .portEnable src p v => Sys2Proof.Machine.execPortEnable src p v s
  | .portUp t p => Sys2Proof.Machine.execPortUp t p s
  | .portDown t p cause => Sys2Proof.Machine.execPortDown t p cause s
  | .mgmtEnable src v => Sys2Proof.Machine.execMgmtEnable src v s
  | .mdioGo src v => Sys2Proof.Machine.execMdioGo src v s
  | .mdioDone t data => Sys2Proof.Machine.execMdioDone t data s
  | .servoSample src v => Sys2Proof.Machine.execServoSample src v s
  | .freqWrite src v => Sys2Proof.Machine.execFreqWrite src v s
  | .servoCfgWrite src v => Sys2Proof.Machine.execServoCfgWrite src v s
  | .servoHoldover t => Sys2Proof.Machine.execServoHoldover t s
  | .timeStepApply t => Sys2Proof.Machine.execTimeStepApply t s
  | .timeTriggerFire t n => Sys2Proof.Machine.execTimeTriggerFire t n s
  | .triggerCtlWrite src n k v => Sys2Proof.Machine.execTriggerCtlWrite src n k v s
  | .laneEnable src l v => Sys2Proof.Machine.execLaneEnable src l v s
  | .laneDisable src l v => Sys2Proof.Machine.execLaneDisable src l v s
  | .bringupStageDone t l obs => Sys2Proof.Machine.execBringupStageDone t l obs s
  | .bringupTimeout t l => Sys2Proof.Machine.execBringupTimeout t l s
  | .bringupRestart t l => Sys2Proof.Machine.execBringupRestart t l s
  | .capSend t l => Sys2Proof.Machine.execCapSend t l s
  | .blockReceived t l bits => Sys2Proof.Machine.execBlockReceived t l bits s
  | .laneSignalLoss t l => Sys2Proof.Machine.execLaneSignalLoss t l s
  | .laneBeaconTimeout t l => Sys2Proof.Machine.execLaneBeaconTimeout t l s
  | .blockSend t l => Sys2Proof.Machine.execBlockSend t l s
  | .outmapWrite src h v => Sys2Proof.Machine.execOutmapWrite src h v s
  | .sensemapWrite src k v => Sys2Proof.Machine.execSensemapWrite src k v s
  | .hostLaneTx t => Sys2Proof.Machine.execHostLaneTx t s
  | .loopWrite src l v => Sys2Proof.Machine.execLoopWrite src l v s
  | .panelEnable src p v => Sys2Proof.Machine.execPanelEnable src p v s
  | .panelDisable src p v => Sys2Proof.Machine.execPanelDisable src p v s
  | .senseCmdTimeout t p => Sys2Proof.Machine.execSenseCmdTimeout t p s
  | .localScanDone t p counts => Sys2Proof.Machine.execLocalScanDone t p counts s
  | .touchFrameTimeout t p => Sys2Proof.Machine.execTouchFrameTimeout t p s
  | .waterTimeout t p => Sys2Proof.Machine.execWaterTimeout t p s
  | .touchRateStep t p => Sys2Proof.Machine.execTouchRateStep t p s
  | .touchCmdTest src p v => Sys2Proof.Machine.execTouchCmdTest src p v s
  | .touchCmdRecover src p v => Sys2Proof.Machine.execTouchCmdRecover src p v s
  | .audioSideEnable src p rx v => Sys2Proof.Machine.execAudioSideEnable src p rx v s
  | .audioFrameStart t p rx samples => Sys2Proof.Machine.execAudioFrameStart t p rx samples s
  | .maskWrite src p rx v => Sys2Proof.Machine.execMaskWrite src p rx v s
  | .audioClockAbsent t p rx => Sys2Proof.Machine.execAudioClockAbsent t p rx s
  | .audioRateGate t p rx hz => Sys2Proof.Machine.execAudioRateGate t p rx hz s
  | .audioClockRestored t p rx => Sys2Proof.Machine.execAudioClockRestored t p rx s
  | .audioPacketTx t c => Sys2Proof.Machine.execAudioPacketTx t c s
  | .rulesetActivate src v => Sys2Proof.Machine.execRulesetActivate src v s
  | .rulesetActivateDone t => Sys2Proof.Machine.execRulesetActivateDone t s
  | .bindWrite src n v => Sys2Proof.Machine.execBindWrite src n v s
  | .lockdownWrite src v => Sys2Proof.Machine.execLockdownWrite src v s
  | .ringEnable src k v => Sys2Proof.Machine.execRingEnable src k v s
  | .ringDisable src k v => Sys2Proof.Machine.execRingDisable src k v s
  | .doorbell src k v => Sys2Proof.Machine.execDoorbell src k v s
  | .ringAgeAttention t k => Sys2Proof.Machine.execRingAgeAttention t k s
  | .chkJobDone t u => Sys2Proof.Machine.execChkJobDone t u s
  | .faultRecordPost t => Sys2Proof.Machine.execFaultRecordPost t s
  | .counterClear src v => Sys2Proof.Machine.execCounterClear src v s
  | .vinStartReached t mv => Sys2Proof.Machine.execVinStartReached t mv s
  | .inrushEnd t us => Sys2Proof.Machine.execInrushEnd t us s
  | .inrushTimeout t vibOk => Sys2Proof.Machine.execInrushTimeout t vibOk s
  | .startStepDone t temp extOk repairOk => Sys2Proof.Machine.execStartStepDone t temp extOk repairOk s
  | .startStepTimeout t => Sys2Proof.Machine.execStartStepTimeout t s
  | .warmDone t => Sys2Proof.Machine.execWarmDone t s
  | .vinWarnCross t mv => Sys2Proof.Machine.execVinWarnCross t mv s
  | .vinRecover t mv => Sys2Proof.Machine.execVinRecover t mv s
  | .vinResetCross t => Sys2Proof.Machine.execVinResetCross t s
  | .vinHigh t mv => Sys2Proof.Machine.execVinHigh t mv s
  | .vinOv t mv => Sys2Proof.Machine.execVinOv t mv s
  | .iinLimit t ma => Sys2Proof.Machine.execIinLimit t ma s
  | .railToleranceFault t r high => Sys2Proof.Machine.execRailToleranceFault t r high s
  | .railHardFault t r trip => Sys2Proof.Machine.execRailHardFault t r trip s
  | .holdupLow t mv => Sys2Proof.Machine.execHoldupLow t mv s
  | .wakeAdmit t lane n => Sys2Proof.Machine.execWakeAdmit t lane n s
  | .governorStep t pin => Sys2Proof.Machine.execGovernorStep t pin s
  | .governorRelease t pin => Sys2Proof.Machine.execGovernorRelease t pin s
  | .holdupReserveReached t mv => Sys2Proof.Machine.execHoldupReserveReached t mv s
  | .orderlyStopDone t => Sys2Proof.Machine.execOrderlyStopDone t s
  | .autoRestart t => Sys2Proof.Machine.execAutoRestart t s
  | .stopWrite src v => Sys2Proof.Machine.execStopWrite src v s
  | .vinWarnCfgWrite src v => Sys2Proof.Machine.execVinWarnCfgWrite src v s
  | .tempSample t raw => Sys2Proof.Machine.execTempSample t raw s
  | .sensorFail t n => Sys2Proof.Machine.execSensorFail t n s
  | .thermalCapStep t => Sys2Proof.Machine.execThermalCapStep t s
  | .hardTrip t => Sys2Proof.Machine.execHardTrip t s
  | .ledgerSecond t mv => Sys2Proof.Machine.execLedgerSecond t mv s
  | .pmonMeasure t drift => Sys2Proof.Machine.execPmonMeasure t drift s
  | .ledgerRecordWrite t => Sys2Proof.Machine.execLedgerRecordWrite t s
  | .ledgerSave src v => Sys2Proof.Machine.execLedgerSave src v s
  | .ledgerWriteDone t ok => Sys2Proof.Machine.execLedgerWriteDone t ok s
  | .modeReqWrite src v => Sys2Proof.Machine.execModeReqWrite src v s
  | .warmReset src v => Sys2Proof.Machine.execWarmReset src v s
  | .resetNAssert t => Sys2Proof.Machine.execResetNAssert t s
  | .resetNRelease t => Sys2Proof.Machine.execResetNRelease t s
  | .selfTestDone t results repairs mainOk => Sys2Proof.Machine.execSelfTestDone t results repairs mainOk s
  | .testConditionsRetry t u => Sys2Proof.Machine.execTestConditionsRetry t u s
  | .bootLoadDone t sfdp sigA sigB => Sys2Proof.Machine.execBootLoadDone t sfdp sigA sigB s
  | .bootConfirm src v => Sys2Proof.Machine.execBootConfirm src v s
  | .bootWdog t => Sys2Proof.Machine.execBootWdog t s
  | .fenceWrite src k v => Sys2Proof.Machine.execFenceWrite src k v s
  | .fuseSramRepair src v => Sys2Proof.Machine.execFuseSramRepair src v s
  | .fuseFence src v => Sys2Proof.Machine.execFuseFence src v s
  | .fuseCmdDone t verify => Sys2Proof.Machine.execFuseCmdDone t verify s
  | .pprGo src v => Sys2Proof.Machine.execPprGo src v s
  | .pprDone t resource => Sys2Proof.Machine.execPprDone t resource s
  | .istGo src v => Sys2Proof.Machine.execIstGo src v s
  | .istDone t result detail soft => Sys2Proof.Machine.execIstDone t result detail soft s
  | .illegalInstruction e w => Sys2Proof.Machine.execIllegalInstruction e w s
  | .sampleReturns t => Sys2Proof.Machine.execSampleReturns t s
  | .vaonLost t => Sys2Proof.Machine.execVaonLost t s
  | .jtagHalt e => Sys2Proof.Machine.execJtagHalt e s
  | .testOutOfConditions t => Sys2Proof.Machine.execTestOutOfConditions t s
  | .deratedTimer t => Sys2Proof.Machine.execDeratedTimer t s

end Sys2Proof.Machine
end

