-- ==== Sys2Proof/Machine/Step.lean ====
section
/-! DEFINITION. The step of the block: the command at the front of its queue, or one PIXEL clock when the queue is
empty. -/
namespace Sys2Proof.Machine

/-- The state with the command that a table word spells put at the front of its queue; no word spells one. -/
def State.withFetchWord (s : State) (nbits w : Nat) : State :=
  match decodeTableWord nbits w with
  | some c => { s with pending := c :: s.pending }
  | none => s

/-- One step: the first waiting command runs with the rest of the queue behind it; on an empty queue one PIXEL clock
passes and nothing else happens (log entry 1). -/
def step (s : State) : Host.Outcome State Fault Refusal :=
  match s.pending with
  | [] => .next (s.advance 1)
  | c :: cs => exec c { s with pending := cs }

end Sys2Proof.Machine
end

