-- ==== Sys2Proof/WellFormed.lean ====
section
/-! DEFINITION. Well-formed commands: what the types of the operands do not already say. -/
namespace Sys2Proof

/-- An address of the register space or of the L2 control registers (R21, R170). -/
def regAddr (a : Nat) : Bool := (0x2000000000 ≤ a && a < 0x2001600000) || (0x1082000000 ≤ a && a < 0x1082001000)

/-- IMM16 [7:6] names the kind of the shift (R143). -/
def shiftKind (k : Nat) (imm : BitVec 16) : Bool := Machine.bits imm.toNat 6 2 = k

/-- A command whose operands the spec gives a meaning to: a register write reaches an aligned register address (R25), the
halves of a 64-bit register are those of R573, a transfer carries its own length (R456), a shift carries its own kind (R143),
and an illegal word is one that the engine does not execute (R140, R182). -/
def Instr.wf : Instr → Bool
  | .refSwitch _ => true
  | .refLostBoth _ => true
  | .clockLoss _ _ => true
  | .clockDrift _ _ khz => khz < 2 ^ 32
  | .sampleCfgWrite _ _ => true
  | .registerWrite _ a _ => regAddr a.toNat && a.toNat % 4 = 0
  | .reg64LowWrite _ a _ => regAddr a.toNat && Machine.isLow64 (Machine.regKey a.toNat)
  | .reg64HighWrite _ a _ => regAddr a.toNat && 4 ≤ a.toNat && Machine.isLow64 (Machine.regKey (a.toNat - 4))
  | .reg64LowRead _ a => regAddr a.toNat && Machine.isLow64 (Machine.regKey a.toNat)
  | .initiatorCheck _ k a len data => 1 ≤ len.val && a < 2 ^ 40 && data.length = (match k with | .write => len.val | _ => 0)
  | .targetCheck _ _ => true
  | .patrolScrub _ _ finds => finds.all (fun f => f.1 < 2 ^ 40)
  | .lineStart _ _ _ => true
  | .ageProgressVote _ _ _ => true
  | .integrityCompare _ _ => true
  | .voteComplete _ _ _ _ _ => true
  | .verdictDelivery _ _ => true
  | .composeLine _ _ => true
  | .lineUnderrun _ _ ws => ws.Nodup
  | .echoTimeout _ _ line _ => line < 2 ^ 14
  | .vigilCtrlWrite _ _ => true
  | .colourWrite _ _ _ => true
  | .vigilInject _ _ => true
  | .frameStart _ _ => true
  | .apply _ _ => true
  | .applyDone _ _ => true
  | .commitReq _ _ _ => true
  | .timingWrite _ _ _ _ => true
  | .headEnable _ _ _ => true
  | .headDisable _ _ _ => true
  | .refWrite _ _ _ => true
  | .genlockPulse _ _ _ => true
  | .pulseMissing _ _ => true
  | .genlockLost _ _ => true
  | .virtualPulse _ _ => true
  | .spanEnable _ _ _ => true
  | .spanDisable _ _ _ => true
  | .spanMembersWrite _ _ _ _ => true
  | .maintenanceStart _ _ _ _ => true
  | .refreshForced _ _ => true
  | .add _ _ _ _ => true
  | .sub _ _ _ _ => true
  | .and _ _ _ _ => true
  | .or _ _ _ _ => true
  | .xor _ _ _ _ => true
  | .shl _ _ _ _ => true
  | .shr _ _ _ _ => true
  | .sar _ _ _ _ => true
  | .lt _ _ _ _ => true
  | .ltu _ _ _ _ => true
  | .mins _ _ _ _ => true
  | .maxs _ _ _ _ => true
  | .minu _ _ _ _ => true
  | .maxu _ _ _ _ => true
  | .andn _ _ _ _ => true
  | .rol _ _ _ _ => true
  | .mul _ _ _ _ => true
  | .mulhs _ _ _ _ => true
  | .mulhu _ _ _ _ => true
  | .quos _ _ _ _ => true
  | .quou _ _ _ _ => true
  | .mods _ _ _ _ => true
  | .modu _ _ _ _ => true
  | .add32 _ _ _ _ => true
  | .sub32 _ _ _ _ => true
  | .shl32 _ _ _ _ => true
  | .shr32 _ _ _ _ => true
  | .sar32 _ _ _ _ => true
  | .mul32 _ _ _ _ => true
  | .sext32 _ _ _ _ => true
  | .bswap _ _ _ _ => true
  | .lzc _ _ _ _ => true
  | .tzc _ _ _ _ => true
  | .ones _ _ _ _ => true
  | .addk _ _ _ _ => true
  | .addk32 _ _ _ _ => true
  | .andk _ _ _ _ => true
  | .ork _ _ _ _ => true
  | .xork _ _ _ _ => true
  | .ltk _ _ _ _ => true
  | .ltuk _ _ _ _ => true
  | .shlk _ _ _ imm => shiftKind 0 imm
  | .shrk _ _ _ imm => shiftKind 1 imm
  | .sark _ _ _ imm => shiftKind 2 imm
  | .rolk _ _ _ imm => shiftKind 3 imm
  | .setu _ _ _ => true
  | .addh _ _ _ _ => true
  | .pcrel _ _ _ => true
  | .ldS8 _ _ _ _ _ => true
  | .ldS16 _ _ _ _ _ => true
  | .ldS32 _ _ _ _ _ => true
  | .ld64 _ _ _ _ _ => true
  | .ldU8 _ _ _ _ _ => true
  | .ldU16 _ _ _ _ _ => true
  | .ldU32 _ _ _ _ _ => true
  | .st8 _ _ _ _ => true
  | .st16 _ _ _ _ => true
  | .st32 _ _ _ _ => true
  | .st64 _ _ _ _ => true
  | .braEq _ _ _ _ => true
  | .braNe _ _ _ _ => true
  | .braLt _ _ _ _ => true
  | .braGe _ _ _ _ => true
  | .braLtu _ _ _ _ => true
  | .braGeu _ _ _ _ => true
  | .jmp _ _ => true
  | .call _ _ => true
  | .callr _ _ _ _ => true
  | .atSwap _ _ _ _ _ _ => true
  | .atAdd _ _ _ _ _ _ => true
  | .atAnd _ _ _ _ _ _ => true
  | .atOr _ _ _ _ _ _ => true
  | .atXor _ _ _ _ _ _ => true
  | .atMins _ _ _ _ _ _ => true
  | .atMaxs _ _ _ _ _ _ => true
  | .atMinu _ _ _ _ _ _ => true
  | .atMaxu _ _ _ _ _ _ => true
  | .atCas _ _ _ _ _ _ => true
  | .atSadd _ _ _ _ _ _ => true
  | .srd _ _ _ => true
  | .swr _ _ _ => true
  | .srs _ _ _ _ => true
  | .src _ _ _ _ => true
  | .trap _ _ => true
  | .brk _ _ => true
  | .eret _ => true
  | .fence _ => true
  | .fenceI _ => true
  | .cclean _ _ => true
  | .cinval _ _ => true
  | .cflush _ _ => true
  | .rulesync _ => true
  | .rulesyncDone _ _ => true
  | .timerestep _ _ => true
  | .rput _ _ _ _ => true
  | .rget _ _ _ _ => true
  | .rbell _ _ _ _ => true
  | .rwait _ _ _ => true
  | .rwaitDone _ _ => true
  | .impreciseStoreRefusal _ _ => true
  | .attention _ _ => true
  | .coreStart _ _ _ => true
  | .coreHalt _ _ _ => true
  | .coreWatchdog _ _ => true
  | .wdogKick _ _ _ => true
  | .l2SramWaysWrite _ _ => true
  | .l2ReconfigDone _ => true
  | .ncWindowWrite _ _ _ _ => true
  | .wline _ _ _ _ => true
  | .wlineI _ _ _ => true
  | .wframe _ _ _ _ => true
  | .wtime _ _ _ => true
  | .waitDone _ _ => true
  | .stamp _ _ _ => true
  | .commit _ _ _ => true
  | .place _ _ _ _ => true
  | .pick _ _ _ => true
  | .withhold _ _ _ => true
  | .trig _ _ _ _ => true
  | .tagld _ _ _ _ => true
  | .tagchk _ _ _ => true
  | .crc _ _ _ _ _ => true
  | .scan _ _ _ _ => true
  | .seqStart _ _ _ => true
  | .seqHalt _ _ _ => true
  | .seqBudget _ _ => true
  | .seqWatchdog _ _ => true
  | .seqMemWrite _ _ _ _ => true
  | .placeCtlGo _ _ => true
  | .descriptorWrite _ _ _ _ => true
  | .coefLoadGo _ _ => true
  | .coefLoadDone _ => true
  | .copySetEnable _ _ _ => true
  | .copyJobStart _ _ => true
  | .copyJobDone _ _ => true
  | .contextOpen _ _ _ => true
  | .contextClose _ _ _ => true
  | .contextDrained _ _ => true
  | .contextFieldWrite _ _ _ _ => true
  | .ruleAdd _ _ => true
  | .ruleDel _ _ => true
  | .ruleRead _ _ => true
  | .ruleCmdDone _ => true
  | .ethRxFrame _ _ _ frame => 14 ≤ frame.length
  | .gapDeclaredLost _ _ => true
  | .networkSilent _ _ _ => true
  | .pipeDispatch _ _ => true
  | .pictureDecoded _ _ _ => true
  | .slotWaitExpiry _ _ => true
  | .bufReturn _ _ => true
  | .keypicRequest _ _ => true
  | .contextMigrate _ => true
  | .pipeRateUpdate _ _ => true
  | .pipeStallFail _ _ _ => true
  | .decPipeEnWrite _ _ => true
  | .sessionEnable _ _ _ => true
  | .sessionFieldWrite _ _ _ _ => true
  | .keyReq _ _ _ => true
  | .encRow _ _ _ => true
  | .encPipeStall _ _ _ => true
  | .encPipeEnWrite _ _ => true
  | .ethTxFrame _ _ => true
  | .hosttxEntry _ => true
  | .portEnable _ _ _ => true
  | .portUp _ _ => true
  | .portDown _ _ _ => true
  | .mgmtEnable _ _ => true
  | .mdioGo _ _ => true
  | .mdioDone _ _ => true
  | .servoSample _ _ => true
  | .freqWrite _ _ => true
  | .servoCfgWrite _ _ => true
  | .servoHoldover _ => true
  | .timeStepApply _ => true
  | .timeTriggerFire _ _ => true
  | .triggerCtlWrite _ _ _ _ => true
  | .laneEnable _ _ _ => true
  | .laneDisable _ _ _ => true
  | .bringupStageDone _ _ _ => true
  | .bringupTimeout _ _ => true
  | .bringupRestart _ _ => true
  | .capSend _ _ => true
  | .blockReceived _ _ _ => true
  | .laneSignalLoss _ _ => true
  | .laneBeaconTimeout _ _ => true
  | .blockSend _ _ => true
  | .outmapWrite _ _ _ => true
  | .sensemapWrite _ _ _ => true
  | .hostLaneTx _ => true
  | .loopWrite _ _ _ => true
  | .panelEnable _ _ _ => true
  | .panelDisable _ _ _ => true
  | .senseCmdTimeout _ _ => true
  | .localScanDone _ p _ => 32 ≤ p.val
  | .touchFrameTimeout _ _ => true
  | .waterTimeout _ _ => true
  | .touchRateStep _ _ => true
  | .touchCmdTest _ _ _ => true
  | .touchCmdRecover _ _ _ => true
  | .audioSideEnable _ _ _ _ => true
  | .audioFrameStart _ _ _ samples => samples.length ≤ 16
  | .maskWrite _ _ _ _ => true
  | .audioClockAbsent _ _ _ => true
  | .audioRateGate _ _ _ _ => true
  | .audioClockRestored _ _ _ => true
  | .audioPacketTx _ _ => true
  | .rulesetActivate _ _ => true
  | .rulesetActivateDone _ => true
  | .bindWrite _ _ _ => true
  | .lockdownWrite _ _ => true
  | .ringEnable _ _ _ => true
  | .ringDisable _ _ _ => true
  | .doorbell _ _ _ => true
  | .ringAgeAttention _ _ => true
  | .chkJobDone _ _ => true
  | .faultRecordPost _ => true
  | .counterClear _ _ => true
  | .vinStartReached _ _ => true
  | .inrushEnd _ _ => true
  | .inrushTimeout _ _ => true
  | .startStepDone _ _ _ _ => true
  | .startStepTimeout _ => true
  | .warmDone _ => true
  | .vinWarnCross _ _ => true
  | .vinRecover _ _ => true
  | .vinResetCross _ => true
  | .vinHigh _ _ => true
  | .vinOv _ _ => true
  | .iinLimit _ _ => true
  | .railToleranceFault _ _ _ => true
  | .railHardFault _ _ _ => true
  | .holdupLow _ _ => true
  | .wakeAdmit _ _ _ => true
  | .governorStep _ _ => true
  | .governorRelease _ _ => true
  | .holdupReserveReached _ _ => true
  | .orderlyStopDone _ => true
  | .autoRestart _ => true
  | .stopWrite _ _ => true
  | .vinWarnCfgWrite _ _ => true
  | .tempSample _ raw => raw.length = 24
  | .sensorFail _ _ => true
  | .thermalCapStep _ => true
  | .hardTrip _ => true
  | .ledgerSecond _ _ => true
  | .pmonMeasure _ _ => true
  | .ledgerRecordWrite _ => true
  | .ledgerSave _ _ => true
  | .ledgerWriteDone _ _ => true
  | .modeReqWrite _ _ => true
  | .warmReset _ _ => true
  | .resetNAssert _ => true
  | .resetNRelease _ => true
  | .selfTestDone _ _ _ _ => true
  | .testConditionsRetry _ _ => true
  | .bootLoadDone _ _ _ _ => true
  | .bootConfirm _ _ => true
  | .bootWdog _ => true
  | .fenceWrite _ _ _ => true
  | .fuseSramRepair _ _ => true
  | .fuseFence _ _ => true
  | .fuseCmdDone _ _ => true
  | .pprGo _ _ => true
  | .pprDone _ _ => true
  | .istGo _ _ => true
  | .istDone _ _ _ _ => true
  | .illegalInstruction e w => !Machine.executes (Machine.Eng.isCore e) w.toNat
  | .sampleReturns _ => true
  | .vaonLost _ => true
  | .jtagHalt _ => true
  | .testOutOfConditions _ => true
  | .deratedTimer _ => true

end Sys2Proof
end

