-- ==== Sys2Proof/Safety.lean ====
section
/-! DEFINITION. The terms in which claims are made: what a command answers, what a step leaves alone, and the form that
the memories of a state keep. -/
namespace Sys2Proof.Machine

/-! ### Answers -/

/-- The command answers a next state, and that state has the property. -/
def Reaches (c : Instr) (s : State) (p : State → Prop) : Prop := ∃ t, exec c s = .next t ∧ p t

/-! ### What stays -/

/-- Every byte reads as before: of memory, as the units and as the cores see it, and of the sequencers' local memories. -/
def SameBytes (s t : State) : Prop :=
  ∀ a, cellGet 0 t.mem a = cellGet 0 s.mem a ∧ t.coreByte a = s.coreByte a ∧ cellGet 0 t.seqMem a = cellGet 0 s.seqMem a

/-- Nothing but engine `k` has changed. -/
def OnlyEngine (k : Nat) (s t : State) : Prop := { t with eng := s.eng } = s ∧ ∀ j, j ≠ k → t.engine j = s.engine j

/-- Nothing but the registers at the keys `ks` has changed. -/
def OnlyRegs (ks : List Nat) (s t : State) : Prop :=
  { t with regs := s.regs } = s ∧ ∀ k, k ∉ ks → tabGet? t.regs k = tabGet? s.regs k

/-- Nothing but the registers of block 21 (FAULT), where a record and its counts stand, the registers at the keys `ks` and
the fault log has changed. -/
def OnlyLogged (ks : List Nat) (s t : State) : Prop :=
  { t with regs := s.regs, log := s.log } = s ∧ ∀ k, k / 0x100000 ≠ 21 → k ∉ ks → tabGet? t.regs k = tabGet? s.regs k

/-! ### Completion of a Priad instruction -/

/-- The state after an instruction of engine `e` that writes `v` into D and does nothing else: PC and RETIRED move on (R136,
R137, R139). -/
def State.wrote (s : State) (e : Eng) (d : Nat) (v : Dword) : State :=
  let x := (s.engine (Eng.key e)).setG d v
  s.setEngine (Eng.key e) { x with pc := (x.pc + 4) % 2 ^ 40, retired := (x.retired + 1) % 2 ^ 64 }

/-- The state after an instruction of engine `e` that goes to `pc` and does nothing else. -/
def State.went (s : State) (e : Eng) (pc : Nat) : State :=
  let x := s.engine (Eng.key e)
  s.setEngine (Eng.key e) { x with pc := pc, retired := (x.retired + 1) % 2 ^ 64 }

/-- A register write of `i` reaches the register at `key` at once: no access of `i` to a register is in flight (R27), the
member has the register, and no WK field bars a User-level write (R2, R454, R459). -/
abbrev Admits (s : State) (i : Initiator) (key : Nat) : Prop :=
  s.regQueued (s.issuer i) = false ∧ s.keyPresent key = true ∧ (s.atKeeperLevel i = true ∨ s.holdsWk key = false)

/-! ### The form of the memories -/

/-- The canonical form of a memory whose unlisted bytes read as zero. -/
def Memory.wf (m : List Host.Cell) : Bool := cellsWf 0 m

/-- The keys of a table rise strictly. -/
def rising {α : Type} : Tab α → Bool
  | [] => true
  | [_] => true
  | (a, _) :: (b, w) :: t => decide (a < b) && rising ((b, w) :: t)

/-- Memory, the local memories and the flash hold their canonical form, and the dirty bytes of the L2 stand by rising
address. -/
def State.memoriesOk (s : State) : Bool := Memory.wf s.mem && Memory.wf s.seqMem && cellsWf 0xFF s.flash && rising s.dirty

/-! ### Legal program counters and modes -/

/-- The instructions of the integer, immediate and branch groups, the accesses to system registers, `trap`, `brk` and `eret`. -/
def computes : Instr → Bool
  | .add .. | .sub .. | .and .. | .or .. | .xor .. | .shl .. | .shr .. | .sar .. | .lt .. | .ltu .. | .mins .. | .maxs .. => true
  | .minu .. | .maxu .. | .andn .. | .rol .. | .mul .. | .mulhs .. | .mulhu .. | .quos .. | .quou .. | .mods .. | .modu .. => true
  | .add32 .. | .sub32 .. | .shl32 .. | .shr32 .. | .sar32 .. | .mul32 .. | .sext32 .. | .bswap .. | .lzc .. | .tzc .. => true
  | .ones .. | .addk .. | .addk32 .. | .andk .. | .ork .. | .xork .. | .ltk .. | .ltuk .. | .shlk .. | .shrk .. | .sark .. => true
  | .rolk .. | .setu .. | .addh .. | .pcrel .. | .braEq .. | .braNe .. | .braLt .. | .braGe .. | .braLtu .. | .braGeu .. => true
  | .jmp .. | .call .. | .callr .. | .srd .. | .swr .. | .srs .. | .src .. | .trap .. | .brk .. | .eret .. => true
  | _ => false

/-- Of every engine the PC and EPC are word addresses below 2^40, EVEC a page address, and PSTATE and EPSTATE hold nothing
beyond their three bits (R136, R137). -/
def State.pcsLegal (s : State) : Prop :=
  ∀ k, let e := s.engine k
    e.pc % 4 = 0 ∧ e.pc < 2 ^ 40 ∧ e.sreg 2 % 4 = 0 ∧ e.sreg 2 < 2 ^ 40 ∧ e.sreg 8 % 4096 = 0 ∧ e.sreg 1 < 8 ∧ e.sreg 3 < 8

end Sys2Proof.Machine
end

