-- ==== Sys2Proof/Certificates/Slice0/Obligations.lean ====
section
/-! DEFINITION. The statements for the provers. Each says what it states in its docstring, with the rules it rests on. -/

open Sys2Proof Sys2Proof.Machine

/-- For every command c and state s, a step of s with c at the front of its queue is exec of c on s with the rest of the
queue. On an empty queue one PIXEL clock passes and nothing else changes (the model's own tick, log entry 1). In every
state every command answers a next state: none stops the machine. (R11, R88) -/
def Obligations.FrontCommandRuns : Prop :=
  (∀ (c : Instr) (q : List Instr) (s : State), step { s with pending := c :: q } = exec c { s with pending := q }) ∧
  (∀ s : State, s.pending = [] → ∃ t, step s = .next t ∧ t.time.pix = s.time.pix + 1 ∧ t.regs = s.regs ∧
    t.eng = s.eng ∧ SameBytes s t) ∧
  (∀ (c : Instr) (s : State), ∃ t, exec c s = .next t)

/-- On every engine at an instruction boundary at which nothing else is to be taken, add, sub, the logical and shift
functions, the comparisons, lesser and greater, mul, mulhs, mulhu and the 32-bit forms write their result of A and B
into D and do nothing else. What the ECC finds in the fetch is counted and logged first. On every engine, lzc writes
the number n of leading zero bits of A (A lies below 2^(64-n), and bit 63-n is set unless n is 64), tzc the number n
of trailing zero bits (A is a multiple of 2^n, and bit n is set unless n is 64), ones the number of one bits, and
bswap a doubleword whose byte i is byte 7-i of A. B is ignored. What the ECC finds in the fetch is counted and logged
first. After an instruction that writes v into D and does nothing else, D holds v unless it is g0, g0 reads as zero,
every other general register, every system register and the tag buffer hold what they held, the PC has moved to the
next word, no other engine and nothing outside the engine has changed, and every byte reads as before. A write of g0
leaves every register as it was. (R134, R136, R137, R141) -/
def Obligations.IntegerResults : Prop :=
  (∀ (e : Eng) (d a b : Fin 32) (s : State), s.boundary e = none →
     let c := s.fetched e
     let x := s.gr (Eng.key e) a
     let y := s.gr (Eng.key e) b
     let gives := fun (i : Instr) (v : Dword) => exec i s = .next (c.wrote e d v)
     gives (.add e d a b) (x + y) ∧ gives (.sub e d a b) (x - y) ∧ gives (.and e d a b) (x &&& y) ∧
     gives (.or e d a b) (x ||| y) ∧ gives (.xor e d a b) (x ^^^ y) ∧ gives (.andn e d a b) (x &&& ~~~y) ∧
     gives (.shl e d a b) (x <<< (y.toNat % 64)) ∧ gives (.shr e d a b) (x >>> (y.toNat % 64)) ∧
     gives (.sar e d a b) (x.sshiftRight (y.toNat % 64)) ∧ gives (.rol e d a b) (x.rotateLeft (y.toNat % 64)) ∧
     gives (.lt e d a b) (if x.toInt < y.toInt then 1 else 0) ∧ gives (.ltu e d a b) (if x.toNat < y.toNat then 1 else 0) ∧
     gives (.mins e d a b) (if x.toInt ≤ y.toInt then x else y) ∧ gives (.maxs e d a b) (if x.toInt ≤ y.toInt then y else x) ∧
     gives (.minu e d a b) (if x.toNat ≤ y.toNat then x else y) ∧ gives (.maxu e d a b) (if x.toNat ≤ y.toNat then y else x) ∧
     gives (.mul e d a b) (x * y) ∧ gives (.mulhs e d a b) (BitVec.ofInt 64 (x.toInt * y.toInt / 2 ^ 64)) ∧
     gives (.mulhu e d a b) (BitVec.ofNat 64 (x.toNat * y.toNat / 2 ^ 64)) ∧
     gives (.add32 e d a b) (BitVec.ofNat 64 ((x.toNat + y.toNat) % 2 ^ 32)) ∧
     gives (.sub32 e d a b) ((x.setWidth 32 - y.setWidth 32).zeroExtend 64) ∧
     gives (.shl32 e d a b) ((x.setWidth 32 <<< (y.toNat % 32)).zeroExtend 64) ∧
     gives (.shr32 e d a b) (BitVec.ofNat 64 (x.toNat % 2 ^ 32 / 2 ^ (y.toNat % 32))) ∧
     gives (.sar32 e d a b) (((x.setWidth 32).sshiftRight (y.toNat % 32)).zeroExtend 64) ∧
     gives (.mul32 e d a b) (BitVec.ofNat 64 (x.toNat * y.toNat % 2 ^ 32)) ∧
     gives (.sext32 e d a b) ((x.setWidth 32).signExtend 64)) ∧
  (∀ (e : Eng) (d a b : Fin 32) (s : State), s.boundary e = none →
     let c := s.fetched e
     let x := s.gr (Eng.key e) a
     (∃ n : Nat, exec (.lzc e d a b) s = .next (c.wrote e d (BitVec.ofNat 64 n)) ∧ n ≤ 64 ∧ x.toNat < 2 ^ (64 - n) ∧
       (n < 64 → 2 ^ (63 - n) ≤ x.toNat)) ∧
     (∃ n : Nat, exec (.tzc e d a b) s = .next (c.wrote e d (BitVec.ofNat 64 n)) ∧ n ≤ 64 ∧ x.toNat % 2 ^ n = 0 ∧
       (n < 64 → x.toNat / 2 ^ n % 2 = 1) ∧ (n = 64 → x = 0)) ∧
     exec (.ones e d a b) s = .next (c.wrote e d (BitVec.ofNat 64 ((List.range 64).filter (fun i => x.getLsbD i)).length)) ∧
     (∃ v : Dword, exec (.bswap e d a b) s = .next (c.wrote e d v) ∧
       ∀ i, i < 8 → v.toNat / 2 ^ (8 * i) % 256 = x.toNat / 2 ^ (8 * (7 - i)) % 256)) ∧
  (∀ (e : Eng) (d : Fin 32) (v : Dword) (s : State),
     let k := Eng.key e
     let t := s.wrote e d v
     t.gr k 0 = 0 ∧ (d ≠ 0 → t.gr k d = v) ∧ (∀ r, r ≠ d.val → t.gr k r = s.gr k r) ∧ (d = 0 → ∀ r, t.gr k r = s.gr k r) ∧
     (∀ n, (t.engine k).sreg n = (s.engine k).sreg n) ∧ (t.engine k).tb = (s.engine k).tb ∧
     (t.engine k).impr = (s.engine k).impr ∧ (t.engine k).pc = ((s.engine k).pc + 4) % 2 ^ 40 ∧ OnlyEngine k s t ∧ SameBytes s t)

/-- On a core at a boundary, quos and mods give q and r, quou and modu give q' and r'. With B zero, quos gives 2^63 - 1
when A is zero or positive and -2^63 when A is negative, quou gives all ones, and mods and modu give A. When A is
-2^63 and B is -1, quos gives 2^63 - 1 and mods gives 0. Everywhere else A = quotient × B + remainder holds exactly,
the remainder is smaller in size than B and carries the sign of A. (R142) -/
def Obligations.DivisionCorners : Prop :=
  ∀ (c : Fin 16) (d a b : Fin 32) (s : State), s.boundary (.core c) = none →
    let x := s.gr c a
    let y := s.gr c b
    ∃ q r q' r' : Dword,
      exec (.quos (.core c) d a b) s = .next (s.wrote (.core c) d q) ∧
      exec (.mods (.core c) d a b) s = .next (s.wrote (.core c) d r) ∧
      exec (.quou (.core c) d a b) s = .next (s.wrote (.core c) d q') ∧
      exec (.modu (.core c) d a b) s = .next (s.wrote (.core c) d r') ∧
      (y = 0 → q.toInt = (if 0 ≤ x.toInt then 2 ^ 63 - 1 else -2 ^ 63) ∧ r = x ∧ q'.toNat = 2 ^ 64 - 1 ∧ r' = x) ∧
      (x.toInt = -2 ^ 63 → y.toInt = -1 → q.toInt = 2 ^ 63 - 1 ∧ r = 0) ∧
      (y ≠ 0 → ¬(x.toInt = -2 ^ 63 ∧ y.toInt = -1) → x.toInt = q.toInt * y.toInt + r.toInt ∧ r.toInt.natAbs < y.toInt.natAbs ∧
        (r.toInt = 0 ∨ (r.toInt < 0 ↔ x.toInt < 0))) ∧
      (y ≠ 0 → x.toNat = q'.toNat * y.toNat + r'.toNat ∧ r'.toNat < y.toNat)

/-- On every engine at a boundary, each instruction of the immediate group writes its result into D and does nothing else:
addk, ltk and ltuk take IMM16 sign-extended, addk32 adds it in 32 bits, andk, ork and xork take it zero-extended, setu
writes IMM21 sign-extended and shifted left by 16, addh adds IMM16 sign-extended and shifted left by 32, and pcrel
writes the instruction's own address plus 4 × IMM21 sign-extended. What the ECC finds in the fetch is counted and
logged first. On every engine at a boundary: with IMM16 [15:8] zero the shifts of major opcode 0x09 shift A by IMM16
[5:0]; with IMM16 [15:8] equal to 1 and bit 5 clear they shift bits [31:0] of A by IMM16 [4:0] and zero-extend the
32-bit result. With any of IMM16 [15:9] set, or bit 8 and bit 5 both set, the instruction raises ILLEGAL, cause 1.
What the ECC finds in the fetch is counted and logged first. (R143) -/
def Obligations.ImmediateResults : Prop :=
  (∀ (e : Eng) (d a : Fin 32) (i : BitVec 16) (u : BitVec 21) (s : State), s.boundary e = none →
     let c := s.fetched e
     let x := s.gr (Eng.key e) a
     let gives := fun (i : Instr) (v : Dword) => exec i s = .next (c.wrote e d v)
     gives (.addk e d a i) (x + BitVec.ofInt 64 i.toInt) ∧
     gives (.addk32 e d a i) ((x.setWidth 32 + i.signExtend 32).zeroExtend 64) ∧
     gives (.andk e d a i) (x &&& BitVec.ofNat 64 i.toNat) ∧ gives (.ork e d a i) (x ||| BitVec.ofNat 64 i.toNat) ∧
     gives (.xork e d a i) (x ^^^ BitVec.ofNat 64 i.toNat) ∧
     gives (.ltk e d a i) (if x.toInt < i.toInt then 1 else 0) ∧
     gives (.ltuk e d a i) (if x.toNat < (i.signExtend 64).toNat then 1 else 0) ∧
     gives (.setu e d u) (BitVec.ofInt 64 (u.toInt * 2 ^ 16)) ∧
     gives (.addh e d a i) (x + BitVec.ofInt 64 (i.toInt * 2 ^ 32)) ∧
     gives (.pcrel e d u) (BitVec.ofInt 64 ((s.engine (Eng.key e)).pc + 4 * u.toInt))) ∧
  (∀ (e : Eng) (d a : Fin 32) (i : BitVec 16) (s : State), s.boundary e = none →
     let c := s.fetched e
     let x := s.gr (Eng.key e) a
     let n := i.toNat % 64
     let m := i.toNat % 32
     let z : BitVec 32 := x.setWidth 32
     let gives := fun (i : Instr) (v : Dword) => exec i s = .next (c.wrote e d v)
     (i.toNat / 256 = 0 → gives (.shlk e d a i) (x <<< n) ∧ gives (.shrk e d a i) (x >>> n) ∧
       gives (.sark e d a i) (x.sshiftRight n) ∧ gives (.rolk e d a i) (x.rotateLeft n)) ∧
     (i.toNat / 256 = 1 → i.toNat / 32 % 2 = 0 → gives (.shlk e d a i) ((z <<< m).zeroExtend 64) ∧
       gives (.shrk e d a i) ((z >>> m).zeroExtend 64) ∧ gives (.sark e d a i) ((z.sshiftRight m).zeroExtend 64) ∧
       gives (.rolk e d a i) ((z.rotateLeft m).zeroExtend 64)) ∧
     (i.toNat / 512 ≠ 0 ∨ (i.toNat / 256 % 2 = 1 ∧ i.toNat / 32 % 2 = 1) →
       ∃ w : Nat → Nat, exec (.shlk e d a i) s = .next (c.raiseCause e 1 none (w 0)) ∧ exec (.shrk e d a i) s = .next (c.raiseCause e 1 none (w 1)) ∧
         exec (.sark e d a i) s = .next (c.raiseCause e 1 none (w 2)) ∧ exec (.rolk e d a i) s = .next (c.raiseCause e 1 none (w 3))))

/-- On every engine at a boundary: a conditional branch goes to its own address plus 4 × OFF16 sign-extended when its
condition on A and B holds and to the next word otherwise, and changes nothing else; jmp and call go to their own
address plus 4 × OFF26 sign-extended, and call writes its own address plus 4 into g31. Addresses are of 40 bits. What
the ECC finds in the fetch is counted and logged first. On every engine at a boundary, with T = A + 4 × IMM16 sign-
extended: with bits [1:0] and [63:40] of T zero, callr goes to T and writes its own address plus 4 into D, A being
read before D is written. With bits [1:0] of T not zero it raises FETCH_MISALIGNED, and else with any of bits [63:40]
set ADDRESS, at the callr itself: EADDR takes T, and no general register changes, D included. What the ECC finds in
the fetch is counted and logged first. (R136, R147, R148) -/
def Obligations.BranchTargets : Prop :=
  (∀ (e : Eng) (a b : Fin 32) (off : BitVec 16) (far : BitVec 26) (s : State), s.boundary e = none →
     let c := s.fetched e
     let k := Eng.key e
     let pc := (s.engine k).pc
     let x := s.gr k a
     let y := s.gr k b
     let dst := fun (n : Int) => (((pc : Int) + 4 * n) % 2 ^ 40).toNat
     let goes := fun (i : Instr) (p : Bool) => exec i s = .next (c.went e (if p then dst off.toInt else (pc + 4) % 2 ^ 40))
     goes (.braEq e a b off) (x == y) ∧ goes (.braNe e a b off) (x != y) ∧ goes (.braLt e a b off) (x.toInt < y.toInt) ∧
     goes (.braGe e a b off) (y.toInt ≤ x.toInt) ∧ goes (.braLtu e a b off) (x.toNat < y.toNat) ∧
     goes (.braGeu e a b off) (y.toNat ≤ x.toNat) ∧
     exec (.jmp e far) s = .next (c.went e (dst far.toInt)) ∧
     exec (.call e far) s = .next ((c.setGr k 31 (BitVec.ofNat 64 (dst 1))).went e (dst far.toInt))) ∧
  (∀ (e : Eng) (d a : Fin 32) (i : BitVec 16) (s : State), s.boundary e = none →
     let c := s.fetched e
     let k := Eng.key e
     let t := (s.gr k a + BitVec.ofInt 64 (4 * i.toInt)).toNat
     (t % 4 = 0 → t < 2 ^ 40 → exec (.callr e d a i) s =
       .next ((c.setGr k d (BitVec.ofNat 64 (((s.engine k).pc + 4) % 2 ^ 40))).went e t)) ∧
     (t % 4 ≠ 0 → ∃ w, exec (.callr e d a i) s = .next (c.raiseCause e 3 (some t) w)) ∧
     (t % 4 = 0 → 2 ^ 40 ≤ t → ∃ w, exec (.callr e d a i) s = .next (c.raiseCause e 5 (some t) w)) ∧
     (∀ w r cause, ((s.raiseCause e cause (some t) w)).gr k r = s.gr k r))

/-- On a core at a boundary, with an aligned effective address in normal memory that the initiator's checks allow, no
access of the core in flight, no change of the L2 that stalls it, and no poison there once what the ECC finds has been
counted and logged, a load writes the bytes at its address, as the cores see them, into D: sign-extended for ld.s8,
ld.s16 and ld.s32, zero-extended for ld.u8, ld.u16 and ld.u32, whole for ld.64. It does nothing else. While the L2
stalls the access, the load does not issue and nothing changes. (R144, R163, R164, R171, R458) -/
def Obligations.LoadsOfNormalMemory : Prop :=
  ∀ (c : Fin 16) (d a : Fin 32) (i : BitVec 16) (f : MemFind) (s : State), s.boundary (.core c) = none →
    let p := (s.gr c a + BitVec.ofInt 64 i.toInt).toNat
    let u := s.applyFind p c f
    let ok := fun (w : Nat) => p < 2 ^ 40 ∧ p % w = 0 ∧ s.isNormal p = true ∧ (s.initCheck (s.engSrc c) .read p w).1 = true ∧
      s.inFlightOf c = false ∧ u.corePoisoned p w = false
    let free := fun (w : Nat) => ok w ∧ s.l2Stalls p w = false
    let m := fun (w : Nat) => leNat (u.coreRead p w)
    let gives := fun (i : Instr) (v : Dword) => exec i s = .next (u.wrote (.core c) d v)
    (free 1 → gives (.ldS8 (.core c) d a i f) ((BitVec.ofNat 8 (m 1)).signExtend 64) ∧
      gives (.ldU8 (.core c) d a i f) (BitVec.ofNat 64 (m 1))) ∧
    (free 2 → gives (.ldS16 (.core c) d a i f) ((BitVec.ofNat 16 (m 2)).signExtend 64) ∧
      gives (.ldU16 (.core c) d a i f) (BitVec.ofNat 64 (m 2))) ∧
    (free 4 → gives (.ldS32 (.core c) d a i f) ((BitVec.ofNat 32 (m 4)).signExtend 64) ∧
      gives (.ldU32 (.core c) d a i f) (BitVec.ofNat 64 (m 4))) ∧
    (free 8 → gives (.ld64 (.core c) d a i f) (BitVec.ofNat 64 (m 8))) ∧
    (ok 8 → s.l2Stalls p 8 = true → exec (.ld64 (.core c) d a i f) s = .next s)

/-- On a core at a boundary, with an aligned effective address that the initiator's checks allow, a store puts one access
in flight behind all others: a write of the low 1, 2, 4 or 8 bytes of D at its address, least significant byte first,
tagged with the rule set of the core, that set's epoch and the PC. PC and RETIRED move on, no general register and no
byte of memory changes, and nothing else does. When the oldest access in flight is a write of a core to mapped memory
outside register space whose tags are current, with no change of the L2 that stalls it, and the canonical form of
memory holds, TARGET_CHECK performs it: each byte it stores reads, as the cores see memory, as its datum; every other
byte reads as before; the access is in flight no longer; and no register and no general register of any engine
changes. The core is not about to halt. On line sequencer n at a boundary, with an aligned effective address p below
0x4000: ld.64, ld.s32 and ld.u8 write the bytes of its own local memory at p, where no word has an uncorrectable
error, into D, extended as their names say; with such a word there, or with one found now, ld.64 raises MEM_ERROR; a
store changes the bytes p to p + width - 1 of its own local memory to the low bytes of D and no other byte, of its own
or of another sequencer's memory or of the part's memory; a word that it writes whole has no error any more; nothing
is put in flight. (R5, R144, R158, R163, R166, R211, R216, R459, R463, R466) -/
def Obligations.StoresWaitForTheirTarget : Prop :=
  (∀ (c : Fin 16) (d a : Fin 32) (i : BitVec 16) (s : State), s.boundary (.core c) = none →
     let p := (s.gr c a + BitVec.ofInt 64 i.toInt).toNat
     let x := s.engine c
     let does := fun (n : Instr) (w : Nat) => p < 2 ^ 40 → p % w = 0 → (s.initCheck (s.engSrc c) .write p w).1 = true →
       Reaches n s (fun t => { t with bus := s.bus, eng := s.eng } = s ∧ SameBytes s t ∧
         t.engine c = { x with pc := (x.pc + 4) % 2 ^ 40, retired := (x.retired + 1) % 2 ^ 64 } ∧
         (∀ j, j ≠ c.val → t.engine j = s.engine j) ∧
         ∃ y : Access, t.bus = { s.bus with inflight := s.bus.inflight ++ [y] } ∧ y.src = s.engSrc c ∧ y.kind = .write ∧ y.addr = p ∧
           y.len = w ∧ y.data.length = w ∧ (∀ j, j < w → (y.data.getD j 0).toNat = (s.gr c d).toNat / 2 ^ (8 * j) % 256) ∧
           y.set = s.setOf (s.engSrc c).id ∧ y.epoch = s.epochOf y.set ∧ y.pc = x.pc)
     does (.st8 (.core c) d a i) 1 ∧ does (.st16 (.core c) d a i) 2 ∧ does (.st32 (.core c) d a i) 4 ∧ does (.st64 (.core c) d a i) 8) ∧
  (∀ (x : Access) (q : List Access) (f : List (Nat × MemFind)) (s : State), s.bus.inflight = x :: q → x.kind = .write → x.src.id.val < 16 →
     s.mapCheck x.addr x.len = none → (s.region x.addr).isReg = false → s.staleTag x = false → s.accessStalls x = false → x.data.length = x.len → 0 < x.len →
     Memory.wf s.mem = true → (s.engine x.src.id.val).halting = none →
     Reaches (.targetCheck 0 f) s (fun t => (∀ j, j < x.len → t.coreByte (x.addr + j) = x.data.getD j 0) ∧
       (∀ a, a < x.addr ∨ x.addr + x.len ≤ a → t.coreByte a = s.coreByte a) ∧ t.bus = { s.bus with inflight := q } ∧
       t.regs = s.regs ∧ t.eng = s.eng)) ∧
  (∀ (n : Fin 48) (d a : Fin 32) (i : BitVec 16) (s : State), s.boundary (.seq n) = none → Memory.wf s.seqMem = true →
     let e := Eng.seq n
     let p := (s.gr (16 + n) a + BitVec.ofInt 64 i.toInt).toNat
     let at_ := fun (j : Nat) => 0x4000 * n.val + j
     let m := fun (w : Nat) => leNat (cellRead 0 s.seqMem (at_ p) w)
     let stores := fun (c : Instr) (w : Nat) => p < 0x4000 → p % w = 0 → Reaches c s (fun t =>
       (∀ j, j < w → (cellGet 0 t.seqMem (at_ (p + j))).toNat = (s.gr (16 + n) d).toNat / 2 ^ (8 * j) % 256) ∧
       (∀ q, q < at_ p ∨ at_ (p + w) ≤ q → cellGet 0 t.seqMem q = cellGet 0 s.seqMem q) ∧
       { t with seqMem := s.seqMem, seqBad := s.seqBad, eng := s.eng } = s ∧
       (∀ b, b ∈ t.seqBad ↔ b ∈ s.seqBad ∧ ¬(at_ p ≤ 4 * b ∧ 4 * b + 4 ≤ at_ (p + w))) ∧ ∀ r, t.gr (16 + n) r = s.gr (16 + n) r)
     let good := fun (w : Nat) => ∀ b ∈ s.seqBad, b < at_ p / 4 ∨ (at_ p + w - 1) / 4 < b
     (p < 0x4000 → p % 8 = 0 → good 8 → exec (.ld64 e d a i .clean) s = .next (s.wrote e d (BitVec.ofNat 64 (m 8)))) ∧
     (p < 0x4000 → p % 8 = 0 → ¬good 8 → ∃ z, exec (.ld64 e d a i .clean) s = .next (s.raiseCause e 10 (some p) z)) ∧
     (p < 0x4000 → p % 8 = 0 → Reaches (.ld64 e d a i .ue) s (fun t => t.get (F.SEQN_FAULT_CAUSE n) = 10 ∧ at_ p / 4 ∈ t.seqBad)) ∧
     (p < 0x4000 → p % 4 = 0 → good 4 → exec (.ldS32 e d a i .clean) s = .next (s.wrote e d ((BitVec.ofNat 32 (m 4)).signExtend 64))) ∧
     (p < 0x4000 → good 1 → exec (.ldU8 e d a i .clean) s = .next (s.wrote e d (BitVec.ofNat 64 (m 1)))) ∧
     stores (.st8 e d a i) 1 ∧ stores (.st16 e d a i) 2 ∧ stores (.st32 e d a i) 4 ∧ stores (.st64 e d a i) 8)

/-- On every engine at a boundary, a load or store whose effective address has any of bits [63:40] set raises ADDRESS,
cause 5, with that address, and one whose address is no multiple of its width raises MISALIGNED, cause 6, on the state
that its fetch leaves. Neither makes an access: nothing is put in flight, no byte changes and no general register
changes. (R145, R157) -/
def Obligations.AddressCauses : Prop :=
  ∀ (e : Eng) (d a : Fin 32) (i : BitVec 16) (f : MemFind) (s : State), s.boundary e = none →
    let p := (s.gr (Eng.key e) a + BitVec.ofInt 64 i.toInt).toNat
    let x := s.fetched e
    let raises := fun (n : Instr) (w : Nat) =>
      (2 ^ 40 ≤ p → ∃ z, exec n s = .next (x.raiseCause e 5 (some p) z)) ∧
      (p < 2 ^ 40 → p % w ≠ 0 → ∃ z, exec n s = .next (x.raiseCause e 6 (some p) z))
    raises (.ldS8 e d a i f) 1 ∧ raises (.ldS16 e d a i f) 2 ∧ raises (.ldS32 e d a i f) 4 ∧ raises (.ld64 e d a i f) 8 ∧
    raises (.ldU8 e d a i f) 1 ∧ raises (.ldU16 e d a i f) 2 ∧ raises (.ldU32 e d a i f) 4 ∧ raises (.st8 e d a i) 1 ∧
    raises (.st16 e d a i) 2 ∧ raises (.st32 e d a i) 4 ∧ raises (.st64 e d a i) 8 ∧
    (∀ cause z, let t := s.raiseCause e cause (some p) z
      t.bus = s.bus ∧ SameBytes s t ∧ ∀ j r, t.gr j r = s.gr j r)

/-- On a core at a boundary with no access in flight, an atomic at an aligned address of DRAM or of the L2 SRAM window
that protection allows for reading and writing, with no change of the L2 that stalls it and no poison there once what
the ECC finds has been counted and logged, returns the old value in D, zero-extended in the 32-bit form, and writes
the new value at the width selected: B; old + B; the AND, OR and XOR of old and B; their lesser and greater, signed
and unsigned; for at.cas B if old equals the prior value of D and nothing otherwise; for at.sadd old + B held at all
ones when it overflows. On a core at a boundary, an atomic whose address has any of bits [63:40] set raises ADDRESS,
one at a misaligned address MISALIGNED, and one at any target other than DRAM or the L2 SRAM window ATOMIC_TARGET,
cause 9, in this order. A line sequencer executes no atomic: it raises ILLEGAL. (R134, R149, R150, R157, R211, R458) -/
def Obligations.AtomicResults : Prop :=
  (∀ (c : Fin 16) (d a b : Fin 32) (w64 : Bool) (f : MemFind) (s : State), s.boundary (.core c) = none → s.inFlightOf c = false →
     let e := Eng.core c
     let p := (s.gr c a).toNat
     let w := if w64 then 8 else 4
     let m := 2 ^ (8 * w)
     let u := s.applyFind p c f
     let old := leNat (u.coreRead p w)
     let y := (s.gr c b).toNat % m
     let int := fun (n : Nat) => if n < m / 2 then (n : Int) else (n : Int) - m
     let does := fun (i : Instr) (v : Nat) =>
       exec i s = .next ((u.coreWrite c p (leBytes v w)).wrote e d (BitVec.ofNat 64 old))
     p < 2 ^ 40 → p % w = 0 → (s.region p = .dram ∨ s.region p = .l2sram) →
     (s.initCheck (s.engSrc c) .atomic p w).1 = true → u.corePoisoned p w = false → s.l2Stalls p w = false →
       does (.atSwap e d a b w64 f) y ∧ does (.atAdd e d a b w64 f) ((old + y) % m) ∧
       does (.atAnd e d a b w64 f) (old &&& y) ∧ does (.atOr e d a b w64 f) (old ||| y) ∧
       does (.atXor e d a b w64 f) (old ^^^ y) ∧
       does (.atMins e d a b w64 f) (if int old ≤ int y then old else y) ∧
       does (.atMaxs e d a b w64 f) (if int old ≤ int y then y else old) ∧
       does (.atMinu e d a b w64 f) (min old y) ∧ does (.atMaxu e d a b w64 f) (max old y) ∧
       does (.atSadd e d a b w64 f) (min (old + y) (m - 1)) ∧
       (old = (s.gr c d).toNat % m → does (.atCas e d a b w64 f) y) ∧
       (old ≠ (s.gr c d).toNat % m → exec (.atCas e d a b w64 f) s = .next (u.wrote e d (BitVec.ofNat 64 old)))) ∧
  ((∀ (c : Fin 16) (d a b : Fin 32) (w64 : Bool) (f : MemFind) (s : State), s.boundary (.core c) = none →
     let e := Eng.core c
     let p := (s.gr c a).toNat
     let w := if w64 then 8 else 4
     let raises := fun (i : Instr) => (2 ^ 40 ≤ p → ∃ z, exec i s = .next (s.raiseCause e 5 (some p) z)) ∧
       (p < 2 ^ 40 → p % w ≠ 0 → ∃ z, exec i s = .next (s.raiseCause e 6 (some p) z)) ∧
       (p < 2 ^ 40 → p % w = 0 → s.region p ≠ .dram → s.region p ≠ .l2sram → ∃ z, exec i s = .next (s.raiseCause e 9 (some p) z))
     raises (.atSwap e d a b w64 f) ∧ raises (.atAdd e d a b w64 f) ∧ raises (.atCas e d a b w64 f) ∧ raises (.atSadd e d a b w64 f)) ∧
   (∀ (n : Fin 48) (d a b : Fin 32) (w64 : Bool) (f : MemFind) (s : State), s.boundary (.seq n) = none →
     exec (.atSwap (.seq n) d a b w64 f) s = .next (s.seqFault n 1 none) ∧ exec (.atCas (.seq n) d a b w64 f) s = .next (s.seqFault n 1 none) ∧
     exec (.quos (.seq n) d a b) s = .next (s.seqFault n 1 none) ∧ exec (.modu (.seq n) d a b) s = .next (s.seqFault n 1 none)))

/-- On a core at Keeper level and at a boundary: srd of a register that holds a value writes that value into D, and
RETIRED, TIME64, STAMP32 and the pending attention read as the core and the time unit hold them; swr, srs and src
write A, old OR A and old AND NOT A into the bits of the register that a write reaches, srs and src return the old
value, and no other system register, general register or engine and nothing outside the engine changes. On a core at a
boundary: a number outside the table of R137 raises ILLEGAL at either level. At User level a read of a register other
than CORE_ID, CYCLE, RETIRED, TIME64 and STAMP32, and every write, raises PRIVILEGE; TIME64 is read. eret, rulesync,
timerestep and cinval raise PRIVILEGE at User level. (R137, R151, R156, R168) -/
def Obligations.SystemRegisters : Prop :=
  (∀ (c : Fin 16) (d a : Fin 32) (n : Fin 4096) (s : State), s.boundary (.core c) = none → (s.engine c).keeper = true →
     let e := Eng.core c
     let x := s.engine c
     let y := (s.gr c a).toNat
     let old := x.sreg n
     let masks : List (Nat × Nat) := [(1, 7), (2, 2 ^ 40 - 4), (3, 7), (4, 0x3FF), (5, 2 ^ 64 - 1), (6, 2 ^ 32 - 1), (8, 2 ^ 40 - 4096),
       (0xA, 2 ^ 64 - 1), (0xB, 2 ^ 64 - 1), (0x22, 2 ^ 64 - 1), (0x23, 2 ^ 64 - 1)]
     let reads := fun (m v : Nat) => n.val = m → exec (.srd e d n) s = .next (s.wrote e d (BitVec.ofNat 64 v))
     let sets := fun (i : Instr) (r : Option Nat) (v : Nat) => Reaches i s (fun t =>
       (t.engine c).sreg n = v ∧ (∀ m, m ≠ n.val → (t.engine c).sreg m = x.sreg m) ∧ (t.engine c).pc = (x.pc + 4) % 2 ^ 40 ∧
       (∀ j, t.gr c j = if r = some j ∧ j ≠ 0 then BitVec.ofNat 64 old else s.gr c j) ∧ OnlyEngine c s t)
     reads 0x11 (x.retired % 2 ^ 64) ∧ reads 0x12 s.time64 ∧ reads 0x13 (s.time64 / 1000 % 2 ^ 32) ∧
     reads 0x20 (s.attnPend c 0) ∧ reads 0x21 (s.attnPend c 1) ∧
     ∀ p ∈ masks, reads p.1 old ∧ (n.val = p.1 → sets (.swr e n a) none (y &&& p.2) ∧
       sets (.srs e d n a) (some d.val) ((old ||| y) &&& p.2) ∧
       sets (.src e d n a) (some d.val) (old &&& (2 ^ 64 - 1 - y) &&& p.2))) ∧
  (∀ (c : Fin 16) (d a : Fin 32) (n : Fin 4096) (s : State), s.boundary (.core c) = none →
     let e := Eng.core c
     let raises := fun (i : Instr) (cause : Nat) => ∃ w, exec i s = .next (s.raiseCause e cause none w)
     let known := [0, 1, 2, 3, 4, 5, 6, 8, 0xA, 0xB, 0x10, 0x11, 0x12, 0x13, 0x20, 0x21, 0x22, 0x23]
     (n.val ∉ known → raises (.srd e d n) 1 ∧ raises (.swr e n a) 1 ∧ raises (.srs e d n a) 1 ∧ raises (.src e d n a) 1) ∧
     ((s.engine c).keeper = false →
       (n.val ∈ known → raises (.swr e n a) 2 ∧ raises (.srs e d n a) 2 ∧ raises (.src e d n a) 2) ∧
       (n.val ∈ known → n.val ∉ [0, 0x10, 0x11, 0x12, 0x13] → raises (.srd e d n) 2) ∧
       (n.val = 0x12 → exec (.srd e d n) s = .next (s.wrote e d (BitVec.ofNat 64 s.time64))) ∧
       raises (.eret e) 2 ∧ raises (.rulesync e) 2 ∧ raises (.timerestep e a) 2 ∧ raises (.cinval e a) 2))

/-- With PSTATE.EX 0 and the PC an address of 40 bits: trap, brk with no debugger attached and a word that a core does not
execute save the PC in EPC and PSTATE in EPSTATE, set KEEPER and EX and clear IE, write ECAUSE with the cause and
FROM_USER and EINST with the word, leave EADDR alone, and go to EVEC plus 0x000 from User and 0x100 from Keeper level.
ATTENTION, with IE set and no imprecise refusal waiting, does so with cause 13, EINST zero and offset 0x200. An
imprecise store refusal whose word is known is taken before it with cause 8, IMPRECISE, its address in EADDR, its word
in EINST and offset 0x300. No general register, other system register or count changes, and nothing outside the
engine. (R151, R156, R159, R161) -/
def Obligations.ExceptionEntry : Prop :=
  ∀ (c : Fin 16) (code : Fin 4096) (w : Word) (time : Nat) (s : State),
    let e := Eng.core c
    let x := s.engine c
    let enters := fun (i : Instr) (z : State) (cause off : Nat) (addr : Option Nat) (inst : Nat) => Reaches i s (fun t =>
      let y := t.engine c
      y.sreg 2 = x.pc ∧ y.sreg 3 = x.pstate ∧ y.sreg 1 = 5 ∧ y.sreg 4 = cause + (if x.keeper then 0 else 0x200) ∧
      y.sreg 5 = addr.getD (x.sreg 5) ∧ y.sreg 6 = inst ∧ y.pc = (x.sreg 8 + off) % 2 ^ 40 ∧
      (∀ n, n ∉ [1, 2, 3, 4, 5, 6] → y.sreg n = x.sreg n) ∧ (∀ r, t.gr c r = s.gr c r) ∧ y.retired = x.retired ∧ OnlyEngine c z t)
    let sync := if x.keeper then 0x100 else 0
    x.pc < 2 ^ 40 → x.ex = false →
    (s.boundary e = none →
      enters (.trap e code) s 11 sync none (0xC0004000 + code.val) ∧
      (x.dbg = false → enters (.brk e code) s 12 sync none (0xC0005000 + code.val)) ∧
      (executes true w.toNat = false → enters (.illegalInstruction e w) s 1 sync none w.toNat)) ∧
    (s.coreIssues c = true → x.impr = [] → x.ie = true → (s.attention c).isSome = true →
      enters (.attention time c) (s.advance time) 13 0x200 none 0) ∧
    (∀ (a : Nat) (v : Word) (q : List (Nat × Option Nat)), s.coreIssues c = true → x.impr = (a, some v.toNat) :: q → a < 2 ^ 40 →
      enters (.attention time c) (s.advance time) 0x108 0x300 (some a) v.toNat ∧
      enters (.impreciseStoreRefusal time c) (s.advance time) 0x108 0x300 (some a) v.toNat)

/-- For every cause: raised on a core while PSTATE.EX is 1, it halts a core that issues in DOUBLE_FAULT with the PC in
LAST_PC, or, with stores in flight, has it halt so once they have completed; it logs class 0x7B with the core number
in the detail and the faulting PC as the first address, and leaves EPC, EPSTATE and ECAUSE alone; raised while EX is 0
it leaves the core's STATE as it was, logs nothing and sets EX. trap does so. (R160) -/
def Obligations.DoubleFault : Prop :=
  ∀ (c : Fin 16) (cause : Fin 14) (addr : Option Nat) (w : Nat) (code : Fin 4096) (s : State),
    let x := s.engine c
    let t := s.raiseCause (.core c) cause addr w
    (x.ex = true → (s.coreIssues c = true → s.inFlightOf c = false → t.get (F.CORE_STATE c) = 3 ∧
        t.get (F.CORE_LAST_PC_LO c) = x.pc % 2 ^ 32) ∧
      (s.coreIssues c = true → s.inFlightOf c = true → t.get (F.CORE_STATE c) = 1 ∧ (t.engine c).halting = some 3) ∧
      (∃ r ∈ t.log.recent.head?, r.cls = 0x7B ∧ r.addr1 = x.pc ∧ r.detail = c.val) ∧
      ∀ n, (t.engine c).sreg n = x.sreg n) ∧
    (x.ex = false → t.get (F.CORE_STATE c) = s.get (F.CORE_STATE c) ∧ t.log = s.log ∧ (t.engine c).ex = true ∧
      (t.engine c).sreg 4 % 0x100 = cause.val) ∧
    (s.boundary (.core c) = none → ∃ z, exec (.trap (.core c) code) s = .next (s.raiseCause (.core c) 11 none z))

/-- On a core at a boundary at Keeper level, eret goes to EPC and takes PSTATE from EPSTATE in one step and changes no
other register. With a debugger attached and nothing in flight, brk halts the core in DEBUG with the PC of the brk in
LAST_PC, and a sequencer in DEBUG. JTAG_HALT attaches a debugger and halts a core that runs or idles with nothing in
flight and no halt waiting, and a sequencer that runs or waits. (R151, R173, R175, R214) -/
def Obligations.ReturnAndDebugger : Prop :=
  ∀ (c : Fin 16) (n : Fin 48) (code : Fin 4096) (s : State),
    let x := s.engine c
    (s.boundary (.core c) = none → x.keeper = true → Reaches (.eret (.core c)) s (fun t =>
      (t.engine c).pc = x.sreg 2 ∧ (t.engine c).sreg 1 = x.sreg 3 % 8 ∧ (∀ m, m ≠ 1 → (t.engine c).sreg m = x.sreg m) ∧
      (∀ r, t.gr c r = s.gr c r) ∧ OnlyEngine c s t)) ∧
    (s.boundary (.core c) = none → x.dbg = true → s.inFlightOf c = false → Reaches (.brk (.core c) code) s (fun t =>
      t.get (F.CORE_STATE c) = 6 ∧ t.get (F.CORE_LAST_PC_LO c) = x.pc % 2 ^ 32 ∧ ∀ r, t.gr c r = s.gr c r)) ∧
    (s.boundary (.seq n) = none → (s.engine (16 + n)).dbg = true → Reaches (.brk (.seq n) code) s (fun t =>
      t.get (F.SEQN_STATE n) = 5 ∧ t.eng = s.eng)) ∧
    (s.get (F.CORE_STATE c) = 1 ∨ s.get (F.CORE_STATE c) = 2 → s.inFlightOf c = false → x.halting = none → x.wait ∉ [.rulesync true, .rulesync false, .step, .busy] →
      Reaches (.jtagHalt (.core c)) s (fun t => t.get (F.CORE_STATE c) = 6 ∧ (t.engine c).dbg = true ∧ (t.engine c).wait = .none ∧
        ∀ r, t.gr c r = s.gr c r)) ∧
    (s.get (F.SEQN_STATE n) = 1 ∨ s.get (F.SEQN_STATE n) = 2 → Reaches (.jtagHalt (.seq n)) s (fun t =>
      t.get (F.SEQN_STATE n) = 5 ∧ (t.engine (16 + n)).dbg = true ∧ (t.engine (16 + n)).wait = .none))

/-- On a core at a boundary with nothing in flight, fence and fence.i only advance. With the memories in their canonical
form, cclean and cflush write the 64-byte line of A back: every byte reads as before to the cores, and each byte of
that line reads to every other initiator as the cores see it; no byte of another line changes for anyone, and no word
becomes poisoned. cinval, at Keeper level, discards what the L2 alone holds of that line: its bytes read to the cores
as memory holds them. On a sequencer with nothing in flight fence only advances. Whatever the fetch of fence finds in
the memory is counted and logged first. On a core at Keeper level and at a boundary: rulesync completes at once when
no activation is in progress and no access in flight carries an old tag; else it only starts to wait, with a mark
where an activation is in progress. The end of that activation takes the mark away, and RULESYNC_DONE ends the wait
once there is none and no access in flight carries an old tag, whatever has been activated since; the core goes on
behind it. timerestep by zero completes at once and steps nothing, and otherwise, while another step is under way, the
core waits with its step queued behind the others. (R151, R152, R165, R167, R168, R401, R466) -/
def Obligations.FencesAndCacheLines : Prop :=
  ((∀ (e : Eng) (s : State), s.boundary e = none → s.inFlightOf (Eng.key e) = false →
     exec (.fence e) s = .next ((s.fetched e).went e (((s.engine (Eng.key e)).pc + 4) % 2 ^ 40))) ∧
   (∀ (c : Fin 16) (a : Fin 32) (s : State), s.boundary (.core c) = none → s.inFlightOf c = false →
     let e := Eng.core c
     let x := (s.gr c a).toNat
     let unit := fun (t : State) (j : Nat) => cellGet 0 t.mem j
     let only := fun (t : State) => { t with mem := s.mem, dirty := s.dirty, poison := s.poison } = s.went e (((s.engine c).pc + 4) % 2 ^ 40) ∧
       ∀ w ∈ t.poison, w ∈ s.poison
     let cleans := fun (i : Instr) => Reaches i s (fun t => only t ∧ (∀ j, t.coreByte j = s.coreByte j) ∧
       (∀ j, j / 64 = x / 64 → unit t j = s.coreByte j) ∧ ∀ j, j / 64 ≠ x / 64 → unit t j = unit s j)
     exec (.fenceI e) s = .next (s.went e (((s.engine c).pc + 4) % 2 ^ 40)) ∧
     (s.memoriesOk = true → cleans (.cclean e a) ∧ cleans (.cflush e a)) ∧
     ((s.engine c).keeper = true → Reaches (.cinval e a) s (fun t => only t ∧ (∀ j, unit t j = unit s j) ∧
       (∀ j, j / 64 = x / 64 → t.coreByte j = unit s j) ∧ ∀ j, j / 64 ≠ x / 64 → t.coreByte j = s.coreByte j)))) ∧
  (∀ (c : Fin 16) (a : Fin 32) (time : Nat) (s : State),
     let e := Eng.core c
     let x := s.engine c
     let fresh := ∀ y ∈ s.bus.inflight, s.staleTag y = false
     let idle := s.get F.PROT_ACT_STATUS ≠ 1 ∧ fresh
     let on := (x.pc + 4) % 2 ^ 40
     (s.boundary e = none → x.keeper = true →
       (idle → exec (.rulesync e) s = .next (s.went e on)) ∧
       (¬idle → exec (.rulesync e) s = .next (s.setEngine c { x with wait := .rulesync (s.get F.PROT_ACT_STATUS = 1) })) ∧
       (s.gr c a = 0 → exec (.timerestep e a) s = .next (s.went e on)) ∧
       (s.gr c a ≠ 0 → s.servo.step.isSome = true → exec (.timerestep e a) s =
         .next ({ s with servo := { s.servo with waiting := s.servo.waiting ++ [((s.gr c a).toInt, c.val)] } }.setEngine c
           { x with wait := .step }))) ∧
     (x.wait = .rulesync true → s.get F.PROT_ACT_STATUS = 1 → (∀ y ∈ s.bus.inflight, y.set = s.bus.actSet → y.epoch = s.epochOf y.set) →
       Reaches (.rulesetActivateDone time) s (fun t => (t.engine c).wait = .rulesync false ∧ (t.engine c).pc = x.pc ∧ ∀ r, t.gr c r = s.gr c r)) ∧
     (x.wait = .rulesync false → x.halting = none → fresh → Reaches (.rulesyncDone time c) s (fun t => (t.engine c).wait = .none ∧
       (t.engine c).pc = on ∧ (∀ r, t.gr c r = s.gr c r) ∧ OnlyEngine c (s.advance time) t)) ∧
     (x.wait = .rulesync true ∨ (x.wait = .rulesync false ∧ ¬fresh) → exec (.rulesyncDone time c) s = .next (s.advance time)))

/-- On a core at a boundary with nothing in flight: rput, rget and rbell with B above 127 write status 3 into D and do
nothing else. With ring B enabled with one of the entry sizes of R470, A aligned to it within 40 bits and no change of
the L2 that stalls the entry: rget of an empty core-served ring gives status 1 and rput to a full one status 1, and
neither does anything else. rput to a core-served ring with room, whose slot lies in mapped memory and is open to the
core's writes as one block of at most 256 bytes, gives status 0: the slot at index PUT takes, byte by byte, what the
core sees at A, every byte outside the slot keeps its value to every unit, and PUT advances by one modulo 2N. On a
core at a boundary with nothing in flight, with ring B enabled, core-served and not empty, A aligned within 40 bits
and open to the core's writes, no change of the L2 that stalls the entry, and the slot at index GET readable for the
core as one block with no poison in it, rget gives status 0 and GET advances by one modulo 2N; each byte of the slot,
as units read it, stands at A as the cores see it, and every byte outside the entry at A reads to the cores as before.
A doorbell write of ring k, by rbell of a core whose write of that register passes its checks or by the command
DOORBELL, is accepted when the ring is enabled and the index that it gives advances PUT (SIDE 0, a memory-posted ring)
by at most N - FILL, or GET (SIDE 1, a memory-taken ring) by at most FILL, modulo 2N: the index becomes that value,
status 0. Otherwise no index of the ring changes, status 2, and class 0x09 is logged with the ring and the code: 3 for
a ring that is not enabled, else 1. (R153, R154, R167, R468, R469, R472) -/
def Obligations.RingInstructions : Prop :=
  (∀ (c : Fin 16) (d a b : Fin 32) (s : State), s.boundary (.core c) = none → s.inFlightOf c = false →
     let e := Eng.core c
     let x := (s.gr c a).toNat
     let k := (s.gr c b).toNat
     let n := s.ringSize k
     let size := s.ringN k
     let put := s.get (F.RINGS_PUT k)
     let slot := s.get (F.RINGS_BASE k) * 256 + n * (put % size)
     (128 ≤ k → exec (.rput e d a b) s = .next (s.wrote e d 3) ∧ exec (.rget e d a b) s = .next (s.wrote e d 3) ∧
       exec (.rbell e d a b) s = .next (s.wrote e d 3)) ∧
     (k < 128 → x < 2 ^ 40 → x % n = 0 → s.on (F.RINGS_CFG_EN k) = true → s.get (F.RINGS_CFG_ESIZE k) ≤ 4 →
       (s.on (F.RINGS_CFG_CMODE k) = false → s.ringFill k = 0 → s.l2Stalls x n = false → exec (.rget e d a b) s = .next (s.wrote e d 1)) ∧
       (s.on (F.RINGS_CFG_PMODE k) = false → (s.initCheck (s.engSrc c) .read x n).1 = true → s.poisoned x n = false → s.l2Stalls x n = false →
         (s.ringFill k = size → exec (.rput e d a b) s = .next (s.wrote e d 1)) ∧
         (s.ringFill k ≠ size → s.memoriesOk = true → slot % 256 + n ≤ 256 → (s.initCheck (s.engSrc c) .write slot n).1 = true →
           Reaches (.rput e d a b) s (fun t => t.gr c d = 0 ∧ (∀ r, r ≠ d.val → t.gr c r = s.gr c r) ∧
             (∀ j, j < n → cellGet 0 t.mem (slot + j) = s.coreByte (x + j)) ∧
             (∀ j, j < slot ∨ slot + n ≤ j → cellGet 0 t.mem j = cellGet 0 s.mem j) ∧
             t.get (F.RINGS_PUT k) = (put + 1) % (2 * size) % 2 ^ 17))))) ∧
  (∀ (c : Fin 16) (d a b : Fin 32) (s : State), s.boundary (.core c) = none → s.inFlightOf c = false → s.memoriesOk = true →
     let e := Eng.core c
     let x := (s.gr c a).toNat
     let k := (s.gr c b).toNat
     let n := s.ringSize k
     let size := s.ringN k
     let take := s.get (F.RINGS_GET k)
     let slot := s.get (F.RINGS_BASE k) * 256 + n * (take % size)
     k < 128 → x < 2 ^ 40 → x % n = 0 → s.on (F.RINGS_CFG_EN k) = true → s.on (F.RINGS_CFG_CMODE k) = false → s.ringFill k ≠ 0 →
     slot % 256 + n ≤ 256 → (s.initCheck (s.engSrc c) .read slot n).1 = true → s.poisoned slot n = false →
     (s.initCheck (s.engSrc c) .write x n).1 = true → s.l2Stalls x n = false →
       Reaches (.rget e d a b) s (fun t => t.gr c d = 0 ∧ (∀ r, r ≠ d.val → t.gr c r = s.gr c r) ∧
         (∀ j, j < n → t.coreByte (x + j) = cellGet 0 s.mem (slot + j)) ∧
         (∀ j, j < x ∨ x + n ≤ j → t.coreByte j = s.coreByte j) ∧ t.get (F.RINGS_GET k) = (take + 1) % (2 * size) % 2 ^ 17)) ∧
  (∀ (k : Fin 128) (v : Word) (s : State),
     let n := s.ringN k
     let i := v.toNat % 2 ^ 17
     let side := v.toNat / 2 ^ 31 % 2 = 1
     let put := s.get (F.RINGS_PUT k)
     let take := s.get (F.RINGS_GET k)
     let on := s.on (F.RINGS_CFG_EN k) = true
     let okPut := on ∧ ¬side ∧ s.on (F.RINGS_CFG_PMODE k) = true ∧ (i + 2 * n - put % (2 * n)) % (2 * n) ≤ n - s.ringFill k
     let okGet := on ∧ side ∧ s.on (F.RINGS_CFG_CMODE k) = true ∧ (i + 2 * n - take % (2 * n)) % (2 * n) ≤ s.ringFill k
     let does := fun (t : State) =>
       (okPut → t.get (F.RINGS_PUT k) = i % (2 * n) % 2 ^ 17 ∧ t.get (F.RINGS_GET k) = take ∧ t.log = s.log) ∧
       (okGet → t.get (F.RINGS_GET k) = i % (2 * n) % 2 ^ 17 ∧ t.get (F.RINGS_PUT k) = put ∧ t.log = s.log) ∧
       (¬okPut → ¬okGet → t.get (F.RINGS_PUT k) = put ∧ t.get (F.RINGS_GET k) = take ∧
         ∃ r ∈ t.log.recent.head?, r.cls = 0x09 ∧ r.detail = k.val + 0x100 * (if s.on (F.RINGS_CFG_EN k) then 1 else 3))
     (∀ i : Initiator, Admits s i (F.RINGS_BELL_INDEX k).key → Reaches (.doorbell i k v) s (fun t => does t ∧ t.eng = s.eng ∧ SameBytes s t)) ∧
     (∀ (c : Fin 16) (d a b : Fin 32), s.boundary (.core c) = none → s.inFlightOf c = false → (s.gr c b).toNat = k.val →
       s.gr c a = v.zeroExtend 64 → (s.initCheck (s.engSrc c) .write (keyAddr (F.RINGS_BELL_INDEX k).key) 4).1 = true →
       Reaches (.rbell (.core c) d a b) s (fun t => does t ∧ SameBytes s t ∧
         (d ≠ 0 → t.gr c d = if okPut ∨ okGet then 0 else 2) ∧ ∀ r, r ≠ d.val → t.gr c r = s.gr c r)))

/-- On a core at a boundary with nothing in flight: with attention pending and enabled, rwait completes at once with the
lowest such ring in D; otherwise the core goes to IDLE and waits, with a timeout of A microseconds when A is not zero.
RWAIT_DONE ends the wait with the lowest ring once attention is there, with all ones once the timeout has passed, and
does nothing before either. On a core at a boundary, with h the head in B [5:0]: a head that the part has not gives
all ones in D and class 0x4D; a head that a User-level core is not allowed raises PRIVILEGE. Otherwise stamp writes
the line position word and STAMP32; wline completes at once with the position word when that has reached A modulo 2^32
and else waits for it; wframe waits for A [7:0] frame starts, 0 counting as 1; wtime completes at once with TIME64
when that has reached A and else waits. WAIT_DONE ends such a wait once its condition holds, with the position word,
the FSEQ or TIME64 in D, and does nothing before. (R155, R173, R184, R185, R186, R190, R192, R193, R196) -/
def Obligations.WaitForAttention : Prop :=
  (∀ (c : Fin 16) (d a : Fin 32) (time : Nat) (s : State),
     let e := Eng.core c
     let x := s.engine c
     let us := (s.gr c a).toNat
     let u := s.advance time
     let ends := fun (r : Nat) (v : Dword) => Reaches (.rwaitDone time c) s (fun t => t.get (F.CORE_STATE c) = 1 ∧
       (t.engine c).wait = .none ∧ (t.engine c).pc = (x.pc + 4) % 2 ^ 40 ∧ (r ≠ 0 → t.gr c r = v) ∧
       (∀ j, j ≠ r → t.gr c j = s.gr c j) ∧ SameBytes s t)
     (s.boundary e = none → s.inFlightOf c = false →
       (∀ r, s.attention c = some r → exec (.rwait e d a) s = .next (s.wrote e d (BitVec.ofNat 64 r))) ∧
       (s.attention c = none → Reaches (.rwait e d a) s (fun t => t.get (F.CORE_STATE c) = 2 ∧ (t.engine c).pc = x.pc ∧
         (t.engine c).wait = .ring d.val (if us = 0 then none else some (s.time.pix + 1200 * us)) ∧ ∀ r, t.gr c r = s.gr c r))) ∧
     (∀ r to_, x.wait = .ring r to_ →
       (∀ g, u.attention c = some g → ends r (BitVec.ofNat 64 g)) ∧
       (u.attention c = none → ∀ z, to_ = some z → z ≤ s.time.pix + time → ends r (BitVec.ofNat 64 (2 ^ 64 - 1))) ∧
       (u.attention c = none → (∀ z, to_ = some z → s.time.pix + time < z) → exec (.rwaitDone time c) s = .next u))) ∧
  (∀ (c : Fin 16) (d a b : Fin 32) (time : Nat) (s : State),
     let e := Eng.core c
     let x := s.engine c
     let u := s.advance time
     let y := (s.gr c a).toNat
     let h := (s.gr c b).toNat % 64
     let reached := fun (z : State) (k m : Nat) => (z.pos k + 2 ^ 32 - m % 2 ^ 32) % 2 ^ 32 < 2 ^ 31
     let past := fun (z : State) (m : Nat) => (z.time64 + 2 ^ 64 - m) % 2 ^ 64 < 2 ^ 63
     let waits := fun (i : Instr) (w : Wait) => exec i s = .next (s.setEngine c { x with wait := w })
     let ends := fun (r v : Nat) => exec (.waitDone time e) s = .next (u.finishWait c r v)
     (s.boundary e = none →
       (s.hasHead h = false → ∀ i ∈ [Instr.stamp e d b, .wline e d a b, .wframe e d a b], Reaches i s (fun t =>
         (d ≠ 0 → t.gr c d = BitVec.ofNat 64 (2 ^ 64 - 1)) ∧ (∀ r, r ≠ d.val → t.gr c r = s.gr c r) ∧ ∃ r ∈ t.log.recent.head?, r.cls = 0x4D)) ∧
       (s.hasHead h = true → s.headBarred e h = true → ∀ i ∈ [Instr.stamp e d b, .wline e d a b, .wframe e d a b],
         ∃ w, exec i s = .next (s.raiseCause e 2 none w)) ∧
       (s.hasHead h = true → s.headBarred e h = false →
         exec (.stamp e d b) s = .next (s.wrote e d (BitVec.ofNat 64 (s.pos h + 2 ^ 32 * (s.time64 / 1000 % 2 ^ 32)))) ∧
         (reached s h y → exec (.wline e d a b) s = .next (s.wrote e d (BitVec.ofNat 64 (s.pos h)))) ∧
         (¬reached s h y → waits (.wline e d a b) (.line d.val h (y % 2 ^ 32))) ∧
         waits (.wframe e d a b) (.frame d.val h (max 1 (y % 256)) 0 s.time.pix)) ∧
       (past s y → exec (.wtime e d a) s = .next (s.wrote e d (BitVec.ofNat 64 s.time64))) ∧
       (¬past s y → waits (.wtime e d a) (.time d.val y))) ∧
     (∀ r k m, x.wait = .line r k m → (reached u k m → ends r (u.pos k)) ∧ (¬reached u k m → exec (.waitDone time e) s = .next u)) ∧
     (∀ r k n f at_, x.wait = .frame r k n f at_ → (n = 0 → ends r f) ∧ (n ≠ 0 → exec (.waitDone time e) s = .next u)) ∧
     (∀ r m, m < 2 ^ 64 → x.wait = .time r m → (past u m → ends r u.time64) ∧ (¬past u m → exec (.waitDone time e) s = .next u)))

/-- A write of PROT.ACT that asks for set n while none is in progress: with an enabled STAGE region of n whose LAST lies
below its BASE it is refused with STATUS 3, BAD_I the lowest such region and class 0x08; else with two enabled STAGE
regions that share a granule with STATUS 3 and class 0x07; else STATUS becomes 1. In none of these does a region or an
epoch change. While STATUS is 1, RULESET_ACTIVATE_DONE waits as long as an access of that set with another epoch is in
flight; then every word of the ACTIVE regions of n takes that of STAGE, the epoch of n counts up by one modulo 2^16,
STATUS becomes 2, and no other register changes. A write of BIND_i binds initiator i to the set in bits [5:0] and
changes no other register. A write of PROT.CTRL with bit 0 set sets LOCKDOWN; one with bit 0 clear changes nothing, so
that LOCKDOWN stays set. (R457, R460, R463, R464, R465, R485) -/
def Obligations.RuleSetActivation : Prop :=
  (∀ (time : Nat) (v : Word) (s : State),
     let n := v.toNat % 64
     let region := fun (t : State) (g j i : Nat) => t.reg (0x1010000 + 0x10000 * g + 0x100 * j + 4 * i)
     let bad := fun (i : Nat) => s.on (F.REGION_EN 1 (16 * n + i)) = true ∧ s.regionLast 1 (16 * n + i) < s.regionBase 1 (16 * n + i)
     let share := fun (i j : Nat) => s.on (F.REGION_EN 1 (16 * n + i)) = true ∧ s.on (F.REGION_EN 1 (16 * n + j)) = true ∧
       s.regionBase 1 (16 * n + i) ≤ s.regionLast 1 (16 * n + j) ∧ s.regionBase 1 (16 * n + j) ≤ s.regionLast 1 (16 * n + i)
     let keeps := fun (t : State) => (∀ g j i, g < 2 → j < 64 → i < 64 → region t g j i = region s g j i) ∧ (∀ j, j < 64 → t.epochOf j = s.epochOf j)
     let logs := fun (t : State) (cls : Nat) => t.get F.PROT_ACT_STATUS = 3 ∧ ∃ r ∈ t.log.recent.head?, r.cls = cls
     (∀ i : Initiator, Admits s i F.PROT_ACT_SET.key → v.toNat / 256 % 2 = 1 → s.get F.PROT_ACT_STATUS ≠ 1 →
       Reaches (.rulesetActivate i v) s (fun t => keeps t ∧
         (∀ x, x < 16 → bad x → (∀ y, y < x → ¬bad y) → logs t 8 ∧ t.get F.PROT_ACT_BAD_I = x) ∧
         ((∀ x, x < 16 → ¬bad x) → (∃ x y, x < y ∧ y < 16 ∧ share x y) → logs t 7) ∧
         ((∀ x, x < 16 → ¬bad x) → (∀ x y, x < y → y < 16 → ¬share x y) → t.get F.PROT_ACT_STATUS = 1 ∧ t.bus.actSet = n ∧ t.log = s.log))) ∧
     (s.get F.PROT_ACT_STATUS = 1 → s.bus.actSet < 64 →
       let m := s.bus.actSet
       ((∃ x ∈ s.bus.inflight, x.set = m ∧ x.epoch ≠ s.epochOf m) → exec (.rulesetActivateDone time) s = .next (s.advance time)) ∧
       ((∀ x ∈ s.bus.inflight, x.set = m → x.epoch = s.epochOf m) → Reaches (.rulesetActivateDone time) s (fun t =>
         (∀ i, i < 64 → region t 0 m i = region s 1 m i) ∧ t.epochOf m = (s.epochOf m + 1) % 2 ^ 16 ∧ t.get F.PROT_ACT_STATUS = 2 ∧
         (∀ k, (∀ i, i < 64 → k ≠ 0x1010000 + 0x100 * m + 4 * i) → k ≠ (F.PROT_EPOCH m).key → k ≠ F.PROT_ACT_SET.key →
           tabGet? t.regs k = tabGet? s.regs k))))) ∧
  (∀ (i : Initiator) (n : Fin 128) (v : Word) (s : State),
     (Admits s i (F.PROT_BIND n).key → Reaches (.bindWrite i n v) s (fun t =>
       t.get (F.PROT_BIND n) = v.toNat % 64 ∧ OnlyRegs [(F.PROT_BIND n).key] s t)) ∧
     (Admits s i F.PROT_CTRL_LOCKDOWN.key →
       (v.toNat % 2 = 1 → Reaches (.lockdownWrite i v) s (fun t => t.on F.PROT_CTRL_LOCKDOWN = true ∧ OnlyRegs [F.PROT_CTRL_LOCKDOWN.key] s t)) ∧
       (v.toNat % 2 = 0 → exec (.lockdownWrite i v) s = .next s)))

/-- Whatever register-write command it is among those named: from an initiator at User level that has no register access
in flight, to a register that the member has and that holds a WK field, it writes nothing; PROT.REFUSED counts, and
class 0x06 is logged with the register's address; nothing but registers of FAULT and the count changes. (R2, R7, R458,
R459, R462) -/
def Obligations.UserWritesOfKeeperRegisters : Prop :=
  ∀ (i : Initiator) (n : Fin 128) (c : Fin 16) (h : Fin 48) (v : Word) (s : State), s.atKeeperLevel i = false → s.regQueued (s.issuer i) = false →
    let refused := fun (cmd : Instr) (key : Nat) => s.keyPresent key = true → s.holdsWk key = true → Reaches cmd s (fun t =>
      OnlyLogged [F.PROT_REFUSED.key] s t ∧ ∃ r ∈ t.log.recent.head?, r.cls = 6 ∧ r.addr1 = keyAddr key ∧ r.addr2 = keyAddr key)
    refused (.bindWrite i n v) (F.PROT_BIND n).key ∧ refused (.lockdownWrite i v) F.PROT_CTRL_LOCKDOWN.key ∧
    refused (.rulesetActivate i v) F.PROT_ACT_SET.key ∧ refused (.ringEnable i n v) (F.RINGS_CFG_EN n).key ∧
    refused (.coreStart i c v) (F.CORE_CTL_RUN c).key ∧
    refused (.seqStart i h v) (F.SEQN_CTL_RUN h).key ∧ refused (.headEnable i h v) (F.HEAD_CFG_ENABLE h).key ∧
    refused (.modeReqWrite i v) F.SYS_MODE_REQ_REQ.key ∧ refused (.stopWrite i v) F.PWR_CTRL_STOP.key

/-- A transaction is refused when any of its bytes is unmapped, with class 0x04; else in register space when it is not 4
bytes aligned to 4 or 8 aligned to 8, with class 0x05; else when the lowest enabled region of the initiator's rule set
that holds its first byte does not grant the access at its level, with class 0x02; or when no region holds that byte
and the initiator is at User level or LOCKDOWN is set, with class 0x01; and it passes, changing nothing, when every
byte lies in a region that grants it. A refusal changes registers of FAULT and PROT.REFUSED alone. REGISTER_WRITE that
is refused so writes nothing else. A transaction of INITIATOR_CHECK within one 256-byte block that passes enters
flight behind the others with its initiator's rule set and that set's epoch, and nothing else changes. One that no
change of the L2 stalls and that reaches its target with a stale tag and whose bytes the rules now refuse is refused
with class 0x03 and counted in PROT.EPOCH_REFUSED: it changes no byte of memory, and a core that stored so takes an
imprecise refusal with that address. (R23, R25, R161, R456, R457, R458, R459, R460, R462, R463) -/
def Obligations.InitiatorChecks : Prop :=
  (∀ (i : Initiator) (k : AccKind) (a len : Nat) (x : PAddr) (v : Word) (s : State), 0 < len →
     let u := s.initCheck (s.issuer i) k a len
     let set := s.get (F.PROT_BIND i.id)
     let holds := fun (r b : Nat) => s.on (F.REGION_EN 0 (16 * set + r)) = true ∧ s.regionBase 0 (16 * set + r) ≤ b ∧ b ≤ s.regionLast 0 (16 * set + r)
     let first := fun (r b : Nat) => r < 16 ∧ holds r b ∧ ∀ q, q < r → ¬holds q b
     let grants := fun (r : Nat) => permOk (s.get (F.REGION_PERM 0 (16 * set + r))) (s.atKeeperLevel i) k = true
     let mapped := ∀ b, a ≤ b → b < a + len → s.region b ≠ .unmapped
     let wide := (s.region a).isReg = true → (len = 4 ∧ a % 4 = 0) ∨ (len = 8 ∧ a % 8 = 0)
     let refused := fun (cls : Nat) => u.1 = false ∧ OnlyLogged [F.PROT_REFUSED.key] s u.2 ∧ ∃ r ∈ u.2.log.recent.head?, r.cls = cls ∧ r.addr1 = a
     (¬mapped → refused 4) ∧ (mapped → ¬wide → refused 5) ∧
     (mapped → wide → (∃ r, first r a ∧ ¬grants r) → refused 2) ∧
     (mapped → wide → (∀ r, r < 16 → ¬holds r a) → s.atKeeperLevel i = false ∨ s.on F.PROT_CTRL_LOCKDOWN = true → refused 1) ∧
     (mapped → wide → (∀ b, a ≤ b → b < a + len → ∃ r, first r b ∧ grants r) → u = (true, s)) ∧
     ((s.initCheck (s.issuer i) .write x.toNat 4).1 = false →
       exec (.registerWrite i x v) s = .next (s.initCheck (s.issuer i) .write x.toNat 4).2)) ∧
  ((∀ (i : Initiator) (k : AccKind) (a : Nat) (len : Fin 257) (data : List Byte) (s : State), 0 < len.val → a % 256 + len.val ≤ 256 →
     data.length = len.val → (s.initCheck (s.issuer i) k a len).1 = true →
     exec (.initiatorCheck i k a len data) s = .next { s with bus := { s.bus with inflight := s.bus.inflight ++
       [⟨s.issuer i, k, a, len, data, s.setOf i.id, s.epochOf (s.setOf i.id), none, 0⟩] } }) ∧
   (∀ (x : Access) (q : List Access) (f : List (Nat × MemFind)) (s : State), s.bus.inflight = x :: q → x.kind = .write → x.src.id.val < 16 →
     s.mapCheck x.addr x.len = none → s.staleTag x = true → (s.firstBad x.src x.kind x.addr x.len).isSome = true →
     (s.engine x.src.id.val).halting = none → s.accessStalls x = false → Reaches (.targetCheck 0 f) s (fun t => SameBytes s t ∧ t.bus.inflight = q ∧
       (∃ r ∈ t.log.recent.head?, r.cls = 3 ∧ r.addr1 = x.addr) ∧
       (t.engine x.src.id.val).impr = (s.engine x.src.id.val).impr ++ [(x.addr, x.word)] ∧
       ((s.reg F.PROT_EPOCH_REFUSED.key).toNat < 2 ^ 31 - 1 → t.reg F.PROT_EPOCH_REFUSED.key = s.reg F.PROT_EPOCH_REFUSED.key + 1) ∧ ∀ j r, t.gr j r = s.gr j r)))

/-- A write of CFG with EN set to a ring that is disabled takes LOG2N, ESIZE and the modes and clears PUT and GET. With
LOG2N 1 to 16, ESIZE at most 4 and the entries wholly in usable DRAM the ring is enabled and nothing is logged. With
LOG2N 0 or above 16 it stays disabled and class 0x0A carries code 1; else with ESIZE above 4 code 2. A write with EN
clear disables it and leaves PUT and GET. Once the age of ring k is judged, its attention bit is set in mode 1 when
FILL is at least THRESH (and at least 1), or when entries have waited AGE times 100 microseconds since FILL rose from
zero, AGE not zero; in mode 2 when N - FILL is at least THRESH, which reads as 1 where it holds 0; and clear
otherwise. No other ring's bit changes. (R162, R467, R470, R471) -/
def Obligations.RingEnableChecks : Prop :=
  (∀ (i : Initiator) (k : Fin 128) (v : Word) (s : State), Admits s i (F.RINGS_CFG_EN k).key →
     let l := v.toNat % 32
     let e := v.toNat / 32 % 8
     let refused := fun (t : State) (code : Nat) => t.on (F.RINGS_CFG_EN k) = false ∧
       ∃ r ∈ t.log.recent.head?, r.cls = 0x0A ∧ r.detail = k.val + 0x100 * code
     (v.toNat / 2 ^ 12 % 2 = 1 → s.on (F.RINGS_CFG_EN k) = false → Reaches (.ringEnable i k v) s (fun t =>
       t.get (F.RINGS_PUT k) = 0 ∧ t.get (F.RINGS_GET k) = 0 ∧ t.get (F.RINGS_CFG_LOG2N k) = l ∧ t.get (F.RINGS_CFG_ESIZE k) = e ∧
       (1 ≤ l → l ≤ 16 → e ≤ 4 → s.get (F.RINGS_BASE k) * 256 + 2 ^ l * (16 * 2 ^ e) ≤ s.dramEnd → t.on (F.RINGS_CFG_EN k) = true ∧ t.log = s.log) ∧
       (l = 0 ∨ 16 < l → refused t 1) ∧ (1 ≤ l → l ≤ 16 → 4 < e → refused t 2) ∧ t.eng = s.eng ∧ SameBytes s t)) ∧
     (v.toNat / 2 ^ 12 % 2 = 0 → Reaches (.ringDisable i k v) s (fun t => t.on (F.RINGS_CFG_EN k) = false ∧
       t.get (F.RINGS_PUT k) = s.get (F.RINGS_PUT k) ∧ t.get (F.RINGS_GET k) = s.get (F.RINGS_GET k) ∧ t.log = s.log ∧ SameBytes s t))) ∧
  (∀ (k : Fin 128) (time since : Nat) (s : State), tabGet? s.rose k = some since →
     let f := s.ringFill k
     let mode := s.get (F.RINGS_ATTN_AMODE k)
     let th := s.get (F.RINGS_THRESH k)
     let age := s.get (F.RINGS_ATTN_AGE k)
     Reaches (.ringAgeAttention time k) s (fun t =>
       (t.bit (F.RINGS_ATTN_STATE (k / 32)) (k % 32) = true ↔
         (mode = 1 ∧ f ≠ 0 ∧ (th ≤ f ∨ (age ≠ 0 ∧ since + age * 120000 ≤ s.time.pix + time))) ∨ (mode = 2 ∧ max 1 th ≤ s.ringN k - f)) ∧
       (∀ j : Fin 128, j ≠ k → t.bit (F.RINGS_ATTN_STATE (j / 32)) (j % 32) = s.bit (F.RINGS_ATTN_STATE (j / 32)) (j % 32)) ∧ SameBytes s t))

/-- A COMPUTE job at the head of the queue of a unit that is neither fenced nor under test, with no RESUME, SAVE or RING,
whose data and whose descriptor, in memory, the submitting core can reach, ends with CODE 2: the word at offset 24 of
its descriptor takes the code's value of the data from the code's initial state with its final XOR, every byte outside
the last eight of the descriptor stays, the unit counts a job, and the next job is at the head of its queue. (R473,
R474, R475, R477) -/
def Obligations.ComputeJob : Prop :=
  ∀ (time : Nat) (u : Fin 8) (q : ChkJob) (rest : List ChkJob) (data : List Byte) (s : State), s.chkQueue u = q :: rest →
    let j := jobOf q.desc
    let u' := s.advance time
    j.op = 0 → j.resume = false → j.save = false → j.ring = false → s.bit F.SYS_FENCE_CHK u = false → s.test.unit ≠ some (0xB8 + u.val) → (s.region (q.at_ + 24)).isReg = false →
    u'.unitRead q.src j.src j.len = (some data, u') → q.at_ % 256 ≤ 224 → (s.initCheck q.src .write (q.at_ + 24) 8).1 = true →
    s.memoriesOk = true →
      Reaches (.chkJobDone time u) s (fun t =>
        leNat (cellRead 0 t.mem (q.at_ + 24) 4) = polyFinal j.poly (polyFrom j.poly (polyInit j.poly) data) % 2 ^ 32 ∧
        leNat (cellRead 0 t.mem (q.at_ + 28) 2) = 2 ∧ leNat (cellRead 0 t.mem (q.at_ + 30) 2) = j.acount % 2 ^ 16 ∧
        (∀ b, b < q.at_ + 24 ∨ q.at_ + 32 ≤ b → cellGet 0 t.mem b = cellGet 0 s.mem b) ∧ t.chkQueue u = rest ∧
        t.get (F.CHK_STATE_QUEUED u) = rest.length % 32 ∧
        ((s.reg (F.CHK_JOBS u).key).toNat < 2 ^ 31 - 1 → t.reg (F.CHK_JOBS u).key = s.reg (F.CHK_JOBS u).key + 1) ∧ t.eng = s.eng)

/-- A record that no limit suppresses takes the number NEXT_RSEQ, which counts up modulo 2^16, and stands with its class,
addresses, detail and the STAMP32 of now behind the others in the queue of 256; with the queue full it is not queued
and is counted as lost. Its class is counted and marked as seen. Nothing outside FAULT changes. With the log enabled,
its ring enabled, core-served, of 32-byte entries and with room, its slot in one block that the fault log may write,
and no record lost, FAULT_RECORD_POST writes the 32 bytes of the oldest record into the slot at PUT, advances PUT and
takes the record off the queue; every other byte of memory stays. COUNTER_CLEAR with GO returns every counter of its
block to its reset value and changes nothing else; without GO it changes nothing. (R467, R479, R481, R482, R483, R488) -/
def Obligations.RecordsAreNumbered : Prop :=
  (∀ (cls : Fin 256) (a1 a2 detail : Nat) (s : State),
     let t := s.raise cls a1 a2 detail
     OnlyLogged [] s t ∧ t.get F.FAULT_NEXT_RSEQ = (s.get F.FAULT_NEXT_RSEQ + 1) % 2 ^ 16 ∧
     t.bit (F.FAULT_CLASS_SEEN (cls / 32)) (cls % 32) = true ∧
     ((s.reg (F.FAULT_CLASS_COUNT cls).key).toNat < 2 ^ 31 - 1 →
       t.reg (F.FAULT_CLASS_COUNT cls).key = s.reg (F.FAULT_CLASS_COUNT cls).key + 1) ∧
     ∃ r : Rec, r.stamp = s.time64 / 1000 % 2 ^ 32 ∧ r.cls = cls ∧ r.rseq = s.get F.FAULT_NEXT_RSEQ ∧ r.addr1 = a1 ∧ r.addr2 = a2 ∧
       r.detail = detail ∧ t.log.recent.head? = some r ∧
       (s.log.queue.length < 256 → t.log.queue = s.log.queue ++ [r] ∧ t.log.lost = s.log.lost) ∧
       (256 ≤ s.log.queue.length → t.log.queue = s.log.queue ∧ t.log.lost = s.log.lost + 1)) ∧
  (∀ (time : Nat) (r : Rec) (q : List Rec) (i : Initiator) (v : Word) (s : State),
     let k := s.get F.FAULT_CTRL_RING
     let put := s.get (F.RINGS_PUT k)
     let slot := s.get (F.RINGS_BASE k) * 256 + 32 * (put % s.ringN k)
     (s.log.queue = r :: q → s.log.lost = 0 → s.on F.FAULT_CTRL_EN = true → s.on (F.RINGS_CFG_EN k) = true → s.on (F.RINGS_CFG_PMODE k) = false →
       s.get (F.RINGS_CFG_ESIZE k) = 1 → s.ringFill k ≠ s.ringN k → (s.initCheck ⟨0x7F, true⟩ .write slot 32).1 = true → s.memoriesOk = true →
       Reaches (.faultRecordPost time) s (fun t => cellRead 0 t.mem slot 32 = r.bytes ∧
         (∀ b, b < slot ∨ slot + 32 ≤ b → cellGet 0 t.mem b = cellGet 0 s.mem b) ∧
         t.get (F.RINGS_PUT k) = (put + 1) % (2 * s.ringN k) % 2 ^ 17 ∧ t.log.queue = q)) ∧
     (Admits s i F.FAULT_CTR_CLEAR_BLOCK.key →
       (v.toNat / 256 % 2 = 1 → Reaches (.counterClear i v) s (fun t => { t with regs := s.regs } = s ∧
         ∀ key, tabGet? t.regs key = if key / 0x100000 = v.toNat % 32 ∧ s.isCounter key = true then none else tabGet? s.regs key)) ∧
       (v.toNat / 256 % 2 = 0 → exec (.counterClear i v) s = .next s)))

/-- A write of CTL with RUN set to a HALTED core starts it: RUNNING, at ENTRY with bits [1:0] zero, every general register
zero, PSTATE at Keeper level with IE and EX 0, CYCLE and RETIRED zero; to a core in any other state it has no effect.
A write with RUN clear halts a core that runs or idles, with nothing in flight, in no rulesync or timerestep and with
no halt waiting already, with its next PC in LAST_PC; with stores in flight the halt waits for them; it turns
DOUBLE_FAULT and WATCHDOG into HALTED, and has no effect on a core that is HALTED, FENCED or in DEBUG. The watchdog,
once its period has passed without a kick, halts such a core in WATCHDOG with class 0x7A, and does nothing before. A
kick of 0xA5 restarts the period unless that expires in the same REF clock or before; any other value does nothing. A
write of SRAM_WAYS takes bits [3:0], sets BUSY and has L2 misses stall, and nothing else changes until
L2_RECONFIG_DONE: then BUSY is clear, nothing stalls any more, the L2 SRAM window covers min(12, SRAM_WAYS) ways of
512 KiB and what lies behind it up to the control registers is unmapped; what no way that changed sides held reads to
the cores as before, and the ways that changed sides read zero. A write of a non-cacheable window takes its fields,
and when the window is enabled BUSY is set, accesses of cores to what it covers stall and that is written back: units
read there what the cores see, and nothing changes for the cores. (R170, R171, R172, R173, R174, R175, R176) -/
def Obligations.CoreRunControl : Prop :=
  (∀ (i : Initiator) (c : Fin 16) (v : Word) (time : Nat) (s : State),
     let x := s.engine c
     let st := s.get (F.CORE_STATE c)
     let p := s.get (F.CORE_WDOG_CFG c)
     let ctl := (F.CORE_CTL_RUN c).key
     let others := fun (t : State) => (∀ j, j ≠ c.val → t.engine j = s.engine j) ∧ SameBytes s t
     (Admits s i ctl → v.toNat % 2 = 1 → st = 0 → Reaches (.coreStart i c v) s (fun t => t.get (F.CORE_STATE c) = 1 ∧
       (t.engine c).pc = s.get (F.CORE_ENTRY_LO c) / 4 * 4 + 2 ^ 32 * s.get (F.CORE_ENTRY_HI c) ∧ (∀ r, t.gr c r = 0) ∧
       (t.engine c).pstate = 1 ∧ (t.engine c).retired = 0 ∧ t.srView c 0x10 = 0 ∧ (t.engine c).wait = .none ∧ others t)) ∧
     (Admits s i ctl → v.toNat % 2 = 1 → st ≠ 0 → exec (.coreStart i c v) s = .next s) ∧
     (Admits s i ctl → v.toNat % 2 = 0 →
       (st = 1 ∨ st = 2 → s.inFlightOf c = false → x.wait ∉ [.rulesync true, .rulesync false, .step, .busy] → x.halting = none → Reaches (.coreHalt i c v) s (fun t =>
         t.get (F.CORE_STATE c) = 0 ∧ t.get (F.CORE_LAST_PC_LO c) = x.pc % 2 ^ 32 ∧ t.get (F.CORE_LAST_PC_HI c) = x.pc / 2 ^ 32 % 2 ^ 8 ∧
         (∀ r, t.gr c r = s.gr c r) ∧ others t)) ∧
       (st = 1 ∨ st = 2 → s.inFlightOf c = true → x.halting = none → Reaches (.coreHalt i c v) s (fun t => t.get (F.CORE_STATE c) = st ∧
         t.engine c = { x with halting := some 0 } ∧ others t)) ∧
       (st = 3 ∨ st = 4 → Reaches (.coreHalt i c v) s (fun t => t.get (F.CORE_STATE c) = 0 ∧ t.eng = s.eng)) ∧
       (st = 0 ∨ 5 ≤ st → exec (.coreHalt i c v) s = .next s)) ∧
     (st = 1 ∨ st = 2 → p ≠ 0 →
       (x.kickAt + 1200 * p ≤ s.time.pix + time → s.inFlightOf c = false → x.wait ∉ [.rulesync true, .rulesync false, .step, .busy] → x.halting ≠ some 4 → Reaches (.coreWatchdog time c) s (fun t => t.get (F.CORE_STATE c) = 4 ∧
         t.get (F.CORE_LAST_PC_LO c) = x.pc % 2 ^ 32 ∧ others t ∧ ∃ r ∈ t.log.recent.head?, r.cls = 0x7A ∧ r.addr1 = x.pc ∧ r.detail = c.val)) ∧
       (s.time.pix + time < x.kickAt + 1200 * p → exec (.coreWatchdog time c) s = .next (s.advance time))) ∧
     (Admits s i (F.CORE_WDOG_KICK c).key →
       (v.toNat % 256 = 0xA5 → (st ≠ 1 ∧ st ≠ 2) ∨ p = 0 ∨ s.time.pix / 48 < (x.kickAt + 1200 * p) / 48 →
         exec (.wdogKick i c v) s = .next (s.setEngine c { x with kickAt := s.time.pix })) ∧
       (v.toNat % 256 ≠ 0xA5 ∨ ((st = 1 ∨ st = 2) ∧ p ≠ 0 ∧ (x.kickAt + 1200 * p) / 48 ≤ s.time.pix / 48) → exec (.wdogKick i c v) s = .next s))) ∧
  (∀ (i : Initiator) (n : Fin 4) (v : Word) (time : Nat) (s : State), s.memoriesOk = true →
     let old := s.bus.l2Ways
     let new := min 12 (s.get F.L2_SRAM_WAYS)
     let at_ := fun (k : Nat) => 0x1080000000 + 0x80000 * k
     (Admits s i F.L2_SRAM_WAYS.key → Reaches (.l2SramWaysWrite i v) s (fun t => t.get F.L2_SRAM_WAYS = v.toNat % 16 ∧
       t.on F.L2_STATUS_BUSY = true ∧
       OnlyRegs [F.L2_SRAM_WAYS.key, F.L2_STATUS_BUSY.key] { s with bus := { s.bus with waysDue := true } } t)) ∧
     (s.on F.L2_STATUS_BUSY = true → Reaches (.l2ReconfigDone time) s (fun t => t.on F.L2_STATUS_BUSY = false ∧ t.windowWays = new ∧
       (∀ a n, t.l2Stalls a n = false) ∧
       (∀ a, at_ 0 ≤ a → a < at_ new → t.region a = .l2sram) ∧ (∀ a, at_ new ≤ a → a < 0x1082000000 → t.region a = .unmapped) ∧
       (∀ a, a < at_ (min old new) ∨ at_ (max old new) ≤ a → t.coreByte a = s.coreByte a) ∧
       (∀ a, at_ (min old new) ≤ a → a < at_ (max old new) → a < 2 ^ 40 → t.coreByte a = 0) ∧ t.eng = s.eng)) ∧
     (s.on F.L2_STATUS_BUSY = false → exec (.l2ReconfigDone time) s = .next (s.advance time)) ∧
     (Admits s i (F.L2_NC_LIMIT_EN n).key → Reaches (.ncWindowWrite i n true v) s (fun t =>
       t.get (F.L2_NC_LIMIT_LAST n) = v.toNat % 2 ^ 20 ∧ (t.on (F.L2_NC_LIMIT_EN n) = true ↔ v.toNat / 2 ^ 31 % 2 = 1) ∧
       (∀ a, t.coreByte a = s.coreByte a) ∧ (v.toNat / 2 ^ 31 % 2 = 0 → t.bus = s.bus ∧ t.on F.L2_STATUS_BUSY = s.on F.L2_STATUS_BUSY) ∧
       (v.toNat / 2 ^ 31 % 2 = 1 → t.on F.L2_STATUS_BUSY = true ∧ ∀ a, s.get (F.L2_NC_BASE n) * 2 ^ 20 ≤ a →
         a < (v.toNat % 2 ^ 20 + 1) * 2 ^ 20 → cellGet 0 t.mem a = s.coreByte a ∧ t.l2Stalls a 1 = true))) ∧
     (Admits s i (F.L2_NC_BASE n).key → Reaches (.ncWindowWrite i n false v) s (fun t =>
       t.get (F.L2_NC_BASE n) = v.toNat % 2 ^ 20 ∧ ∀ a, t.coreByte a = s.coreByte a)))

/-- On a core at Keeper level and at a boundary with nothing in flight. commit for a unit of an enabled head, not late:
with no sealed bank it seals OPEN, status 1; with a sealed bank and none queued it queues, status 2; with both it
changes nothing, status 10; late it adds 4 to the status and sets LATE. place of a window that is free or of the same
unit, on a present head that does not hold 64 windows, writes X, Y, HEAD, Z and PLACED, status 0; on an absent head
status 3; of a window of another unit status 1. pick of a window not placed in OPEN gives all ones; of one placed it
arms it, status 0. withhold of a window without an active image gives 3; of an active one it withholds the window from
now on, or asks for its release, status 0. (R117, R118, R119, R197, R198, R199, R202, R203) -/
def Obligations.CommitsAndPlacements : Prop :=
  ∀ (c : Fin 16) (d a b : Fin 32) (s : State), s.boundary (.core c) = none → s.inFlightOf c = false → (s.engine c).keeper = true →
    let e := Eng.core c
    let x := (s.gr c a).toNat
    let y := (s.gr c b).toNat
    let gives := fun (i : Instr) (v : Nat) (p : State → Prop) => Reaches i s (fun t => (d ≠ 0 → t.gr c d = BitVec.ofNat 64 v) ∧
      (∀ r, r ≠ d.val → t.gr c r = s.gr c r) ∧ SameBytes s t ∧ p t)
    let w := x % 2 ^ 11
    let h := x / 2 ^ 16 % 64
    let g := y % 64
    let u := s.unitOf g
    (s.hasHead g = true → s.unitOff u = false →
      (s.isLate u = false →
        ((s.unit u).sealed = false → gives (.commit e d b) 1 (fun t => (t.unit u).sealed = true ∧ t.regs = s.regs)) ∧
        ((s.unit u).sealed = true → (s.unit u).queued = false → gives (.commit e d b) 2 (fun t => (t.unit u).queued = true ∧ t.wins = s.wins)) ∧
        ((s.unit u).sealed = true → (s.unit u).queued = true → exec (.commit e d b) s = .next (s.wrote e d 10))) ∧
      (s.isLate u = true → (s.unit u).sealed = false → u < 48 → gives (.commit e d b) 5 (fun t => (t.unit u).sealed = true ∧ t.on (F.HEAD_COMMIT_LATE u) = true))) ∧
    (x < 2 ^ 31 →
      (s.hasHead h = true → w < s.nWins → (s.win w).unit = none ∨ (s.win w).unit = some (s.unitOf h) → s.openCount h < 64 →
        gives (.place e d a b) 0 (fun t => t.get (F.WIN_X w) = y % 2 ^ 13 ∧ t.get (F.WIN_Y w) = y / 2 ^ 16 % 2 ^ 13 ∧ t.get (F.WIN_HEAD w) = h ∧
          t.get (F.WIN_Z w) = x / 2 ^ 24 % 64 ∧ t.on (F.WIN_PLACED w) = true ∧ (t.win w).unit = some (s.unitOf h) ∧ (t.win w).act = (s.win w).act)) ∧
      (s.hasHead h = false → gives (.place e d a b) 3 (fun t => t.wins = s.wins ∧ ∃ r ∈ t.log.recent.head?, r.cls = 0x4D)) ∧
      (s.hasHead h = true → w < s.nWins → (∃ v, (s.win w).unit = some v ∧ v ≠ s.unitOf h) → gives (.place e d a b) 1 (fun t => t.wins = s.wins))) ∧
    (w < s.nWins →
      (s.openPlaced w = false → exec (.pick e d a) s = .next (s.wrote e d (BitVec.ofNat 64 (2 ^ 64 - 1)))) ∧
      (s.openPlaced w = true → x < 2 ^ 31 → gives (.pick e d a) 0 (fun t => (t.win w).openArm = true ∧ (t.win w).act = (s.win w).act ∧ t.regs = s.regs)) ∧
      ((s.win w).act = none → exec (.withhold e d a) s = .next (s.wrote e d 3)) ∧
      (∀ ws, (s.win w).act = some ws →
        (x / 2 ^ 31 % 2 = 0 → gives (.withhold e d a) 0 (fun t => (t.win w).withheld = some ((s.win w).withheld.getD s.time.pix) ∧ t.regs = s.regs)) ∧
        (x / 2 ^ 31 % 2 = 1 → gives (.withhold e d a) 0 (fun t => ((t.win w).release = true ↔ (s.win w).withheld.isSome = true) ∧ t.regs = s.regs))))

/-- On a core at a boundary with nothing in flight. crc feeds the low 1, 2, 4 or 8 bytes of B into the CRC-32C state in A.
tagld with B [2] set gives doubleword B [1:0] of the tag buffer; with it clear it reads the 32 bytes at A, aligned in
DRAM or frame SRAM, open to the core and not stalled by a change of the L2, into the buffer and gives that doubleword
of them. tagchk of a tag whose CHECK is wrong reads it into the buffer and gives a word with bits 0, 2 and [63:32]
zero; an unaligned A raises MISALIGNED. scan with B above 7 gives status 3, and status 1 when the unit's queue holds
16 jobs. On a core at a boundary with nothing in flight: a target below 0x80 fired at User level raises PRIVILEGE. At
Keeper level a reserved target gives status 3 and does nothing; TRIG_OUT n starts a pulse of A [15:0] times 10 ns, 0
counting as 1, status 0, unless one is under way, status 1. A ring target of a ring that is not enabled gives status 2
with class 0x09. (R204, R205, R207, R208, R209, R210) -/
def Obligations.MediaGroup : Prop :=
  (∀ (c : Fin 16) (d a b : Fin 32) (n : Fin 4) (s : State), s.boundary (.core c) = none → s.inFlightOf c = false →
     let e := Eng.core c
     let x := (s.gr c a).toNat
     let y := (s.gr c b).toNat
     let j := y % 4
     let word := fun (l : List Byte) => BitVec.ofNat 64 (leNat ((l.drop (8 * j)).take 8))
     let tag := s.coreRead x 32
     let ok := x < 2 ^ 40 ∧ x % 32 = 0 ∧ (s.region x = .dram ∨ s.region x = .fsram) ∧ (s.initCheck (s.engSrc c) .read x 32).1 = true ∧
       s.poisoned x 32 = false ∧ s.l2Stalls x 32 = false
     exec (.crc e d a b n) s = .next (s.wrote e d (BitVec.ofNat 64 (crc32cFrom (x % 2 ^ 32) (leBytes y (2 ^ n.val))))) ∧
     ((s.engine c).tb.length = 32 → y / 4 % 2 = 1 → exec (.tagld e d a b) s = .next (s.wrote e d (word (s.engine c).tb))) ∧
     (ok → y / 4 % 2 = 0 → Reaches (.tagld e d a b) s (fun t => (t.engine c).tb = tag ∧ (d ≠ 0 → t.gr c d = word tag) ∧
       (∀ r, r ≠ d.val → t.gr c r = s.gr c r) ∧ OnlyEngine c s t)) ∧
     (ok → leNat (tag.drop 28) ≠ crc32c (tag.take 28) → Reaches (.tagchk e d a) s (fun t => (t.engine c).tb = tag ∧
       (∀ r, r ≠ d.val → t.gr c r = s.gr c r) ∧ (t.gr c d).toNat % 2 = 0 ∧ (t.gr c d).toNat / 4 % 2 = 0 ∧ (t.gr c d).toNat / 2 ^ 32 = 0 ∧ OnlyEngine c s t)) ∧
     (x < 2 ^ 40 → x % 32 ≠ 0 → ∃ z, exec (.tagchk e d a) s = .next (s.raiseCause e 6 (some x) z)) ∧
     (x < 2 ^ 40 → x % 32 = 0 →
       (8 ≤ y → Reaches (.scan e d a b) s (fun t => (d ≠ 0 → t.gr c d = 3) ∧ (∀ r, r ≠ d.val → t.gr c r = s.gr c r) ∧ t.chk = s.chk ∧ t.regs = s.regs)) ∧
       (y < 8 → 16 ≤ (s.chkQueue y).length → Reaches (.scan e d a b) s (fun t => (d ≠ 0 → t.gr c d = 1) ∧
         (∀ r, r ≠ d.val → t.gr c r = s.gr c r) ∧ t.chk = s.chk ∧ t.regs = s.regs)))) ∧
  (∀ (c : Fin 16) (d a b : Fin 32) (s : State), s.boundary (.core c) = none → s.inFlightOf c = false →
     let e := Eng.core c
     let g := (s.gr c b).toNat % 256
     let n := g % 4
     let w := max 1 ((s.gr c a).toNat % 2 ^ 16)
     ((s.engine c).keeper = false → g < 0x80 → ∃ z, exec (.trig e d a b) s = .next (s.raiseCause e 2 none z)) ∧
     ((s.engine c).keeper = true →
       ((0x22 ≤ g ∧ g < 0x30) ∨ (0x44 ≤ g ∧ g < 0x80) → exec (.trig e d a b) s = .next (s.wrote e d 3)) ∧
       (0x40 ≤ g → g < 0x44 →
         (tabGet 0 s.trigOut n ≤ s.time.pix → exec (.trig e d a b) s =
           .next { (s.wrote e d 0) with trigOut := tabSet s.trigOut n (s.time.pix + 12 * w) }) ∧
         (s.time.pix < tabGet 0 s.trigOut n → exec (.trig e d a b) s = .next (s.wrote e d 1)))) ∧
     (0x80 ≤ g → s.on (F.RINGS_CFG_EN (g - 0x80)) = false → Reaches (.trig e d a b) s (fun t => (d ≠ 0 → t.gr c d = 2) ∧ SameBytes s t ∧
       (∀ r, r ≠ d.val → t.gr c r = s.gr c r) ∧ ∃ r ∈ t.log.recent.head?, r.cls = 0x09)))

/-- A write of CTL with RUN set starts a HALTED sequencer: RUNNING at ENTRY with g1 its number, g2 word 1 of the family
parameter block, the other registers zero and FMARK the frame under way. With RUN clear it halts one that runs or
waits, and turns FAULTED and WATCHDOG into HALTED. Past its budget a run counts once, and with BUDGET_STOP set stops
the sequencer in FAULTED with cause 0x20. WDOG frame starts without a commit stop it in WATCHDOG with class 0x4A. A
write of its local memory changes those 4 bytes while it is stopped, and ends an uncorrectable error of that word, and
else nothing but the log, class 0x4E. On line sequencer n at a boundary within its budget, its head being there: wline
whose target has been reached counts a LATE_WAIT, writes the position word into D and goes on; one whose target lies
ahead puts the sequencer into WAITING with the PC at the wline. The I form takes FMARK as the frame and IMM16 [13:0]
as the line; with IMM16 [15:14] not zero it stops the sequencer with ILLEGAL, and a core does not execute it. (R134,
R183, R190, R191, R194, R213, R215, R216, R218, R219, R220, R224) -/
def Obligations.SequencerControl : Prop :=
  (∀ (i : Initiator) (n : Fin 48) (o : Fin 4096) (v : Word) (time : Nat) (s : State),
     let k := 16 + n.val
     let x := s.engine k
     let st := s.get (F.SEQN_STATE n)
     let u := s.advance time
     let at_ := 0x4000 * n.val + 4 * o.val
     (Admits s i (F.SEQN_CTL_RUN n).key → v.toNat % 2 = 1 → st = 0 → Reaches (.seqStart i n v) s (fun t => t.get (F.SEQN_STATE n) = 1 ∧
       (t.engine k).pc = s.get (F.SEQN_ENTRY n) / 4 * 4 ∧ t.gr k 1 = BitVec.ofNat 64 n.val ∧ t.gr k 2 = BitVec.ofNat 64 (s.fpbWord 1) ∧
       (∀ r, r ≠ 1 → r ≠ 2 → t.gr k r = 0) ∧ t.get (F.SEQN_FMARK n) = (s.tb (s.master n)).fseq % 256 ∧ (t.engine k).wait = .none)) ∧
     (Admits s i (F.SEQN_CTL_RUN n).key → v.toNat % 2 = 0 → st < 5 → Reaches (.seqHalt i n v) s (fun t => t.get (F.SEQN_STATE n) = 0 ∧
       ∀ r, t.gr k r = s.gr k r)) ∧
     (st = 1 → x.overrun = false → u.budgetOf n < u.time.pix - x.runAt → Reaches (.seqBudget time n) s (fun t => (t.engine k).overrun = true ∧
       ((s.reg (F.SEQN_BUDGET_COUNT n).key).toNat < 2 ^ 31 - 1 → t.reg (F.SEQN_BUDGET_COUNT n).key = s.reg (F.SEQN_BUDGET_COUNT n).key + 1) ∧
       (s.on (F.SEQN_CTL_BUDGET_STOP n) = true → t.get (F.SEQN_STATE n) = 3 ∧ t.get (F.SEQN_FAULT_CAUSE n) = 0x20) ∧
       (s.on (F.SEQN_CTL_BUDGET_STOP n) = false → t.get (F.SEQN_STATE n) = 1))) ∧
     (st = 1 ∨ st = 2 → s.get (F.SEQN_WDOG n) ≠ 0 → s.get (F.SEQN_WDOG n) ≤ x.sinceCommit → Reaches (.seqWatchdog time n) s (fun t =>
       t.get (F.SEQN_STATE n) = 4 ∧ ∃ r ∈ t.log.recent.head?, r.cls = 0x4A)) ∧
     (Admits s i (seqMemKey n o) → s.memoriesOk = true →
       (st = 0 ∨ st = 3 ∨ st = 4 → Reaches (.seqMemWrite i n o v) s (fun t => { t with seqMem := s.seqMem, seqBad := s.seqBad } = s ∧ at_ / 4 ∉ t.seqBad ∧
         leNat (cellRead 0 t.seqMem at_ 4) = v.toNat ∧ ∀ j, j < at_ ∨ at_ + 4 ≤ j → cellGet 0 t.seqMem j = cellGet 0 s.seqMem j)) ∧
       (st = 1 ∨ st = 2 → Reaches (.seqMemWrite i n o v) s (fun t => OnlyLogged [] s t ∧ ∃ r ∈ t.log.recent.head?, r.cls = 0x4E)))) ∧
  (∀ (n : Fin 48) (d a b : Fin 32) (imm : BitVec 16) (c : Fin 16) (s : State),
     let e := Eng.seq n
     let k := 16 + n.val
     let x := s.engine k
     let reached := fun (m : Nat) => (s.pos n + 2 ^ 32 - m % 2 ^ 32) % 2 ^ 32 < 2 ^ 31
     let late := fun (i : Instr) => Reaches i s (fun t => t.get (F.SEQN_STATE n) = 1 ∧ (t.engine k).pc = (x.pc + 4) % 2 ^ 40 ∧
       (d ≠ 0 → t.gr k d = BitVec.ofNat 64 (s.pos n)) ∧ (∀ r, r ≠ d.val → t.gr k r = s.gr k r) ∧
       ((s.reg (F.SEQN_LATE_WAIT n).key).toNat < 2 ^ 31 - 1 → t.reg (F.SEQN_LATE_WAIT n).key = s.reg (F.SEQN_LATE_WAIT n).key + 1))
     let waits := fun (i : Instr) (m : Nat) => Reaches i s (fun t => t.get (F.SEQN_STATE n) = 2 ∧ (t.engine k).pc = x.pc ∧
       (t.engine k).wait = .line d.val n.val (m % 2 ^ 32) ∧ ∀ r, t.gr k r = s.gr k r)
     let y := (s.gr k a).toNat
     let z := s.get (F.SEQN_FMARK n) * 2 ^ 24 + imm.toNat * 2 ^ 10
     (s.boundary e = none → s.hasHead n = true → (x.overrun = true ∨ s.time.pix - x.runAt ≤ s.budgetOf n) →
       (reached y → late (.wline e d a b)) ∧ (¬reached y → waits (.wline e d a b) y) ∧
       (imm.toNat < 2 ^ 14 → (reached z → late (.wlineI e d imm)) ∧ (¬reached z → waits (.wlineI e d imm) z)) ∧
       (2 ^ 14 ≤ imm.toNat → exec (.wlineI e d imm) s = .next (s.seqFault n 1 none))) ∧
     (s.boundary (.core c) = none → ∃ w, exec (.wlineI (.core c) d imm) s = .next (s.raiseCause (.core c) 1 none w)))

/-- A write of HTIM, VTIM or RATE of a disabled head, VTIM and RATE only while no head of its enabled span is enabled,
takes the fields of that register and changes nothing else; of an enabled head it changes nothing and logs class 0x45.
A write of REF takes its seven bits and nothing else. A write of CFG with ENABLE set to a disabled head, outside
SERVICE, takes DEPTH, DEADLINE and FHOLD and enables the head when it passes the checks of R94; else it logs class
0x45 with the code of the first check that fails, and the head stays disabled. A write with ENABLE clear to an enabled
head disables it: it sends no further line. (R93, R94, R95, R96, R131) -/
def Obligations.HeadRegisters : Prop :=
  ∀ (i : Initiator) (h : Fin 48) (v : Word) (s : State),
    let n := v.toNat
    let key := fun (k : Nat) => (F.HEAD_HTIM_HACTIVE h).key + 4 * k
    let takes := fun (k : Fin 3) (p : State → Prop) => Admits s i (key k) → s.enabled h = false →
      (k = 0 ∨ ∀ p, s.spanOf h = some p → (s.members p).any s.enabled = false) →
      Reaches (.timingWrite i h k v) s (fun t => p t ∧ OnlyRegs [key k] s t)
    takes 0 (fun t => t.get (F.HEAD_HTIM_HACTIVE h) = n % 2 ^ 13 ∧ t.get (F.HEAD_HTIM_HTOTAL h) = n / 2 ^ 16 % 2 ^ 13) ∧
    takes 1 (fun t => t.get (F.HEAD_VTIM_VACTIVE h) = n % 2 ^ 13 ∧ t.get (F.HEAD_VTIM_VTOTAL h) = n / 2 ^ 16 % 2 ^ 14) ∧
    takes 2 (fun t => t.get (F.HEAD_RATE_NUM h) = n % 2 ^ 16 ∧ t.get (F.HEAD_RATE_DEN h) = n / 2 ^ 16 % 2 ^ 16) ∧
    (∀ k : Fin 3, Admits s i (key k) → s.enabled h = true → Reaches (.timingWrite i h k v) s (fun t => OnlyLogged [] s t ∧
      ∃ r ∈ t.log.recent.head?, r.cls = 0x45)) ∧
    (Admits s i (key 4) → Reaches (.refWrite i h v) s (fun t => (t.reg (key 4)).toNat % 2 ^ 7 = n % 2 ^ 7 ∧
      (t.reg (key 4)).toNat / 2 ^ 7 = (s.reg (key 4)).toNat / 2 ^ 7 ∧ OnlyRegs [key 4] s t)) ∧
    (Admits s i (key 3) → n % 2 = 1 → s.enabled h = false → s.mode ≠ 11 →
      let z := ((s.put (F.HEAD_CFG_FHOLD h) (n / 2 ^ 4)).put (F.HEAD_CFG_DEPTH h) (n / 2)).put (F.HEAD_CFG_DEADLINE h) (n / 2 ^ 16)
      Reaches (.headEnable i h v) s (fun t => t.get (F.HEAD_CFG_DEPTH h) = n / 2 % 4 ∧ t.get (F.HEAD_CFG_DEADLINE h) = n / 2 ^ 16 % 2 ^ 14 ∧
        t.get (F.HEAD_CFG_FHOLD h) = n / 2 ^ 4 % 4 ∧ (t.enabled h = true ↔ z.enableCode h = 0) ∧
        (z.enableCode h ≠ 0 → ∃ r ∈ t.log.recent.head?, r.cls = 0x45 ∧ r.detail / 2 ^ 24 = z.enableCode h))) ∧
    (Admits s i (key 3) → n % 2 = 0 → s.enabled h = true → Reaches (.headDisable i h v) s (fun t => t.enabled h = false ∧ (t.tb h).sending = false ∧
      (t.head h).composed.full = false))

/-- A write of COMMIT with REQ set, for a solo head that is enabled, whose request is not late and whose unit has no
sealed bank, seals the unit: every window of it holds the descriptor of the OPEN bank as its sealed image, and no
active image changes. APPLY at line VACTIVE of a unit that is sealed, not skipped and at the end of its hold period,
with nothing queued, no load of FSEQ due and no unit of a lower master that shares a slice and the clock: when the
checks of R230 pass, every window of the unit whose sealed image is placed and not removed has that image as its
active one, and the unit is sealed no longer; when one fails, no active image changes, the head reports the code and
class 0x4F is logged. Away from line VACTIVE it does nothing. APPLY_DONE ends the transfer, and nothing else changes
when no decode pipe waits for it. (R116, R117, R118, R120, R127, R201, R230, R231, R284) -/
def Obligations.CommitUnits : Prop :=
  ∀ (i : Initiator) (v : Word) (h : Fin 48) (u : Fin 64) (time : Nat) (s : State),
    let z := s.advance time
    let b := s.tb (s.unitMaster u)
    (∀ w : Fin 64, w.val = h.val → Admits s i (F.HEAD_COMMIT_REQ h).key → s.unitLive h = true → v.toNat % 2 = 1 → v.toNat / 8 % 2 = 0 →
      s.unitOff h = false → s.isLate h = false → (s.unit h).sealed = false → Reaches (.commitReq i w v) s (fun t => (t.unit h).sealed = true ∧ t.regs = s.regs ∧
        ∀ x, (t.win x).act = (s.win x).act ∧ ((s.win x).unit = some h.val → ∃ k, (t.win x).sealed = some k ∧ k.words = s.winWords x ∧
          k.remove = (s.win x).openRemove ∧ k.arm = (s.win x).openArm))) ∧
    (s.unitLive u = true → b.line = b.timing.vactive → (s.unit u).applying = false → (s.unit u).sealed = true → (s.unit u).queued = false →
      b.loadDue = false → z.applyOrder u = [] → (s.unit u).skip ≠ some b.fseq → b.succ.getD ((b.fseq + 1) % 2 ^ 32) % ((s.unit u).hold + 1) = 0 →
      (z.applyCheck u = none → Reaches (.apply time u) s (fun t => (t.unit u).sealed = false ∧ (t.unit u).applying = true ∧
        ∀ x k, (s.win x).unit = some u.val → (s.win x).sealed = some k → k.remove = false → wPlaced k.words = true → (t.win x).act = some k.words)) ∧
      (∀ code g x, z.applyCheck u = some (code, g, x) → Reaches (.apply time u) s (fun t => (t.unit u).sealed = false ∧
        (∀ y, (t.win y).act = (s.win y).act) ∧ t.on (F.CHEAD_APPLY_STATUS_REFUSED g) = true ∧ t.get (F.CHEAD_APPLY_STATUS_CODE g) = code % 16 ∧
        ∃ r ∈ t.log.recent.head?, r.cls = 0x4F))) ∧
    (b.line ≠ b.timing.vactive → z.applyOrder u = [] → exec (.apply time u) s = .next z) ∧
    Reaches (.applyDone time u) s (fun t => (t.unit u).applying = false ∧ (t.unit u).sealed = (s.unit u).sealed ∧ t.wins = s.wins) ∧
    ((∀ p, p < 16 → (s.pipe p).markDue = false) → exec (.applyDone time u) s = .next (z.setUnit u { s.unit u with applying := false }))

/-- Of a head that runs its own timebase, once its last line has lasted its fixed duration and with no step or load of its
position due, FRAME_START counts FSEQ up by one modulo 2^32, and line 0 starts where the last line ended; before that
it does nothing. LINE_START of such a head, once the line under way has lasted its duration, counts its line up by
one, and that line starts where the other ended; before that it does nothing; past the last line it starts the frame,
and after a FRAME_START it keeps line 0. A member of a span that follows its master starts the master's line and moves
no timebase. A head that sends puts out the line composed for it when its number and FSEQ are those of the line that
starts. A write of CTRL with ENABLE set to a disabled span takes FHOLD and DEADLINE; when it passes the checks of R113
the span is enabled with its lowest member as master, and every member reports the span; else class 0x47 carries the
code of the first check that fails, and the span stays disabled. A write with ENABLE clear ends an enabled span with
no enabled head, and the timebases of its members go on from the master's position; with one it changes no member and
logs code 7. MEMBERS of a disabled span take the heads that the part has, and COUNT is their number; of an enabled one
they stay, code 6. (R61, R88, R90, R92, R95, R113, R114, R115, R576) -/
def Obligations.FramesAndLines : Prop :=
  (∀ (h : Fin 48) (time : Nat) (ups : List PixUpset) (s : State), s.hasHead h = true →
     let z := s.advance time
     let b := s.tb h
     let m := s.tb (s.master h)
     let c := (s.head h).composed
     let endsAt := b.lineAt + b.lineLen
     let ended := endsAt ≤ s.time.pix + time
     let sends := fun (t : State) => h.val < 32 → b.sending = true → s.composes h = true → m.line < m.timing.vactive → c.full = true →
       c.no = m.line → c.fseq = m.fseq →
         (t.head h).sent.no = m.line ∧ (t.head h).sent.fseq = m.fseq ∧ (t.head h).sent.full = true ∧ (t.head h).sent.pix.length = c.pix.length
     (s.master h = h →
       (ended → b.timing.vtotal ≤ b.line + 1 → b.stepDue = none → b.loadDue = false →
         Reaches (.frameStart time h) s (fun t => (t.tb h).fseq = (b.fseq + 1) % 2 ^ 32 ∧ (t.tb h).line = 0 ∧ (t.tb h).lineAt = endsAt ∧
           (t.tb h).fresh = true) ∧
         (b.fresh = false → Reaches (.lineStart time h ups) s (fun t => (t.tb h).fseq = (b.fseq + 1) % 2 ^ 32 ∧ (t.tb h).line = 0 ∧
           (t.tb h).lineAt = endsAt ∧ (t.tb h).fresh = false))) ∧
       (¬ended ∨ b.line + 1 < b.timing.vtotal → exec (.frameStart time h) s = .next z) ∧
       (b.fresh = false → ended → b.line + 1 < b.timing.vtotal → Reaches (.lineStart time h ups) s (fun t => (t.tb h).line = b.line + 1 ∧
         (t.tb h).lineAt = endsAt ∧ (t.tb h).fseq = b.fseq)) ∧
       (b.fresh = false → ¬ended → exec (.lineStart time h ups) s = .next z) ∧
       (b.fresh = true → Reaches (.lineStart time h ups) s (fun t => (t.tb h).line = b.line ∧ (t.tb h).lineAt = b.lineAt ∧
         (t.tb h).fseq = b.fseq ∧ (t.tb h).fresh = false ∧ sends t))) ∧
     (s.master h ≠ h → exec (.frameStart time h) s = .next z ∧
       Reaches (.lineStart time h ups) s (fun t => (∀ g, t.tb g = s.tb g) ∧ sends t))) ∧
  (∀ (i : Initiator) (p : Fin 16) (v : Word) (s : State),
     let n := v.toNat
     let ctl := (F.SPAN_CTRL_ENABLE p).key
     let logs := fun (t : State) (code : Nat) => ∃ r ∈ t.log.recent.head?, r.cls = 0x47 ∧ r.detail / 2 ^ 24 = code
     (Admits s i ctl → n % 2 = 1 → s.on (F.SPAN_CTRL_ENABLE p) = false →
       let z := (s.put (F.SPAN_CTRL_FHOLD p) (n / 2 ^ 4)).put (F.SPAN_CTRL_DEADLINE p) (n / 2 ^ 16)
       Reaches (.spanEnable i p v) s (fun t => t.get (F.SPAN_CTRL_DEADLINE p) = n / 2 ^ 16 % 2 ^ 14 ∧
         (t.on (F.SPAN_CTRL_ENABLE p) = true ↔ z.spanCode p = 0) ∧
         (z.spanCode p = 0 → t.get (F.SPAN_STATUS_MASTER p) = (s.members p).head?.getD 0 % 2 ^ 6 ∧
           t.get (F.SPAN_STATUS_COUNT p) = s.get (F.SPAN_STATUS_COUNT p) ∧ ∀ h ∈ s.members p, t.spanOf h = some p.val) ∧
         (z.spanCode p ≠ 0 → logs t (z.spanCode p)))) ∧
     (Admits s i ctl → n % 2 = 0 → s.on (F.SPAN_CTRL_ENABLE p) = true →
       ((s.members p).any s.enabled = false → Reaches (.spanDisable i p v) s (fun t => t.on (F.SPAN_CTRL_ENABLE p) = false ∧
         ∀ h ∈ s.members p, t.spanOf h = none ∧ (t.tb h).fseq = (s.tb (s.get (F.SPAN_STATUS_MASTER p))).fseq ∧
           (t.tb h).line = (s.tb (s.get (F.SPAN_STATUS_MASTER p))).line)) ∧
       ((s.members p).any s.enabled = true → Reaches (.spanDisable i p v) s (fun t => t.on (F.SPAN_CTRL_ENABLE p) = true ∧ logs t 7 ∧ ∀ h, t.spanOf h = s.spanOf h))) ∧
     (Admits s i (F.SPAN_MEMBERS_LO p).key →
       (s.on (F.SPAN_CTRL_ENABLE p) = false → Reaches (.spanMembersWrite i p 0 v) s (fun t =>
         t.get (F.SPAN_MEMBERS_LO p) = n &&& (2 ^ s.nHeads - 1) ∧ t.get (F.SPAN_STATUS_COUNT p) = (t.members p).length % 2 ^ 6 ∧
         OnlyRegs [(F.SPAN_MEMBERS_LO p).key, (F.SPAN_STATUS_COUNT p).key] s t)) ∧
       (s.on (F.SPAN_CTRL_ENABLE p) = true → Reaches (.spanMembersWrite i p 0 v) s (fun t => OnlyLogged [] s t ∧ logs t 6))))

/-- A pulse narrower than MIN_W does nothing; a wide one is noted, and with no follower the input's PERIOD takes the
spacing from the one before, and nothing else changes. with one follower in ACQUIRE it is that timebase's first
candidate. PULSE_MISSING, once the window of an expected pulse of a reference other than time has ended, counts and
has a timebase that TRACKs or is LOCKED enter FREEWHEEL, which walks no more; on one in FREE, or that follows time, it
does nothing. GENLOCK_LOST after eight frames in FREEWHEEL logs class 0x41 and enters HOLDOVER, or ACQUIRE on the
fallback source where one is named. A virtual pulse does nothing before the first lock of time nor before it is due;
after it, on a head in ACQUIRE whose source is PTP, it is the first of a candidate. (R97, R100, R102, R106, R107,
R108, R109, R110, R130) -/
def Obligations.Genlock : Prop :=
  ∀ (n : Fin 2) (h : Fin 48) (width time : Nat) (s : State),
    let z := s.advance time
    let now := s.time.pix + time
    let b := s.tb h
    let st := s.get (F.HEAD_GL_STATE_STATE h)
    let last := if n = 0 then s.glin.at0 else s.glin.at1
    let period := if n = 0 then F.RASTER_GL_IN0_PERIOD else F.RASTER_GL_IN1_PERIOD
    (width < 10 * max 1 (s.get F.RASTER_GL_IN_CFG_MIN_W) → exec (.genlockPulse time n width) s = .next z) ∧
    (10 * max 1 (s.get F.RASTER_GL_IN_CFG_MIN_W) ≤ width → s.followers (n.val + 1) = [] → Reaches (.genlockPulse time n width) s (fun t =>
      (if n = 0 then t.glin.at0 else t.glin.at1) = some now ∧ (∀ p, last = some p → t.get period = (now - p) % 2 ^ 32) ∧ t.tbs = s.tbs ∧
      ∀ k, k ≠ period.key → tabGet? t.regs k = tabGet? s.regs k)) ∧
    (10 * max 1 (s.get F.RASTER_GL_IN_CFG_MIN_W) ≤ width → s.followers (n.val + 1) = [h.val] → st = 1 → b.cand = [] →
      Reaches (.genlockPulse time n width) s (fun t => (t.tb h).cand = [now] ∧ t.get (F.HEAD_GL_STATE_STATE h) = 1)) ∧
    (s.hasHead h = true → s.master h = h →
      (z.windowOver h = true → b.src ≠ 3 → st = 2 ∨ st = 3 → Reaches (.pulseMissing time h) s (fun t => t.get (F.HEAD_GL_STATE_STATE h) = 4 ∧
        (t.tb h).missed = b.missed + 1 ∧ (t.tb h).walk = 0 ∧ (t.tb h).walkNow = 0 ∧
        ((s.reg (F.HEAD_MISSING_COUNT h).key).toNat < 2 ^ 31 - 1 → t.reg (F.HEAD_MISSING_COUNT h).key = s.reg (F.HEAD_MISSING_COUNT h).key + 1))) ∧
      (st = 0 ∨ b.src = 3 ∨ z.windowOver h = false → exec (.pulseMissing time h) s = .next z) ∧
      (8 ≤ b.freeFrames → st = 4 →
        (b.fallback = 0 ∨ b.fallback = b.src → Reaches (.genlockLost time h) s (fun t => t.get (F.HEAD_GL_STATE_STATE h) = 5 ∧ (t.tb h).src = b.src ∧
          ∃ r ∈ t.log.recent.head?, r.cls = 0x41)) ∧
        (b.fallback ≠ 0 → b.fallback ≠ b.src → Reaches (.genlockLost time h) s (fun t => t.get (F.HEAD_GL_STATE_STATE h) = 1 ∧ (t.tb h).src = b.fallback ∧
          (t.tb h).fallback = 0))) ∧
      (s.time.everLocked = false ∨ z.pulseDue h = false → exec (.virtualPulse time h) s = .next z) ∧
      (s.time.everLocked = true → z.pulseDue h = true → b.src = 3 → st = 1 → b.cand = [] → Reaches (.virtualPulse time h) s (fun t => (t.tb h).cand = [now] ∧ t.regs = s.regs)))

/-- On an enabled head whose one supervised window carries a good tag, with two or more instances in service and nothing
held, withheld or upset: AGE_PROGRESS_VOTE finds STALE when the age of the picture on the next line exceeds the stale
bound, LOST for a picture more than 2 ms in the future, and LIVE when neither is so, no age is latched and it has
advanced within the freeze bound; WSTATE holds the age. VOTE_COMPLETE of a line on which the window's SENT differs
from EXPECTED reports INTEGRITY, reason 15, counts it and holds it for the frame; of a line that agrees, LIVE.
INTEGRITY_COMPARE marks exactly the unaltered window-lines whose SENT differs. Of a head with ENABLE 0
AGE_PROGRESS_VOTE judges nothing. VERDICT_DELIVERY hands each window's verdict to the snuff stage: the one reached,
WITHHELD in ORDERLY_STOP, UNVERIFIED with fewer than two instances in service. Two instances of three that agree
decide, and the third dissents; three that all differ give UNVERIFIED. (R39, R54, R55, R56, R59, R61, R63, R65, R67,
R77, R86) -/
def Obligations.VigilVerdicts : Prop :=
  (∀ (h : Fin 48) (w : Fin 2048) (ws : List Word) (l : Latched) (time : Nat) (s : State),
    let x := s.win w
    let t0 := tagOf l.bytes
    let b := s.tb (s.master h)
    let d := (b.dispNext + 999) / 1000 % 2 ^ 32
    let age := sint 32 (d + 2 ^ 32 - t0.capture / 1000 % 2 ^ 32)
    let n := s.lineOf h
    let bd := if (s.nextLine h).1 = 0 then s.nextBounds h ws else x.bounds
    s.enabled h = true → s.supWins h = [(w.val, ws)] → x.tag = some l → t0.ok = true → 2 ≤ s.inService.length → s.mode ≠ 10 → (s.head h).stepHold = 0 →
    x.withheld = none → x.heldInt = 0 → x.heldUnv = 0 → x.echoLost = false → x.pick = (0, 0) → x.pickWas = (0, 0) → x.inject = 0 → x.snuff = (0, 0) →
      ((bd.1 : Int) < age → Reaches (.ageProgressVote time h []) s (fun t => (t.win w).evald = (1, 1) ∧
        t.on (F.VIGIL_WSTATE_AGE_LATCH w) = true ∧ t.getI (F.VIGIL_WSTATE_AGE w) = age)) ∧
      (age < -2000 → Reaches (.ageProgressVote time h []) s (fun t => (t.win w).evald = (4, 10))) ∧
      (-2000 ≤ age → age ≤ bd.1 → s.on (F.VIGIL_WSTATE_AGE_LATCH w) = false → x.advDue = false → x.streamDue = false →
        sint 32 (d + 2 ^ 32 - s.get (F.VIGIL_WSTATE_ADV w)) ≤ bd.2.1 →
        Reaches (.ageProgressVote time h []) s (fun t => (t.win w).evald = (0, 0))) ∧
      (∀ q, crosses ws n = true → (s.head h).sent.wins.find? (fun j => j.win = w.val) = some q → q.path = 0 →
        (q.mismatch = true → Reaches (.voteComplete time h [] [] []) s (fun t => t.get (F.VIGIL_WSTATE_VERDICT w) = 5 ∧
          t.get (F.VIGIL_WSTATE_REASON w) = 15 ∧ (t.win w).heldInt = 15 ∧ (t.win w).last = (5, 15))) ∧
        (q.mismatch = false → Reaches (.voteComplete time h [] [] []) s (fun t => t.get (F.VIGIL_WSTATE_VERDICT w) = 0 ∧
          (t.win w).last = (0, 0) ∧ (t.win w).lastGood = some l)))) ∧
  (∀ (h : Fin 48) (time : Nat) (ups : List Upset) (s : State),
    (s.enabled h = false → exec (.ageProgressVote time h ups) s = .next (s.advance time)) ∧ Reaches (.integrityCompare time h) s (fun t => t.regs = s.regs ∧
      (t.head h).sent.wins.length = (s.head h).sent.wins.length ∧
      ∀ (j : Nat) (q : WinLine), (s.head h).sent.wins[j]? = some q → ∃ r, (t.head h).sent.wins[j]? = some r ∧ r.sent = q.sent ∧
        (r.mismatch = true ↔ q.altered = false ∧ q.cols ≠ [] ∧ q.sent ≠ q.expected)) ∧
    Reaches (.verdictDelivery time h) s (fun t => t.regs = s.regs ∧ ∀ e ∈ s.supWins h,
      (2 ≤ s.inService.length → s.mode ≠ 10 → (t.win e.1).snuff = (s.win e.1).next) ∧
      (2 ≤ s.inService.length → s.mode = 10 → (t.win e.1).snuff = (7, 20)) ∧ (s.inService.length < 2 → (t.win e.1).snuff.1 = 6))) ∧
  (∀ (a b c : Nat × Nat), (a.1 = b.1 → voteOf [(0, a), (1, b), (2, c)] = ⟨a, if c.1 = a.1 then none else some 2, false⟩) ∧
    (a.1 ≠ b.1 → a.1 = c.1 → voteOf [(0, a), (1, b), (2, c)] = ⟨a, some 1, false⟩) ∧
    (a.1 ≠ b.1 → b.1 = c.1 → voteOf [(0, a), (1, b), (2, c)] = ⟨b, some 0, false⟩) ∧
    (a.1 ≠ b.1 → a.1 ≠ c.1 → b.1 ≠ c.1 → voteOf [(0, a), (1, b), (2, c)] = ⟨(6, 17), none, true⟩))

/-- A write of VIGIL.CTRL with LOCK set locks, and nothing unlocks; while it is unlocked TWIN follows its bit, and ECHO
always does. A colour is taken while unlocked when it keeps the luminance rule of R76, and else changes nothing, with
class 0x3D; while locked it changes nothing. INJECT with GO arms its instance on its window. Of an enabled head, and
of no other, an echo that its lantern supports, that is due and that is absent after ECHO_TIMEOUT lines is counted,
logged as class 0x37 and remembered for the frame. (R49, R52, R76, R82, R87) -/
def Obligations.VigilRegisters : Prop :=
  ∀ (i : Initiator) (c : Fin 8) (v : Word) (h : Fin 48) (line : Nat) (w : Fin 2048) (time : Nat) (s : State),
    let n := v.toNat
    let rgb := n % 2 ^ 24
    let most := max (rgb / 2 ^ 16) (max (rgb / 2 ^ 8 % 2 ^ 8) (rgb % 2 ^ 8))
    let fld := if c = 0 then F.VIGIL_CLOVE_HATCH else F.VIGIL_COLOUR c
    let locked := s.on F.VIGIL_CTRL_LOCK = true
    (Admits s i F.VIGIL_CTRL_LOCK.key → Reaches (.vigilCtrlWrite i v) s (fun t =>
      (t.on F.VIGIL_CTRL_LOCK = true ↔ locked ∨ n % 2 = 1) ∧ (t.on F.VIGIL_CTRL_ECHO = true ↔ n / 2 ^ 8 % 2 = 1) ∧
      (¬locked → (t.on F.VIGIL_CTRL_TWIN = true ↔ n / 2 % 2 = 1)) ∧ (locked → t.on F.VIGIL_CTRL_TWIN = s.on F.VIGIL_CTRL_TWIN) ∧
      t.get F.VIGIL_CTRL_ECHO_EVERY = n / 2 ^ 9 % 8)) ∧
    (Admits s i (colourKey c) →
      (locked → exec (.colourWrite i c v) s = .next s) ∧
      (¬locked → (c = 2 ↔ most < 0x80) → Reaches (.colourWrite i c v) s (fun t => t.get fld = rgb ∧ OnlyRegs [fld.key] s t)) ∧
      (¬locked → (c = 2 ↔ 0x80 ≤ most) → Reaches (.colourWrite i c v) s (fun t => OnlyLogged [] s t ∧ ∃ r ∈ t.log.recent.head?, r.cls = 0x3D))) ∧
    (Admits s i F.VIGIL_INJECT_WINDOW.key → n / 2 ^ 16 % 2 = 1 → n / 2 ^ 12 % 4 ≠ 3 → Reaches (.vigilInject i v) s (fun t =>
      (t.win (n % 2 ^ 11)).inject = n / 2 ^ 12 % 4 + 1 ∧ ∀ x, x ≠ n % 2 ^ 11 → t.win x = s.win x)) ∧
    (∀ e ∈ (s.head h).hist.find? (fun e => e.1 = line && e.2.2.1 = w.val && !e.2.2.2.2), s.enabled h = true → s.echoLine line = true → s.winOn w h = true →
      ((s.win w).act.map wEchoReq).getD false = true → s.headEcho h = true →
      (s.head h).echoTimeout ≤ (s.advance time).linesSince h e.2.1 line →
      Reaches (.echoTimeout time h line w) s (fun t => (t.win w).echoLost = true ∧ (∃ r ∈ t.log.recent.head?, r.cls = 0x37) ∧
        ((s.reg F.VIGIL_ECHO_COUNT.key).toNat < 2 ^ 31 - 1 → t.reg F.VIGIL_ECHO_COUNT.key = s.reg F.VIGIL_ECHO_COUNT.key + 1))) ∧
    (s.enabled h = false → exec (.echoTimeout time h line w) s = .next (s.advance time))

/-- A head that the compositor works for, whose slice is awake and whose next line is active, gets that line composed for
the FSEQ of its frame with exactly HACTIVE pixels; with no active window each is the background in output codes.
Asleep, the slice composes nothing. A line with a window of any kind that is due and not composed counts an underrun,
once, and each of its window-lines is flagged with path reason 12, so that none of a supervised window passes as good.
A layer under full alpha replaces what is below it, and under zero alpha leaves it. (R61, R123, R235, R250, R497) -/
def Obligations.ComposedLines : Prop :=
  (∀ (h : Fin 48) (time : Nat) (ws : List (Fin 2048)) (s : State),
    let z := s.advance time
    let y := (s.nextLine h).1
    let n := (s.tb h).timing.hactive
    let c := (s.head h).composed
    s.composes h = true → y < (s.tb h).timing.vactive →
      (z.awake (0x30 + s.sliceOf h) = true → Reaches (.composeLine time h) s (fun t => (t.head h).composed.no = y ∧
        (t.head h).composed.fseq = (s.nextLine h).2 ∧ (t.head h).composed.full = true ∧ (t.head h).composed.pix.length = n ∧
        (s.actWins h = [] → (t.head h).composed.wins = [] ∧ (t.head h).composed.pix = s.outLine h (List.replicate n (colour16 (s.head h).bgAct.toNat))))) ∧
      (z.awake (0x30 + s.sliceOf h) = false → exec (.composeLine time h) s = .next z) ∧
      (c.full = false → (∃ e ∈ s.actWins h, crosses e.2 y = true) → (s.tb h).underrunAt ≠ some ((s.nextLine h).2, y) →
        Reaches (.lineUnderrun time h ws) s (fun t => (t.head h).composed.no = y ∧ (∀ l ∈ (t.head h).composed.wins, l.path = 12) ∧
        ((∃ e ∈ s.actWins h, crosses e.2 y = true ∧ supervised e.2 = true) → (t.head h).composed.wins ≠ []) ∧
        ((s.reg (F.HEAD_UNDERRUN_COUNT h).key).toNat < 2 ^ 31 - 1 →
          t.reg (F.HEAD_UNDERRUN_COUNT h).key = s.reg (F.HEAD_UNDERRUN_COUNT h).key + 1)))) ∧
  (∀ c v : Nat, blend1 c v 65535 = v ∧ blend1 c v 0 = c)

/-- A descriptor write takes the writable bits of its word and changes no other register. PLACE_CTL with GO performs place
with PLACE_A and PLACE_B: a window that is free, or of the head's unit, goes to a present head that does not hold 64,
STATUS 0; with REMOVE a window of no unit stays so, STATUS 0; to an absent head STATUS is 3. COEF_LOAD with GO, while
none is under way, starts a load; when it is done, a stage whose phases all pass becomes the set, STATUS 2, and else
no set changes, STATUS 3 with class 0x4F. A copy set with valid fields and a vertical set is enabled by its word, one
with a bad field is not, class 0x4F. An idle engine takes the oldest job whose set has no copy under way off the
queue; with a slot free and formats and ratios that fit, it copies into that slot, and the set is BUSY; one whose
formats do not fit is dropped and counted. COPY_JOB_DONE of an idle engine does nothing; otherwise the engine and the
set are free again, and a copy whose source was read whole with its sentinels intact is the set's newest and counts.
(R226, R228, R238, R239, R241, R242, R243) -/
def Obligations.WindowsAndCopies : Prop :=
  ∀ (i : Initiator) (w : Fin 2048) (k : Fin 16) (c : Fin 256) (m : Fin 4) (v : Word) (time : Nat) (s : State),
    let key := 0x720000 + 0x40 * w.val + 4 * k.val
    let mask : Word := [0xFFF, 0xFFFFF, 0xFFFFFFFF, 0x7FFFFFFF, 0x7FFFFFF, 0x7FFFFFF, 0x1FFF1FFF, 0, 0, 0x1F1F1F, 0xFFFFFF, 0, 0x3FFFFFF, 0x3FFFFFF,
      0x3FFF1FFF, 1].getD k 0
    let z := s.advance time
    let logs := fun (t : State) => ∃ r ∈ t.log.recent.head?, r.cls = 0x4F
    (Admits s i key → Reaches (.descriptorWrite i w k v) s (fun t => t.reg key = (s.reg key &&& ~~~mask) ||| (v &&& mask) ∧
      OnlyRegs [key] s t)) ∧
    (Admits s i F.COMP_PLACE_CTL_GO.key → v.toNat % 2 = 1 → s.get F.COMP_PLACE_A < 2 ^ 31 → s.hasHead (s.get F.COMP_PLACE_A / 2 ^ 16 % 64) = false →
      Reaches (.placeCtlGo i v) s (fun t => t.get F.COMP_PLACE_CTL_STATUS = 3 ∧ t.wins = s.wins ∧ ∃ r ∈ t.log.recent.head?, r.cls = 0x4D)) ∧
    (Admits s i F.COMP_PLACE_CTL_GO.key → v.toNat % 2 = 1 →
      let x := s.get F.COMP_PLACE_A
      let y := s.get F.COMP_PLACE_B
      let n := x % 2 ^ 11
      let h := x / 2 ^ 16 % 64
      (x < 2 ^ 31 → s.hasHead h = true → n < s.nWins → (s.win n).unit = none ∨ (s.win n).unit = some (s.unitOf h) → s.openCount h < 64 →
        Reaches (.placeCtlGo i v) s (fun t => t.get F.COMP_PLACE_CTL_STATUS = 0 ∧ t.get (F.WIN_X n) = y % 2 ^ 13 ∧
          t.get (F.WIN_Y n) = y / 2 ^ 16 % 2 ^ 13 ∧ t.get (F.WIN_HEAD n) = h ∧ t.get (F.WIN_Z n) = x / 2 ^ 24 % 64 ∧
          t.on (F.WIN_PLACED n) = true ∧ (t.win n).unit = some (s.unitOf h) ∧ (t.win n).act = (s.win n).act)) ∧
      (2 ^ 31 ≤ x → n < s.nWins → (s.win n).unit = none → Reaches (.placeCtlGo i v) s (fun t =>
        t.get F.COMP_PLACE_CTL_STATUS = 0 ∧ OnlyRegs [F.COMP_PLACE_CTL_STATUS.key] s t))) ∧
    (Admits s i F.PIXP_COEF_LOAD_SET.key → v.toNat / 2 ^ 8 % 2 = 1 → s.get F.PIXP_COEF_LOAD_STATUS ≠ 1 → Reaches (.coefLoadGo i v) s (fun t =>
      t.get F.PIXP_COEF_LOAD_STATUS = 1 ∧ t.scaler.loading = some (v.toNat % 16) ∧ OnlyRegs [] { s with scaler := t.scaler, regs := t.regs } t)) ∧
    (∀ g, g < 16 → s.scaler.loading = some g →
      ((∀ p, p < 64 → s.stagePhaseOk p = true) → Reaches (.coefLoadDone time) s (fun t => t.get F.PIXP_COEF_LOAD_STATUS = 2 ∧
        (∀ j, j < 256 → t.get (F.PIXP_COEF_SET g j) = s.get (F.PIXP_COEF_STAGE j)) ∧ (t.bit F.PIXP_COEF_VMASK g = s.stageVert) ∧
        ∀ f j, f < 16 → f ≠ g → j < 256 → t.get (F.PIXP_COEF_SET f j) = s.get (F.PIXP_COEF_SET f j))) ∧
      ((∃ p, p < 64 ∧ s.stagePhaseOk p = false) → Reaches (.coefLoadDone time) s (fun t => t.get F.PIXP_COEF_LOAD_STATUS = 3 ∧ logs t ∧
        ∀ f j, f < 16 → j < 256 → t.get (F.PIXP_COEF_SET f j) = s.get (F.PIXP_COEF_SET f j)))) ∧
    (Admits s i (F.COPY_SRC c).key → s.on (F.COPY_ENABLE c) = false → v.toNat / 2 ^ 12 % 2 = 1 →
      let u := s.setReg (F.COPY_SRC c).key (v &&& 0xFFFEFFF#32)
      Reaches (.copySetEnable i c v) s (fun t => t.get (F.COPY_SRC c) = v.toNat % 2 ^ 12 ∧ t.get (F.COPY_SLOTS c) = v.toNat / 2 ^ 25 % 8 ∧
        (t.on (F.COPY_ENABLE c) = true ↔ u.copyBad c = false) ∧ (u.copyBad c = true → logs t))) ∧
    (∀ j ∈ s.scaler.queue.find? (fun j => !s.on (F.COPY_STATE_BUSY j.set)), tabGet? s.scaler.engines m = none →
      Reaches (.copyJobStart time m) s (fun t => t.scaler.queue = s.scaler.queue.erase j ∧
        (s.on (F.COPY_ENABLE j.set) = true → j.set < 256 → semiPlanar (tagOf j.src.bytes).fmt ≠ semiPlanar (s.get (F.COPY_FMT j.set)) →
          tabGet? t.scaler.engines m = none ∧ logs t ∧
          ((s.reg F.PIXP_COPY_DROP.key).toNat < 2 ^ 31 - 1 → t.reg F.PIXP_COPY_DROP.key = s.reg F.PIXP_COPY_DROP.key + 1)) ∧
        (∀ sl, s.on (F.COPY_ENABLE j.set) = true → j.set < 256 → semiPlanar (tagOf j.src.bytes).fmt = semiPlanar (s.get (F.COPY_FMT j.set)) →
          copyRatioOk (s.get (F.COPY_OW j.set)) (tagOf j.src.bytes).width = true → copyRatioOk (s.get (F.COPY_OH j.set)) (tagOf j.src.bytes).height = true →
          s.freeSlot j.set = some sl → tabGet? t.scaler.engines m = some { j with slot := sl } ∧ t.on (F.COPY_STATE_BUSY j.set) = true ∧
            t.get (F.COPY_STATE_WRITING j.set) = sl % 8))) ∧
    (tabGet? s.scaler.engines m = none → exec (.copyJobDone time m) s = .next z) ∧
    (∀ j, tabGet? s.scaler.engines m = some j → Reaches (.copyJobDone time m) s (fun t =>
      t.scaler.engines = tabErase s.scaler.engines m ∧ t.scaler.queue = s.scaler.queue ∧
      (j.set < 256 → t.on (F.COPY_STATE_BUSY j.set) = false) ∧ t.eng = s.eng ∧
      let a := { z with scaler := { z.scaler with engines := tabErase z.scaler.engines m } }.putB (F.COPY_STATE_BUSY j.set) false
      let p := a.copyPixels j (tagOf j.src.bytes) (z.copyTag j)
      (j.set < 256 → p.1 = true → (p.2.checkSentinels scalerSrc (tagOf j.src.bytes)).1 = some true →
        t.get (F.COPY_STATE_NEWEST j.set) = j.slot % 8 ∧
        ((s.reg F.PIXP_COPY_MADE.key).toNat < 2 ^ 31 - 1 → t.reg F.PIXP_COPY_MADE.key = s.reg F.PIXP_COPY_MADE.key + 1))))

/-- REF_SWITCH takes the other source, sets its flag and logs class 0x7D. When both are lost the part is OFF, with no
engine and no head in any state, and its flash as before. CLOCK_LOSS and a CLOCK_DRIFT of more than 1 % set the
domain's bit: for REF nothing more than the record, class 0x7E or 0x7F, follows; SAMPLE degrades the part; any other
domain ends a mode from SELF_TEST to SERVICE in ORDERLY_STOP with cause 7. A gate within 1 % only shows its count, and
that the domain is within the 2 % of R536. SAMPLE_CFG is taken in READY and SERVICE and elsewhere only logged, class
0x7C. SAMPLE_RETURNS ends what the loss of SAMPLE began. (R13, R16, R17, R19, R20, R507, R524, R525) -/
def Obligations.ClockDomains : Prop :=
  ∀ (i : Initiator) (d : Fin 8) (khz : Nat) (v : Word) (time : Nat) (s : State),
    let z := s.advance time
    let off := max khz (s.nominalKhz d) - min khz (s.nominalKhz d)
    let logs := fun (t : State) (cls : Nat) => ∃ r ∈ t.log.recent.head?, r.cls = cls
    Reaches (.refSwitch time) s (fun t => t.on F.CLK_STATUS_REF_SRC = !s.on F.CLK_STATUS_REF_SRC ∧ t.on F.CLK_FAULT_REF_SWITCH = true ∧ logs t 0x7D ∧
      OnlyLogged [F.CLK_STATUS_REF_SRC.key, F.CLK_FAULT_REF_SWITCH.key] z t) ∧
    Reaches (.refLostBoth time) s (fun t => t.mode = 0 ∧ t.get F.CLK_STATUS_LOCK = 0 ∧ t.eng = [] ∧ t.heads = [] ∧ t.flash = s.flash) ∧
    Reaches (.clockLoss time d) s (fun t =>
      (d = 0 → t.bit F.CLK_FAULT_LOSS 0 = true ∧ logs t 0x7E ∧
        OnlyLogged [F.CLK_FAULT_LOSS.key, F.TEST_COND_CLK_OK.key] { z with power := t.power } t) ∧
      (d = 7 → t.bit F.CLK_FAULT_LOSS 7 = true ∧ t.on F.SYS_DEGRADED_SAMPLE = true) ∧
      (d ≠ 0 → d ≠ 7 → s.canStop = true → t.bit F.CLK_FAULT_LOSS d = true ∧ t.mode = 10 ∧ t.get F.PWR_STATUS_STOP_CAUSE = 7)) ∧
    (100 * off ≤ s.nominalKhz d → Reaches (.clockDrift time d khz) s (fun t => t.get (F.CLK_MEAS_KHZ d) = khz % 2 ^ 32 ∧
      OnlyRegs [(F.CLK_MEAS_KHZ d).key] { z with power := { s.power with domOff := setBit s.power.domOff d false } } t)) ∧
    (s.nominalKhz d < 100 * off → Reaches (.clockDrift time d khz) s (fun t => t.bit F.CLK_FAULT_DRIFT d = true ∧
      (d = 0 → logs t 0x7F) ∧ (d = 7 → t.on F.SYS_DEGRADED_SAMPLE = true) ∧
      (d ≠ 0 → d ≠ 7 → s.canStop = true → t.mode = 10 ∧ t.get F.PWR_STATUS_STOP_CAUSE = 7))) ∧
    (Admits s i F.CLK_SAMPLE_CFG_BASE.key →
      (s.mode = 5 ∨ s.mode = 11 → Reaches (.sampleCfgWrite i v) s (fun t => (t.on F.CLK_SAMPLE_CFG_BASE = true ↔ v.toNat % 2 = 1) ∧
        OnlyRegs [F.CLK_SAMPLE_CFG_BASE.key] s t)) ∧
      (s.mode ≠ 5 → s.mode ≠ 11 → Reaches (.sampleCfgWrite i v) s (fun t => OnlyLogged [] s t ∧ logs t 0x7C))) ∧
    (s.on F.SYS_DEGRADED_SAMPLE = true → Reaches (.sampleReturns time) s (fun t => t.on F.SYS_DEGRADED_SAMPLE = false)) ∧
    (s.on F.SYS_DEGRADED_SAMPLE = false → exec (.sampleReturns time) s = .next z)

/-- While a scrub burst is under way on every channel that it reads from, PATROL_SCRUB moves SCRUB_POS by the units it
reads, modulo the number of 256-byte units of DRAM, and changes nothing else when it finds nothing; an uncorrectable
word among them is poisoned, counted and logged as class 0x11; with the scrub off, or without such a burst, nothing
happens. An operation that is due occupies its channel for its duration, and a scrub burst is under way there, when
the least latency tolerance is at least RELAX and exceeds it, and else waits. A forced refresh counts. An address lies
on the channel whose number has in each bit the parity of the bits of the address that R571 selects for it. (R32, R33,
R30, R126, R571) -/
def Obligations.MemoryMaintenance : Prop :=
  ∀ (ch : Fin 32) (op : Maint) (dur words : Nat) (time : Nat) (s : State),
    let z := s.advance time
    let units := s.dramEnd / 256
    (s.on F.MEMC_SCRUB_CFG_ENABLE = true → z.scrubOpen words = true → Reaches (.patrolScrub time words []) s (fun t =>
      t.get F.MEMC_SCRUB_POS = (s.get F.MEMC_SCRUB_POS + words) % units ∧ OnlyRegs [F.MEMC_SCRUB_POS.key] z t)) ∧
    (∀ a, s.on F.MEMC_SCRUB_CFG_ENABLE = true → z.scrubOpen words = true → a < s.dramEnd → (a / 256 + units - s.get F.MEMC_SCRUB_POS % units) % units < words →
      Reaches (.patrolScrub time words [(a, .ue)]) s (fun t => t.poison.contains (a / 32 * 32) = true ∧
        (∃ r ∈ t.log.recent.head?, r.cls = 0x11 ∧ r.addr1 = a / 32 * 32) ∧ t.mem = s.mem ∧
        ((s.reg F.MEMC_UE_COUNT_COUNT.key).toNat < 2 ^ 31 - 1 → t.reg F.MEMC_UE_COUNT_COUNT.key = s.reg F.MEMC_UE_COUNT_COUNT.key + 1))) ∧
    (∀ finds, s.on F.MEMC_SCRUB_CFG_ENABLE = false ∨ z.scrubOpen words = false → exec (.patrolScrub time words finds) s = .next z) ∧
    (ch.val < 2 ^ s.logChan →
      (z.mayMaintain dur = true → Reaches (.maintenanceStart time ch op dur) s (fun t =>
        tabGet? t.bus.maint ch = some (s.time.pix + time + dur) ∧ t.regs = s.regs ∧
        (op = .scrub → tabGet? t.bus.scrubs ch = some (s.time.pix + time + dur)) ∧ (op ≠ .scrub → t.bus.scrubs = s.bus.scrubs))) ∧
      (z.mayMaintain dur = false → exec (.maintenanceStart time ch op dur) s = .next z) ∧
      Reaches (.refreshForced time ch) s (fun t => OnlyRegs [F.RASTER_LTR_FORCED.key] z t ∧
        ((s.reg F.RASTER_LTR_FORCED.key).toNat < 2 ^ 31 - 1 → t.reg F.RASTER_LTR_FORCED.key = s.reg F.RASTER_LTR_FORCED.key + 1))) ∧
    (∀ a b, b < s.logChan → s.channelOf a / 2 ^ b % 2 =
      ((List.range 32).filter (fun j => j % s.logChan = b ∧ a / 2 ^ (8 + j) % 2 = 1)).length % 2)

/-- Of an initiator with no register access in flight: REGISTER_WRITE at the address of BIND_n, once its initiator's check
passes, does what a write of that register does; at any address of register space, the write of that register which
its target takes. Of the AT register of a time trigger that is not enabled: a write of the low half is held and
changes no register; a write of the high half makes the register the value of both halves at once; a read of the low
half changes no register, and the initiator's next read of the high half returns what stood there at that moment,
whatever the register holds by then (the model's reading of R573 for what is captured per initiator). (R2, R6, R25,
R407, R459, R573) -/
def Obligations.RegistersOfSoftware : Prop :=
  ∀ (i : Initiator) (n : Fin 128) (k : Fin 16) (a : PAddr) (v : Word) (s : State), s.regQueued (s.issuer i) = false →
    let at_ := F.TTRIG_AT k
    let addr := fun (key : Nat) => BitVec.ofNat 40 (0x2000000000 + key)
    let passes := fun (kind : AccKind) (key : Nat) => (s.initCheck (s.issuer i) kind (0x2000000000 + key) 4).1 = true
    (passes .write (F.PROT_BIND n).key → exec (.registerWrite i (addr (F.PROT_BIND n).key) v) s = exec (.bindWrite i n v) s ∧
      (Admits s i (F.PROT_BIND n).key → Reaches (.registerWrite i (addr (F.PROT_BIND n).key) v) s (fun t =>
        t.get (F.PROT_BIND n) = v.toNat % 64 ∧ OnlyRegs [(F.PROT_BIND n).key] s t))) ∧
    ((s.region a.toNat).isReg = true → (s.initCheck (s.issuer i) .write a.toNat 4).1 = true → (s.atKeeperLevel i = true ∨ s.holdsWk (regKey a.toNat) = false) →
      (s.regWrite (s.issuer i) (regKey a.toNat) v).1 = true → exec (.registerWrite i a v) s = .next (s.regWrite (s.issuer i) (regKey a.toNat) v).2) ∧
    (s.on (F.TTRIG_CTL_EN k) = false →
      (passes .write at_ → Reaches (.reg64LowWrite i (addr at_) v) s (fun t => tabGet? t.bus.held at_ = some v ∧ { t with bus := s.bus } = s)) ∧
      (passes .write (at_ + 4) → ∀ lo, tabGet? s.bus.held at_ = some lo → Reaches (.reg64HighWrite i (addr (at_ + 4)) v) s (fun t =>
        t.get64 at_ = lo.toNat + 2 ^ 32 * v.toNat ∧ tabGet? t.bus.held at_ = none ∧ OnlyRegs [at_, at_ + 4] { s with bus := t.bus } t))) ∧
    (passes .read at_ → Reaches (.reg64LowRead i (addr at_)) s (fun t => { t with bus := s.bus } = s ∧
      ∀ u : State, u.bus.capt = t.bus.capt → (u.readReg i.id (at_ + 4)).1 = s.view (at_ + 4)))

/-- OPEN written 1 to a CLOSED context takes the fields of its word and runs the checks of its KIND: a video context that
passes goes to WAIT_RAP, an AUDIO_RX, SURFACE or TX context to RUNNING; one that fails, or a KIND with no meaning, is
REFUSED with the code of the first check that fails and class 0x50. OPEN written 0 to an open context empties its
reorder window and unlists its pictures, and it is DRAINING if it is a video context or a pipe has a picture of it,
and else CLOSED; CONTEXT_DRAINED ends that. A CLOSED context takes the writable bits of a word other than the anchor
time and changes nothing else; the low half of the anchor time waits for the high half, which with it is a new anchor;
of an open one POOL keeps its value, and a write that would change it is logged, class 0x50 with code 16. (R263, R264,
R265, R266, R278, R445, R573) -/
def Obligations.StreamContexts : Prop :=
  ∀ (i : Initiator) (c : Fin 4096) (k : Fin 32) (v : Word) (time : Nat) (s : State),
    let key := fun (j : Nat) => (F.CTX_CTRL_KIND c).key + 4 * j
    let st := s.get (F.CTX_STATUS_STATE c)
    let z := s.writeBits (key 0) (s.rwBits (key 0)) v
    let n := v.toNat % 16
    let refused := fun (t : State) (code : Nat) => t.get (F.CTX_STATUS_STATE c) = 3 ∧ t.get (F.CTX_STATUS_CODE c) = code % 2 ^ 5 ∧
      ∃ r ∈ t.log.recent.head?, r.cls = 0x50
    let opens := fun (code to_ : Nat) => Reaches (.contextOpen i c v) s (fun t =>
      (code = 0 → t.get (F.CTX_STATUS_STATE c) = to_) ∧ (code ≠ 0 → refused t code))
    (Admits s i (key 0) → st = 0 → v.toNat / 16 % 2 = 1 →
      (n = 1 ∨ n = 2 → opens (z.videoCode c) 1) ∧ (n = 3 → opens (z.audioRxCode c) 2) ∧ (n = 4 → opens (if z.poolBad c = true then 2 else 0) 2) ∧
      (n = 5 → opens (z.txCode c).1 2) ∧ (n = 0 ∨ 6 ≤ n → opens 1 0)) ∧
    (Admits s i (key 0) → st = 1 ∨ st = 2 → v.toNat / 16 % 2 = 0 → Reaches (.contextClose i c v) s (fun t =>
      t.get (F.CTX_STATUS_STATE c) = (if s.kind c = 1 ∨ s.kind c = 2 ∨ (s.jobPipe c).isSome = true then 4 else 0) ∧ (s.kind c ≠ 5 →
        (t.ctx c).held = [] ∧ (t.ctx c).gaps = [] ∧ (t.ctx c).ready = [] ∧ t.get (F.CTX_LISTED c) = 0))) ∧
    (st = 4 → Reaches (.contextDrained time c) s (fun t => t.get (F.CTX_STATUS_STATE c) = 0 ∧ ∀ p, s.jobPipe c = some p → (t.pipe p).job = none)) ∧
    (st ≠ 4 → exec (.contextDrained time c) s = .next (s.advance time)) ∧
    (Admits s i (key k) → st = 0 → k ∉ [0, 16, 17] → Reaches (.contextFieldWrite i c k v) s (fun t =>
      (let mask := BitVec.ofNat 32 (s.rwBits (key k)); t.reg (key k) = (s.reg (key k) &&& ~~~mask) ||| (v &&& mask)) ∧ OnlyRegs [key k] s t)) ∧
    (Admits s i (key 16) → Reaches (.contextFieldWrite i c 16 v) s (fun t => tabGet? t.bus.held (key 16) = some v ∧ t.regs = s.regs)) ∧
    (Admits s i (key 17) → Reaches (.contextFieldWrite i c 17 v) s (fun t => t.on (F.CTX_STATUS_ANCHOR_OK c) = true ∧
      t.get64 (F.CTX_ANCHOR_TIME c) = (tabGet (s.reg (key 16)) s.bus.held (key 16)).toNat + 2 ^ 32 * v.toNat)) ∧
    (Admits s i (key 4) → st = 1 ∨ st = 2 → s.kind c = 1 ∨ s.kind c = 2 → v.toNat ≠ s.get (F.CTX_POOL c) →
      Reaches (.contextFieldWrite i c 4 v) s (fun t => t.get (F.CTX_POOL c) = s.get (F.CTX_POOL c) ∧ OnlyLogged [key 4] s t ∧
        ∃ r ∈ t.log.recent.head?, r.cls = 0x50 ∧ r.detail / 2 ^ 16 % 256 = 16))

/-- A write of RULE_CMD with GO set, while none is in progress, takes the operation with the index and the staged rule,
and STATUS is 7. RULE_CMD_DONE then performs it: ADD of a rule with a bad field answers 4, of one that doubles another
2, of one whose bucket is full 1, and else puts it at the lowest free index of its bucket, reports that index, counts
and answers 0; DEL of a rule that stands in the table removes it and answers 0, else 3; READ puts the rule of the
index into the staging registers and answers 0, or 3 where none stands there. A frame at a data port that is down, or
while the NET clock is lost, does nothing; at one that is up a bad check sequence or a length above 9,216 bytes is
counted, with FEC on also as an uncorrected codeword, which is the model's inference (log entry 134), and nothing else
happens; one that passes the filter is counted as received; the management port counts nothing. After the first
packet, and once the gaps whose HOLD has passed are lost, one 1 to WIN ahead of the highest number is accepted and
becomes the highest; one already received is a duplicate, and is dropped unless it came by a lower port than a copy
that waits, or that has left the window in this MEDIA clock; one that fills an open gap is accepted; one never
received that is WIN or more behind, or of a number declared lost, is late; one farther ahead than WIN waits as a
candidate; any other is a duplicate. GAP_DECLARED_LOST when HOLD has passed on every open gap counts them as lost and
opens none; a context that is not open does nothing. NETWORK_SILENT of a DUAL context whose network has been silent
for 1 s while the other was heard logs class 0x58 with code 3, once. (R267, R273, R274, R384, R385) -/
def Obligations.ClassificationRules : Prop :=
  (∀ (i : Initiator) (v : Word) (time : Nat) (s : State),
     let n := v.toNat
     let key := F.INTAKE_RULE_CMD_OP.key
     let taken := fun (t : State) => t.get F.INTAKE_RULE_CMD_STATUS = 7 ∧ t.intake.cmd = some (n % 4, n / 2 ^ 16 % 2 ^ 13, s.stage) ∧
       OnlyRegs [key] { s with intake := t.intake } t
     let done := fun (p : State → Prop) => Reaches (.ruleCmdDone time) s (fun t => t.intake.cmd = none ∧ p t)
     let answers := fun (code : Nat) => done (fun t => t.get F.INTAKE_RULE_CMD_STATUS = code ∧ t.intake.rules = s.intake.rules)
     (Admits s i key → n / 16 % 2 = 1 → s.get F.INTAKE_RULE_CMD_STATUS ≠ 7 → Reaches (.ruleAdd i v) s taken ∧ Reaches (.ruleDel i v) s taken ∧
       Reaches (.ruleRead i v) s taken) ∧
     (∀ idx w, s.intake.cmd = some (0, idx, w) →
       let dup := ∃ e ∈ s.intake.rules, ruleDup e.2 w = true
       (s.ruleBad w = true → answers 4) ∧ (s.ruleBad w = false → dup → answers 2) ∧
       (s.ruleBad w = false → ¬dup → (∀ j, j < 4 → (tabGet? s.intake.rules (4 * ruleBucket w + j)).isSome = true) → answers 1) ∧
       (s.ruleBad w = false → ¬dup → ∀ j, j < 4 → (∀ x, x < j → (tabGet? s.intake.rules (4 * ruleBucket w + x)).isSome = true) →
         tabGet? s.intake.rules (4 * ruleBucket w + j) = none → done (fun t => t.get F.INTAKE_RULE_CMD_STATUS = 0 ∧
           t.get F.INTAKE_RULE_CMD_INDEX = 4 * ruleBucket w + j ∧ tabGet? t.intake.rules (4 * ruleBucket w + j) = some w ∧
           (∀ x, x ≠ 4 * ruleBucket w + j → tabGet? t.intake.rules x = tabGet? s.intake.rules x) ∧
           t.get F.INTAKE_RULE_COUNT = (s.intake.rules.length + 1) % 2 ^ 14))) ∧
     (∀ idx w, s.intake.cmd = some (1, idx, w) →
       (∀ e, s.intake.rules.find? (fun e => e.2 = w) = some e → done (fun t => t.get F.INTAKE_RULE_CMD_STATUS = 0 ∧
         tabGet? t.intake.rules e.1 = none ∧ ∀ x, x ≠ e.1 → tabGet? t.intake.rules x = tabGet? s.intake.rules x)) ∧
       ((∀ e ∈ s.intake.rules, e.2 ≠ w) → answers 3)) ∧
     (∀ idx w, s.intake.cmd = some (2, idx, w) →
       (tabGet? s.intake.rules idx = none → answers 3) ∧
       (∀ ws, tabGet? s.intake.rules idx = some ws → ws.length = 12 → done (fun t => t.get F.INTAKE_RULE_CMD_STATUS = 0 ∧ t.stage = ws)))) ∧
  ((∀ (p : Fin 4) (fcs : Bool) (f : List Byte) (c : Fin 4096) (b : Bool) (time : Nat) (s : State),
     let z := s.advance time
     let up := s.portIsUp p = true ∧ s.netLost = false
     let one := fun (t : State) (f : Fld) => (s.reg f.key).toNat < 2 ^ 31 - 1 → t.reg f.key = s.reg f.key + 1
     let x := s.ctx c
     let on := s.get (F.CTX_STATUS_STATE c) = 1 ∨ s.get (F.CTX_STATUS_STATE c) = 2
     let port : Fin 5 := ⟨p.val, by omega⟩
     let mine := if b then x.netB else x.netA
     let silent := if b then x.silentB else x.silentA
     (s.portIsUp p = false ∨ s.netLost = true → exec (.ethRxFrame time port fcs f) s = .next z) ∧
     (up → fcs = false → Reaches (.ethRxFrame time port fcs f) s (fun t => one t (F.PORT_RX_FCS_ERR p) ∧
       (s.on (F.PORT_CFG_FEC p) = false → OnlyRegs [(F.PORT_RX_FCS_ERR p).key] z t) ∧ (s.on (F.PORT_CFG_FEC p) = true →
         one t (F.PORT_FEC_UNCORR p) ∧ OnlyLogged [(F.PORT_RX_FCS_ERR p).key, (F.PORT_FEC_UNCORR p).key] z t))) ∧
     (up → fcs = true → 9212 < f.length → Reaches (.ethRxFrame time port fcs f) s (fun t => one t (F.PORT_RX_LONG p) ∧
       OnlyRegs [(F.PORT_RX_LONG p).key] z t)) ∧
     (up → fcs = true → f.length ≤ 9212 → beNat (slice f 12 2) ≠ 0x8808 → s.passes p (slice f 0 6) = true →
       Reaches (.ethRxFrame time port fcs f) s (fun t => one t (F.PORT_RX_FRAMES p))) ∧
     (s.on F.TIME_MGMT_CFG_EN = false ∨ s.netLost = true ∨ fcs = false ∨ 9212 < f.length → exec (.ethRxFrame time 4 fcs f) s = .next z) ∧
     (on → (∀ g ∈ x.gaps, g.2 + s.gapHold c ≤ s.time.pix + time) → Reaches (.gapDeclaredLost time c) s (fun t => (t.ctx c).gaps = [] ∧
       ((s.reg (F.CTX_LOST c).key).toNat + x.gaps.length < 2 ^ 31 →
         (t.reg (F.CTX_LOST c).key).toNat = (s.reg (F.CTX_LOST c).key).toNat + x.gaps.length))) ∧
     (¬on → exec (.gapDeclaredLost time c) s = .next z) ∧
     (∀ a, on → s.on (F.CTX_CTRL_DUAL c) = true → silent = false → z.silentFor mine 1200000000 = true →
       (if b then x.netA else x.netB) = some a → s.time.pix + time < a + 1200000000 → Reaches (.networkSilent time c b) s (fun t =>
         (if b then (t.ctx c).silentB else (t.ctx c).silentA) = true ∧ OnlyLogged [] { z with ctxs := t.ctxs } t ∧
         ∃ r ∈ t.log.recent.head?, r.cls = 0x58 ∧ r.detail / 2 ^ 16 % 256 = 3)) ∧
     (silent = true → exec (.networkSilent time c b) s = .next z)) ∧
   (∀ (c : Fin 4096) (k : RxPkt) (s : State),
     let z := s.expireByHold c
     let x := z.ctx c
     let t := s.windowIn c k
     let w := z.winOf c
     let d := sint 16 (k.seq + 0x10000 - z.get (F.CTX_HIGHEST c))
     let one := fun (f : Fld) => (z.reg f.key).toNat < 2 ^ 31 - 1 → t.reg f.key = z.reg f.key + 1
     let gap := ∃ g ∈ x.gaps, g.1 = k.seq
     let seen := behind (z.get (F.CTX_HIGHEST c)) k.seq ≤ x.since ∧ k.seq ∉ x.lost ∧ ¬gap
     z.ctxOn c = true → x.started = true → x.cand = none → x.held.length < w + 64 →
       (1 ≤ d → d ≤ w → t.get (F.CTX_HIGHEST c) = k.seq % 2 ^ 16 ∧ one (F.CTX_PKTS c)) ∧
       ((w : Int) < d → t = z.setCtx c { x with cand := some k }) ∧
       (d < 1 → seen → one (F.CTX_DUP c) ∧ ((∀ j, j ∈ x.held ∨ j ∈ x.now → j.seq = k.seq → j.port ≤ k.port) → t = (z.freeBuf k.buf).bump (F.CTX_DUP c))) ∧
       (d ≤ -(w : Int) ∧ ¬seen ∨ (d < 1 ∧ k.seq ∈ x.lost) → t = (z.freeBuf k.buf).bump (F.CTX_LATE c)) ∧
       (-(w : Int) < d → d < 1 → k.seq ∉ x.lost → gap → t.get (F.CTX_HIGHEST c) = z.get (F.CTX_HIGHEST c) ∧ one (F.CTX_PKTS c)) ∧
       (-(w : Int) < d → d < 1 → k.seq ∉ x.lost → ¬gap → one (F.CTX_DUP c))))

/-- An idle, awake pipe takes the ready unit with the earliest deadline among its contexts' oldest ones, unless it is
late, no reference, and has another behind it. A pipe that waits for a slot takes one that has come free; with none
free it drops its unit at the deadline, class 0x57, and before that goes on waiting. The end of a measuring span with
enough busy time sets RATE to the pixels decoded over it, those of the picture under way among them, at most 1023;
below THRESH a pipe turns SLOW, and after a second good span SLOW no more, class 0x55. A pipe that stalls for 10 ms,
or that its checks find wrong, is FAILED, class 0x56, and its unit is the first that its context has ready again.
Pipes leave service and return by PIPE_EN, those with a picture after it. A context alone on a pipe out of service
moves to where the scheduler finds room, once a step. (R286, R289, R290, R291, R292, R497) -/
def Obligations.DecodePipes : Prop :=
  ∀ (i : Initiator) (p : Fin 16) (c : Fin 4096) (internal : Bool) (v : Word) (more time : Nat) (s : State),
    let z := s.advance time
    let x := s.pipe p
    let logs := fun (t : State) (cls : Nat) => ∃ r ∈ t.log.recent.head?, r.cls = cls
    let one := fun (t : State) (f : Fld) => (s.reg f.key).toNat < 2 ^ 31 - 1 → t.reg f.key = s.reg f.key + 1
    let late := fun (a : Au) => a.rdy + s.budgetNs c < z.time64
    let busy := x.busy + z.pipeBusy p
    let ended := x.spanAt + s.slowWindow * 12000000 ≤ z.time.pix
    let enough := s.slowWindow * 12000000 ≤ busy * 10
    let rate := min 1023 ((x.pixels + if x.slot.isSome = true then more else 0) * 1200 / busy)
    let stalls := internal = true ∨ (x.slot.isSome = true ∧ 12000000 ≤ x.work + z.pipeBusy p)
    let rest_ := fun (b : Bool) => if b = true then (if s.bit F.DEC_SLOW p = true then 2 else 0) else 6
    (∀ a rest, s.pipeIn p = true → x.job = none → s.mode ≠ 10 → z.awake p = true → s.pipeChoice p = some c.val → (s.ctx c).ready = a :: rest →
      ¬(late a ∧ a.isRef = false ∧ rest ≠ []) → Reaches (.pipeDispatch time p) s (fun t => ((t.pipe p).job = some (c.val, a)) ∧
        (t.ctx c).ready = rest ∧ t.get (F.PIPE_CURRENT p) = c.val ∧ (t.get (F.PIPE_STATE p) = 1 ∨ t.get (F.PIPE_STATE p) = 2))) ∧
    (x.job.isSome = true → exec (.pipeDispatch time p) s = .next z) ∧
    (∀ a, x.job = some (c.val, a) → x.slot = none →
      ((s.ctxFreeSlot c).isSome = true → Reaches (.slotWaitExpiry time p) s (fun t => (t.pipe p).job = x.job ∧ (t.pipe p).slot = s.ctxFreeSlot c)) ∧
      (s.ctxFreeSlot c = none → z.time64 < a.rdy + s.budgetNs c → exec (.slotWaitExpiry time p) s = .next z) ∧
      (s.ctxFreeSlot c = none → a.rdy + s.budgetNs c ≤ z.time64 → Reaches (.slotWaitExpiry time p) s (fun t => (t.pipe p).job = none ∧
        (a.lost = false → logs t 0x57) ∧ one t (F.CTX_DROPS c) ∧ one t (F.CTX_MISS c) ∧ one t (F.PIPE_MISS p)))) ∧
    (¬ended → exec (.pipeRateUpdate time ⟨p, more⟩) s = .next z) ∧
    (ended → s.pipeLive p = false ∨ ¬enough → Reaches (.pipeRateUpdate time ⟨p, more⟩) s (fun t => t.regs = s.regs ∧ (t.pipe p).busy = 0 ∧
      (t.pipe p).pixels = 0 ∧ (t.pipe p).spanAt = z.time.pix)) ∧
    (ended → s.pipeLive p = true → enough → Reaches (.pipeRateUpdate time ⟨p, more⟩) s (fun t => t.get (F.PIPE_RATE p) = rate ∧ (t.pipe p).pixels = 0 ∧
      (s.bit F.DEC_SLOW p = false → 100 * rate < s.slowThresh * 512 → t.bit F.DEC_SLOW p = true ∧ t.get (F.PIPE_STATE p) = 2 ∧ logs t 0x55) ∧
      (s.bit F.DEC_SLOW p = true → (s.slowThresh + 5) * 512 ≤ 100 * rate → 1 ≤ x.good → t.bit F.DEC_SLOW p = false ∧ logs t 0x55) ∧
      (s.bit F.DEC_SLOW p = false → s.slowThresh * 512 ≤ 100 * rate → OnlyRegs [(F.PIPE_RATE p).key] { z with pipes := t.pipes } t))) ∧
    (s.pipeLive p = true → stalls → Reaches (.pipeStallFail time p internal) s (fun t => t.get (F.PIPE_STATE p) = 3 ∧ t.bit F.DEC_FAILED p = true ∧
      t.bit F.DEC_SLOW p = false ∧ (t.pipe p).job = none ∧ logs t 0x56 ∧
      ∀ a, x.job = some (c.val, a) → s.ctxOn c = true → (t.ctx c).ready = a :: (s.ctx c).ready)) ∧
    (s.pipeLive p = false ∨ ¬stalls → exec (.pipeStallFail time p internal) s = .next z) ∧
    (Admits s i F.DEC_PIPE_EN.key → Reaches (.decPipeEnWrite i v) s (fun t => t.get F.DEC_PIPE_EN = v.toNat % 2 ^ 16 ∧ (p.val < s.nDec →
      (s.pipeLive p = true → x.job = none → t.get (F.PIPE_STATE p) = rest_ (v.toNat.testBit p)) ∧
      (s.get (F.PIPE_STATE p) = 6 → t.get (F.PIPE_STATE p) = rest_ (v.toNat.testBit p)) ∧
      (s.pipeLive p = true → x.job.isSome = true → t.get (F.PIPE_STATE p) = s.get (F.PIPE_STATE p))))) ∧
    (∀ q, s.openVideo = [c.val] → s.pipeIn (s.get (F.CTX_STATUS_PIPE c)) = false → (s.pipe (s.get (F.CTX_STATUS_PIPE c))).job = none →
      z.moveTo c = some q → Reaches (.contextMigrate time) s (fun t => t.get (F.CTX_STATUS_PIPE c) = q ∧ one t F.DEC_MIGRATIONS ∧
        OnlyRegs [(F.CTX_STATUS_PIPE c).key, F.DEC_MIGRATIONS.key] z t)) ∧
    (s.openVideo = [] → exec (.contextMigrate time) s = .next z)

/-- A picture under a sequence parameter set that the array does not take refuses its context with the code. In WAIT_RAP
one that is no random access point and no recovery point is dropped and counted. Any other waits while an apply keeps
its slot from being marked; once its slot is marked it makes the context RUNNING, stands in that slot with its size
and with IMPAIRED as the rules of concealment and references give it, counts on its pipe, and frees the pipe. In
ORDERLY_STOP no picture is decoded. BUF_RETURN of the address of a buffer frees that buffer. A key-picture request
that falls due while its cause holds is sent from the template, class 0x53 with code 1 or 2, or logged with code 3
where the template is bad; before it is due nothing happens. (R264, R265, R269, R281, R284, R285, R287, R295, R296,
R297) -/
def Obligations.DecodedPictures : Prop :=
  ∀ (i : Initiator) (p : Fin 16) (c : Fin 4096) (a : Au) (pic : DecodedPic) (v : Word) (time : Nat) (s : State),
    let z := s.advance time
    let one := fun (t : State) (f : Fld) => (s.reg f.key).toNat < 2 ^ 31 - 1 → t.reg f.key = s.reg f.key + 1
    let sps := s.activeSps c pic
    let sized := { pic with sps := sps }
    let wrong := s.spsCode c sps
    let kp := s.isVideo c = true ∧ s.ctxOn c = true ∧ s.on (F.CTX_CTRL_KP_EN c) = true ∧
      (s.get (F.CTX_STATUS_STATE c) = 1 ∨ s.on (F.CTX_STATUS_IMPAIRED c) = true)
    let at_ := (s.ctx c).kpAt
    let tpl := ((z.setCtx c { s.ctx c with kpAt := some z.time.pix }).template intakeSrc (s.get (F.CTX_KP_HDR c))).1
    let code := match tpl with
      | none => 3
      | some _ => if s.on (F.CTX_CTRL_KP_FIR c) = true then 2 else 1
    ((s.pipe p).job = some (c.val, a) → s.ctxOn c = true → s.mode ≠ 10 →
      (wrong ≠ 0 → Reaches (.pictureDecoded time p pic) s (fun t => t.get (F.CTX_STATUS_STATE c) = 3 ∧
        t.get (F.CTX_STATUS_CODE c) = wrong % 2 ^ 5 ∧ (t.pipe p).job = none)) ∧
      (wrong = 0 → s.get (F.CTX_STATUS_STATE c) = 1 → pic.rap = false → pic.recovery = false →
        Reaches (.pictureDecoded time p pic) s (fun t => t.get (F.CTX_STATUS_STATE c) = 1 ∧ one t (F.CTX_DROPS c) ∧ (t.pipe p).job = none)) ∧
      (∀ j, wrong = 0 → s.get (F.CTX_STATUS_STATE c) = 2 ∨ pic.rap = true ∨ pic.recovery = true → (s.pipe p).slot = some j →
        ((s.pipe p).markDue = true → s.anyApply = true → exec (.pictureDecoded time p pic) s = .next z) ∧ ((s.pipe p).markDue = false →
        Reaches (.pictureDecoded time p pic) s (fun t => t.get (F.CTX_STATUS_STATE c) = 2 ∧ one t (F.PIPE_PICS p) ∧ (t.pipe p).job = none ∧
          (∃ q, tabGet? (t.ctx c).slots j = some q ∧ q.width = sps.width ∧ q.height = sps.height ∧ q.ts = a.ts ∧
            q.impaired = z.picImpaired p c sized) ∧ (t.ctx c).dpb = pic.held ∧ (t.ctx c).sps = some sps)))) ∧
    ((s.pipe p).job = none ∨ s.mode = 10 → exec (.pictureDecoded time p pic) s = .next z) ∧
    (∀ k, Admits s i F.INTAKE_BUF_RETURN.key → v.toNat % 2 ^ 29 * 2048 = s.bufAddr k → Reaches (.bufReturn i v) s (fun t =>
      t.intake.bufs = s.intake.bufs.erase k ∧ t.regs = s.regs ∧ t.mem = s.mem)) ∧
    (kp → at_ = none ∨ (∃ b, at_ = some b ∧ b + s.kpInt c ≤ z.time.pix) → Reaches (.keypicRequest time c) s (fun t =>
      (t.ctx c).kpAt = some z.time.pix ∧ (∃ r ∈ t.log.recent.head?, r.cls = 0x53 ∧ r.detail / 2 ^ 16 % 256 = code) ∧
      (tpl.isSome = true → one t (F.CTX_KP_SENT c)))) ∧
    (¬kp ∨ (∃ b, at_ = some b ∧ z.time.pix < b + s.kpInt c) → exec (.keypicRequest time c) s = .next z)

/-- ENABLE written 1 to a session that is off takes the fields of the word and runs the checks of R305: passing, the
session WAITs on the pipe chosen for it with its debt zero; failing, it is REFUSED with the code, class 0x5A, and
stays off. Written 0 to one that is on, the session is off and has no picture. While it is on, a field that may not
change keeps its value, class 0x5A with code 8; one that may is taken. KEY_REQ of a session that is on marks one
request pending, and a second merges into it. A row of the picture in progress is coded once its input is in, and not
before, where the pipe is awake and reports a row that fits the picture; the last row ends the picture, counts it and
reports its bits. A pipe that stalls for 10 ms, or that its checks find wrong, is FAILED; pipes leave service and
return by PIPE_EN. (R305, R306, R309, R310, R312, R313, R315, R316, R317) -/
def Obligations.EncodeSessions : Prop :=
  ∀ (i : Initiator) (n : Fin 16) (k : Fin 32) (p : Fin 8) (internal : Bool) (v : Word) (row : EncRow) (time : Nat) (s : State),
    let z := s.advance time
    let x := s.ses n
    let key := fun (j : Nat) => (F.SESS_CTL_ENABLE n).key + 4 * j
    let en := F.SESS_CTL_ENABLE n
    let mask : Word := [0, 0, 0xFFFFFF, 0xFFFFFF, 0xF3F3F3F, 0x3FFF, 0xFF, 0xFFFFFFFF].getD k 0
    let logs := fun (t : State) (cls : Nat) => ∃ r ∈ t.log.recent.head?, r.cls = cls
    let stalls := internal = true ∨ (s.get (F.EPIPE_STATE p) = 1 ∧ s.epipeAt p + 12000000 ≤ z.time.pix)
    let kept := s.reg (key 0) &&& 0xF000F8A1#32
    let w := s.setReg (key 0) (kept ||| (v &&& 0x0FFF075E#32))
    (Admits s i (key 0) → s.on en = false → v.toNat % 2 = 1 → Reaches (.sessionEnable i n v) s (fun t =>
      (w.sessCode n = 0 → t.on en = true ∧ t.get (F.SESS_STATUS_STATE n) = 1 ∧ t.get (F.SESS_DEBT n) = 0 ∧
        t.get (F.SESS_STATUS_PIPE n) = ((w.choosePipe n).getD 0) % 8 ∧ (t.ses n).pics = []) ∧
      (w.sessCode n ≠ 0 → t.on en = false ∧ t.get (F.SESS_STATUS_STATE n) = 5 ∧ t.get (F.SESS_STATUS_CODE n) = w.sessCode n % 2 ^ 5 ∧ logs t 0x5A))) ∧
    (Admits s i (key 0) → s.on en = true → v.toNat % 2 = 0 → Reaches (.sessionEnable i n v) s (fun t => t.on en = false ∧
      t.get (F.SESS_STATUS_STATE n) = 0 ∧ (t.ses n).pics = [])) ∧
    (Admits s i (key k) → k = 2 ∨ k = 3 ∨ k = 5 → Reaches (.sessionFieldWrite i n k v) s (fun t =>
      t.reg (key k) = (s.reg (key k) &&& ~~~mask) ||| (v &&& mask) ∧ OnlyRegs [key k] s t)) ∧
    (Admits s i (key k) → k ≠ 0 → s.on en = false → Reaches (.sessionFieldWrite i n k v) s (fun t =>
      t.reg (key k) = (s.reg (key k) &&& ~~~mask) ||| (v &&& mask) ∧ OnlyRegs [key k] s t)) ∧
    (Admits s i (key 7) → s.on en = true → Reaches (.sessionFieldWrite i n 7 v) s (fun t => t.reg (key 7) = s.reg (key 7) ∧
      OnlyLogged [key 7] s t ∧ ∃ r ∈ t.log.recent.head?, r.cls = 0x5A ∧ r.detail / 2 ^ 16 % 256 = 8)) ∧
    (Admits s i (key 0) → s.on en = true → v.toNat % 2 = 1 → v.toNat / 32 % 2 = 1 → Reaches (.keyReq i n v) s (fun t =>
      t.on (F.SESS_STATUS_KEY_PENDING n) = true ∧ (t.ses n).reqBy = if s.on (F.SESS_STATUS_KEY_PENDING n) = true then x.reqBy else 1)) ∧
    (∀ q rest, x.pics = q :: rest → s.mode ≠ 10 →
      let bud := (q.plan.getD (z.encPlan n q)).1
      let whole := (q.exhaust || q.grey) = true
      let from_ := if whole then 0 else (z.rowExhaust n q bud row).getD row.units.length
      let ready := (q.row ≠ 0 ∨ z.awake (0x10 + q.pipe) = true) ∧ z.rowFits n q row from_ = true
      let need := min (s.timingReg (32 + n)).vactive ((q.row + 1) * rowLines (s.codec n) + 1)
      (q.grey = false → q.linesIn < need → exec (.encRow time n row) s = .next z) ∧
      (q.grey = true ∨ need ≤ q.linesIn → ready → q.row + 1 < s.encRows n → Reaches (.encRow time n row) s (fun t =>
        ∃ u, (t.ses n).pics = u :: rest ∧ u.row = q.row + 1 ∧ u.spent = q.spent + rowBitsOf row)) ∧
      (q.grey = true ∨ need ≤ q.linesIn → ready → s.encRows n ≤ q.row + 1 → Reaches (.encRow time n row) s (fun t =>
        (t.ses n).pics = rest ∧ t.get (F.SESS_LAST_BITS n) = (q.spent + rowBitsOf row) % 2 ^ 32 ∧
        ((s.reg (F.SESS_PICS n).key).toNat < 2 ^ 31 - 1 → t.reg (F.SESS_PICS n).key = s.reg (F.SESS_PICS n).key + 1)))) ∧
    (s.epipeIn p = true → stalls → Reaches (.encPipeStall time p internal) s (fun t => t.get (F.EPIPE_STATE p) = 3 ∧ t.bit F.ENC_FAILED p = true)) ∧
    (s.epipeIn p = false ∨ ¬stalls → exec (.encPipeStall time p internal) s = .next z) ∧
    (Admits s i F.ENC_PIPE_EN.key → Reaches (.encPipeEnWrite i v) s (fun t => t.get F.ENC_PIPE_EN = v.toNat % 2 ^ 8 ∧ (p.val < s.nEnc →
      (s.epipeIn p = true → v.toNat / 2 ^ p.val % 2 = 0 → t.get (F.EPIPE_STATE p) = 6) ∧
      (s.get (F.EPIPE_STATE p) = 6 → v.toNat / 2 ^ p.val % 2 = 1 → t.get (F.EPIPE_STATE p) ≤ 1))))

/-- EN written 1 to a data port that is off enables it with the fields of the word, or logs class 0x62 when its address is
zero or a group address, or when FEC and the higher SPEED are both asked for; EN written 0 takes it down. PORT_UP of a
port that has been enabled, and without a loss, for 10 ms sets LINK and the locks, class 0x61; PORT_DOWN clears LINK
and, of a port that is up, counts, drops what is queued there and logs class 0x60 with the cause; what it tells of an
enabled port begins the 10 ms anew. A port that is up sends the first frame that may leave of its highest queue as it
stands, where no host flag asks for more, and a data port counts it; one that is down sends nothing, nor does any
while the NET clock is lost. An entry of the host transmit ring that is in range joins the queue of its port. The
management port and MDIO follow R391 and R406: MDIO_DONE ends the frame that GO began, and a read delivers its data.
(R383, R384, R387, R388, R391, R406, R408) -/
def Obligations.EthernetPorts : Prop :=
  ∀ (i : Initiator) (p : Fin 4) (cause : Fin 4) (data : BitVec 16) (v : Word) (time : Nat) (s : State),
    let z := s.advance time
    let n := v.toNat
    let port : Fin 5 := ⟨p.val, by omega⟩
    let bit := fun (k : Nat) => n / 2 ^ k % 2
    let cfg := (F.PORT_CFG_EN p).key
    let bad := badMac (s.get (F.PORT_MAC_LO p)) (s.get (F.PORT_MAC_HI p))
    let badM := badMac (s.get F.TIME_MGMT_MAC_LO) (s.get F.TIME_MGMT_MAC_HI)
    let logs := fun (t : State) (cls code : Nat) => ∃ r ∈ t.log.recent.head?, r.cls = cls ∧ r.detail / 2 ^ 8 % 2 ^ 8 = code
    let one := fun (t : State) (f : Fld) => (s.reg f.key).toNat < 2 ^ 31 - 1 → t.reg f.key = s.reg f.key + 1
    (Admits s i cfg → s.on (F.PORT_CFG_EN p) = false → bit 0 = 1 → Reaches (.portEnable i p v) s (fun t =>
      t.get (F.PORT_CFG_SPEED p) = bit 1 ∧ t.get (F.PORT_CFG_FEC p) = bit 2 ∧ t.get (F.PORT_CFG_PTP p) = bit 5 ∧
      (t.on (F.PORT_CFG_EN p) = true ↔ bad = false ∧ ¬(bit 1 = 1 ∧ bit 2 = 1)) ∧ (bad = true → logs t 0x62 1) ∧
      (bad = false → bit 1 = 1 → bit 2 = 1 → logs t 0x62 2))) ∧
    (Admits s i cfg → s.on (F.PORT_CFG_EN p) = true → bit 0 = 0 → Reaches (.portEnable i p v) s (fun t =>
      t.on (F.PORT_CFG_EN p) = false ∧ t.on (F.PORT_STATUS_LINK p) = false)) ∧
    (s.on (F.PORT_CFG_EN p) = true → s.on (F.PORT_STATUS_LINK p) = false → p.val < s.nPorts →
      tabGet 0 s.net.since p + 12000000 ≤ z.time.pix → Reaches (.portUp time p) s (fun t => t.on (F.PORT_STATUS_LINK p) = true ∧
      t.on (F.PORT_STATUS_BLOCK_LOCK p) = true ∧ (t.on (F.PORT_STATUS_FEC_LOCK p) = true ↔ s.on (F.PORT_CFG_FEC p) = true) ∧ OnlyLogged [(F.PORT_STATUS_LINK p).key] z t ∧ ∃ r ∈ t.log.recent.head?, r.cls = 0x61)) ∧
    (z.time.pix < tabGet 0 s.net.since p + 12000000 → exec (.portUp time p) s = .next z) ∧
    (s.on (F.PORT_CFG_EN p) = true → Reaches (.portDown time p cause) s (fun t => t.on (F.PORT_STATUS_LINK p) = false ∧
      tabGet? t.net.since p = some z.time.pix ∧ (cause.val < 2 → t.on (F.PORT_STATUS_BLOCK_LOCK p) = false) ∧
      (cause.val = 2 → t.on (F.PORT_STATUS_REMOTE_FAULT p) = true) ∧
      (s.on (F.PORT_STATUS_LINK p) = true → one t (F.PORT_DOWN_COUNT p) ∧ tabGet? t.net.queues p = none ∧ logs t 0x60 (cause.val + 1)) ∧
      (s.on (F.PORT_STATUS_LINK p) = false → t.log = s.log ∧ t.net.queues = s.net.queues))) ∧
    (s.on (F.PORT_CFG_EN p) = false → exec (.portDown time p cause) s = .next z) ∧
    (∀ (q : Fin 5) f, s.portIsUp q = true → s.netLost = false → z.nextFrame q = some f → (∀ k fl o, f.from_ = .host k fl o → fl = 0) →
      Reaches (.ethTxFrame time q) s (fun t => tabGet? t.net.sent q = some f.bytes ∧
        tabGet? t.net.queues q = some ((tabGet [] s.net.queues q).erase f) ∧ (q.val = p.val → one t (F.PORT_TX_FRAMES p)) ∧
        OnlyRegs (if q.val = p.val then [(F.PORT_TX_FRAMES p).key] else if q.val < 4 then [(F.PORT_TX_FRAMES q).key] else []) { z with net := t.net } t)) ∧
    (s.on F.TIME_MGMT_CFG_EN = false → exec (.ethTxFrame time 4) s = .next z) ∧
    (s.portIsUp p = false ∨ s.netLost = true → exec (.ethTxFrame time port) s = .next z) ∧
    (s.on F.TIME_HOSTTX_EN = false → exec (.hosttxEntry time) s = .next z) ∧
    (∀ e y b, let q := leNat (slice e 10 1); let len := leNat (slice e 8 2); let fl := leNat (slice e 11 1)
      s.on F.TIME_HOSTTX_EN = true → s.ringSize (s.get F.TIME_HOSTTX_RING) = 32 → z.ringTake timeSrc (s.get F.TIME_HOSTTX_RING) = (0, e, y) →
      q < 4 → 60 ≤ len → len ≤ 9212 → y.portIsUp q = true → (y.unitRead timeSrc (leNat (slice e 0 8)) len).1 = some b →
      Reaches (.hosttxEntry time) s (fun t => tabGet [] t.net.queues q = tabGet [] y.net.queues q ++
        [⟨if fl % 4 = 0 then 4 else 1, .host (leNat (slice e 16 8)) fl (leNat (slice e 12 2)), b⟩])) ∧
    (Admits s i F.TIME_MGMT_CFG_EN.key → s.on F.TIME_MGMT_CFG_EN = false → bit 0 = 1 → Reaches (.mgmtEnable i v) s (fun t =>
      (t.on F.TIME_MGMT_CFG_EN = true ↔ badM = false) ∧ t.get F.TIME_MGMT_CFG_SPEED = bit 1)) ∧
    (Admits s i F.TIME_MGMT_CFG_EN.key → bit 0 = 0 → Reaches (.mgmtEnable i v) s (fun t => t.on F.TIME_MGMT_CFG_EN = false)) ∧
    (Admits s i F.TIME_MDIO_CMD_GO.key → bit 31 = 1 → Reaches (.mdioGo i v) s (fun t => t.reg F.TIME_MDIO_CMD_GO.key = v &&& 0x8FFFFFFF#32 ∧
      OnlyRegs [F.TIME_MDIO_CMD_GO.key] s t)) ∧
    (s.on F.TIME_MDIO_CMD_GO = true → Reaches (.mdioDone time data) s (fun t => t.on F.TIME_MDIO_CMD_GO = false ∧
      t.get F.TIME_MDIO_CMD_DATA = (if s.get F.TIME_MDIO_CMD_OP % 2 = 1 then data.toNat else s.get F.TIME_MDIO_CMD_DATA) ∧
      OnlyRegs [F.TIME_MDIO_CMD_GO.key] z t)) ∧
    (s.on F.TIME_MDIO_CMD_GO = false → exec (.mdioDone time data) s = .next z)

/-- TIME64 grows by 2.56 ns a NET clock, times 1 + RATE, to the nearest 2^-32 ns, which is the model's choice (log entry
135), and stands while the NET clock is lost. A 64-bit write of a sample leaves no low half of one held, which is the
model's choice (log entry 114). A sample that is accepted with a reference before it moves FREQ by the integral term
of R398 within its limits, and RATE from there by the proportional one; one that is rejected is counted; the third
counted in UNSET, with no head enabled, steps TIME64 by its negative at once, counts the epoch and makes the servo
LOCKING. FREQ takes a write in UNSET only, and RATE with it. HOLD_MS without an accepted sample, or EN written 0,
leads to HOLDOVER with RATE as FREQ. A step that waits is made once every enabled head that withholds has started a
line, and no sooner. A one-shot trigger that is due fires, counts and disables itself, after those below it; one that
is not due does nothing; AT stands while EN is set, and takes a value by its two halves while it is not; the other
words of a trigger take what is written. (R393, R397, R398, R400, R401, R402, R403, R404, R406) -/
def Obligations.NetworkTime : Prop :=
  ∀ (i : Initiator) (n : Fin 16) (k : Fin 8) (v : Word) (d : Dword) (time : Nat) (s : State),
    let z := s.advance time
    let o := sint 64 d.toNat
    let at_ := s.get64 F.TIME_SAMPLE_AT
    let st := s.get F.TIME_STATUS_SERVO
    let logs := fun (t : State) (cls : Nat) => ∃ r ∈ t.log.recent.head?, r.cls = cls
    let one := fun (t : State) (f : Fld) => (s.reg f.key).toNat < 2 ^ 31 - 1 → t.reg f.key = s.reg f.key + 1
    let sample := fun (p : State → Prop) => Reaches (.servoSample i d) s p
    let held := fun (t : State) => t.get F.TIME_STATUS_SERVO = 3 ∧ t.get F.TIME_RATE = s.get F.TIME_FREQ ∧ logs t 0x67
    let stepped := fun (t : State) (b : State) (a : Int) => t.time64 = uint 64 (b.time64 + a) ∧
      t.get F.TIME_STATUS_EPOCH = (s.get F.TIME_STATUS_EPOCH + 1) % 4 ∧ one t F.TIME_STEP_COUNT ∧ t.on F.TIME_STATUS_STEP_BUSY = false
    let on := s.on (F.TTRIG_CTL_EN n) = true
    let b := s.get (F.TTRIG_CTL_TARGET n)
    let lower := ∀ j : Fin 16, j.val < n.val → z.trigDue j = false
    (s.netLost = false → z.time.acc = (s.time.acc + (netEdges (s.time.pix + time) - netEdges s.time.pix) *
      roundDiv (256 * 2 ^ 32 * (1000000000000 + s.getI F.TIME_RATE).toNat) 100000000000000) % 2 ^ 96) ∧
    (s.netLost = true → z.time.acc = s.time.acc % 2 ^ 96) ∧
    (Admits s i F.TIME_OFS_SAMPLE → s.on F.TIME_SERVO_CFG_EN = true →
      sample (fun t => tabGet? t.bus.held F.TIME_OFS_SAMPLE = none) ∧
      (s.sampleCode o at_ ≠ 0 → sample (fun t => one t F.TIME_REJECT ∧ (s.sampleCode o at_ ≠ 1 → logs t 0x68))) ∧
      (∀ p, s.sampleCode o at_ = 0 → st ≠ 0 → s.servo.needRef = false → s.servo.prevAt = some p →
        let dt := max 1 (min 1000000000 (sint 64 (at_ + 2 ^ 64 - p)).toNat)
        let term := fun (f : Fld) => roundDivI (o * 1000000000000) (dt * 2 ^ s.get f)
        let f := rateClamp (s.getI F.TIME_FREQ - term F.TIME_SERVO_CFG_KI_SHIFT)
        sample (fun t => t.getI F.TIME_FREQ = f ∧ t.getI F.TIME_RATE = rateClamp (f - term F.TIME_SERVO_CFG_KP_SHIFT) ∧
          t.servo.prevAt = some at_ ∧ t.time = s.time)) ∧
      (s.sampleCode o at_ = 0 → st = 0 → s.servo.needRef = false → s.servo.counted.length = 2 → o ≠ 0 → s.anyHead = false → sample (fun t => stepped t s (-o) ∧
        t.on F.TIME_STATUS_STEPPED = true ∧ t.get F.TIME_STATUS_SERVO = 1 ∧ logs t 0x64))) ∧
    (Admits s i F.TIME_FREQ.key →
      (st = 0 → Reaches (.freqWrite i v) s (fun t => t.reg F.TIME_FREQ.key = v ∧ t.reg F.TIME_RATE.key = v ∧
        OnlyRegs [F.TIME_FREQ.key, F.TIME_RATE.key] s t)) ∧ (st ≠ 0 → exec (.freqWrite i v) s = .next s)) ∧
    (Admits s i F.TIME_SERVO_CFG_EN.key → Reaches (.servoCfgWrite i v) s (fun t => t.reg F.TIME_SERVO_CFG_EN.key = v &&& 0xFFFF7701#32 ∧
      (v.toNat % 2 = 0 → s.on F.TIME_STATUS_STEPPED = true → s.servo.step = none → st ≠ 3 → held t))) ∧
    (st = 1 ∨ st = 2 → s.on F.TIME_STATUS_STEPPED = true → s.servo.step = none →
      (s.servo.quietAt + s.holdClk ≤ z.time.pix → Reaches (.servoHoldover time) s held) ∧
      (z.time.pix < s.servo.quietAt + s.holdClk → exec (.servoHoldover time) s = .next z)) ∧
    (∀ a first core prior, s.servo.step = some (a, first, core, prior) → s.servo.waiting = [] →
      let all := ∀ h : Fin 48, s.enabled h = true → (s.head h).stepHold = 1 → s.stepLineStarted h = true
      (all → Reaches (.timeStepApply time) s (fun t => stepped t z a ∧ t.servo.step = none)) ∧
      (¬all → exec (.timeStepApply time) s = .next z)) ∧
    (lower → z.trigDue n = true → s.get (F.TTRIG_PERIOD n) = 0 → Reaches (.timeTriggerFire time n) s (fun t => t.on (F.TTRIG_CTL_EN n) = false ∧
      one t (F.TTRIG_FIRED n) ∧
      (0x40 ≤ b → b < 0x44 → tabGet 0 s.trigOut (b % 4) ≤ z.time.pix → t.get (F.TTRIG_CTL_STATUS n) = 0 ∧
        tabGet? t.trigOut (b % 4) = some (z.time.pix + 12 * max 1 (s.get (F.TTRIG_ARG n) % 2 ^ 16))) ∧
      (0x44 ≤ b → b < 0x80 → t.get (F.TTRIG_CTL_STATUS n) = 3 ∧ logs t 0x6B))) ∧
    (lower → z.trigDue n = false → exec (.timeTriggerFire time n) s = .next z) ∧
    (∀ j : Fin 16, j.val < n.val → z.trigDue j = true → s.get (F.TTRIG_PERIOD j) = 0 →
      Reaches (.timeTriggerFire time n) s (fun t => t.on (F.TTRIG_CTL_EN j) = false ∧ one t (F.TTRIG_FIRED j))) ∧
    (Admits s i (F.TTRIG_AT n + 4 * k) →
      (k = 3 → Reaches (.triggerCtlWrite i n k v) s (fun t => t.get (F.TTRIG_CTL_TARGET n) = v.toNat % 2 ^ 8 ∧
        (t.on (F.TTRIG_CTL_EN n) = true ↔ v.toNat / 2 ^ 8 % 2 = 1) ∧ OnlyRegs [(F.TTRIG_CTL_EN n).key] s t)) ∧
      (k = 2 → Reaches (.triggerCtlWrite i n k v) s (fun t => t.get (F.TTRIG_PERIOD n) = v.toNat ∧ OnlyRegs [(F.TTRIG_PERIOD n).key] s t)) ∧
      (k = 4 → Reaches (.triggerCtlWrite i n k v) s (fun t => t.get (F.TTRIG_ARG n) = v.toNat ∧ OnlyRegs [(F.TTRIG_ARG n).key] s t)) ∧
      (k.val < 2 → on → exec (.triggerCtlWrite i n k v) s = .next s) ∧
      (k = 0 → ¬on → Reaches (.triggerCtlWrite i n k v) s (fun t => tabGet? t.bus.held (F.TTRIG_AT n) = some v ∧ t.regs = s.regs)) ∧
      (k = 1 → ¬on → Reaches (.triggerCtlWrite i n k v) s (fun t =>
        t.get64 (F.TTRIG_AT n) = (tabGet (s.reg (F.TTRIG_AT n)) s.bus.held (F.TTRIG_AT n)).toNat + 2 ^ 32 * v.toNat)))

/-- EN written 1 to a lane that is off and no member takes the fields of CFG: when the checks of R379 pass, the lane is on
with CEILING 6 and its group in stage 1, or 11 where a lane of it is fenced; else class 0x28 names the code and it
stays off. EN written 0 stops it; written to a member it stops its group, which is the model's choice (log entry 144),
and any other write leaves a member alone. A stage that is done leads to the next one, 4 to 6 for a single lane, stage
4 only with the polarity of stage 3, and stage 6 once 8 TRAIN blocks in a row have been good. A stage that is not done
when its time is out is recorded, FAILSTAGE and class 0x21, and the group waits; after 10 ms, and no sooner, it starts
again at stage 1. In stage 7 the end sends its CAP each 1 ms. Loss of signal in UP, or of the beacon for 3 block
times, counts on every lane and starts bring-up again; out of UP it does nothing. (R331, R341, R344, R345, R346, R379,
R381) -/
def Obligations.LaneBringUp : Prop :=
  ∀ (i : Initiator) (l : Fin 64) (m n : Nat) (obs : StageObs) (v : Word) (time : Nat) (s : State),
    let z := s.advance time
    let cfg := (F.LANE_CFG_ROLE l).key
    let x := s.lane m
    let st := s.laneStage l
    let one := fun (t : State) (f : Fld) => (s.reg f.key).toNat < 2 ^ 31 - 1 → t.reg f.key = s.reg f.key + 1
    let w0 := (s.writeBits cfg (s.rwBits cfg &&& 0xFFFFEFFF) v).setReg (F.LANE_LOOP_MODE l).key 0
    let w := w0.put (F.LANE_STATE_STAGE l) (w0.idleStage l)
    let goes := fun (a b : Nat) => st = a → Reaches (.bringupStageDone time l obs) s (fun t => t.laneStage l = b)
    let falls := fun (c : Instr) (now : Bool) => (s.laneUp m = true ∧ now = true → Reaches c s (fun t => t.laneStage l = 1 ∧ one t (F.LANE_DOWN_COUNT l))) ∧
      (¬(s.laneUp m = true ∧ now = true) → exec c s = .next z)
    (Admits s i cfg → s.on (F.LANE_CFG_EN l) = false → s.on (F.LANE_STATE_MEMBER l) = false → v.toNat / 2 ^ 12 % 2 = 1 →
      Reaches (.laneEnable i l v) s (fun t =>
        (w.laneCode l = 0 → t.on (F.LANE_CFG_EN l) = true ∧ (∀ k ∈ w.groupLanes l, t.get (F.LANE_STATE_CEILING k) = 6) ∧
          t.laneStage l = if (w.groupLanes l).any w.laneFenced = true then 11 else 1) ∧
        (w.laneCode l ≠ 0 → t.on (F.LANE_CFG_EN l) = false ∧ ∃ r ∈ t.log.recent.head?, r.cls = 0x28))) ∧
    (Admits s i cfg → s.on (F.LANE_CFG_EN l) = true → v.toNat / 2 ^ 12 % 2 = 0 → Reaches (.laneDisable i l v) s (fun t =>
      t.on (F.LANE_CFG_EN l) = false ∧ t.laneStage l = s.idleStage l ∧ ∀ k ∈ s.groupLanes l, t.on (F.LANE_STATE_MEMBER k) = false)) ∧
    (Admits s i cfg → s.on (F.LANE_CFG_EN l) = false → s.on (F.LANE_STATE_MEMBER l) = true → s.leadOf l = some m →
      (v.toNat / 2 ^ 12 % 2 = 1 → exec (.laneEnable i l v) s = .next s) ∧
      (v.toNat / 2 ^ 12 % 2 = 0 → Reaches (.laneDisable i l v) s (fun t => t.on (F.LANE_CFG_EN m) = false ∧
        ∀ k ∈ s.groupLanes m, t.on (F.LANE_STATE_MEMBER k) = false))) ∧
    (s.leadOf l = some m →
      (x.waiting = none → (s.admitted m = true → goes 1 2) ∧ goes 2 3 ∧ goes 3 4 ∧
        (st = 4 → obs.inverted ≠ s.on (F.LANE_STATE_RX_INVERTED l) → exec (.bringupStageDone time l obs) s = .next z) ∧
        (obs.inverted = s.on (F.LANE_STATE_RX_INVERTED l) → (s.groupN m = 1 → goes 4 6) ∧ (s.groupN m ≠ 1 → goes 4 5)) ∧
        (8 ≤ x.trainRun → goes 6 7) ∧ (st = 6 → x.trainRun < 8 → exec (.bringupStageDone time l obs) s = .next z) ∧
        (stageTimeout st (s.get (F.LANE_STATE_RXRATE l)) = some n → ¬(st = 7 ∧ x.switch.isSome = true) →
          ((s.lane l).stageAt + n ≤ z.time.pix → Reaches (.bringupTimeout time l) s (fun t => t.get (F.LANE_STATE_FAILSTAGE l) = st ∧
            (t.lane m).waiting = some z.time.pix ∧ (st ≠ 8 → ∃ r ∈ t.log.recent.head?, r.cls = 0x21))) ∧
          (z.time.pix < (s.lane l).stageAt + n → exec (.bringupTimeout time l) s = .next z))) ∧
      (∀ a, x.waiting = some a →
        (a + 12000000 ≤ z.time.pix → Reaches (.bringupRestart time l) s (fun t => t.laneStage l = 1 ∧ (t.lane m).waiting = none)) ∧
        (z.time.pix < a + 12000000 → exec (.bringupRestart time l) s = .next z)) ∧
      (s.laneStage m = 7 → x.waiting = none → x.left = true →
        (x.capAt = none ∨ (∃ a, x.capAt = some a ∧ a + 1200000 ≤ z.time.pix) → Reaches (.capSend time l) s (fun t =>
          (t.lane m).capAt = some z.time.pix ∧ ∃ p, (t.lane m).ctl = x.ctl ++ [p] ∧ slice p 0 1 = [0x20#8] ∧ slice p 4 1 = [1#8])) ∧
        (∀ a, x.capAt = some a → z.time.pix < a + 1200000 → exec (.capSend time l) s = .next z)) ∧
      falls (.laneSignalLoss time l) true ∧
      falls (.laneBeaconTimeout time l) ((s.lane l).beaconAt + blockTimes 3 (s.get (F.LANE_STATE_RXRATE l)) ≤ z.time.pix)) ∧
    (s.leadOf l = none → exec (.laneSignalLoss time l) s = .next z ∧ exec (.laneBeaconTimeout time l) s = .next z)

/-- A block with a stuffing error or a header that fails is counted on its lane; a good one of a single lane, or before
stage 6, that is not DATA moves the number expected next, and in stage 6 a good TRAIN block counts. The next block of
a group goes out on the lane that its number selects, with LANE, POS, GSIZE, BTYPE and BSEQ of R335: in training with
BTYPE 2 and the ready flag in its last byte, later with the packets that wait, or BTYPE 1 where there are none; in a
loss of PIXEL or LINK BTYPE 1 with zeros, whatever waits. An OUTMAP that serves is taken, WAIT_HOP where its hop has
not been seen; one that does not is REFUSED with EN 0, class 0x28. SENSEMAP takes its fields, and without a change
leaves the panels alone. An entry of the transmit ring joins the packets that wait at its lane and hop, or is logged,
class 0x2D. LOOP is taken by lanes whose EN is 0 only; in near-end and parallel loopback what comes from outside goes
nowhere. (R18, R331, R335, R339, R347, R340, R360, R361, R362, R374, R376, R377) -/
def Obligations.LaneTraffic : Prop :=
  ∀ (i : Initiator) (l : Fin 64) (m : Nat) (h k : Fin 32) (b : List Bool) (v : Word) (time : Nat) (s : State),
    let z := s.advance time
    let x := s.lane l
    let one := fun (t : State) (f : Fld) => (s.reg f.key).toNat < 2 ^ 31 - 1 → t.reg f.key = s.reg f.key + 1
    let om := (F.DRAVIO_OUTMAP_LEAD h).key
    let sm := (F.DRAVIO_SENSEMAP_LANE k).key
    let w := s.writeBits om 0x81FF v
    let lead := v.toNat % 2 ^ 6
    let hop := v.toNat / 2 ^ 6 % 2 ^ 3
    let pos := x.txG % s.groupN l
    let sent := fun (type : Nat) (payload : List Byte) => blockBits (header (l + pos) pos (s.get (F.LANE_CFG_GSIZE l)) type x.txG) payload
    (s.get (F.LANE_LOOP_MODE l) % 2 = 1 → exec (.blockReceived time l b) s = .next z) ∧
    (s.leadOf l = some m → (s.lane m).waiting = none → s.laneStage l ≠ 11 → s.on (F.LANE_STATE_RX_INVERTED l) = false →
      s.get (F.LANE_LOOP_MODE l) % 2 = 0 → s.on (F.LANE_LOOP_PRBS_CHK l) = false →
      (receiveBits b = .stuffing → Reaches (.blockReceived time l b) s (fun t => one t (F.LANE_STUFF_ERR l))) ∧
      (receiveBits b = .badHeader → Reaches (.blockReceived time l b) s (fun t => one t (F.LANE_HDR_ERR l))) ∧
      (∀ hd p, receiveBits b = .ok hd p → hd / 2 ^ 10 % 4 ≠ 0 → s.groupN m = 1 ∨ s.laneStage m < 6 → Reaches (.blockReceived time l b) s (fun t =>
        (t.lane m).rxG = some ((hd / 2 ^ 12 % 2 ^ 24 + 1) % 2 ^ 24) ∧
        (s.laneStage m = 6 → hd / 2 ^ 10 % 4 = 2 → p.take 2047 = List.replicate 2047 0 → leNat (slice p 2047 1) ≤ 1 →
          (s.lane m).rxG = some (hd / 2 ^ 12 % 2 ^ 24) → (t.lane m).trainRun = (s.lane m).trainRun + 1)))) ∧
    (s.leadOf l = some l.val → s.laneStage l ≠ 0 → s.laneStage l ≠ 11 → x.waiting = none → s.admitted l = true →
      s.get (F.LANE_LOOP_MODE (l + pos)) = 0 → s.on (F.LANE_LOOP_PRBS_GEN (l + pos)) = false → Reaches (.blockSend time l) s (fun t => (t.lane l).txG = x.txG + 1 ∧
        (s.lineLoss = true → (t.lane (l + pos)).out = sent 1 (List.replicate 2048 0)) ∧
        (s.lineLoss = false → x.left = false → (t.lane (l + pos)).out = sent 2 (List.replicate 2047 0 ++ leBytes (if x.trained = true then 1 else 0) 1)) ∧
        (s.lineLoss = false → x.left = true → let p := (z.nextPayload l).1
          (t.lane (l + pos)).out = sent (if p = [] then 1 else 0) (p ++ List.replicate (2048 - p.length) 0)))) ∧
    (Admits s i om → s.on (F.DRAVIO_OUTMAP_EN h) = false →
      (v.toNat / 2 ^ 15 % 2 = 0 → Reaches (.outmapWrite i h v) s (fun t => t.on (F.DRAVIO_OUTMAP_EN h) = false ∧ t.get (F.DRAVIO_OUTMAP_STATUS h) = 3 ∧
        t.get (F.DRAVIO_OUTMAP_LEAD h) = lead ∧ t.get (F.DRAVIO_OUTMAP_HOP h) = hop ∧ OnlyRegs [om] s t)) ∧
      (v.toNat / 2 ^ 15 % 2 = 1 → w.mapBad h = false → w.demandFits lead (s.get (F.LANE_CFG_TXMAX lead)) = true → Reaches (.outmapWrite i h v) s (fun t =>
        t.mapsTo h lead = true ∧ t.get (F.DRAVIO_OUTMAP_STATUS h) = if hop ≠ 0 ∧ s.bit (F.LANE_STATE_HOPS_SEEN lead) (hop - 1) = false then 1 else 0)) ∧
      (v.toNat / 2 ^ 15 % 2 = 1 → w.mapBad h = true ∨ w.demandFits lead (s.get (F.LANE_CFG_TXMAX lead)) = false → Reaches (.outmapWrite i h v) s (fun t =>
        t.on (F.DRAVIO_OUTMAP_EN h) = false ∧ t.get (F.DRAVIO_OUTMAP_STATUS h) = 2 ∧ OnlyLogged [om] s t ∧ ∃ r ∈ t.log.recent.head?, r.cls = 0x28))) ∧
    (Admits s i sm → Reaches (.sensemapWrite i k v) s (fun t => t.reg sm &&& 0x87FF = v &&& 0x87FF ∧
      (s.reg sm &&& 0x87FF = v &&& 0x87FF → OnlyRegs [sm] s t))) ∧
    (s.on F.DRAVIO_HOSTTX_EN = false → exec (.hostLaneTx time) s = .next z) ∧
    (∀ e y, s.on F.DRAVIO_HOSTTX_EN = true → z.ringTake dravioSrc (s.get F.DRAVIO_HOSTTX_RING) = (0, e, y) → leNat (slice e 0 1) = l.val →
      y.leadOf l = some m →
      let hp := leNat (slice e 1 1) % 8
      let sub := leNat (slice e 4 1)
      let ok := (sub = 5 ∨ 0x80 ≤ sub) ∧ y.laneUp m = true ∧ (hp = 0 ∨ y.bit (F.LANE_STATE_HOPS_SEEN m) (hp - 1) = true)
      Reaches (.hostLaneTx time) s (fun t => (ok → (t.lane m).ctl = (y.lane m).ctl ++
          [toHop hp (controlPacket sub (slice e 8 (min 248 (leNat (slice e 2 2)))))]) ∧
        (¬ok → (t.lane m).ctl = (y.lane m).ctl ∧ ∃ r ∈ t.log.recent.head?, r.cls = 0x2D))) ∧
    (Admits s i (F.LANE_LOOP_MODE l).key →
      (s.on (F.LANE_CFG_EN l) = false → s.on (F.LANE_STATE_MEMBER l) = false → Reaches (.loopWrite i l v) s (fun t =>
        t.get (F.LANE_LOOP_MODE l) = v.toNat % 4 ∧ (t.on (F.LANE_LOOP_PRBS_GEN l) = true ↔ v.toNat / 4 % 2 = 1) ∧
        (t.on (F.LANE_LOOP_PRBS_CHK l) = true ↔ v.toNat / 8 % 2 = 1) ∧
        (s.laneFenced l = false → t.laneStage l = if v.toNat % 4 = 0 then 0 else 10))) ∧
      (s.on (F.LANE_CFG_EN l) = false → s.on (F.LANE_STATE_MEMBER l) = true → Reaches (.loopWrite i l v) s (fun t =>
        t.get (F.LANE_LOOP_MODE l) = v.toNat % 4 ∧ OnlyRegs [(F.LANE_LOOP_MODE l).key] { s with lanes := t.lanes, free := t.free } t)) ∧
      (s.on (F.LANE_CFG_EN l) = true → exec (.loopWrite i l v) s = .next s))

/-- For every header of 36 bits whose GSIZE and BTYPE are not the reserved code 3, and every payload of 2,048 bytes: the
line bits that the transmitter makes of them, with beacon, header check, scrambling and stuffing, are received as
exactly that header and that payload. Stuffing never leaves a run of 32 equal bits after the beacon, and scrambling
with one seed twice gives back what it was given. (R333, R334, R335, R336, R337, R338, R339) -/
def Obligations.LineCodeRoundTrip : Prop :=
  (∀ (h : Nat) (payload : List Byte), h < 2 ^ 36 → h / 2 ^ 8 % 4 ≠ 3 → h / 2 ^ 10 % 4 ≠ 3 → payload.length = 2048 →
    receiveBits (blockBits h payload) = .ok h payload) ∧
  (∀ (l : List Bool), destuff true 1 (stuff true 1 l) = some l) ∧
  (∀ (l : List Bool) (b : Bool) (j : Nat), ¬∀ i, j ≤ i → i < j + 32 → (true :: stuff true 1 l)[i]? = some b) ∧
  (∀ (k : Nat) (l : List Bool), scramble k (scramble k l) = l)

/-- EN written 1 to a panel that is off enables it when every check of R430 passes: a local panel goes to SETTLE and a
remote one to CONFIG, where IDENT is the first command once its sense head can be reached; else EN stays 0 with class
0x97. EN written 0 takes the panel out of service with its touches. A command without a response for 10 ms goes out
again, three times in all; then class 0x95 and FAULT. A local scan that ends is a frame, counted, except in
ORDERLY_STOP; in SETTLE the fourth self frame leads to RUN and the earlier ones are kept. A remote frame that is not
complete 2 ms after its SCAN is dropped with class 0x90. Candidates that have waited 50 ms wait no longer. An idle
panel in RUN scans at the rate that its STEP times give. TEST and RECOVER lead from RUN to SETTLE, and do nothing
outside it. (R411, R415, R419, R423, R425, R429, R430, R431) -/
def Obligations.TouchPanels : Prop :=
  ∀ (i : Initiator) (p : Fin 34) (v : Word) (counts : List (BitVec 16)) (time : Nat) (s : State),
    let z := s.advance time
    let bit := fun (k : Nat) => v.toNat / 2 ^ k % 2
    let cfg := F.PANEL_CFG_EN p
    let w := s.writeBits cfg.key (s.rwBits cfg.key - 1) v
    let ph := fun (t : State) => t.get (F.PANEL_STATE_PHASE p)
    let x := s.panel p
    let vals := fun (sc : Scan) => (List.range sc.vals.length).map (fun j => nth 0 (counts.map (fun c => c.toNat)) j)
    let logs := fun (t : State) (cls code : Nat) => ∃ r ∈ t.log.recent.head?, r.cls = cls ∧ r.detail / 2 ^ 8 % 2 ^ 8 = code
    let one := fun (t : State) (f : Fld) => (s.reg f.key).toNat < 2 ^ 31 - 1 → t.reg f.key = s.reg f.key + 1
    let n := z.time.pix - x.active
    let late := fun (f : Fld) => s.get f * 1200000000 ≤ n
    (Admits s i cfg.key → s.on cfg = false → bit 0 = 1 →
      (w.panelCode p ≠ 0 → Reaches (.panelEnable i p v) s (fun t => t.on cfg = false ∧ logs t 0x97 (w.panelCode p))) ∧
      (w.panelCode p = 0 → w.panelFenced p = false → Reaches (.panelEnable i p v) s (fun t => t.on cfg = true ∧
        (32 ≤ p.val → ph t = 2) ∧ (p.val < 32 → ph t = 1 ∧
          ((w.senseLane p).isSome = true → ∃ c ∈ (t.panel p).cmd, c.op = 1 ∧ c.tries = 1)))) ∧
      (w.panelCode p = 0 → w.panelFenced p = true → Reaches (.panelEnable i p v) s (fun t => t.on cfg = true ∧ ph t = ph s))) ∧
    (Admits s i cfg.key → s.on cfg = true → bit 0 = 0 → Reaches (.panelDisable i p v) s (fun t =>
      t.on cfg = false ∧ ph t = 0 ∧ (t.panel p).touches = [] ∧ (t.panel p).cmd = none ∧ (t.panel p).scan = none)) ∧
    (∀ c, x.cmd = some c → c.at_ + 12000000 ≤ z.time.pix →
      (c.tries < 3 → Reaches (.senseCmdTimeout time p) s (fun t =>
        (t.panel p).cmd = some { c with tries := c.tries + 1, at_ := z.time.pix } ∧ t.regs = s.regs)) ∧
      (3 ≤ c.tries → Reaches (.senseCmdTimeout time p) s (fun t => (t.panel p).cmd = none ∧ (t.panel p).scan = none ∧
        ph t = 4 ∧ logs t 0x95 (c.op % 256)))) ∧
    ((∀ c ∈ x.cmd, z.time.pix < c.at_ + 12000000) → exec (.senseCmdTimeout time p) s = .next z) ∧
    (∀ sc, x.scan = some sc → 32 ≤ p.val →
      (s.mode = 10 → Reaches (.localScanDone time p counts) s (fun t => (t.panel p).scan = none ∧ t.regs = s.regs)) ∧
      (s.mode ≠ 10 → Reaches (.localScanDone time p counts) s (fun t => (t.panel p).scan = none ∧ one t (F.PANEL_FRAMES p) ∧
        (ph s = 2 → sc.self = true → x.settle.length < 3 → (t.panel p).settle = x.settle ++ [vals sc] ∧ ph t = 2) ∧
        (ph s = 2 → sc.self = true → 2 < x.settle.length → ph t = 3 ∧ (t.panel p).settle = [])))) ∧
    (x.scan = none ∨ p.val < 32 → exec (.localScanDone time p counts) s = .next z) ∧
    (∀ sc, x.scan = some sc → p.val < 32 → sc.at_ + 2400000 ≤ z.time.pix → Reaches (.touchFrameTimeout time p) s (fun t =>
      (t.panel p).scan = none ∧ one t (F.PANEL_FRAME_ERR p) ∧ logs t 0x90 3)) ∧
    ((∀ sc ∈ x.scan, z.time.pix < sc.at_ + 2400000) → exec (.touchFrameTimeout time p) s = .next z) ∧
    ((∃ c ∈ x.cands, c.at_ + 60000000 ≤ z.time.pix) → Reaches (.waterTimeout time p) s (fun t =>
      (t.panel p).cands = x.cands.filter (fun c => z.time.pix < c.at_ + 60000000) ∧ x.touches.length ≤ (t.panel p).touches.length)) ∧
    ((∀ c ∈ x.cands, z.time.pix < c.at_ + 60000000) → exec (.waterTimeout time p) s = .next z) ∧
    (ph s = 3 → x.touches = [] → x.cands = [] → Reaches (.touchRateStep time p) s (fun t =>
      t.get (F.PANEL_STATE_RATE p) = (if late (F.PANEL_STEP_STEP3_S p) then 3 else if late (F.PANEL_STEP_STEP2_S p) then 2
        else if late (F.PANEL_STEP_STEP1_S p) then 1 else 0) ∧ ph t = 3)) ∧
    (ph s ≠ 3 ∨ x.touches ≠ [] ∨ x.cands ≠ [] → exec (.touchRateStep time p) s = .next z) ∧
    (Admits s i (F.PANEL_CMD_TEST p).key →
      (ph s = 3 → bit 0 = 1 → Reaches (.touchCmdTest i p v) s (fun t => ph t = 2 ∧ t.get (F.PANEL_STATE_CAUSE p) = 1 ∧ (t.panel p).touches = [])) ∧
      (ph s = 3 → bit 0 = 0 → bit 1 = 1 → Reaches (.touchCmdRecover i p v) s (fun t => ph t = 2 ∧ t.get (F.PANEL_STATE_CAUSE p) = 2 ∧
        (t.panel p).touches = [])) ∧
      (ph s ≠ 3 → exec (.touchCmdTest i p v) s = .next s ∧ exec (.touchCmdRecover i p v) s = .next s))

/-- EN written 1 to a side that is off enables it when every check of R436 passes, in WAIT with START set and else in RUN;
else EN stays 0 with class 0xA0. EN written 0 stops the side. A frame start of a side in RUN or CLOCK_FAULT is
counted; MASK, as it was before any write in the same SAMPLE clock, comes into use at it unless HOLD is set; a
transmit side drives one word per slot, zeros or high impedance in a slot that MASK leaves out; a receive side keeps
the frame with the TIME64 of its FS edge. A side that does not run, whose clocks the part makes from a lost SAMPLE, or
whose frame is not due starts no frame. A write of MASK stands in its shadow. An EXTERNAL side in RUN without an FS
edge for two frame periods, or off by more than 1,000 ppm in a gate, is in CLOCK_FAULT with class 0xA1 until its clock
is restored, 100 ms later at the earliest. An audio TX context whose next packet is complete sends it: timestamp and
sequence number go on by the frames and by 1; one whose packet is not complete sends nothing. (R434, R436, R437, R438,
R439, R440, R448, R449, R451) -/
def Obligations.AudioSides : Prop :=
  ∀ (i : Initiator) (p : Fin 16) (rx : Bool) (v : Word) (samples : List (BitVec 24)) (hz : Nat) (c : Fin 4096) (time : Nat) (s : State),
    let z := s.advance time
    let n := v.toNat
    let k := sideKey p rx
    let f := fun (g : Nat → Nat → Fld) => g (k / 2) (k % 2)
    let cfg := f F.SIDE_CFG_EN
    let w := s.writeBits cfg.key (s.rwBits cfg.key - 1) v
    let st := fun (t : State) => t.get (f F.SIDE_STATE)
    let runs := (st s = 2 ∨ st s = 3) ∧ s.sideHeld k = false ∧ z.frameDue k = true
    let logs := fun (t : State) (cls code : Nat) => ∃ r ∈ t.log.recent.head?, r.cls = cls ∧ r.detail / 2 ^ 8 % 2 ^ 8 = code
    let one := fun (t : State) (f : Fld) => (s.reg f.key).toNat < 2 ^ 31 - 1 → t.reg f.key = s.reg f.key + 1
    let now := s.sampleClk z.time.pix
    let noted := (s.side k).wrAt.any (fun a => s.sampleClk a = now)
    let mask := ((if noted = true then (s.side k).was.1 else s.reg (f F.SIDE_MASK).key)).toNat
    let live := if mask / 2 ^ 16 % 2 = 1 then s.get (f F.SIDE_MASK_LIVE) else mask % 2 ^ 16
    let fresh := (s.side k).wrAt.any (fun a => s.sampleClk a = s.sampleClk s.time.pix)
    let muted := s.on F.SYS_DEGRADED_SAMPLE = true ∨ st s = 3 ∨ s.mode = 10
    let off := s.sideRate k * 1000 < (max hz (s.sideRate k) - min hz (s.sideRate k)) * 1000000
    let external := s.get (f F.SIDE_CFG_CLK) = 1
    let absent := (s.side k).edgeAt + divUp 2400000000 (max 1 (s.sideRate k)) ≤ z.time.pix
    let valid := (s.side k).faultAt + 120000000 ≤ z.time.pix
    let m := s.get (F.CTXT_FRAMES c)
    let q := 2 * s.get (F.CTXT_PORT c) + 1
    (Admits s i cfg.key → s.on cfg = false → n % 2 = 1 →
      (w.sideCode k ≠ 0 → Reaches (.audioSideEnable i p rx v) s (fun t => t.on cfg = false ∧ logs t 0xA0 (w.sideCode k))) ∧
      (w.sideCode k = 0 → w.audioFenced p = false → Reaches (.audioSideEnable i p rx v) s (fun t => t.on cfg = true ∧
        st t = (if t.on (f F.SIDE_CFG_START) = true then 1 else 2) ∧ (t.side k).count = 0))) ∧
    (Admits s i cfg.key → s.on cfg = true → n % 2 = 0 → Reaches (.audioSideEnable i p rx v) s (fun t =>
      t.on cfg = false ∧ st t = 0 ∧ t.get (f F.SIDE_MASK_LIVE) = 0 ∧ t.side k = {})) ∧
    (runs → Reaches (.audioFrameStart time p rx samples) s (fun t => one t (f F.SIDE_FRAMES) ∧ (t.side k).count = (s.side k).count + 1 ∧
      (t.side k).last = z.time.pix ∧ t.get (f F.SIDE_MASK_LIVE) = live ∧
      (rx = false → (t.side k).pins.length = s.sideSlots k ∧ ∀ j, j < s.sideSlots k →
        (live / 2 ^ j % 2 = 0 → (t.side k).pins[j]? = some (if s.on (F.SIDE_CFG_TRI p 0) = true then none else some 0)) ∧
        (live / 2 ^ j % 2 = 1 → muted → (t.side k).pins[j]? = some (some 0))) ∧
      (rx = true → ∃ g ∈ (t.side k).frames.head?, g.1 = z.time64 ∧ g.2.length = s.sideSlots k ∧ (muted → ∀ a ∈ g.2, a = 0)))) ∧
    (¬runs → exec (.audioFrameStart time p rx samples) s = .next z) ∧
    (Admits s i (f F.SIDE_MASK).key → Reaches (.maskWrite i p rx v) s (fun t => t.get (f F.SIDE_MASK) = n % 2 ^ 16 ∧
      (t.on (f F.SIDE_MASK_HOLD) = true ↔ n / 2 ^ 16 % 2 = 1) ∧ (fresh = false → (t.side k).wrAt = some s.time.pix ∧ (t.side k).was.1 = s.reg (f F.SIDE_MASK).key) ∧
      (fresh = true → t.sides = s.sides) ∧ OnlyRegs [(f F.SIDE_MASK).key] { s with sides := t.sides } t)) ∧
    (external → st s = 2 → absent → Reaches (.audioClockAbsent time p rx) s (fun t => st t = 3 ∧ logs t 0xA1 1 ∧ ∀ a ∈ (t.side k).pins, a = none ∨ a = some 0)) ∧
    (¬external ∨ st s ≠ 2 ∨ ¬absent → exec (.audioClockAbsent time p rx) s = .next z) ∧
    (external → s.on cfg = true → Reaches (.audioRateGate time p rx hz) s (fun t => t.get (f F.SIDE_MEAS_HZ) = min (2 ^ 18 - 1) hz ∧
      (off → st s = 2 → st t = 3 ∧ logs t 0xA1 2) ∧ (¬off → OnlyRegs [(f F.SIDE_MEAS_HZ).key] z t))) ∧
    (¬external ∨ s.on cfg = false → exec (.audioRateGate time p rx hz) s = .next z) ∧
    (st s = 3 → valid → Reaches (.audioClockRestored time p rx) s (fun t => st t = 2 ∧ logs t 0xA1 3)) ∧
    (st s ≠ 3 ∨ ¬valid → exec (.audioClockRestored time p rx) s = .next z) ∧
    (∀ a ts, (s.ctx c).txAt = some (a, ts) → s.ctxState c = 2 → c.val ∈ s.txOf q → s.get (F.SIDE_STATE (q / 2) (q % 2)) = 2 →
      (a + m ≤ (s.side q).count → Reaches (.audioPacketTx time c) s (fun t => (t.ctx c).txAt = some (a + m, (ts + m) % 2 ^ 32) ∧
        t.get (F.CTXV_RTP_SEQ c) = (s.get (F.CTXV_RTP_SEQ c) + 1) % 2 ^ 16 ∧
        (∀ w, s.get (F.CTXV_HDR_A c) ≠ 0 → (z.template audioSrc (s.get (F.CTXV_HDR_A c))).1 = some w → s.portIsUp w.1 = true → one t (F.CTX_PKTS c)) ∧
        (s.get (F.CTXV_HDR_A c) = 0 → s.get (F.CTXV_HDR_B c) = 0 → t.reg (F.CTX_PKTS c).key = s.reg (F.CTX_PKTS c).key))) ∧
      ((s.side q).count < a + m → exec (.audioPacketTx time c) s = .next z))

/-- VIN from 8.8 V up starts a part that is OFF, and only that: to INRUSH, with TIME64 at 0. The end of inrush gives the
capacitance of HOLDUP, ride-through by it and STAGED_START; an inrush of 500 ms ends in OFF unless VIB is reached, and
then there is no capacitance and no ride-through. Each start step brings its rail, one that takes 10 ms ends in OFF,
and the ninth leads to SELF_TEST; a start below -30 C waits for -25 C. Below VIN_WARN a part in service rides through
when it can and only logs when it cannot, while a start holds; VIN from 0.4 V above VIN_WARN on ends the hold, and
below 64 V the ride, in DERATED where the thermal cap is active or load has been shed for 1 s. Below VIN_RESET a ride
ends in ORDERLY_STOP with cause 2, a part that cannot ride is OFF, and a start ends. A tolerance fault of a rail stops
in order with cause 6, a hard one at once. Above 62 V a record is made, above 66 V the input stage opens; a voltage
that does not pass its threshold changes nothing but what VIN reads. HOLDUP at STOP_RESERVE ends a ride with cause 3
and a start or SERVICE in OFF. The orderly stop ends in OFF and keeps its cause. AUTO_RESTART starts again 1 s after
the stop where R510 lets it. STOP asks for an orderly stop with cause 1. RESET_N low removes the rails, and the start
follows its release. Loss of VAON leaves the fuses and the flash alone. (R489, R490, R492, R493, R494, R496, R498,
R504, R505, R507, R510, R527) -/
def Obligations.SupplyAndStart : Prop :=
  ∀ (i : Initiator) (r : Fin 12) (b : Bool) (v : Word) (temp : Int) (mv us time : Nat) (s : State),
    let z := s.advance time
    let n := v.toNat
    let m := s.get F.SYS_MODE_MODE
    let mode := fun (t : State) => t.get F.SYS_MODE_MODE
    let cause := fun (t : State) => t.get F.PWR_STATUS_STOP_CAUSE
    let logs := fun (t : State) (cls code : Nat) => ∃ r ∈ t.log.recent.head?, r.cls = cls ∧ r.detail / 2 ^ 8 % 2 ^ 8 = code
    let one := fun (t : State) (f : Fld) => (s.reg f.key).toNat < 2 ^ 31 - 1 → t.reg f.key = s.reg f.key + 1
    let rides := 5 ≤ m ∧ m ≤ 8
    let stops := 3 ≤ m ∧ m ≤ 11 ∧ m ≠ 10
    let avail := s.on F.PWR_STATUS_RT_AVAIL = true
    let riding := fun (t : State) => mode t = 9 ∧ t.on F.PWR_STATUS_ON_HOLDUP = true ∧ one t F.PWR_RT_COUNT ∧
      t.get F.PWR_STATUS_SHED_LEVEL = max (s.get F.PWR_STATUS_SHED_LEVEL) s.rtLevel
    let starts := m = 0 ∧ s.power.holdOff = false ∧ s.power.resetLow = false ∧ 8800 ≤ mv
    let c := min 16383 (us / 20)
    let k := s.get F.PWR_STATUS_START_STEP + 1
    let staged := m = 2 ∧ s.power.held = false ∧ s.on F.HLTH_STATUS_LOW_HALT = false ∧ k ≤ 9
    let recent := s.power.restarts.filter (fun a => s.power.onSecs ≤ a + 3600)
    let restarts := m = 0 ∧ s.on F.PWR_CTRL_AUTO_RESTART = true ∧ 4 ≤ cause s ∧ cause s ≤ 8 ∧ s.power.holdOff = true ∧ recent.length < 2 ∧
      s.power.resetLow = false ∧ (∀ a ∈ s.power.offAt, a + 1200000000 ≤ z.time.pix) ∧ (cause s = 4 ∨ cause s = 5 → s.coolEnough = true)
    let since := fun (a k : Nat) => a + k ≤ z.time.pix
    let inrushLate := m = 1 ∧ s.power.held = false ∧ since s.power.stepAt 600000000
    let stepLate := m = 2 ∧ s.power.held = false ∧ s.on F.HLTH_STATUS_LOW_HALT = false ∧ since s.power.stepAt 12000000
    let derates := s.on F.PWR_STATUS_THERM_CAP = true ∨ ∃ a ∈ s.power.shedSince, since a 1200000000
    let w := s.put F.PWR_VIN_WARN_CFG (n % 2 ^ 13)
    let vinIs := fun (t : State) => t.get F.PWR_VIN_MV = mv % 2 ^ 17
    let below := mv < s.vinWarnMv
    let window := s.vinWarnMv + 400 < mv ∧ mv < 64000
    let huIs := fun (t : State) => t.power.huMv = mv ∧ t.power.huE = energyAt (s.get F.PWR_HU_CAP) mv
    let spent := energyAt (s.get F.PWR_HU_CAP) mv ≤ 1200000000 * clamp 3 15 (s.get F.PWR_RT_CFG_STOP_RESERVE)
    let warms := s.on F.HLTH_STATUS_LOW_HALT = true ∧ -200 ≤ s.getI F.HLTH_TEMP_T
    (starts → Reaches (.vinStartReached time mv) s (fun t => mode t = 1 ∧ t.get F.SYS_MODE_PREV = 0 ∧ one t F.SYS_MODE_CHANGES ∧
      t.time = { z.time with acc := 0 } ∧ t.get F.PWR_VIN_MV = mv % 2 ^ 17)) ∧
    (¬starts → Reaches (.vinStartReached time mv) s (fun t => t.get F.PWR_VIN_MV = mv % 2 ^ 17 ∧ OnlyRegs [F.PWR_VIN_MV.key] z t)) ∧
    (m = 1 → s.power.held = false → Reaches (.inrushEnd time us) s (fun t => mode t = 2 ∧ t.get F.PWR_HU_CAP = c ∧
      (t.on F.PWR_STATUS_RT_AVAIL = true ↔ 400 ≤ c ∧ (c ≤ 5500 → s.on F.PWR_RT_CFG_RT_EN = true)) ∧
      (c < 400 → logs t 0x84 1) ∧ (5500 < c → logs t 0x84 3))) ∧
    (m ≠ 1 ∨ s.power.held = true → exec (.inrushEnd time us) s = .next z) ∧
    (¬inrushLate → exec (.inrushTimeout time b) s = .next z) ∧
    (inrushLate → Reaches (.inrushTimeout time b) s (fun t => (b = true → mode t = 2 ∧ t.on F.PWR_STATUS_RT_AVAIL = false ∧
        t.get F.PWR_HU_CAP = 0 ∧ logs t 0x84 1 ∧ ∃ r ∈ t.log.recent, r.cls = 0x84 ∧ r.detail / 2 ^ 8 % 2 ^ 8 = 2) ∧
      (b = false → mode t = 0))) ∧
    (staged → Reaches (.startStepDone time temp b true) s (fun t => t.get F.PWR_STATUS_START_STEP = k ∧
      (∀ q ∈ stepRails k, t.bit F.PWR_RAIL_OK q = true) ∧ (k < 9 → mode t = 2) ∧
      (k = 3 → (t.on F.HLTH_STATUS_LOW_HALT = true ↔ temp < -240) ∧ (temp < -240 → logs t 0x74 2)) ∧
      (k = 9 → mode t = 3 ∧ t.get F.CLK_STATUS_LOCK = 0xFF ∧ t.fuses.repairRead = true))) ∧
    (¬staged → exec (.startStepDone time temp b true) s = .next z) ∧
    (stepLate → Reaches (.startStepTimeout time) s (fun t => mode t = 0 ∧ t.get F.PWR_STATUS_START_STEP = 0)) ∧
    (¬stepLate → exec (.startStepTimeout time) s = .next z) ∧
    (warms → Reaches (.warmDone time) s (fun t => t.on F.HLTH_STATUS_LOW_HALT = false ∧ logs t 0x74 3)) ∧
    (¬warms → exec (.warmDone time) s = .next z) ∧
    (below → rides → avail → Reaches (.vinWarnCross time mv) s (fun t => riding t ∧ logs t 0x80 1)) ∧
    (below → rides → ¬avail → Reaches (.vinWarnCross time mv) s (fun t => mode t = m ∧ logs t 0x80 2)) ∧
    (below → (1 ≤ m ∧ m ≤ 4) ∨ m = 11 → Reaches (.vinWarnCross time mv) s (fun t => mode t = m ∧ t.power.held = true ∧ vinIs t ∧
      (m = 11 → s.test.fuse ≠ none → t.test.abandon = true))) ∧
    (¬below → Reaches (.vinWarnCross time mv) s (fun t => OnlyRegs [F.PWR_VIN_MV.key] { z with power := t.power } t ∧ vinIs t)) ∧
    (window → m = 9 → Reaches (.vinRecover time mv) s (fun t => t.on F.PWR_STATUS_ON_HOLDUP = false ∧ t.power.held = false ∧
      logs t 0x81 0 ∧ mode t = z.updDegraded.serviceMode ∧ (derates → s.anyHead = true → mode t = 8))) ∧
    (window → m ≠ 9 → Reaches (.vinRecover time mv) s (fun t => mode t = m ∧ t.power.held = false ∧ t.power.inputOpen = false)) ∧
    (64000 ≤ mv → s.vinWarnMv + 400 < mv → Reaches (.vinRecover time mv) s (fun t => mode t = m ∧ t.power.held = false ∧
      t.power.inputOpen = s.power.inputOpen)) ∧
    (mv ≤ s.vinWarnMv + 400 → Reaches (.vinRecover time mv) s (fun t => OnlyRegs [F.PWR_VIN_MV.key] { z with power := t.power } t ∧
      vinIs t ∧ t.power.held = s.power.held)) ∧
    (m = 0 → Reaches (.vinResetCross time) s (fun t => t = { z with power := { s.power with holdOff := false } })) ∧
    (m = 10 → exec (.vinResetCross time) s = .next z) ∧
    (m = 9 ∨ (rides ∧ avail) → Reaches (.vinResetCross time) s (fun t => mode t = 10 ∧ cause t = 2 ∧ one t F.PWR_RT_STOP_COUNT)) ∧
    (rides → ¬avail → Reaches (.vinResetCross time) s (fun t => mode t = 0 ∧ cause t = 2)) ∧
    (m = 11 ∨ (1 ≤ m ∧ m ≤ 4) → Reaches (.vinResetCross time) s (fun t => mode t = 0 ∧ t.get F.PWR_RAIL_OK = 0x800)) ∧
    Reaches (.vinHigh time mv) s (fun t => vinIs t ∧ mode t = m ∧ (62000 < mv → logs t 0x85 1) ∧ (mv ≤ 62000 → t.log = s.log)) ∧
    (66000 < mv → Reaches (.vinOv time mv) s (fun t => vinIs t ∧ t.power.inputOpen = true ∧ (rides → avail → riding t) ∧
      (¬(rides ∧ avail) → mode t = m ∧ logs t 0x85 2 ∧ (m ≠ 0 → m ≠ 9 → t.on F.PWR_STATUS_ON_HOLDUP = true)))) ∧
    (mv ≤ 66000 → Reaches (.vinOv time mv) s (fun t => OnlyRegs [F.PWR_VIN_MV.key] { z with power := t.power } t ∧ vinIs t)) ∧
    Reaches (.iinLimit time mv) s (fun t => t.get F.PWR_IIN_MA = mv % 2 ^ 15 ∧ (t.on F.PWR_STATUS_IIN_LIMIT = true ↔ 20000 ≤ mv) ∧
      (20000 ≤ mv → s.on F.PWR_STATUS_IIN_LIMIT = false → one t F.PWR_IIN_LIMIT_COUNT)) ∧
    (m ≠ 0 → Reaches (.railToleranceFault time r b) s (fun t => t.bit F.PWR_RAIL_FAULT r = true ∧ (stops → mode t = 10 ∧ cause t = 6 ∧
      t.bit F.PWR_RAIL_OK r = false) ∧ (m = 10 → mode t = 0 ∧ cause t = cause s) ∧ (m < 3 → mode t = m ∧ logs t 0x87 (if b = true then 2 else 1)))) ∧
    (m ≠ 0 → Reaches (.railHardFault time r b) s (fun t => mode t = 0 ∧ t.bit F.PWR_RAIL_FAULT r = true ∧ cause t = (if m = 10 then cause s else 6))) ∧
    (m = 0 → exec (.railToleranceFault time r b) s = .next z ∧ exec (.railHardFault time r b) s = .next z) ∧
    Reaches (.holdupLow time mv) s (fun t => huIs t ∧ mode t = m ∧
      (mv < 50000 → 5 ≤ m → m ≠ 10 → t.on F.PWR_STATUS_RT_AVAIL = false ∧ logs t 0x84 2) ∧ (50000 ≤ mv → t.regs = s.regs)) ∧
    (spent → m = 9 → Reaches (.holdupReserveReached time mv) s (fun t => mode t = 10 ∧ cause t = 3 ∧ one t F.PWR_RT_STOP_COUNT)) ∧
    (spent → (1 ≤ m ∧ m ≤ 4) ∨ m = 11 → Reaches (.holdupReserveReached time mv) s (fun t => mode t = 0)) ∧
    (¬spent ∨ rides ∨ m = 10 ∨ m = 0 → Reaches (.holdupReserveReached time mv) s (fun t => t = { z with power := t.power } ∧ huIs t)) ∧
    (m = 10 → Reaches (.orderlyStopDone time) s (fun t => mode t = 0 ∧ cause t = cause s ∧ t.eng = State.reset.eng)) ∧
    (m ≠ 10 → exec (.orderlyStopDone time) s = .next z) ∧
    (restarts → Reaches (.autoRestart time) s (fun t => mode t = 1 ∧ t.power.restarts = s.power.onSecs :: recent ∧ logs t 0x8B (cause s))) ∧
    (¬restarts → exec (.autoRestart time) s = .next z) ∧
    (Admits s i F.PWR_CTRL_STOP.key → Reaches (.stopWrite i v) s (fun t => t.get F.PWR_CTRL_RESTART_T = n / 2 ^ 8 % 2 ^ 8 ∧
      (t.on F.PWR_CTRL_AUTO_RESTART = true ↔ n % 2 = 1) ∧ (n / 2 % 2 = 1 → stops → mode t = 10 ∧ cause t = 1) ∧
      (n / 2 % 2 = 0 → OnlyRegs [F.PWR_CTRL_STOP.key] s t))) ∧
    (Admits s i F.PWR_VIN_WARN_CFG.key → Reaches (.vinWarnCfgWrite i v) s (fun t => t.get F.PWR_VIN_WARN_CFG = n % 2 ^ 13 ∧
      (w.vinWarnMv ≤ s.get F.PWR_VIN_MV → t = w) ∧ (s.get F.PWR_VIN_MV < w.vinWarnMv → rides → avail → riding t))) ∧
    Reaches (.resetNAssert time) s (fun t => mode t = 0 ∧ t.power.resetLow = true ∧ t.get F.PWR_RAIL_OK = 0x800) ∧
    Reaches (.resetNRelease time) s (fun t => t.power.resetLow = false ∧ t.power.holdOff = false ∧
      mode t = (if m = 0 ∧ 8800 ≤ s.get F.PWR_VIN_MV then 1 else m)) ∧
    Reaches (.vaonLost time) s (fun t => t.regs = State.reset.regs ∧ t.mem = State.reset.mem ∧ t.flash = s.flash ∧
      t.fuses.repairs = s.fuses.repairs ∧ t.fuses.fences = s.fuses.fences ∧ t.fuses.member = s.fuses.member ∧
      t.power = { resetLow := s.power.resetLow })

/-- A unit is admitted 2 us after the last one, a lane group 100 us after the last one, and not sooner. A governor step
with PIN above CAP_EFF goes to the next reachable shed level, and at the highest counts and logs once PIN has stayed
above for 100 ms; at or below CAP_EFF it changes no level; a release goes down one reachable level once PIN has had 6
W to spare for 100 ms, and else none. LIVE passes to DERATED after 1 s of shedding and back after 1 s without. A
sample sets every sensor that has not failed, or fails it; T is not below any sensor that counts; at 103 C the part
stops in order with cause 4, from 98 C on it is capped and counts a throttle, at 95 C it warns. A sensor that has been
excluded for 10 s fails. The thermal cap falls by 4 W each 100 ms at 98 C and rises by 4 W each second below 95 C,
until it reaches CAP_SET and ends. A hard trip makes the part OFF with cause 5 and is remembered. (R497, R499, R501,
R502, R511, R512, R513, R514) -/
def Obligations.GovernorAndHeat : Prop :=
  ∀ (n : Fin 64) (q : Fin 24) (raw : List (Option Int)) (pin time : Nat) (s : State),
    let z := s.advance time
    let now := z.time.pix
    let m := s.get F.SYS_MODE_MODE
    let mode := fun (t : State) => t.get F.SYS_MODE_MODE
    let lvl := s.get F.PWR_STATUS_SHED_LEVEL
    let logs := fun (t : State) (cls code : Nat) => ∃ r ∈ t.log.recent.head?, r.cls = cls ∧ r.detail / 2 ^ 8 % 2 ^ 8 = code
    let one := fun (t : State) (f : Fld) => (s.reg f.key).toNat < 2 ^ 31 - 1 → t.reg f.key = s.reg f.key + 1
    let free := fun (o : Option Nat) (k : Nat) => ∀ a ∈ o, a + k ≤ now
    let over_ := 10 * s.capEff < pin
    let capped := s.on F.PWR_STATUS_THERM_CAP
    let low := pin + 60 ≤ 10 * s.capEff
    let released := low ∧ ∃ a ∈ s.power.lowSince, a + 120000000 ≤ now
    let longOut := s.bit F.HLTH_EXCLUDED q = true ∧ s.bit F.HLTH_FAILED q = false ∧ tabGet 0 s.sensors.exclAt q + 12000000000 ≤ now
    let temp := s.getI F.HLTH_TEMP_T
    let c := s.get F.HLTH_THERM_CAP
    let stops := 3 ≤ m ∧ m ≤ 11 ∧ m ≠ 10
    (free s.power.wakeAt 2400 → Reaches (.wakeAdmit time false n) s (fun t => t.awake n = true ∧ t.power.wakeAt = some now ∧ t.regs = s.regs)) ∧
    (¬free s.power.wakeAt 2400 → exec (.wakeAdmit time false n) s = .next z) ∧
    (free s.power.laneAt 120000 → Reaches (.wakeAdmit time true n) s (fun t => t.awake (256 + n) = true ∧ t.power.laneAt = some now)) ∧
    (¬free s.power.laneAt 120000 → exec (.wakeAdmit time true n) s = .next z) ∧
    Reaches (.governorStep time pin) s (fun t => t.get F.PWR_PIN = pin % 2 ^ 12 ∧ t.get F.PWR_CAP_EFF = s.capEff ∧ mode t = m ∧
      (¬over_ → t.get F.PWR_STATUS_SHED_LEVEL = lvl ∧ t.power.unmet = false) ∧
      (∀ l, over_ → s.levelUp lvl = some l → lvl < l ∧ t.get F.PWR_STATUS_SHED_LEVEL = l) ∧
      (∀ a, over_ → s.levelUp lvl = none → s.power.unmetSince = some a → a + 120000000 ≤ now → s.power.unmet = false →
        one t F.PWR_CAP_UNMET_COUNT ∧ logs t 0x88 0 ∧ t.power.unmet = true)) ∧
    Reaches (.governorRelease time pin) s (fun t => t.get F.PWR_PIN = pin % 2 ^ 12 ∧ mode t = m ∧
      t.get F.PWR_STATUS_SHED_LEVEL = (if lvl ≠ 0 ∧ released then s.levelDown lvl else lvl) ∧
      (t.power.lowSince = none ↔ ¬low)) ∧
    (∀ a, m = 6 ∨ m = 7 → lvl ≠ 0 → s.power.shedSince = some a → a + 1200000000 ≤ now → Reaches (.deratedTimer time) s (fun t => mode t = 8)) ∧
    (∀ a, m = 8 → lvl = 0 → capped = false → s.power.calmSince = some a → a + 1200000000 ≤ now →
      Reaches (.deratedTimer time) s (fun t => mode t = z.markDerate.updDegraded.serviceMode ∧ mode t ≠ 8)) ∧
    (∀ a, m = 6 ∨ m = 7 → capped = false → s.power.shedSince = some a → now < a + 1200000000 → Reaches (.deratedTimer time) s (fun t => mode t = m)) ∧
    Reaches (.tempSample time raw) s (fun t =>
      (∀ k : Fin 24, s.bit F.HLTH_FAILED k = false →
        (nth none raw k = none → t.bit F.HLTH_FAILED k = true) ∧
        (∀ a, nth none raw k = some a → -2048 ≤ a → a < 2048 → t.bit F.HLTH_FAILED k = false ∧ t.getI (F.HLTH_SENSOR k) = a)) ∧
      (∀ k : Fin 24, t.bit F.HLTH_FAILED k = false → t.bit F.HLTH_EXCLUDED k = false → t.getI (F.HLTH_SENSOR k) ≤ t.getI F.HLTH_TEMP_T) ∧
      (824 ≤ t.getI F.HLTH_TEMP_T → stops → mode t = 10 ∧ t.get F.PWR_STATUS_STOP_CAUSE = 4) ∧
      (784 ≤ t.getI F.HLTH_TEMP_T → t.on F.PWR_STATUS_THERM_CAP = true ∧ t.on F.HLTH_STATUS_THROTTLE = true ∧ (capped = false →
        t.get F.HLTH_THERM_CAP = min 254 (max 40 (s.get F.PWR_PIN / 10)) ∧ one t F.HLTH_THROTTLE_COUNT)) ∧
      (t.getI F.HLTH_TEMP_T < 784 → t.on F.HLTH_STATUS_THROTTLE = false ∧ t.on F.PWR_STATUS_THERM_CAP = capped) ∧
      (760 ≤ t.getI F.HLTH_TEMP_T → t.on F.HLTH_STATUS_HIGH_WARN = true) ∧
      (t.getI F.HLTH_TEMP_T ≤ 744 → t.on F.HLTH_STATUS_HIGH_WARN = false)) ∧
    (longOut → Reaches (.sensorFail time q) s (fun t =>
      t.bit F.HLTH_FAILED q = true ∧ t.bit F.HLTH_EXCLUDED q = false)) ∧
    (¬longOut → exec (.sensorFail time q) s = .next z) ∧
    (capped = true → temp < 760 ∨ 784 ≤ temp → s.sensors.capAt + (if 784 ≤ temp then 120000000 else 1200000000) ≤ now →
      Reaches (.thermalCapStep time) s (fun t => mode t = m ∧ t.sensors.capAt = now ∧
      (784 ≤ temp → t.get F.HLTH_THERM_CAP = max 40 (c - 4) ∧ t.on F.PWR_STATUS_THERM_CAP = true) ∧
      (temp < 760 → s.capSet ≤ c + 4 → t.get F.HLTH_THERM_CAP = 255 ∧ t.on F.PWR_STATUS_THERM_CAP = false ∧ logs t 0x71 2) ∧
      (temp < 760 → c + 4 < s.capSet → t.get F.HLTH_THERM_CAP = c + 4 ∧ t.on F.PWR_STATUS_THERM_CAP = true))) ∧
    (capped = false ∨ (760 ≤ temp ∧ temp < 784) ∨ now < s.sensors.capAt + (if 784 ≤ temp then 120000000 else 1200000000) →
      exec (.thermalCapStep time) s = .next z) ∧
    (m ≠ 0 → Reaches (.hardTrip time) s (fun t => mode t = 0 ∧ t.get F.PWR_STATUS_STOP_CAUSE = 5 ∧ t.power.tripLatch = true ∧ t.power.holdOff = true)) ∧
    (m = 0 → exec (.hardTrip time) s = .next z)

/-- A second of power-on time adds one second, the factor of the band of T in thousandths to the equivalent time, and one
to the bands of T and VIN; before start step 3, with VCORE down, none counts; each 10,000 equivalent hours blow a life
fuse. The monitors set their drift, its worst, the warning from 3 % and the end of life from 5 % on. A record is
written each hour of power-on time when the ledger is enabled; it has 512 bytes, and ends in the CRC-32C of the rest.
One asked for meanwhile follows it. The write that ends well stands in the next erased slot of the flash and moves SEQ
and the slot on; one that fails is reported. (R515, R516, R517, R518, R522) -/
def Obligations.LifeLedger : Prop :=
  ∀ (i : Initiator) (v : Word) (drift : Fin 8 → BitVec 16) (mv time : Nat) (s : State),
    let z := s.advance time
    let l := s.ledger
    let b := tempBand (s.getI F.HLTH_TEMP_T)
    let ds := (List.finRange 8).map (fun k => (drift k).toInt)
    let worst := ds.foldl min (drift 0).toInt
    let up := 3 ≤ s.get F.SYS_MODE_MODE ∨ (s.get F.SYS_MODE_MODE = 2 ∧ 3 ≤ s.get F.PWR_STATUS_START_STEP)
    let writes := fun (t : State) => t.ledger.busy = some z.ledgerRecord ∧ z.ledgerRecord.length = 512 ∧
      leNat (slice z.ledgerRecord 0x1FC 4) = crc32c (slice z.ledgerRecord 0 0x1FC) ∧ t.get F.HLTH_LEDGER_CTRL_STATUS = 1
    let key := F.HLTH_LEDGER_CTRL_EN.key
    let next := fun (t : State) => l.due ≠ 0 → s.on F.HLTH_LEDGER_CTRL_EN = true →
      t.ledger.busy.isSome = true ∧ t.ledger.due = l.due - 1 ∧ t.get F.HLTH_LEDGER_CTRL_STATUS = 1
    (¬up → exec (.ledgerSecond time mv) s = .next z) ∧
    (up → Reaches (.ledgerSecond time mv) s (fun t => t.ledger.secs = l.secs + 1 ∧
      t.ledger.eq = l.eq + ([10, 58, 262, 521, 1000, 1852, 3319, 5773].getD b 0) ∧
      (b < l.tband.length → t.ledger.tband[b]? = some (nth 0 l.tband b + 1)) ∧ (∀ k, k ≠ b → t.ledger.tband[k]? = l.tband[k]?) ∧
      (vinBand mv < l.vband.length → t.ledger.vband[vinBand mv]? = some (nth 0 l.vband (vinBand mv) + 1)) ∧
      t.fuses.life = (if l.eq / 36000000000 < t.ledger.eq / 36000000000 then min 40 (s.fuses.life + 1) else s.fuses.life))) ∧
    Reaches (.pmonMeasure time ds) s (fun t => (∀ k : Fin 8, t.getI (F.HLTH_PMON k) = (drift k).toInt) ∧ t.getI F.HLTH_DRIFT_WORST = worst ∧
      (worst ≤ -300 → t.on F.HLTH_STATUS_DRIFT_WARN = true) ∧ (worst ≤ -500 → t.on F.HLTH_STATUS_LIFE_END = true)) ∧
    (s.on F.HLTH_LEDGER_CTRL_EN = true → l.busy = none → l.hourAt + 3600 ≤ l.secs → Reaches (.ledgerRecordWrite time) s (fun t =>
      writes t ∧ t.ledger.hourAt = l.secs)) ∧
    (l.secs < l.hourAt + 3600 → exec (.ledgerRecordWrite time) s = .next z) ∧
    (s.on F.HLTH_LEDGER_CTRL_EN = false ∨ l.busy ≠ none → Reaches (.ledgerRecordWrite time) s (fun t =>
      t.ledger.busy = l.busy ∧ t.regs = s.regs ∧ (s.on F.HLTH_LEDGER_CTRL_EN = true → l.hourAt + 3600 ≤ l.secs → t.ledger.due = l.due + 1))) ∧
    (Admits s i key → Reaches (.ledgerSave i v) s (fun t => (t.on F.HLTH_LEDGER_CTRL_EN = true ↔ v.toNat % 2 = 1) ∧
      (v.toNat % 2 = 1 → v.toNat / 2 % 2 = 1 → l.busy = none → t.ledger.busy.isSome = true ∧ t.get F.HLTH_LEDGER_CTRL_STATUS = 1) ∧
      (v.toNat % 2 = 1 → v.toNat / 2 % 2 = 1 → l.busy ≠ none → t.ledger = { l with due := l.due + 1 }) ∧
      (v.toNat / 2 % 2 = 0 → OnlyRegs [key] s t))) ∧
    (∀ r, l.busy = some r →
      (r.length = 512 → cellsWf 0xFF s.flash = true → Reaches (.ledgerWriteDone time true) s (fun t =>
        cellRead 0xFF t.flash (s.ledgerBase + 512 * s.ledgerNext) 512 = r ∧ t.ledger.slot = (s.ledgerNext + 1) % 256 ∧
        (s.slotErased (l.slot % 256) = true → s.ledgerNext = l.slot % 256) ∧ t.ledger.seq = (l.seq + 1) % 2 ^ 32 ∧
        (l.due = 0 → t.ledger.busy = none ∧ t.get F.HLTH_LEDGER_CTRL_STATUS = 2) ∧ next t)) ∧
      Reaches (.ledgerWriteDone time false) s (fun t => (l.due = 0 → t.ledger.busy = none ∧ t.get F.HLTH_LEDGER_CTRL_STATUS = 3) ∧
        next t ∧ t.ledger.seq = l.seq ∧ ∃ r ∈ t.log.recent.head?, r.cls = 0x77 ∧ r.detail / 2 ^ 8 % 2 ^ 8 = 1)) ∧
    (l.busy = none → exec (.ledgerWriteDone time true) s = .next z)

/-- MODE_REQ leads from READY, with no head enabled, to SERVICE, and back while nothing was fused there and neither a fuse
program nor a repair is under way; any other request is refused with class 0xBB. RESET_REQ with its key makes a warm
reset from SELF_TEST on, except in ORDERLY_STOP: SELF_TEST begins again, the engines are as after reset and what PWR
holds stays; else it does nothing. While the start holds, boot waits. Boot without a directory ends in SERVICE, with
SLOT NONE and class 0xBA; the first slot in order that passes is loaded: SLOT and LAST_SLOT name it, CONFIRMED is
clear, the lowest core not fenced runs, and the part is READY. BOOT_CONFIRM with its key confirms and stops the
watchdog. The watchdog that runs out sets RETRY and makes a warm reset; before, nothing happens. (R498, R525, R526,
R527, R529, R532, R533, R534, R547) -/
def Obligations.ModesAndBoot : Prop :=
  ∀ (i : Initiator) (v : Word) (rm : Option Sfdp) (sa sb : Bool) (time : Nat) (s : State),
    let z := s.advance time
    let n := v.toNat
    let q := n % 16
    let m := s.get F.SYS_MODE_MODE
    let mode := fun (t : State) => t.get F.SYS_MODE_MODE
    let logs := fun (t : State) (cls : Nat) => ∃ r ∈ t.log.recent.head?, r.cls = cls
    let serve := q = 11 ∧ m = 5 ∧ s.anyHead = false
    let back := q = 5 ∧ m = 11 ∧ s.test.dirty = false ∧ s.test.fuse = none ∧ s.test.ppr = none
    let resets := 3 ≤ m ∧ m ≠ 10
    let w := (z.put F.SYS_BOOT_STATUS_READ_MODE (readMode rm)).putB F.SYS_BOOT_STATUS_SECURE z.fuses.secure
    (Admits s i F.SYS_MODE_REQ_REQ.key →
      (serve → Reaches (.modeReqWrite i v) s (fun t => mode t = 11 ∧ t.get F.SYS_MODE_PREV = 5 ∧ t.get F.SYS_MODE_REQ_STATUS = 1)) ∧
      (back → Reaches (.modeReqWrite i v) s (fun t => mode t = 5 ∧ t.get F.SYS_MODE_PREV = 11 ∧ t.get F.SYS_MODE_REQ_STATUS = 1)) ∧
      (¬serve → ¬back → Reaches (.modeReqWrite i v) s (fun t => t.get F.SYS_MODE_REQ_STATUS = 2 ∧ t.get F.SYS_MODE_REQ_REQ = q ∧ logs t 0xBB ∧
        OnlyLogged [F.SYS_MODE_REQ_REQ.key] s t))) ∧
    (Admits s i F.SYS_RESET_REQ_KEY.key →
      (n % 2 ^ 16 = 0xB007 → resets → Reaches (.warmReset i v) s (fun t => mode t = 3 ∧ t.eng = State.reset.eng ∧ t.fuses.repairRead = true ∧
        t.get F.PWR_CAP_SET = s.get F.PWR_CAP_SET ∧ t.pending = s.pending)) ∧
      (n % 2 ^ 16 ≠ 0xB007 ∨ m < 3 ∨ m = 10 → exec (.warmReset i v) s = .next s)) ∧
    (m = 4 → s.power.held = false → w.directory = none → Reaches (.bootLoadDone time rm sa sb) s (fun t => mode t = 11 ∧
      t.get F.SYS_BOOT_STATUS_SLOT = 2 ∧ t.get F.SYS_BOOT_STATUS_READ_MODE = readMode rm ∧ logs t 0xBA)) ∧
    (∀ d a rest c, m = 4 → s.power.held = false → w.directory = some d → s.on F.SYS_BOOT_STATE_RETRY = false → w.slotOrder d = a :: rest →
      w.slotCode (nth (0, 0, true) d.slots a).1 (nth (0, 0, true) d.slots a).2.1 (nth false [sa, sb] a) = 0 →
      (List.range s.nSconce).find? (fun c => !s.bit F.SYS_FENCE_CORE c) = some c →
      Reaches (.bootLoadDone time rm sa sb) s (fun t => mode t = 5 ∧ t.get F.SYS_BOOT_STATUS_SLOT = a ∧ t.get F.SYS_BOOT_STATE_LAST_SLOT = a ∧
        t.on F.SYS_BOOT_STATE_CONFIRMED = false ∧ t.get F.SYS_BOOT_CORE = c ∧ t.on (F.CORE_CTL_RUN c) = true ∧ t.get (F.CORE_STATE c) = 1)) ∧
    (m ≠ 4 ∨ s.power.held = true → exec (.bootLoadDone time rm sa sb) s = .next z) ∧
    (Admits s i F.SYS_BOOT_CONFIRM.key →
      (n % 2 ^ 16 = 0xC0F1 → Reaches (.bootConfirm i v) s (fun t => t.on F.SYS_BOOT_STATE_CONFIRMED = true ∧ t.on F.SYS_BOOT_STATE_RETRY = false ∧
        t.test.bootAt = none ∧ OnlyRegs [F.SYS_BOOT_STATE_CONFIRMED.key] { s with test := t.test } t)) ∧
      (n % 2 ^ 16 ≠ 0xC0F1 → exec (.bootConfirm i v) s = .next s)) ∧
    (∀ a, s.test.bootAt = some a → s.get F.SYS_BOOT_WDOG_S ≠ 0 → a + s.get F.SYS_BOOT_WDOG_S * 1200000000 ≤ z.time.pix → resets →
      Reaches (.bootWdog time) s (fun t => mode t = 3 ∧ t.on F.SYS_BOOT_STATE_RETRY = true ∧ t.eng = State.reset.eng)) ∧
    ((∀ a ∈ s.test.bootAt, z.time.pix < a + s.get F.SYS_BOOT_WDOG_S * 1200000000) → exec (.bootWdog time) s = .next z)

/-- A write of a fence register that names one unit fences it when it is there, with class 0xB6; a core only while no
other core is fenced and it is OFF, else class 0xB7 with code 5 and nothing fenced. Start tests that all pass lead to
BOOT; a failing one of a unit that cannot be fenced stops the start in SELF_TEST, as does a main bank that cannot be
read. A test that ended in CONDITIONS is begun again 10 ms later, below three attempts. IST_CMD that R543 refuses
answers REFUSED with its code; accepted, the unit is under test, or the result is CONDITIONS where a domain clock or a
rail is outside its window; its end notes the result and the part is IDLE; out of conditions the result is CONDITIONS.
A fuse command outside its conditions is refused with its code; accepted it is busy, and its end notes the records
written. PPR runs in SERVICE alone, with its channel out of service until it ends, and its end says whether a resource
was left. While the start holds, tests neither end nor begin again. (R33, R498, R536, R537, R538, R539, R541, R542,
R543, R544, R545, R546) -/
def Obligations.TestAndRepair : Prop :=
  ∀ (i : Initiator) (k : Fin 7) (v : Word) (x : TestResult) (b : Bool) (u : Fin 256) (res : Fin 8) (detail : BitVec 8) (time : Nat) (s : State),
    let z := s.advance time
    let n := v.toNat
    let m := s.get F.SYS_MODE_MODE
    let mode := fun (t : State) => t.get F.SYS_MODE_MODE
    let st := fun (t : State) => t.get F.TEST_STATUS_STATE
    let logs := fun (t : State) (cls code : Nat) => ∃ r ∈ t.log.recent.head?, r.cls = cls ∧ r.detail / 2 ^ 8 % 2 ^ 8 = code
    let fenceKey := F.SYS_FENCE_DEC.key + 4 * k.val
    let y := x.unit.val
    let asked := n % 2 ^ 8
    let w := s.put F.TEST_IST_CMD_UNIT asked
    let op := n % 4
    let fu := n / 2 ^ 8 % 2 ^ 8
    let wf := (s.put F.TEST_FUSE_CMD_OP op).put F.TEST_FUSE_CMD_UNIT fu
    let go := n / 2 ^ 16 % 2 = 1 ∧ s.test.fuse = none
    let refuses := fun (c : Instr) => Reaches c s (fun t => t.get F.TEST_FUSE_CMD_STATUS = 2 ∧ t.get F.TEST_FUSE_CMD_CODE = wf.fuseCode op ∧
      t.fuses = s.fuses ∧ logs t 0xB4 (wf.fuseCode op))
    let begins := fun (c : Instr) => Reaches c s (fun t => t.test.fuse = some (op, fu) ∧ t.get F.TEST_FUSE_CMD_STATUS = 1 ∧ st t = 4)
    let pass := x.result = 1 ∧ x.badBanks = []
    let again := m = 3 ∧ s.power.held = false ∧ st s = 1 ∧ s.get (F.TEST_RESULT_RESULT u) = 3 ∧ tabGet 0 s.test.tries u < 3 ∧ s.test.tryAt + 12000000 ≤ z.time.pix
    let window := s.power.domLost = 0 ∧ s.power.domOff = 0 ∧ s.get F.PWR_RAIL_OK = 0xFFF
    let starts := m = 3 ∧ s.power.held = false ∧ st s = 1 ∧ s.test.tries = []
    (∀ q f j, Admits s i fenceKey → fenceUnits k n = [q] → fenceBit q = some (f, j) → s.unitPresent q = true → s.bit f j = false →
      (k = 2 → s.get F.SYS_FENCE_CORE = 0 ∧ s.get (F.CORE_STATE (q - 0x20)) = 0 → Reaches (.fenceWrite i k v) s (fun t => t.bit f j = true ∧ logs t 0xB6 3)) ∧
      (k ≠ 2 → Reaches (.fenceWrite i k v) s (fun t => t.bit f j = true ∧ logs t 0xB6 3)) ∧
      (k = 2 → s.get F.SYS_FENCE_CORE ≠ 0 ∨ s.get (F.CORE_STATE (q - 0x20)) ≠ 0 →
        Reaches (.fenceWrite i k v) s (fun t => OnlyLogged [] s t ∧ logs t 0xB7 5))) ∧
    (starts → s.startTested y = true → pass → Reaches (.selfTestDone time [x] ⟨[], []⟩ true) s (fun t => mode t = 4 ∧ st t = 0 ∧
      t.get (F.TEST_RESULT_RESULT y) = 1 ∧ t.on (F.TEST_RESULT_IN_SERVICE y) = false ∧ t.fuses.mainRead = true ∧
      t.get F.MEMC_TRAINED = 2 ^ 2 ^ s.logChan - 1)) ∧
    (starts → Reaches (.selfTestDone time [] ⟨[], []⟩ false) s (fun t => mode t = 3 ∧ st t = 3)) ∧
    (starts → s.startTested y = true → x.result = 2 → fenceBit y = none → y ≠ 0xC1 → ¬(0x18 ≤ y ∧ y ≤ 0x1A) → x.badBanks = [] →
      Reaches (.selfTestDone time [x] ⟨[], []⟩ b) s (fun t => mode t = 3 ∧ st t = 3 ∧ t.get F.TEST_STATUS_UNIT = y ∧
        t.get (F.TEST_RESULT_RESULT y) = 2 ∧ logs t 0xBE 0)) ∧
    (m ≠ 3 ∨ s.power.held = true → exec (.selfTestDone time [x] ⟨[], []⟩ b) s = .next z) ∧
    ((again → Reaches (.testConditionsRetry time u) s (fun t => t.get F.TEST_STATUS_UNIT = u ∧ t.get (F.TEST_RESULT_RESULT u) = 0 ∧
        t.on F.TEST_COND_CLK_OK = true ∧ t.on F.TEST_COND_RAIL_OK = true)) ∧
      (¬again → exec (.testConditionsRetry time u) s = .next z)) ∧
    (Admits s i F.TEST_IST_CMD_UNIT.key → n / 2 ^ 8 % 2 = 1 →
      (w.istCode asked ≠ 0 → Reaches (.istGo i v) s (fun t => t.get F.TEST_IST_CMD_STATUS = 2 ∧ t.get F.TEST_IST_CMD_CODE = w.istCode asked ∧
        t.test = s.test ∧ logs t 0xB7 (w.istCode asked))) ∧
      (w.istCode asked = 0 → window → Reaches (.istGo i v) s (fun t =>
        t.test.unit = some asked ∧ st t = 2 ∧ t.get F.TEST_STATUS_UNIT = asked ∧ t.get F.TEST_IST_CMD_STATUS = 1)) ∧
      (w.istCode asked = 0 → ¬window → Reaches (.istGo i v) s (fun t =>
        t.test.unit = none ∧ st t = 0 ∧ t.get (F.TEST_RESULT_RESULT asked) = 3 ∧ logs t 0xB8 3))) ∧
    (s.test.unit = none → exec (.istDone time res detail []) s = .next z) ∧
    (s.test.unit = some u.val → s.istWaits u = false → res = 1 ∨ res = 2 ∨ res = 5 → Reaches (.istDone time res detail []) s (fun t =>
      t.test.unit = none ∧ st t = 0 ∧ t.get (F.TEST_RESULT_RESULT u) = res ∧ t.on (F.TEST_RESULT_IN_SERVICE u) = true ∧
      t.get (F.TEST_RESULT_DETAIL u) = detail.toNat ∧ logs t 0xB8 res)) ∧
    Reaches (.testOutOfConditions time) s (fun t => t.test.unit = none ∧
      ¬(t.on F.TEST_COND_CLK_OK = true ∧ t.on F.TEST_COND_RAIL_OK = true) ∧
      (s.test.unit = some u.val → st t = 0 ∧ t.get (F.TEST_RESULT_RESULT u) = 3 ∧ logs t 0xB8 3)) ∧
    (Admits s i F.TEST_FUSE_CMD_OP.key → go →
      (op = 0 → wf.fuseCode 0 ≠ 0 → refuses (.fuseSramRepair i v)) ∧ (op = 0 → wf.fuseCode 0 = 0 → begins (.fuseSramRepair i v)) ∧
      (op = 1 → wf.fuseCode 1 ≠ 0 → refuses (.fuseFence i v)) ∧ (op = 1 → wf.fuseCode 1 = 0 → begins (.fuseFence i v))) ∧
    (s.test.fuse = none → exec (.fuseCmdDone time [b]) s = .next z) ∧
    (s.test.fuse = some (1, u.val) → s.test.abandon = false → s.fuses.fences.length < 32 → Reaches (.fuseCmdDone time [true]) s (fun t =>
      t.fuses.fences = s.fuses.fences ++ [0x100 + u.val] ∧ t.fuses.repairs = s.fuses.repairs ∧ t.test.fuse = none ∧ t.test.dirty = true ∧
      t.get F.TEST_FUSE_CMD_STATUS = 0 ∧ st t = 0)) ∧
    (s.test.fuse = some (0, u.val) → s.test.abandon = false → s.unfused.length + s.fuses.repairs.length ≤ 256 → Reaches (.fuseCmdDone time []) s
      (fun t => t.fuses.repairs = s.fuses.repairs ++ s.unfused.map (fun r => BitVec.ofNat 32 r) ∧ t.get F.TEST_FUSE_CMD_STATUS = 0)) ∧
    (Admits s i F.TEST_PPR_CMD_CHANNEL.key → n / 2 ^ 27 % 2 = 1 → s.test.ppr = none → Reaches (.pprGo i v) s (fun t =>
      t.get F.TEST_PPR_CMD_CHANNEL = n % 2 ^ 5 ∧ t.get F.TEST_PPR_CMD_ROW = n / 2 ^ 9 % 2 ^ 18 ∧
      (m = 11 → t.test.ppr = some (n % 2 ^ 5) ∧ t.get F.TEST_PPR_CMD_STATUS = 1 ∧
        (n % 2 ^ 5 < 2 ^ s.logChan → t.bit F.MEMC_TRAINED (n % 2 ^ 5) = false)) ∧ (m ≠ 11 → t.test.ppr = none ∧ t.get F.TEST_PPR_CMD_STATUS = 2))) ∧
    (∀ c, s.test.ppr = some c → Reaches (.pprDone time b) s (fun t => t.test.ppr = none ∧
      (c < 2 ^ s.logChan → t.bit F.MEMC_TRAINED c = true) ∧ t.get F.TEST_PPR_CMD_STATUS = (if b = true then 0 else 2) ∧
      (b = true → t.test.dirty = true) ∧ logs t 0xB5 (if b = true then 3 else 2))) ∧
    (s.test.ppr = none → exec (.pprDone time b) s = .next z)

/-- After reset no command waits, the mode is OFF, no domain is locked and the reference is to prefer REFCLK_IN, every
core is HALTED and every sequencer OFF, every head, context, session, port, lane, panel and side is off, every head
has the timing of R131, no ring is enabled, no record stands in the log, the vigil has three instances in service with
the ceilings of R87, and the family parameter block reads as zero; once the fuses of an SLX-W3264 are loaded it reads
as R35 says. The memories stand in their form and the program counters are legal. (R20, R33, R34, R35, R87, R131) -/
def Obligations.ResetState : Prop :=
  let s := State.reset;
    s.pending = [] ∧ s.get F.SYS_MODE_MODE = 0 ∧ s.get F.CLK_STATUS_LOCK = 0 ∧ s.on F.CLK_REF_CFG_PREFER_EXT = true ∧
    s.get F.MEMC_SCRUB_CFG_PERIOD_H = 24 ∧ s.on F.MEMC_SCRUB_CFG_ENABLE = true ∧
    (∀ c : Fin 16, s.get (F.CORE_STATE c) = 0 ∧ s.on (F.CORE_CTL_RUN c) = false) ∧ (∀ n : Fin 48, s.get (F.SEQN_STATE n) = 0) ∧
    (∀ h : Fin 48, s.enabled h = false ∧ s.get (F.HEAD_HTIM_HACTIVE h) = 3840 ∧ s.get (F.HEAD_HTIM_HTOTAL h) = 4400 ∧
      s.get (F.HEAD_VTIM_VACTIVE h) = 2160 ∧ s.get (F.HEAD_VTIM_VTOTAL h) = 2250 ∧ s.get (F.HEAD_RATE_NUM h) = 60 ∧ s.get (F.HEAD_RATE_DEN h) = 1) ∧
    (∀ p : Fin 4, s.on (F.PORT_CFG_EN p) = false) ∧ (∀ l : Fin 64, s.on (F.LANE_CFG_EN l) = false) ∧
    (∀ p : Fin 34, s.on (F.PANEL_CFG_EN p) = false) ∧ (∀ k : Fin 32, s.sideOn k = false) ∧ s.log.recent = [] ∧
    s.get F.VIGIL_STATUS_IN_SERVICE = 3 ∧ s.get F.VIGIL_CEIL_STALE = 60000000 ∧ s.get F.VIGIL_CEIL_FREEZE = 60000000 ∧
    s.get F.VIGIL_CEIL_SKIP_N = 4096 ∧ (∀ k : Fin 6, s.fpbWord k = 0) ∧
    (let t := { s with fuses := { s.fuses with mainRead := true } };
     t.fpbWord 0 / 2 ^ 8 = 0x5E1C04 ∧ t.fpbWord 1 = 32 + 2 ^ 8 * 16 + 2 ^ 16 * 16 + 2 ^ 24 * 48 ∧
     t.fpbWord 2 = 16 + 2 ^ 8 * 8 + 2 ^ 16 * 10 + 2 ^ 24 * 16 ∧ t.fpbWord 3 = 64 + 2 ^ 8 * 4 + 2 ^ 16 * 16 + 2 ^ 24 * 32 ∧
     t.fpbWord 4 = 4096 + 2 ^ 16 * 2048 ∧ t.fpbWord 5 = 64 + 2 ^ 16 * 64) ∧
    s.memoriesOk = true ∧ s.pcsLegal

/-- For every state whose memory, local memories and flash are in canonical form and whose dirty bytes stand by rising
address, a step of any command whatever answers a state of which the same holds. (R21, R163, R187, R518) -/
def Obligations.MemoriesKeepTheirForm : Prop :=
  ∀ s t : State, s.memoriesOk = true → step s = .next t → t.memoriesOk = true

/-- For every state in which every PC and EPC is a word address below 2^40, every EVEC a page address, and PSTATE and
EPSTATE hold nothing beyond their three bits, a step of an instruction of the integer, immediate or branch group, of
an access to a system register, of trap, brk or eret, on any engine, in any mode and whatever comes in its place at
the boundary, answers a state of which the same holds. (R136, R137, R147, R148, R151, R159) -/
def Obligations.ProgramCountersStayLegal : Prop :=
  ∀ (c : Instr) (q : List Instr) (s t : State), computes c = true → s.pcsLegal → step { s with pending := c :: q } = .next t → t.pcsLegal

/-- For every event of the table, whatever its operands, and every state: it answers a next state, the effect of its own
operation on the state in which the PIXEL clocks since the command before have passed. None of them stops on data.
(R18, R32, R61, R88, R155, R281, R341, R425, R440, R493, R512, R544) -/
def Obligations.EveryEventCompletes : Prop :=
  ∀ (t : Nat) (s : State),
    let z := s.advance t
    (exec (.refSwitch t) s = .next z.refSwitch ∧
      exec (.refLostBoth t) s = .next z.railsOff ∧
      exec (.l2ReconfigDone t) s = .next z.l2Done ∧
      exec (.coefLoadDone t) s = .next z.coefLoadDone ∧
      exec (.ruleCmdDone t) s = .next z.ruleDone ∧
      exec (.contextMigrate t) s = .next z.migrate ∧
      exec (.hosttxEntry t) s = .next z.hostEntry ∧
      exec (.servoHoldover t) s = .next z.servoQuiet ∧
      exec (.timeStepApply t) s = .next z.stepApply ∧
      exec (.hostLaneTx t) s = .next z.hostLaneTx ∧
      exec (.rulesetActivateDone t) s = .next z.actDone ∧
      exec (.faultRecordPost t) s = .next z.postRecord ∧
      exec (.startStepTimeout t) s = .next z.stepTimeout ∧
      exec (.warmDone t) s = .next z.warmDone ∧
      exec (.vinResetCross t) s = .next z.vinReset ∧
      exec (.orderlyStopDone t) s = .next z.stopDone ∧
      exec (.autoRestart t) s = .next z.autoRestart ∧
      exec (.thermalCapStep t) s = .next z.thermalStep ∧
      exec (.hardTrip t) s = .next z.hardTrip ∧
      exec (.ledgerRecordWrite t) s = .next z.ledgerHour ∧
      exec (.resetNAssert t) s = .next z.resetLow ∧
      exec (.resetNRelease t) s = .next z.resetHigh ∧
      exec (.bootWdog t) s = .next z.bootWdog ∧
      exec (.sampleReturns t) s = .next z.sampleBack ∧
      exec (.vaonLost t) s = .next z.vaonLost ∧
      exec (.testOutOfConditions t) s = .next z.outOfConditions ∧
      exec (.deratedTimer t) s = .next z.markDerate.derate) ∧
    (∀ (d : Fin 8),
      exec (.clockLoss t d) s = .next (z.clockLoss d.val)) ∧
    (∀ (d : Fin 8) (khz : Nat),
      exec (.clockDrift t d khz) s = .next (z.clockDrift d.val khz)) ∧
    (∀ (words : Nat) (finds : List (Nat × MemFind)),
      exec (.patrolScrub t words finds) s = .next (z.scrub words finds)) ∧
    (∀ (h : Fin 48) (ups : List PixUpset),
      exec (.lineStart t h ups) s = .next (z.lineStart h.val ups)) ∧
    (∀ (h : Fin 48) (ups : List Upset),
      exec (.ageProgressVote t h ups) s = .next (if z.enabled h.val then (z.supWins h.val).foldl (fun y e => y.judgeNext ups h.val e) z else z)) ∧
    (∀ (h : Fin 48),
      exec (.integrityCompare t h) s = .next (z.setHead h { z.head h with sent := compareLine (z.head h).sent }) ∧
      exec (.verdictDelivery t h) s = .next (z.deliver h.val) ∧
      exec (.composeLine t h) s = .next (z.composeNext h.val) ∧
      exec (.frameStart t h) s = .next (z.frameStart h.val) ∧
      exec (.pulseMissing t h) s = .next (if z.hasHead h.val && z.master h.val = h.val && z.windowOver h.val then z.pulseMissing h.val else z) ∧
      exec (.genlockLost t h) s = .next (if z.hasHead h.val && z.master h.val = h.val && 8 ≤ (z.tb h.val).freeFrames then z.genlockLost h.val else z) ∧
      exec (.virtualPulse t h) s = .next (if z.hasHead h.val then z.virtualPulse h.val else z)) ∧
    (∀ (h : Fin 48) (ups : List Upset) (pilot : List (Fin 3)) (voters : List Upset),
      exec (.voteComplete t h ups pilot voters) s = .next (z.voteComplete h.val ups (pilot.map (fun i => i.val)) voters)) ∧
    (∀ (h : Fin 48) (ws : List (Fin 2048)),
      exec (.lineUnderrun t h ws) s = .next (if z.composes h.val && (z.nextLine h.val).1 < (z.tb h.val).timing.vactive then z.underrun h.val (ws.map (fun w => w.val)) else z)) ∧
    (∀ (h : Fin 48) (line : Nat) (w : Fin 2048),
      exec (.echoTimeout t h line w) s = .next (z.echoAbsent h.val line w.val)) ∧
    (∀ (u : Fin 64),
      exec (.apply t u) s = .next (z.applyEvent u.val) ∧
      exec (.applyDone t u) s = .next (z.applyDone u.val)) ∧
    (∀ (n : Fin 2) (width : Nat),
      exec (.genlockPulse t n width) s = .next (z.genlockPulse n.val width)) ∧
    (∀ (ch : Fin 32) (op : Maint) (dur : Nat),
      exec (.maintenanceStart t ch op dur) s = .next (match op with | .scrub => z.maintain true ch dur | _ => z.maintain false ch dur)) ∧
    (∀ (ch : Fin 32),
      exec (.refreshForced t ch) s = .next (if ch.val < 2 ^ z.logChan then z.bump F.RASTER_LTR_FORCED else z)) ∧
    (∀ (c : Fin 16),
      exec (.rulesyncDone t c) s = .next (z.rulesyncEnds c.val) ∧
      exec (.rwaitDone t c) s = .next (z.rwaitEnds c.val) ∧
      exec (.impreciseStoreRefusal t c) s = .next (z.impreciseArrives c.val) ∧
      exec (.attention t c) s = .next (z.attentionArrives c.val) ∧
      exec (.coreWatchdog t c) s = .next (z.coreWatchdog c.val)) ∧
    (∀ (n : Fin 48),
      exec (.seqBudget t n) s = .next (if z.get (F.SEQN_STATE n.val) = 1 then z.countRun n.val else z) ∧
      exec (.seqWatchdog t n) s = .next (z.seqWatchdog n.val)) ∧
    (∀ (n : Fin 4),
      exec (.copyJobStart t n) s = .next (z.copyStart n.val) ∧
      exec (.copyJobDone t n) s = .next (z.copyDone n.val)) ∧
    (∀ (c : Fin 4096),
      exec (.contextDrained t c) s = .next (z.ctxDrained c.val) ∧
      exec (.gapDeclaredLost t c) s = .next (z.gapTimeout c.val) ∧
      exec (.keypicRequest t c) s = .next (z.keypic c.val) ∧
      exec (.audioPacketTx t c) s = .next (z.audioTx c.val)) ∧
    (∀ (p : Fin 5) (fcsOk : Bool) (frame : List Byte),
      exec (.ethRxFrame t p fcsOk frame) s = .next (z.ethRx p.val fcsOk frame)) ∧
    (∀ (c : Fin 4096) (netB : Bool),
      exec (.networkSilent t c netB) s = .next (z.netSilent c.val netB)) ∧
    (∀ (p : Fin 16),
      exec (.pipeDispatch t p) s = .next (z.pipeDispatch p.val) ∧
      exec (.slotWaitExpiry t p) s = .next (z.slotExpiry p.val)) ∧
    (∀ (p : Fin 16) (pic : DecodedPic),
      exec (.pictureDecoded t p pic) s = .next (z.pictureDecoded p.val pic)) ∧
    (∀ (p : PipeSpan),
      exec (.pipeRateUpdate t p) s = .next (z.rateUpdate p.pipe.val p.pixels)) ∧
    (∀ (p : Fin 16) (internal : Bool),
      exec (.pipeStallFail t p internal) s = .next (z.pipeFail p.val internal)) ∧
    (∀ (n : Fin 16) (row : EncRow),
      exec (.encRow t n row) s = .next (z.encRow n.val row)) ∧
    (∀ (p : Fin 8) (internal : Bool),
      exec (.encPipeStall t p internal) s = .next (z.epipeFail p.val internal)) ∧
    (∀ (p : Fin 5),
      exec (.ethTxFrame t p) s = .next (z.ethTx p.val)) ∧
    (∀ (p : Fin 4),
      exec (.portUp t p) s = .next (z.portComesUp p.val)) ∧
    (∀ (p : Fin 4) (cause : Fin 4),
      exec (.portDown t p cause) s = .next (z.portGoesDown p.val (cause.val + 1))) ∧
    (∀ (data : BitVec 16),
      exec (.mdioDone t data) s = .next (z.mdioDone data)) ∧
    (∀ (n : Fin 16),
      exec (.timeTriggerFire t n) s = .next ((z.trigsBelow n.val).trigFire n.val)) ∧
    (∀ (l : Fin 64) (obs : StageObs),
      exec (.bringupStageDone t l obs) s = .next (match z.leadOf l.val with | some m => z.stageDone m l.val obs | none => z)) ∧
    (∀ (l : Fin 64),
      exec (.bringupTimeout t l) s = .next (match z.leadOf l.val with | some m => z.stageTimedOut m l.val | none => z) ∧
      exec (.bringupRestart t l) s = .next (match z.leadOf l.val with | some m => z.restart m | none => z) ∧
      exec (.capSend t l) s = .next (match z.leadOf l.val with | some m => z.capSend m | none => z) ∧
      exec (.laneSignalLoss t l) s = .next (match z.leadOf l.val with | some m => z.linkDown m 1 | none => z) ∧
      exec (.laneBeaconTimeout t l) s = .next (match z.leadOf l.val with | some m => if (z.lane l.val).beaconAt + blockTimes 3 (z.get (F.LANE_STATE_RXRATE l.val)) ≤ z.time.pix then z.linkDown m 2 else z | none => z) ∧
      exec (.blockSend t l) s = .next (match z.leadOf l.val with | some m => z.blockSend m | none => z.testSend l.val)) ∧
    (∀ (l : Fin 64) (b : List Bool),
      exec (.blockReceived t l b) s = .next (z.blockReceived l.val b)) ∧
    (∀ (p : Fin 34),
      exec (.senseCmdTimeout t p) s = .next (z.cmdTimeout p.val) ∧
      exec (.touchFrameTimeout t p) s = .next (z.frameTimeout p.val) ∧
      exec (.waterTimeout t p) s = .next (z.waterTimeout p.val) ∧
      exec (.touchRateStep t p) s = .next (z.rateStep p.val)) ∧
    (∀ (p : Fin 34) (counts : List (BitVec 16)),
      exec (.localScanDone t p counts) s = .next (z.localScan p.val (counts.map (fun c => c.toNat)))) ∧
    (∀ (p : Fin 16) (rx : Bool) (samples : List (BitVec 24)),
      exec (.audioFrameStart t p rx samples) s = .next (z.audioFrame (sideKey p rx) (samples.map (fun b => b.toNat)))) ∧
    (∀ (p : Fin 16) (rx : Bool),
      exec (.audioClockAbsent t p rx) s = .next (z.clockAbsent (sideKey p rx)) ∧
      exec (.audioClockRestored t p rx) s = .next (z.clockRestored (sideKey p rx))) ∧
    (∀ (p : Fin 16) (rx : Bool) (hz : Nat),
      exec (.audioRateGate t p rx hz) s = .next (z.rateGate (sideKey p rx) hz)) ∧
    (∀ (k : Fin 128),
      exec (.ringAgeAttention t k) s = .next (z.ringUpdate k.val)) ∧
    (∀ (u : Fin 8),
      exec (.chkJobDone t u) s = .next (z.chkRun u.val)) ∧
    (∀ (mv : Nat),
      exec (.vinStartReached t mv) s = .next (z.vinStart mv) ∧
      exec (.vinWarnCross t mv) s = .next (z.vinLow mv) ∧
      exec (.vinRecover t mv) s = .next (z.vinRecover mv) ∧
      exec (.vinHigh t mv) s = .next (z.vinHigh mv) ∧
      exec (.vinOv t mv) s = .next (z.vinOv mv) ∧
      exec (.holdupLow t mv) s = .next (z.holdupLow mv) ∧
      exec (.holdupReserveReached t mv) s = .next (z.holdupReserve mv) ∧
      exec (.ledgerSecond t mv) s = .next (z.ledgerSecond mv)) ∧
    (∀ (us : Nat),
      exec (.inrushEnd t us) s = .next (z.inrushEnd us)) ∧
    (∀ (vibOk : Bool),
      exec (.inrushTimeout t vibOk) s = .next (z.inrushTimeout vibOk)) ∧
    (∀ (temp : Int) (extOk repairOk : Bool),
      exec (.startStepDone t temp extOk repairOk) s = .next (z.stepDone temp extOk repairOk)) ∧
    (∀ (ma : Nat),
      exec (.iinLimit t ma) s = .next (z.iinLimit ma)) ∧
    (∀ (r : Fin 12) (high : Bool),
      exec (.railToleranceFault t r high) s = .next (z.railTolerance r.val high)) ∧
    (∀ (r : Fin 12) (trip : Bool),
      exec (.railHardFault t r trip) s = .next (z.railHard r.val trip)) ∧
    (∀ (lane : Bool) (n : Fin 64),
      exec (.wakeAdmit t lane n) s = .next (z.wakeAdmit lane n.val)) ∧
    (∀ (pin : Nat),
      exec (.governorStep t pin) s = .next (z.governorStep pin) ∧
      exec (.governorRelease t pin) s = .next (z.governorRelease pin)) ∧
    (∀ (raw : List (Option Int)),
      exec (.tempSample t raw) s = .next (z.tempSample raw)) ∧
    (∀ (n : Fin 24),
      exec (.sensorFail t n) s = .next (z.sensorFail n.val)) ∧
    (∀ (drift : List Int),
      exec (.pmonMeasure t drift) s = .next (z.pmonMeasure drift)) ∧
    (∀ (ok : Bool),
      exec (.ledgerWriteDone t ok) s = .next (z.ledgerDone ok)) ∧
    (∀ (results : List TestResult) (repairs : RepairFind) (mainOk : Bool),
      exec (.selfTestDone t results repairs mainOk) s = .next (z.testsDone results repairs mainOk)) ∧
    (∀ (u : Fin 256),
      exec (.testConditionsRetry t u) s = .next (z.testRetry u.val)) ∧
    (∀ (sfdp : Option Sfdp) (sigA sigB : Bool),
      exec (.bootLoadDone t sfdp sigA sigB) s = .next (z.bootLoad sfdp sigA sigB)) ∧
    (∀ (verify : List Bool),
      exec (.fuseCmdDone t verify) s = .next (z.fuseDone verify)) ∧
    (∀ (resource : Bool),
      exec (.pprDone t resource) s = .next (z.pprDone resource)) ∧
    (∀ (result : Fin 8) (detail : BitVec 8) (soft : List (BitVec 24)),
      exec (.istDone t result detail soft) s = .next (z.istDone result.val detail.toNat (soft.map (fun r => r.toNat))))

/-- For every command of the table that writes a register, every initiator and value: where no access of the initiator to
a register is in flight, the member has the register and no WK field bars the write, the command answers a next state,
the effect that the register's own rule gives the value, at once. The plain accesses to registers and the checks at
both ends answer one in every state. (R2, R7, R25, R27, R459, R573) -/
def Obligations.EveryRegisterCommandCompletes : Prop :=
  ∀ (i : Initiator) (v : Word) (s : State),
    (∀ (a : PAddr),
      exec (.registerWrite i a v) s = .next (s.regCommand i .write a.toNat (leBytes v.toNat 4)) ∧
      exec (.reg64LowWrite i a v) s = .next (s.regCommand i .write a.toNat (leBytes v.toNat 4)) ∧
      exec (.reg64HighWrite i a v) s = .next (s.regCommand i .write a.toNat (leBytes v.toNat 4)) ∧
      exec (.reg64LowRead i a) s = .next (s.regCommand i .read a.toNat [])) ∧
    (∀ (n : Nat) (finds : List (Nat × MemFind)), exec (.targetCheck n finds) s = .next (s.reach n finds)) ∧
    (∀ (k : AccKind) (a : Nat) (len : Fin 257) (data : List Byte), Reaches (.initiatorCheck i k a len data) s (fun t => t.eng = s.eng)) ∧
    ((Admits s i F.CLK_SAMPLE_CFG_BASE.key → exec (.sampleCfgWrite i v) s = .next (s.wrSampleCfg v)) ∧
      (Admits s i F.VIGIL_CTRL_LOCK.key → exec (.vigilCtrlWrite i v) s = .next (s.setVigilCtrl v)) ∧
      (Admits s i F.VIGIL_INJECT_WINDOW.key → exec (.vigilInject i v) s = .next (s.wrInject v)) ∧
      (Admits s i F.L2_SRAM_WAYS.key → exec (.l2SramWaysWrite i v) s = .next (s.wrSramWays v)) ∧
      (Admits s i F.COMP_PLACE_CTL_GO.key → exec (.placeCtlGo i v) s = .next (s.wrPlaceCtl v)) ∧
      (Admits s i F.PIXP_COEF_LOAD_SET.key → exec (.coefLoadGo i v) s = .next (s.wrCoefLoad v)) ∧
      (Admits s i F.INTAKE_RULE_CMD_OP.key → exec (.ruleAdd i v) s = .next (s.wrRuleCmd v)) ∧
      (Admits s i F.INTAKE_RULE_CMD_OP.key → exec (.ruleDel i v) s = .next (s.wrRuleCmd v)) ∧
      (Admits s i F.INTAKE_RULE_CMD_OP.key → exec (.ruleRead i v) s = .next (s.wrRuleCmd v)) ∧
      (Admits s i F.INTAKE_BUF_RETURN.key → exec (.bufReturn i v) s = .next (s.wrBufReturn v)) ∧
      (Admits s i F.DEC_PIPE_EN.key → exec (.decPipeEnWrite i v) s = .next (s.wrDecEn v)) ∧
      (Admits s i F.ENC_PIPE_EN.key → exec (.encPipeEnWrite i v) s = .next (s.wrEncEn v)) ∧
      (Admits s i F.TIME_MGMT_CFG_EN.key → exec (.mgmtEnable i v) s = .next (s.wrMgmtCfg v)) ∧
      (Admits s i F.TIME_MDIO_CMD_GO.key → exec (.mdioGo i v) s = .next (s.wrMdio v)) ∧
      (Admits s i F.TIME_FREQ.key → exec (.freqWrite i v) s = .next (s.wrFreq v)) ∧
      (Admits s i F.TIME_SERVO_CFG_EN.key → exec (.servoCfgWrite i v) s = .next (s.wrServoCfg v)) ∧
      (Admits s i F.PROT_ACT_SET.key → exec (.rulesetActivate i v) s = .next (s.wrAct (s.issuer i) v)) ∧
      (Admits s i F.PROT_CTRL_LOCKDOWN.key → exec (.lockdownWrite i v) s = .next (s.wrLockdown v)) ∧
      (Admits s i F.FAULT_CTR_CLEAR_BLOCK.key → exec (.counterClear i v) s = .next (s.wrCtrClear v)) ∧
      (Admits s i F.PWR_CTRL_STOP.key → exec (.stopWrite i v) s = .next (s.wrPwrCtrl v)) ∧
      (Admits s i F.PWR_VIN_WARN_CFG.key → exec (.vinWarnCfgWrite i v) s = .next (s.wrVinWarn v)) ∧
      (Admits s i F.HLTH_LEDGER_CTRL_EN.key → exec (.ledgerSave i v) s = .next (s.wrLedgerCtrl v)) ∧
      (Admits s i F.SYS_MODE_REQ_REQ.key → exec (.modeReqWrite i v) s = .next (s.wrModeReq v)) ∧
      (Admits s i F.SYS_RESET_REQ_KEY.key → exec (.warmReset i v) s = .next (s.wrResetReq v)) ∧
      (Admits s i F.SYS_BOOT_CONFIRM.key → exec (.bootConfirm i v) s = .next (s.wrBootConfirm v)) ∧
      (Admits s i F.TEST_FUSE_CMD_OP.key → exec (.fuseSramRepair i v) s = .next (s.wrFuseCmd v)) ∧
      (Admits s i F.TEST_FUSE_CMD_OP.key → exec (.fuseFence i v) s = .next (s.wrFuseCmd v)) ∧
      (Admits s i F.TEST_PPR_CMD_CHANNEL.key → exec (.pprGo i v) s = .next (s.wrPpr v)) ∧
      (Admits s i F.TEST_IST_CMD_UNIT.key → exec (.istGo i v) s = .next (s.wrIst v))) ∧
    (∀ (c : Fin 8),
      (Admits s i (colourKey c.val) → exec (.colourWrite i c v) s = .next (s.wrColour c.val v))) ∧
    (∀ (u : Fin 64),
      (Admits s i (commitKey u.val) → exec (.commitReq i u v) s = .next (s.wrCommit u.val v))) ∧
    (∀ (h : Fin 48) (k : Fin 3),
      (Admits s i ((F.HEAD_HTIM_HACTIVE h.val).key + 4 * k.val) → exec (.timingWrite i h k v) s = .next (s.wrTiming h.val k.val v))) ∧
    (∀ (h : Fin 48),
      (Admits s i (F.HEAD_CFG_ENABLE h.val).key → exec (.headEnable i h v) s = .next (s.wrHeadCfg h.val v)) ∧
      (Admits s i (F.HEAD_CFG_ENABLE h.val).key → exec (.headDisable i h v) s = .next (s.wrHeadCfg h.val v)) ∧
      (Admits s i (F.HEAD_REF_SRC h.val).key → exec (.refWrite i h v) s = .next (s.wrRef h.val v))) ∧
    (∀ (sp : Fin 16),
      (Admits s i (F.SPAN_CTRL_ENABLE sp.val).key → exec (.spanEnable i sp v) s = .next (s.wrSpanCtrl sp.val v)) ∧
      (Admits s i (F.SPAN_CTRL_ENABLE sp.val).key → exec (.spanDisable i sp v) s = .next (s.wrSpanCtrl sp.val v))) ∧
    (∀ (sp : Fin 16) (k : Fin 3),
      (Admits s i ((F.SPAN_MEMBERS_LO sp.val).key + 4 * k.val) → exec (.spanMembersWrite i sp k v) s = .next (s.wrSpan sp.val k.val v))) ∧
    (∀ (c : Fin 16),
      (Admits s i (F.CORE_CTL_RUN c.val).key → exec (.coreStart i c v) s = .next (s.wrCoreCtl (s.issuer i) c.val v)) ∧
      (Admits s i (F.CORE_CTL_RUN c.val).key → exec (.coreHalt i c v) s = .next (s.wrCoreCtl (s.issuer i) c.val v)) ∧
      (Admits s i (F.CORE_WDOG_KICK c.val).key → exec (.wdogKick i c v) s = .next (s.wrKick c.val v))) ∧
    (∀ (n : Fin 4) (limit : Bool),
      (Admits s i (if limit then (F.L2_NC_LIMIT_EN n.val).key else (F.L2_NC_BASE n.val).key) → exec (.ncWindowWrite i n limit v) s = .next (s.wrNc n.val limit v))) ∧
    (∀ (n : Fin 48),
      (Admits s i (F.SEQN_CTL_RUN n.val).key → exec (.seqStart i n v) s = .next (s.wrSeqCtl n.val v)) ∧
      (Admits s i (F.SEQN_CTL_RUN n.val).key → exec (.seqHalt i n v) s = .next (s.wrSeqCtl n.val v))) ∧
    (∀ (n : Fin 48) (o : Fin 4096),
      (Admits s i (seqMemKey n.val o.val) → exec (.seqMemWrite i n o v) s = .next ((s.wrSeqMem n.val (4 * o.val) v).2))) ∧
    (∀ (w : Fin 2048) (k : Fin 16),
      (Admits s i (winKey w.val + 4 * k.val) → exec (.descriptorWrite i w k v) s = .next (s.writeDescriptor w.val k.val v))) ∧
    (∀ (k : Fin 256),
      (Admits s i (F.COPY_SRC k.val).key → exec (.copySetEnable i k v) s = .next (s.wrCopyCtl k.val v))) ∧
    (∀ (c : Fin 4096),
      (Admits s i (F.CTX_CTRL_KIND c.val).key → exec (.contextOpen i c v) s = .next (s.wrCtx c.val 0 v)) ∧
      (Admits s i (F.CTX_CTRL_KIND c.val).key → exec (.contextClose i c v) s = .next (s.wrCtx c.val 0 v))) ∧
    (∀ (c : Fin 4096) (k : Fin 32),
      (Admits s i ((F.CTX_CTRL_KIND c.val).key + 4 * k.val) → exec (.contextFieldWrite i c k v) s = .next (s.wrCtx c.val k.val v))) ∧
    (∀ (n : Fin 16),
      (Admits s i (F.SESS_CTL_ENABLE n.val).key → exec (.sessionEnable i n v) s = .next (s.wrSess n.val 0 v)) ∧
      (Admits s i (F.SESS_CTL_ENABLE n.val).key → exec (.keyReq i n v) s = .next (s.wrSess n.val 0 v))) ∧
    (∀ (n : Fin 16) (k : Fin 32),
      (Admits s i ((F.SESS_CTL_ENABLE n.val).key + 4 * k.val) → exec (.sessionFieldWrite i n k v) s = .next (s.wrSess n.val k.val v))) ∧
    (∀ (p : Fin 4),
      (Admits s i (F.PORT_CFG_EN p.val).key → exec (.portEnable i p v) s = .next (s.wrPortCfg p.val v))) ∧
    (∀ (v : Dword),
      (Admits s i F.TIME_OFS_SAMPLE → exec (.servoSample i v) s = .next ((s.dropLow F.TIME_OFS_SAMPLE).sample v.toNat))) ∧
    (∀ (n : Fin 16) (k : Fin 8),
      (Admits s i (F.TTRIG_AT n.val + 4 * k.val) → exec (.triggerCtlWrite i n k v) s = .next (s.wrTrigger n.val k.val v))) ∧
    (∀ (l : Fin 64),
      (Admits s i (F.LANE_CFG_ROLE l.val).key → exec (.laneEnable i l v) s = .next (s.wrLaneCfg l.val v)) ∧
      (Admits s i (F.LANE_CFG_ROLE l.val).key → exec (.laneDisable i l v) s = .next (s.wrLaneCfg l.val v)) ∧
      (Admits s i (F.LANE_LOOP_MODE l.val).key → exec (.loopWrite i l v) s = .next (s.wrLoop l.val v))) ∧
    (∀ (h : Fin 32),
      (Admits s i (F.DRAVIO_OUTMAP_LEAD h.val).key → exec (.outmapWrite i h v) s = .next (s.wrOutmap h.val v))) ∧
    (∀ (k : Fin 32),
      (Admits s i (F.DRAVIO_SENSEMAP_LANE k.val).key → exec (.sensemapWrite i k v) s = .next (s.wrSensemap k.val v))) ∧
    (∀ (p : Fin 34),
      (Admits s i (F.PANEL_CFG_EN p.val).key → exec (.panelEnable i p v) s = .next (s.wrPanelCfg p.val v)) ∧
      (Admits s i (F.PANEL_CFG_EN p.val).key → exec (.panelDisable i p v) s = .next (s.wrPanelCfg p.val v)) ∧
      (Admits s i (F.PANEL_CMD_TEST p.val).key → exec (.touchCmdTest i p v) s = .next (s.wrPanelCmd p.val v)) ∧
      (Admits s i (F.PANEL_CMD_TEST p.val).key → exec (.touchCmdRecover i p v) s = .next (s.wrPanelCmd p.val v))) ∧
    (∀ (p : Fin 16) (rx : Bool),
      (Admits s i (F.SIDE_CFG_EN (sideKey p rx / 2) (sideKey p rx % 2)).key → exec (.audioSideEnable i p rx v) s = .next (s.wrSideCfg (sideKey p rx) v)) ∧
      (Admits s i (F.SIDE_MASK (sideKey p rx / 2) (sideKey p rx % 2)).key → exec (.maskWrite i p rx v) s = .next (s.wrMask (sideKey p rx) v))) ∧
    (∀ (n : Fin 128),
      (Admits s i (F.PROT_BIND n.val).key → exec (.bindWrite i n v) s = .next (s.wrBind n.val v))) ∧
    (∀ (k : Fin 128),
      (Admits s i (F.RINGS_CFG_EN k.val).key → exec (.ringEnable i k v) s = .next (s.wrRingCfg k.val v)) ∧
      (Admits s i (F.RINGS_CFG_EN k.val).key → exec (.ringDisable i k v) s = .next (s.wrRingCfg k.val v)) ∧
      (Admits s i (F.RINGS_BELL_INDEX k.val).key → exec (.doorbell i k v) s = .next (s.wrBell k.val v))) ∧
    (∀ (k : Fin 7),
      (Admits s i (F.SYS_FENCE_DEC.key + 4 * k.val) → exec (.fenceWrite i k v) s = .next (s.wrFence k.val v)))

/-- For every Priad instruction of every engine: where the engine is at a boundary, whatever its fetch finds, and stays at
one once what the fetch found has been counted and logged, the instruction does on the state with that finding what it
does there after a fetch that finds nothing. (R29, R30, R169, R216, R222) -/
def Obligations.InstructionsAfterAFinding : Prop :=
  ∀ (e : Eng) (d a b : Fin 32) (i : BitVec 16) (u : BitVec 21) (far : BitVec 26) (f : MemFind) (w : Bool) (sr code : Fin 4096) (n : Fin 4)
      (word : Word) (s : State),
    let clean := match e with
      | .core c _ => Eng.core c
      | .seq n _ => Eng.seq n
    let all := fun (x : Eng) => ([
      .add x d a b, .sub x d a b, .and x d a b, .or x d a b, .xor x d a b, .shl x d a b, .shr x d a b, .sar x d a b,
      .lt x d a b, .ltu x d a b, .mins x d a b, .maxs x d a b, .minu x d a b, .maxu x d a b, .andn x d a b, .rol x d a b,
      .mul x d a b, .mulhs x d a b, .mulhu x d a b, .quos x d a b, .quou x d a b, .mods x d a b, .modu x d a b,
      .add32 x d a b, .sub32 x d a b, .shl32 x d a b, .shr32 x d a b, .sar32 x d a b, .mul32 x d a b, .sext32 x d a b,
      .bswap x d a b, .lzc x d a b, .tzc x d a b, .ones x d a b, .addk x d a i, .addk32 x d a i, .andk x d a i,
      .ork x d a i, .xork x d a i, .ltk x d a i, .ltuk x d a i, .shlk x d a i, .shrk x d a i, .sark x d a i, .rolk x d a i,
      .setu x d u, .addh x d a i, .pcrel x d u, .ldS8 x d a i f, .ldS16 x d a i f, .ldS32 x d a i f, .ld64 x d a i f,
      .ldU8 x d a i f, .ldU16 x d a i f, .ldU32 x d a i f, .st8 x d a i, .st16 x d a i, .st32 x d a i, .st64 x d a i,
      .braEq x a b i, .braNe x a b i, .braLt x a b i, .braGe x a b i, .braLtu x a b i, .braGeu x a b i, .jmp x far,
      .call x far, .callr x d a i, .atSwap x d a b w f, .atAdd x d a b w f, .atAnd x d a b w f, .atOr x d a b w f,
      .atXor x d a b w f, .atMins x d a b w f, .atMaxs x d a b w f, .atMinu x d a b w f, .atMaxu x d a b w f,
      .atCas x d a b w f, .atSadd x d a b w f, .srd x d sr, .swr x sr a, .srs x d sr a, .src x d sr a, .trap x code,
      .brk x code, .eret x, .fence x, .fenceI x, .cclean x a, .cinval x a, .cflush x a, .rulesync x, .timerestep x a,
      .rput x d a b, .rget x d a b, .rbell x d a b, .rwait x d a, .wline x d a b, .wlineI x d i, .wframe x d a b,
      .wtime x d a, .stamp x d b, .commit x d b, .place x d a b, .pick x d a, .withhold x d a, .trig x d a b,
      .tagld x d a b, .tagchk x d a, .crc x d a b n, .scan x d a b, .jtagHalt x, .illegalInstruction x word] : List Instr)
    s.boundary e = none → (s.fetched e).boundary clean = none →
      (all e).map (fun c => exec c s) = (all clean).map (fun c => exec c (s.fetched e))
end

