-- ==== Sys2Proof/Laws/Tab.lean ====
section
/-! SUPPORT. Laws of sparse tables and of memories in canonical form: reading back what was written, leaving every other
place alone, and keeping the canonical form. -/
namespace Sys2Proof.Machine

/-! ### Tables -/

@[simp] theorem tabGet?_tabSet_same {α : Type} (t : Tab α) (k : Nat) (a : α) : tabGet? (tabSet t k a) k = some a := by
  induction t with
  | nil => simp [tabSet, tabGet?]
  | cons e t ih =>
    obtain ⟨j, b⟩ := e
    unfold tabSet
    split
    · simp [tabGet?]
    · split
      · simp [tabGet?]
      · rw [tabGet?, if_neg (by omega), ih]

theorem tabGet?_tabSet_ne {α : Type} (t : Tab α) (k j : Nat) (a : α) (h : j ≠ k) : tabGet? (tabSet t k a) j = tabGet? t j := by
  induction t with
  | nil => simp [tabSet, tabGet?, Ne.symm h]
  | cons e t ih =>
    obtain ⟨i, b⟩ := e
    unfold tabSet
    split
    · rw [tabGet?, if_neg (Ne.symm h)]
    · split
      · next h1 => subst h1; rw [tabGet?, if_neg (Ne.symm h), tabGet?, if_neg (Ne.symm h)]
      · by_cases hi : i = j
        · rw [tabGet?, if_pos hi, tabGet?, if_pos hi]
        · rw [tabGet?, if_neg hi, ih, tabGet?, if_neg hi]

@[simp] theorem tabGet_tabSet_same {α : Type} (d : α) (t : Tab α) (k : Nat) (a : α) : tabGet d (tabSet t k a) k = a := by
  simp [tabGet]

theorem tabGet_tabSet_ne {α : Type} (d : α) (t : Tab α) (k j : Nat) (a : α) (h : j ≠ k) :
    tabGet d (tabSet t k a) j = tabGet d t j := by
  simp [tabGet, tabGet?_tabSet_ne t k j a h]

/-- The later of two writes of one key stands. -/
@[simp] theorem tabSet_tabSet {α : Type} (t : Tab α) (k : Nat) (a b : α) : tabSet (tabSet t k a) k b = tabSet t k b := by
  induction t with
  | nil => simp [tabSet]
  | cons e t ih =>
    obtain ⟨j, c⟩ := e
    by_cases h1 : k < j
    · simp [tabSet, h1]
    · by_cases h2 : k = j
      · simp [tabSet, h2]
      · simp [tabSet, h1, h2, ih]

/-! ### Memories -/

theorem cellsWf_tail {d : Byte} {e : Host.Cell} {m : List Host.Cell} (h : cellsWf d (e :: m) = true) : cellsWf d m = true := by
  cases m with
  | nil => rfl
  | cons f m => obtain ⟨a, v⟩ := e; obtain ⟨b, w⟩ := f; simp [cellsWf] at h; exact h.2

/-- Every address of a canonical memory lies above its first. -/
theorem cellsWf_head {d : Byte} {a : Nat} {v : Byte} {m : List Host.Cell} (h : cellsWf d ((a, v) :: m) = true) :
    v ≠ d ∧ ∀ b w, (b, w) ∈ m → a < b := by
  induction m generalizing a v with
  | nil => simp [cellsWf] at h; simp [h]
  | cons f m ih =>
    obtain ⟨b, w⟩ := f
    simp [cellsWf] at h
    obtain ⟨⟨h1, h2⟩, h3⟩ := h
    refine ⟨h1, ?_⟩
    intro b' w' hm
    rcases List.mem_cons.mp hm with he | hm
    · cases he; exact h2
    · exact Nat.lt_trans h2 ((ih h3).2 b' w' hm)

/-- A first entry below every address of a canonical memory keeps it canonical. -/
theorem cellsWf_cons {d : Byte} {a : Nat} {v : Byte} {m : List Host.Cell} (hv : v ≠ d) (hm : cellsWf d m = true)
    (ha : ∀ b w, (b, w) ∈ m → a < b) : cellsWf d ((a, v) :: m) = true := by
  cases m with
  | nil => simp [cellsWf, hv]
  | cons f m => obtain ⟨b, w⟩ := f; simp [cellsWf, hv, hm, ha b w (List.mem_cons_self ..)]

theorem mem_cellSet {d : Byte} {m : List Host.Cell} {a : Nat} {v : Byte} {b : Nat} {w : Byte} (h : (b, w) ∈ cellSet d m a v) :
    (b, w) ∈ m ∨ b = a := by
  induction m with
  | nil => unfold cellSet at h; split at h <;> simp_all
  | cons e m ih =>
    obtain ⟨c, x⟩ := e
    unfold cellSet at h
    split at h
    · split at h <;> simp at h ⊢ <;> tauto
    · split at h
      · split at h <;> simp at h ⊢ <;> tauto
      · simp at h ⊢
        rcases h with h | h
        · tauto
        · rcases ih h with h | h <;> tauto

/-- A write of one byte keeps the canonical form. -/
theorem cellsWf_cellSet {d : Byte} {m : List Host.Cell} (a : Nat) (v : Byte) (h : cellsWf d m = true) :
    cellsWf d (cellSet d m a v) = true := by
  induction m with
  | nil => unfold cellSet; split <;> simp_all [cellsWf]
  | cons e m ih =>
    obtain ⟨b, w⟩ := e
    have ht := cellsWf_tail h
    obtain ⟨hw, hb⟩ := cellsWf_head h
    unfold cellSet
    split
    · next hab =>
      split
      · exact h
      · next hv => exact cellsWf_cons hv h (by
          intro c x hc
          rcases List.mem_cons.mp hc with he | hc
          · cases he; exact hab
          · exact Nat.lt_trans hab (hb c x hc))
    · next hab =>
      split
      · next he =>
        split
        · exact ht
        · next hv => exact cellsWf_cons hv ht (by intro c x hc; rw [he]; exact hb c x hc)
      · next hne => exact cellsWf_cons hw (ih ht) (by
          intro c x hc
          rcases mem_cellSet hc with hc | hc
          · exact hb c x hc
          · omega)

/-- A write of several bytes keeps the canonical form. -/
theorem cellsWf_cellWrite {d : Byte} {m : List Host.Cell} (a : Nat) (bs : List Byte) (h : cellsWf d m = true) :
    cellsWf d (cellWrite d m a bs) = true := by
  induction bs generalizing m a with
  | nil => exact h
  | cons b bs ih => exact ih (a + 1) (cellsWf_cellSet a b h)

/-- Leaving entries out keeps the canonical form. -/
theorem cellsWf_filter {d : Byte} {m : List Host.Cell} (p : Host.Cell → Bool) (h : cellsWf d m = true) :
    cellsWf d (m.filter p) = true := by
  induction m with
  | nil => exact h
  | cons e m ih =>
    obtain ⟨a, v⟩ := e
    obtain ⟨hv, hb⟩ := cellsWf_head h
    by_cases hp : p (a, v)
    · rw [List.filter_cons_of_pos hp]
      exact cellsWf_cons hv (ih (cellsWf_tail h)) (fun b w hm => hb b w (List.mem_filter.mp hm).1)
    · rw [List.filter_cons_of_neg hp]
      exact ih (cellsWf_tail h)

/-- Single writes one after another keep the canonical form. -/
theorem cellsWf_foldl {α : Type} {d : Byte} (l : List α) (f : α → Nat × Byte) {m : List Host.Cell} (h : cellsWf d m = true) :
    cellsWf d (l.foldl (fun m e => cellSet d m (f e).1 (f e).2) m) = true := by
  induction l generalizing m with
  | nil => exact h
  | cons e l ih => exact ih (cellsWf_cellSet _ _ h)

theorem cellGet_of_lt {d : Byte} {m : List Host.Cell} {a : Nat} (h : ∀ b w, (b, w) ∈ m → a < b) : cellGet d m a = d := by
  induction m with
  | nil => rfl
  | cons e m ih =>
    obtain ⟨b, w⟩ := e
    have := h b w (List.mem_cons_self ..)
    rw [cellGet, if_neg (by omega)]
    exact ih (fun c x hc => h c x (List.mem_cons_of_mem _ hc))

/-- Reading back the byte just written (R163). -/
theorem cellGet_cellSet_same {d : Byte} {m : List Host.Cell} (a : Nat) (v : Byte) (h : cellsWf d m = true) :
    cellGet d (cellSet d m a v) a = v := by
  induction m with
  | nil => unfold cellSet; split <;> simp_all [cellGet]
  | cons e m ih =>
    obtain ⟨b, w⟩ := e
    obtain ⟨_, hb⟩ := cellsWf_head h
    unfold cellSet
    split
    · next hab =>
      split
      · next hv =>
        rw [cellGet, if_neg (by omega), hv]
        exact cellGet_of_lt (fun c x hc => Nat.lt_trans hab (hb c x hc))
      · simp [cellGet]
    · split
      · next he =>
        split
        · next hv => rw [hv]; exact cellGet_of_lt (fun c x hc => by rw [he]; exact hb c x hc)
        · simp [cellGet]
      · next hne => rw [cellGet, if_neg (Ne.symm hne)]; exact ih (cellsWf_tail h)

/-- A write of one byte leaves every other byte alone. -/
theorem cellGet_cellSet_ne (d : Byte) (m : List Host.Cell) (a b : Nat) (v : Byte) (h : b ≠ a) :
    cellGet d (cellSet d m a v) b = cellGet d m b := by
  induction m with
  | nil => unfold cellSet; split <;> simp [cellGet, Ne.symm h]
  | cons e m ih =>
    obtain ⟨c, w⟩ := e
    unfold cellSet
    split
    · split
      · rfl
      · rw [cellGet, if_neg (Ne.symm h)]
    · split
      · next he =>
        subst he
        split
        · rw [cellGet, if_neg (Ne.symm h)]
        · rw [cellGet, if_neg (Ne.symm h), cellGet, if_neg (Ne.symm h)]
      · by_cases hc : c = b
        · rw [cellGet, if_pos hc, cellGet, if_pos hc]
        · rw [cellGet, if_neg hc, ih, cellGet, if_neg hc]

/-- A write of several bytes leaves every byte outside them alone. -/
theorem cellGet_cellWrite_outside (d : Byte) (m : List Host.Cell) (a b : Nat) (bs : List Byte)
    (h : b < a ∨ a + bs.length ≤ b) : cellGet d (cellWrite d m a bs) b = cellGet d m b := by
  induction bs generalizing m a with
  | nil => rfl
  | cons x bs ih =>
    simp only [List.length_cons] at h
    rw [cellWrite, ih _ (a + 1) (by omega), cellGet_cellSet_ne d m a b x (by omega)]

/-- Reading back one of several bytes written. -/
theorem cellGet_cellWrite_inside {d : Byte} {m : List Host.Cell} (a i : Nat) (bs : List Byte) (h : cellsWf d m = true)
    (hi : i < bs.length) : cellGet d (cellWrite d m a bs) (a + i) = bs.getD i 0 := by
  induction bs generalizing m a i with
  | nil => simp at hi
  | cons x bs ih =>
    cases i with
    | zero =>
      rw [cellWrite, cellGet_cellWrite_outside d _ (a + 1) (a + 0) bs (by omega), Nat.add_zero, cellGet_cellSet_same a x h]
      simp
    | succ i =>
      have := ih (a + 1) i (cellsWf_cellSet a x h) (by simpa using hi)
      rw [cellWrite, show a + (i + 1) = a + 1 + i by omega, this]
      simp

end Sys2Proof.Machine
end

