-- ==== Sys2Proof/Laws/State.lean ====
section
/-! SUPPORT. What an update of the state changes and what it leaves alone: registers, fields, engines. -/
namespace Sys2Proof.Machine

/-! ### Fields of a word -/

theorem bits_lt (n lo w : Nat) : bits n lo w < 2 ^ w := Nat.mod_lt _ (Nat.two_pow_pos w)

/-- A number in three parts: above, in and below a field. -/
theorem bits_split (n lo w : Nat) : n = n / 2 ^ (lo + w) * 2 ^ (lo + w) + bits n lo w * 2 ^ lo + n % 2 ^ lo := by
  unfold bits
  have h1 := Nat.div_add_mod n (2 ^ lo)
  have h2 := Nat.div_add_mod (n / 2 ^ lo) (2 ^ w)
  rw [Nat.div_div_eq_div_mul, ← Nat.pow_add] at h2
  have h3 : n / 2 ^ lo * 2 ^ lo = n / 2 ^ (lo + w) * 2 ^ (lo + w) + n / 2 ^ lo % 2 ^ w * 2 ^ lo := by
    conv_lhs => rw [← h2]
    rw [Nat.add_mul, Nat.pow_add]
    ring
  have h4 : 2 ^ lo * (n / 2 ^ lo) = n / 2 ^ lo * 2 ^ lo := Nat.mul_comm _ _
  omega

/-- The number of a word with a field made `v`. -/
theorem Fld.ins_toNat (f : Fld) (r : Word) (v : Nat) (h : f.lo + f.w ≤ 32) :
    (f.ins r v).toNat = r.toNat / 2 ^ (f.lo + f.w) * 2 ^ (f.lo + f.w) + v % 2 ^ f.w * 2 ^ f.lo + r.toNat % 2 ^ f.lo := by
  unfold Fld.ins
  rw [BitVec.toNat_ofNat, Nat.mod_eq_of_lt]
  · have := bits_split r.toNat f.lo f.w
    omega
  · have hs := bits_split r.toNat f.lo f.w
    have hr := r.isLt
    have hv : v % 2 ^ f.w < 2 ^ f.w := Nat.mod_lt _ (Nat.two_pow_pos _)
    have hm : r.toNat % 2 ^ f.lo < 2 ^ f.lo := Nat.mod_lt _ (Nat.two_pow_pos _)
    have hd : r.toNat / 2 ^ (f.lo + f.w) < 2 ^ (32 - (f.lo + f.w)) := by
      apply Nat.div_lt_of_lt_mul
      rw [← Nat.pow_add, show f.lo + f.w + (32 - (f.lo + f.w)) = 32 by omega]
      exact hr
    have h1 : (r.toNat / 2 ^ (f.lo + f.w) + 1) * 2 ^ (f.lo + f.w) ≤ 2 ^ 32 := by
      calc (r.toNat / 2 ^ (f.lo + f.w) + 1) * 2 ^ (f.lo + f.w) ≤ 2 ^ (32 - (f.lo + f.w)) * 2 ^ (f.lo + f.w) :=
            Nat.mul_le_mul_right _ hd
        _ = 2 ^ 32 := by rw [← Nat.pow_add]; congr 1; omega
    have h2 : (v % 2 ^ f.w + 1) * 2 ^ f.lo ≤ 2 ^ (f.lo + f.w) := by
      calc (v % 2 ^ f.w + 1) * 2 ^ f.lo ≤ 2 ^ f.w * 2 ^ f.lo := Nat.mul_le_mul_right _ hv
        _ = 2 ^ (f.lo + f.w) := by rw [Nat.pow_add]; ring
    rw [Nat.add_mul] at h1 h2
    omega

/-- A field reads what it was made, modulo its width. -/
theorem Fld.of_ins (f : Fld) (r : Word) (v : Nat) (h : f.lo + f.w ≤ 32) : f.of (f.ins r v) = v % 2 ^ f.w := by
  unfold Fld.of
  rw [f.ins_toNat r v h]
  unfold bits
  have hv : v % 2 ^ f.w < 2 ^ f.w := Nat.mod_lt _ (Nat.two_pow_pos _)
  have e : r.toNat / 2 ^ (f.lo + f.w) * 2 ^ (f.lo + f.w) + v % 2 ^ f.w * 2 ^ f.lo + r.toNat % 2 ^ f.lo =
      r.toNat % 2 ^ f.lo + (r.toNat / 2 ^ (f.lo + f.w) * 2 ^ f.w + v % 2 ^ f.w) * 2 ^ f.lo := by
    rw [Nat.pow_add]; ring
  rw [e, Nat.add_mul_div_right _ _ (Nat.two_pow_pos _), Nat.div_eq_of_lt (Nat.mod_lt _ (Nat.two_pow_pos _)), Nat.zero_add,
    Nat.mul_add_mod_of_lt' hv]
where
  Nat.mul_add_mod_of_lt' {a b c : Nat} (h : c < b) : (a * b + c) % b = c := by
    rw [Nat.add_comm, Nat.add_mul_mod_self_right, Nat.mod_eq_of_lt h]

/-- A field keeps its value when a field above it or below it is made `v`. -/
theorem Fld.of_ins_disj (f g : Fld) (r : Word) (v : Nat) (h : f.lo + f.w ≤ 32)
    (hd : f.lo + f.w ≤ g.lo ∨ g.lo + g.w ≤ f.lo) : g.of (f.ins r v) = g.of r := by
  unfold Fld.of
  rw [f.ins_toNat r v h]
  conv_rhs => rw [bits_split r.toNat f.lo f.w]
  unfold bits
  have key : ∀ x : Nat, x < 2 ^ f.w → (r.toNat / 2 ^ (f.lo + f.w) * 2 ^ (f.lo + f.w) + x * 2 ^ f.lo + r.toNat % 2 ^ f.lo) / 2 ^ g.lo % 2 ^ g.w =
      (if f.lo + f.w ≤ g.lo then r.toNat / 2 ^ (f.lo + f.w) / 2 ^ (g.lo - (f.lo + f.w)) % 2 ^ g.w
       else r.toNat % 2 ^ f.lo / 2 ^ g.lo % 2 ^ g.w) := by
    intro x hx
    have hm : r.toNat % 2 ^ f.lo < 2 ^ f.lo := Nat.mod_lt _ (Nat.two_pow_pos _)
    have hlow : x * 2 ^ f.lo + r.toNat % 2 ^ f.lo < 2 ^ (f.lo + f.w) := by
      have : (x + 1) * 2 ^ f.lo ≤ 2 ^ (f.lo + f.w) := by
        calc (x + 1) * 2 ^ f.lo ≤ 2 ^ f.w * 2 ^ f.lo := Nat.mul_le_mul_right _ hx
          _ = 2 ^ (f.lo + f.w) := by rw [Nat.pow_add]; ring
      rw [Nat.add_mul] at this
      omega
    split
    · next hg =>
      have e : 2 ^ g.lo = 2 ^ (f.lo + f.w) * 2 ^ (g.lo - (f.lo + f.w)) := by rw [← Nat.pow_add]; congr 1; omega
      rw [e, ← Nat.div_div_eq_div_mul, Nat.add_assoc, Nat.add_comm, Nat.add_mul_div_right _ _ (Nat.two_pow_pos _),
        Nat.div_eq_of_lt hlow, Nat.zero_add]
    · next hg =>
      have hg : g.lo + g.w ≤ f.lo := by omega
      have e1 : 2 ^ f.lo = 2 ^ (f.lo - g.lo) * 2 ^ g.lo := by rw [← Nat.pow_add]; congr 1; omega
      have e2 : 2 ^ (f.lo - g.lo) = 2 ^ (f.lo - g.lo - g.w) * 2 ^ g.w := by rw [← Nat.pow_add]; congr 1; omega
      have : r.toNat / 2 ^ (f.lo + f.w) * 2 ^ (f.lo + f.w) + x * 2 ^ f.lo + r.toNat % 2 ^ f.lo =
          r.toNat % 2 ^ f.lo + ((r.toNat / 2 ^ (f.lo + f.w) * 2 ^ f.w + x) * 2 ^ (f.lo - g.lo)) * 2 ^ g.lo := by
        rw [Nat.pow_add, Nat.mul_assoc (_ + x), ← e1]; ring
      rw [this, Nat.add_mul_div_right _ _ (Nat.two_pow_pos _), e2]
      rw [← Nat.mul_assoc, Nat.add_mul_mod_self_right]
  rw [key _ (Nat.mod_lt _ (Nat.two_pow_pos _)), key _ (Nat.mod_lt _ (Nat.two_pow_pos _))]

/-! ### Registers -/

@[simp] theorem State.reg_setReg_same (s : State) (k : Nat) (w : Word) : (s.setReg k w).reg k = w := by
  simp [State.reg, State.setReg]

/-- A register outside the contexts' own bytes keeps its value when another is written. -/
theorem State.reg_setReg_ne (s : State) (k j : Nat) (w : Word) (h : j ≠ k) (hj : isCtxOwn j = false) :
    (s.setReg k w).reg j = s.reg j := by
  simp [State.reg, State.setReg, tabGet?_tabSet_ne _ _ _ _ h, ctxLayout, hj]

theorem State.get_put_same (s : State) (f : Fld) (v : Nat) (h : f.lo + f.w ≤ 32) : (s.put f v).get f = v % 2 ^ f.w := by
  simp [State.get, State.put, f.of_ins _ _ h]

theorem State.get_put_ne (s : State) (f g : Fld) (v : Nat) (h : g.key ≠ f.key) (hg : isCtxOwn g.key = false) :
    (s.put f v).get g = s.get g := by
  simp [State.get, State.put, State.reg_setReg_ne _ _ _ _ h hg]

theorem State.get_put_disj (s : State) (f g : Fld) (v : Nat) (h : f.lo + f.w ≤ 32) (hk : g.key = f.key)
    (hd : f.lo + f.w ≤ g.lo ∨ g.lo + g.w ≤ f.lo) : (s.put f v).get g = s.get g := by
  simp [State.get, State.put, hk, f.of_ins_disj g _ _ h hd]

/-! ### One update, every other part of the state -/

@[simp] theorem State.setReg_pending (s : State) (k : Nat) (w : Word) : (s.setReg k w).pending = s.pending := rfl
@[simp] theorem State.setReg_mem (s : State) (k : Nat) (w : Word) : (s.setReg k w).mem = s.mem := rfl
@[simp] theorem State.setReg_poison (s : State) (k : Nat) (w : Word) : (s.setReg k w).poison = s.poison := rfl
@[simp] theorem State.setReg_dirty (s : State) (k : Nat) (w : Word) : (s.setReg k w).dirty = s.dirty := rfl
@[simp] theorem State.setReg_bus (s : State) (k : Nat) (w : Word) : (s.setReg k w).bus = s.bus := rfl
@[simp] theorem State.setReg_log (s : State) (k : Nat) (w : Word) : (s.setReg k w).log = s.log := rfl
@[simp] theorem State.setReg_time (s : State) (k : Nat) (w : Word) : (s.setReg k w).time = s.time := rfl
@[simp] theorem State.setReg_rose (s : State) (k : Nat) (w : Word) : (s.setReg k w).rose = s.rose := rfl
@[simp] theorem State.setReg_chk (s : State) (k : Nat) (w : Word) : (s.setReg k w).chk = s.chk := rfl
@[simp] theorem State.setReg_eng (s : State) (k : Nat) (w : Word) : (s.setReg k w).eng = s.eng := rfl
@[simp] theorem State.setReg_tbs (s : State) (k : Nat) (w : Word) : (s.setReg k w).tbs = s.tbs := rfl
@[simp] theorem State.setReg_glin (s : State) (k : Nat) (w : Word) : (s.setReg k w).glin = s.glin := rfl
@[simp] theorem State.setReg_units (s : State) (k : Nat) (w : Word) : (s.setReg k w).units = s.units := rfl
@[simp] theorem State.setReg_heads (s : State) (k : Nat) (w : Word) : (s.setReg k w).heads = s.heads := rfl
@[simp] theorem State.setReg_wins (s : State) (k : Nat) (w : Word) : (s.setReg k w).wins = s.wins := rfl
@[simp] theorem State.setReg_vigil (s : State) (k : Nat) (w : Word) : (s.setReg k w).vigil = s.vigil := rfl
@[simp] theorem State.setReg_scaler (s : State) (k : Nat) (w : Word) : (s.setReg k w).scaler = s.scaler := rfl
@[simp] theorem State.setReg_fuses (s : State) (k : Nat) (w : Word) : (s.setReg k w).fuses = s.fuses := rfl
@[simp] theorem State.setReg_flash (s : State) (k : Nat) (w : Word) : (s.setReg k w).flash = s.flash := rfl
@[simp] theorem State.setReg_power (s : State) (k : Nat) (w : Word) : (s.setReg k w).power = s.power := rfl
@[simp] theorem State.setReg_sensors (s : State) (k : Nat) (w : Word) : (s.setReg k w).sensors = s.sensors := rfl
@[simp] theorem State.setReg_ledger (s : State) (k : Nat) (w : Word) : (s.setReg k w).ledger = s.ledger := rfl
@[simp] theorem State.setReg_test (s : State) (k : Nat) (w : Word) : (s.setReg k w).test = s.test := rfl
@[simp] theorem State.setReg_ctxs (s : State) (k : Nat) (w : Word) : (s.setReg k w).ctxs = s.ctxs := rfl
@[simp] theorem State.setReg_pipes (s : State) (k : Nat) (w : Word) : (s.setReg k w).pipes = s.pipes := rfl
@[simp] theorem State.setReg_intake (s : State) (k : Nat) (w : Word) : (s.setReg k w).intake = s.intake := rfl
@[simp] theorem State.setReg_sess (s : State) (k : Nat) (w : Word) : (s.setReg k w).sess = s.sess := rfl
@[simp] theorem State.setReg_encAt (s : State) (k : Nat) (w : Word) : (s.setReg k w).encAt = s.encAt := rfl
@[simp] theorem State.setReg_net (s : State) (k : Nat) (w : Word) : (s.setReg k w).net = s.net := rfl
@[simp] theorem State.setReg_servo (s : State) (k : Nat) (w : Word) : (s.setReg k w).servo = s.servo := rfl
@[simp] theorem State.setReg_sides (s : State) (k : Nat) (w : Word) : (s.setReg k w).sides = s.sides := rfl
@[simp] theorem State.setReg_lanes (s : State) (k : Nat) (w : Word) : (s.setReg k w).lanes = s.lanes := rfl
@[simp] theorem State.setReg_panels (s : State) (k : Nat) (w : Word) : (s.setReg k w).panels = s.panels := rfl
@[simp] theorem State.setReg_seqMem (s : State) (k : Nat) (w : Word) : (s.setReg k w).seqMem = s.seqMem := rfl
@[simp] theorem State.setReg_seqBad (s : State) (k : Nat) (w : Word) : (s.setReg k w).seqBad = s.seqBad := rfl
@[simp] theorem State.setReg_trigOut (s : State) (k : Nat) (w : Word) : (s.setReg k w).trigOut = s.trigOut := rfl
@[simp] theorem State.setReg_free (s : State) (k : Nat) (w : Word) : (s.setReg k w).free = s.free := rfl
@[simp] theorem State.setReg_engine (s : State) (k : Nat) (w : Word) (j : Nat) : (s.setReg k w).engine j = s.engine j := rfl

@[simp] theorem State.put_pending (s : State) (f : Fld) (v : Nat) : (s.put f v).pending = s.pending := rfl
@[simp] theorem State.put_mem (s : State) (f : Fld) (v : Nat) : (s.put f v).mem = s.mem := rfl
@[simp] theorem State.put_poison (s : State) (f : Fld) (v : Nat) : (s.put f v).poison = s.poison := rfl
@[simp] theorem State.put_dirty (s : State) (f : Fld) (v : Nat) : (s.put f v).dirty = s.dirty := rfl
@[simp] theorem State.put_bus (s : State) (f : Fld) (v : Nat) : (s.put f v).bus = s.bus := rfl
@[simp] theorem State.put_log (s : State) (f : Fld) (v : Nat) : (s.put f v).log = s.log := rfl
@[simp] theorem State.put_time (s : State) (f : Fld) (v : Nat) : (s.put f v).time = s.time := rfl
@[simp] theorem State.put_rose (s : State) (f : Fld) (v : Nat) : (s.put f v).rose = s.rose := rfl
@[simp] theorem State.put_chk (s : State) (f : Fld) (v : Nat) : (s.put f v).chk = s.chk := rfl
@[simp] theorem State.put_eng (s : State) (f : Fld) (v : Nat) : (s.put f v).eng = s.eng := rfl
@[simp] theorem State.put_tbs (s : State) (f : Fld) (v : Nat) : (s.put f v).tbs = s.tbs := rfl
@[simp] theorem State.put_glin (s : State) (f : Fld) (v : Nat) : (s.put f v).glin = s.glin := rfl
@[simp] theorem State.put_units (s : State) (f : Fld) (v : Nat) : (s.put f v).units = s.units := rfl
@[simp] theorem State.put_heads (s : State) (f : Fld) (v : Nat) : (s.put f v).heads = s.heads := rfl
@[simp] theorem State.put_wins (s : State) (f : Fld) (v : Nat) : (s.put f v).wins = s.wins := rfl
@[simp] theorem State.put_vigil (s : State) (f : Fld) (v : Nat) : (s.put f v).vigil = s.vigil := rfl
@[simp] theorem State.put_scaler (s : State) (f : Fld) (v : Nat) : (s.put f v).scaler = s.scaler := rfl
@[simp] theorem State.put_fuses (s : State) (f : Fld) (v : Nat) : (s.put f v).fuses = s.fuses := rfl
@[simp] theorem State.put_flash (s : State) (f : Fld) (v : Nat) : (s.put f v).flash = s.flash := rfl
@[simp] theorem State.put_power (s : State) (f : Fld) (v : Nat) : (s.put f v).power = s.power := rfl
@[simp] theorem State.put_sensors (s : State) (f : Fld) (v : Nat) : (s.put f v).sensors = s.sensors := rfl
@[simp] theorem State.put_ledger (s : State) (f : Fld) (v : Nat) : (s.put f v).ledger = s.ledger := rfl
@[simp] theorem State.put_test (s : State) (f : Fld) (v : Nat) : (s.put f v).test = s.test := rfl
@[simp] theorem State.put_ctxs (s : State) (f : Fld) (v : Nat) : (s.put f v).ctxs = s.ctxs := rfl
@[simp] theorem State.put_pipes (s : State) (f : Fld) (v : Nat) : (s.put f v).pipes = s.pipes := rfl
@[simp] theorem State.put_intake (s : State) (f : Fld) (v : Nat) : (s.put f v).intake = s.intake := rfl
@[simp] theorem State.put_sess (s : State) (f : Fld) (v : Nat) : (s.put f v).sess = s.sess := rfl
@[simp] theorem State.put_encAt (s : State) (f : Fld) (v : Nat) : (s.put f v).encAt = s.encAt := rfl
@[simp] theorem State.put_net (s : State) (f : Fld) (v : Nat) : (s.put f v).net = s.net := rfl
@[simp] theorem State.put_servo (s : State) (f : Fld) (v : Nat) : (s.put f v).servo = s.servo := rfl
@[simp] theorem State.put_sides (s : State) (f : Fld) (v : Nat) : (s.put f v).sides = s.sides := rfl
@[simp] theorem State.put_lanes (s : State) (f : Fld) (v : Nat) : (s.put f v).lanes = s.lanes := rfl
@[simp] theorem State.put_panels (s : State) (f : Fld) (v : Nat) : (s.put f v).panels = s.panels := rfl
@[simp] theorem State.put_seqMem (s : State) (f : Fld) (v : Nat) : (s.put f v).seqMem = s.seqMem := rfl
@[simp] theorem State.put_seqBad (s : State) (f : Fld) (v : Nat) : (s.put f v).seqBad = s.seqBad := rfl
@[simp] theorem State.put_trigOut (s : State) (f : Fld) (v : Nat) : (s.put f v).trigOut = s.trigOut := rfl
@[simp] theorem State.put_free (s : State) (f : Fld) (v : Nat) : (s.put f v).free = s.free := rfl
@[simp] theorem State.put_engine (s : State) (f : Fld) (v : Nat) (j : Nat) : (s.put f v).engine j = s.engine j := rfl

@[simp] theorem State.putB_pending (s : State) (f : Fld) (b : Bool) : (s.putB f b).pending = s.pending := rfl
@[simp] theorem State.putB_mem (s : State) (f : Fld) (b : Bool) : (s.putB f b).mem = s.mem := rfl
@[simp] theorem State.putB_poison (s : State) (f : Fld) (b : Bool) : (s.putB f b).poison = s.poison := rfl
@[simp] theorem State.putB_dirty (s : State) (f : Fld) (b : Bool) : (s.putB f b).dirty = s.dirty := rfl
@[simp] theorem State.putB_bus (s : State) (f : Fld) (b : Bool) : (s.putB f b).bus = s.bus := rfl
@[simp] theorem State.putB_log (s : State) (f : Fld) (b : Bool) : (s.putB f b).log = s.log := rfl
@[simp] theorem State.putB_time (s : State) (f : Fld) (b : Bool) : (s.putB f b).time = s.time := rfl
@[simp] theorem State.putB_rose (s : State) (f : Fld) (b : Bool) : (s.putB f b).rose = s.rose := rfl
@[simp] theorem State.putB_chk (s : State) (f : Fld) (b : Bool) : (s.putB f b).chk = s.chk := rfl
@[simp] theorem State.putB_eng (s : State) (f : Fld) (b : Bool) : (s.putB f b).eng = s.eng := rfl
@[simp] theorem State.putB_tbs (s : State) (f : Fld) (b : Bool) : (s.putB f b).tbs = s.tbs := rfl
@[simp] theorem State.putB_glin (s : State) (f : Fld) (b : Bool) : (s.putB f b).glin = s.glin := rfl
@[simp] theorem State.putB_units (s : State) (f : Fld) (b : Bool) : (s.putB f b).units = s.units := rfl
@[simp] theorem State.putB_heads (s : State) (f : Fld) (b : Bool) : (s.putB f b).heads = s.heads := rfl
@[simp] theorem State.putB_wins (s : State) (f : Fld) (b : Bool) : (s.putB f b).wins = s.wins := rfl
@[simp] theorem State.putB_vigil (s : State) (f : Fld) (b : Bool) : (s.putB f b).vigil = s.vigil := rfl
@[simp] theorem State.putB_scaler (s : State) (f : Fld) (b : Bool) : (s.putB f b).scaler = s.scaler := rfl
@[simp] theorem State.putB_fuses (s : State) (f : Fld) (b : Bool) : (s.putB f b).fuses = s.fuses := rfl
@[simp] theorem State.putB_flash (s : State) (f : Fld) (b : Bool) : (s.putB f b).flash = s.flash := rfl
@[simp] theorem State.putB_power (s : State) (f : Fld) (b : Bool) : (s.putB f b).power = s.power := rfl
@[simp] theorem State.putB_sensors (s : State) (f : Fld) (b : Bool) : (s.putB f b).sensors = s.sensors := rfl
@[simp] theorem State.putB_ledger (s : State) (f : Fld) (b : Bool) : (s.putB f b).ledger = s.ledger := rfl
@[simp] theorem State.putB_test (s : State) (f : Fld) (b : Bool) : (s.putB f b).test = s.test := rfl
@[simp] theorem State.putB_ctxs (s : State) (f : Fld) (b : Bool) : (s.putB f b).ctxs = s.ctxs := rfl
@[simp] theorem State.putB_pipes (s : State) (f : Fld) (b : Bool) : (s.putB f b).pipes = s.pipes := rfl
@[simp] theorem State.putB_intake (s : State) (f : Fld) (b : Bool) : (s.putB f b).intake = s.intake := rfl
@[simp] theorem State.putB_sess (s : State) (f : Fld) (b : Bool) : (s.putB f b).sess = s.sess := rfl
@[simp] theorem State.putB_encAt (s : State) (f : Fld) (b : Bool) : (s.putB f b).encAt = s.encAt := rfl
@[simp] theorem State.putB_net (s : State) (f : Fld) (b : Bool) : (s.putB f b).net = s.net := rfl
@[simp] theorem State.putB_servo (s : State) (f : Fld) (b : Bool) : (s.putB f b).servo = s.servo := rfl
@[simp] theorem State.putB_sides (s : State) (f : Fld) (b : Bool) : (s.putB f b).sides = s.sides := rfl
@[simp] theorem State.putB_lanes (s : State) (f : Fld) (b : Bool) : (s.putB f b).lanes = s.lanes := rfl
@[simp] theorem State.putB_panels (s : State) (f : Fld) (b : Bool) : (s.putB f b).panels = s.panels := rfl
@[simp] theorem State.putB_seqMem (s : State) (f : Fld) (b : Bool) : (s.putB f b).seqMem = s.seqMem := rfl
@[simp] theorem State.putB_seqBad (s : State) (f : Fld) (b : Bool) : (s.putB f b).seqBad = s.seqBad := rfl
@[simp] theorem State.putB_trigOut (s : State) (f : Fld) (b : Bool) : (s.putB f b).trigOut = s.trigOut := rfl
@[simp] theorem State.putB_free (s : State) (f : Fld) (b : Bool) : (s.putB f b).free = s.free := rfl
@[simp] theorem State.putB_engine (s : State) (f : Fld) (b : Bool) (j : Nat) : (s.putB f b).engine j = s.engine j := rfl

@[simp] theorem State.putBit_pending (s : State) (f : Fld) (i : Nat) (b : Bool) : (s.putBit f i b).pending = s.pending := rfl
@[simp] theorem State.putBit_mem (s : State) (f : Fld) (i : Nat) (b : Bool) : (s.putBit f i b).mem = s.mem := rfl
@[simp] theorem State.putBit_poison (s : State) (f : Fld) (i : Nat) (b : Bool) : (s.putBit f i b).poison = s.poison := rfl
@[simp] theorem State.putBit_dirty (s : State) (f : Fld) (i : Nat) (b : Bool) : (s.putBit f i b).dirty = s.dirty := rfl
@[simp] theorem State.putBit_bus (s : State) (f : Fld) (i : Nat) (b : Bool) : (s.putBit f i b).bus = s.bus := rfl
@[simp] theorem State.putBit_log (s : State) (f : Fld) (i : Nat) (b : Bool) : (s.putBit f i b).log = s.log := rfl
@[simp] theorem State.putBit_time (s : State) (f : Fld) (i : Nat) (b : Bool) : (s.putBit f i b).time = s.time := rfl
@[simp] theorem State.putBit_rose (s : State) (f : Fld) (i : Nat) (b : Bool) : (s.putBit f i b).rose = s.rose := rfl
@[simp] theorem State.putBit_chk (s : State) (f : Fld) (i : Nat) (b : Bool) : (s.putBit f i b).chk = s.chk := rfl
@[simp] theorem State.putBit_eng (s : State) (f : Fld) (i : Nat) (b : Bool) : (s.putBit f i b).eng = s.eng := rfl
@[simp] theorem State.putBit_tbs (s : State) (f : Fld) (i : Nat) (b : Bool) : (s.putBit f i b).tbs = s.tbs := rfl
@[simp] theorem State.putBit_glin (s : State) (f : Fld) (i : Nat) (b : Bool) : (s.putBit f i b).glin = s.glin := rfl
@[simp] theorem State.putBit_units (s : State) (f : Fld) (i : Nat) (b : Bool) : (s.putBit f i b).units = s.units := rfl
@[simp] theorem State.putBit_heads (s : State) (f : Fld) (i : Nat) (b : Bool) : (s.putBit f i b).heads = s.heads := rfl
@[simp] theorem State.putBit_wins (s : State) (f : Fld) (i : Nat) (b : Bool) : (s.putBit f i b).wins = s.wins := rfl
@[simp] theorem State.putBit_vigil (s : State) (f : Fld) (i : Nat) (b : Bool) : (s.putBit f i b).vigil = s.vigil := rfl
@[simp] theorem State.putBit_scaler (s : State) (f : Fld) (i : Nat) (b : Bool) : (s.putBit f i b).scaler = s.scaler := rfl
@[simp] theorem State.putBit_fuses (s : State) (f : Fld) (i : Nat) (b : Bool) : (s.putBit f i b).fuses = s.fuses := rfl
@[simp] theorem State.putBit_flash (s : State) (f : Fld) (i : Nat) (b : Bool) : (s.putBit f i b).flash = s.flash := rfl
@[simp] theorem State.putBit_power (s : State) (f : Fld) (i : Nat) (b : Bool) : (s.putBit f i b).power = s.power := rfl
@[simp] theorem State.putBit_sensors (s : State) (f : Fld) (i : Nat) (b : Bool) : (s.putBit f i b).sensors = s.sensors := rfl
@[simp] theorem State.putBit_ledger (s : State) (f : Fld) (i : Nat) (b : Bool) : (s.putBit f i b).ledger = s.ledger := rfl
@[simp] theorem State.putBit_test (s : State) (f : Fld) (i : Nat) (b : Bool) : (s.putBit f i b).test = s.test := rfl
@[simp] theorem State.putBit_ctxs (s : State) (f : Fld) (i : Nat) (b : Bool) : (s.putBit f i b).ctxs = s.ctxs := rfl
@[simp] theorem State.putBit_pipes (s : State) (f : Fld) (i : Nat) (b : Bool) : (s.putBit f i b).pipes = s.pipes := rfl
@[simp] theorem State.putBit_intake (s : State) (f : Fld) (i : Nat) (b : Bool) : (s.putBit f i b).intake = s.intake := rfl
@[simp] theorem State.putBit_sess (s : State) (f : Fld) (i : Nat) (b : Bool) : (s.putBit f i b).sess = s.sess := rfl
@[simp] theorem State.putBit_encAt (s : State) (f : Fld) (i : Nat) (b : Bool) : (s.putBit f i b).encAt = s.encAt := rfl
@[simp] theorem State.putBit_net (s : State) (f : Fld) (i : Nat) (b : Bool) : (s.putBit f i b).net = s.net := rfl
@[simp] theorem State.putBit_servo (s : State) (f : Fld) (i : Nat) (b : Bool) : (s.putBit f i b).servo = s.servo := rfl
@[simp] theorem State.putBit_sides (s : State) (f : Fld) (i : Nat) (b : Bool) : (s.putBit f i b).sides = s.sides := rfl
@[simp] theorem State.putBit_lanes (s : State) (f : Fld) (i : Nat) (b : Bool) : (s.putBit f i b).lanes = s.lanes := rfl
@[simp] theorem State.putBit_panels (s : State) (f : Fld) (i : Nat) (b : Bool) : (s.putBit f i b).panels = s.panels := rfl
@[simp] theorem State.putBit_seqMem (s : State) (f : Fld) (i : Nat) (b : Bool) : (s.putBit f i b).seqMem = s.seqMem := rfl
@[simp] theorem State.putBit_seqBad (s : State) (f : Fld) (i : Nat) (b : Bool) : (s.putBit f i b).seqBad = s.seqBad := rfl
@[simp] theorem State.putBit_trigOut (s : State) (f : Fld) (i : Nat) (b : Bool) : (s.putBit f i b).trigOut = s.trigOut := rfl
@[simp] theorem State.putBit_free (s : State) (f : Fld) (i : Nat) (b : Bool) : (s.putBit f i b).free = s.free := rfl
@[simp] theorem State.putBit_engine (s : State) (f : Fld) (i : Nat) (b : Bool) (j : Nat) : (s.putBit f i b).engine j = s.engine j := rfl

@[simp] theorem State.bump_pending (s : State) (f : Fld) : (s.bump f).pending = s.pending := rfl
@[simp] theorem State.bump_mem (s : State) (f : Fld) : (s.bump f).mem = s.mem := rfl
@[simp] theorem State.bump_poison (s : State) (f : Fld) : (s.bump f).poison = s.poison := rfl
@[simp] theorem State.bump_dirty (s : State) (f : Fld) : (s.bump f).dirty = s.dirty := rfl
@[simp] theorem State.bump_bus (s : State) (f : Fld) : (s.bump f).bus = s.bus := rfl
@[simp] theorem State.bump_log (s : State) (f : Fld) : (s.bump f).log = s.log := rfl
@[simp] theorem State.bump_time (s : State) (f : Fld) : (s.bump f).time = s.time := rfl
@[simp] theorem State.bump_rose (s : State) (f : Fld) : (s.bump f).rose = s.rose := rfl
@[simp] theorem State.bump_chk (s : State) (f : Fld) : (s.bump f).chk = s.chk := rfl
@[simp] theorem State.bump_eng (s : State) (f : Fld) : (s.bump f).eng = s.eng := rfl
@[simp] theorem State.bump_tbs (s : State) (f : Fld) : (s.bump f).tbs = s.tbs := rfl
@[simp] theorem State.bump_glin (s : State) (f : Fld) : (s.bump f).glin = s.glin := rfl
@[simp] theorem State.bump_units (s : State) (f : Fld) : (s.bump f).units = s.units := rfl
@[simp] theorem State.bump_heads (s : State) (f : Fld) : (s.bump f).heads = s.heads := rfl
@[simp] theorem State.bump_wins (s : State) (f : Fld) : (s.bump f).wins = s.wins := rfl
@[simp] theorem State.bump_vigil (s : State) (f : Fld) : (s.bump f).vigil = s.vigil := rfl
@[simp] theorem State.bump_scaler (s : State) (f : Fld) : (s.bump f).scaler = s.scaler := rfl
@[simp] theorem State.bump_fuses (s : State) (f : Fld) : (s.bump f).fuses = s.fuses := rfl
@[simp] theorem State.bump_flash (s : State) (f : Fld) : (s.bump f).flash = s.flash := rfl
@[simp] theorem State.bump_power (s : State) (f : Fld) : (s.bump f).power = s.power := rfl
@[simp] theorem State.bump_sensors (s : State) (f : Fld) : (s.bump f).sensors = s.sensors := rfl
@[simp] theorem State.bump_ledger (s : State) (f : Fld) : (s.bump f).ledger = s.ledger := rfl
@[simp] theorem State.bump_test (s : State) (f : Fld) : (s.bump f).test = s.test := rfl
@[simp] theorem State.bump_ctxs (s : State) (f : Fld) : (s.bump f).ctxs = s.ctxs := rfl
@[simp] theorem State.bump_pipes (s : State) (f : Fld) : (s.bump f).pipes = s.pipes := rfl
@[simp] theorem State.bump_intake (s : State) (f : Fld) : (s.bump f).intake = s.intake := rfl
@[simp] theorem State.bump_sess (s : State) (f : Fld) : (s.bump f).sess = s.sess := rfl
@[simp] theorem State.bump_encAt (s : State) (f : Fld) : (s.bump f).encAt = s.encAt := rfl
@[simp] theorem State.bump_net (s : State) (f : Fld) : (s.bump f).net = s.net := rfl
@[simp] theorem State.bump_servo (s : State) (f : Fld) : (s.bump f).servo = s.servo := rfl
@[simp] theorem State.bump_sides (s : State) (f : Fld) : (s.bump f).sides = s.sides := rfl
@[simp] theorem State.bump_lanes (s : State) (f : Fld) : (s.bump f).lanes = s.lanes := rfl
@[simp] theorem State.bump_panels (s : State) (f : Fld) : (s.bump f).panels = s.panels := rfl
@[simp] theorem State.bump_seqMem (s : State) (f : Fld) : (s.bump f).seqMem = s.seqMem := rfl
@[simp] theorem State.bump_seqBad (s : State) (f : Fld) : (s.bump f).seqBad = s.seqBad := rfl
@[simp] theorem State.bump_trigOut (s : State) (f : Fld) : (s.bump f).trigOut = s.trigOut := rfl
@[simp] theorem State.bump_free (s : State) (f : Fld) : (s.bump f).free = s.free := rfl
@[simp] theorem State.bump_engine (s : State) (f : Fld) (j : Nat) : (s.bump f).engine j = s.engine j := rfl

@[simp] theorem State.setEngine_pending (s : State) (k : Nat) (e : Engine) : (s.setEngine k e).pending = s.pending := rfl
@[simp] theorem State.setEngine_regs (s : State) (k : Nat) (e : Engine) : (s.setEngine k e).regs = s.regs := rfl
@[simp] theorem State.setEngine_mem (s : State) (k : Nat) (e : Engine) : (s.setEngine k e).mem = s.mem := rfl
@[simp] theorem State.setEngine_poison (s : State) (k : Nat) (e : Engine) : (s.setEngine k e).poison = s.poison := rfl
@[simp] theorem State.setEngine_dirty (s : State) (k : Nat) (e : Engine) : (s.setEngine k e).dirty = s.dirty := rfl
@[simp] theorem State.setEngine_bus (s : State) (k : Nat) (e : Engine) : (s.setEngine k e).bus = s.bus := rfl
@[simp] theorem State.setEngine_log (s : State) (k : Nat) (e : Engine) : (s.setEngine k e).log = s.log := rfl
@[simp] theorem State.setEngine_time (s : State) (k : Nat) (e : Engine) : (s.setEngine k e).time = s.time := rfl
@[simp] theorem State.setEngine_rose (s : State) (k : Nat) (e : Engine) : (s.setEngine k e).rose = s.rose := rfl
@[simp] theorem State.setEngine_chk (s : State) (k : Nat) (e : Engine) : (s.setEngine k e).chk = s.chk := rfl
@[simp] theorem State.setEngine_tbs (s : State) (k : Nat) (e : Engine) : (s.setEngine k e).tbs = s.tbs := rfl
@[simp] theorem State.setEngine_glin (s : State) (k : Nat) (e : Engine) : (s.setEngine k e).glin = s.glin := rfl
@[simp] theorem State.setEngine_units (s : State) (k : Nat) (e : Engine) : (s.setEngine k e).units = s.units := rfl
@[simp] theorem State.setEngine_heads (s : State) (k : Nat) (e : Engine) : (s.setEngine k e).heads = s.heads := rfl
@[simp] theorem State.setEngine_wins (s : State) (k : Nat) (e : Engine) : (s.setEngine k e).wins = s.wins := rfl
@[simp] theorem State.setEngine_vigil (s : State) (k : Nat) (e : Engine) : (s.setEngine k e).vigil = s.vigil := rfl
@[simp] theorem State.setEngine_scaler (s : State) (k : Nat) (e : Engine) : (s.setEngine k e).scaler = s.scaler := rfl
@[simp] theorem State.setEngine_fuses (s : State) (k : Nat) (e : Engine) : (s.setEngine k e).fuses = s.fuses := rfl
@[simp] theorem State.setEngine_flash (s : State) (k : Nat) (e : Engine) : (s.setEngine k e).flash = s.flash := rfl
@[simp] theorem State.setEngine_power (s : State) (k : Nat) (e : Engine) : (s.setEngine k e).power = s.power := rfl
@[simp] theorem State.setEngine_sensors (s : State) (k : Nat) (e : Engine) : (s.setEngine k e).sensors = s.sensors := rfl
@[simp] theorem State.setEngine_ledger (s : State) (k : Nat) (e : Engine) : (s.setEngine k e).ledger = s.ledger := rfl
@[simp] theorem State.setEngine_test (s : State) (k : Nat) (e : Engine) : (s.setEngine k e).test = s.test := rfl
@[simp] theorem State.setEngine_ctxs (s : State) (k : Nat) (e : Engine) : (s.setEngine k e).ctxs = s.ctxs := rfl
@[simp] theorem State.setEngine_pipes (s : State) (k : Nat) (e : Engine) : (s.setEngine k e).pipes = s.pipes := rfl
@[simp] theorem State.setEngine_intake (s : State) (k : Nat) (e : Engine) : (s.setEngine k e).intake = s.intake := rfl
@[simp] theorem State.setEngine_sess (s : State) (k : Nat) (e : Engine) : (s.setEngine k e).sess = s.sess := rfl
@[simp] theorem State.setEngine_encAt (s : State) (k : Nat) (e : Engine) : (s.setEngine k e).encAt = s.encAt := rfl
@[simp] theorem State.setEngine_net (s : State) (k : Nat) (e : Engine) : (s.setEngine k e).net = s.net := rfl
@[simp] theorem State.setEngine_servo (s : State) (k : Nat) (e : Engine) : (s.setEngine k e).servo = s.servo := rfl
@[simp] theorem State.setEngine_sides (s : State) (k : Nat) (e : Engine) : (s.setEngine k e).sides = s.sides := rfl
@[simp] theorem State.setEngine_lanes (s : State) (k : Nat) (e : Engine) : (s.setEngine k e).lanes = s.lanes := rfl
@[simp] theorem State.setEngine_panels (s : State) (k : Nat) (e : Engine) : (s.setEngine k e).panels = s.panels := rfl
@[simp] theorem State.setEngine_seqMem (s : State) (k : Nat) (e : Engine) : (s.setEngine k e).seqMem = s.seqMem := rfl
@[simp] theorem State.setEngine_seqBad (s : State) (k : Nat) (e : Engine) : (s.setEngine k e).seqBad = s.seqBad := rfl
@[simp] theorem State.setEngine_trigOut (s : State) (k : Nat) (e : Engine) : (s.setEngine k e).trigOut = s.trigOut := rfl
@[simp] theorem State.setEngine_free (s : State) (k : Nat) (e : Engine) : (s.setEngine k e).free = s.free := rfl
@[simp] theorem State.setEngine_reg (s : State) (k : Nat) (e : Engine) (j : Nat) : (s.setEngine k e).reg j = s.reg j := rfl
@[simp] theorem State.setEngine_get (s : State) (k : Nat) (e : Engine) (g : Fld) : (s.setEngine k e).get g = s.get g := rfl
@[simp] theorem State.setEngine_on (s : State) (k : Nat) (e : Engine) (g : Fld) : (s.setEngine k e).on g = s.on g := rfl

@[simp] theorem State.advance_pending (s : State) (t : Nat) : (s.advance t).pending = s.pending := rfl
@[simp] theorem State.advance_regs (s : State) (t : Nat) : (s.advance t).regs = s.regs := rfl
@[simp] theorem State.advance_mem (s : State) (t : Nat) : (s.advance t).mem = s.mem := rfl
@[simp] theorem State.advance_poison (s : State) (t : Nat) : (s.advance t).poison = s.poison := rfl
@[simp] theorem State.advance_dirty (s : State) (t : Nat) : (s.advance t).dirty = s.dirty := rfl
@[simp] theorem State.advance_bus (s : State) (t : Nat) : (s.advance t).bus = s.bus := rfl
@[simp] theorem State.advance_log (s : State) (t : Nat) : (s.advance t).log = s.log := rfl
@[simp] theorem State.advance_rose (s : State) (t : Nat) : (s.advance t).rose = s.rose := rfl
@[simp] theorem State.advance_chk (s : State) (t : Nat) : (s.advance t).chk = s.chk := rfl
@[simp] theorem State.advance_eng (s : State) (t : Nat) : (s.advance t).eng = s.eng := rfl
@[simp] theorem State.advance_tbs (s : State) (t : Nat) : (s.advance t).tbs = s.tbs := rfl
@[simp] theorem State.advance_glin (s : State) (t : Nat) : (s.advance t).glin = s.glin := rfl
@[simp] theorem State.advance_units (s : State) (t : Nat) : (s.advance t).units = s.units := rfl
@[simp] theorem State.advance_heads (s : State) (t : Nat) : (s.advance t).heads = s.heads := rfl
@[simp] theorem State.advance_wins (s : State) (t : Nat) : (s.advance t).wins = s.wins := rfl
@[simp] theorem State.advance_vigil (s : State) (t : Nat) : (s.advance t).vigil = s.vigil := rfl
@[simp] theorem State.advance_scaler (s : State) (t : Nat) : (s.advance t).scaler = s.scaler := rfl
@[simp] theorem State.advance_fuses (s : State) (t : Nat) : (s.advance t).fuses = s.fuses := rfl
@[simp] theorem State.advance_flash (s : State) (t : Nat) : (s.advance t).flash = s.flash := rfl
@[simp] theorem State.advance_power (s : State) (t : Nat) : (s.advance t).power = s.power := rfl
@[simp] theorem State.advance_sensors (s : State) (t : Nat) : (s.advance t).sensors = s.sensors := rfl
@[simp] theorem State.advance_ledger (s : State) (t : Nat) : (s.advance t).ledger = s.ledger := rfl
@[simp] theorem State.advance_test (s : State) (t : Nat) : (s.advance t).test = s.test := rfl
@[simp] theorem State.advance_ctxs (s : State) (t : Nat) : (s.advance t).ctxs = s.ctxs := rfl
@[simp] theorem State.advance_pipes (s : State) (t : Nat) : (s.advance t).pipes = s.pipes := rfl
@[simp] theorem State.advance_intake (s : State) (t : Nat) : (s.advance t).intake = s.intake := rfl
@[simp] theorem State.advance_sess (s : State) (t : Nat) : (s.advance t).sess = s.sess := rfl
@[simp] theorem State.advance_encAt (s : State) (t : Nat) : (s.advance t).encAt = s.encAt := rfl
@[simp] theorem State.advance_net (s : State) (t : Nat) : (s.advance t).net = s.net := rfl
@[simp] theorem State.advance_servo (s : State) (t : Nat) : (s.advance t).servo = s.servo := rfl
@[simp] theorem State.advance_sides (s : State) (t : Nat) : (s.advance t).sides = s.sides := rfl
@[simp] theorem State.advance_lanes (s : State) (t : Nat) : (s.advance t).lanes = s.lanes := rfl
@[simp] theorem State.advance_panels (s : State) (t : Nat) : (s.advance t).panels = s.panels := rfl
@[simp] theorem State.advance_seqMem (s : State) (t : Nat) : (s.advance t).seqMem = s.seqMem := rfl
@[simp] theorem State.advance_seqBad (s : State) (t : Nat) : (s.advance t).seqBad = s.seqBad := rfl
@[simp] theorem State.advance_trigOut (s : State) (t : Nat) : (s.advance t).trigOut = s.trigOut := rfl
@[simp] theorem State.advance_free (s : State) (t : Nat) : (s.advance t).free = s.free := rfl
@[simp] theorem State.advance_engine (s : State) (t : Nat) (j : Nat) : (s.advance t).engine j = s.engine j := rfl
@[simp] theorem State.advance_reg (s : State) (t : Nat) (j : Nat) : (s.advance t).reg j = s.reg j := rfl
@[simp] theorem State.advance_get (s : State) (t : Nat) (g : Fld) : (s.advance t).get g = s.get g := rfl
@[simp] theorem State.advance_on (s : State) (t : Nat) (g : Fld) : (s.advance t).on g = s.on g := rfl

@[simp] theorem State.advance_pix (s : State) (t : Nat) : (s.advance t).time.pix = s.time.pix + t := rfl

/-! ### Engines -/

@[simp] theorem State.engine_setEngine_same (s : State) (k : Nat) (e : Engine) : (s.setEngine k e).engine k = e := by
  simp [State.engine, State.setEngine]

theorem State.engine_setEngine_ne (s : State) (k j : Nat) (e : Engine) (h : j ≠ k) : (s.setEngine k e).engine j = s.engine j := by
  simp [State.engine, State.setEngine, tabGet_tabSet_ne _ _ _ _ _ h]

@[simp] theorem State.setEngine_setEngine (s : State) (k : Nat) (e f : Engine) : (s.setEngine k e).setEngine k f = s.setEngine k f := by
  simp [State.setEngine]

end Sys2Proof.Machine
end

