-- ==== Sys2Proof/Laws/Records.lean ====
section
/-! SUPPORT. What raising a record, and what a check that may refuse, can do: it changes the fault log and the registers of
block 21 (FAULT) alone, a refusal also the counters of PROT. -/
namespace Sys2Proof.Machine

/-! ### Records (R481 to R483) -/

/-- `t` is `s` but for the fault log and the registers of block 21 (FAULT). -/
def LogOnly (s t : State) : Prop :=
  ∃ r l, t = { s with regs := r, log := l } ∧ ∀ k, k / 0x100000 ≠ 21 → tabGet? r k = tabGet? s.regs k

theorem LogOnly.refl (s : State) : LogOnly s s := ⟨s.regs, s.log, rfl, fun _ _ => rfl⟩

theorem LogOnly.trans {s t u : State} (h : LogOnly s t) (g : LogOnly t u) : LogOnly s u := by
  obtain ⟨r, l, rfl, hr⟩ := h
  obtain ⟨r', l', rfl, hr'⟩ := g
  exact ⟨r', l', rfl, fun k hk => (hr' k hk).trans (hr k hk)⟩

theorem LogOnly.setReg {s t : State} (h : LogOnly s t) (k : Nat) (w : Word) (hk : k / 0x100000 = 21) : LogOnly s (t.setReg k w) := by
  obtain ⟨r, l, rfl, hr⟩ := h
  refine ⟨tabSet r k w, l, rfl, fun j hj => ?_⟩
  rw [tabGet?_tabSet_ne _ _ _ _ (by rintro rfl; exact hj hk), hr j hj]

theorem LogOnly.setLog {s t : State} (h : LogOnly s t) (l : LogQ) : LogOnly s { t with log := l } := by
  obtain ⟨r, l', rfl, hr⟩ := h
  exact ⟨r, l, rfl, hr⟩

theorem LogOnly.setRegs {s t : State} (h : LogOnly s t) (k : Nat) (ws : List Word) (hk : 0x1500000 ≤ k)
    (hn : k + 4 * ws.length ≤ 0x1600000) : LogOnly s (t.setRegs k ws) := by
  induction ws generalizing k t with
  | nil => exact h
  | cons w ws ih =>
    simp only [List.length_cons] at hn
    exact ih (h.setReg k w (by omega)) (k + 4) (by omega) (by omega)

theorem LogOnly.bump {s t : State} (h : LogOnly s t) (f : Fld) (hk : f.key / 0x100000 = 21) : LogOnly s (t.bump f) := h.setReg _ _ hk
theorem LogOnly.put {s t : State} (h : LogOnly s t) (f : Fld) (v : Nat) (hk : f.key / 0x100000 = 21) : LogOnly s (t.put f v) :=
  h.setReg _ _ hk

/-- A record changes the log and the registers of block 21 alone. -/
theorem State.raise_logOnly (s : State) (cls a1 a2 d : Nat) (lim : Option Nat) : LogOnly s (s.raise cls a1 a2 d lim) := by
  have hc : (F.FAULT_CLASS_COUNT (cls % 256)).key / 0x100000 = 21 := by simp only [F.FAULT_CLASS_COUNT]; omega
  have hs : (F.FAULT_CLASS_SEEN (cls % 256 / 32)).key / 0x100000 = 21 := by simp only [F.FAULT_CLASS_SEEN]; omega
  unfold State.raise
  extract_lets now supp rseq s1 r s2 l2 s3 s4 l4 s5 l5
  have h1 : LogOnly s s1 := ((LogOnly.refl s).bump _ hc).put _ _ hs
  have h2 : LogOnly s s2 := (h1.setRegs _ _ (by decide) (by simp [Rec.words, F.FAULT_LAST])).put _ _ (by decide)
  have h3 : LogOnly s s3 := h2.setLog _
  have h4 : LogOnly s s4 := h3.put _ _ (by decide)
  have h5 : LogOnly s s5 := by
    cases lim with
    | none => exact h4
    | some x => exact h4.setLog _
  split
  · exact h3.bump _ (by decide)
  · split
    · exact h5.setLog _
    · exact (h5.bump _ (by decide)).setLog _

/-! ### What stays when only the log has changed -/

section
variable {s t : State} (h : LogOnly s t)
include h in theorem LogOnly.pending : t.pending = s.pending := by obtain ⟨_, _, rfl, _⟩ := h; rfl
include h in theorem LogOnly.mem : t.mem = s.mem := by obtain ⟨_, _, rfl, _⟩ := h; rfl
include h in theorem LogOnly.poison : t.poison = s.poison := by obtain ⟨_, _, rfl, _⟩ := h; rfl
include h in theorem LogOnly.dirty : t.dirty = s.dirty := by obtain ⟨_, _, rfl, _⟩ := h; rfl
include h in theorem LogOnly.bus : t.bus = s.bus := by obtain ⟨_, _, rfl, _⟩ := h; rfl
include h in theorem LogOnly.time : t.time = s.time := by obtain ⟨_, _, rfl, _⟩ := h; rfl
include h in theorem LogOnly.rose : t.rose = s.rose := by obtain ⟨_, _, rfl, _⟩ := h; rfl
include h in theorem LogOnly.chk : t.chk = s.chk := by obtain ⟨_, _, rfl, _⟩ := h; rfl
include h in theorem LogOnly.eng : t.eng = s.eng := by obtain ⟨_, _, rfl, _⟩ := h; rfl
include h in theorem LogOnly.tbs : t.tbs = s.tbs := by obtain ⟨_, _, rfl, _⟩ := h; rfl
include h in theorem LogOnly.glin : t.glin = s.glin := by obtain ⟨_, _, rfl, _⟩ := h; rfl
include h in theorem LogOnly.units : t.units = s.units := by obtain ⟨_, _, rfl, _⟩ := h; rfl
include h in theorem LogOnly.heads : t.heads = s.heads := by obtain ⟨_, _, rfl, _⟩ := h; rfl
include h in theorem LogOnly.wins : t.wins = s.wins := by obtain ⟨_, _, rfl, _⟩ := h; rfl
include h in theorem LogOnly.vigil : t.vigil = s.vigil := by obtain ⟨_, _, rfl, _⟩ := h; rfl
include h in theorem LogOnly.scaler : t.scaler = s.scaler := by obtain ⟨_, _, rfl, _⟩ := h; rfl
include h in theorem LogOnly.fuses : t.fuses = s.fuses := by obtain ⟨_, _, rfl, _⟩ := h; rfl
include h in theorem LogOnly.flash : t.flash = s.flash := by obtain ⟨_, _, rfl, _⟩ := h; rfl
include h in theorem LogOnly.power : t.power = s.power := by obtain ⟨_, _, rfl, _⟩ := h; rfl
include h in theorem LogOnly.sensors : t.sensors = s.sensors := by obtain ⟨_, _, rfl, _⟩ := h; rfl
include h in theorem LogOnly.ledger : t.ledger = s.ledger := by obtain ⟨_, _, rfl, _⟩ := h; rfl
include h in theorem LogOnly.test : t.test = s.test := by obtain ⟨_, _, rfl, _⟩ := h; rfl
include h in theorem LogOnly.ctxs : t.ctxs = s.ctxs := by obtain ⟨_, _, rfl, _⟩ := h; rfl
include h in theorem LogOnly.pipes : t.pipes = s.pipes := by obtain ⟨_, _, rfl, _⟩ := h; rfl
include h in theorem LogOnly.intake : t.intake = s.intake := by obtain ⟨_, _, rfl, _⟩ := h; rfl
include h in theorem LogOnly.sess : t.sess = s.sess := by obtain ⟨_, _, rfl, _⟩ := h; rfl
include h in theorem LogOnly.net : t.net = s.net := by obtain ⟨_, _, rfl, _⟩ := h; rfl
include h in theorem LogOnly.servo : t.servo = s.servo := by obtain ⟨_, _, rfl, _⟩ := h; rfl
include h in theorem LogOnly.sides : t.sides = s.sides := by obtain ⟨_, _, rfl, _⟩ := h; rfl
include h in theorem LogOnly.lanes : t.lanes = s.lanes := by obtain ⟨_, _, rfl, _⟩ := h; rfl
include h in theorem LogOnly.panels : t.panels = s.panels := by obtain ⟨_, _, rfl, _⟩ := h; rfl
include h in theorem LogOnly.seqMem : t.seqMem = s.seqMem := by obtain ⟨_, _, rfl, _⟩ := h; rfl
include h in theorem LogOnly.trigOut : t.trigOut = s.trigOut := by obtain ⟨_, _, rfl, _⟩ := h; rfl
include h in theorem LogOnly.free : t.free = s.free := by obtain ⟨_, _, rfl, _⟩ := h; rfl

include h in
/-- Registers outside block 21 and outside the contexts read as before. -/
theorem LogOnly.reg (k : Nat) (hk : k / 0x100000 ≠ 21) (hc : isCtxOwn k = false) : t.reg k = s.reg k := by
  obtain ⟨r, l, rfl, hr⟩ := h
  simp [State.reg, hr k hk, ctxLayout, hc]

include h in
theorem LogOnly.get (f : Fld) (hk : f.key / 0x100000 ≠ 21) (hc : isCtxOwn f.key = false) : t.get f = s.get f := by
  simp [State.get, h.reg f.key hk hc]

include h in
theorem LogOnly.engine (k : Nat) : t.engine k = s.engine k := by simp [State.engine, h.eng]

include h in
theorem LogOnly.onlyLogged : ∃ r l, t = { s with regs := r, log := l } := by
  obtain ⟨r, l, e, _⟩ := h
  exact ⟨r, l, e⟩

end

/-! ### Refusals (R459, R462) -/

/-- `t` is `s` but for the registers and the fault log. -/
def RegsOnly (s t : State) : Prop := ∃ r l, t = { s with regs := r, log := l }

theorem RegsOnly.refl (s : State) : RegsOnly s s := ⟨s.regs, s.log, rfl⟩

theorem RegsOnly.trans {s t u : State} (h : RegsOnly s t) (g : RegsOnly t u) : RegsOnly s u := by
  obtain ⟨r, l, rfl⟩ := h
  obtain ⟨r', l', rfl⟩ := g
  exact ⟨r', l', rfl⟩

theorem RegsOnly.setReg {s t : State} (h : RegsOnly s t) (k : Nat) (w : Word) : RegsOnly s (t.setReg k w) := by
  obtain ⟨r, l, rfl⟩ := h
  exact ⟨_, l, rfl⟩

theorem RegsOnly.raise {s t : State} (h : RegsOnly s t) (cls a1 a2 d : Nat) (lim : Option Nat) :
    RegsOnly s (t.raise cls a1 a2 d lim) := by
  obtain ⟨r, l, e⟩ := (t.raise_logOnly cls a1 a2 d lim).onlyLogged
  exact h.trans ⟨r, l, e⟩

/-- A refusal counts and logs, and does nothing else. -/
theorem State.refuse_regsOnly (s : State) (cls : Nat) (src : Src) (k : AccKind) (a bad len set e : Nat) :
    RegsOnly s (s.refuse cls src k a bad len set e) := by
  unfold State.refuse
  exact ((RegsOnly.refl s).setReg _ _).raise _ _ _ _ _

/-- A check at the initiator passes and changes nothing, or fails with a refusal. -/
theorem State.initCheck_cases (s : State) (src : Src) (k : AccKind) (a len : Nat) :
    s.initCheck src k a len = (true, s) ∨ ((s.initCheck src k a len).1 = false ∧ RegsOnly s (s.initCheck src k a len).2) := by
  unfold State.initCheck
  dsimp only
  split
  · exact .inr ⟨rfl, s.refuse_regsOnly ..⟩
  · split
    · exact .inr ⟨rfl, s.refuse_regsOnly ..⟩
    · exact .inl rfl

theorem State.initCheck_regsOnly (s : State) (src : Src) (k : AccKind) (a len : Nat) : RegsOnly s (s.initCheck src k a len).2 := by
  rcases s.initCheck_cases src k a len with h | h
  · rw [h]; exact RegsOnly.refl s
  · exact h.2

/-- So does a check at the target. -/
theorem State.tgtCheck_cases (s : State) (x : Access) :
    s.tgtCheck x = (true, s) ∨ ((s.tgtCheck x).1 = false ∧ RegsOnly s (s.tgtCheck x).2) := by
  unfold State.tgtCheck
  dsimp only
  split
  · exact .inr ⟨rfl, s.refuse_regsOnly ..⟩
  · split
    · exact .inr ⟨rfl, ((RegsOnly.refl s).setReg _ _).trans (State.refuse_regsOnly ..)⟩
    · split
      · exact .inr ⟨rfl, s.refuse_regsOnly ..⟩
      · exact .inl rfl

theorem State.tgtCheck_regsOnly (s : State) (x : Access) : RegsOnly s (s.tgtCheck x).2 := by
  rcases s.tgtCheck_cases x with h | h
  · rw [h]; exact RegsOnly.refl s
  · exact h.2

end Sys2Proof.Machine
end

