-- ==== Sys2Proof/Laws/Memory.lean ====
section
/-! SUPPORT. Every operation on memory keeps the form of the memories: canonical lists of cells, and dirty bytes by rising
address. -/
namespace Sys2Proof.Machine

/-! ### Tables by rising key -/

theorem rising_tail {α : Type} {e : Nat × α} {t : Tab α} (h : rising (e :: t) = true) : rising t = true := by
  obtain ⟨a, v⟩ := e
  cases t with
  | nil => rfl
  | cons f t => simp only [rising, Bool.and_eq_true] at h; exact h.2

theorem rising_head {α : Type} {a : Nat} {v : α} {t : Tab α} (h : rising ((a, v) :: t) = true) : ∀ e ∈ t, a < e.1 := by
  induction t generalizing a v with
  | nil => intro e he; cases he
  | cons f t ih =>
    obtain ⟨b, w⟩ := f
    simp only [rising, Bool.and_eq_true, decide_eq_true_eq] at h
    intro e he
    rcases List.mem_cons.1 he with rfl | he
    · exact h.1
    · exact Nat.lt_trans h.1 (ih h.2 e he)

theorem rising_cons {α : Type} {a : Nat} {v : α} {t : Tab α} (ht : rising t = true) (h : ∀ e ∈ t, a < e.1) :
    rising ((a, v) :: t) = true := by
  cases t with
  | nil => rfl
  | cons f t =>
    obtain ⟨b, w⟩ := f
    simp only [rising, Bool.and_eq_true, decide_eq_true_eq]
    exact ⟨h (b, w) (List.mem_cons_self ..), ht⟩

theorem rising_filter {α : Type} {t : Tab α} (p : Nat × α → Bool) (h : rising t = true) : rising (t.filter p) = true := by
  induction t with
  | nil => rfl
  | cons e t ih =>
    obtain ⟨a, v⟩ := e
    rw [List.filter_cons]
    split
    · exact rising_cons (ih (rising_tail h)) (fun e he => rising_head h e (List.mem_filter.1 he).1)
    · exact ih (rising_tail h)

theorem mem_tabSet {α : Type} {t : Tab α} {k : Nat} {v : α} {e : Nat × α} (h : e ∈ tabSet t k v) : e = (k, v) ∨ e ∈ t := by
  induction t with
  | nil => simpa [tabSet] using h
  | cons f t ih =>
    obtain ⟨b, w⟩ := f
    unfold tabSet at h
    split at h
    · simpa using h
    · split at h
      · rcases List.mem_cons.1 h with rfl | h
        · exact .inl rfl
        · exact .inr (List.mem_cons_of_mem _ h)
      · rcases List.mem_cons.1 h with rfl | h
        · exact .inr (List.mem_cons_self ..)
        · exact (ih h).imp_right (List.mem_cons_of_mem _)

theorem rising_tabSet {α : Type} {t : Tab α} (k : Nat) (v : α) (h : rising t = true) : rising (tabSet t k v) = true := by
  induction t with
  | nil => rfl
  | cons f t ih =>
    obtain ⟨b, w⟩ := f
    unfold tabSet
    split
    · next hk => exact rising_cons h (fun e he => by
        rcases List.mem_cons.1 he with rfl | he
        · exact hk
        · exact Nat.lt_trans hk (rising_head h e he))
    · split
      · next hk => subst hk; exact rising_cons (rising_tail h) (rising_head h)
      · next h1 h2 => exact rising_cons (ih (rising_tail h)) (fun e he => by
          rcases mem_tabSet he with rfl | he
          · show b < k; omega
          · exact rising_head h e he)

/-! ### The state's memories -/

theorem State.memoriesOk_iff (s : State) : s.memoriesOk = true ↔
    cellsWf 0 s.mem = true ∧ cellsWf 0 s.seqMem = true ∧ cellsWf 0xFF s.flash = true ∧ rising s.dirty = true := by
  simp [State.memoriesOk, Memory.wf, and_assoc]

/-- Whatever leaves the memories alone keeps their form. -/
theorem memoriesOk_of {s t : State} (h : s.memoriesOk = true) (h1 : t.mem = s.mem) (h2 : t.seqMem = s.seqMem) (h3 : t.flash = s.flash)
    (h4 : t.dirty = s.dirty) : t.memoriesOk = true := by
  rw [State.memoriesOk_iff] at *
  rw [h1, h2, h3, h4]
  exact h

theorem RegsOnly.memoriesOk {s t : State} (g : RegsOnly s t) (h : s.memoriesOk = true) : t.memoriesOk = true := by
  obtain ⟨r, l, rfl⟩ := g
  exact h

theorem State.initCheck_memoriesOk {s : State} (src : Src) (k : AccKind) (a len : Nat) (h : s.memoriesOk = true) :
    (s.initCheck src k a len).2.memoriesOk = true := (s.initCheck_regsOnly src k a len).memoriesOk h

theorem State.memWrite_memoriesOk {s : State} (a : Nat) (bs : List Byte) (h : s.memoriesOk = true) :
    (s.memWrite a bs).memoriesOk = true := by
  rw [State.memoriesOk_iff] at *
  exact ⟨cellsWf_cellWrite a bs h.1, h.2⟩

theorem cellsWf_foldl_cellSet {d : Byte} (l : List (Nat × Byte)) {m : List Host.Cell} (h : cellsWf d m = true) :
    cellsWf d (l.foldl (fun m e => cellSet d m e.1 e.2) m) = true := by
  induction l generalizing m with
  | nil => exact h
  | cons e l ih => exact ih (cellsWf_cellSet e.1 e.2 h)

theorem State.cleanLine_memoriesOk {s : State} (a : Nat) (h : s.memoriesOk = true) : (s.cleanLine a).memoriesOk = true := by
  rw [State.memoriesOk_iff] at *
  exact ⟨cellsWf_foldl_cellSet _ h.1, h.2.1, h.2.2.1, rising_filter _ h.2.2.2⟩

theorem State.cleanRange_memoriesOk {s : State} (lo hi : Nat) (h : s.memoriesOk = true) : (s.cleanRange lo hi).memoriesOk = true := by
  rw [State.memoriesOk_iff] at *
  exact ⟨cellsWf_foldl_cellSet _ h.1, h.2.1, h.2.2.1, rising_filter _ h.2.2.2⟩

theorem State.dropDirty_memoriesOk {s : State} (a n : Nat) (h : s.memoriesOk = true) :
    { s with dirty := dropLines s.dirty a n }.memoriesOk = true := by
  rw [State.memoriesOk_iff] at *
  exact ⟨h.1, h.2.1, h.2.2.1, rising_filter _ h.2.2.2⟩

theorem rising_stores (bs : List Byte) (d : Tab Byte) (a : Nat) (h : rising d = true) :
    rising (bs.foldl (fun (p : Tab Byte × Nat) b => (tabSet p.1 p.2 b, p.2 + 1)) (d, a)).1 = true := by
  induction bs generalizing d a with
  | nil => exact h
  | cons b bs ih => exact ih _ _ (rising_tabSet a b h)

theorem State.coreWrite_memoriesOk {s : State} (c a : Nat) (bs : List Byte) (h : s.memoriesOk = true) :
    (s.coreWrite c a bs).memoriesOk = true := by
  unfold State.coreWrite
  split
  · rw [State.memoriesOk_iff] at *
    exact ⟨h.1, h.2.1, h.2.2.1, rising_stores bs _ a h.2.2.2⟩
  · exact s.memWrite_memoriesOk a bs h

/-! ### Reads and writes of units, rings (R167, R467) -/

theorem State.unitPut_memoriesOk {s : State} (src : Src) (a : Nat) (bs : List Byte) (h : s.memoriesOk = true) :
    (s.unitPut src a bs).memoriesOk = true := by
  unfold State.unitPut
  split
  · exact h
  · exact State.memWrite_memoriesOk _ _ (State.dropDirty_memoriesOk _ _ h)

theorem State.unitWrite_memoriesOk {s : State} (src : Src) (a : Nat) (bs : List Byte) (h : s.memoriesOk = true) :
    (s.unitWrite src a bs).2.memoriesOk = true := by
  unfold State.unitWrite
  generalize splitTx _ a bs.length = l
  generalize hp : (true, s) = p
  have hs : p.2.memoriesOk = true := by rw [← hp]; exact h
  clear hp h
  induction l generalizing p with
  | nil => exact hs
  | cons t l ih =>
    apply ih
    have hc := State.initCheck_memoriesOk src .write t.1 t.2 hs
    dsimp only
    split
    · exact State.unitPut_memoriesOk _ _ _ hc
    · exact hc

theorem State.unitRead_regsOnly (s : State) (src : Src) (a n : Nat) : RegsOnly s (s.unitRead src a n).2 := by
  unfold State.unitRead
  generalize splitTx _ a n = l
  generalize hp : ((some [] : Option (List Byte)), s) = p
  have hs : RegsOnly s p.2 := by rw [← hp]; exact RegsOnly.refl s
  clear hp
  induction l generalizing p with
  | nil => exact hs
  | cons t l ih =>
    apply ih
    have hc := hs.trans (p.2.initCheck_regsOnly src .read t.1 t.2)
    dsimp only
    split
    · exact hs
    · split <;> exact hc

theorem State.unitRead_memoriesOk {s : State} (src : Src) (a n : Nat) (h : s.memoriesOk = true) :
    (s.unitRead src a n).2.memoriesOk = true := (s.unitRead_regsOnly src a n).memoriesOk h

theorem State.ringRefuse_memoriesOk {s : State} (k code : Nat) (h : s.memoriesOk = true) : (s.ringRefuse k code).memoriesOk = true :=
  (((RegsOnly.refl s).setReg _ _).raise _ _ _ _ _).memoriesOk h

theorem State.ringUpdate_memoriesOk {s : State} (k : Nat) (h : s.memoriesOk = true) : (s.ringUpdate k).memoriesOk = true := by
  unfold State.ringUpdate
  dsimp only
  split
  · exact h
  · split <;> exact h

theorem State.ringPost_memoriesOk {s : State} (src : Src) (k : Nat) (e : List Byte) (h : s.memoriesOk = true) :
    (s.ringPost src k e).2.memoriesOk = true := by
  unfold State.ringPost
  split
  · exact State.ringRefuse_memoriesOk _ _ h
  split
  · exact State.ringRefuse_memoriesOk _ _ h
  split
  · exact State.ringRefuse_memoriesOk _ _ h
  split
  · exact h
  · have hw := State.unitWrite_memoriesOk src (s.ringAddr k (s.get (F.RINGS_PUT k))) e h
    dsimp only
    split
    · exact State.ringUpdate_memoriesOk _ hw
    · exact State.ringRefuse_memoriesOk _ _ hw

theorem State.ringTake_memoriesOk {s : State} (src : Src) (k : Nat) (h : s.memoriesOk = true) :
    (s.ringTake src k).2.2.memoriesOk = true := by
  unfold State.ringTake
  split
  · exact State.ringRefuse_memoriesOk _ _ h
  split
  · exact State.ringRefuse_memoriesOk _ _ h
  split
  · exact h
  · have hw := State.unitRead_memoriesOk src (s.ringAddr k (s.get (F.RINGS_GET k))) (s.ringSize k) h
    dsimp only
    split
    · next e => rw [e] at hw; exact State.ringUpdate_memoriesOk _ hw
    · next e => rw [e] at hw; exact State.ringRefuse_memoriesOk _ _ hw

theorem State.asWrite_memoriesOk {s : State} {w : Nat} (i : Initiator) (key : Nat) (v : BitVec w) (f : State → State)
    (h : s.memoriesOk = true) (hf : ∀ t : State, t.memoriesOk = true → (f t).memoriesOk = true) :
    (s.asWrite i key v f).memoriesOk = true := by
  unfold State.asWrite
  dsimp only
  split
  · exact h
  · split
    · exact h
    · split
      · exact (s.refuse_regsOnly ..).memoriesOk h
      · exact hf s h

/-- A write that is admitted takes its effect (R2, R27, R459). -/
theorem State.asWrite_admitted {s : State} {i : Initiator} {key w : Nat} (v : BitVec w) (f : State → State) (h : Admits s i key) :
    s.asWrite i key v f = f s := by
  obtain ⟨hq, hp, hk⟩ := h
  unfold State.asWrite
  dsimp only
  rw [hq, hp]
  rcases hk with hk | hk <;> simp [State.issuer, hk]

end Sys2Proof.Machine
end

