-- ==== Sys2Proof/Laws/PerInstr.lean ====
section
/-! SUPPORT. Where a command comes from: an event at a time, a register access or check of an initiator, or an instruction
of an engine. -/
namespace Sys2Proof

/-- PIXEL clocks that have passed at an event. -/
def Instr.elapsed : Instr → Option Nat
  | .refSwitch x => some x
  | .refLostBoth x => some x
  | .clockLoss x _ => some x
  | .clockDrift x _ _ => some x
  | .patrolScrub x _ _ => some x
  | .lineStart x _ _ => some x
  | .ageProgressVote x _ _ => some x
  | .integrityCompare x _ => some x
  | .voteComplete x _ _ _ _ => some x
  | .verdictDelivery x _ => some x
  | .composeLine x _ => some x
  | .lineUnderrun x _ _ => some x
  | .echoTimeout x _ _ _ => some x
  | .frameStart x _ => some x
  | .apply x _ => some x
  | .applyDone x _ => some x
  | .genlockPulse x _ _ => some x
  | .pulseMissing x _ => some x
  | .genlockLost x _ => some x
  | .virtualPulse x _ => some x
  | .maintenanceStart x _ _ _ => some x
  | .refreshForced x _ => some x
  | .rulesyncDone x _ => some x
  | .rwaitDone x _ => some x
  | .impreciseStoreRefusal x _ => some x
  | .attention x _ => some x
  | .coreWatchdog x _ => some x
  | .l2ReconfigDone x => some x
  | .waitDone x _ => some x
  | .seqBudget x _ => some x
  | .seqWatchdog x _ => some x
  | .coefLoadDone x => some x
  | .copyJobStart x _ => some x
  | .copyJobDone x _ => some x
  | .contextDrained x _ => some x
  | .ruleCmdDone x => some x
  | .ethRxFrame x _ _ _ => some x
  | .gapDeclaredLost x _ => some x
  | .networkSilent x _ _ => some x
  | .pipeDispatch x _ => some x
  | .pictureDecoded x _ _ => some x
  | .slotWaitExpiry x _ => some x
  | .keypicRequest x _ => some x
  | .contextMigrate x => some x
  | .pipeRateUpdate x _ => some x
  | .pipeStallFail x _ _ => some x
  | .encRow x _ _ => some x
  | .encPipeStall x _ _ => some x
  | .ethTxFrame x _ => some x
  | .hosttxEntry x => some x
  | .portUp x _ => some x
  | .portDown x _ _ => some x
  | .mdioDone x _ => some x
  | .servoHoldover x => some x
  | .timeStepApply x => some x
  | .timeTriggerFire x _ => some x
  | .bringupStageDone x _ _ => some x
  | .bringupTimeout x _ => some x
  | .bringupRestart x _ => some x
  | .capSend x _ => some x
  | .blockReceived x _ _ => some x
  | .laneSignalLoss x _ => some x
  | .laneBeaconTimeout x _ => some x
  | .blockSend x _ => some x
  | .hostLaneTx x => some x
  | .senseCmdTimeout x _ => some x
  | .localScanDone x _ _ => some x
  | .touchFrameTimeout x _ => some x
  | .waterTimeout x _ => some x
  | .touchRateStep x _ => some x
  | .audioFrameStart x _ _ _ => some x
  | .audioClockAbsent x _ _ => some x
  | .audioRateGate x _ _ _ => some x
  | .audioClockRestored x _ _ => some x
  | .audioPacketTx x _ => some x
  | .rulesetActivateDone x => some x
  | .ringAgeAttention x _ => some x
  | .chkJobDone x _ => some x
  | .faultRecordPost x => some x
  | .vinStartReached x _ => some x
  | .inrushEnd x _ => some x
  | .inrushTimeout x _ => some x
  | .startStepDone x _ _ _ => some x
  | .startStepTimeout x => some x
  | .warmDone x => some x
  | .vinWarnCross x _ => some x
  | .vinRecover x _ => some x
  | .vinResetCross x => some x
  | .vinHigh x _ => some x
  | .vinOv x _ => some x
  | .iinLimit x _ => some x
  | .railToleranceFault x _ _ => some x
  | .railHardFault x _ _ => some x
  | .holdupLow x _ => some x
  | .wakeAdmit x _ _ => some x
  | .governorStep x _ => some x
  | .governorRelease x _ => some x
  | .holdupReserveReached x _ => some x
  | .orderlyStopDone x => some x
  | .autoRestart x => some x
  | .tempSample x _ => some x
  | .sensorFail x _ => some x
  | .thermalCapStep x => some x
  | .hardTrip x => some x
  | .ledgerSecond x _ => some x
  | .pmonMeasure x _ => some x
  | .ledgerRecordWrite x => some x
  | .ledgerWriteDone x _ => some x
  | .resetNAssert x => some x
  | .resetNRelease x => some x
  | .selfTestDone x _ _ _ => some x
  | .testConditionsRetry x _ => some x
  | .bootLoadDone x _ _ _ => some x
  | .bootWdog x => some x
  | .fuseCmdDone x _ => some x
  | .pprDone x _ => some x
  | .istDone x _ _ _ => some x
  | .sampleReturns x => some x
  | .vaonLost x => some x
  | .testOutOfConditions x => some x
  | .deratedTimer x => some x
  | _ => none

/-- The initiator of an access. -/
def Instr.sender : Instr → Option Initiator
  | .sampleCfgWrite x _ => some x
  | .registerWrite x _ _ => some x
  | .reg64LowWrite x _ _ => some x
  | .reg64HighWrite x _ _ => some x
  | .reg64LowRead x _ => some x
  | .initiatorCheck x _ _ _ _ => some x
  | .vigilCtrlWrite x _ => some x
  | .colourWrite x _ _ => some x
  | .vigilInject x _ => some x
  | .commitReq x _ _ => some x
  | .timingWrite x _ _ _ => some x
  | .headEnable x _ _ => some x
  | .headDisable x _ _ => some x
  | .refWrite x _ _ => some x
  | .spanEnable x _ _ => some x
  | .spanDisable x _ _ => some x
  | .spanMembersWrite x _ _ _ => some x
  | .coreStart x _ _ => some x
  | .coreHalt x _ _ => some x
  | .wdogKick x _ _ => some x
  | .l2SramWaysWrite x _ => some x
  | .ncWindowWrite x _ _ _ => some x
  | .seqStart x _ _ => some x
  | .seqHalt x _ _ => some x
  | .seqMemWrite x _ _ _ => some x
  | .placeCtlGo x _ => some x
  | .descriptorWrite x _ _ _ => some x
  | .coefLoadGo x _ => some x
  | .copySetEnable x _ _ => some x
  | .contextOpen x _ _ => some x
  | .contextClose x _ _ => some x
  | .contextFieldWrite x _ _ _ => some x
  | .ruleAdd x _ => some x
  | .ruleDel x _ => some x
  | .ruleRead x _ => some x
  | .bufReturn x _ => some x
  | .decPipeEnWrite x _ => some x
  | .sessionEnable x _ _ => some x
  | .sessionFieldWrite x _ _ _ => some x
  | .keyReq x _ _ => some x
  | .encPipeEnWrite x _ => some x
  | .portEnable x _ _ => some x
  | .mgmtEnable x _ => some x
  | .mdioGo x _ => some x
  | .servoSample x _ => some x
  | .freqWrite x _ => some x
  | .servoCfgWrite x _ => some x
  | .triggerCtlWrite x _ _ _ => some x
  | .laneEnable x _ _ => some x
  | .laneDisable x _ _ => some x
  | .outmapWrite x _ _ => some x
  | .sensemapWrite x _ _ => some x
  | .loopWrite x _ _ => some x
  | .panelEnable x _ _ => some x
  | .panelDisable x _ _ => some x
  | .touchCmdTest x _ _ => some x
  | .touchCmdRecover x _ _ => some x
  | .audioSideEnable x _ _ _ => some x
  | .maskWrite x _ _ _ => some x
  | .rulesetActivate x _ => some x
  | .bindWrite x _ _ => some x
  | .lockdownWrite x _ => some x
  | .ringEnable x _ _ => some x
  | .ringDisable x _ _ => some x
  | .doorbell x _ _ => some x
  | .counterClear x _ => some x
  | .stopWrite x _ => some x
  | .vinWarnCfgWrite x _ => some x
  | .ledgerSave x _ => some x
  | .modeReqWrite x _ => some x
  | .warmReset x _ => some x
  | .bootConfirm x _ => some x
  | .fenceWrite x _ _ => some x
  | .fuseSramRepair x _ => some x
  | .fuseFence x _ => some x
  | .pprGo x _ => some x
  | .istGo x _ => some x
  | _ => none

/-- The engine that executes an instruction. -/
def Instr.engine : Instr → Option Eng
  | .add x _ _ _ => some x
  | .sub x _ _ _ => some x
  | .and x _ _ _ => some x
  | .or x _ _ _ => some x
  | .xor x _ _ _ => some x
  | .shl x _ _ _ => some x
  | .shr x _ _ _ => some x
  | .sar x _ _ _ => some x
  | .lt x _ _ _ => some x
  | .ltu x _ _ _ => some x
  | .mins x _ _ _ => some x
  | .maxs x _ _ _ => some x
  | .minu x _ _ _ => some x
  | .maxu x _ _ _ => some x
  | .andn x _ _ _ => some x
  | .rol x _ _ _ => some x
  | .mul x _ _ _ => some x
  | .mulhs x _ _ _ => some x
  | .mulhu x _ _ _ => some x
  | .quos x _ _ _ => some x
  | .quou x _ _ _ => some x
  | .mods x _ _ _ => some x
  | .modu x _ _ _ => some x
  | .add32 x _ _ _ => some x
  | .sub32 x _ _ _ => some x
  | .shl32 x _ _ _ => some x
  | .shr32 x _ _ _ => some x
  | .sar32 x _ _ _ => some x
  | .mul32 x _ _ _ => some x
  | .sext32 x _ _ _ => some x
  | .bswap x _ _ _ => some x
  | .lzc x _ _ _ => some x
  | .tzc x _ _ _ => some x
  | .ones x _ _ _ => some x
  | .addk x _ _ _ => some x
  | .addk32 x _ _ _ => some x
  | .andk x _ _ _ => some x
  | .ork x _ _ _ => some x
  | .xork x _ _ _ => some x
  | .ltk x _ _ _ => some x
  | .ltuk x _ _ _ => some x
  | .shlk x _ _ _ => some x
  | .shrk x _ _ _ => some x
  | .sark x _ _ _ => some x
  | .rolk x _ _ _ => some x
  | .setu x _ _ => some x
  | .addh x _ _ _ => some x
  | .pcrel x _ _ => some x
  | .ldS8 x _ _ _ _ => some x
  | .ldS16 x _ _ _ _ => some x
  | .ldS32 x _ _ _ _ => some x
  | .ld64 x _ _ _ _ => some x
  | .ldU8 x _ _ _ _ => some x
  | .ldU16 x _ _ _ _ => some x
  | .ldU32 x _ _ _ _ => some x
  | .st8 x _ _ _ => some x
  | .st16 x _ _ _ => some x
  | .st32 x _ _ _ => some x
  | .st64 x _ _ _ => some x
  | .braEq x _ _ _ => some x
  | .braNe x _ _ _ => some x
  | .braLt x _ _ _ => some x
  | .braGe x _ _ _ => some x
  | .braLtu x _ _ _ => some x
  | .braGeu x _ _ _ => some x
  | .jmp x _ => some x
  | .call x _ => some x
  | .callr x _ _ _ => some x
  | .atSwap x _ _ _ _ _ => some x
  | .atAdd x _ _ _ _ _ => some x
  | .atAnd x _ _ _ _ _ => some x
  | .atOr x _ _ _ _ _ => some x
  | .atXor x _ _ _ _ _ => some x
  | .atMins x _ _ _ _ _ => some x
  | .atMaxs x _ _ _ _ _ => some x
  | .atMinu x _ _ _ _ _ => some x
  | .atMaxu x _ _ _ _ _ => some x
  | .atCas x _ _ _ _ _ => some x
  | .atSadd x _ _ _ _ _ => some x
  | .srd x _ _ => some x
  | .swr x _ _ => some x
  | .srs x _ _ _ => some x
  | .src x _ _ _ => some x
  | .trap x _ => some x
  | .brk x _ => some x
  | .eret x => some x
  | .fence x => some x
  | .fenceI x => some x
  | .cclean x _ => some x
  | .cinval x _ => some x
  | .cflush x _ => some x
  | .rulesync x => some x
  | .timerestep x _ => some x
  | .rput x _ _ _ => some x
  | .rget x _ _ _ => some x
  | .rbell x _ _ _ => some x
  | .rwait x _ _ => some x
  | .wline x _ _ _ => some x
  | .wlineI x _ _ => some x
  | .wframe x _ _ _ => some x
  | .wtime x _ _ => some x
  | .stamp x _ _ => some x
  | .commit x _ _ => some x
  | .place x _ _ _ => some x
  | .pick x _ _ => some x
  | .withhold x _ _ => some x
  | .trig x _ _ _ => some x
  | .tagld x _ _ _ => some x
  | .tagchk x _ _ => some x
  | .crc x _ _ _ _ => some x
  | .scan x _ _ _ => some x
  | .illegalInstruction x _ => some x
  | .jtagHalt x => some x
  | _ => none

namespace Laws.OneOrigin

/-- A command comes from one place at most. -/
def Statement (i : Instr) : Prop := [i.elapsed.isSome, i.sender.isSome, i.engine.isSome].count true ≤ 1

theorem refSwitch (t : Nat) : Statement (.refSwitch t) := Nat.le_refl 1
theorem refLostBoth (t : Nat) : Statement (.refLostBoth t) := Nat.le_refl 1
theorem clockLoss (t : Nat) (d : Fin 8) : Statement (.clockLoss t d) := Nat.le_refl 1
theorem clockDrift (t : Nat) (d : Fin 8) (khz : Nat) : Statement (.clockDrift t d khz) := Nat.le_refl 1
theorem sampleCfgWrite (i : Initiator) (v : Word) : Statement (.sampleCfgWrite i v) := Nat.le_refl 1
theorem registerWrite (i : Initiator) (a : PAddr) (v : Word) : Statement (.registerWrite i a v) := Nat.le_refl 1
theorem reg64LowWrite (i : Initiator) (a : PAddr) (v : Word) : Statement (.reg64LowWrite i a v) := Nat.le_refl 1
theorem reg64HighWrite (i : Initiator) (a : PAddr) (v : Word) : Statement (.reg64HighWrite i a v) := Nat.le_refl 1
theorem reg64LowRead (i : Initiator) (a : PAddr) : Statement (.reg64LowRead i a) := Nat.le_refl 1
theorem initiatorCheck (i : Initiator) (k : AccKind) (a : Nat) (len : Fin 257) (data : List Byte) : Statement (.initiatorCheck i k a len data) := Nat.le_refl 1
theorem targetCheck (n : Nat) (finds : List (Nat × MemFind)) : Statement (.targetCheck n finds) := Nat.zero_le 1
theorem patrolScrub (t : Nat) (words : Nat) (finds : List (Nat × MemFind)) : Statement (.patrolScrub t words finds) := Nat.le_refl 1
theorem lineStart (t : Nat) (h : Fin 48) (ups : List PixUpset) : Statement (.lineStart t h ups) := Nat.le_refl 1
theorem ageProgressVote (t : Nat) (h : Fin 48) (ups : List Upset) : Statement (.ageProgressVote t h ups) := Nat.le_refl 1
theorem integrityCompare (t : Nat) (h : Fin 48) : Statement (.integrityCompare t h) := Nat.le_refl 1
theorem voteComplete (t : Nat) (h : Fin 48) (ups : List Upset) (pilot : List (Fin 3)) (voters : List Upset) : Statement (.voteComplete t h ups pilot voters) := Nat.le_refl 1
theorem verdictDelivery (t : Nat) (h : Fin 48) : Statement (.verdictDelivery t h) := Nat.le_refl 1
theorem composeLine (t : Nat) (h : Fin 48) : Statement (.composeLine t h) := Nat.le_refl 1
theorem lineUnderrun (t : Nat) (h : Fin 48) (ws : List (Fin 2048)) : Statement (.lineUnderrun t h ws) := Nat.le_refl 1
theorem echoTimeout (t : Nat) (h : Fin 48) (line : Nat) (w : Fin 2048) : Statement (.echoTimeout t h line w) := Nat.le_refl 1
theorem vigilCtrlWrite (i : Initiator) (v : Word) : Statement (.vigilCtrlWrite i v) := Nat.le_refl 1
theorem colourWrite (i : Initiator) (c : Fin 8) (v : Word) : Statement (.colourWrite i c v) := Nat.le_refl 1
theorem vigilInject (i : Initiator) (v : Word) : Statement (.vigilInject i v) := Nat.le_refl 1
theorem frameStart (t : Nat) (h : Fin 48) : Statement (.frameStart t h) := Nat.le_refl 1
theorem apply (t : Nat) (u : Fin 64) : Statement (.apply t u) := Nat.le_refl 1
theorem applyDone (t : Nat) (u : Fin 64) : Statement (.applyDone t u) := Nat.le_refl 1
theorem commitReq (i : Initiator) (u : Fin 64) (v : Word) : Statement (.commitReq i u v) := Nat.le_refl 1
theorem timingWrite (i : Initiator) (h : Fin 48) (k : Fin 3) (v : Word) : Statement (.timingWrite i h k v) := Nat.le_refl 1
theorem headEnable (i : Initiator) (h : Fin 48) (v : Word) : Statement (.headEnable i h v) := Nat.le_refl 1
theorem headDisable (i : Initiator) (h : Fin 48) (v : Word) : Statement (.headDisable i h v) := Nat.le_refl 1
theorem refWrite (i : Initiator) (h : Fin 48) (v : Word) : Statement (.refWrite i h v) := Nat.le_refl 1
theorem genlockPulse (t : Nat) (n : Fin 2) (width : Nat) : Statement (.genlockPulse t n width) := Nat.le_refl 1
theorem pulseMissing (t : Nat) (h : Fin 48) : Statement (.pulseMissing t h) := Nat.le_refl 1
theorem genlockLost (t : Nat) (h : Fin 48) : Statement (.genlockLost t h) := Nat.le_refl 1
theorem virtualPulse (t : Nat) (h : Fin 48) : Statement (.virtualPulse t h) := Nat.le_refl 1
theorem spanEnable (i : Initiator) (s : Fin 16) (v : Word) : Statement (.spanEnable i s v) := Nat.le_refl 1
theorem spanDisable (i : Initiator) (s : Fin 16) (v : Word) : Statement (.spanDisable i s v) := Nat.le_refl 1
theorem spanMembersWrite (i : Initiator) (s : Fin 16) (k : Fin 3) (v : Word) : Statement (.spanMembersWrite i s k v) := Nat.le_refl 1
theorem maintenanceStart (t : Nat) (ch : Fin 32) (op : Maint) (dur : Nat) : Statement (.maintenanceStart t ch op dur) := Nat.le_refl 1
theorem refreshForced (t : Nat) (ch : Fin 32) : Statement (.refreshForced t ch) := Nat.le_refl 1
theorem add (e : Eng) (d : Fin 32) (a : Fin 32) (b : Fin 32) : Statement (.add e d a b) := Nat.le_refl 1
theorem sub (e : Eng) (d : Fin 32) (a : Fin 32) (b : Fin 32) : Statement (.sub e d a b) := Nat.le_refl 1
theorem and (e : Eng) (d : Fin 32) (a : Fin 32) (b : Fin 32) : Statement (.and e d a b) := Nat.le_refl 1
theorem or (e : Eng) (d : Fin 32) (a : Fin 32) (b : Fin 32) : Statement (.or e d a b) := Nat.le_refl 1
theorem xor (e : Eng) (d : Fin 32) (a : Fin 32) (b : Fin 32) : Statement (.xor e d a b) := Nat.le_refl 1
theorem shl (e : Eng) (d : Fin 32) (a : Fin 32) (b : Fin 32) : Statement (.shl e d a b) := Nat.le_refl 1
theorem shr (e : Eng) (d : Fin 32) (a : Fin 32) (b : Fin 32) : Statement (.shr e d a b) := Nat.le_refl 1
theorem sar (e : Eng) (d : Fin 32) (a : Fin 32) (b : Fin 32) : Statement (.sar e d a b) := Nat.le_refl 1
theorem lt (e : Eng) (d : Fin 32) (a : Fin 32) (b : Fin 32) : Statement (.lt e d a b) := Nat.le_refl 1
theorem ltu (e : Eng) (d : Fin 32) (a : Fin 32) (b : Fin 32) : Statement (.ltu e d a b) := Nat.le_refl 1
theorem mins (e : Eng) (d : Fin 32) (a : Fin 32) (b : Fin 32) : Statement (.mins e d a b) := Nat.le_refl 1
theorem maxs (e : Eng) (d : Fin 32) (a : Fin 32) (b : Fin 32) : Statement (.maxs e d a b) := Nat.le_refl 1
theorem minu (e : Eng) (d : Fin 32) (a : Fin 32) (b : Fin 32) : Statement (.minu e d a b) := Nat.le_refl 1
theorem maxu (e : Eng) (d : Fin 32) (a : Fin 32) (b : Fin 32) : Statement (.maxu e d a b) := Nat.le_refl 1
theorem andn (e : Eng) (d : Fin 32) (a : Fin 32) (b : Fin 32) : Statement (.andn e d a b) := Nat.le_refl 1
theorem rol (e : Eng) (d : Fin 32) (a : Fin 32) (b : Fin 32) : Statement (.rol e d a b) := Nat.le_refl 1
theorem mul (e : Eng) (d : Fin 32) (a : Fin 32) (b : Fin 32) : Statement (.mul e d a b) := Nat.le_refl 1
theorem mulhs (e : Eng) (d : Fin 32) (a : Fin 32) (b : Fin 32) : Statement (.mulhs e d a b) := Nat.le_refl 1
theorem mulhu (e : Eng) (d : Fin 32) (a : Fin 32) (b : Fin 32) : Statement (.mulhu e d a b) := Nat.le_refl 1
theorem quos (e : Eng) (d : Fin 32) (a : Fin 32) (b : Fin 32) : Statement (.quos e d a b) := Nat.le_refl 1
theorem quou (e : Eng) (d : Fin 32) (a : Fin 32) (b : Fin 32) : Statement (.quou e d a b) := Nat.le_refl 1
theorem mods (e : Eng) (d : Fin 32) (a : Fin 32) (b : Fin 32) : Statement (.mods e d a b) := Nat.le_refl 1
theorem modu (e : Eng) (d : Fin 32) (a : Fin 32) (b : Fin 32) : Statement (.modu e d a b) := Nat.le_refl 1
theorem add32 (e : Eng) (d : Fin 32) (a : Fin 32) (b : Fin 32) : Statement (.add32 e d a b) := Nat.le_refl 1
theorem sub32 (e : Eng) (d : Fin 32) (a : Fin 32) (b : Fin 32) : Statement (.sub32 e d a b) := Nat.le_refl 1
theorem shl32 (e : Eng) (d : Fin 32) (a : Fin 32) (b : Fin 32) : Statement (.shl32 e d a b) := Nat.le_refl 1
theorem shr32 (e : Eng) (d : Fin 32) (a : Fin 32) (b : Fin 32) : Statement (.shr32 e d a b) := Nat.le_refl 1
theorem sar32 (e : Eng) (d : Fin 32) (a : Fin 32) (b : Fin 32) : Statement (.sar32 e d a b) := Nat.le_refl 1
theorem mul32 (e : Eng) (d : Fin 32) (a : Fin 32) (b : Fin 32) : Statement (.mul32 e d a b) := Nat.le_refl 1
theorem sext32 (e : Eng) (d : Fin 32) (a : Fin 32) (b : Fin 32) : Statement (.sext32 e d a b) := Nat.le_refl 1
theorem bswap (e : Eng) (d : Fin 32) (a : Fin 32) (b : Fin 32) : Statement (.bswap e d a b) := Nat.le_refl 1
theorem lzc (e : Eng) (d : Fin 32) (a : Fin 32) (b : Fin 32) : Statement (.lzc e d a b) := Nat.le_refl 1
theorem tzc (e : Eng) (d : Fin 32) (a : Fin 32) (b : Fin 32) : Statement (.tzc e d a b) := Nat.le_refl 1
theorem ones (e : Eng) (d : Fin 32) (a : Fin 32) (b : Fin 32) : Statement (.ones e d a b) := Nat.le_refl 1
theorem addk (e : Eng) (d : Fin 32) (a : Fin 32) (imm : BitVec 16) : Statement (.addk e d a imm) := Nat.le_refl 1
theorem addk32 (e : Eng) (d : Fin 32) (a : Fin 32) (imm : BitVec 16) : Statement (.addk32 e d a imm) := Nat.le_refl 1
theorem andk (e : Eng) (d : Fin 32) (a : Fin 32) (imm : BitVec 16) : Statement (.andk e d a imm) := Nat.le_refl 1
theorem ork (e : Eng) (d : Fin 32) (a : Fin 32) (imm : BitVec 16) : Statement (.ork e d a imm) := Nat.le_refl 1
theorem xork (e : Eng) (d : Fin 32) (a : Fin 32) (imm : BitVec 16) : Statement (.xork e d a imm) := Nat.le_refl 1
theorem ltk (e : Eng) (d : Fin 32) (a : Fin 32) (imm : BitVec 16) : Statement (.ltk e d a imm) := Nat.le_refl 1
theorem ltuk (e : Eng) (d : Fin 32) (a : Fin 32) (imm : BitVec 16) : Statement (.ltuk e d a imm) := Nat.le_refl 1
theorem shlk (e : Eng) (d : Fin 32) (a : Fin 32) (imm : BitVec 16) : Statement (.shlk e d a imm) := Nat.le_refl 1
theorem shrk (e : Eng) (d : Fin 32) (a : Fin 32) (imm : BitVec 16) : Statement (.shrk e d a imm) := Nat.le_refl 1
theorem sark (e : Eng) (d : Fin 32) (a : Fin 32) (imm : BitVec 16) : Statement (.sark e d a imm) := Nat.le_refl 1
theorem rolk (e : Eng) (d : Fin 32) (a : Fin 32) (imm : BitVec 16) : Statement (.rolk e d a imm) := Nat.le_refl 1
theorem setu (e : Eng) (d : Fin 32) (imm : BitVec 21) : Statement (.setu e d imm) := Nat.le_refl 1
theorem addh (e : Eng) (d : Fin 32) (a : Fin 32) (imm : BitVec 16) : Statement (.addh e d a imm) := Nat.le_refl 1
theorem pcrel (e : Eng) (d : Fin 32) (imm : BitVec 21) : Statement (.pcrel e d imm) := Nat.le_refl 1
theorem ldS8 (e : Eng) (d : Fin 32) (a : Fin 32) (imm : BitVec 16) (find : MemFind) : Statement (.ldS8 e d a imm find) := Nat.le_refl 1
theorem ldS16 (e : Eng) (d : Fin 32) (a : Fin 32) (imm : BitVec 16) (find : MemFind) : Statement (.ldS16 e d a imm find) := Nat.le_refl 1
theorem ldS32 (e : Eng) (d : Fin 32) (a : Fin 32) (imm : BitVec 16) (find : MemFind) : Statement (.ldS32 e d a imm find) := Nat.le_refl 1
theorem ld64 (e : Eng) (d : Fin 32) (a : Fin 32) (imm : BitVec 16) (find : MemFind) : Statement (.ld64 e d a imm find) := Nat.le_refl 1
theorem ldU8 (e : Eng) (d : Fin 32) (a : Fin 32) (imm : BitVec 16) (find : MemFind) : Statement (.ldU8 e d a imm find) := Nat.le_refl 1
theorem ldU16 (e : Eng) (d : Fin 32) (a : Fin 32) (imm : BitVec 16) (find : MemFind) : Statement (.ldU16 e d a imm find) := Nat.le_refl 1
theorem ldU32 (e : Eng) (d : Fin 32) (a : Fin 32) (imm : BitVec 16) (find : MemFind) : Statement (.ldU32 e d a imm find) := Nat.le_refl 1
theorem st8 (e : Eng) (d : Fin 32) (a : Fin 32) (imm : BitVec 16) : Statement (.st8 e d a imm) := Nat.le_refl 1
theorem st16 (e : Eng) (d : Fin 32) (a : Fin 32) (imm : BitVec 16) : Statement (.st16 e d a imm) := Nat.le_refl 1
theorem st32 (e : Eng) (d : Fin 32) (a : Fin 32) (imm : BitVec 16) : Statement (.st32 e d a imm) := Nat.le_refl 1
theorem st64 (e : Eng) (d : Fin 32) (a : Fin 32) (imm : BitVec 16) : Statement (.st64 e d a imm) := Nat.le_refl 1
theorem braEq (e : Eng) (a : Fin 32) (b : Fin 32) (off : BitVec 16) : Statement (.braEq e a b off) := Nat.le_refl 1
theorem braNe (e : Eng) (a : Fin 32) (b : Fin 32) (off : BitVec 16) : Statement (.braNe e a b off) := Nat.le_refl 1
theorem braLt (e : Eng) (a : Fin 32) (b : Fin 32) (off : BitVec 16) : Statement (.braLt e a b off) := Nat.le_refl 1
theorem braGe (e : Eng) (a : Fin 32) (b : Fin 32) (off : BitVec 16) : Statement (.braGe e a b off) := Nat.le_refl 1
theorem braLtu (e : Eng) (a : Fin 32) (b : Fin 32) (off : BitVec 16) : Statement (.braLtu e a b off) := Nat.le_refl 1
theorem braGeu (e : Eng) (a : Fin 32) (b : Fin 32) (off : BitVec 16) : Statement (.braGeu e a b off) := Nat.le_refl 1
theorem jmp (e : Eng) (off : BitVec 26) : Statement (.jmp e off) := Nat.le_refl 1
theorem call (e : Eng) (off : BitVec 26) : Statement (.call e off) := Nat.le_refl 1
theorem callr (e : Eng) (d : Fin 32) (a : Fin 32) (imm : BitVec 16) : Statement (.callr e d a imm) := Nat.le_refl 1
theorem atSwap (e : Eng) (d : Fin 32) (a : Fin 32) (b : Fin 32) (w64 : Bool) (find : MemFind) : Statement (.atSwap e d a b w64 find) := Nat.le_refl 1
theorem atAdd (e : Eng) (d : Fin 32) (a : Fin 32) (b : Fin 32) (w64 : Bool) (find : MemFind) : Statement (.atAdd e d a b w64 find) := Nat.le_refl 1
theorem atAnd (e : Eng) (d : Fin 32) (a : Fin 32) (b : Fin 32) (w64 : Bool) (find : MemFind) : Statement (.atAnd e d a b w64 find) := Nat.le_refl 1
theorem atOr (e : Eng) (d : Fin 32) (a : Fin 32) (b : Fin 32) (w64 : Bool) (find : MemFind) : Statement (.atOr e d a b w64 find) := Nat.le_refl 1
theorem atXor (e : Eng) (d : Fin 32) (a : Fin 32) (b : Fin 32) (w64 : Bool) (find : MemFind) : Statement (.atXor e d a b w64 find) := Nat.le_refl 1
theorem atMins (e : Eng) (d : Fin 32) (a : Fin 32) (b : Fin 32) (w64 : Bool) (find : MemFind) : Statement (.atMins e d a b w64 find) := Nat.le_refl 1
theorem atMaxs (e : Eng) (d : Fin 32) (a : Fin 32) (b : Fin 32) (w64 : Bool) (find : MemFind) : Statement (.atMaxs e d a b w64 find) := Nat.le_refl 1
theorem atMinu (e : Eng) (d : Fin 32) (a : Fin 32) (b : Fin 32) (w64 : Bool) (find : MemFind) : Statement (.atMinu e d a b w64 find) := Nat.le_refl 1
theorem atMaxu (e : Eng) (d : Fin 32) (a : Fin 32) (b : Fin 32) (w64 : Bool) (find : MemFind) : Statement (.atMaxu e d a b w64 find) := Nat.le_refl 1
theorem atCas (e : Eng) (d : Fin 32) (a : Fin 32) (b : Fin 32) (w64 : Bool) (find : MemFind) : Statement (.atCas e d a b w64 find) := Nat.le_refl 1
theorem atSadd (e : Eng) (d : Fin 32) (a : Fin 32) (b : Fin 32) (w64 : Bool) (find : MemFind) : Statement (.atSadd e d a b w64 find) := Nat.le_refl 1
theorem srd (e : Eng) (d : Fin 32) (sr : Fin 4096) : Statement (.srd e d sr) := Nat.le_refl 1
theorem swr (e : Eng) (sr : Fin 4096) (a : Fin 32) : Statement (.swr e sr a) := Nat.le_refl 1
theorem srs (e : Eng) (d : Fin 32) (sr : Fin 4096) (a : Fin 32) : Statement (.srs e d sr a) := Nat.le_refl 1
theorem src (e : Eng) (d : Fin 32) (sr : Fin 4096) (a : Fin 32) : Statement (.src e d sr a) := Nat.le_refl 1
theorem trap (e : Eng) (code : Fin 4096) : Statement (.trap e code) := Nat.le_refl 1
theorem brk (e : Eng) (code : Fin 4096) : Statement (.brk e code) := Nat.le_refl 1
theorem eret (e : Eng) : Statement (.eret e) := Nat.le_refl 1
theorem fence (e : Eng) : Statement (.fence e) := Nat.le_refl 1
theorem fenceI (e : Eng) : Statement (.fenceI e) := Nat.le_refl 1
theorem cclean (e : Eng) (a : Fin 32) : Statement (.cclean e a) := Nat.le_refl 1
theorem cinval (e : Eng) (a : Fin 32) : Statement (.cinval e a) := Nat.le_refl 1
theorem cflush (e : Eng) (a : Fin 32) : Statement (.cflush e a) := Nat.le_refl 1
theorem rulesync (e : Eng) : Statement (.rulesync e) := Nat.le_refl 1
theorem rulesyncDone (t : Nat) (c : Fin 16) : Statement (.rulesyncDone t c) := Nat.le_refl 1
theorem timerestep (e : Eng) (a : Fin 32) : Statement (.timerestep e a) := Nat.le_refl 1
theorem rput (e : Eng) (d : Fin 32) (a : Fin 32) (b : Fin 32) : Statement (.rput e d a b) := Nat.le_refl 1
theorem rget (e : Eng) (d : Fin 32) (a : Fin 32) (b : Fin 32) : Statement (.rget e d a b) := Nat.le_refl 1
theorem rbell (e : Eng) (d : Fin 32) (a : Fin 32) (b : Fin 32) : Statement (.rbell e d a b) := Nat.le_refl 1
theorem rwait (e : Eng) (d : Fin 32) (a : Fin 32) : Statement (.rwait e d a) := Nat.le_refl 1
theorem rwaitDone (t : Nat) (c : Fin 16) : Statement (.rwaitDone t c) := Nat.le_refl 1
theorem impreciseStoreRefusal (t : Nat) (c : Fin 16) : Statement (.impreciseStoreRefusal t c) := Nat.le_refl 1
theorem attention (t : Nat) (c : Fin 16) : Statement (.attention t c) := Nat.le_refl 1
theorem coreStart (i : Initiator) (c : Fin 16) (v : Word) : Statement (.coreStart i c v) := Nat.le_refl 1
theorem coreHalt (i : Initiator) (c : Fin 16) (v : Word) : Statement (.coreHalt i c v) := Nat.le_refl 1
theorem coreWatchdog (t : Nat) (c : Fin 16) : Statement (.coreWatchdog t c) := Nat.le_refl 1
theorem wdogKick (i : Initiator) (c : Fin 16) (v : Word) : Statement (.wdogKick i c v) := Nat.le_refl 1
theorem l2SramWaysWrite (i : Initiator) (v : Word) : Statement (.l2SramWaysWrite i v) := Nat.le_refl 1
theorem l2ReconfigDone (t : Nat) : Statement (.l2ReconfigDone t) := Nat.le_refl 1
theorem ncWindowWrite (i : Initiator) (n : Fin 4) (limit : Bool) (v : Word) : Statement (.ncWindowWrite i n limit v) := Nat.le_refl 1
theorem wline (e : Eng) (d : Fin 32) (a : Fin 32) (b : Fin 32) : Statement (.wline e d a b) := Nat.le_refl 1
theorem wlineI (e : Eng) (d : Fin 32) (imm : BitVec 16) : Statement (.wlineI e d imm) := Nat.le_refl 1
theorem wframe (e : Eng) (d : Fin 32) (a : Fin 32) (b : Fin 32) : Statement (.wframe e d a b) := Nat.le_refl 1
theorem wtime (e : Eng) (d : Fin 32) (a : Fin 32) : Statement (.wtime e d a) := Nat.le_refl 1
theorem waitDone (t : Nat) (e : Eng) : Statement (.waitDone t e) := Nat.le_refl 1
theorem stamp (e : Eng) (d : Fin 32) (b : Fin 32) : Statement (.stamp e d b) := Nat.le_refl 1
theorem commit (e : Eng) (d : Fin 32) (b : Fin 32) : Statement (.commit e d b) := Nat.le_refl 1
theorem place (e : Eng) (d : Fin 32) (a : Fin 32) (b : Fin 32) : Statement (.place e d a b) := Nat.le_refl 1
theorem pick (e : Eng) (d : Fin 32) (a : Fin 32) : Statement (.pick e d a) := Nat.le_refl 1
theorem withhold (e : Eng) (d : Fin 32) (a : Fin 32) : Statement (.withhold e d a) := Nat.le_refl 1
theorem trig (e : Eng) (d : Fin 32) (a : Fin 32) (b : Fin 32) : Statement (.trig e d a b) := Nat.le_refl 1
theorem tagld (e : Eng) (d : Fin 32) (a : Fin 32) (b : Fin 32) : Statement (.tagld e d a b) := Nat.le_refl 1
theorem tagchk (e : Eng) (d : Fin 32) (a : Fin 32) : Statement (.tagchk e d a) := Nat.le_refl 1
theorem crc (e : Eng) (d : Fin 32) (a : Fin 32) (b : Fin 32) (n : Fin 4) : Statement (.crc e d a b n) := Nat.le_refl 1
theorem scan (e : Eng) (d : Fin 32) (a : Fin 32) (b : Fin 32) : Statement (.scan e d a b) := Nat.le_refl 1
theorem seqStart (i : Initiator) (n : Fin 48) (v : Word) : Statement (.seqStart i n v) := Nat.le_refl 1
theorem seqHalt (i : Initiator) (n : Fin 48) (v : Word) : Statement (.seqHalt i n v) := Nat.le_refl 1
theorem seqBudget (t : Nat) (n : Fin 48) : Statement (.seqBudget t n) := Nat.le_refl 1
theorem seqWatchdog (t : Nat) (n : Fin 48) : Statement (.seqWatchdog t n) := Nat.le_refl 1
theorem seqMemWrite (i : Initiator) (n : Fin 48) (o : Fin 4096) (v : Word) : Statement (.seqMemWrite i n o v) := Nat.le_refl 1
theorem placeCtlGo (i : Initiator) (v : Word) : Statement (.placeCtlGo i v) := Nat.le_refl 1
theorem descriptorWrite (i : Initiator) (w : Fin 2048) (k : Fin 16) (v : Word) : Statement (.descriptorWrite i w k v) := Nat.le_refl 1
theorem coefLoadGo (i : Initiator) (v : Word) : Statement (.coefLoadGo i v) := Nat.le_refl 1
theorem coefLoadDone (t : Nat) : Statement (.coefLoadDone t) := Nat.le_refl 1
theorem copySetEnable (i : Initiator) (k : Fin 256) (v : Word) : Statement (.copySetEnable i k v) := Nat.le_refl 1
theorem copyJobStart (t : Nat) (n : Fin 4) : Statement (.copyJobStart t n) := Nat.le_refl 1
theorem copyJobDone (t : Nat) (n : Fin 4) : Statement (.copyJobDone t n) := Nat.le_refl 1
theorem contextOpen (i : Initiator) (c : Fin 4096) (v : Word) : Statement (.contextOpen i c v) := Nat.le_refl 1
theorem contextClose (i : Initiator) (c : Fin 4096) (v : Word) : Statement (.contextClose i c v) := Nat.le_refl 1
theorem contextDrained (t : Nat) (c : Fin 4096) : Statement (.contextDrained t c) := Nat.le_refl 1
theorem contextFieldWrite (i : Initiator) (c : Fin 4096) (k : Fin 32) (v : Word) : Statement (.contextFieldWrite i c k v) := Nat.le_refl 1
theorem ruleAdd (i : Initiator) (v : Word) : Statement (.ruleAdd i v) := Nat.le_refl 1
theorem ruleDel (i : Initiator) (v : Word) : Statement (.ruleDel i v) := Nat.le_refl 1
theorem ruleRead (i : Initiator) (v : Word) : Statement (.ruleRead i v) := Nat.le_refl 1
theorem ruleCmdDone (t : Nat) : Statement (.ruleCmdDone t) := Nat.le_refl 1
theorem ethRxFrame (t : Nat) (p : Fin 5) (fcsOk : Bool) (frame : List Byte) : Statement (.ethRxFrame t p fcsOk frame) := Nat.le_refl 1
theorem gapDeclaredLost (t : Nat) (c : Fin 4096) : Statement (.gapDeclaredLost t c) := Nat.le_refl 1
theorem networkSilent (t : Nat) (c : Fin 4096) (netB : Bool) : Statement (.networkSilent t c netB) := Nat.le_refl 1
theorem pipeDispatch (t : Nat) (p : Fin 16) : Statement (.pipeDispatch t p) := Nat.le_refl 1
theorem pictureDecoded (t : Nat) (p : Fin 16) (pic : DecodedPic) : Statement (.pictureDecoded t p pic) := Nat.le_refl 1
theorem slotWaitExpiry (t : Nat) (p : Fin 16) : Statement (.slotWaitExpiry t p) := Nat.le_refl 1
theorem bufReturn (i : Initiator) (v : Word) : Statement (.bufReturn i v) := Nat.le_refl 1
theorem keypicRequest (t : Nat) (c : Fin 4096) : Statement (.keypicRequest t c) := Nat.le_refl 1
theorem contextMigrate (t : Nat) : Statement (.contextMigrate t) := Nat.le_refl 1
theorem pipeRateUpdate (t : Nat) (p : PipeSpan) : Statement (.pipeRateUpdate t p) := Nat.le_refl 1
theorem pipeStallFail (t : Nat) (p : Fin 16) (internal : Bool) : Statement (.pipeStallFail t p internal) := Nat.le_refl 1
theorem decPipeEnWrite (i : Initiator) (v : Word) : Statement (.decPipeEnWrite i v) := Nat.le_refl 1
theorem sessionEnable (i : Initiator) (n : Fin 16) (v : Word) : Statement (.sessionEnable i n v) := Nat.le_refl 1
theorem sessionFieldWrite (i : Initiator) (n : Fin 16) (k : Fin 32) (v : Word) : Statement (.sessionFieldWrite i n k v) := Nat.le_refl 1
theorem keyReq (i : Initiator) (n : Fin 16) (v : Word) : Statement (.keyReq i n v) := Nat.le_refl 1
theorem encRow (t : Nat) (n : Fin 16) (row : EncRow) : Statement (.encRow t n row) := Nat.le_refl 1
theorem encPipeStall (t : Nat) (p : Fin 8) (internal : Bool) : Statement (.encPipeStall t p internal) := Nat.le_refl 1
theorem encPipeEnWrite (i : Initiator) (v : Word) : Statement (.encPipeEnWrite i v) := Nat.le_refl 1
theorem ethTxFrame (t : Nat) (p : Fin 5) : Statement (.ethTxFrame t p) := Nat.le_refl 1
theorem hosttxEntry (t : Nat) : Statement (.hosttxEntry t) := Nat.le_refl 1
theorem portEnable (i : Initiator) (p : Fin 4) (v : Word) : Statement (.portEnable i p v) := Nat.le_refl 1
theorem portUp (t : Nat) (p : Fin 4) : Statement (.portUp t p) := Nat.le_refl 1
theorem portDown (t : Nat) (p : Fin 4) (cause : Fin 4) : Statement (.portDown t p cause) := Nat.le_refl 1
theorem mgmtEnable (i : Initiator) (v : Word) : Statement (.mgmtEnable i v) := Nat.le_refl 1
theorem mdioGo (i : Initiator) (v : Word) : Statement (.mdioGo i v) := Nat.le_refl 1
theorem mdioDone (t : Nat) (data : BitVec 16) : Statement (.mdioDone t data) := Nat.le_refl 1
theorem servoSample (i : Initiator) (v : Dword) : Statement (.servoSample i v) := Nat.le_refl 1
theorem freqWrite (i : Initiator) (v : Word) : Statement (.freqWrite i v) := Nat.le_refl 1
theorem servoCfgWrite (i : Initiator) (v : Word) : Statement (.servoCfgWrite i v) := Nat.le_refl 1
theorem servoHoldover (t : Nat) : Statement (.servoHoldover t) := Nat.le_refl 1
theorem timeStepApply (t : Nat) : Statement (.timeStepApply t) := Nat.le_refl 1
theorem timeTriggerFire (t : Nat) (n : Fin 16) : Statement (.timeTriggerFire t n) := Nat.le_refl 1
theorem triggerCtlWrite (i : Initiator) (n : Fin 16) (k : Fin 8) (v : Word) : Statement (.triggerCtlWrite i n k v) := Nat.le_refl 1
theorem laneEnable (i : Initiator) (l : Fin 64) (v : Word) : Statement (.laneEnable i l v) := Nat.le_refl 1
theorem laneDisable (i : Initiator) (l : Fin 64) (v : Word) : Statement (.laneDisable i l v) := Nat.le_refl 1
theorem bringupStageDone (t : Nat) (l : Fin 64) (obs : StageObs) : Statement (.bringupStageDone t l obs) := Nat.le_refl 1
theorem bringupTimeout (t : Nat) (l : Fin 64) : Statement (.bringupTimeout t l) := Nat.le_refl 1
theorem bringupRestart (t : Nat) (l : Fin 64) : Statement (.bringupRestart t l) := Nat.le_refl 1
theorem capSend (t : Nat) (l : Fin 64) : Statement (.capSend t l) := Nat.le_refl 1
theorem blockReceived (t : Nat) (l : Fin 64) (bits : List Bool) : Statement (.blockReceived t l bits) := Nat.le_refl 1
theorem laneSignalLoss (t : Nat) (l : Fin 64) : Statement (.laneSignalLoss t l) := Nat.le_refl 1
theorem laneBeaconTimeout (t : Nat) (l : Fin 64) : Statement (.laneBeaconTimeout t l) := Nat.le_refl 1
theorem blockSend (t : Nat) (l : Fin 64) : Statement (.blockSend t l) := Nat.le_refl 1
theorem outmapWrite (i : Initiator) (h : Fin 32) (v : Word) : Statement (.outmapWrite i h v) := Nat.le_refl 1
theorem sensemapWrite (i : Initiator) (k : Fin 32) (v : Word) : Statement (.sensemapWrite i k v) := Nat.le_refl 1
theorem hostLaneTx (t : Nat) : Statement (.hostLaneTx t) := Nat.le_refl 1
theorem loopWrite (i : Initiator) (l : Fin 64) (v : Word) : Statement (.loopWrite i l v) := Nat.le_refl 1
theorem panelEnable (i : Initiator) (p : Fin 34) (v : Word) : Statement (.panelEnable i p v) := Nat.le_refl 1
theorem panelDisable (i : Initiator) (p : Fin 34) (v : Word) : Statement (.panelDisable i p v) := Nat.le_refl 1
theorem senseCmdTimeout (t : Nat) (p : Fin 34) : Statement (.senseCmdTimeout t p) := Nat.le_refl 1
theorem localScanDone (t : Nat) (p : Fin 34) (counts : List (BitVec 16)) : Statement (.localScanDone t p counts) := Nat.le_refl 1
theorem touchFrameTimeout (t : Nat) (p : Fin 34) : Statement (.touchFrameTimeout t p) := Nat.le_refl 1
theorem waterTimeout (t : Nat) (p : Fin 34) : Statement (.waterTimeout t p) := Nat.le_refl 1
theorem touchRateStep (t : Nat) (p : Fin 34) : Statement (.touchRateStep t p) := Nat.le_refl 1
theorem touchCmdTest (i : Initiator) (p : Fin 34) (v : Word) : Statement (.touchCmdTest i p v) := Nat.le_refl 1
theorem touchCmdRecover (i : Initiator) (p : Fin 34) (v : Word) : Statement (.touchCmdRecover i p v) := Nat.le_refl 1
theorem audioSideEnable (i : Initiator) (p : Fin 16) (rx : Bool) (v : Word) : Statement (.audioSideEnable i p rx v) := Nat.le_refl 1
theorem audioFrameStart (t : Nat) (p : Fin 16) (rx : Bool) (samples : List (BitVec 24)) : Statement (.audioFrameStart t p rx samples) := Nat.le_refl 1
theorem maskWrite (i : Initiator) (p : Fin 16) (rx : Bool) (v : Word) : Statement (.maskWrite i p rx v) := Nat.le_refl 1
theorem audioClockAbsent (t : Nat) (p : Fin 16) (rx : Bool) : Statement (.audioClockAbsent t p rx) := Nat.le_refl 1
theorem audioRateGate (t : Nat) (p : Fin 16) (rx : Bool) (hz : Nat) : Statement (.audioRateGate t p rx hz) := Nat.le_refl 1
theorem audioClockRestored (t : Nat) (p : Fin 16) (rx : Bool) : Statement (.audioClockRestored t p rx) := Nat.le_refl 1
theorem audioPacketTx (t : Nat) (c : Fin 4096) : Statement (.audioPacketTx t c) := Nat.le_refl 1
theorem rulesetActivate (i : Initiator) (v : Word) : Statement (.rulesetActivate i v) := Nat.le_refl 1
theorem rulesetActivateDone (t : Nat) : Statement (.rulesetActivateDone t) := Nat.le_refl 1
theorem bindWrite (i : Initiator) (n : Fin 128) (v : Word) : Statement (.bindWrite i n v) := Nat.le_refl 1
theorem lockdownWrite (i : Initiator) (v : Word) : Statement (.lockdownWrite i v) := Nat.le_refl 1
theorem ringEnable (i : Initiator) (k : Fin 128) (v : Word) : Statement (.ringEnable i k v) := Nat.le_refl 1
theorem ringDisable (i : Initiator) (k : Fin 128) (v : Word) : Statement (.ringDisable i k v) := Nat.le_refl 1
theorem doorbell (i : Initiator) (k : Fin 128) (v : Word) : Statement (.doorbell i k v) := Nat.le_refl 1
theorem ringAgeAttention (t : Nat) (k : Fin 128) : Statement (.ringAgeAttention t k) := Nat.le_refl 1
theorem chkJobDone (t : Nat) (u : Fin 8) : Statement (.chkJobDone t u) := Nat.le_refl 1
theorem faultRecordPost (t : Nat) : Statement (.faultRecordPost t) := Nat.le_refl 1
theorem counterClear (i : Initiator) (v : Word) : Statement (.counterClear i v) := Nat.le_refl 1
theorem vinStartReached (t : Nat) (mv : Nat) : Statement (.vinStartReached t mv) := Nat.le_refl 1
theorem inrushEnd (t : Nat) (us : Nat) : Statement (.inrushEnd t us) := Nat.le_refl 1
theorem inrushTimeout (t : Nat) (vibOk : Bool) : Statement (.inrushTimeout t vibOk) := Nat.le_refl 1
theorem startStepDone (t : Nat) (temp : Int) (extOk : Bool) (repairOk : Bool) : Statement (.startStepDone t temp extOk repairOk) := Nat.le_refl 1
theorem startStepTimeout (t : Nat) : Statement (.startStepTimeout t) := Nat.le_refl 1
theorem warmDone (t : Nat) : Statement (.warmDone t) := Nat.le_refl 1
theorem vinWarnCross (t : Nat) (mv : Nat) : Statement (.vinWarnCross t mv) := Nat.le_refl 1
theorem vinRecover (t : Nat) (mv : Nat) : Statement (.vinRecover t mv) := Nat.le_refl 1
theorem vinResetCross (t : Nat) : Statement (.vinResetCross t) := Nat.le_refl 1
theorem vinHigh (t : Nat) (mv : Nat) : Statement (.vinHigh t mv) := Nat.le_refl 1
theorem vinOv (t : Nat) (mv : Nat) : Statement (.vinOv t mv) := Nat.le_refl 1
theorem iinLimit (t : Nat) (ma : Nat) : Statement (.iinLimit t ma) := Nat.le_refl 1
theorem railToleranceFault (t : Nat) (r : Fin 12) (high : Bool) : Statement (.railToleranceFault t r high) := Nat.le_refl 1
theorem railHardFault (t : Nat) (r : Fin 12) (trip : Bool) : Statement (.railHardFault t r trip) := Nat.le_refl 1
theorem holdupLow (t : Nat) (mv : Nat) : Statement (.holdupLow t mv) := Nat.le_refl 1
theorem wakeAdmit (t : Nat) (lane : Bool) (n : Fin 64) : Statement (.wakeAdmit t lane n) := Nat.le_refl 1
theorem governorStep (t : Nat) (pin : Nat) : Statement (.governorStep t pin) := Nat.le_refl 1
theorem governorRelease (t : Nat) (pin : Nat) : Statement (.governorRelease t pin) := Nat.le_refl 1
theorem holdupReserveReached (t : Nat) (mv : Nat) : Statement (.holdupReserveReached t mv) := Nat.le_refl 1
theorem orderlyStopDone (t : Nat) : Statement (.orderlyStopDone t) := Nat.le_refl 1
theorem autoRestart (t : Nat) : Statement (.autoRestart t) := Nat.le_refl 1
theorem stopWrite (i : Initiator) (v : Word) : Statement (.stopWrite i v) := Nat.le_refl 1
theorem vinWarnCfgWrite (i : Initiator) (v : Word) : Statement (.vinWarnCfgWrite i v) := Nat.le_refl 1
theorem tempSample (t : Nat) (raw : List (Option Int)) : Statement (.tempSample t raw) := Nat.le_refl 1
theorem sensorFail (t : Nat) (n : Fin 24) : Statement (.sensorFail t n) := Nat.le_refl 1
theorem thermalCapStep (t : Nat) : Statement (.thermalCapStep t) := Nat.le_refl 1
theorem hardTrip (t : Nat) : Statement (.hardTrip t) := Nat.le_refl 1
theorem ledgerSecond (t : Nat) (mv : Nat) : Statement (.ledgerSecond t mv) := Nat.le_refl 1
theorem pmonMeasure (t : Nat) (drift : List Int) : Statement (.pmonMeasure t drift) := Nat.le_refl 1
theorem ledgerRecordWrite (t : Nat) : Statement (.ledgerRecordWrite t) := Nat.le_refl 1
theorem ledgerSave (i : Initiator) (v : Word) : Statement (.ledgerSave i v) := Nat.le_refl 1
theorem ledgerWriteDone (t : Nat) (ok : Bool) : Statement (.ledgerWriteDone t ok) := Nat.le_refl 1
theorem modeReqWrite (i : Initiator) (v : Word) : Statement (.modeReqWrite i v) := Nat.le_refl 1
theorem warmReset (i : Initiator) (v : Word) : Statement (.warmReset i v) := Nat.le_refl 1
theorem resetNAssert (t : Nat) : Statement (.resetNAssert t) := Nat.le_refl 1
theorem resetNRelease (t : Nat) : Statement (.resetNRelease t) := Nat.le_refl 1
theorem selfTestDone (t : Nat) (results : List TestResult) (repairs : RepairFind) (mainOk : Bool) : Statement (.selfTestDone t results repairs mainOk) := Nat.le_refl 1
theorem testConditionsRetry (t : Nat) (u : Fin 256) : Statement (.testConditionsRetry t u) := Nat.le_refl 1
theorem bootLoadDone (t : Nat) (sfdp : Option Sfdp) (sigA : Bool) (sigB : Bool) : Statement (.bootLoadDone t sfdp sigA sigB) := Nat.le_refl 1
theorem bootConfirm (i : Initiator) (v : Word) : Statement (.bootConfirm i v) := Nat.le_refl 1
theorem bootWdog (t : Nat) : Statement (.bootWdog t) := Nat.le_refl 1
theorem fenceWrite (i : Initiator) (k : Fin 7) (v : Word) : Statement (.fenceWrite i k v) := Nat.le_refl 1
theorem fuseSramRepair (i : Initiator) (v : Word) : Statement (.fuseSramRepair i v) := Nat.le_refl 1
theorem fuseFence (i : Initiator) (v : Word) : Statement (.fuseFence i v) := Nat.le_refl 1
theorem fuseCmdDone (t : Nat) (verify : List Bool) : Statement (.fuseCmdDone t verify) := Nat.le_refl 1
theorem pprGo (i : Initiator) (v : Word) : Statement (.pprGo i v) := Nat.le_refl 1
theorem pprDone (t : Nat) (resource : Bool) : Statement (.pprDone t resource) := Nat.le_refl 1
theorem istGo (i : Initiator) (v : Word) : Statement (.istGo i v) := Nat.le_refl 1
theorem istDone (t : Nat) (result : Fin 8) (detail : BitVec 8) (soft : List (BitVec 24)) : Statement (.istDone t result detail soft) := Nat.le_refl 1
theorem illegalInstruction (e : Eng) (w : Word) : Statement (.illegalInstruction e w) := Nat.le_refl 1
theorem sampleReturns (t : Nat) : Statement (.sampleReturns t) := Nat.le_refl 1
theorem vaonLost (t : Nat) : Statement (.vaonLost t) := Nat.le_refl 1
theorem jtagHalt (e : Eng) : Statement (.jtagHalt e) := Nat.le_refl 1
theorem testOutOfConditions (t : Nat) : Statement (.testOutOfConditions t) := Nat.le_refl 1
theorem deratedTimer (t : Nat) : Statement (.deratedTimer t) := Nat.le_refl 1

end Laws.OneOrigin

end Sys2Proof
end

