-- ==== Sys2Proof/Laws/Priad.lean ====
section
/-! SUPPORT. What issuing a Priad instruction does once: at a boundary at which nothing else is to be taken, an instruction
completes, goes to a target or raises its cause, and nothing else happens. -/
namespace Sys2Proof.Machine

theorem Engine.setG_halting (x : Engine) (d : Nat) (v : Dword) : (x.setG d v).halting = x.halting := by unfold Engine.setG; split <;> rfl
@[simp] theorem Engine.setG_pc (x : Engine) (d : Nat) (v : Dword) : (x.setG d v).pc = x.pc := by unfold Engine.setG; split <;> rfl
@[simp] theorem Engine.setG_sr (x : Engine) (d : Nat) (v : Dword) : (x.setG d v).sr = x.sr := by unfold Engine.setG; split <;> rfl
@[simp] theorem Engine.setG_retired (x : Engine) (d : Nat) (v : Dword) : (x.setG d v).retired = x.retired := by
  unfold Engine.setG; split <;> rfl
@[simp] theorem Engine.setG_tb (x : Engine) (d : Nat) (v : Dword) : (x.setG d v).tb = x.tb := by unfold Engine.setG; split <;> rfl
@[simp] theorem Engine.setG_impr (x : Engine) (d : Nat) (v : Dword) : (x.setG d v).impr = x.impr := by unfold Engine.setG; split <;> rfl
@[simp] theorem Engine.setG_sreg (x : Engine) (d n : Nat) (v : Dword) : (x.setG d v).sreg n = x.sreg n := by simp [Engine.sreg]

/-- A core at a boundary at which it issues is RUNNING, in no wait, and not about to halt (R173, R175). -/
theorem coreIssues_of_boundary {s : State} {c : Nat} {f : MemFind} (h : s.boundaryCore c f = none) : s.coreIssues c = true := by
  unfold State.boundaryCore at h
  by_contra hc
  rw [Bool.not_eq_true] at hc
  simp [hc] at h

/-- No halt waits at such a boundary. -/
theorem settleEng_of_boundary {s : State} {e : Eng} (h : s.boundary e = none) (x : Engine)
    (hx : x.halting = (s.engine (Eng.key e)).halting) :
    (s.setEngine (Eng.key e) x).settleEng e = s.setEngine (Eng.key e) x := by
  cases e with
  | seq n f => rfl
  | core c f =>
    have := coreIssues_of_boundary h
    simp only [State.coreIssues, Bool.and_eq_true, decide_eq_true_eq] at this
    simp only [State.settleEng, State.settleHalt, Eng.key, State.engine_setEngine_same] at *
    rw [hx, this.2]

@[simp] theorem State.raise_engine (s : State) (cls a a2 d k : Nat) : (s.raise cls a a2 d).engine k = s.engine k :=
  (s.raise_logOnly cls a a2 d none).engine k

/-- A cause raised at such a boundary leaves no halt waiting. -/
theorem settleEng_raiseCause {s : State} {e : Eng} (h : s.boundary e = none) (c : Nat) (a : Option Nat) (w : Nat) :
    (s.raiseCause e c a w).settleEng e = s.raiseCause e c a w := by
  cases e with
  | seq n f => rfl
  | core k f =>
    have hb := coreIssues_of_boundary h
    simp only [State.coreIssues, Bool.and_eq_true, decide_eq_true_eq] at hb
    simp only [State.raiseCause, State.settleEng, State.syncCause]
    split
    · have hl : (((s.haltInto k.val 3).raise 0x7B (s.engine k.val).pc 0 k.val).engine k.val).halting = none ∨
          ((s.haltInto k.val 3).raise 0x7B (s.engine k.val).pc 0 k.val).holdsHalt k.val = true := by
        have hbus := (State.raise_logOnly (s.setEngine k.val { s.engine k.val with halting := some 3 }) 0x7B
          (s.engine k.val).pc 0 k.val none).onlyLogged
        have hg : haltOf (s.engine k.val).halting 3 = 3 := by rw [hb.2]; rfl
        unfold State.haltInto
        dsimp only
        simp only [hg]
        split
        · split
          · next hh =>
            right
            obtain ⟨r, l, hr⟩ := hbus
            rw [hr]
            simp only [State.holdsHalt, State.inFlightOf] at hh ⊢
            have : ({ s.setEngine k.val { s.engine k.val with halting := some 3 } with regs := r, log := l } : State).engine k.val =
              { s.engine k.val with halting := some 3 } := by
              show (s.setEngine k.val _).engine k.val = _
              simp
            rw [this]
            exact hh
          · left; simp [State.stopInto, State.stopCore]
        · left; simp [hb]
      unfold State.settleHalt
      split
      · next hs =>
        rcases hl with hl | hl
        · rw [hl] at hs; cases hs
        · rw [if_pos hl]
      · rfl
    · simp [State.settleHalt, State.enterExc, hb]

/-- A fetch without a finding changes nothing (R29). -/
@[simp] theorem State.fetched_core (s : State) (c : Fin 16) : s.fetched (.core c) = s := rfl
@[simp] theorem State.fetched_seq (s : State) (n : Fin 48) : s.fetched (.seq n) = s := rfl

/-- At a boundary at which nothing else is to be taken, an instruction issues on what its fetch leaves. -/
theorem State.issue_fetched {s : State} {e : Eng} {w : Nat} {who : Who} {k : Bool} {f : State → Act} (h : s.boundary e = none) :
    s.issue e w who k f = State.conclude e w ((s.fetched e).actOf e who k f) := by
  unfold State.issue
  rw [h]

/-- What an issued instruction does there when its fetch finds nothing. -/
theorem State.issue_of_boundary {s : State} {e : Eng} {w : Nat} {who : Who} {k : Bool} {f : State → Act} (h : s.boundary e = none)
    (hc : s.fetched e = s) (hw : who.runs e = true) (hk : k = true → s.atKeeper e = true) :
    s.issue e w who k f = State.conclude e w (f s) := by
  rw [State.issue_fetched h, hc]
  cases k with
  | false => simp [State.actOf, hw]
  | true => simp [State.actOf, hw, hk rfl]

/-- An instruction that writes D and does nothing else. -/
theorem State.issueVal_wrote {s : State} {e : Eng} {w : Nat} {who : Who} {d : Nat} {v : State → Dword} (h : s.boundary e = none)
    (hc : s.fetched e = s) (hw : who.runs e = true) : s.issueVal e w who d v = s.wrote e d (v s) := by
  unfold State.issueVal
  rw [State.issue_of_boundary h hc hw (by simp)]
  simp only [State.conclude, State.retire, State.setGr, State.engine_setEngine_same, State.setEngine_setEngine]
  rw [settleEng_of_boundary h]
  · rfl
  · simp [Engine.setG_halting]

/-- An instruction that goes to a target and does nothing else. -/
theorem State.issue_went {s : State} {e : Eng} {w : Nat} {who : Who} {k : Bool} {f : State → Act} {pc : Nat} (h : s.boundary e = none)
    (hc : s.fetched e = s) (hw : who.runs e = true) (hk : k = true → s.atKeeper e = true) (hf : f s = .goto pc s) :
    s.issue e w who k f = s.went e pc := by
  rw [State.issue_of_boundary h hc hw hk, hf]
  simp only [State.conclude, State.retire]
  rw [settleEng_of_boundary h]
  · rfl
  · rfl

/-- An instruction that raises its cause. -/
theorem State.issue_cause {s : State} {e : Eng} {w : Nat} {who : Who} {k : Bool} {f : State → Act} {c : Nat} {a : Option Nat}
    (h : s.boundary e = none) (hc : s.fetched e = s) (hw : who.runs e = true) (hk : k = true → s.atKeeper e = true)
    (hf : f s = .cause c a s) :
    s.issue e w who k f = s.raiseCause e c a w := by
  rw [State.issue_of_boundary h hc hw hk, hf]
  exact settleEng_raiseCause h c a w

/-- An instruction that the engine does not execute is ILLEGAL (R157). -/
theorem State.issue_illegal {s : State} {e : Eng} {w : Nat} {who : Who} {k : Bool} {f : State → Act} (h : s.boundary e = none)
    (hc : s.fetched e = s) (hw : who.runs e = false) : s.issue e w who k f = s.raiseCause e 1 none w := by
  rw [State.issue_fetched h, hc]
  simp [State.actOf, hw, State.conclude, settleEng_raiseCause h]

/-- A Keeper instruction at User level raises PRIVILEGE (R157). -/
theorem State.issue_privilege {s : State} {e : Eng} {w : Nat} {who : Who} {f : State → Act} (h : s.boundary e = none)
    (hc : s.fetched e = s) (hw : who.runs e = true) (hk : s.atKeeper e = false) : s.issue e w who true f = s.raiseCause e 2 none w := by
  rw [State.issue_fetched h, hc]
  simp [State.actOf, hw, hk, State.conclude, settleEng_raiseCause h]

/-- The tables of engines alone decide whether the program counters are legal. -/
theorem State.pcsLegal_of_eng {s t : State} (h : s.pcsLegal) (e : t.eng = s.eng) : t.pcsLegal := by
  intro k
  have := h k
  simpa [State.engine, e] using this

theorem LogOnly.pcsLegal {s t : State} (g : LogOnly s t) (h : s.pcsLegal) : t.pcsLegal := State.pcsLegal_of_eng h g.eng
theorem RegsOnly.pcsLegal {s t : State} (g : RegsOnly s t) (h : s.pcsLegal) : t.pcsLegal := by
  obtain ⟨r, l, rfl⟩ := g
  exact h

end Sys2Proof.Machine
end

