-- ==== Sys2Proof/Laws/Units.lean ====
section
/-! SUPPORT. What an update of a unit's own state changes and what it leaves alone. -/
namespace Sys2Proof.Machine

/-! ### `setPipe` -/

@[simp] theorem State.pipe_setPipe_same (s : State) (p : Nat) (x : Pipe) : (s.setPipe p x).pipe p = x := by
  simp [State.pipe, State.setPipe]
theorem State.pipe_setPipe_ne (s : State) (p j : Nat) (x : Pipe) (hne : j ≠ p) : (s.setPipe p x).pipe j = s.pipe j := by
  simp [State.pipe, State.setPipe, tabGet_tabSet_ne _ _ _ _ _ hne]
@[simp] theorem State.setPipe_pending (s : State) (p : Nat) (x : Pipe) : (s.setPipe p x).pending = s.pending := rfl
@[simp] theorem State.setPipe_regs (s : State) (p : Nat) (x : Pipe) : (s.setPipe p x).regs = s.regs := rfl
@[simp] theorem State.setPipe_mem (s : State) (p : Nat) (x : Pipe) : (s.setPipe p x).mem = s.mem := rfl
@[simp] theorem State.setPipe_poison (s : State) (p : Nat) (x : Pipe) : (s.setPipe p x).poison = s.poison := rfl
@[simp] theorem State.setPipe_dirty (s : State) (p : Nat) (x : Pipe) : (s.setPipe p x).dirty = s.dirty := rfl
@[simp] theorem State.setPipe_bus (s : State) (p : Nat) (x : Pipe) : (s.setPipe p x).bus = s.bus := rfl
@[simp] theorem State.setPipe_log (s : State) (p : Nat) (x : Pipe) : (s.setPipe p x).log = s.log := rfl
@[simp] theorem State.setPipe_time (s : State) (p : Nat) (x : Pipe) : (s.setPipe p x).time = s.time := rfl
@[simp] theorem State.setPipe_rose (s : State) (p : Nat) (x : Pipe) : (s.setPipe p x).rose = s.rose := rfl
@[simp] theorem State.setPipe_chk (s : State) (p : Nat) (x : Pipe) : (s.setPipe p x).chk = s.chk := rfl
@[simp] theorem State.setPipe_eng (s : State) (p : Nat) (x : Pipe) : (s.setPipe p x).eng = s.eng := rfl
@[simp] theorem State.setPipe_tbs (s : State) (p : Nat) (x : Pipe) : (s.setPipe p x).tbs = s.tbs := rfl
@[simp] theorem State.setPipe_glin (s : State) (p : Nat) (x : Pipe) : (s.setPipe p x).glin = s.glin := rfl
@[simp] theorem State.setPipe_units (s : State) (p : Nat) (x : Pipe) : (s.setPipe p x).units = s.units := rfl
@[simp] theorem State.setPipe_heads (s : State) (p : Nat) (x : Pipe) : (s.setPipe p x).heads = s.heads := rfl
@[simp] theorem State.setPipe_wins (s : State) (p : Nat) (x : Pipe) : (s.setPipe p x).wins = s.wins := rfl
@[simp] theorem State.setPipe_vigil (s : State) (p : Nat) (x : Pipe) : (s.setPipe p x).vigil = s.vigil := rfl
@[simp] theorem State.setPipe_scaler (s : State) (p : Nat) (x : Pipe) : (s.setPipe p x).scaler = s.scaler := rfl
@[simp] theorem State.setPipe_fuses (s : State) (p : Nat) (x : Pipe) : (s.setPipe p x).fuses = s.fuses := rfl
@[simp] theorem State.setPipe_flash (s : State) (p : Nat) (x : Pipe) : (s.setPipe p x).flash = s.flash := rfl
@[simp] theorem State.setPipe_power (s : State) (p : Nat) (x : Pipe) : (s.setPipe p x).power = s.power := rfl
@[simp] theorem State.setPipe_sensors (s : State) (p : Nat) (x : Pipe) : (s.setPipe p x).sensors = s.sensors := rfl
@[simp] theorem State.setPipe_ledger (s : State) (p : Nat) (x : Pipe) : (s.setPipe p x).ledger = s.ledger := rfl
@[simp] theorem State.setPipe_test (s : State) (p : Nat) (x : Pipe) : (s.setPipe p x).test = s.test := rfl
@[simp] theorem State.setPipe_ctxs (s : State) (p : Nat) (x : Pipe) : (s.setPipe p x).ctxs = s.ctxs := rfl
@[simp] theorem State.setPipe_intake (s : State) (p : Nat) (x : Pipe) : (s.setPipe p x).intake = s.intake := rfl
@[simp] theorem State.setPipe_sess (s : State) (p : Nat) (x : Pipe) : (s.setPipe p x).sess = s.sess := rfl
@[simp] theorem State.setPipe_encAt (s : State) (p : Nat) (x : Pipe) : (s.setPipe p x).encAt = s.encAt := rfl
@[simp] theorem State.setPipe_net (s : State) (p : Nat) (x : Pipe) : (s.setPipe p x).net = s.net := rfl
@[simp] theorem State.setPipe_servo (s : State) (p : Nat) (x : Pipe) : (s.setPipe p x).servo = s.servo := rfl
@[simp] theorem State.setPipe_sides (s : State) (p : Nat) (x : Pipe) : (s.setPipe p x).sides = s.sides := rfl
@[simp] theorem State.setPipe_lanes (s : State) (p : Nat) (x : Pipe) : (s.setPipe p x).lanes = s.lanes := rfl
@[simp] theorem State.setPipe_panels (s : State) (p : Nat) (x : Pipe) : (s.setPipe p x).panels = s.panels := rfl
@[simp] theorem State.setPipe_seqMem (s : State) (p : Nat) (x : Pipe) : (s.setPipe p x).seqMem = s.seqMem := rfl
@[simp] theorem State.setPipe_seqBad (s : State) (p : Nat) (x : Pipe) : (s.setPipe p x).seqBad = s.seqBad := rfl
@[simp] theorem State.setPipe_trigOut (s : State) (p : Nat) (x : Pipe) : (s.setPipe p x).trigOut = s.trigOut := rfl
@[simp] theorem State.setPipe_free (s : State) (p : Nat) (x : Pipe) : (s.setPipe p x).free = s.free := rfl
@[simp] theorem State.setPipe_reg (s : State) (p : Nat) (x : Pipe) (j : Nat) : (s.setPipe p x).reg j = s.reg j := rfl
@[simp] theorem State.setPipe_get (s : State) (p : Nat) (x : Pipe) (g : Fld) : (s.setPipe p x).get g = s.get g := rfl
@[simp] theorem State.setPipe_on (s : State) (p : Nat) (x : Pipe) (g : Fld) : (s.setPipe p x).on g = s.on g := rfl
@[simp] theorem State.setPipe_engine (s : State) (p : Nat) (x : Pipe) (j : Nat) : (s.setPipe p x).engine j = s.engine j := rfl

/-! ### `setLane` -/

@[simp] theorem State.lane_setLane_same (s : State) (l : Nat) (x : Lane) : (s.setLane l x).lane l = x := by
  simp [State.lane, State.setLane]
theorem State.lane_setLane_ne (s : State) (l j : Nat) (x : Lane) (hne : j ≠ l) : (s.setLane l x).lane j = s.lane j := by
  simp [State.lane, State.setLane, tabGet_tabSet_ne _ _ _ _ _ hne]
@[simp] theorem State.setLane_pending (s : State) (l : Nat) (x : Lane) : (s.setLane l x).pending = s.pending := rfl
@[simp] theorem State.setLane_regs (s : State) (l : Nat) (x : Lane) : (s.setLane l x).regs = s.regs := rfl
@[simp] theorem State.setLane_mem (s : State) (l : Nat) (x : Lane) : (s.setLane l x).mem = s.mem := rfl
@[simp] theorem State.setLane_poison (s : State) (l : Nat) (x : Lane) : (s.setLane l x).poison = s.poison := rfl
@[simp] theorem State.setLane_dirty (s : State) (l : Nat) (x : Lane) : (s.setLane l x).dirty = s.dirty := rfl
@[simp] theorem State.setLane_bus (s : State) (l : Nat) (x : Lane) : (s.setLane l x).bus = s.bus := rfl
@[simp] theorem State.setLane_log (s : State) (l : Nat) (x : Lane) : (s.setLane l x).log = s.log := rfl
@[simp] theorem State.setLane_time (s : State) (l : Nat) (x : Lane) : (s.setLane l x).time = s.time := rfl
@[simp] theorem State.setLane_rose (s : State) (l : Nat) (x : Lane) : (s.setLane l x).rose = s.rose := rfl
@[simp] theorem State.setLane_chk (s : State) (l : Nat) (x : Lane) : (s.setLane l x).chk = s.chk := rfl
@[simp] theorem State.setLane_eng (s : State) (l : Nat) (x : Lane) : (s.setLane l x).eng = s.eng := rfl
@[simp] theorem State.setLane_tbs (s : State) (l : Nat) (x : Lane) : (s.setLane l x).tbs = s.tbs := rfl
@[simp] theorem State.setLane_glin (s : State) (l : Nat) (x : Lane) : (s.setLane l x).glin = s.glin := rfl
@[simp] theorem State.setLane_units (s : State) (l : Nat) (x : Lane) : (s.setLane l x).units = s.units := rfl
@[simp] theorem State.setLane_heads (s : State) (l : Nat) (x : Lane) : (s.setLane l x).heads = s.heads := rfl
@[simp] theorem State.setLane_wins (s : State) (l : Nat) (x : Lane) : (s.setLane l x).wins = s.wins := rfl
@[simp] theorem State.setLane_vigil (s : State) (l : Nat) (x : Lane) : (s.setLane l x).vigil = s.vigil := rfl
@[simp] theorem State.setLane_scaler (s : State) (l : Nat) (x : Lane) : (s.setLane l x).scaler = s.scaler := rfl
@[simp] theorem State.setLane_fuses (s : State) (l : Nat) (x : Lane) : (s.setLane l x).fuses = s.fuses := rfl
@[simp] theorem State.setLane_flash (s : State) (l : Nat) (x : Lane) : (s.setLane l x).flash = s.flash := rfl
@[simp] theorem State.setLane_power (s : State) (l : Nat) (x : Lane) : (s.setLane l x).power = s.power := rfl
@[simp] theorem State.setLane_sensors (s : State) (l : Nat) (x : Lane) : (s.setLane l x).sensors = s.sensors := rfl
@[simp] theorem State.setLane_ledger (s : State) (l : Nat) (x : Lane) : (s.setLane l x).ledger = s.ledger := rfl
@[simp] theorem State.setLane_test (s : State) (l : Nat) (x : Lane) : (s.setLane l x).test = s.test := rfl
@[simp] theorem State.setLane_ctxs (s : State) (l : Nat) (x : Lane) : (s.setLane l x).ctxs = s.ctxs := rfl
@[simp] theorem State.setLane_pipes (s : State) (l : Nat) (x : Lane) : (s.setLane l x).pipes = s.pipes := rfl
@[simp] theorem State.setLane_intake (s : State) (l : Nat) (x : Lane) : (s.setLane l x).intake = s.intake := rfl
@[simp] theorem State.setLane_sess (s : State) (l : Nat) (x : Lane) : (s.setLane l x).sess = s.sess := rfl
@[simp] theorem State.setLane_encAt (s : State) (l : Nat) (x : Lane) : (s.setLane l x).encAt = s.encAt := rfl
@[simp] theorem State.setLane_net (s : State) (l : Nat) (x : Lane) : (s.setLane l x).net = s.net := rfl
@[simp] theorem State.setLane_servo (s : State) (l : Nat) (x : Lane) : (s.setLane l x).servo = s.servo := rfl
@[simp] theorem State.setLane_sides (s : State) (l : Nat) (x : Lane) : (s.setLane l x).sides = s.sides := rfl
@[simp] theorem State.setLane_panels (s : State) (l : Nat) (x : Lane) : (s.setLane l x).panels = s.panels := rfl
@[simp] theorem State.setLane_seqMem (s : State) (l : Nat) (x : Lane) : (s.setLane l x).seqMem = s.seqMem := rfl
@[simp] theorem State.setLane_seqBad (s : State) (l : Nat) (x : Lane) : (s.setLane l x).seqBad = s.seqBad := rfl
@[simp] theorem State.setLane_trigOut (s : State) (l : Nat) (x : Lane) : (s.setLane l x).trigOut = s.trigOut := rfl
@[simp] theorem State.setLane_free (s : State) (l : Nat) (x : Lane) : (s.setLane l x).free = s.free := rfl
@[simp] theorem State.setLane_reg (s : State) (l : Nat) (x : Lane) (j : Nat) : (s.setLane l x).reg j = s.reg j := rfl
@[simp] theorem State.setLane_get (s : State) (l : Nat) (x : Lane) (g : Fld) : (s.setLane l x).get g = s.get g := rfl
@[simp] theorem State.setLane_on (s : State) (l : Nat) (x : Lane) (g : Fld) : (s.setLane l x).on g = s.on g := rfl
@[simp] theorem State.setLane_engine (s : State) (l : Nat) (x : Lane) (j : Nat) : (s.setLane l x).engine j = s.engine j := rfl

/-! ### `setTb` -/

@[simp] theorem State.tb_setTb_same (s : State) (h : Nat) (x : Timebase) : (s.setTb h x).tb h = x := by
  simp [State.tb, State.setTb]
theorem State.tb_setTb_ne (s : State) (h j : Nat) (x : Timebase) (hne : j ≠ h) : (s.setTb h x).tb j = s.tb j := by
  simp [State.tb, State.setTb, tabGet_tabSet_ne _ _ _ _ _ hne]
@[simp] theorem State.setTb_pending (s : State) (h : Nat) (x : Timebase) : (s.setTb h x).pending = s.pending := rfl
@[simp] theorem State.setTb_regs (s : State) (h : Nat) (x : Timebase) : (s.setTb h x).regs = s.regs := rfl
@[simp] theorem State.setTb_mem (s : State) (h : Nat) (x : Timebase) : (s.setTb h x).mem = s.mem := rfl
@[simp] theorem State.setTb_poison (s : State) (h : Nat) (x : Timebase) : (s.setTb h x).poison = s.poison := rfl
@[simp] theorem State.setTb_dirty (s : State) (h : Nat) (x : Timebase) : (s.setTb h x).dirty = s.dirty := rfl
@[simp] theorem State.setTb_bus (s : State) (h : Nat) (x : Timebase) : (s.setTb h x).bus = s.bus := rfl
@[simp] theorem State.setTb_log (s : State) (h : Nat) (x : Timebase) : (s.setTb h x).log = s.log := rfl
@[simp] theorem State.setTb_time (s : State) (h : Nat) (x : Timebase) : (s.setTb h x).time = s.time := rfl
@[simp] theorem State.setTb_rose (s : State) (h : Nat) (x : Timebase) : (s.setTb h x).rose = s.rose := rfl
@[simp] theorem State.setTb_chk (s : State) (h : Nat) (x : Timebase) : (s.setTb h x).chk = s.chk := rfl
@[simp] theorem State.setTb_eng (s : State) (h : Nat) (x : Timebase) : (s.setTb h x).eng = s.eng := rfl
@[simp] theorem State.setTb_glin (s : State) (h : Nat) (x : Timebase) : (s.setTb h x).glin = s.glin := rfl
@[simp] theorem State.setTb_units (s : State) (h : Nat) (x : Timebase) : (s.setTb h x).units = s.units := rfl
@[simp] theorem State.setTb_heads (s : State) (h : Nat) (x : Timebase) : (s.setTb h x).heads = s.heads := rfl
@[simp] theorem State.setTb_wins (s : State) (h : Nat) (x : Timebase) : (s.setTb h x).wins = s.wins := rfl
@[simp] theorem State.setTb_vigil (s : State) (h : Nat) (x : Timebase) : (s.setTb h x).vigil = s.vigil := rfl
@[simp] theorem State.setTb_scaler (s : State) (h : Nat) (x : Timebase) : (s.setTb h x).scaler = s.scaler := rfl
@[simp] theorem State.setTb_fuses (s : State) (h : Nat) (x : Timebase) : (s.setTb h x).fuses = s.fuses := rfl
@[simp] theorem State.setTb_flash (s : State) (h : Nat) (x : Timebase) : (s.setTb h x).flash = s.flash := rfl
@[simp] theorem State.setTb_power (s : State) (h : Nat) (x : Timebase) : (s.setTb h x).power = s.power := rfl
@[simp] theorem State.setTb_sensors (s : State) (h : Nat) (x : Timebase) : (s.setTb h x).sensors = s.sensors := rfl
@[simp] theorem State.setTb_ledger (s : State) (h : Nat) (x : Timebase) : (s.setTb h x).ledger = s.ledger := rfl
@[simp] theorem State.setTb_test (s : State) (h : Nat) (x : Timebase) : (s.setTb h x).test = s.test := rfl
@[simp] theorem State.setTb_ctxs (s : State) (h : Nat) (x : Timebase) : (s.setTb h x).ctxs = s.ctxs := rfl
@[simp] theorem State.setTb_pipes (s : State) (h : Nat) (x : Timebase) : (s.setTb h x).pipes = s.pipes := rfl
@[simp] theorem State.setTb_intake (s : State) (h : Nat) (x : Timebase) : (s.setTb h x).intake = s.intake := rfl
@[simp] theorem State.setTb_sess (s : State) (h : Nat) (x : Timebase) : (s.setTb h x).sess = s.sess := rfl
@[simp] theorem State.setTb_encAt (s : State) (h : Nat) (x : Timebase) : (s.setTb h x).encAt = s.encAt := rfl
@[simp] theorem State.setTb_net (s : State) (h : Nat) (x : Timebase) : (s.setTb h x).net = s.net := rfl
@[simp] theorem State.setTb_servo (s : State) (h : Nat) (x : Timebase) : (s.setTb h x).servo = s.servo := rfl
@[simp] theorem State.setTb_sides (s : State) (h : Nat) (x : Timebase) : (s.setTb h x).sides = s.sides := rfl
@[simp] theorem State.setTb_lanes (s : State) (h : Nat) (x : Timebase) : (s.setTb h x).lanes = s.lanes := rfl
@[simp] theorem State.setTb_panels (s : State) (h : Nat) (x : Timebase) : (s.setTb h x).panels = s.panels := rfl
@[simp] theorem State.setTb_seqMem (s : State) (h : Nat) (x : Timebase) : (s.setTb h x).seqMem = s.seqMem := rfl
@[simp] theorem State.setTb_seqBad (s : State) (h : Nat) (x : Timebase) : (s.setTb h x).seqBad = s.seqBad := rfl
@[simp] theorem State.setTb_trigOut (s : State) (h : Nat) (x : Timebase) : (s.setTb h x).trigOut = s.trigOut := rfl
@[simp] theorem State.setTb_free (s : State) (h : Nat) (x : Timebase) : (s.setTb h x).free = s.free := rfl
@[simp] theorem State.setTb_reg (s : State) (h : Nat) (x : Timebase) (j : Nat) : (s.setTb h x).reg j = s.reg j := rfl
@[simp] theorem State.setTb_get (s : State) (h : Nat) (x : Timebase) (g : Fld) : (s.setTb h x).get g = s.get g := rfl
@[simp] theorem State.setTb_on (s : State) (h : Nat) (x : Timebase) (g : Fld) : (s.setTb h x).on g = s.on g := rfl
@[simp] theorem State.setTb_engine (s : State) (h : Nat) (x : Timebase) (j : Nat) : (s.setTb h x).engine j = s.engine j := rfl

/-! ### `setUnit` -/

@[simp] theorem State.unit_setUnit_same (s : State) (u : Nat) (x : CommitUnit) : (s.setUnit u x).unit u = x := by
  simp [State.unit, State.setUnit]
theorem State.unit_setUnit_ne (s : State) (u j : Nat) (x : CommitUnit) (hne : j ≠ u) : (s.setUnit u x).unit j = s.unit j := by
  simp [State.unit, State.setUnit, tabGet_tabSet_ne _ _ _ _ _ hne]
@[simp] theorem State.setUnit_pending (s : State) (u : Nat) (x : CommitUnit) : (s.setUnit u x).pending = s.pending := rfl
@[simp] theorem State.setUnit_regs (s : State) (u : Nat) (x : CommitUnit) : (s.setUnit u x).regs = s.regs := rfl
@[simp] theorem State.setUnit_mem (s : State) (u : Nat) (x : CommitUnit) : (s.setUnit u x).mem = s.mem := rfl
@[simp] theorem State.setUnit_poison (s : State) (u : Nat) (x : CommitUnit) : (s.setUnit u x).poison = s.poison := rfl
@[simp] theorem State.setUnit_dirty (s : State) (u : Nat) (x : CommitUnit) : (s.setUnit u x).dirty = s.dirty := rfl
@[simp] theorem State.setUnit_bus (s : State) (u : Nat) (x : CommitUnit) : (s.setUnit u x).bus = s.bus := rfl
@[simp] theorem State.setUnit_log (s : State) (u : Nat) (x : CommitUnit) : (s.setUnit u x).log = s.log := rfl
@[simp] theorem State.setUnit_time (s : State) (u : Nat) (x : CommitUnit) : (s.setUnit u x).time = s.time := rfl
@[simp] theorem State.setUnit_rose (s : State) (u : Nat) (x : CommitUnit) : (s.setUnit u x).rose = s.rose := rfl
@[simp] theorem State.setUnit_chk (s : State) (u : Nat) (x : CommitUnit) : (s.setUnit u x).chk = s.chk := rfl
@[simp] theorem State.setUnit_eng (s : State) (u : Nat) (x : CommitUnit) : (s.setUnit u x).eng = s.eng := rfl
@[simp] theorem State.setUnit_tbs (s : State) (u : Nat) (x : CommitUnit) : (s.setUnit u x).tbs = s.tbs := rfl
@[simp] theorem State.setUnit_glin (s : State) (u : Nat) (x : CommitUnit) : (s.setUnit u x).glin = s.glin := rfl
@[simp] theorem State.setUnit_heads (s : State) (u : Nat) (x : CommitUnit) : (s.setUnit u x).heads = s.heads := rfl
@[simp] theorem State.setUnit_wins (s : State) (u : Nat) (x : CommitUnit) : (s.setUnit u x).wins = s.wins := rfl
@[simp] theorem State.setUnit_vigil (s : State) (u : Nat) (x : CommitUnit) : (s.setUnit u x).vigil = s.vigil := rfl
@[simp] theorem State.setUnit_scaler (s : State) (u : Nat) (x : CommitUnit) : (s.setUnit u x).scaler = s.scaler := rfl
@[simp] theorem State.setUnit_fuses (s : State) (u : Nat) (x : CommitUnit) : (s.setUnit u x).fuses = s.fuses := rfl
@[simp] theorem State.setUnit_flash (s : State) (u : Nat) (x : CommitUnit) : (s.setUnit u x).flash = s.flash := rfl
@[simp] theorem State.setUnit_power (s : State) (u : Nat) (x : CommitUnit) : (s.setUnit u x).power = s.power := rfl
@[simp] theorem State.setUnit_sensors (s : State) (u : Nat) (x : CommitUnit) : (s.setUnit u x).sensors = s.sensors := rfl
@[simp] theorem State.setUnit_ledger (s : State) (u : Nat) (x : CommitUnit) : (s.setUnit u x).ledger = s.ledger := rfl
@[simp] theorem State.setUnit_test (s : State) (u : Nat) (x : CommitUnit) : (s.setUnit u x).test = s.test := rfl
@[simp] theorem State.setUnit_ctxs (s : State) (u : Nat) (x : CommitUnit) : (s.setUnit u x).ctxs = s.ctxs := rfl
@[simp] theorem State.setUnit_pipes (s : State) (u : Nat) (x : CommitUnit) : (s.setUnit u x).pipes = s.pipes := rfl
@[simp] theorem State.setUnit_intake (s : State) (u : Nat) (x : CommitUnit) : (s.setUnit u x).intake = s.intake := rfl
@[simp] theorem State.setUnit_sess (s : State) (u : Nat) (x : CommitUnit) : (s.setUnit u x).sess = s.sess := rfl
@[simp] theorem State.setUnit_encAt (s : State) (u : Nat) (x : CommitUnit) : (s.setUnit u x).encAt = s.encAt := rfl
@[simp] theorem State.setUnit_net (s : State) (u : Nat) (x : CommitUnit) : (s.setUnit u x).net = s.net := rfl
@[simp] theorem State.setUnit_servo (s : State) (u : Nat) (x : CommitUnit) : (s.setUnit u x).servo = s.servo := rfl
@[simp] theorem State.setUnit_sides (s : State) (u : Nat) (x : CommitUnit) : (s.setUnit u x).sides = s.sides := rfl
@[simp] theorem State.setUnit_lanes (s : State) (u : Nat) (x : CommitUnit) : (s.setUnit u x).lanes = s.lanes := rfl
@[simp] theorem State.setUnit_panels (s : State) (u : Nat) (x : CommitUnit) : (s.setUnit u x).panels = s.panels := rfl
@[simp] theorem State.setUnit_seqMem (s : State) (u : Nat) (x : CommitUnit) : (s.setUnit u x).seqMem = s.seqMem := rfl
@[simp] theorem State.setUnit_seqBad (s : State) (u : Nat) (x : CommitUnit) : (s.setUnit u x).seqBad = s.seqBad := rfl
@[simp] theorem State.setUnit_trigOut (s : State) (u : Nat) (x : CommitUnit) : (s.setUnit u x).trigOut = s.trigOut := rfl
@[simp] theorem State.setUnit_free (s : State) (u : Nat) (x : CommitUnit) : (s.setUnit u x).free = s.free := rfl
@[simp] theorem State.setUnit_reg (s : State) (u : Nat) (x : CommitUnit) (j : Nat) : (s.setUnit u x).reg j = s.reg j := rfl
@[simp] theorem State.setUnit_get (s : State) (u : Nat) (x : CommitUnit) (g : Fld) : (s.setUnit u x).get g = s.get g := rfl
@[simp] theorem State.setUnit_on (s : State) (u : Nat) (x : CommitUnit) (g : Fld) : (s.setUnit u x).on g = s.on g := rfl
@[simp] theorem State.setUnit_engine (s : State) (u : Nat) (x : CommitUnit) (j : Nat) : (s.setUnit u x).engine j = s.engine j := rfl

/-! ### `setWin` -/

@[simp] theorem State.win_setWin_same (s : State) (w : Nat) (x : Win) : (s.setWin w x).win w = x := by
  simp [State.win, State.setWin]
theorem State.win_setWin_ne (s : State) (w j : Nat) (x : Win) (hne : j ≠ w) : (s.setWin w x).win j = s.win j := by
  simp [State.win, State.setWin, tabGet_tabSet_ne _ _ _ _ _ hne]
@[simp] theorem State.setWin_pending (s : State) (w : Nat) (x : Win) : (s.setWin w x).pending = s.pending := rfl
@[simp] theorem State.setWin_regs (s : State) (w : Nat) (x : Win) : (s.setWin w x).regs = s.regs := rfl
@[simp] theorem State.setWin_mem (s : State) (w : Nat) (x : Win) : (s.setWin w x).mem = s.mem := rfl
@[simp] theorem State.setWin_poison (s : State) (w : Nat) (x : Win) : (s.setWin w x).poison = s.poison := rfl
@[simp] theorem State.setWin_dirty (s : State) (w : Nat) (x : Win) : (s.setWin w x).dirty = s.dirty := rfl
@[simp] theorem State.setWin_bus (s : State) (w : Nat) (x : Win) : (s.setWin w x).bus = s.bus := rfl
@[simp] theorem State.setWin_log (s : State) (w : Nat) (x : Win) : (s.setWin w x).log = s.log := rfl
@[simp] theorem State.setWin_time (s : State) (w : Nat) (x : Win) : (s.setWin w x).time = s.time := rfl
@[simp] theorem State.setWin_rose (s : State) (w : Nat) (x : Win) : (s.setWin w x).rose = s.rose := rfl
@[simp] theorem State.setWin_chk (s : State) (w : Nat) (x : Win) : (s.setWin w x).chk = s.chk := rfl
@[simp] theorem State.setWin_eng (s : State) (w : Nat) (x : Win) : (s.setWin w x).eng = s.eng := rfl
@[simp] theorem State.setWin_tbs (s : State) (w : Nat) (x : Win) : (s.setWin w x).tbs = s.tbs := rfl
@[simp] theorem State.setWin_glin (s : State) (w : Nat) (x : Win) : (s.setWin w x).glin = s.glin := rfl
@[simp] theorem State.setWin_units (s : State) (w : Nat) (x : Win) : (s.setWin w x).units = s.units := rfl
@[simp] theorem State.setWin_heads (s : State) (w : Nat) (x : Win) : (s.setWin w x).heads = s.heads := rfl
@[simp] theorem State.setWin_vigil (s : State) (w : Nat) (x : Win) : (s.setWin w x).vigil = s.vigil := rfl
@[simp] theorem State.setWin_scaler (s : State) (w : Nat) (x : Win) : (s.setWin w x).scaler = s.scaler := rfl
@[simp] theorem State.setWin_fuses (s : State) (w : Nat) (x : Win) : (s.setWin w x).fuses = s.fuses := rfl
@[simp] theorem State.setWin_flash (s : State) (w : Nat) (x : Win) : (s.setWin w x).flash = s.flash := rfl
@[simp] theorem State.setWin_power (s : State) (w : Nat) (x : Win) : (s.setWin w x).power = s.power := rfl
@[simp] theorem State.setWin_sensors (s : State) (w : Nat) (x : Win) : (s.setWin w x).sensors = s.sensors := rfl
@[simp] theorem State.setWin_ledger (s : State) (w : Nat) (x : Win) : (s.setWin w x).ledger = s.ledger := rfl
@[simp] theorem State.setWin_test (s : State) (w : Nat) (x : Win) : (s.setWin w x).test = s.test := rfl
@[simp] theorem State.setWin_ctxs (s : State) (w : Nat) (x : Win) : (s.setWin w x).ctxs = s.ctxs := rfl
@[simp] theorem State.setWin_pipes (s : State) (w : Nat) (x : Win) : (s.setWin w x).pipes = s.pipes := rfl
@[simp] theorem State.setWin_intake (s : State) (w : Nat) (x : Win) : (s.setWin w x).intake = s.intake := rfl
@[simp] theorem State.setWin_sess (s : State) (w : Nat) (x : Win) : (s.setWin w x).sess = s.sess := rfl
@[simp] theorem State.setWin_encAt (s : State) (w : Nat) (x : Win) : (s.setWin w x).encAt = s.encAt := rfl
@[simp] theorem State.setWin_net (s : State) (w : Nat) (x : Win) : (s.setWin w x).net = s.net := rfl
@[simp] theorem State.setWin_servo (s : State) (w : Nat) (x : Win) : (s.setWin w x).servo = s.servo := rfl
@[simp] theorem State.setWin_sides (s : State) (w : Nat) (x : Win) : (s.setWin w x).sides = s.sides := rfl
@[simp] theorem State.setWin_lanes (s : State) (w : Nat) (x : Win) : (s.setWin w x).lanes = s.lanes := rfl
@[simp] theorem State.setWin_panels (s : State) (w : Nat) (x : Win) : (s.setWin w x).panels = s.panels := rfl
@[simp] theorem State.setWin_seqMem (s : State) (w : Nat) (x : Win) : (s.setWin w x).seqMem = s.seqMem := rfl
@[simp] theorem State.setWin_seqBad (s : State) (w : Nat) (x : Win) : (s.setWin w x).seqBad = s.seqBad := rfl
@[simp] theorem State.setWin_trigOut (s : State) (w : Nat) (x : Win) : (s.setWin w x).trigOut = s.trigOut := rfl
@[simp] theorem State.setWin_free (s : State) (w : Nat) (x : Win) : (s.setWin w x).free = s.free := rfl
@[simp] theorem State.setWin_reg (s : State) (w : Nat) (x : Win) (j : Nat) : (s.setWin w x).reg j = s.reg j := rfl
@[simp] theorem State.setWin_get (s : State) (w : Nat) (x : Win) (g : Fld) : (s.setWin w x).get g = s.get g := rfl
@[simp] theorem State.setWin_on (s : State) (w : Nat) (x : Win) (g : Fld) : (s.setWin w x).on g = s.on g := rfl
@[simp] theorem State.setWin_engine (s : State) (w : Nat) (x : Win) (j : Nat) : (s.setWin w x).engine j = s.engine j := rfl

/-! ### `setHead` -/

@[simp] theorem State.head_setHead_same (s : State) (h : Nat) (x : Head) : (s.setHead h x).head h = x := by
  simp [State.head, State.setHead]
theorem State.head_setHead_ne (s : State) (h j : Nat) (x : Head) (hne : j ≠ h) : (s.setHead h x).head j = s.head j := by
  simp [State.head, State.setHead, tabGet_tabSet_ne _ _ _ _ _ hne]
@[simp] theorem State.setHead_pending (s : State) (h : Nat) (x : Head) : (s.setHead h x).pending = s.pending := rfl
@[simp] theorem State.setHead_regs (s : State) (h : Nat) (x : Head) : (s.setHead h x).regs = s.regs := rfl
@[simp] theorem State.setHead_mem (s : State) (h : Nat) (x : Head) : (s.setHead h x).mem = s.mem := rfl
@[simp] theorem State.setHead_poison (s : State) (h : Nat) (x : Head) : (s.setHead h x).poison = s.poison := rfl
@[simp] theorem State.setHead_dirty (s : State) (h : Nat) (x : Head) : (s.setHead h x).dirty = s.dirty := rfl
@[simp] theorem State.setHead_bus (s : State) (h : Nat) (x : Head) : (s.setHead h x).bus = s.bus := rfl
@[simp] theorem State.setHead_log (s : State) (h : Nat) (x : Head) : (s.setHead h x).log = s.log := rfl
@[simp] theorem State.setHead_time (s : State) (h : Nat) (x : Head) : (s.setHead h x).time = s.time := rfl
@[simp] theorem State.setHead_rose (s : State) (h : Nat) (x : Head) : (s.setHead h x).rose = s.rose := rfl
@[simp] theorem State.setHead_chk (s : State) (h : Nat) (x : Head) : (s.setHead h x).chk = s.chk := rfl
@[simp] theorem State.setHead_eng (s : State) (h : Nat) (x : Head) : (s.setHead h x).eng = s.eng := rfl
@[simp] theorem State.setHead_tbs (s : State) (h : Nat) (x : Head) : (s.setHead h x).tbs = s.tbs := rfl
@[simp] theorem State.setHead_glin (s : State) (h : Nat) (x : Head) : (s.setHead h x).glin = s.glin := rfl
@[simp] theorem State.setHead_units (s : State) (h : Nat) (x : Head) : (s.setHead h x).units = s.units := rfl
@[simp] theorem State.setHead_wins (s : State) (h : Nat) (x : Head) : (s.setHead h x).wins = s.wins := rfl
@[simp] theorem State.setHead_vigil (s : State) (h : Nat) (x : Head) : (s.setHead h x).vigil = s.vigil := rfl
@[simp] theorem State.setHead_scaler (s : State) (h : Nat) (x : Head) : (s.setHead h x).scaler = s.scaler := rfl
@[simp] theorem State.setHead_fuses (s : State) (h : Nat) (x : Head) : (s.setHead h x).fuses = s.fuses := rfl
@[simp] theorem State.setHead_flash (s : State) (h : Nat) (x : Head) : (s.setHead h x).flash = s.flash := rfl
@[simp] theorem State.setHead_power (s : State) (h : Nat) (x : Head) : (s.setHead h x).power = s.power := rfl
@[simp] theorem State.setHead_sensors (s : State) (h : Nat) (x : Head) : (s.setHead h x).sensors = s.sensors := rfl
@[simp] theorem State.setHead_ledger (s : State) (h : Nat) (x : Head) : (s.setHead h x).ledger = s.ledger := rfl
@[simp] theorem State.setHead_test (s : State) (h : Nat) (x : Head) : (s.setHead h x).test = s.test := rfl
@[simp] theorem State.setHead_ctxs (s : State) (h : Nat) (x : Head) : (s.setHead h x).ctxs = s.ctxs := rfl
@[simp] theorem State.setHead_pipes (s : State) (h : Nat) (x : Head) : (s.setHead h x).pipes = s.pipes := rfl
@[simp] theorem State.setHead_intake (s : State) (h : Nat) (x : Head) : (s.setHead h x).intake = s.intake := rfl
@[simp] theorem State.setHead_sess (s : State) (h : Nat) (x : Head) : (s.setHead h x).sess = s.sess := rfl
@[simp] theorem State.setHead_encAt (s : State) (h : Nat) (x : Head) : (s.setHead h x).encAt = s.encAt := rfl
@[simp] theorem State.setHead_net (s : State) (h : Nat) (x : Head) : (s.setHead h x).net = s.net := rfl
@[simp] theorem State.setHead_servo (s : State) (h : Nat) (x : Head) : (s.setHead h x).servo = s.servo := rfl
@[simp] theorem State.setHead_sides (s : State) (h : Nat) (x : Head) : (s.setHead h x).sides = s.sides := rfl
@[simp] theorem State.setHead_lanes (s : State) (h : Nat) (x : Head) : (s.setHead h x).lanes = s.lanes := rfl
@[simp] theorem State.setHead_panels (s : State) (h : Nat) (x : Head) : (s.setHead h x).panels = s.panels := rfl
@[simp] theorem State.setHead_seqMem (s : State) (h : Nat) (x : Head) : (s.setHead h x).seqMem = s.seqMem := rfl
@[simp] theorem State.setHead_seqBad (s : State) (h : Nat) (x : Head) : (s.setHead h x).seqBad = s.seqBad := rfl
@[simp] theorem State.setHead_trigOut (s : State) (h : Nat) (x : Head) : (s.setHead h x).trigOut = s.trigOut := rfl
@[simp] theorem State.setHead_free (s : State) (h : Nat) (x : Head) : (s.setHead h x).free = s.free := rfl
@[simp] theorem State.setHead_reg (s : State) (h : Nat) (x : Head) (j : Nat) : (s.setHead h x).reg j = s.reg j := rfl
@[simp] theorem State.setHead_get (s : State) (h : Nat) (x : Head) (g : Fld) : (s.setHead h x).get g = s.get g := rfl
@[simp] theorem State.setHead_on (s : State) (h : Nat) (x : Head) (g : Fld) : (s.setHead h x).on g = s.on g := rfl
@[simp] theorem State.setHead_engine (s : State) (h : Nat) (x : Head) (j : Nat) : (s.setHead h x).engine j = s.engine j := rfl

/-! ### `setCtx` -/

@[simp] theorem State.ctx_setCtx_same (s : State) (c : Nat) (x : Ctx) : (s.setCtx c x).ctx c = x := by
  simp [State.ctx, State.setCtx]
theorem State.ctx_setCtx_ne (s : State) (c j : Nat) (x : Ctx) (hne : j ≠ c) : (s.setCtx c x).ctx j = s.ctx j := by
  simp [State.ctx, State.setCtx, tabGet_tabSet_ne _ _ _ _ _ hne]
@[simp] theorem State.setCtx_pending (s : State) (c : Nat) (x : Ctx) : (s.setCtx c x).pending = s.pending := rfl
@[simp] theorem State.setCtx_regs (s : State) (c : Nat) (x : Ctx) : (s.setCtx c x).regs = s.regs := rfl
@[simp] theorem State.setCtx_mem (s : State) (c : Nat) (x : Ctx) : (s.setCtx c x).mem = s.mem := rfl
@[simp] theorem State.setCtx_poison (s : State) (c : Nat) (x : Ctx) : (s.setCtx c x).poison = s.poison := rfl
@[simp] theorem State.setCtx_dirty (s : State) (c : Nat) (x : Ctx) : (s.setCtx c x).dirty = s.dirty := rfl
@[simp] theorem State.setCtx_bus (s : State) (c : Nat) (x : Ctx) : (s.setCtx c x).bus = s.bus := rfl
@[simp] theorem State.setCtx_log (s : State) (c : Nat) (x : Ctx) : (s.setCtx c x).log = s.log := rfl
@[simp] theorem State.setCtx_time (s : State) (c : Nat) (x : Ctx) : (s.setCtx c x).time = s.time := rfl
@[simp] theorem State.setCtx_rose (s : State) (c : Nat) (x : Ctx) : (s.setCtx c x).rose = s.rose := rfl
@[simp] theorem State.setCtx_chk (s : State) (c : Nat) (x : Ctx) : (s.setCtx c x).chk = s.chk := rfl
@[simp] theorem State.setCtx_eng (s : State) (c : Nat) (x : Ctx) : (s.setCtx c x).eng = s.eng := rfl
@[simp] theorem State.setCtx_tbs (s : State) (c : Nat) (x : Ctx) : (s.setCtx c x).tbs = s.tbs := rfl
@[simp] theorem State.setCtx_glin (s : State) (c : Nat) (x : Ctx) : (s.setCtx c x).glin = s.glin := rfl
@[simp] theorem State.setCtx_units (s : State) (c : Nat) (x : Ctx) : (s.setCtx c x).units = s.units := rfl
@[simp] theorem State.setCtx_heads (s : State) (c : Nat) (x : Ctx) : (s.setCtx c x).heads = s.heads := rfl
@[simp] theorem State.setCtx_wins (s : State) (c : Nat) (x : Ctx) : (s.setCtx c x).wins = s.wins := rfl
@[simp] theorem State.setCtx_vigil (s : State) (c : Nat) (x : Ctx) : (s.setCtx c x).vigil = s.vigil := rfl
@[simp] theorem State.setCtx_scaler (s : State) (c : Nat) (x : Ctx) : (s.setCtx c x).scaler = s.scaler := rfl
@[simp] theorem State.setCtx_fuses (s : State) (c : Nat) (x : Ctx) : (s.setCtx c x).fuses = s.fuses := rfl
@[simp] theorem State.setCtx_flash (s : State) (c : Nat) (x : Ctx) : (s.setCtx c x).flash = s.flash := rfl
@[simp] theorem State.setCtx_power (s : State) (c : Nat) (x : Ctx) : (s.setCtx c x).power = s.power := rfl
@[simp] theorem State.setCtx_sensors (s : State) (c : Nat) (x : Ctx) : (s.setCtx c x).sensors = s.sensors := rfl
@[simp] theorem State.setCtx_ledger (s : State) (c : Nat) (x : Ctx) : (s.setCtx c x).ledger = s.ledger := rfl
@[simp] theorem State.setCtx_test (s : State) (c : Nat) (x : Ctx) : (s.setCtx c x).test = s.test := rfl
@[simp] theorem State.setCtx_pipes (s : State) (c : Nat) (x : Ctx) : (s.setCtx c x).pipes = s.pipes := rfl
@[simp] theorem State.setCtx_intake (s : State) (c : Nat) (x : Ctx) : (s.setCtx c x).intake = s.intake := rfl
@[simp] theorem State.setCtx_sess (s : State) (c : Nat) (x : Ctx) : (s.setCtx c x).sess = s.sess := rfl
@[simp] theorem State.setCtx_encAt (s : State) (c : Nat) (x : Ctx) : (s.setCtx c x).encAt = s.encAt := rfl
@[simp] theorem State.setCtx_net (s : State) (c : Nat) (x : Ctx) : (s.setCtx c x).net = s.net := rfl
@[simp] theorem State.setCtx_servo (s : State) (c : Nat) (x : Ctx) : (s.setCtx c x).servo = s.servo := rfl
@[simp] theorem State.setCtx_sides (s : State) (c : Nat) (x : Ctx) : (s.setCtx c x).sides = s.sides := rfl
@[simp] theorem State.setCtx_lanes (s : State) (c : Nat) (x : Ctx) : (s.setCtx c x).lanes = s.lanes := rfl
@[simp] theorem State.setCtx_panels (s : State) (c : Nat) (x : Ctx) : (s.setCtx c x).panels = s.panels := rfl
@[simp] theorem State.setCtx_seqMem (s : State) (c : Nat) (x : Ctx) : (s.setCtx c x).seqMem = s.seqMem := rfl
@[simp] theorem State.setCtx_seqBad (s : State) (c : Nat) (x : Ctx) : (s.setCtx c x).seqBad = s.seqBad := rfl
@[simp] theorem State.setCtx_trigOut (s : State) (c : Nat) (x : Ctx) : (s.setCtx c x).trigOut = s.trigOut := rfl
@[simp] theorem State.setCtx_free (s : State) (c : Nat) (x : Ctx) : (s.setCtx c x).free = s.free := rfl
@[simp] theorem State.setCtx_reg (s : State) (c : Nat) (x : Ctx) (j : Nat) : (s.setCtx c x).reg j = s.reg j := rfl
@[simp] theorem State.setCtx_get (s : State) (c : Nat) (x : Ctx) (g : Fld) : (s.setCtx c x).get g = s.get g := rfl
@[simp] theorem State.setCtx_on (s : State) (c : Nat) (x : Ctx) (g : Fld) : (s.setCtx c x).on g = s.on g := rfl
@[simp] theorem State.setCtx_engine (s : State) (c : Nat) (x : Ctx) (j : Nat) : (s.setCtx c x).engine j = s.engine j := rfl

/-! ### `setSide` -/

@[simp] theorem State.side_setSide_same (s : State) (k : Nat) (x : Side) : (s.setSide k x).side k = x := by
  simp [State.side, State.setSide]
theorem State.side_setSide_ne (s : State) (k j : Nat) (x : Side) (hne : j ≠ k) : (s.setSide k x).side j = s.side j := by
  simp [State.side, State.setSide, tabGet_tabSet_ne _ _ _ _ _ hne]
@[simp] theorem State.setSide_pending (s : State) (k : Nat) (x : Side) : (s.setSide k x).pending = s.pending := rfl
@[simp] theorem State.setSide_regs (s : State) (k : Nat) (x : Side) : (s.setSide k x).regs = s.regs := rfl
@[simp] theorem State.setSide_mem (s : State) (k : Nat) (x : Side) : (s.setSide k x).mem = s.mem := rfl
@[simp] theorem State.setSide_poison (s : State) (k : Nat) (x : Side) : (s.setSide k x).poison = s.poison := rfl
@[simp] theorem State.setSide_dirty (s : State) (k : Nat) (x : Side) : (s.setSide k x).dirty = s.dirty := rfl
@[simp] theorem State.setSide_bus (s : State) (k : Nat) (x : Side) : (s.setSide k x).bus = s.bus := rfl
@[simp] theorem State.setSide_log (s : State) (k : Nat) (x : Side) : (s.setSide k x).log = s.log := rfl
@[simp] theorem State.setSide_time (s : State) (k : Nat) (x : Side) : (s.setSide k x).time = s.time := rfl
@[simp] theorem State.setSide_rose (s : State) (k : Nat) (x : Side) : (s.setSide k x).rose = s.rose := rfl
@[simp] theorem State.setSide_chk (s : State) (k : Nat) (x : Side) : (s.setSide k x).chk = s.chk := rfl
@[simp] theorem State.setSide_eng (s : State) (k : Nat) (x : Side) : (s.setSide k x).eng = s.eng := rfl
@[simp] theorem State.setSide_tbs (s : State) (k : Nat) (x : Side) : (s.setSide k x).tbs = s.tbs := rfl
@[simp] theorem State.setSide_glin (s : State) (k : Nat) (x : Side) : (s.setSide k x).glin = s.glin := rfl
@[simp] theorem State.setSide_units (s : State) (k : Nat) (x : Side) : (s.setSide k x).units = s.units := rfl
@[simp] theorem State.setSide_heads (s : State) (k : Nat) (x : Side) : (s.setSide k x).heads = s.heads := rfl
@[simp] theorem State.setSide_wins (s : State) (k : Nat) (x : Side) : (s.setSide k x).wins = s.wins := rfl
@[simp] theorem State.setSide_vigil (s : State) (k : Nat) (x : Side) : (s.setSide k x).vigil = s.vigil := rfl
@[simp] theorem State.setSide_scaler (s : State) (k : Nat) (x : Side) : (s.setSide k x).scaler = s.scaler := rfl
@[simp] theorem State.setSide_fuses (s : State) (k : Nat) (x : Side) : (s.setSide k x).fuses = s.fuses := rfl
@[simp] theorem State.setSide_flash (s : State) (k : Nat) (x : Side) : (s.setSide k x).flash = s.flash := rfl
@[simp] theorem State.setSide_power (s : State) (k : Nat) (x : Side) : (s.setSide k x).power = s.power := rfl
@[simp] theorem State.setSide_sensors (s : State) (k : Nat) (x : Side) : (s.setSide k x).sensors = s.sensors := rfl
@[simp] theorem State.setSide_ledger (s : State) (k : Nat) (x : Side) : (s.setSide k x).ledger = s.ledger := rfl
@[simp] theorem State.setSide_test (s : State) (k : Nat) (x : Side) : (s.setSide k x).test = s.test := rfl
@[simp] theorem State.setSide_ctxs (s : State) (k : Nat) (x : Side) : (s.setSide k x).ctxs = s.ctxs := rfl
@[simp] theorem State.setSide_pipes (s : State) (k : Nat) (x : Side) : (s.setSide k x).pipes = s.pipes := rfl
@[simp] theorem State.setSide_intake (s : State) (k : Nat) (x : Side) : (s.setSide k x).intake = s.intake := rfl
@[simp] theorem State.setSide_sess (s : State) (k : Nat) (x : Side) : (s.setSide k x).sess = s.sess := rfl
@[simp] theorem State.setSide_encAt (s : State) (k : Nat) (x : Side) : (s.setSide k x).encAt = s.encAt := rfl
@[simp] theorem State.setSide_net (s : State) (k : Nat) (x : Side) : (s.setSide k x).net = s.net := rfl
@[simp] theorem State.setSide_servo (s : State) (k : Nat) (x : Side) : (s.setSide k x).servo = s.servo := rfl
@[simp] theorem State.setSide_lanes (s : State) (k : Nat) (x : Side) : (s.setSide k x).lanes = s.lanes := rfl
@[simp] theorem State.setSide_panels (s : State) (k : Nat) (x : Side) : (s.setSide k x).panels = s.panels := rfl
@[simp] theorem State.setSide_seqMem (s : State) (k : Nat) (x : Side) : (s.setSide k x).seqMem = s.seqMem := rfl
@[simp] theorem State.setSide_seqBad (s : State) (k : Nat) (x : Side) : (s.setSide k x).seqBad = s.seqBad := rfl
@[simp] theorem State.setSide_trigOut (s : State) (k : Nat) (x : Side) : (s.setSide k x).trigOut = s.trigOut := rfl
@[simp] theorem State.setSide_free (s : State) (k : Nat) (x : Side) : (s.setSide k x).free = s.free := rfl
@[simp] theorem State.setSide_reg (s : State) (k : Nat) (x : Side) (j : Nat) : (s.setSide k x).reg j = s.reg j := rfl
@[simp] theorem State.setSide_get (s : State) (k : Nat) (x : Side) (g : Fld) : (s.setSide k x).get g = s.get g := rfl
@[simp] theorem State.setSide_on (s : State) (k : Nat) (x : Side) (g : Fld) : (s.setSide k x).on g = s.on g := rfl
@[simp] theorem State.setSide_engine (s : State) (k : Nat) (x : Side) (j : Nat) : (s.setSide k x).engine j = s.engine j := rfl

/-! ### `setSes` -/

@[simp] theorem State.ses_setSes_same (s : State) (v : Nat) (x : Sess) : (s.setSes v x).ses v = x := by
  simp [State.ses, State.setSes]
theorem State.ses_setSes_ne (s : State) (v j : Nat) (x : Sess) (hne : j ≠ v) : (s.setSes v x).ses j = s.ses j := by
  simp [State.ses, State.setSes, tabGet_tabSet_ne _ _ _ _ _ hne]
@[simp] theorem State.setSes_pending (s : State) (v : Nat) (x : Sess) : (s.setSes v x).pending = s.pending := rfl
@[simp] theorem State.setSes_regs (s : State) (v : Nat) (x : Sess) : (s.setSes v x).regs = s.regs := rfl
@[simp] theorem State.setSes_mem (s : State) (v : Nat) (x : Sess) : (s.setSes v x).mem = s.mem := rfl
@[simp] theorem State.setSes_poison (s : State) (v : Nat) (x : Sess) : (s.setSes v x).poison = s.poison := rfl
@[simp] theorem State.setSes_dirty (s : State) (v : Nat) (x : Sess) : (s.setSes v x).dirty = s.dirty := rfl
@[simp] theorem State.setSes_bus (s : State) (v : Nat) (x : Sess) : (s.setSes v x).bus = s.bus := rfl
@[simp] theorem State.setSes_log (s : State) (v : Nat) (x : Sess) : (s.setSes v x).log = s.log := rfl
@[simp] theorem State.setSes_time (s : State) (v : Nat) (x : Sess) : (s.setSes v x).time = s.time := rfl
@[simp] theorem State.setSes_rose (s : State) (v : Nat) (x : Sess) : (s.setSes v x).rose = s.rose := rfl
@[simp] theorem State.setSes_chk (s : State) (v : Nat) (x : Sess) : (s.setSes v x).chk = s.chk := rfl
@[simp] theorem State.setSes_eng (s : State) (v : Nat) (x : Sess) : (s.setSes v x).eng = s.eng := rfl
@[simp] theorem State.setSes_tbs (s : State) (v : Nat) (x : Sess) : (s.setSes v x).tbs = s.tbs := rfl
@[simp] theorem State.setSes_glin (s : State) (v : Nat) (x : Sess) : (s.setSes v x).glin = s.glin := rfl
@[simp] theorem State.setSes_units (s : State) (v : Nat) (x : Sess) : (s.setSes v x).units = s.units := rfl
@[simp] theorem State.setSes_heads (s : State) (v : Nat) (x : Sess) : (s.setSes v x).heads = s.heads := rfl
@[simp] theorem State.setSes_wins (s : State) (v : Nat) (x : Sess) : (s.setSes v x).wins = s.wins := rfl
@[simp] theorem State.setSes_vigil (s : State) (v : Nat) (x : Sess) : (s.setSes v x).vigil = s.vigil := rfl
@[simp] theorem State.setSes_scaler (s : State) (v : Nat) (x : Sess) : (s.setSes v x).scaler = s.scaler := rfl
@[simp] theorem State.setSes_fuses (s : State) (v : Nat) (x : Sess) : (s.setSes v x).fuses = s.fuses := rfl
@[simp] theorem State.setSes_flash (s : State) (v : Nat) (x : Sess) : (s.setSes v x).flash = s.flash := rfl
@[simp] theorem State.setSes_power (s : State) (v : Nat) (x : Sess) : (s.setSes v x).power = s.power := rfl
@[simp] theorem State.setSes_sensors (s : State) (v : Nat) (x : Sess) : (s.setSes v x).sensors = s.sensors := rfl
@[simp] theorem State.setSes_ledger (s : State) (v : Nat) (x : Sess) : (s.setSes v x).ledger = s.ledger := rfl
@[simp] theorem State.setSes_test (s : State) (v : Nat) (x : Sess) : (s.setSes v x).test = s.test := rfl
@[simp] theorem State.setSes_ctxs (s : State) (v : Nat) (x : Sess) : (s.setSes v x).ctxs = s.ctxs := rfl
@[simp] theorem State.setSes_pipes (s : State) (v : Nat) (x : Sess) : (s.setSes v x).pipes = s.pipes := rfl
@[simp] theorem State.setSes_intake (s : State) (v : Nat) (x : Sess) : (s.setSes v x).intake = s.intake := rfl
@[simp] theorem State.setSes_encAt (s : State) (v : Nat) (x : Sess) : (s.setSes v x).encAt = s.encAt := rfl
@[simp] theorem State.setSes_net (s : State) (v : Nat) (x : Sess) : (s.setSes v x).net = s.net := rfl
@[simp] theorem State.setSes_servo (s : State) (v : Nat) (x : Sess) : (s.setSes v x).servo = s.servo := rfl
@[simp] theorem State.setSes_sides (s : State) (v : Nat) (x : Sess) : (s.setSes v x).sides = s.sides := rfl
@[simp] theorem State.setSes_lanes (s : State) (v : Nat) (x : Sess) : (s.setSes v x).lanes = s.lanes := rfl
@[simp] theorem State.setSes_panels (s : State) (v : Nat) (x : Sess) : (s.setSes v x).panels = s.panels := rfl
@[simp] theorem State.setSes_seqMem (s : State) (v : Nat) (x : Sess) : (s.setSes v x).seqMem = s.seqMem := rfl
@[simp] theorem State.setSes_seqBad (s : State) (v : Nat) (x : Sess) : (s.setSes v x).seqBad = s.seqBad := rfl
@[simp] theorem State.setSes_trigOut (s : State) (v : Nat) (x : Sess) : (s.setSes v x).trigOut = s.trigOut := rfl
@[simp] theorem State.setSes_free (s : State) (v : Nat) (x : Sess) : (s.setSes v x).free = s.free := rfl
@[simp] theorem State.setSes_reg (s : State) (v : Nat) (x : Sess) (j : Nat) : (s.setSes v x).reg j = s.reg j := rfl
@[simp] theorem State.setSes_get (s : State) (v : Nat) (x : Sess) (g : Fld) : (s.setSes v x).get g = s.get g := rfl
@[simp] theorem State.setSes_on (s : State) (v : Nat) (x : Sess) (g : Fld) : (s.setSes v x).on g = s.on g := rfl
@[simp] theorem State.setSes_engine (s : State) (v : Nat) (x : Sess) (j : Nat) : (s.setSes v x).engine j = s.engine j := rfl

/-! ### `setPanel` -/

@[simp] theorem State.panel_setPanel_same (s : State) (p : Nat) (x : Panel) : (s.setPanel p x).panel p = x := by
  simp [State.panel, State.setPanel]
theorem State.panel_setPanel_ne (s : State) (p j : Nat) (x : Panel) (hne : j ≠ p) : (s.setPanel p x).panel j = s.panel j := by
  simp [State.panel, State.setPanel, tabGet_tabSet_ne _ _ _ _ _ hne]
@[simp] theorem State.setPanel_pending (s : State) (p : Nat) (x : Panel) : (s.setPanel p x).pending = s.pending := rfl
@[simp] theorem State.setPanel_regs (s : State) (p : Nat) (x : Panel) : (s.setPanel p x).regs = s.regs := rfl
@[simp] theorem State.setPanel_mem (s : State) (p : Nat) (x : Panel) : (s.setPanel p x).mem = s.mem := rfl
@[simp] theorem State.setPanel_poison (s : State) (p : Nat) (x : Panel) : (s.setPanel p x).poison = s.poison := rfl
@[simp] theorem State.setPanel_dirty (s : State) (p : Nat) (x : Panel) : (s.setPanel p x).dirty = s.dirty := rfl
@[simp] theorem State.setPanel_bus (s : State) (p : Nat) (x : Panel) : (s.setPanel p x).bus = s.bus := rfl
@[simp] theorem State.setPanel_log (s : State) (p : Nat) (x : Panel) : (s.setPanel p x).log = s.log := rfl
@[simp] theorem State.setPanel_time (s : State) (p : Nat) (x : Panel) : (s.setPanel p x).time = s.time := rfl
@[simp] theorem State.setPanel_rose (s : State) (p : Nat) (x : Panel) : (s.setPanel p x).rose = s.rose := rfl
@[simp] theorem State.setPanel_chk (s : State) (p : Nat) (x : Panel) : (s.setPanel p x).chk = s.chk := rfl
@[simp] theorem State.setPanel_eng (s : State) (p : Nat) (x : Panel) : (s.setPanel p x).eng = s.eng := rfl
@[simp] theorem State.setPanel_tbs (s : State) (p : Nat) (x : Panel) : (s.setPanel p x).tbs = s.tbs := rfl
@[simp] theorem State.setPanel_glin (s : State) (p : Nat) (x : Panel) : (s.setPanel p x).glin = s.glin := rfl
@[simp] theorem State.setPanel_units (s : State) (p : Nat) (x : Panel) : (s.setPanel p x).units = s.units := rfl
@[simp] theorem State.setPanel_heads (s : State) (p : Nat) (x : Panel) : (s.setPanel p x).heads = s.heads := rfl
@[simp] theorem State.setPanel_wins (s : State) (p : Nat) (x : Panel) : (s.setPanel p x).wins = s.wins := rfl
@[simp] theorem State.setPanel_vigil (s : State) (p : Nat) (x : Panel) : (s.setPanel p x).vigil = s.vigil := rfl
@[simp] theorem State.setPanel_scaler (s : State) (p : Nat) (x : Panel) : (s.setPanel p x).scaler = s.scaler := rfl
@[simp] theorem State.setPanel_fuses (s : State) (p : Nat) (x : Panel) : (s.setPanel p x).fuses = s.fuses := rfl
@[simp] theorem State.setPanel_flash (s : State) (p : Nat) (x : Panel) : (s.setPanel p x).flash = s.flash := rfl
@[simp] theorem State.setPanel_power (s : State) (p : Nat) (x : Panel) : (s.setPanel p x).power = s.power := rfl
@[simp] theorem State.setPanel_sensors (s : State) (p : Nat) (x : Panel) : (s.setPanel p x).sensors = s.sensors := rfl
@[simp] theorem State.setPanel_ledger (s : State) (p : Nat) (x : Panel) : (s.setPanel p x).ledger = s.ledger := rfl
@[simp] theorem State.setPanel_test (s : State) (p : Nat) (x : Panel) : (s.setPanel p x).test = s.test := rfl
@[simp] theorem State.setPanel_ctxs (s : State) (p : Nat) (x : Panel) : (s.setPanel p x).ctxs = s.ctxs := rfl
@[simp] theorem State.setPanel_pipes (s : State) (p : Nat) (x : Panel) : (s.setPanel p x).pipes = s.pipes := rfl
@[simp] theorem State.setPanel_intake (s : State) (p : Nat) (x : Panel) : (s.setPanel p x).intake = s.intake := rfl
@[simp] theorem State.setPanel_sess (s : State) (p : Nat) (x : Panel) : (s.setPanel p x).sess = s.sess := rfl
@[simp] theorem State.setPanel_encAt (s : State) (p : Nat) (x : Panel) : (s.setPanel p x).encAt = s.encAt := rfl
@[simp] theorem State.setPanel_net (s : State) (p : Nat) (x : Panel) : (s.setPanel p x).net = s.net := rfl
@[simp] theorem State.setPanel_servo (s : State) (p : Nat) (x : Panel) : (s.setPanel p x).servo = s.servo := rfl
@[simp] theorem State.setPanel_sides (s : State) (p : Nat) (x : Panel) : (s.setPanel p x).sides = s.sides := rfl
@[simp] theorem State.setPanel_lanes (s : State) (p : Nat) (x : Panel) : (s.setPanel p x).lanes = s.lanes := rfl
@[simp] theorem State.setPanel_seqMem (s : State) (p : Nat) (x : Panel) : (s.setPanel p x).seqMem = s.seqMem := rfl
@[simp] theorem State.setPanel_seqBad (s : State) (p : Nat) (x : Panel) : (s.setPanel p x).seqBad = s.seqBad := rfl
@[simp] theorem State.setPanel_trigOut (s : State) (p : Nat) (x : Panel) : (s.setPanel p x).trigOut = s.trigOut := rfl
@[simp] theorem State.setPanel_free (s : State) (p : Nat) (x : Panel) : (s.setPanel p x).free = s.free := rfl
@[simp] theorem State.setPanel_reg (s : State) (p : Nat) (x : Panel) (j : Nat) : (s.setPanel p x).reg j = s.reg j := rfl
@[simp] theorem State.setPanel_get (s : State) (p : Nat) (x : Panel) (g : Fld) : (s.setPanel p x).get g = s.get g := rfl
@[simp] theorem State.setPanel_on (s : State) (p : Nat) (x : Panel) (g : Fld) : (s.setPanel p x).on g = s.on g := rfl
@[simp] theorem State.setPanel_engine (s : State) (p : Nat) (x : Panel) (j : Nat) : (s.setPanel p x).engine j = s.engine j := rfl

end Sys2Proof.Machine
end

