-- ==== Sys2Proof/Tests/Slice0.lean ====
section
/-! SUPPORT. Tests: ill-formed commands are refused, worked values of the manual, and states that meet what the statements
assume. -/
namespace Sys2Proof.Machine
section
set_option maxRecDepth 4000
/-! ### What the statements assume is met -/

/-- Reset with some fields set. -/
def st (l : List (Fld × Nat)) : State := l.foldl (fun s e => s.put e.1 e.2) State.reset

/-- Core 0 and sequencer 0 run at the start of their programs. -/
def running : State := st [(F.CORE_STATE 0, 1), (F.SEQN_STATE 0, 1)]

/-- Core 0, which runs at Keeper level after reset, and a line sequencer, which never does (R137, R454). -/
def keeper : Initiator := .core 0
def user : Initiator := .seq 0
/-- Their levels, with the identifier of core 0. -/
def keeperSrc : Src := ⟨0, true⟩
def userSrc : Src := ⟨0, false⟩

/-- The state with general registers of engine `k` set. -/
def State.withG (s : State) (k : Nat) (l : List (Nat × Dword)) : State :=
  s.setEngine k (l.foldl (fun e p => e.setG p.1 p.2) (s.engine k))

/-- The state with system registers of core 0 set. -/
def State.withSr (s : State) (l : List (Nat × Dword)) : State := s.setEngine 0 { s.engine 0 with sr := l }

/-- The state with accesses in flight. -/
def State.flying (s : State) (l : List Access) : State := { s with bus := { s.bus with inflight := l } }

/-- Core 0 runs at User level, in a region that grants it everything. -/
def userRunning : State := (st [(F.CORE_STATE 0, 1), (F.REGION_EN 0 0, 1), (F.REGION_LAST_LO 0 0, 0xFFFF), (F.REGION_PERM 0 0, 63)]).withSr [(1, 0)]

theorem witness_boundary : running.boundary (.core 0) = none ∧ running.boundary (.seq 0) = none := by decide

theorem witness_ImmediateResults : (0x003F#16).toNat / 256 = 0 ∧ (0x011F#16).toNat / 256 = 1 ∧ (0x011F#16).toNat / 32 % 2 = 0 ∧
    (0x0200#16).toNat / 512 ≠ 0 ∧ (0x0120#16).toNat / 256 % 2 = 1 ∧ (0x0120#16).toNat / 32 % 2 = 1 := by decide

theorem witness_BranchTargets :
    (let s := running.withG 0 [(1, BitVec.ofNat 64 (2 ^ 40 - 4))]; s.boundary (.core 0) = none ∧ (s.gr 0 1 + BitVec.ofInt 64 0).toNat = 2 ^ 40 - 4) ∧
    (let s := running.withG 0 [(1, 1)]; s.boundary (.core 0) = none ∧ (s.gr 0 1).toNat % 4 ≠ 0) ∧
    (let s := running.withG 0 [(1, BitVec.ofNat 64 (2 ^ 40))]; s.boundary (.core 0) = none ∧ (s.gr 0 1).toNat % 4 = 0 ∧ 2 ^ 40 ≤ (s.gr 0 1).toNat) := by
  decide

theorem witness_LoadsOfNormalMemory : running.isNormal 8 = true ∧ (running.initCheck (running.engSrc 0) .read 8 8).1 = true ∧
    running.inFlightOf 0 = false ∧ running.poisoned 8 8 = false := by decide

/-- A store of core 0 at the head of those in flight. -/
def aStore (epoch : Nat) : Access := ⟨keeperSrc, .write, 64, 1, [7], 0, epoch, none, 0⟩

theorem witness_StoresWaitForTheirTarget :
    (running.initCheck (running.engSrc 0) .write 8 8).1 = true ∧
    (let s := running.flying [aStore 0]; s.mapCheck 64 1 = none ∧ (s.region 64).isReg = false ∧ s.staleTag (aStore 0) = false ∧
      Memory.wf s.mem = true ∧ (s.engine 0).halting = none) ∧
    Memory.wf running.seqMem = true := by decide

theorem witness_AddressCauses :
    (let s := running.withG 0 [(1, BitVec.ofNat 64 (2 ^ 40))]; s.boundary (.core 0) = none ∧ 2 ^ 40 ≤ (s.gr 0 1).toNat) ∧
    (let s := running.withG 16 [(1, 1)]; s.boundary (.seq 0) = none ∧ (s.gr 16 1).toNat < 2 ^ 40 ∧ (s.gr 16 1).toNat % 2 ≠ 0) := by decide

theorem witness_AtomicResults :
    (running.inFlightOf 0 = false ∧ running.region 0 = .dram ∧ (running.initCheck (running.engSrc 0) .atomic 0 8).1 = true) ∧
    leNat (running.coreRead 0 8) = (running.gr 0 1).toNat % 2 ^ 64 ∧
    (let s := running.withG 0 [(1, 1)]; leNat (s.coreRead 0 8) ≠ (s.gr 0 1).toNat % 2 ^ 64) ∧
    running.region 0x1000000000 ≠ .dram ∧ running.region 0x1000000000 ≠ .l2sram := by decide

theorem witness_SystemRegisters : (running.engine 0).keeper = true ∧
    userRunning.boundary (.core 0) = none ∧ (userRunning.engine 0).keeper = false := by decide

/-- Attention of ring 0 routed to core 0, which enables it. -/
def attending : State := (st [(F.CORE_STATE 0, 1), (F.RINGS_ATTN_STATE 0, 1), (F.RINGS_ATTN_ROUTE 0, 1)]).withSr [(1, 3), (0x22, 1)]

theorem witness_ExceptionEntry :
    ((running.engine 0).pc < 2 ^ 40 ∧ (running.engine 0).ex = false ∧ (running.engine 0).dbg = false ∧ executes true 0xFFFFFFFF = false) ∧
    (attending.coreIssues 0 = true ∧ (attending.engine 0).impr = [] ∧ (attending.engine 0).ie = true ∧ (attending.attention 0).isSome = true ∧
      (attending.engine 0).ex = false) ∧
    (let s := running.setEngine 0 { running.engine 0 with impr := [(64, some 0xFFFFFFFF)] }; s.coreIssues 0 = true ∧ (s.engine 0).ex = false) := by
  decide

theorem witness_DoubleFault : (let s := running.withSr [(1, 5)]; (s.engine 0).ex = true ∧ s.boundary (.core 0) = none) ∧
    (running.engine 0).ex = false := by decide

theorem witness_ReturnAndDebugger :
    (let s := (running.setEngine 0 { running.engine 0 with dbg := true }).setEngine 16 { running.engine 16 with dbg := true }
     s.boundary (.core 0) = none ∧ s.boundary (.seq 0) = none ∧ s.inFlightOf 0 = false ∧ (s.engine 0).keeper = true) ∧
    running.get (F.CORE_STATE 0) = 1 ∧ running.get (F.SEQN_STATE 0) = 1 ∧ (running.engine 0).wait = .none := by decide

theorem witness_FencesAndCacheLines : running.memoriesOk = true ∧ running.get F.PROT_ACT_STATUS ≠ 1 ∧ running.gr 0 1 = 0 ∧
    (let s := running.put F.PROT_ACT_STATUS 1; s.boundary (.core 0) = none ∧ s.get F.PROT_ACT_STATUS = 1) ∧
    (let s := { running.withG 0 [(1, 5)] with servo := { running.servo with step := some (1, true, 0, 0) } }
     s.boundary (.core 0) = none ∧ s.gr 0 1 ≠ 0 ∧ s.servo.step.isSome = true) ∧
    (let s := running.setEngine 0 { running.engine 0 with wait := .rulesync false }; (s.engine 0).wait = .rulesync false ∧ (s.engine 0).halting = none) := by
  decide

/-- Ring 0 enabled with entries of 16 bytes, two of them, one filled, at 256. -/
def ringed (pm cm fill : Nat) : State := st [(F.CORE_STATE 0, 1), (F.RINGS_CFG_EN 0, 1), (F.RINGS_CFG_LOG2N 0, 1), (F.RINGS_CFG_PMODE 0, pm),
  (F.RINGS_CFG_CMODE 0, cm), (F.RINGS_BASE 0, 1), (F.RINGS_PUT 0, fill)]

theorem witness_RingInstructions :
    (let s := running.withG 0 [(2, 128)]; s.boundary (.core 0) = none ∧ 128 ≤ (s.gr 0 2).toNat) ∧
    (let s := ringed 0 0 0; s.boundary (.core 0) = none ∧ s.on (F.RINGS_CFG_EN 0) = true ∧ s.ringFill 0 = 0 ∧ s.ringN 0 = 2 ∧
      s.ringSize 0 = 16 ∧ (s.initCheck (s.engSrc 0) .write 256 16).1 = true ∧ (s.initCheck (s.engSrc 0) .read 0 16).1 = true ∧
      s.memoriesOk = true) ∧
    (let s := ringed 0 0 2; s.ringFill 0 = s.ringN 0) ∧
    (let s := ringed 0 0 1; s.ringFill 0 ≠ 0 ∧ (s.initCheck (s.engSrc 0) .read 256 16).1 = true ∧ s.poisoned 256 16 = false) ∧
    (let s := ringed 1 0 0; (1 + 2 * 2 - s.get (F.RINGS_PUT 0)) % (2 * 2) ≤ 2 - s.ringFill 0 ∧ s.on (F.RINGS_CFG_PMODE 0) = true) ∧
    (let s := ringed 0 1 1; (1 + 2 * 2 - s.get (F.RINGS_GET 0)) % (2 * 2) ≤ s.ringFill 0 ∧ s.on (F.RINGS_CFG_CMODE 0) = true) ∧
    (running.on (F.RINGS_CFG_EN 0) = false ∧ Admits running keeper (F.RINGS_BELL_INDEX 0).key ∧
      (running.initCheck (running.engSrc 0) .write (keyAddr (F.RINGS_BELL_INDEX 0).key) 4).1 = true) := by decide

theorem witness_WaitForAttention :
    (attending.withSr [(1, 1), (0x22, 1)]).attention 0 = some 0 ∧ (attending.withSr [(1, 1), (0x22, 1)]).boundary (.core 0) = none ∧
    running.attention 0 = none ∧ running.hasHead 47 = true ∧ running.hasHead 48 = false ∧ running.headBarred (.core 0) 47 = false ∧
    (userRunning.boundary (.core 0) = none ∧ userRunning.headBarred (.core 0) 0 = true) ∧
    (running.pos 0 + 2 ^ 32 - 0) % 2 ^ 32 < 2 ^ 31 ∧ ¬(running.pos 0 + 2 ^ 32 - 1) % 2 ^ 32 < 2 ^ 31 ∧
    (running.time64 + 2 ^ 64 - 0) % 2 ^ 64 < 2 ^ 63 ∧ ¬(running.time64 + 2 ^ 64 - 1) % 2 ^ 64 < 2 ^ 63 := by decide

/-- STAGE regions 0 and 1 of rule set 0 enabled, from `a` to `b` and from 0 to 0 (in granules). -/
def staged (a b en : Nat) : State := st [(F.REGION_EN 1 0, 1), (F.REGION_BASE_LO 1 0, a), (F.REGION_LAST_LO 1 0, b), (F.REGION_EN 1 1, en)]

theorem witness_RuleSetActivation :
    Admits State.reset keeper F.PROT_ACT_SET.key ∧ State.reset.get F.PROT_ACT_STATUS ≠ 1 ∧
    (staged 1 0 0).regionLast 1 0 < (staged 1 0 0).regionBase 1 0 ∧
    ((staged 0 0 1).regionBase 1 0 ≤ (staged 0 0 1).regionLast 1 1 ∧ (staged 0 0 1).regionBase 1 1 ≤ (staged 0 0 1).regionLast 1 0) ∧
    (let s := (st [(F.PROT_ACT_STATUS, 1)]).flying [aStore 5]; s.get F.PROT_ACT_STATUS = 1 ∧ s.bus.actSet < 64 ∧ (aStore 5).epoch ≠ s.epochOf 0) ∧
    Admits State.reset keeper (F.PROT_BIND 127).key ∧ Admits State.reset keeper F.PROT_CTRL_LOCKDOWN.key := by decide

theorem witness_UserWritesOfKeeperRegisters : running.atKeeperLevel user = false ∧
    [(F.PROT_BIND 127).key, F.PROT_CTRL_LOCKDOWN.key, F.PROT_ACT_SET.key, (F.RINGS_CFG_EN 127).key, (F.CORE_CTL_RUN 15).key,
      (F.SEQN_CTL_RUN 47).key, (F.HEAD_CFG_ENABLE 47).key, F.SYS_MODE_REQ_REQ.key, F.PWR_CTRL_STOP.key].all
      (fun k => State.reset.keyPresent k && State.reset.holdsWk k) = true := by decide

/-- ACTIVE region 0 of rule set 0 holds granule 0 and grants `p`. -/
def granting (p : Nat) : State := st [(F.REGION_EN 0 0, 1), (F.REGION_PERM 0 0, p)]

set_option maxRecDepth 4000 in
theorem witness_InitiatorChecks :
    State.reset.region (62 * 2 ^ 30) = .unmapped ∧ State.reset.region (62 * 2 ^ 30 - 1) = .dram ∧
    (State.reset.region 0x2000000002).isReg = true ∧ 0x2000000002 % 4 ≠ 0 ∧
    (let s := granting 0; s.on (F.REGION_EN 0 0) = true ∧ s.regionBase 0 0 ≤ 63 ∧ 63 ≤ s.regionLast 0 0 ∧ ¬64 ≤ s.regionLast 0 0 ∧
      permOk (s.get (F.REGION_PERM 0 0)) false .read = false) ∧
    permOk ((granting 1).get (F.REGION_PERM 0 0)) false .read = true ∧
    (State.reset.initCheck userSrc .write 0 4).1 = false ∧ (State.reset.initCheck keeperSrc .write 0 256).1 = true ∧
    (let s := State.reset.flying [⟨userSrc, .write, 64, 1, [7], 0, 1, none, 0⟩]
     s.mapCheck 64 1 = none ∧ s.staleTag ⟨userSrc, .write, 64, 1, [7], 0, 1, none, 0⟩ = true ∧ (s.firstBad userSrc .write 64 1).isSome = true ∧
       (s.engine 0).halting = none) := by decide

theorem witness_RingEnableChecks : Admits State.reset keeper (F.RINGS_CFG_EN 127).key ∧ State.reset.on (F.RINGS_CFG_EN 127) = false ∧
    State.reset.get (F.RINGS_BASE 127) * 256 + 2 ^ 16 * (16 * 2 ^ 4) ≤ State.reset.dramEnd ∧
    tabGet? { State.reset with rose := [(127, 0)] }.rose 127 = some 0 := by decide

/-- A job over 32 bytes at 0 with its descriptor at 64, queued in unit 0. -/
def aJob : ChkJob := ⟨64, leBytes 0 4 ++ leBytes 32 4 ++ leBytes 0 8 ++ leBytes 0 8 ++ leBytes 0 8, keeperSrc⟩
def jobbed : State := { State.reset with chk := [(0, [aJob])] }

theorem witness_ComputeJob :
    let j := jobOf aJob.desc
    let u := jobbed.advance 5
    jobbed.chkQueue (0 : Fin 8) = [aJob] ∧ j.op = 0 ∧ j.resume = false ∧ j.save = false ∧ j.ring = false ∧
    jobbed.bit F.SYS_FENCE_CHK (0 : Fin 8) = false ∧ jobbed.test.unit ≠ some 0xB8 ∧
    u.unitRead aJob.src j.src j.len = (some (List.replicate 32 0), u) ∧ aJob.at_ % 256 ≤ 224 ∧
    (jobbed.initCheck aJob.src .write (aJob.at_ + 24) 8).1 = true ∧ jobbed.memoriesOk = true := by decide

def aRec : Rec := ⟨1, 2, 3, 4, 5, 6, 7⟩

/-- The log posts to ring 3, enabled with two entries of 32 bytes at 256, and has a record. -/
def logging : State := { st [(F.FAULT_CTRL_RING, 3), (F.FAULT_CTRL_EN, 1), (F.RINGS_CFG_EN 3, 1), (F.RINGS_CFG_ESIZE 3, 1),
  (F.RINGS_CFG_LOG2N 3, 1), (F.RINGS_BASE 3, 1), (F.REGION_EN 0 0, 1), (F.REGION_PERM 0 0, 63)] with log := { queue := [aRec] } }

theorem witness_RecordsAreNumbered :
    (let s := logging; s.log.lost = 0 ∧ s.on F.FAULT_CTRL_EN = true ∧ s.on (F.RINGS_CFG_EN (s.get F.FAULT_CTRL_RING)) = true ∧
      s.on (F.RINGS_CFG_PMODE 3) = false ∧ s.get (F.RINGS_CFG_ESIZE 3) = 1 ∧ s.ringFill 3 ≠ s.ringN 3 ∧
      (s.initCheck ⟨0x7F, true⟩ .write (s.get (F.RINGS_BASE 3) * 256) 32).1 = true ∧ s.memoriesOk = true) ∧
    State.reset.log.queue.length < 256 ∧ 256 ≤ (List.replicate 256 aRec).length ∧
    Admits State.reset keeper F.FAULT_CTR_CLEAR_BLOCK.key := by decide

theorem witness_CoreRunControl :
    Admits State.reset keeper (F.CORE_CTL_RUN 15).key ∧ Admits running keeper (F.CORE_CTL_RUN 0).key ∧ running.inFlightOf 0 = false ∧
    (running.engine 0).wait ∉ [.rulesync true, .rulesync false, .step, .busy] ∧
    (let s := running.put (F.CORE_WDOG_CFG 0) 1; s.get (F.CORE_STATE 0) = 1 ∧ s.get (F.CORE_WDOG_CFG 0) ≠ 0 ∧
      (s.engine 0).kickAt + 1200 * 1 ≤ s.time.pix + 1200 ∧ s.time.pix + 1199 < (s.engine 0).kickAt + 1200 * 1) ∧
    Admits State.reset keeper (F.CORE_WDOG_KICK 15).key ∧ Admits State.reset keeper F.L2_SRAM_WAYS.key ∧
    Admits State.reset keeper (F.L2_NC_LIMIT_EN 3).key ∧ Admits State.reset keeper (F.L2_NC_BASE 3).key ∧ State.reset.memoriesOk = true ∧
    (st [(F.L2_STATUS_BUSY, 1)]).on F.L2_STATUS_BUSY = true ∧ State.reset.on F.L2_STATUS_BUSY = false := by decide

/-- Core 0 runs and head 0 is enabled, its unit in the state `u`. -/
def committing (u : CommitUnit) : State := { running.put (F.HEAD_CFG_ENABLE 0) 1 with units := [(0, u)] }

theorem witness_CommitsAndPlacements :
    (running.boundary (.core 0) = none ∧ running.inFlightOf 0 = false ∧ (running.engine 0).keeper = true) ∧
    (let s := committing {}; s.boundary (.core 0) = none ∧ s.hasHead 0 = true ∧ s.unitOff 0 = false ∧ s.isLate 0 = false ∧ (s.unit 0).sealed = false) ∧
    (let s := committing { sealed := true }; s.isLate 0 = false ∧ (s.unit 0).sealed = true ∧ (s.unit 0).queued = false) ∧
    (let s := committing { sealed := true, queued := true }; s.isLate 0 = false ∧ (s.unit 0).queued = true) ∧
    (let s := { committing {} with tbs := [(0, { line := 2158 })] }; s.isLate 0 = true ∧ (s.unit 0).sealed = false ∧ s.unitOf 0 < 48) ∧
    (running.hasHead 47 = true ∧ 0 < running.nWins ∧ (running.win 0).unit = none ∧ running.openCount 47 < 64 ∧ running.hasHead 48 = false ∧
      running.openPlaced 0 = false ∧ (running.win 0).act = none) ∧
    (let s := { running with wins := [(0, { unit := some 1 })] }; (s.win 0).unit = some 1 ∧ 1 ≠ s.unitOf 0) ∧
    (let s := { running.put (F.WIN_PLACED 0) 1 with wins := [(0, { unit := some 0, act := some [] })] }; s.openPlaced 0 = true ∧ (s.win 0).act = some []) := by
  decide

theorem witness_TriggersOfACore :
    (let s := userRunning.withG 0 [(1, 0x7F)]; s.boundary (.core 0) = none ∧ s.inFlightOf 0 = false ∧ (s.engine 0).keeper = false ∧
      (s.gr 0 1).toNat % 256 < 0x80) ∧
    (let s := running.withG 0 [(1, 0x22), (2, 0x44), (3, 0x40), (4, 0xFF)]; s.boundary (.core 0) = none ∧ s.inFlightOf 0 = false ∧
      (s.engine 0).keeper = true ∧ 0x22 ≤ (s.gr 0 1).toNat % 256 ∧ (s.gr 0 1).toNat % 256 < 0x30 ∧ 0x44 ≤ (s.gr 0 2).toNat % 256 ∧
      (s.gr 0 2).toNat % 256 < 0x80 ∧ (s.gr 0 3).toNat % 256 = 0x40 ∧ tabGet 0 s.trigOut 0 ≤ s.time.pix ∧
      0x80 ≤ (s.gr 0 4).toNat % 256 ∧ s.on (F.RINGS_CFG_EN 127) = false) ∧
    running.time.pix < tabGet 0 [(0, 1)] 0 := by decide

theorem witness_MediaGroup :
    running.boundary (.core 0) = none ∧ running.inFlightOf 0 = false ∧ (running.engine 0).tb.length = 32 ∧
    (running.withG 0 [(1, 7)]).gr 0 1 = 7 ∧
    (0 < 2 ^ 40 ∧ running.region 0 = .dram ∧ (running.initCheck (running.engSrc 0) .read 0 32).1 = true ∧ running.poisoned 0 32 = false) ∧
    leNat ((running.coreRead 0 32).drop 28) ≠ crc32c ((running.coreRead 0 32).take 28) ∧
    16 ≤ ({ running with chk := [(7, List.replicate 16 aJob)] }.chkQueue 7).length := by decide

theorem witness_SequencerControl :
    Admits State.reset keeper (F.SEQN_CTL_RUN 47).key ∧ State.reset.get (F.SEQN_STATE 47) = 0 ∧ Admits State.reset keeper (seqMemKey 47 4095) ∧
    State.reset.memoriesOk = true ∧
    (let s := running.setEngine 16 { running.engine 16 with budget := 1 }
     let u := s.advance (s.budgetOf 0 + 1)
     s.get (F.SEQN_STATE 0) = 1 ∧ (s.engine 16).overrun = false ∧ u.budgetOf 0 < u.time.pix - (s.engine 16).runAt) ∧
    ((running.put (F.SEQN_CTL_BUDGET_STOP 0) 1).on (F.SEQN_CTL_BUDGET_STOP 0) = true ∧ running.on (F.SEQN_CTL_BUDGET_STOP 0) = false) ∧
    (let s := (running.put (F.SEQN_WDOG 0) 2).setEngine 16 { running.engine 16 with sinceCommit := 2 }
     s.get (F.SEQN_STATE 0) = 1 ∧ s.get (F.SEQN_WDOG 0) ≠ 0 ∧ s.get (F.SEQN_WDOG 0) ≤ (s.engine 16).sinceCommit) ∧
    Admits running keeper (seqMemKey 0 0) ∧
    (running.boundary (.seq 0) = none ∧ running.hasHead 0 = true ∧ running.time.pix - (running.engine 16).runAt ≤ running.budgetOf 0) ∧
    (running.pos 0 + 2 ^ 32 - 0) % 2 ^ 32 < 2 ^ 31 ∧ ¬(running.pos 0 + 2 ^ 32 - 1) % 2 ^ 32 < 2 ^ 31 ∧ (0x3FFF#16).toNat < 2 ^ 14 ∧
    2 ^ 14 ≤ (0x4000#16).toNat := by decide

theorem witness_HeadRegisters : [0, 4, 8, 12, 16].all (fun o => State.reset.keyPresent ((F.HEAD_HTIM_HACTIVE 47).key + o)) = true ∧
    (∀ o ∈ [0, 4, 8, 12, 16], Admits State.reset keeper ((F.HEAD_HTIM_HACTIVE 0).key + o)) ∧
    State.reset.enabled 0 = false ∧ State.reset.spanOf 0 = none ∧ State.reset.mode ≠ 11 ∧ State.reset.enableCode 0 = 0 ∧
    (State.reset.put (F.HEAD_CFG_DEPTH 0) 3).enableCode 0 = 6 ∧ (st [(F.HEAD_CFG_ENABLE 0, 1)]).enabled 0 = true := by decide

/-- Head 0, enabled, at line VACTIVE with a sealed bank in which window 0 has the descriptor `ws`. -/
def applying (ws : List Word) : State := { committing { sealed := true } with
  tbs := [(0, { line := 2160 })],
  wins := [(0, { unit := some 0, sealed := some ⟨ws, false, false⟩ })] }

/-- A solid 16 × 16 window at the origin of head 0, placed; and one of head 1 instead. -/
def solid (head : BitVec 32) : List Word := [4, 0, 0, 0, 0, 0, 0x00100010, 0, 0x4000 + head, 0, 0, 0, 0, 0, 0, 0]

theorem witness_CommitUnits :
    (let s := committing {}; Admits s keeper (F.HEAD_COMMIT_REQ 0).key ∧ s.unitLive 0 = true ∧ s.unitOff 0 = false ∧ s.isLate 0 = false ∧
      (s.unit 0).sealed = false) ∧
    (let s := applying (solid 0); s.unitLive 0 = true ∧ (s.tb (s.unitMaster 0)).line = (s.tb (s.unitMaster 0)).timing.vactive ∧
      (s.unit 0).applying = false ∧ (s.unit 0).skip ≠ some (s.tb 0).fseq ∧ ((s.tb 0).fseq + 1) % 2 ^ 32 % ((s.unit 0).hold + 1) = 0 ∧
      (s.advance 9).applyCheck 0 = none ∧ wPlaced (solid 0) = true) ∧
    ((applying (solid 0 |>.set 6 0)).advance 9).applyCheck 0 ≠ none ∧
    (State.reset.tb 0).line ≠ (State.reset.tb 0).timing.vactive := by decide

/-- Head 0 sends, and the line composed for it is line 0 of frame 0. -/
def sending : State := { st [(F.HEAD_CFG_ENABLE 0, 1)] with
  tbs := [(0, { sending := true })],
  heads := [(0, { composed := { full := true, pix := [⟨0, 0, 0⟩] } })] }

theorem witness_FramesAndLines : State.reset.hasHead 47 = true ∧ State.reset.master 47 = 47 ∧
    (State.reset.tb 0).stepDue = none ∧ (State.reset.tb 0).loadDue = false ∧ (State.reset.tb 0).fresh = true ∧
    (let b : Timebase := { fresh := false, line := 2248 }; b.fresh = false ∧ b.line + 1 < b.timing.vtotal) ∧
    (let s := sending; s.master 0 = 0 ∧ (s.tb 0).fresh = true ∧ (s.tb 0).sending = true ∧ s.composes 0 = true ∧
      (s.tb 0).line < (s.tb 0).timing.vactive ∧ (s.head 0).composed.full = true ∧ (s.head 0).composed.no = (s.tb 0).line ∧
      (s.head 0).composed.fseq = (s.tb 0).fseq) := by decide

/-- Head 47 in the genlock state `g` with the timebase `b`, time having been locked once. -/
def genlocked (g : Nat) (b : Timebase) : State := { st [(F.HEAD_GL_STATE_STATE 47, g)] with tbs := [(47, b)], time := { everLocked := true } }

theorem witness_Genlock : State.reset.followers 1 = [] ∧ State.reset.followers 2 = [] ∧ 9 < 10 * max 1 (State.reset.get F.RASTER_GL_IN_CFG_MIN_W) ∧
    (let s := genlocked 3 { src := 1, lastPulse := some 0 }; s.hasHead 47 = true ∧ s.master 47 = 47 ∧ s.get (F.HEAD_GL_STATE_STATE 47) = 3 ∧
      (s.advance 40000000).windowOver 47 = true) ∧
    State.reset.get (F.HEAD_GL_STATE_STATE 47) = 0 ∧
    (let s := genlocked 4 { freeFrames := 8, src := 1, fallback := 2 }; 8 ≤ (s.tb 47).freeFrames ∧ s.get (F.HEAD_GL_STATE_STATE 47) = 4 ∧
      (s.tb 47).fallback ≠ 0 ∧ (s.tb 47).fallback ≠ (s.tb 47).src) ∧ (State.reset.tb 47).fallback = 0 ∧
    (let s := genlocked 1 { src := 3 }; s.time.everLocked = true ∧ (s.tb 47).src = 3 ∧ s.get (F.HEAD_GL_STATE_STATE 47) = 1 ∧ (s.tb 47).cand = []) ∧
    State.reset.time.everLocked = false := by decide

/-- Span 0 has heads 0 and 1 as its members; enabled, and with head 1 enabled. -/
def spanned (en h1 : Nat) : State := st [(F.SPAN_MEMBERS_LO 0, 3), (F.SPAN_CTRL_ENABLE 0, en), (F.HEAD_CFG_ENABLE 1, h1)]

theorem witness_Spans : Admits State.reset keeper (F.SPAN_CTRL_ENABLE 15).key ∧ Admits State.reset keeper (F.SPAN_MEMBERS_LO 15).key ∧
    (spanned 0 0).on (F.SPAN_CTRL_ENABLE 0) = false ∧ (spanned 0 0).spanCode 0 = 0 ∧ (spanned 0 1).spanCode 0 = 4 ∧
    ((spanned 1 0).on (F.SPAN_CTRL_ENABLE 0) = true ∧ ((spanned 1 0).members 0).any (spanned 1 0).enabled = false) ∧
    ((spanned 1 1).members 0).any (spanned 1 1).enabled = true := by decide

/-- The tag of a 64 × 32 picture of format `fmt`, captured at `cap`. -/
def aTag (cap fmt : Nat) : Latched :=
  ⟨0, tagBytes ⟨cap, 1, 5, 0, false, false, true, 0, fmt, 0, 0x100, 64, 32, 0, 0, true⟩⟩

/-- A 64 × 32 window of context 5 at the origin of head 0, placed, with ECHO_REQ. -/
def video : List Word := [1, 5, 0, 0, 0, 0x00080040, 0x00200040, 0, 0x4000, 0, 0, 0, 0, 0, 0, 1]

/-- A window-line of window 0. -/
def aLine (bad : Bool) : WinLine := ⟨0, 1, false, 0, [0], none, if bad then 2 else 1, false, 0, 0, true, 0, bad, 0, 0, false⟩

/-- Head 0 with window 0 active, its tag captured at `cap`, on line 1, of which `aLine` has left. -/
def watching (cap : Nat) (bad : Bool) : State := { st [(F.HEAD_CFG_ENABLE 0, 1), (F.WIN_KIND 0, 1), (F.SYS_MODE_MODE, 5)] with
  wins := [(0, { unit := some 0, act := some video, tag := some (aTag cap 0) })],
  tbs := [(0, { line := 1, dispNext := 300000000 })],
  heads := [(0, { sent := { no := 1, wins := [aLine bad], full := true }, hist := [(0, 0, 0, 7, false)] })] }

theorem witness_VigilVerdicts : (let s := watching 0 true
    let x := s.win 0
    s.supWins 0 = [(0, video)] ∧ x.tag = some (aTag 0 0) ∧ (tagOf (aTag 0 0).bytes).ok = true ∧ 2 ≤ s.inService.length ∧ s.mode ≠ 10 ∧
    (s.head 0).stepHold = 0 ∧ x.withheld = none ∧ x.heldInt = 0 ∧ x.heldUnv = 0 ∧ x.echoLost = false ∧ x.pick = (0, 0) ∧ x.pickWas = (0, 0) ∧ x.inject = 0 ∧ (s.nextLine 0).1 ≠ 0 ∧
    x.snuff = (0, 0) ∧ (x.bounds.1 : Int) < sint 32 ((300000000 + 999) / 1000 % 2 ^ 32 + 2 ^ 32 - 0) ∧ crosses video (s.lineOf 0) = true ∧
    (s.head 0).sent.wins.find? (fun j => j.win = 0) = some (aLine true) ∧ (aLine true).path = 0 ∧ (aLine true).mismatch = true) ∧
    (let s := watching 303000000 false
     s.supWins 0 = [(0, video)] ∧ (tagOf (aTag 303000000 0).bytes).ok = true ∧
     sint 32 (300000 + 2 ^ 32 - (tagOf (aTag 303000000 0).bytes).capture / 1000 % 2 ^ 32) < -2000) ∧
    (let s := watching 300000000 false
     s.on (F.VIGIL_WSTATE_AGE_LATCH 0) = false ∧ (s.win 0).advDue = false ∧
     sint 32 (300000 + 2 ^ 32 - (tagOf (aTag 300000000 0).bytes).capture / 1000 % 2 ^ 32) = 0 ∧
     sint 32 (300000 + 2 ^ 32 - (s.put (F.VIGIL_WSTATE_ADV 0) 300000).get (F.VIGIL_WSTATE_ADV 0)) ≤ (s.win 0).bounds.2.1 ∧
     (aLine false).mismatch = false) := by decide

theorem witness_VigilRegisters : Admits State.reset keeper F.VIGIL_CTRL_LOCK.key ∧ (∀ c : Fin 8, Admits State.reset keeper (colourKey c)) ∧
    State.reset.on F.VIGIL_CTRL_LOCK = false ∧ (st [(F.VIGIL_CTRL_LOCK, 1)]).on F.VIGIL_CTRL_LOCK = true ∧
    Admits State.reset keeper F.VIGIL_INJECT_WINDOW.key ∧
    (let s := (watching 0 false).put F.VIGIL_CTRL_ECHO 1
     (s.head 0).hist.find? (fun e => e.1 = 0 && e.2.2.1 = 0 && !e.2.2.2.2) = some (0, 0, 0, 7, false) ∧ s.echoLine 0 = true ∧ s.winOn 0 0 = true ∧
     ((s.win 0).act.map wEchoReq).getD false = true ∧ ({ s with heads := [(0, { s.head 0 with echoTimeout := 1 })] }.advance 1).linesSince 0 0 0 = 1) := by
  decide

theorem witness_ComposedLines : (let s := { watching 0 false with power := { wake := [(0x30, 0)] } }
    s.composes 0 = true ∧ (s.nextLine 0).1 < (s.tb 0).timing.vactive ∧ (s.advance 1).awake (0x30 + s.sliceOf 0) = true ∧
    (s.advance 12000).awake (0x30 + s.sliceOf 0) = false ∧ (s.head 0).composed.full = false ∧
    (∃ e ∈ s.actWins 0, crosses e.2 (s.nextLine 0).1 = true ∧ supervised e.2 = true)) ∧ (st [(F.HEAD_CFG_ENABLE 0, 1)]).actWins 0 = [] := by decide

/-- Copy set 0 holds OW and OH of 2 and a vertical set, and `j` waits in the bank. -/
def copying (en : Nat) (q : List CopyJob) : State := { st [(F.COPY_ENABLE 0, en), (F.COPY_SLOTS 0, 1), (F.COPY_OW 0, 2), (F.COPY_OH 0, 2), (F.PIXP_COEF_VMASK, 1)] with
  scaler := { queue := q, engines := [(1, ⟨0, aTag 0 0, 0⟩)] } }

theorem witness_WindowsAndCopies : Admits State.reset keeper (winKey 2047 + 0x3C) ∧ Admits State.reset keeper F.COMP_PLACE_CTL_GO.key ∧
    (st [(F.COMP_PLACE_A, 48 * 2 ^ 16)]).hasHead 48 = false ∧ Admits State.reset keeper F.PIXP_COEF_LOAD_SET.key ∧
    State.reset.get F.PIXP_COEF_LOAD_STATUS ≠ 1 ∧ Admits State.reset keeper (F.COPY_SRC 255).key ∧ State.reset.on (F.COPY_ENABLE 255) = false ∧
    (copying 0 []).copyBad 0 = false ∧ State.reset.copyBad 0 = true ∧
    (let s := copying 1 [⟨0, aTag 0 3, 0⟩]; s.scaler.queue.find? (fun j => !s.on (F.COPY_STATE_BUSY j.set)) = some ⟨0, aTag 0 3, 0⟩ ∧
      tabGet? s.scaler.engines 0 = none ∧ s.on (F.COPY_ENABLE 0) = true ∧
      semiPlanar (tagOf (aTag 0 3).bytes).fmt ≠ semiPlanar (s.get (F.COPY_FMT 0)) ∧ tabGet? s.scaler.engines 1 = some ⟨0, aTag 0 0, 0⟩) := by decide

/-- Every phase of the stage is the identity: 1,024 in its fourth coefficient. -/
def staging : State := { st ((List.range 64).map (fun p => (F.PIXP_COEF_STAGE (4 * p + 1), 0x04000000))) with scaler := { loading := some 15 } }

theorem witness_coefLoadDone : staging.scaler.loading = some 15 ∧ (∀ p, p < 64 → staging.stagePhaseOk p = true) ∧
    (State.reset.stagePhaseOk 63 = false) := by decide

theorem witness_ClockDomains : (100 * (max 1212000 (State.reset.nominalKhz 4) - min 1212000 (State.reset.nominalKhz 4)) ≤ State.reset.nominalKhz 4) ∧
    (State.reset.nominalKhz 4 < 100 * (max 1212001 (State.reset.nominalKhz 4) - min 1212001 (State.reset.nominalKhz 4))) ∧
    (st [(F.SYS_MODE_MODE, 3)]).canStop = true ∧ Admits State.reset keeper F.CLK_SAMPLE_CFG_BASE.key ∧ (st [(F.SYS_MODE_MODE, 5)]).mode = 5 ∧
    (st [(F.SYS_DEGRADED_SAMPLE, 1)]).on F.SYS_DEGRADED_SAMPLE = true := by decide

theorem witness_MemoryMaintenance : (let s := st [(F.MEMC_SCRUB_CFG_ENABLE, 1)]
    let u := s.dramEnd / 256
    s.on F.MEMC_SCRUB_CFG_ENABLE = true ∧ 255 < s.dramEnd ∧ (255 / 256 + u - s.get F.MEMC_SCRUB_POS % u) % u < 1) ∧
    (st [(F.MEMC_SCRUB_CFG_ENABLE, 0)]).on F.MEMC_SCRUB_CFG_ENABLE = false ∧ 31 < 2 ^ State.reset.logChan ∧ State.reset.mayMaintain 0 = true ∧
    State.reset.mayMaintain (2 ^ 40) = false ∧ 4 < State.reset.logChan := by decide

theorem witness_RegistersOfSoftware : (State.reset.initCheck keeperSrc .write (0x2000000000 + (F.PROT_BIND 127).key) 4).1 = true ∧
    Admits State.reset keeper (F.PROT_BIND 127).key ∧ State.reset.on (F.TTRIG_CTL_EN 15) = false ∧
    (State.reset.initCheck keeperSrc .write (0x2000000000 + F.TTRIG_AT 15) 4).1 = true ∧
    (State.reset.initCheck keeperSrc .write (0x2000000000 + F.TTRIG_AT 15 + 4) 4).1 = true ∧
    (State.reset.initCheck keeperSrc .read (0x2000000000 + F.TTRIG_AT 15) 4).1 = true ∧
    tabGet? ({ State.reset with bus := { held := [(F.TTRIG_AT 15, 7)] } } : State).bus.held (F.TTRIG_AT 15) = some 7 := by decide

/-- Context `c` with what a video context of `kind` needs to open, in `state`, with `x` beside its registers. -/
def vctx (c kind state : Nat) (x : Ctx) : State := { st [(F.CTX_CTRL_KIND c, kind), (F.CTX_CTRL_SLOTS c, 3), (F.CTX_MAX_W c, 64), (F.CTX_MAX_H c, 32),
  (F.CTX_POOL c, 16), (F.CTX_TAGS c, 8), (F.CTX_STATUS_STATE c, state)] with ctxs := [(c, x)] }

/-- Context 4095 as an audio receiver of two channels at 48 kHz. -/
def actx : State := st [(F.CTX_CTRL_KIND 4095, 3), (F.CTXR_CHANNELS 4095, 2), (F.CTXR_RATE_HZ 4095, 48000), (F.CTXR_CAP_FRAMES 4095, 480)]

def anAu : Au := { ts := 7, arr := 0, ntp := none, port := 0 }

theorem witness_StreamContexts : Admits State.reset keeper (F.CTX_CTRL_KIND 4095).key ∧ State.reset.get (F.CTX_STATUS_STATE 4095) = 0 ∧
    (vctx 4095 1 0 {}).videoCode 4095 = 0 ∧ (vctx 4095 4 0 {}).poolBad 4095 = false ∧ State.reset.videoCode 4095 = 2 ∧ actx.audioRxCode 4095 = 0 ∧
    (let s := vctx 4095 2 2 {}; Admits s keeper (F.CTX_CTRL_KIND 4095).key ∧ s.get (F.CTX_STATUS_STATE 4095) = 2 ∧ s.kind 4095 = 2 ∧
      Admits s keeper (F.CTX_POOL 4095).key ∧ (17#32).toNat ≠ s.get (F.CTX_POOL 4095)) ∧
    (vctx 4095 1 4 {}).get (F.CTX_STATUS_STATE 4095) = 4 ∧ Admits State.reset keeper ((F.CTX_CTRL_KIND 4095).key + 4 * 31) := by decide

/-- Operation `op` of the rule table is under way with the rule `w`, the table holding `rules`. -/
def ruling (op : Nat) (w : List Word) (rules : Tab (List Word)) : State := { State.reset with intake := { rules := rules, cmd := some (op, 0, w) } }

/-- A rule for destination port 5004 with `c` as its first word. -/
def aRule (c : BitVec 32) : List Word := [c, 5004, 0, 0, 0, 0, 0, 0, 0, 0, 0, 0]

theorem witness_ClassificationRules : Admits State.reset keeper F.INTAKE_RULE_CMD_OP.key ∧ State.reset.get F.INTAKE_RULE_CMD_STATUS ≠ 7 ∧
    (State.reset.ruleBad (aRule 15) = false ∧ State.reset.ruleBad ((aRule 15).set 3 1) = true) ∧
    (ruling 0 (aRule 15) []).intake.cmd = some (0, 0, aRule 15) ∧ ruleDup (aRule 15) (aRule 1) = true ∧
    (ruling 1 (aRule 15) [(3, aRule 15)]).intake.rules.find? (fun e => e.2 = aRule 15) = some (3, aRule 15) ∧
    tabGet? (ruling 2 (aRule 15) [(0, aRule 15)]).intake.rules 0 = some (aRule 15) ∧ (aRule 15).length = 12 := by decide

/-- Port 0 is up and takes broadcasts. -/
def linked : State := st [(F.PORT_CFG_EN 0, 1), (F.PORT_STATUS_LINK 0, 1), (F.PORT_CFG_BCAST 0, 1)]

theorem witness_PacketReception : State.reset.portIsUp 3 = false ∧ linked.portIsUp 0 = true ∧ linked.passes 0 (List.replicate 6 0xFF) = true ∧
    beNat (slice (List.replicate 60 0xFF) 12 2) ≠ 0x8808 ∧
    (let s := vctx 0 1 2 { gaps := [(5, 0)], netA := some 0, netB := some 7 }
     let u := s.put (F.CTX_CTRL_DUAL 0) 1
     s.get (F.CTX_STATUS_STATE 0) = 2 ∧ (s.ctx 0).gaps = [(5, 0)] ∧ 0 + s.gapHold 0 ≤ 1200000001 ∧ u.on (F.CTX_CTRL_DUAL 0) = true ∧
     (u.ctx 0).silentA = false ∧ (u.advance 1200000000).silentFor (u.ctx 0).netA 1200000000 = true ∧ u.time.pix + 1200000000 < 7 + 1200000000) ∧
    (let s := vctx 0 1 2 { started := true, gaps := [(0, 0)], lost := [0xFFFF] }
     (s.ctx 0).cand = none ∧ (s.ctx 0).held.length < s.winOf 0 + 64 ∧ s.get (F.CTX_HIGHEST 0) = 0 ∧ 0 < s.winOf 0 ∧
     sint 16 (0xFFFF + 0x10000 - 0) < 1 ∧ (0xFFFF ∈ (s.ctx 0).lost) ∧ (∃ g ∈ (s.ctx 0).gaps, g.1 = 0)) := by decide

/-- Context 5 runs with a ready unit, its pipe 3 awake, with `j` and `slot` on it. -/
def decoding (ready : List Au) (j : Option (Nat × Au)) (slot : Option Nat) : State :=
  { (vctx 5 1 2 { ready := ready }).put (F.CTX_STATUS_PIPE 5) 3 with pipes := [(3, { job := j, slot := slot })], power := { wake := [(3, 0)] } }

theorem witness_DecodePipes : (let s := decoding [anAu] none none
    s.pipeIn 3 = true ∧ (s.pipe 3).job = none ∧ s.mode ≠ 10 ∧ (s.advance 11999).awake 3 = true ∧ s.pipeChoice 3 = some 5 ∧ (s.ctx 5).ready = [anAu]) ∧
    (let s := decoding [] (some (5, anAu)) none
     (s.pipe 3).job = some (5, anAu) ∧ (s.pipe 3).slot = none ∧ (s.advance 0).time64 < anAu.rdy + s.budgetNs 5 ∧
     anAu.rdy + s.budgetNs 5 ≤ (s.advance 60000000).time64) ∧
    (let s := { decoding [] none none with pipes := [(3, { busy := 10 ^ 12 })] }
     s.slowWindow * 1200000 * 10 ≤ ((s.pipe 3).busy + s.pipeBusy 3) * 10 ∧ s.bit F.DEC_SLOW 3 = false) ∧
    Admits State.reset keeper F.DEC_PIPE_EN.key ∧ (st [(F.PIPE_STATE 15, 6)]).get (F.PIPE_STATE 15) = 6 ∧ (st [(F.PIPE_STATE 15, 6)]).pipeIn 15 = false ∧
    (let s := (decoding [] none none).put (F.PIPE_STATE 3) 3
     s.openVideo = [5] ∧ s.pipeIn (s.get (F.CTX_STATUS_PIPE 5)) = false ∧ (s.pipe 3).job = none ∧ s.moveTo 5 = some 0) ∧
    State.reset.openVideo = [] := by decide

/-- A decoded picture of 64 × 32 samples. -/
def aPic (rap : Bool) : DecodedPic := ⟨⟨.h264High, true, false, 8, 64, 32, 0, 0, 31, 1⟩, 1, rap, false, false, [], [], none, false, false, false, [], [], [], [], []⟩

theorem witness_DecodedPictures : (let s := decoding [] (some (5, anAu)) (some 1)
    (s.pipe 3).job = some (5, anAu) ∧ s.ctxOn 5 = true ∧ s.spsCode 5 (s.activeSps 5 (aPic true)) = 0 ∧ s.spsCode 5 { (aPic true).sps with codedW := 66 } ≠ 0 ∧ (s.pipe 3).markDue = false ∧
    s.get (F.CTX_STATUS_STATE 5) = 2 ∧ (s.pipe 3).slot = some 1) ∧
    (vctx 5 1 1 {}).get (F.CTX_STATUS_STATE 5) = 1 ∧ Admits State.reset keeper F.INTAKE_BUF_RETURN.key ∧
    (4#32).toNat % 2 ^ 29 * 2048 = (st [(F.INTAKE_PKT_BASE, 0)]).bufAddr 4 ∧
    (let s := (vctx 5 1 1 { kpAt := some 0 }).put (F.CTX_CTRL_KP_EN 5) 1
     s.isVideo 5 = true ∧ s.ctxOn 5 = true ∧ s.on (F.CTX_CTRL_KP_EN 5) = true ∧ 0 + s.kpInt 5 ≤ (s.advance 600000000).time.pix ∧
     (s.advance 599999999).time.pix < 0 + s.kpInt 5) := by decide

/-- Context 9 is a video transmitter, and session 15 has what it needs to be enabled for a virtual head of 64 × 64 pixels. -/
def encoding (en : Nat) (x : Sess) : State := { st [(F.CTX_CTRL_KIND 9, 5), (F.SESS_CTL_ENABLE 15, en), (F.SESS_CTL_CONTEXT 15, 9), (F.SESS_BITRATE 15, 20000),
  (F.SESS_REF 15, 1), (F.HEAD_CFG_DEPTH 47, 0), (F.HEAD_HTIM_HACTIVE 47, 64), (F.HEAD_VTIM_VACTIVE 47, 64)] with sess := [(15, x)] }

/-- A picture with `n` lines in and `row` rows coded. -/
def anEnc (n row : Nat) : EncPic := { key := false, disp := 0, linesIn := n, row := row }

theorem witness_EncodeSessions : Admits (encoding 0 {}) keeper (F.SESS_CTL_ENABLE 15).key ∧ (encoding 0 {}).on (F.SESS_CTL_ENABLE 15) = false ∧
    (encoding 0 {}).sessCode 15 = 0 ∧ State.reset.sessCode 15 ≠ 0 ∧ Admits State.reset keeper ((F.SESS_CTL_ENABLE 15).key + 4 * 31) ∧
    (encoding 1 {}).on (F.SESS_CTL_ENABLE 15) = true ∧ 2 ≠ (encoding 1 {}).reg (F.SESS_REF 15).key ∧
    (let s := encoding 1 { pics := [anEnc 33 1] }
     s.mode ≠ 10 ∧ (s.timingReg 47).vactive = 64 ∧ min 64 ((1 + 1) * rowLines (s.codec 15) + 1) = 33 ∧ (anEnc 33 1).row ≠ 0 ∧
     (anEnc 33 1).row + 1 < s.encRows 15 ∧ s.encRows 15 ≤ (anEnc 64 3).row + 1) ∧
    State.reset.epipeIn 7 = true ∧ (st [(F.EPIPE_STATE 7, 6)]).epipeIn 7 = false ∧ Admits State.reset keeper F.ENC_PIPE_EN.key := by decide

/-- Data port 0 has an address, is enabled as `en` says, up as `up` says, and has `q` queued. -/
def ported (en up : Nat) (q : List TxFrame) : State := { st [(F.PORT_CFG_EN 0, en), (F.PORT_STATUS_LINK 0, up), (F.PORT_MAC_LO 0, 2), (F.PORT_MAC_HI 0, 2)]
  with net := { queues := [(0, q)] } }

def aFrame : TxFrame := ⟨4, .host 7 0 0, List.replicate 60 1⟩

/-- An entry of a host transmit ring: 60 bytes at 0 to be sent on port 0. -/
def txEntry : List Byte := leBytes 0 8 ++ leBytes 60 2 ++ leBytes 0 22

/-- Ring 0 holds `e`, one of two entries of 32 bytes at 256, region 0 grants everything. -/
def posted (e : List Byte) (l : List (Fld × Nat)) : State :=
  { st ([(F.RINGS_CFG_EN 0, 1), (F.RINGS_CFG_LOG2N 0, 1), (F.RINGS_CFG_ESIZE 0, 1), (F.RINGS_BASE 0, 1), (F.RINGS_PUT 0, 1), (F.REGION_EN 0 0, 1),
      (F.REGION_LAST_LO 0 0, 0xFFFF), (F.REGION_PERM 0 0, 63)] ++ l) with
    mem := (e.zipIdx.map (fun b => (256 + b.2, b.1))).filter (fun c => c.2 ≠ 0) }

theorem witness_EthernetPorts : Admits State.reset keeper (F.PORT_CFG_EN 3).key ∧ State.reset.on (F.PORT_CFG_EN 3) = false ∧
    badMac (State.reset.get (F.PORT_MAC_LO 0)) (State.reset.get (F.PORT_MAC_HI 0)) = true ∧
    badMac ((ported 0 0 []).get (F.PORT_MAC_LO 0)) ((ported 0 0 []).get (F.PORT_MAC_HI 0)) = false ∧
    (ported 1 0 []).on (F.PORT_CFG_EN 0) = true ∧ (ported 1 0 []).on (F.PORT_STATUS_LINK 0) = false ∧ 0 < (ported 1 0 []).nPorts ∧
    (let s := ported 1 1 [aFrame]; s.on (F.PORT_STATUS_LINK 0) = true ∧ s.portIsUp 0 = true ∧ (s.advance 1).nextFrame 0 = some aFrame ∧
      aFrame.from_ = .host 7 0 0) ∧
    (let s := posted txEntry [(F.TIME_HOSTTX_EN, 1), (F.PORT_CFG_EN 0, 1), (F.PORT_STATUS_LINK 0, 1)]
     let r := (s.advance 1).ringTake timeSrc (s.get F.TIME_HOSTTX_RING)
     s.on F.TIME_HOSTTX_EN = true ∧ s.ringSize 0 = 32 ∧ r.1 = 0 ∧ r.2.1 = txEntry ∧ leNat (slice txEntry 8 2) = 60 ∧ r.2.2.portIsUp 0 = true ∧
     ((r.2.2.unitRead timeSrc 0 60).1).isSome = true) ∧
    State.reset.on F.TIME_HOSTTX_EN = false ∧ Admits State.reset keeper F.TIME_MGMT_CFG_EN.key ∧ State.reset.on F.TIME_MGMT_CFG_EN = false ∧
    Admits State.reset keeper F.TIME_MDIO_CMD_GO.key ∧ (st [(F.TIME_MDIO_CMD_GO, 1)]).on F.TIME_MDIO_CMD_GO = true := by decide

/-- The servo is on, in state `k` with `v` beside its registers; TIME64 has been set once when `k` is not UNSET. -/
def servoing (k : Nat) (v : Servo) : State := { st [(F.TIME_SERVO_CFG_EN, 1), (F.TIME_STATUS_SERVO, k), (F.TIME_STATUS_STEPPED, min k 1)] with servo := v }

theorem witness_NetworkTime : Admits (servoing 1 {}) keeper F.TIME_OFS_SAMPLE ∧ (servoing 1 {}).on F.TIME_SERVO_CFG_EN = true ∧
    (servoing 1 {}).sampleCode 0 0 = 0 ∧ (servoing 1 {}).sampleCode (2 ^ 40) 0 = 1 ∧
    (let s := servoing 1 { needRef := false, prevAt := some 5 }; s.sampleCode 3 6 = 0 ∧ s.servo.needRef = false ∧ s.servo.prevAt = some 5) ∧
    (let s := servoing 0 { counted := [1, 2] }; s.sampleCode 3 0 = 0 ∧ s.servo.counted.length = 2 ∧ s.anyHead = false) ∧
    Admits State.reset keeper F.TIME_FREQ.key ∧ Admits State.reset keeper F.TIME_SERVO_CFG_EN.key ∧
    (let s := servoing 2 {}; s.on F.TIME_STATUS_STEPPED = true ∧ s.servo.step = none ∧ s.servo.quietAt + s.holdClk ≤ (s.advance 10000000000).time.pix ∧
      (s.advance 0).time.pix < s.servo.quietAt + s.holdClk) ∧
    (let s := servoing 1 { step := some (5, false, 16, 1) }; s.servo.waiting = [] ∧ ∀ h : Fin 48, s.enabled h = true → (s.head h).stepHold = 1 → s.stepLineStarted h = true) ∧
    (let s := { (st [(F.HEAD_CFG_ENABLE 0, 1)]) with servo := { step := some (5, false, 16, 1) }, heads := [(0, { stepHold := 1 })] }
     ¬∀ h : Fin 48, s.enabled h = true → (s.head h).stepHold = 1 → s.stepLineStarted h = true) ∧
    (let s := st [(F.TTRIG_CTL_EN 15, 1), (F.TTRIG_CTL_TARGET 15, 0x43)]; (s.advance 9).trigDue 15 = true ∧ s.get (F.TTRIG_PERIOD 15) = 0 ∧
      s.get (F.TTRIG_CTL_TARGET 15) = 0x43 ∧ tabGet 0 s.trigOut 3 ≤ (s.advance 9).time.pix) ∧ State.reset.trigDue 15 = false ∧
    Admits State.reset keeper (F.TTRIG_AT 15 + 4 * 3) := by decide

/-- Lane 63 leads a group of one that is on, admitted, in `stage`, with `x` beside its registers. -/
def laned (stage : Nat) (x : Lane) : State := { st [(F.LANE_CFG_EN 63, 1), (F.LANE_CFG_ROLE 63, 1), (F.LANE_STATE_STAGE 63, stage)] with
  lanes := [(63, x)]
  power := { wake := [(319, 0)] } }

theorem witness_LaneBringUp : Admits State.reset keeper (F.LANE_CFG_ROLE 63).key ∧ State.reset.on (F.LANE_CFG_EN 63) = false ∧
    State.reset.on (F.LANE_STATE_MEMBER 63) = false ∧
    (st [(F.LANE_CFG_ROLE 63, 1)]).laneCode 63 = 0 ∧ State.reset.laneCode 63 = 1 ∧ (st [(F.LANE_CFG_ROLE 63, 1)]).laneFenced 63 = false ∧
    (laned 1 {}).on (F.LANE_CFG_EN 63) = true ∧ (laned 1 {}).leadOf 63 = some 63 ∧ (laned 1 {}).admitted 63 = true ∧ (laned 1 {}).laneStage 63 = 1 ∧
    (laned 4 {}).groupN 63 = 1 ∧ (st [(F.LANE_CFG_EN 60, 1), (F.LANE_CFG_GSIZE 60, 2)]).groupN 60 = 4 ∧
    stageTimeout 2 0 = some 2400000 ∧ ((laned 2 {}).lane 63).stageAt + 2400000 ≤ ((laned 2 {}).advance 2400000).time.pix ∧
    (laned 3 { waiting := some 0 }).lane 63 = { waiting := some 0 } ∧ 0 + 12000000 ≤ ((laned 3 {}).advance 12000000).time.pix ∧
    ((laned 7 { left := true }).lane 63).capAt = none ∧ ((laned 7 { left := true, capAt := some 0 }).lane 63).left = true ∧
    (laned 9 {}).laneUp 63 = true ∧ (laned 8 {}).laneUp 63 = false ∧ State.reset.leadOf 63 = none := by decide

theorem witness_LaneTraffic : (let s := laned 9 { left := true }
    s.leadOf 63 = some 63 ∧ (s.lane 63).waiting = none ∧ s.laneStage 63 ≠ 11 ∧ s.laneStage 63 ≠ 0 ∧ s.on (F.LANE_STATE_RX_INVERTED 63) = false ∧
    s.admitted 63 = true ∧ (s.lane 63).left = true ∧ ((laned 6 {}).lane 63).left = false) ∧
    Admits State.reset keeper (F.DRAVIO_OUTMAP_LEAD 31).key ∧ State.reset.on (F.DRAVIO_OUTMAP_EN 31) = false ∧
    (let s := (laned 9 {}).writeBits (F.DRAVIO_OUTMAP_LEAD 31).key 0x81FF 0x803F
     s.mapBad 31 = false ∧ s.demandFits 63 (s.get (F.LANE_CFG_TXMAX 63)) = true) ∧
    (State.reset.writeBits (F.DRAVIO_OUTMAP_LEAD 31).key 0x81FF 0x803F).mapBad 31 = true ∧
    Admits State.reset keeper (F.DRAVIO_SENSEMAP_LANE 31).key ∧ State.reset.on F.DRAVIO_HOSTTX_EN = false ∧
    (let e := leBytes 63 1 ++ leBytes 0 3 ++ leBytes 0x80 28
     let s := { posted e [(F.DRAVIO_HOSTTX_EN, 1), (F.LANE_CFG_EN 63, 1), (F.LANE_CFG_ROLE 63, 1), (F.LANE_STATE_STAGE 63, 9)] with power := { wake := [(319, 0)] } }
     let r := (s.advance 1).ringTake dravioSrc (s.get F.DRAVIO_HOSTTX_RING)
     s.on F.DRAVIO_HOSTTX_EN = true ∧ r.1 = 0 ∧ r.2.1 = e ∧ leNat (slice e 0 1) = 63 ∧ r.2.2.leadOf 63 = some 63 ∧ r.2.2.laneUp 63 = true ∧
     leNat (slice e 4 1) = 0x80) ∧
    Admits State.reset keeper (F.LANE_LOOP_MODE 63).key ∧ (laned 9 {}).on (F.LANE_CFG_EN 63) = true := by decide

theorem witness_LineCodeRoundTrip : 0 < 2 ^ 36 ∧ 0 / 2 ^ 8 % 4 ≠ 3 ∧ 0 / 2 ^ 10 % 4 ≠ 3 ∧ (List.replicate 2048 (0 : Byte)).length = 2048 := by
  refine ⟨by decide, by decide, by decide, List.length_replicate⟩

/-- Panel 33, local, is set up with lines and a profile; `l` and `x` beside it. -/
def panelled (l : List (Fld × Nat)) (x : Panel) : State :=
  { st ([(F.PANEL_CFG_NDRIVE 33, 8), (F.PANEL_CFG_NSENSE 33, 8), (F.PANEL_PROF_VALID 33 0, 1), (F.PANEL_PROF_FREQ_KHZ 33 0, 200),
      (F.PANEL_PROF_NINT 33 0, 8), (F.PANEL_STEP_STEP1_S 33, 1), (F.PANEL_STEP_STEP2_S 33, 2), (F.PANEL_STEP_STEP3_S 33, 3)] ++ l) with
    panels := [(33, x), (0, x)] }

def aScan (self : Bool) : Scan := ⟨0, 0, self, 0, 0, [none, none]⟩
def aPeak : Peak := ⟨1, 1, 0, 0, 0, 0, 0⟩

theorem witness_TouchPanels : Admits State.reset keeper (F.PANEL_CFG_EN 33).key ∧ (panelled [] {}).on (F.PANEL_CFG_EN 33) = false ∧
    State.reset.panelCode 33 = 2 ∧ (panelled [] {}).panelCode 33 = 0 ∧ (panelled [] {}).panelFenced 33 = false ∧
    (panelled [(F.SYS_FENCE_TOUCH, 2)] {}).panelFenced 33 = true ∧ (panelled [(F.PANEL_CFG_EN 33, 1)] {}).on (F.PANEL_CFG_EN 33) = true ∧
    (let s := panelled [] { cmd := some ⟨2, 0, [], 0, 3⟩ }
     (s.panel 33).cmd = some ⟨2, 0, [], 0, 3⟩ ∧ 0 + 12000000 ≤ (s.advance 12000000).time.pix ∧ (s.advance 11999999).time.pix < 0 + 12000000) ∧
    (let s := panelled [(F.PANEL_STATE_PHASE 33, 2)] { scan := some (aScan true), settle := [[], [], []] }
     (s.panel 33).scan = some (aScan true) ∧ 2 < (s.panel 33).settle.length ∧ s.get (F.PANEL_STATE_PHASE 33) = 2) ∧
    (let s := panelled [] { scan := some (aScan false) }
     (s.panel 0).scan = some (aScan false) ∧ 0 + 2400000 ≤ (s.advance 2400000).time.pix ∧ (s.advance 2399999).time.pix < 0 + 2400000) ∧
    (let s := panelled [] { cands := [aPeak] }
     (s.panel 33).cands = [aPeak] ∧ aPeak.at_ + 60000000 ≤ (s.advance 60000000).time.pix ∧ (s.advance 59999999).time.pix < aPeak.at_ + 60000000) ∧
    (let s := panelled [(F.PANEL_STATE_PHASE 33, 3)] {}
     s.get (F.PANEL_STATE_PHASE 33) = 3 ∧ (s.panel 33).touches = [] ∧ (s.panel 33).cands = [] ∧ Admits s keeper (F.PANEL_CMD_TEST 33).key) := by decide

/-- Transmit side 15 is set up at 48 kHz, with `l` beside it. -/
def sided (l : List (Fld × Nat)) : State := st ([(F.SIDE_RATE_HZ 15 0, 48000)] ++ l)

/-- Context 3 is an audio TX context from receive side 15 and sends on port 0. -/
def audioTx (count : Nat) : State :=
  { st [(F.CTX_CTRL_KIND 3, 5), (F.CTX_STATUS_STATE 3, 2), (F.CTXV_TXKIND 3, 1), (F.CTXT_PORT 3, 15), (F.CTXT_FRAMES 3, 48), (F.SIDE_STATE 15 1, 2)] with
    ctxs := [(3, { txAt := some (0, 7) })]
    sides := [(31, { count := count })] }

theorem witness_AudioSides : Admits State.reset keeper (F.SIDE_CFG_EN 15 0).key ∧ (sided []).on (F.SIDE_CFG_EN 15 0) = false ∧
    (st [(F.SIDE_RATE_HZ 15 0, 7999)]).sideCode 30 = 1 ∧ (sided []).sideCode 30 = 0 ∧ (sided []).audioFenced 15 = false ∧
    (sided [(F.SIDE_CFG_EN 15 0, 1)]).on (F.SIDE_CFG_EN 15 0) = true ∧
    (let s := sided [(F.SIDE_CFG_EN 15 0, 1), (F.SIDE_CFG_CLK 15 0, 1), (F.SIDE_STATE 15 0, 2)]
     s.get (F.SIDE_STATE 15 0) = 2 ∧ s.get (F.SIDE_CFG_CLK 15 0) = 1 ∧ s.sideRate 30 * 1000 < (max 48049 (s.sideRate 30) - min 48049 (s.sideRate 30)) * 1000000 ∧
     ¬s.sideRate 30 * 1000 < (max 48048 (s.sideRate 30) - min 48048 (s.sideRate 30)) * 1000000) ∧
    (sided [(F.SIDE_STATE 15 0, 3)]).get (F.SIDE_STATE 15 0) = 3 ∧ Admits State.reset keeper (F.SIDE_MASK 15 0).key ∧
    (let s := audioTx 48
     (s.ctx 3).txAt = some (0, 7) ∧ s.ctxState 3 = 2 ∧ 3 ∈ s.txOf 31 ∧ s.get (F.CTXT_PORT 3) = 15 ∧ s.get (F.SIDE_STATE 15 1) = 2 ∧
     0 + s.get (F.CTXT_FRAMES 3) ≤ (s.side 31).count ∧ ((audioTx 47).side 31).count < 0 + s.get (F.CTXT_FRAMES 3)) := by decide

/-- The part is in mode `m`, with `l` and `p` beside it. -/
def moded (m : Nat) (l : List (Fld × Nat)) (p : Power) : State := { st ([(F.SYS_MODE_MODE, m)] ++ l) with power := p }

theorem witness_SupplyAndStart : (let s := State.reset; s.get F.SYS_MODE_MODE = 0 ∧ s.power.holdOff = false ∧ s.power.resetLow = false) ∧
    (moded 1 [] {}).get F.SYS_MODE_MODE = 1 ∧ (moded 1 [] {}).power.held = false ∧
    (moded 1 [] {}).power.stepAt + 600000000 ≤ ((moded 1 [] {}).advance 600000000).time.pix ∧
    ((moded 1 [] {}).advance 599999999).time.pix < (moded 1 [] {}).power.stepAt + 600000000 ∧
    (moded 2 [] {}).power.stepAt + 12000000 ≤ ((moded 2 [] {}).advance 12000000).time.pix ∧
    ((moded 2 [] {}).advance 11999999).time.pix < (moded 2 [] {}).power.stepAt + 12000000 ∧ (moded 1 [] { held := true }).power.held = true ∧
    (let s := moded 2 [(F.PWR_STATUS_START_STEP, 8)] {}
     s.get F.SYS_MODE_MODE = 2 ∧ s.power.held = false ∧ s.on F.HLTH_STATUS_LOW_HALT = false ∧ s.get F.PWR_STATUS_START_STEP + 1 = 9) ∧
    (moded 2 [(F.HLTH_STATUS_LOW_HALT, 1)] {}).on F.HLTH_STATUS_LOW_HALT = true ∧
    (let s := moded 5 [(F.PWR_STATUS_RT_AVAIL, 1)] {}; s.get F.SYS_MODE_MODE = 5 ∧ s.on F.PWR_STATUS_RT_AVAIL = true) ∧
    (moded 8 [] {}).on F.PWR_STATUS_RT_AVAIL = false ∧ (moded 9 [] {}).get F.SYS_MODE_MODE = 9 ∧ (moded 10 [] {}).get F.SYS_MODE_MODE = 10 ∧
    (let s := moded 0 [(F.PWR_CTRL_AUTO_RESTART, 1), (F.PWR_STATUS_STOP_CAUSE, 4)] { holdOff := true, restarts := [0], offAt := some 0 }
     0 + 1200000000 ≤ (s.advance 1200000000).time.pix ∧ (s.advance 1199999999).time.pix < 0 + 1200000000 ∧ s.on F.PWR_CTRL_AUTO_RESTART = true ∧ s.get F.PWR_STATUS_STOP_CAUSE = 4 ∧
     (s.power.restarts.filter (fun a => s.power.onSecs ≤ a + 3600)).length < 2 ∧ s.coolEnough = true) ∧
    Admits State.reset keeper F.PWR_CTRL_STOP.key ∧ Admits State.reset keeper F.PWR_VIN_WARN_CFG.key := by decide

theorem witness_GovernorAndHeat : State.reset.power.wakeAt = none ∧ (let s := moded 5 [] { wakeAt := some 0, laneAt := some 0 }
      (s.advance 2399).time.pix < 0 + 2400 ∧ 0 + 120000 ≤ (s.advance 120000).time.pix) ∧
    (let s := moded 6 [(F.PWR_STATUS_SHED_LEVEL, 11)] { unmetSince := some 0, shedSince := some 0 }
     10 * s.capEff < 4000 ∧ s.levelUp 11 = none ∧ s.power.unmet = false ∧ 0 + 120000000 ≤ (s.advance 120000000).time.pix ∧
     0 + 1200000000 ≤ (s.advance 1200000000).time.pix ∧ (s.advance 1199999999).time.pix < 0 + 1200000000) ∧
    (State.reset.levelUp 0).isSome = true ∧ (let s := moded 8 [] { calmSince := some 0 }
      s.get F.PWR_STATUS_SHED_LEVEL = 0 ∧ s.on F.PWR_STATUS_THERM_CAP = false ∧ s.power.calmSince = some 0) ∧
    (let s := moded 6 [(F.PWR_STATUS_THERM_CAP, 1), (F.HLTH_THERM_CAP, 100), (F.HLTH_TEMP_T, 700)] {}
     s.on F.PWR_STATUS_THERM_CAP = true ∧ s.getI F.HLTH_TEMP_T < 760 ∧ (s.capSet ≤ 104 ∨ 104 < s.capSet) ∧
     s.sensors.capAt + 1200000000 ≤ (s.advance 1200000000).time.pix ∧ (s.advance 1199999999).time.pix < s.sensors.capAt + 1200000000) ∧
    (let s := moded 6 [(F.PWR_STATUS_THERM_CAP, 1), (F.HLTH_THERM_CAP, 100), (F.HLTH_TEMP_T, 784)] {}
     s.getI F.HLTH_TEMP_T = 784 ∧ s.sensors.capAt + 120000000 ≤ (s.advance 120000000).time.pix ∧
     (s.advance 119999999).time.pix < s.sensors.capAt + 120000000) ∧
    (let s := moded 6 [(F.PWR_STATUS_SHED_LEVEL, 4)] { lowSince := some 0 }
     0 + 60 ≤ 10 * s.capEff ∧ s.power.lowSince = some 0 ∧ 0 + 120000000 ≤ (s.advance 120000000).time.pix ∧
     (s.advance 119999999).time.pix < 0 + 120000000) ∧
    (let s := moded 6 [(F.HLTH_EXCLUDED, 2 ^ 23)] {}
     s.bit F.HLTH_EXCLUDED 23 = true ∧ s.bit F.HLTH_FAILED 23 = false ∧ tabGet 0 s.sensors.exclAt 23 + 12000000000 ≤ (s.advance 12000000000).time.pix ∧
     (s.advance 11999999999).time.pix < tabGet 0 s.sensors.exclAt 23 + 12000000000) ∧
    State.reset.bit F.HLTH_EXCLUDED 23 = false := by decide

theorem witness_LifeLedger : State.reset.get F.SYS_MODE_MODE < 2 ∧ (moded 3 [] {}).get F.SYS_MODE_MODE = 3 ∧
    (let s := moded 2 [(F.PWR_STATUS_START_STEP, 3)] {}; s.get F.SYS_MODE_MODE = 2 ∧ s.get F.PWR_STATUS_START_STEP = 3) ∧
    (let s := moded 2 [(F.PWR_STATUS_START_STEP, 2)] {}; s.get F.SYS_MODE_MODE = 2 ∧ s.get F.PWR_STATUS_START_STEP = 2) ∧
    (let s := { State.reset with ledger := { secs := 3600 } }; s.ledger.hourAt + 3600 ≤ s.ledger.secs) ∧
    State.reset.ledger.secs < State.reset.ledger.hourAt + 3600 ∧
    (st [(F.HLTH_LEDGER_CTRL_EN, 1)]).on F.HLTH_LEDGER_CTRL_EN = true ∧ State.reset.ledger.busy = none ∧ Admits State.reset keeper F.HLTH_LEDGER_CTRL_EN.key ∧
    tempBand 0 < State.reset.ledger.tband.length ∧ vinBand 12000 < State.reset.ledger.vband.length ∧
    cellsWf 0xFF State.reset.flash = true := by decide

theorem witness_LifeLedger_length : (List.replicate 512 (0 : Byte)).length = 512 := List.length_replicate

/-- Bytes followed by their CRC-32C. -/
def sealed (b : List Byte) : List Byte := b ++ leBytes (crc32c b) 4

/-- A directory whose slot A has 1,024 bytes at 0x1000 and whose slot B is BAD. -/
def bootDirectory : List Byte := sealed (leBytes 0 4 ++ leBytes 1 4 ++ leBytes 0x1000 4 ++ leBytes 1024 4 ++ leBytes 0 8 ++ leBytes 2 4 ++ leBytes 0 32)

/-- An image of 512 bytes with one SCONCE object without segments that enters at 0 (R178, R531). -/
def bootImage : List Byte := sealed (leBytes 0x4D494B53 4 ++ leBytes 1 4 ++ leBytes 512 4 ++ leBytes 1 4 ++ leBytes 0 96) ++ leBytes 0 140 ++
  sealed (leBytes 0x31465845 4 ++ leBytes 1 2 ++ leBytes 0 1 ++ leBytes 1 1 ++ leBytes 0 24 ++ leBytes 64 4 ++ leBytes 0 24)

/-- A part in BOOT with that directory and image in its flash. -/
def bootable : State := { moded 4 [] {} with
  flash := ((bootDirectory.zipIdx.map (fun (b : Byte × Nat) => (b.2, b.1))) ++ bootImage.zipIdx.map (fun (b : Byte × Nat) => (0x1000 + b.2, b.1))).filter (fun c => c.2 ≠ 0xFF) }

theorem witness_ModesAndBoot_directory : bootable.directory = some ⟨1, [(0x1000, 1024, false), (0, 0, true)]⟩ := by decide +kernel
theorem witness_ModesAndBoot_slot : bootable.slotCode 0x1000 1024 0 = 0 := by decide +kernel
theorem witness_ModesAndBoot_order : bootable.slotOrder ⟨1, [(0x1000, 1024, false), (0, 0, true)]⟩ = [0] := by decide +kernel

theorem witness_ModesAndBoot : Admits State.reset keeper F.SYS_MODE_REQ_REQ.key ∧ (moded 5 [] {}).anyHead = false ∧
    (moded 11 [] {}).test.dirty = false ∧ Admits State.reset keeper F.SYS_RESET_REQ_KEY.key ∧ bootable.get F.SYS_MODE_MODE = 4 ∧
    (moded 4 [] {}).directory = none ∧ bootable.on F.SYS_BOOT_STATE_RETRY = false ∧
    (List.range bootable.nSconce).find? (fun c => !bootable.bit F.SYS_FENCE_CORE c) = some 0 ∧ Admits State.reset keeper F.SYS_BOOT_CONFIRM.key ∧
    (let s := { moded 5 [(F.SYS_BOOT_WDOG_S, 1)] {} with test := { bootAt := some 0 } }
     s.test.bootAt = some 0 ∧ s.get F.SYS_BOOT_WDOG_S ≠ 0 ∧ 0 + s.get F.SYS_BOOT_WDOG_S * 1200000000 ≤ (s.advance 1200000000).time.pix ∧
     (s.advance 1199999999).time.pix < 0 + s.get F.SYS_BOOT_WDOG_S * 1200000000) := by decide +kernel

/-- The part is in mode `m` with `x` beside its test registers. -/
def tested (m : Nat) (l : List (Fld × Nat)) (x : TestU) : State := { moded m l {} with test := x, fuses := { mainRead := true } }

theorem witness_TestAndRepair : Admits State.reset keeper F.SYS_FENCE_DEC.key ∧ fenceUnits 2 0x8000 = [0x2F] ∧
    fenceBit 0x2F = some (F.SYS_FENCE_CORE, 15) ∧ (tested 5 [] {}).unitPresent 0x2F = true ∧ (tested 5 [] {}).bit F.SYS_FENCE_CORE 15 = false ∧
    (tested 5 [] {}).get (F.CORE_STATE 15) = 0 ∧ (tested 5 [(F.SYS_FENCE_CORE, 1)] {}).get F.SYS_FENCE_CORE ≠ 0 ∧
    fenceUnits 0 0x8000 = [15] ∧ fenceBit 15 = some (F.SYS_FENCE_DEC, 15) ∧ (tested 5 [] {}).unitPresent 15 = true ∧
    (let s := tested 3 [(F.TEST_STATUS_STATE, 1)] {}
     s.get F.TEST_STATUS_STATE = 1 ∧ s.test.tries = [] ∧ s.startTested 0xC0 = true ∧ fenceBit 0xC0 = none) ∧
    (let s := tested 3 [(F.TEST_STATUS_STATE, 1), (F.TEST_RESULT_RESULT 0xC0, 3)] { tries := [(0xC0, 2)] }
     s.get (F.TEST_RESULT_RESULT 0xC0) = 3 ∧ tabGet 0 s.test.tries 0xC0 < 3 ∧ s.test.tryAt + 12000000 ≤ (s.advance 12000000).time.pix ∧
     (s.advance 11999999).time.pix < s.test.tryAt + 12000000) ∧
    (tested 5 [] {}).istCode 0 = 0 ∧ (tested 11 [] {}).istCode 0 ≠ 0 ∧ (tested 5 [(F.PWR_RAIL_OK, 0xFFF)] {}).get F.PWR_RAIL_OK = 0xFFF ∧
    (tested 5 [] {}).power.domLost = 0 ∧ (tested 5 [] {}).power.domOff = 0 ∧ (tested 5 [] {}).get F.PWR_RAIL_OK ≠ 0xFFF ∧ (tested 5 [] { unit := some 255 }).test.unit = some 255 ∧
    (tested 5 [] { unit := some 0x10 }).istWaits 0x10 = false ∧ Admits State.reset keeper F.TEST_FUSE_CMD_OP.key ∧
    (tested 11 [(F.HLTH_TEMP_T, 200)] {}).fuseCode 0 = 0 ∧ (tested 11 [(F.HLTH_TEMP_T, 200)] {}).fuseCode 1 = 0 ∧ State.reset.fuseCode 1 ≠ 0 ∧
    (tested 11 [] { fuse := some (1, 255) }).test.fuse = some (1, 255) ∧ (tested 11 [] {}).fuses.fences.length < 32 ∧
    (tested 11 [] {}).unfused.length + (tested 11 [] {}).fuses.repairs.length ≤ 256 ∧ Admits State.reset keeper F.TEST_PPR_CMD_CHANNEL.key ∧
    (tested 11 [] { ppr := some 15 }).test.ppr = some 15 := by decide

/-- Two failing rows of bank 1 take its spares 0 and 1; a third column of bank 2 finds none, and the bank goes (R540). -/
theorem test_spares : (((tested 3 [] {}).softRepair 0x1801).softRepair 0x2001).test.soft.map (fun w => w.toNat % 2 ^ 24) = [0x801801, 0x802201] ∧
    ((((tested 3 [] {}).softRepair 0x102).softRepair 0x902).softRepair 0x1102).bus.banksOut = [2] := by decide

/-- The balls of a lane, of the flash and of a trigger in three modes (R565). -/
theorem test_balls : (tested 0 [] {}).ball (.trigOut 0) = .highZ ∧ (tested 2 [(F.PWR_RAIL_OK, 2)] {}).ball (.trigOut 0) = .low ∧
    (tested 2 [(F.PWR_RAIL_OK, 2)] {}).ball .flashData = .highZ ∧ (tested 4 [(F.PWR_RAIL_OK, 0xFFF)] {}).ball .flashReset = .low ∧
    (tested 5 [(F.PWR_RAIL_OK, 0xFFF)] {}).ball (.laneTx 3) = .idle := by decide

/-- The outcome is a next state. -/
def nexts : Host.Outcome State Fault Refusal → Bool
  | .next _ => true
  | _ => false

theorem reset_memories : State.reset.memoriesOk = true := by decide

theorem witness_MemoriesKeepTheirForm : nexts (step { State.reset with pending := [.vaonLost 0] }) = true := by decide

theorem witness_ProgramCountersStayLegal : computes (.add (.core 0) 1 2 3) = true ∧
    nexts (step { running with pending := [.add (.core 0) 1 2 3] }) = true := by decide
theorem witness_pcs : State.reset.pcsLegal ∧ running.pcsLegal :=
  ⟨fun _ => ⟨rfl, by show 0 < 2 ^ 40; decide, rfl, by show 0 < 2 ^ 40; decide, rfl, by show 1 < 8; decide, by show 0 < 8; decide⟩,
    fun _ => ⟨rfl, by show 0 < 2 ^ 40; decide, rfl, by show 0 < 2 ^ 40; decide, rfl, by show 1 < 8; decide, by show 0 < 8; decide⟩⟩

/-! ### Further cases of the statements are met -/

/-- A non-cacheable window is taking the 8 bytes from 8. -/
def taking : State := { running with bus := { running.bus with ncDue := [(8, 16)] } }

theorem witness_LoadsOfNormalMemory_stalls : running.l2Stalls 8 8 = false ∧ (taking.l2Stalls 8 8 = true ∧ taking.boundary (.core 0) = none ∧
    taking.isNormal 8 = true ∧ (taking.initCheck (taking.engSrc 0) .read 8 8).1 = true ∧ taking.inFlightOf 0 = false ∧
    taking.poisoned 8 8 = false) := by decide

theorem witness_StoresWaitForTheirTarget_cases :
    (let s := running.flying [aStore 0]; s.accessStalls (aStore 0) = false ∧ (aStore 0).data.length = (aStore 0).len ∧ 0 < (aStore 0).len ∧
      s.bus.inflight = [aStore 0]) ∧
    (let s := { running with seqBad := [2] }; s.boundary (.seq 0) = none ∧ Memory.wf s.seqMem = true ∧
      (¬∀ b ∈ s.seqBad, b < (0x4000 * 0 + 8) / 4 ∨ (0x4000 * 0 + 8 + 8 - 1) / 4 < b) ∧
      ∀ b ∈ s.seqBad, b < (0x4000 * 0 + 12) / 4 ∨ (0x4000 * 0 + 12 + 4 - 1) / 4 < b) := by decide

theorem witness_AtomicResults_cases : (running.poisoned 0 8 = false ∧ running.l2Stalls 0 8 = false) ∧
    ((running.withG 0 [(1, 12)]).boundary (.core 0) = none ∧ ((running.withG 0 [(1, 12)]).gr 0 1).toNat % 8 ≠ 0) ∧
    ((running.withG 0 [(1, 2 ^ 40)]).boundary (.core 0) = none ∧ 2 ^ 40 ≤ ((running.withG 0 [(1, 2 ^ 40)]).gr 0 1).toNat) := by decide

theorem witness_RingInstructions_cases :
    (let s := ringed 0 0 1; s.l2Stalls 0 16 = false ∧ s.poisoned 0 16 = false ∧ (s.initCheck (s.engSrc 0) .write 0 16).1 = true ∧
      s.on (F.RINGS_CFG_CMODE 0) = false ∧ s.on (F.RINGS_CFG_PMODE 0) = false ∧ s.memoriesOk = true ∧
      (s.get (F.RINGS_BASE 0) * 256 + 16 * (s.get (F.RINGS_PUT 0) % 2)) % 256 + 16 ≤ 256 ∧
      (s.get (F.RINGS_BASE 0) * 256 + 16 * (s.get (F.RINGS_GET 0) % 2)) % 256 + 16 ≤ 256) := by decide

theorem witness_MediaGroup_cases : running.l2Stalls 0 32 = false ∧ (let s := running.withG 0 [(1, 4), (2, 9)]
    s.boundary (.core 0) = none ∧ s.inFlightOf 0 = false ∧ (s.gr 0 1).toNat % 32 ≠ 0 ∧ 8 ≤ (s.gr 0 2).toNat ∧ (s.gr 0 1).toNat / 4 % 2 = 1) := by decide

theorem witness_DoubleFault_inFlight : (let s := (running.withSr [(1, 5)]).flying [aStore 0]
    (s.engine 0).ex = true ∧ s.coreIssues 0 = true ∧ s.inFlightOf 0 = true) ∧
    (let s := running.withSr [(1, 5)]; s.coreIssues 0 = true ∧ s.inFlightOf 0 = false) := by decide

theorem witness_FencesAndCacheLines_waits :
    (let s := running.setEngine 0 { running.engine 0 with wait := .rulesync false }
     (s.engine 0).wait = .rulesync false ∧ (∀ y ∈ s.bus.inflight, s.staleTag y = false)) ∧
    (let s := (running.setEngine 0 { running.engine 0 with wait := .rulesync false }).flying [aStore 5]
     (s.engine 0).wait = .rulesync false ∧ ¬∀ y ∈ s.bus.inflight, s.staleTag y = false) ∧
    (let s := (running.setEngine 0 { running.engine 0 with wait := .rulesync true }).put F.PROT_ACT_STATUS 1
     (s.engine 0).wait = .rulesync true ∧ s.get F.PROT_ACT_STATUS = 1 ∧
       ∀ y ∈ s.bus.inflight, y.set = s.bus.actSet → y.epoch = s.epochOf y.set) := by decide

/-- Core 0 waits for `w`. -/
def waiting (s : State) (w : Wait) : State := s.setEngine 0 { s.engine 0 with wait := w }

theorem witness_WaitForAttention_waits :
    (let s := waiting (attending.withSr [(1, 1), (0x22, 1)]) (.ring 3 none); (s.engine 0).wait = .ring 3 none ∧ (s.advance 1).attention 0 = some 0) ∧
    (let s := waiting running (.ring 3 (some 5)); (s.engine 0).wait = .ring 3 (some 5) ∧ (s.advance 5).attention 0 = none ∧ 5 ≤ s.time.pix + 5 ∧
      (s.advance 4).attention 0 = none ∧ s.time.pix + 4 < 5) ∧
    (let s := waiting running (.line 3 0 0); (s.engine 0).wait = .line 3 0 0 ∧ ((s.advance 1).pos 0 + 2 ^ 32 - 0) % 2 ^ 32 < 2 ^ 31) ∧
    (let s := waiting running (.line 3 0 (2 ^ 30)); (s.engine 0).wait = .line 3 0 (2 ^ 30) ∧ ¬((s.advance 1).pos 0 + 2 ^ 32 - 2 ^ 30) % 2 ^ 32 < 2 ^ 31) ∧
    ((waiting running (.frame 3 0 0 9 0)).engine 0).wait = .frame 3 0 0 9 0 ∧ ((waiting running (.frame 3 0 1 9 0)).engine 0).wait = .frame 3 0 1 9 0 ∧
    (let s := waiting running (.time 3 4); (s.engine 0).wait = .time 3 4 ∧ ((s.advance 48).time64 + 2 ^ 64 - 4) % 2 ^ 64 < 2 ^ 63 ∧
      ¬((s.advance 0).time64 + 2 ^ 64 - 4) % 2 ^ 64 < 2 ^ 63) := by decide

theorem witness_UserWritesOfKeeperRegisters_queue : State.reset.regQueued (State.reset.issuer user) = false ∧ (running.flying [aStore 0]).regQueued keeperSrc = false := by decide

theorem witness_InitiatorChecks_stalls : (let x : Access := ⟨userSrc, .write, 64, 1, [7], 0, 1, none, 0⟩
    (State.reset.flying [x]).accessStalls x = false) ∧ 64 % 256 + 4 ≤ 256 := by decide

theorem witness_CoreRunControl_cases :
    [3, 4, 5].all (fun k => Admits (running.put (F.CORE_STATE 0) k) keeper (F.CORE_CTL_RUN 0).key && (running.put (F.CORE_STATE 0) k).get (F.CORE_STATE 0) = k) = true ∧
    (let s := running.flying [aStore 0]; Admits s keeper (F.CORE_CTL_RUN 0).key ∧ s.get (F.CORE_STATE 0) = 1 ∧ s.inFlightOf 0 = true) ∧
    (running.engine 0).halting ≠ some 4 ∧
    (let s := running.put (F.CORE_WDOG_CFG 0) 1
     Admits s keeper (F.CORE_WDOG_KICK 0).key ∧ s.time.pix / 48 < ((s.engine 0).kickAt + 1200 * 1) / 48 ∧
     (s.advance 1151).time.pix / 48 < ((s.engine 0).kickAt + 1200 * 1) / 48 ∧ ((s.engine 0).kickAt + 1200 * 1) / 48 ≤ (s.advance 1200).time.pix / 48) ∧
    State.reset.get (F.CORE_STATE 0) = 0 := by decide

theorem witness_CommitUnits_cases : (let s := applying (solid 0); (s.unit 0).queued = false ∧ (s.tb (s.unitMaster 0)).loadDue = false ∧
      (s.advance 9).applyOrder 0 = []) ∧
    (State.reset.applyOrder 0 = [] ∧ (State.reset.tb (State.reset.unitMaster 0)).line ≠ (State.reset.tb (State.reset.unitMaster 0)).timing.vactive) ∧
    ∀ p, p < 16 → (State.reset.pipe p).markDue = false := by decide

/-- Head 1 follows the master 0 of span 0 and has composed line 0. -/
def following : State := { (st [(F.SPAN_MEMBERS_LO 0, 3), (F.SPAN_CTRL_ENABLE 0, 1), (F.HEAD_GL_STATE_MEMBER 0, 1), (F.HEAD_GL_STATE_MEMBER 1, 1), (F.HEAD_CFG_ENABLE 1, 1)]) with
  tbs := [(1, { sending := true })]
  heads := [(1, { composed := { full := true, pix := [⟨0, 0, 0⟩] } })] }

theorem witness_FramesAndLines_cases :
    (let b : Timebase := { fresh := false, line := 3, lineLen := 100 }
     let s := { State.reset with tbs := [(0, b)] }
     s.tb 0 = b ∧ s.master 0 = 0 ∧ b.lineAt + b.lineLen ≤ s.time.pix + 100 ∧ ¬b.lineAt + b.lineLen ≤ s.time.pix + 99 ∧ b.line + 1 < b.timing.vtotal) ∧
    (let b : Timebase := { fresh := false, line := 2249, lineLen := 5 }
     b.timing.vtotal ≤ b.line + 1 ∧ b.stepDue = none ∧ b.loadDue = false ∧ b.lineAt + b.lineLen ≤ 5) ∧
    (let s := following; s.hasHead 1 = true ∧ s.master 1 = 0 ∧ (s.tb 1).sending = true ∧ s.composes 1 = true ∧
      (s.tb (s.master 1)).line < (s.tb (s.master 1)).timing.vactive ∧ (s.head 1).composed.full = true ∧
      (s.head 1).composed.no = (s.tb (s.master 1)).line ∧ (s.head 1).composed.fseq = (s.tb (s.master 1)).fseq) := by decide

theorem witness_Genlock_cases :
    (let s := genlocked 1 { src := 1 }; s.followers 1 = [47] ∧ s.get (F.HEAD_GL_STATE_STATE 47) = 1 ∧ (s.tb 47).cand = []) ∧
    (genlocked 1 { src := 2 }).followers 2 = [47] ∧ State.reset.windowOver 47 = false ∧ (genlocked 3 { src := 1, lastPulse := some 0 } |>.tb 47).src ≠ 3 ∧
    (let s := genlocked 1 { src := 3 }; (s.advance 20000002).pulseDue 47 = true ∧ (s.advance 0).pulseDue 47 = false ∧ (s.tb 47).src = 3) := by decide

theorem witness_Spans_members : (let s := spanned 1 0; Admits s keeper (F.SPAN_MEMBERS_LO 0).key ∧ s.on (F.SPAN_CTRL_ENABLE 0) = true ∧
    Admits s keeper (F.SPAN_CTRL_ENABLE 0).key) ∧ State.reset.on (F.SPAN_CTRL_ENABLE 15) = false := by decide

theorem witness_VigilVerdicts_cases : (watching 0 true).enabled 0 = true ∧ State.reset.enabled 0 = false ∧
    (let s := watching 300000000 false; (s.win 0).streamDue = false ∧ (s.win 0).inject = 0 ∧ s.supWins 0 = [(0, video)]) ∧
    ({ watching 0 false with tbs := [(0, { line := 2249 })] }.nextLine 0).1 = 0 := by decide

theorem witness_VigilRegisters_echo : (let s := (watching 0 false).put (F.LANE_PCAP0 0) 0x10000
    { s with heads := [(0, { s.head 0 with map := some (0, 0) })] }.headEcho 0 = true) ∧
    Admits (st [(F.VIGIL_CTRL_LOCK, 1)]) keeper F.VIGIL_CTRL_LOCK.key ∧ Admits (st [(F.VIGIL_CTRL_LOCK, 1)]) keeper (colourKey 2) := by decide

/-- As `copying` without jobs, the copy of 64 × 32 pixels. -/
def scaled (q : List CopyJob) : State := { ((copying 1 []).put (F.COPY_OW 0) 64).put (F.COPY_OH 0) 32 with scaler := { queue := q } }

theorem witness_WindowsAndCopies_places :
    (let s := st [(F.COMP_PLACE_A, 0x01000003), (F.COMP_PLACE_B, 0x00050006)]
     Admits s keeper F.COMP_PLACE_CTL_GO.key ∧ s.get F.COMP_PLACE_A < 2 ^ 31 ∧ s.hasHead (s.get F.COMP_PLACE_A / 2 ^ 16 % 64) = true ∧
     s.get F.COMP_PLACE_A % 2 ^ 11 < s.nWins ∧ (s.win 3).unit = none ∧ s.openCount 0 < 64) ∧
    (let s := st [(F.COMP_PLACE_A, 0x80000003)]
     Admits s keeper F.COMP_PLACE_CTL_GO.key ∧ 2 ^ 31 ≤ s.get F.COMP_PLACE_A ∧ s.get F.COMP_PLACE_A % 2 ^ 11 < s.nWins ∧ (s.win 3).unit = none) := by decide

theorem witness_WindowsAndCopies_jobs :
    (let s := scaled [⟨0, aTag 0 0, 0⟩]
     s.scaler.queue.find? (fun j => !s.on (F.COPY_STATE_BUSY j.set)) = some ⟨0, aTag 0 0, 0⟩ ∧ tabGet? s.scaler.engines 0 = none ∧
     s.on (F.COPY_ENABLE 0) = true ∧ semiPlanar (tagOf (aTag 0 0).bytes).fmt = semiPlanar (s.get (F.COPY_FMT 0)) ∧
     copyRatioOk (s.get (F.COPY_OW 0)) (tagOf (aTag 0 0).bytes).width = true ∧
     copyRatioOk (s.get (F.COPY_OH 0)) (tagOf (aTag 0 0).bytes).height = true ∧ s.freeSlot 0 = some 1) ∧
    tabGet? (copying 1 []).scaler.engines 1 = some ⟨0, aTag 0 0, 0⟩ ∧ tabGet? (copying 1 []).scaler.engines 0 = none := by decide

/-- Head 0 composes and has no line ready: the least latency time lies below the one that relaxes maintenance. -/
def pressed : State := st [(F.MEMC_SCRUB_CFG_ENABLE, 1), (F.HEAD_CFG_ENABLE 0, 1)]

theorem witness_MemoryMaintenance_relax : (let s := st [(F.MEMC_SCRUB_CFG_ENABLE, 1)]; s.relax ≤ s.minLt.1 ∧ s.on F.MEMC_SCRUB_CFG_ENABLE = true) ∧
    pressed.minLt.1 < pressed.relax ∧ pressed.on F.MEMC_SCRUB_CFG_ENABLE = true := by decide

theorem witness_RegistersOfSoftware_queue : State.reset.regQueued keeperSrc = false ∧ (State.reset.region (0x2000000000 + (F.PROT_BIND 127).key)).isReg = true ∧
    (State.reset.regWrite keeperSrc (F.PROT_BIND 127).key 7).1 = true := by decide

theorem witness_StreamContexts_cases :
    (Admits State.reset keeper (F.CTX_CTRL_KIND 4095).key ∧ (0x15#32).toNat % 16 = 5 ∧ (0x15#32).toNat / 16 % 2 = 1) ∧
    Admits State.reset keeper ((F.CTX_CTRL_KIND 4095).key + 4 * 16) ∧ Admits State.reset keeper ((F.CTX_CTRL_KIND 4095).key + 4 * 17) ∧
    (let s := vctx 4095 1 1 {}; Admits s keeper (F.CTX_CTRL_KIND 4095).key ∧ s.get (F.CTX_STATUS_STATE 4095) = 1 ∧ s.kind 4095 = 1) ∧
    (let s := vctx 4095 3 2 {}; s.get (F.CTX_STATUS_STATE 4095) = 2 ∧ s.kind 4095 = 3 ∧ (s.jobPipe 4095).isSome = false) ∧
    (vctx 4095 1 2 {}).get (F.CTX_STATUS_STATE 4095) ≠ 4 := by decide

theorem witness_ClassificationRules_full :
    (let w := (aRule 15).set 3 1; let s := ruling 0 w []; s.intake.cmd = some (0, 0, w) ∧ s.ruleBad w = true) ∧
    (let s := ruling 0 (aRule 15) [(0, aRule 1)]; s.ruleBad (aRule 15) = false ∧ ∃ e ∈ s.intake.rules, ruleDup e.2 (aRule 15) = true) ∧
    (let b := 4 * ruleBucket (aRule 15)
     let other := (aRule 15).set 1 0x10000
     let s := ruling 0 (aRule 15) [(b, other), (b + 1, other), (b + 2, other), (b + 3, other)]
     s.ruleBad (aRule 15) = false ∧ (¬∃ e ∈ s.intake.rules, ruleDup e.2 (aRule 15) = true) ∧
     ∀ j, j < 4 → (tabGet? s.intake.rules (b + j)).isSome = true) ∧
    (let s := ruling 1 (aRule 15) []; s.intake.cmd = some (1, 0, aRule 15) ∧ ∀ e ∈ s.intake.rules, e.2 ≠ aRule 15) ∧
    tabGet? (ruling 2 (aRule 15) []).intake.rules 0 = none := by decide

theorem witness_PacketReception_window :
    (let s := vctx 0 1 2 { started := true }; let z := s.expireByHold 0
     z.ctxOn 0 = true ∧ (z.ctx 0).started = true ∧ (z.ctx 0).cand = none ∧ (z.ctx 0).held.length < z.winOf 0 + 64 ∧ z.get (F.CTX_HIGHEST 0) = 0 ∧
     1 ≤ sint 16 (1 + 0x10000 - 0) ∧ sint 16 (1 + 0x10000 - 0) ≤ (z.winOf 0 : Int) ∧ (z.winOf 0 : Int) < sint 16 (0x7FFF + 0x10000 - 0) ∧
     (behind 0 0 ≤ (z.ctx 0).since ∧ 0 ∉ (z.ctx 0).lost) ∧
     sint 16 (0x8000 + 0x10000 - 0) ≤ -(z.winOf 0 : Int) ∧ ¬behind 0 0x8000 ≤ (z.ctx 0).since) ∧
    State.reset.on F.TIME_MGMT_CFG_EN = false := by decide

/-- As `decoding` with the unit on the pipe, and every slot of the context referenced. -/
def slotless (a : Au) : State := { decoding [] (some (5, a)) none with ctxs := [(5, { dpb := List.range 8 })] }

theorem witness_DecodePipes_cases :
    (let s := slotless anAu; s.ctxFreeSlot 5 = none ∧ (s.pipe 3).job = some (5, anAu) ∧ (s.pipe 3).slot = none ∧
      (s.advance 0).time64 < anAu.rdy + s.budgetNs 5 ∧ anAu.rdy + s.budgetNs 5 ≤ (s.advance 60000000).time64) ∧
    ((decoding [] (some (5, anAu)) none).ctxFreeSlot 5).isSome = true ∧
    (let s := decoding [] none none; s.pipeLive 3 = true ∧ (s.pipe 3).spanAt + s.slowWindow * 12000000 ≤ (s.advance 1200000000).time.pix ∧
      (s.advance 1).time.pix < (s.pipe 3).spanAt + s.slowWindow * 12000000) ∧
    (let s := { (decoding [] none none).putBit F.DEC_SLOW 3 true with pipes := [(3, { busy := 2000000000, pixels := 2000000000, good := 1 })] }
     s.pipeLive 3 = true ∧ s.bit F.DEC_SLOW 3 = true ∧ 1 ≤ (s.pipe 3).good ∧ s.slowWindow * 12000000 ≤ ((s.pipe 3).busy + s.pipeBusy 3) * 10 ∧
     (s.slowThresh + 5) * 512 ≤ 100 * min 1023 ((s.pipe 3).pixels * 1200 / ((s.pipe 3).busy + s.pipeBusy 3))) ∧
    (let s := { decoding [] none none with pipes := [(3, { job := some (5, anAu), slot := some 1, work := 12000000 })] }
     s.pipeLive 3 = true ∧ (s.pipe 3).slot.isSome = true ∧ 12000000 ≤ (s.pipe 3).work + s.pipeBusy 3) ∧
    (decoding [] (some (5, anAu)) (some 1)).pipeLive 3 = true := by decide

theorem witness_DecodedPictures_mark :
    (let s := { decoding [] (some (5, anAu)) (some 1) with pipes := [(3, { job := some (5, anAu), slot := some 1, markDue := true })], units := [(0, { applying := true })] }
     (s.pipe 3).markDue = true ∧ s.anyApply = true ∧ (s.pipe 3).job = some (5, anAu) ∧ s.ctxOn 5 = true ∧ (s.pipe 3).slot = some 1) ∧
    ¬((vctx 5 1 2 {}).on (F.CTX_CTRL_KP_EN 5) = true) := by decide

theorem witness_EncodeSessions_cases : Admits (encoding 1 {}) keeper (F.SESS_CTL_ENABLE 15).key ∧
    Admits (encoding 1 {}) keeper ((F.SESS_CTL_ENABLE 15).key + 4 * 7) ∧ Admits (encoding 1 {}) keeper ((F.SESS_CTL_ENABLE 15).key + 4 * 5) ∧
    (let s := (encoding 1 { pics := [anEnc 33 1] }).put (F.EPIPE_STATE 0) 1
     s.get (F.EPIPE_STATE 0) = 1 ∧ s.epipeIn 0 = true ∧ s.epipeAt 0 + 12000000 ≤ (s.advance 12000000).time.pix ∧ (s.advance 11999999).time.pix < s.epipeAt 0 + 12000000) := by
  decide

theorem witness_EthernetPorts_cases : (ported 1 0 []).portIsUp 0 = false ∧ (ported 1 0 []).on (F.PORT_STATUS_LINK 0) = false ∧
    Admits (ported 1 1 []) keeper (F.PORT_CFG_EN 0).key ∧ (ported 1 1 []).on (F.PORT_CFG_EN 0) = true ∧
    (let s := { st [(F.TIME_MGMT_CFG_EN, 1), (F.TIME_MGMT_CFG_LINK, 1)] with net := { queues := [(4, [aFrame])] } }
     s.portIsUp 4 = true ∧ (s.advance 1).nextFrame 4 = some aFrame ∧ Admits s keeper F.TIME_MGMT_CFG_EN.key) ∧
    (st [(F.TIME_MDIO_CMD_GO, 0)]).on F.TIME_MDIO_CMD_GO = false := by decide

theorem witness_NetworkTime_triggers :
    (let s := st [(F.TTRIG_CTL_EN 15, 1), (F.TTRIG_CTL_TARGET 15, 0x44)]; (s.advance 9).trigDue 15 = true ∧ s.get (F.TTRIG_PERIOD 15) = 0 ∧
      s.get (F.TTRIG_CTL_TARGET 15) = 0x44 ∧ s.on (F.TTRIG_CTL_EN 15) = true ∧ Admits s keeper (F.TTRIG_AT 15)) ∧
    State.reset.on (F.TTRIG_CTL_EN 15) = false ∧ Admits State.reset keeper (F.TTRIG_AT 15 + 4) ∧ Admits State.reset keeper (F.TTRIG_AT 15 + 8) ∧
    (servoing 0 {}).get F.TIME_STATUS_SERVO = 0 ∧ (servoing 2 {}).get F.TIME_STATUS_SERVO ≠ 0 := by decide

theorem witness_LaneTraffic_loss : (let s := { laned 9 { left := true, ctl := [[1, 2]] } with power := { wake := [(319, 0)], domLost := 0x10 } }
    s.lineLoss = true ∧ s.leadOf 63 = some 63 ∧ s.laneStage 63 ≠ 0 ∧ s.laneStage 63 ≠ 11 ∧ (s.lane 63).waiting = none ∧ s.admitted 63 = true) ∧
    (laned 9 { left := true }).lineLoss = false ∧ (laned 6 {}).lineLoss = false := by decide

/-- A row of four units: its last one ends the slice. -/
def aRow (last : Bool) : EncRow := if last then ⟨8, 4, [1, 1, 1, 1], [[0x41, 0x41]], List.replicate 1536 1⟩ else ⟨0, 0, [1, 1, 1, 1], [], List.replicate 1536 1⟩

theorem witness_EncodeSessions_rows :
    (let q := anEnc 64 0
     let s := { encoding 1 { pics := [q] } with power := { wake := [(0x10, 0)] } }
     let bud := (q.plan.getD ((s.advance 0).encPlan 15 q)).1
     s.mode ≠ 10 ∧ (s.advance 0).awake 0x10 = true ∧ s.rowFits 15 q (aRow false) ((s.rowExhaust 15 q bud (aRow false)).getD 4) = true ∧ q.row + 1 < s.encRows 15) ∧
    (let q := anEnc 64 3
     let s := encoding 1 { pics := [q] }
     let bud := (q.plan.getD ((s.advance 0).encPlan 15 q)).1
     q.row ≠ 0 ∧ s.rowFits 15 q (aRow true) ((s.rowExhaust 15 q bud (aRow true)).getD 4) = true ∧ s.encRows 15 ≤ q.row + 1) := by decide +kernel

/-! ### Ill-formed commands -/

theorem wf_registerWrite : Instr.wf (.registerWrite keeper 0x2000900010 0) = true ∧ Instr.wf (.registerWrite keeper 0x2000900012 0) = false ∧
    Instr.wf (.registerWrite keeper 0x2001600000 0) = false := by decide
theorem wf_reg64 : Instr.wf (.reg64LowWrite keeper 0x2000900010 0) = false ∧ Instr.wf (.reg64HighWrite keeper 0 0) = false ∧
    Instr.wf (.reg64LowRead keeper 0x2000900010) = false := by decide
theorem wf_initiatorCheck : Instr.wf (.initiatorCheck keeper .write 64 2 [1]) = false ∧ Instr.wf (.initiatorCheck keeper .write 64 2 [1, 2]) = true ∧
    Instr.wf (.initiatorCheck keeper .read 64 0 []) = false ∧ Instr.wf (.initiatorCheck keeper .read (2 ^ 40) 4 []) = false := by decide
theorem wf_shifts : Instr.wf (.shlk (.core 0) 1 2 0x40) = false ∧ Instr.wf (.shrk (.core 0) 1 2 0x40) = true ∧
    Instr.wf (.sark (.core 0) 1 2 0x40) = false ∧ Instr.wf (.rolk (.core 0) 1 2 0xFF) = true := by decide
theorem wf_illegal : Instr.wf (.illegalInstruction (.core 0) 0x8460FFFD) = false ∧ Instr.wf (.illegalInstruction (.core 0) 0xFFFFFFFF) = true := by decide
theorem wf_lists : Instr.wf (.lineUnderrun 0 0 [1, 2, 1]) = false ∧ Instr.wf (.tempSample 0 [none]) = false ∧
    Instr.wf (.audioFrameStart 0 0 false (List.replicate 17 0)) = false ∧ Instr.wf (.ethRxFrame 0 0 0 [1, 2]) = false ∧
    Instr.wf (.localScanDone 0 31 []) = false ∧ Instr.wf (.clockDrift 0 0 (2 ^ 32)) = false := by decide

/-! ### Worked values of the manual -/

/-- The state after a command, reset where it stops. -/
def after (c : Instr) (s : State) : State :=
  match exec c s with
  | .next t => t
  | _ => State.reset

/-! ### The cases that the findings of fetches, thresholds and waits add are met -/

theorem witness_InstructionsAfterAFinding : (running.boundary (.core 0 (.ce 5)) = none ∧
      (running.fetched (.core 0 (.ce 5))).boundary (.core 0) = none ∧ running.fetched (.core 0 (.ce 5)) ≠ running) ∧
    (running.boundary (.seq 0 (.ce 31)) = none ∧ (running.fetched (.seq 0 (.ce 31))).boundary (.seq 0) = none) := by decide

theorem witness_EveryRegisterCommandCompletes :
    ∀ key ∈ [F.CLK_SAMPLE_CFG_BASE.key, F.VIGIL_CTRL_LOCK.key, F.VIGIL_INJECT_WINDOW.key, F.L2_SRAM_WAYS.key, F.COMP_PLACE_CTL_GO.key,
      F.PIXP_COEF_LOAD_SET.key, F.INTAKE_RULE_CMD_OP.key, F.INTAKE_BUF_RETURN.key, F.DEC_PIPE_EN.key, F.ENC_PIPE_EN.key, F.TIME_MDIO_CMD_GO.key,
      F.PROT_CTRL_LOCKDOWN.key, F.FAULT_CTR_CLEAR_BLOCK.key, F.TEST_IST_CMD_UNIT.key, colourKey 7, commitKey 63, (F.HEAD_HTIM_HACTIVE 47).key + 8,
      (F.RINGS_BELL_INDEX 127).key, F.SYS_FENCE_DEC.key + 24], Admits State.reset keeper key := by decide

theorem witness_findings : (let s := running.applyFind 8 0 (.ce 3); s.corePoisoned 8 8 = false ∧ s ≠ running) ∧
    (running.applyFind 8 0 .ue).corePoisoned 8 8 = true := by decide

theorem witness_CoreRunControl_halts : (running.engine 0).halting = none ∧ (running.engine 0).wait ∉ [.rulesync true, .rulesync false, .step, .busy] ∧
    running.inFlightOf 0 = false ∧ (let s := running.flying [aStore 0]; s.inFlightOf 0 = true ∧ (s.engine 0).halting = none) := by decide

theorem witness_VigilVerdicts_delivery : (let s := ((watching 0 false).put (vigilState 0) 2).put (vigilState 2) 2
      s.inService.length < 2 ∧ s.supWins 0 = [(0, video)]) ∧
    (let s := (watching 0 false).put F.SYS_MODE_MODE 10; 2 ≤ s.inService.length ∧ s.mode = 10) ∧ 2 ≤ (watching 0 false).inService.length := by decide

theorem witness_VigilRegisters_disabled : (watching 0 false).enabled 0 = true ∧ (watching 0 false).echoLine 0 = (watching 0 false).echoLine 0 ∧
    State.reset.enabled 47 = false := by decide

theorem witness_ComposedLines_underrun : (let s := { committing {} with heads := [(0, {})], wins := [(0, { act := some (solid 0), unit := some 0 })] }
    (s.head 0).composed.full = false ∧ (∃ e ∈ s.actWins 0, crosses e.2 (s.nextLine 0).1 = true ∧ supervised e.2 = false) ∧
    (s.tb 0).underrunAt ≠ some ((s.nextLine 0).2, (s.nextLine 0).1)) := by decide

theorem witness_MemoryMaintenance_burst :
    (let s := { st [(F.MEMC_SCRUB_CFG_ENABLE, 1)] with bus := { scrubs := (List.range 32).map (fun c => (c, 9)) } }
     s.on F.MEMC_SCRUB_CFG_ENABLE = true ∧ (s.advance 9).scrubOpen 1 = true ∧ (s.advance 10).scrubOpen 1 = false) := by decide

theorem witness_ClassificationRules_ports : (linked.portIsUp 0 = true ∧ linked.netLost = false ∧ linked.on (F.PORT_CFG_FEC 0) = false) ∧
    (let s := linked.put (F.PORT_CFG_FEC 0) 1; s.portIsUp 0 = true ∧ s.on (F.PORT_CFG_FEC 0) = true) ∧
    ({ linked with power := { domLost := 0x40 } } : State).netLost = true := by decide

theorem witness_DecodedPictures_stop : (decoding [] (some (5, anAu)) (some 1)).mode ≠ 10 ∧ (moded 10 [] {}).mode = 10 := by decide

theorem witness_EthernetPorts_links : tabGet 0 (ported 1 0 []).net.since 0 + 12000000 ≤ ((ported 1 0 []).advance 12000000).time.pix ∧
    ((ported 1 0 []).advance 11999999).time.pix < tabGet 0 (ported 1 0 []).net.since 0 + 12000000 ∧ (ported 0 0 []).on (F.PORT_CFG_EN 0) = false ∧
    ({ ported 1 1 [] with power := { domLost := 0x40 } } : State).netLost = true := by decide

theorem witness_NetworkTime_order : State.reset.netLost = false ∧ ({ State.reset with power := { domLost := 0x40 } } : State).netLost = true ∧
    (let s := st [(F.TTRIG_CTL_EN 3, 1), (F.TTRIG_CTL_TARGET 3, 0x43), (F.TTRIG_CTL_EN 5, 1), (F.TTRIG_CTL_TARGET 5, 0x43)]
     (∀ j : Fin 16, j.val < 3 → (s.advance 9).trigDue j = false) ∧ (s.advance 9).trigDue 3 = true ∧ s.get (F.TTRIG_PERIOD 3) = 0) ∧
    (servoing 3 {}).on F.TIME_STATUS_STEPPED = true := by decide

theorem witness_LaneBringUp_stages :
    (let s := laned 4 {}; s.laneStage 63 = 4 ∧ (false = s.on (F.LANE_STATE_RX_INVERTED 63)) ∧ true ≠ s.on (F.LANE_STATE_RX_INVERTED 63)) ∧
    (let s := laned 6 { trainRun := 8 }; 8 ≤ (s.lane 63).trainRun ∧ s.laneStage 63 = 6 ∧ (s.lane 63).waiting = none) ∧
    ((laned 6 { trainRun := 7 }).lane 63).trainRun < 8 ∧
    (let s := st [(F.LANE_CFG_EN 60, 1), (F.LANE_CFG_GSIZE 60, 1), (F.LANE_STATE_MEMBER 61, 1)]
     Admits s keeper (F.LANE_CFG_ROLE 61).key ∧ s.on (F.LANE_CFG_EN 61) = false ∧ s.on (F.LANE_STATE_MEMBER 61) = true ∧ s.leadOf 61 = some 60 ∧
     Admits s keeper (F.LANE_LOOP_MODE 61).key) := by decide

theorem witness_LaneTraffic_loops : ((laned 9 {}).put (F.LANE_LOOP_MODE 63) 3).get (F.LANE_LOOP_MODE 63) % 2 = 1 ∧ (laned 9 {}).get (F.LANE_LOOP_MODE 63) % 2 = 0 ∧
    (laned 9 {}).on (F.LANE_LOOP_PRBS_CHK 63) = false ∧ (laned 9 {}).on (F.LANE_LOOP_PRBS_GEN 63) = false ∧ (laned 6 { rxG := some 5 }).groupN 63 = 1 ∧
    ((laned 6 { rxG := some 5 }).lane 63).rxG = some 5 := by decide

theorem witness_TouchPanels_faults : (let s := panelled [] { cmd := some ⟨5, 0, [], 0, 3⟩ }
      (s.panel 33).cmd = some ⟨5, 0, [], 0, 3⟩ ∧ 3 ≤ 3) ∧
    (let s := panelled [(F.SYS_MODE_MODE, 10)] { scan := some (aScan true) }; s.mode = 10 ∧ (s.panel 33).scan = some (aScan true)) ∧
    (panelled [] { scan := some (aScan true) }).mode ≠ 10 := by decide

theorem witness_AudioSides_frames :
    (let s := sided [(F.SIDE_CFG_EN 15 0, 1), (F.SIDE_STATE 15 0, 2), (F.SIDE_MASK 15 0, 1)]
     s.get (F.SIDE_STATE 15 0) = 2 ∧ s.sideHeld 30 = false ∧ (s.advance 25000).frameDue 30 = true ∧ s.mode ≠ 10 ∧
     (s.side 30).wrAt.any (fun a => s.sampleClk a = s.sampleClk s.time.pix) = false) ∧
    (let s := { sided [(F.SIDE_STATE 15 0, 2)] with sides := [(30, { count := 1, last := 0, wrAt := some 0, was := (0x10001, []) })] }
     (s.advance 24998).frameDue 30 = false ∧ (s.side 30).wrAt.any (fun a => s.sampleClk a = s.sampleClk s.time.pix) = true ∧
     (s.side 30).was.1.toNat / 2 ^ 16 % 2 = 1) ∧
    (let s := sided [(F.SIDE_STATE 15 0, 2), (F.SYS_MODE_MODE, 10)]; s.mode = 10 ∧ s.sideHeld 30 = false) ∧
    (sided [(F.SYS_DEGRADED_SAMPLE, 1)]).sideHeld 30 = true ∧
    (let s := { [(F.CTXV_HDR_A 3, 1), (F.PORT_CFG_EN 0, 1), (F.PORT_STATUS_LINK 0, 1), (F.REGION_EN 0 0, 1), (F.REGION_LAST_LO 0 0, 0xFFFF),
         (F.REGION_PERM 0 0, 63)].foldl (fun s e => s.put e.1 e.2) (audioTx 48) with mem := [(256, 42)] }
     s.get (F.CTXV_HDR_A 3) ≠ 0 ∧ ((s.advance 1).template audioSrc 1).1.isSome = true ∧ s.portIsUp 0 = true) ∧
    ((audioTx 48).get (F.CTXV_HDR_A 3) = 0 ∧ (audioTx 48).get (F.CTXV_HDR_B 3) = 0) := by decide

theorem witness_SupplyAndStart_thresholds : State.reset.vinWarnMv = 8500 ∧ (8499 < State.reset.vinWarnMv ∧ ¬8500 < State.reset.vinWarnMv) ∧
    (State.reset.vinWarnMv + 400 < 8901 ∧ 8901 < 64000) ∧ 8900 ≤ State.reset.vinWarnMv + 400 ∧
    (let s := moded 9 [(F.PWR_HU_CAP, 2200)] {}
     energyAt (s.get F.PWR_HU_CAP) 14000 ≤ 1200000000 * clamp 3 15 (s.get F.PWR_RT_CFG_STOP_RESERVE) ∧
     ¬energyAt (s.get F.PWR_HU_CAP) 50000 ≤ 1200000000 * clamp 3 15 (s.get F.PWR_RT_CFG_STOP_RESERVE)) ∧
    (let s := moded 2 [(F.HLTH_STATUS_LOW_HALT, 1)] {}; s.on F.HLTH_STATUS_LOW_HALT = true ∧ -200 ≤ s.getI F.HLTH_TEMP_T) ∧
    (let s := moded 9 [(F.PWR_STATUS_THERM_CAP, 1), (F.HEAD_CFG_ENABLE 0, 1)] {}; s.on F.PWR_STATUS_THERM_CAP = true ∧ s.anyHead = true) ∧
    (let s := moded 0 [(F.PWR_CTRL_AUTO_RESTART, 1), (F.PWR_STATUS_STOP_CAUSE, 8)] { holdOff := true, restarts := [5], onSecs := 3605 }
     (s.power.restarts.filter (fun a => s.power.onSecs ≤ a + 3600)).length = 1) ∧
    (let s := moded 11 [] {}; s.get F.SYS_MODE_MODE = 11 ∧ s.test.fuse = none) := by decide

theorem witness_LifeLedger_due : (let s := { st [(F.HLTH_LEDGER_CTRL_EN, 1)] with ledger := { busy := some [1], due := 2, secs := 3600 } }
    s.on F.HLTH_LEDGER_CTRL_EN = true ∧ s.ledger.busy = some [1] ∧ s.ledger.due ≠ 0 ∧ s.ledger.hourAt + 3600 ≤ s.ledger.secs) ∧
    State.reset.slotErased 255 = true ∧ ({ State.reset with flash := [(511, 0)] } : State).slotErased 0 = false := by decide

theorem witness_ModesAndBoot_holds : (moded 4 [] { held := true }).power.held = true ∧ (moded 4 [] {}).power.held = false ∧
    (let s := moded 11 [] {}; s.test.dirty = false ∧ s.test.fuse = none ∧ s.test.ppr = none) := by decide

theorem witness_TestAndRepair_ppr : (let s := tested 11 [(F.MEMC_TRAINED, 0xFFFFFFFF)] { ppr := some 31 }; s.test.ppr = some 31 ∧ 31 < 2 ^ s.logChan) ∧
    (let s := { tested 3 [(F.TEST_STATUS_STATE, 1)] {} with power := { held := true } }; s.mode = 3 ∧ s.power.held = true) := by decide

/-- "123456789". -/
def digits : List Byte := [0x31, 0x32, 0x33, 0x34, 0x35, 0x36, 0x37, 0x38, 0x39]

/-- The check column of R473. -/
theorem test_checks : polyFinal 0 (polyFrom 0 (polyInit 0) digits) = 0xE3069283 ∧ polyFinal 1 (polyFrom 1 (polyInit 1) digits) = 0xCBF43926 ∧
    polyFinal 2 (polyFrom 2 (polyInit 2) digits) = 0x29B1 ∧ polyFinal 3 (polyFrom 3 (polyInit 3) digits) = 0xDF := by decide

/-- The digest of "abc" that FIPS 180-4 is published with. -/
theorem test_sha384 : beNat (sha384 [0x61, 0x62, 0x63]) = 0xCB00753F45A35E8BB5A03D699AC65007272C32AB0EDED1631A8B605A43FF5BED8086072BA1E7CC2358BAECA134C825A7 := by
  decide +kernel

/-- The example after R209: the last byte of a CRC-32C by `crc`. -/
theorem test_crc : (let s := running.withG 0 [(5, 0xFFFFFFFF), (6, 0x3837363534333231)]
    let t := (after (.crc (.core 0) 5 5 6 3) s).withG 0 [(6, 0x39)]
    (after (.crc (.core 0) 5 5 6 0) t).gr 0 5 ^^^ 0xFFFFFFFF#64 = 0xE3069283#64) := by decide

/-- The example after R143: the address of COMMIT of H3 by three instructions. -/
theorem test_address : (after (.addh (.core 0) 5 5 0x20) (after (.ork (.core 0) 5 5 0x11B4) (after (.setu (.core 0) 5 0x50) running))).gr 0 5 =
    0x20005011B4 ∧ keyAddr (F.HEAD_COMMIT_REQ 3).key = 0x20005011B4 ∧ executes true 0x28A00050 = true ∧ executes true 0x14A511B4 = true ∧
    executes true 0x2CA50020 = true := by decide

/-- The example after R147: a branch of offset -3 goes back 12 bytes while g3 is non-zero. -/
theorem test_branch : (let s := (running.withG 0 [(3, 1)]).setEngine 0 { (running.withG 0 [(3, 1)]).engine 0 with pc := 0x100 }
    (after (.braNe (.core 0) 3 0 0xFFFD) s).engine 0 |>.pc) = 0xF4 := by decide

/-- The register A is read before D is written (R147). -/
theorem test_callr : (let s := (running.withG 0 [(31, 0x200)]); (after (.callr (.core 0) 31 31 1) s).gr 0 31 = 4 ∧
    ((after (.callr (.core 0) 31 31 1) s).engine 0).pc = 0x204) := by decide

theorem test_add_wraps : ((after (.add (.core 0) 1 1 2) (running.withG 0 [(1, 0xFFFFFFFFFFFFFFFF), (2, 2)])).gr 0 1) = 1 ∧
    ((after (.add (.core 0) 0 1 2) (running.withG 0 [(1, 5), (2, 2)])).gr 0 0) = 0 := by decide

/-- The example after R27. -/
theorem test_vigilAddress : keyAddr 0x900010 = 0x2000900010 ∧ regKey 0x2001500000 = 21 * 0x100000 := by decide

/-- The example after R571. -/
theorem test_channel : State.reset.channelOf 0x0240000000 = 5 := by decide

/-- The example after R36: the output word of an SLX-W0816. -/
theorem test_fpb : ({ State.reset with fuses := { member := 2, mainRead := true } } : State).fpbWord 1 = 0x0C080408 := by decide

/-- The example after R94: 8,888 whole clocks a line. -/
theorem test_linePeriod : linePeriod ⟨3840, 4400, 2160, 2250, 60, 1⟩ = 8888 := by decide

/-- The example after R112. -/
theorem test_ptpIndex : ({ State.reset with tbs := [(0, { timing := ⟨3840, 4400, 2160, 2250, 50, 1⟩ })] } : State).ptpIndex 0 1700000000000000000 =
    85000000000 := by decide

/-- The example after R283. -/
theorem test_slotBytes : (st [(F.CTX_CTRL_KIND 0, 1), (F.CTX_MAX_W 0, 1920), (F.CTX_MAX_H 0, 1080)]).ctxSlotBytes 0 = 3321856 := by decide

/-- The example after R311. -/
theorem test_exhaust : (st [(F.SESS_CTL_CODEC 0, 0), (F.SESS_SLICE_ROWS 0, 4), (F.HEAD_HTIM_HACTIVE 32, 1920), (F.HEAD_VTIM_VACTIVE 32, 1080)]).encAll 0 true =
    38016 := by decide

/-- The example after R337: a TRAIN payload of zeros on L05 at BSEQ 0. -/
theorem test_keystream : (scramble (seedOf 5 0) (List.replicate 8 false)) = [true, true, false, true, true, false, true, false] := by decide

/-- R338: 31 equal bits are followed by their opposite, which the receiver drops. -/
theorem test_stuff : stuff true 30 [true, true, false] = [true, false, true, false] ∧ destuff true 30 [true, false, true, false] = some [true, true, false] ∧
    destuff true 31 [true] = none := by decide

/-- The example after R417. -/
theorem test_centroid : centroid 12 110 810 = 3235 ∧ centroid 7 (-60) 810 = 1901 := by decide

/-- The example after R436. -/
theorem test_sideRates : (let s := st [(F.SIDE_CFG_FORMAT 0 0, 1), (F.SIDE_CFG_SLOTS 0 0, 7), (F.SIDE_CFG_WIDTH 0 0, 2), (F.SIDE_RATE_HZ 0 0, 48000)]
    s.sideCode 0 = 0 ∧ (s.put (F.SIDE_RATE_HZ 0 0) 44100).sideCode 0 = 1 ∧
    ((s.put (F.SIDE_RATE_HZ 0 0) 44100).put F.CLK_SAMPLE_CFG_BASE 1).sideCode 0 = 0) := by decide

/-- The example after R472: a producer's bell for two entries where one is free, for one, and a consumer's for four. -/
def ring40 : State := st [(F.RINGS_CFG_EN 40, 1), (F.RINGS_CFG_LOG2N 40, 3), (F.RINGS_CFG_PMODE 40, 1), (F.RINGS_CFG_CMODE 40, 1), (F.RINGS_BASE 40, 1),
  (F.RINGS_PUT 40, 2), (F.RINGS_GET 40, 11)]
theorem test_ring : ring40.ringFill 40 = 7 ∧ (after (.doorbell keeper 40 4) ring40).ringFill 40 = 7 ∧
    (after (.doorbell keeper 40 3) ring40).ringFill 40 = 8 ∧ (after (.doorbell keeper 40 0x8000000F) (after (.doorbell keeper 40 3) ring40)).ringFill 40 = 4 := by
  decide

/-! ### The decoder's input -/

/-- The table gives the commands no words, so none is decoded and nothing is put in front (log entry 1). -/
theorem test_noWords : decodeTableWord 32 0x28A00050 = none ∧ State.reset.withFetchWord 32 0x28A00050 = State.reset := by decide

/-- A step takes the command in front; without one a clock passes. -/
theorem test_queue : (match step { running with pending := [.setu (.core 0) 5 0x50, .setu (.core 0) 6 1] } with
    | .next t => t.gr 0 5 = 0x500000 && t.gr 0 6 = 0 && t.pending = [.setu (.core 0) 6 1]
    | _ => false) = true ∧ (match step State.reset with
    | .next t => decide (t = State.reset.advance 1)
    | _ => false) = true := by decide

end
end Sys2Proof.Machine
end

section
/-! PROOFS. Commands that write a register (O18, O59): what a record and a refusal leave, a write that is admitted, and a
write that a WK field bars (R2, R7, R27, R459, R462). -/
namespace Sys2Proof.Machine

/-! ### Records and refusals -/

/-- The record raised is the latest of those kept (R481, R508). -/
theorem State.raise_newest (s : State) (cls a1 a2 d : Nat) (lim : Option Nat) :
    ∃ r ∈ (s.raise cls a1 a2 d lim).log.recent.head?, r.cls = cls ∧ r.addr1 = a1 ∧ r.addr2 = a2 ∧ r.detail = d := by
  unfold State.raise
  extract_lets now supp rseq s1 r s2 l2 s3 s4 l4 s5 l5
  have h3 : r ∈ s3.log.recent.head? := rfl
  have h5 : r ∈ s5.log.recent.head? := by cases lim <;> exact h3
  refine ⟨r, ?_, rfl, rfl, rfl, rfl⟩
  split
  · exact h3
  · split
    · exact h5
    · exact h5

/-- An event counted at `f` and then logged touches the fault log, the registers of FAULT and that counter alone. -/
theorem LogOnly.onlyLogged_bump {s t : State} {f : Fld} (h : LogOnly (s.bump f) t) : OnlyLogged [f.key] s t := by
  obtain ⟨r, l, rfl, hr⟩ := h
  refine ⟨rfl, fun k hk hf => ?_⟩
  rw [hr k hk]
  exact tabGet?_tabSet_ne _ _ _ _ (by simpa using hf)

/-- A refusal touches the fault log, the registers of FAULT and PROT.REFUSED alone (R462). -/
theorem State.refuse_onlyLogged (s : State) (cls : Nat) (src : Src) (k : AccKind) (a bad len set e : Nat) :
    OnlyLogged [F.PROT_REFUSED.key] s (s.refuse cls src k a bad len set e) := by
  unfold State.refuse
  exact (State.raise_logOnly ..).onlyLogged_bump

/-- The record of a refusal carries its class, the address of the access and the forbidden byte (R462, R479). -/
theorem State.refuse_newest (s : State) (cls : Nat) (src : Src) (k : AccKind) (a bad len set e : Nat) :
    ∃ r ∈ (s.refuse cls src k a bad len set e).log.recent.head?, r.cls = cls ∧ r.addr1 = a ∧ r.addr2 = bad := by
  unfold State.refuse
  obtain ⟨r, hr, hc, h1, h2, _⟩ := State.raise_newest ..
  exact ⟨r, hr, hc, h1, h2⟩

theorem RegsOnly.eng {s t : State} (h : RegsOnly s t) : t.eng = s.eng := by obtain ⟨r, l, rfl⟩ := h; rfl

/-! ### A write that a WK field bars -/

/-- A write that a WK field bars is refused whole (R7, R459 step 4). -/
theorem State.asWrite_barred {s : State} {i : Initiator} {key w : Nat} (v : BitVec w) (f : State → State)
    (hu : s.atKeeperLevel i = false) (hq : s.regQueued (s.issuer i) = false) (hp : s.keyPresent key = true)
    (hw : s.holdsWk key = true) :
    s.asWrite i key v f = s.refuse 6 (s.issuer i) .write (keyAddr key) (keyAddr key) (w / 8) (s.setOf (s.issuer i).id)
      (s.epochOf (s.setOf (s.issuer i).id)) := by
  have hk : (s.issuer i).keeper = false := hu
  simp [State.asWrite, hq, hp, hk, hw]

/-- So a command that is such a write counts and logs the refusal, and does nothing else. -/
theorem reaches_refusal_of_barred {c : Instr} {s : State} {i : Initiator} {key w : Nat} {v : BitVec w} {f : State → State}
    (hc : exec c s = .next (s.asWrite i key v f)) (hu : s.atKeeperLevel i = false) (hq : s.regQueued (s.issuer i) = false)
    (hp : s.keyPresent key = true) (hw : s.holdsWk key = true) :
    Reaches c s (fun t => OnlyLogged [F.PROT_REFUSED.key] s t ∧
      ∃ r ∈ t.log.recent.head?, r.cls = 6 ∧ r.addr1 = keyAddr key ∧ r.addr2 = keyAddr key) := by
  rw [State.asWrite_barred v f hu hq hp hw] at hc
  exact ⟨_, hc, s.refuse_onlyLogged .., s.refuse_newest ..⟩

/-- Settles O18: each of the commands is a write of its register, and such a write is refused whole. -/
theorem userWritesOfKeeperRegisters : Obligations.UserWritesOfKeeperRegisters := by
  unfold Obligations.UserWritesOfKeeperRegisters
  intro i n c h v s hu hq
  and_intros <;> exact reaches_refusal_of_barred rfl hu hq

/-! ### A write that is admitted -/

/-- A transaction of INITIATOR_CHECK touches no engine (R456). -/
theorem State.launch_eng (s : State) (src : Src) (k : AccKind) (a len : Nat) (data : List Byte) :
    (s.launch src k a len data).eng = s.eng := by
  have h := (s.initCheck_regsOnly src k a len).eng
  unfold State.launch
  dsimp only
  split
  · exact h
  · exact h

theorem State.foldl_launch_eng (s : State) (src : Src) (k : AccKind) (a : Nat) (data : List Byte) (l : List (Nat × Nat)) :
    (l.foldl (fun t p => t.launch src k p.1 p.2 (slice data (p.1 - a) p.2)) s).eng = s.eng := by
  induction l generalizing s with
  | nil => rfl
  | cons p l ih => exact (ih _).trans (s.launch_eng ..)

/-- Settles O59: the plain accesses answer by definition, and every other command is a write of its register, which takes
its effect once it is admitted. -/
theorem everyRegisterCommandCompletes : Obligations.EveryRegisterCommandCompletes := by
  unfold Obligations.EveryRegisterCommandCompletes
  intro i v s
  refine ⟨fun a => ⟨rfl, rfl, rfl, rfl⟩, fun n finds => rfl, fun k a len data => ⟨_, rfl, s.foldl_launch_eng ..⟩, ?_⟩
  and_intros
  all_goals
    intros
    and_intros
  all_goals
    intros
    exact congrArg Host.Outcome.next (State.asWrite_admitted _ _ ‹_›)

end Sys2Proof.Machine
end

section
/-! PROOFS. The halves of a 64-bit register that holds WK fields (O37). -/
namespace Sys2Proof.Machine

/-- Rule set 0, which every initiator is bound to at reset, lets User level write the 64 bytes from AT of time trigger 0 on. -/
def userMayWriteAt : State :=
  (((State.reset.put (F.REGION_BASE_LO 0 0) 0x80010020).put (F.REGION_LAST_LO 0 0) 0x80010020).put (F.REGION_PERM 0 0) 2).putB
    (F.REGION_EN 0 0) true

/-- Refutes O37: AT of a time trigger holds a WK field (R407), so that a write of its low half by an initiator at User level,
which the rule set lets pass, is refused at its target (R7, R459 step 4) and no half is held. -/
theorem not_registersOfSoftware : ¬ Obligations.RegistersOfSoftware := by
  unfold Obligations.RegistersOfSoftware
  intro h
  obtain ⟨_, _, hAt, _⟩ := h (.seq 0) 0 0 0 7 userMayWriteAt (by decide)
  obtain ⟨t, ht, hHeld, _⟩ := (hAt (by decide)).1 (by decide)
  have hExec : exec (.reg64LowWrite (.seq 0) 0x2000400800 7) userMayWriteAt =
      .next (userMayWriteAt.regCommand (.seq 0) .write 0x2000400800 (leBytes 7 4)) := rfl
  have hNone : tabGet? (userMayWriteAt.regCommand (.seq 0) .write 0x2000400800 (leBytes 7 4)).bus.held (F.TTRIG_AT 0) = none := by
    decide
  rw [← Host.Outcome.next.inj (hExec.symm.trans ht)] at hHeld
  cases hNone.symm.trans hHeld

end Sys2Proof.Machine
end

section
/-! PROOFS. Stores of the engines (O7): a core's store at issue and at its target, a line sequencer's loads and stores in its
local memory (R144, R158, R163, R166, R211, R216, R459, R463). -/
namespace Sys2Proof.Machine

/-! ### Bytes of a word (R5) -/

@[simp] theorem leBytes_length (v n : Nat) : (leBytes v n).length = n := by
  induction n generalizing v with
  | zero => rfl
  | succ n ih => simp [leBytes, ih]

/-- Byte `j` of a word, least significant first. -/
theorem leBytes_getD_toNat (v n j : Nat) (h : j < n) : ((leBytes v n).getD j 0).toNat = v / 2 ^ (8 * j) % 256 := by
  induction n generalizing v j with
  | zero => omega
  | succ n ih =>
    cases j with
    | zero => simp [leBytes]
    | succ j =>
      have h1 : (leBytes v (n + 1)).getD (j + 1) 0 = (leBytes (v / 256) n).getD j 0 := by simp [leBytes]
      rw [h1, ih _ _ (by omega), Nat.div_div_eq_div_mul, Nat.mul_succ, Nat.pow_add, Nat.mul_comm 256]

@[simp] theorem cellRead_length (d : Byte) (m : List Host.Cell) (a n : Nat) : (cellRead d m a n).length = n := by
  induction n generalizing a with
  | zero => rfl
  | succ n ih => simp [cellRead, ih]

theorem leNat_lt (bs : List Byte) : leNat bs < 256 ^ bs.length := by
  induction bs with
  | nil => simp [leNat]
  | cons b bs ih =>
    have := b.isLt
    simp only [leNat, List.length_cons, Nat.pow_succ]
    omega

/-! ### A core's store at its target (R163, R166) -/

theorem mem_of_tabGet? {α : Type} {t : Tab α} {k : Nat} {v : α} (h : tabGet? t k = some v) : (k, v) ∈ t := by
  induction t with
  | nil => cases h
  | cons e t ih =>
    obtain ⟨j, w⟩ := e
    unfold tabGet? at h
    split at h
    · next hj => subst hj; cases h; exact List.mem_cons_self ..
    · exact List.mem_cons_of_mem _ (ih h)

/-- Bytes stored one after another into the L2 leave every other address alone. -/
theorem tabGet?_stores_outside (bs : List Byte) (d : Tab Byte) (a b : Nat) (h : b < a ∨ a + bs.length ≤ b) :
    tabGet? (bs.foldl (fun (p : Tab Byte × Nat) b => (tabSet p.1 p.2 b, p.2 + 1)) (d, a)).1 b = tabGet? d b := by
  induction bs generalizing d a with
  | nil => rfl
  | cons v bs ih =>
    simp only [List.length_cons] at h
    exact (ih _ (a + 1) (by omega)).trans (tabGet?_tabSet_ne d a b v (by omega))

theorem tabGet?_stores_inside (bs : List Byte) (d : Tab Byte) (a j : Nat) (h : j < bs.length) :
    tabGet? (bs.foldl (fun (p : Tab Byte × Nat) b => (tabSet p.1 p.2 b, p.2 + 1)) (d, a)).1 (a + j) = some (bs.getD j 0) := by
  induction bs generalizing d a j with
  | nil => simp at h
  | cons v bs ih =>
    cases j with
    | zero => exact (tabGet?_stores_outside bs _ (a + 1) (a + 0) (by omega)).trans (tabGet?_tabSet_same d a v)
    | succ j =>
      have := ih (tabSet d a v) (a + 1) j (by simpa using h)
      rw [show a + (j + 1) = a + 1 + j by omega]
      simpa using this

/-- An address that meets no dirty line is not dirty. -/
theorem State.tabGet?_dirty_of_not_dirtyAt {s : State} {a n j : Nat} (h : s.dirtyAt a n = false) (hj : j < n) :
    tabGet? s.dirty (a + j) = none := by
  cases hd : tabGet? s.dirty (a + j) with
  | none => rfl
  | some v =>
    have := List.any_eq_false.1 h _ (mem_of_tabGet? hd)
    simp only [Bool.and_eq_true, decide_eq_true_eq] at this
    omega

/-- Each byte that a core stores reads as its datum (R163, R166). -/
theorem State.coreWrite_coreByte_inside {s : State} (c a j : Nat) (bs : List Byte) (h : Memory.wf s.mem = true) (hj : j < bs.length) :
    (s.coreWrite c a bs).coreByte (a + j) = bs.getD j 0 := by
  unfold State.coreWrite
  split
  · simp only [State.coreByte, tabGet?_stores_inside bs s.dirty a j hj]
  · next hc =>
    simp only [Bool.or_eq_true, not_or, Bool.not_eq_true] at hc
    have hm : cellGet 0 (cellWrite 0 s.mem a bs) (a + j) = bs.getD j 0 := cellGet_cellWrite_inside a j bs h hj
    simp only [State.coreByte, State.memWrite, State.tabGet?_dirty_of_not_dirtyAt hc.2 hj, hm]

/-- Every other byte reads as before. -/
theorem State.coreWrite_coreByte_outside (s : State) (c a b : Nat) (bs : List Byte) (hb : b < a ∨ a + bs.length ≤ b) :
    (s.coreWrite c a bs).coreByte b = s.coreByte b := by
  unfold State.coreWrite
  split
  · simp only [State.coreByte, tabGet?_stores_outside bs s.dirty a b hb]
  · simp only [State.coreByte, State.memWrite, cellGet_cellWrite_outside 0 s.mem a b bs hb]

@[simp] theorem State.coreWrite_bus (s : State) (c a : Nat) (bs : List Byte) : (s.coreWrite c a bs).bus = s.bus := by
  unfold State.coreWrite; split <;> rfl
@[simp] theorem State.coreWrite_regs (s : State) (c a : Nat) (bs : List Byte) : (s.coreWrite c a bs).regs = s.regs := by
  unfold State.coreWrite; split <;> rfl
@[simp] theorem State.coreWrite_eng (s : State) (c a : Nat) (bs : List Byte) : (s.coreWrite c a bs).eng = s.eng := by
  unfold State.coreWrite; split <;> rfl

/-! ### The oldest access in flight reaches its target (R163, R463, R466) -/

/-- What stands in flight does not bear on the address map. -/
theorem State.mapCheck_inflight (s : State) (q : List Access) (a len : Nat) :
    { s with bus := { s.bus with inflight := q } }.mapCheck a len = s.mapCheck a len := by
  have h : { s with bus := { s.bus with inflight := q } }.firstUnmapped a len = s.firstUnmapped a len := by
    induction len generalizing a with
    | zero => rfl
    | succ n ih => simp only [State.firstUnmapped, ih]; rfl
  unfold State.mapCheck
  rw [h]
  rfl

/-- An access whose tags are current and that reaches no WK field passes its target's check (R459, R463). -/
theorem State.tgtCheck_current {s : State} {x : Access} (hm : s.mapCheck x.addr x.len = none) (ht : s.staleTag x = false)
    (hw : s.wkBad x.src x.kind x.addr x.len = false) : s.tgtCheck x = (true, s) := by
  simp [State.tgtCheck, hm, ht, hw]

/-- A core's write of memory whose tags are current is performed (R163, R466). -/
theorem State.atTarget_coreWrite {s : State} {x : Access} {f : List (Nat × MemFind)} (hk : x.kind = .write) (hc : x.src.id.val < 16)
    (hm : s.mapCheck x.addr x.len = none) (hr : (s.region x.addr).isReg = false) (ht : s.staleTag x = false) :
    s.atTarget x f = (true, s.coreWrite x.src.id.val x.addr x.data) := by
  have hw : s.wkBad x.src x.kind x.addr x.len = false := by simp [State.wkBad, hr]
  unfold State.atTarget
  rw [State.tgtCheck_current hm ht hw]
  simp [State.perform, hr, hk, hc]

theorem State.inOrder_self (s : State) (x : Access) : s.inOrder x x = true := by simp [State.inOrder]

/-- The oldest access in flight, where nothing stalls it, reaches its target. -/
theorem State.reach_zero {s : State} {x : Access} {q : List Access} {f : List (Nat × MemFind)} (hq : s.bus.inflight = x :: q)
    (hs : s.accessStalls x = false) : s.reach 0 f = (s.land 0 f).settleHalt x.src.id.val := by
  have ho : s.oldestOf x = 0 := by simp [State.oldestOf, hq, List.findIdx_cons, State.inOrder_self]
  simp [State.reach, hq, ho, hs]

theorem State.settleHalt_of_none {s : State} {c : Nat} (h : (s.engine c).halting = none) : s.settleHalt c = s := by
  unfold State.settleHalt
  rw [h]

/-- An access that its target performs leaves flight. -/
theorem State.land_performed {s t : State} {j : Nat} {x : Access} {f : List (Nat × MemFind)} (hx : s.bus.inflight[j]? = some x)
    (ht : { s with bus := { s.bus with inflight := s.bus.inflight.eraseIdx j } }.atTarget x f = (true, t)) : s.land j f = t := by
  unfold State.land
  rw [hx]
  dsimp only
  rw [ht]
  rfl

/-- TARGET_CHECK of a core's write of memory performs it and takes it out of flight. -/
theorem State.reach_coreWrite {s : State} {x : Access} {q : List Access} {f : List (Nat × MemFind)} (hq : s.bus.inflight = x :: q)
    (hk : x.kind = .write) (hc : x.src.id.val < 16) (hm : s.mapCheck x.addr x.len = none) (hr : (s.region x.addr).isReg = false)
    (ht : s.staleTag x = false) (hs : s.accessStalls x = false) (hh : (s.engine x.src.id.val).halting = none) :
    s.reach 0 f = { s with bus := { s.bus with inflight := q } }.coreWrite x.src.id.val x.addr x.data := by
  have hl : s.land 0 f = { s with bus := { s.bus with inflight := q } }.coreWrite x.src.id.val x.addr x.data := by
    refine State.land_performed (by rw [hq]; rfl) ?_
    rw [show s.bus.inflight.eraseIdx 0 = q by rw [hq]; rfl]
    exact State.atTarget_coreWrite hk hc ((s.mapCheck_inflight q _ _).trans hm) hr ht
  rw [State.reach_zero hq hs, hl]
  apply State.settleHalt_of_none
  simpa [State.engine] using hh

/-! ### Stores at issue (R144, R158, R211) -/

theorem halting_of_boundary {s : State} {c : Fin 16} {f : MemFind} (h : s.boundary (.core c f) = none) :
    (s.engine c).halting = none := by
  have := coreIssues_of_boundary h
  simp only [State.coreIssues, Bool.and_eq_true, decide_eq_true_eq] at this
  exact this.2

theorem addrCause_none {p w : Nat} (h : p < 2 ^ 40) (ha : p % w = 0) : addrCause p w = none := by
  unfold addrCause
  rw [if_neg (by omega), if_neg (by omega)]

@[simp] theorem State.launchStore_engine (s : State) (k a : Nat) (bytes : List Byte) (word j : Nat) :
    (s.launchStore k a bytes word).engine j = s.engine j := rfl

@[simp] theorem State.retire_engine_same (s : State) (k pc : Nat) :
    (s.retire k pc).engine k = { s.engine k with pc := pc, retired := ((s.engine k).retired + 1) % 2 ^ 64 } := by
  simp [State.retire]

theorem State.retire_engine_ne (s : State) {k j : Nat} (pc : Nat) (h : j ≠ k) : (s.retire k pc).engine j = s.engine j :=
  s.engine_setEngine_ne k j _ h

/-- What passes its initiator's check changes nothing there (R459). -/
theorem State.initCheck_passes {s : State} {src : Src} {k : AccKind} {a len : Nat} (h : (s.initCheck src k a len).1 = true) :
    s.initCheck src k a len = (true, s) := by
  rcases s.initCheck_cases src k a len with he | ⟨hf, _⟩
  · exact he
  · rw [hf] at h; cases h

/-- A store of a core that its checks let pass is put in flight (R158, R163). -/
theorem State.store_core {s : State} {c : Fin 16} {f : MemFind} {p w word : Nat} {v : Dword} (ha : addrCause p w = none)
    (hc : (s.initCheck (s.engSrc c) .write p w).1 = true) :
    s.store (.core c f) p w v word = .next (s.launchStore c p (leBytes v.toNat w) word) := by
  unfold State.store
  dsimp only [Eng.key]
  rw [ha]
  dsimp only
  rw [State.initCheck_passes hc]
  rfl

/-- What a core's store does at issue: one access in flight, and the core goes on. -/
theorem State.storeOp_core {s : State} {c : Fin 16} {maj w : Nat} {d a : Fin 32} {i : BitVec 16} (hb : s.boundary (.core c) = none)
    (hp : s.effAddr c a i < 2 ^ 40) (hw : s.effAddr c a i % w = 0)
    (hc : (s.initCheck (s.engSrc c) .write (s.effAddr c a i) w).1 = true) :
    s.storeOp (.core c) maj d a i w =
      (s.launchStore c (s.effAddr c a i) (leBytes (s.gr c d).toNat w) (wordI maj d a i)).retire c (((s.engine c).pc + 4) % 2 ^ 40) := by
  unfold State.storeOp
  rw [State.issue_of_boundary hb rfl rfl (by simp)]
  dsimp only [Eng.key]
  rw [State.store_core (addrCause_none hp hw) hc]
  exact State.settleHalt_of_none (by simp [Eng.key, halting_of_boundary hb])

theorem localAddr_seq (n o : Nat) : localAddr (16 + n) o = 0x4000 * n + o := by simp [localAddr]

/-- A store of a line sequencer below 0x4000 writes its local memory (R211). -/
theorem State.storeOp_seq {s : State} {n : Fin 48} {maj w : Nat} {d a : Fin 32} {i : BitVec 16} (hb : s.boundary (.seq n) = none)
    (hp : s.effAddr (16 + n) a i < 0x4000) (hw : s.effAddr (16 + n) a i % w = 0) :
    s.storeOp (.seq n) maj d a i w =
      (s.seqWrite (0x4000 * n + s.effAddr (16 + n) a i) (leBytes (s.gr (16 + n) d).toNat w)).retire (16 + n)
        (((s.engine (16 + n)).pc + 4) % 2 ^ 40) := by
  unfold State.storeOp
  rw [State.issue_of_boundary hb rfl rfl (by simp)]
  unfold State.store
  dsimp only [Eng.key]
  rw [addrCause_none (by omega) hw]
  dsimp only
  simp only [hp, localAddr_seq, if_true]
  rfl

/-- A store of a core leaves everything but its own place in flight, PC and RETIRED. -/
theorem State.storeOp_core_spec {s : State} {c : Fin 16} {maj w : Nat} {d a : Fin 32} {i : BitVec 16} (hb : s.boundary (.core c) = none)
    (hp : s.effAddr c a i < 2 ^ 40) (hw : s.effAddr c a i % w = 0)
    (hc : (s.initCheck (s.engSrc c) .write (s.effAddr c a i) w).1 = true) :
    let t := s.storeOp (.core c) maj d a i w
    let x := s.engine c
    { t with bus := s.bus, eng := s.eng } = s ∧ SameBytes s t ∧
      t.engine c = { x with pc := (x.pc + 4) % 2 ^ 40, retired := (x.retired + 1) % 2 ^ 64 } ∧
      (∀ j, j ≠ c.val → t.engine j = s.engine j) ∧
      ∃ y : Access, t.bus = { s.bus with inflight := s.bus.inflight ++ [y] } ∧ y.src = s.engSrc c ∧ y.kind = .write ∧
        y.addr = s.effAddr c a i ∧ y.len = w ∧ y.data.length = w ∧
        (∀ j, j < w → (y.data.getD j 0).toNat = (s.gr c d).toNat / 2 ^ (8 * j) % 256) ∧
        y.set = s.setOf (s.engSrc c).id ∧ y.epoch = s.epochOf y.set ∧ y.pc = x.pc := by
  intro t x
  have ht : t = _ := State.storeOp_core hb hp hw hc
  rw [ht]
  exact ⟨rfl, fun _ => ⟨rfl, rfl, rfl⟩, State.retire_engine_same .., fun j hj => State.retire_engine_ne _ _ hj,
    _, rfl, rfl, rfl, rfl, leBytes_length .., leBytes_length .., fun j hj => leBytes_getD_toNat _ _ _ hj, rfl, rfl, rfl⟩

theorem State.gr_retire (s : State) (k pc r : Nat) : (s.retire k pc).gr k r = s.gr k r := by simp [State.gr]

/-- A store of a line sequencer below 0x4000 changes its own bytes of its local memory alone (R211, R216). -/
theorem State.storeOp_seq_spec {s : State} {n : Fin 48} {maj w : Nat} {d a : Fin 32} {i : BitVec 16} (hb : s.boundary (.seq n) = none)
    (hm : Memory.wf s.seqMem = true) (hp : s.effAddr (16 + n) a i < 0x4000) (hw : s.effAddr (16 + n) a i % w = 0) :
    let t := s.storeOp (.seq n) maj d a i w
    let p := s.effAddr (16 + n) a i
    (∀ j, j < w → (cellGet 0 t.seqMem (0x4000 * n + (p + j))).toNat = (s.gr (16 + n) d).toNat / 2 ^ (8 * j) % 256) ∧
      (∀ q, q < 0x4000 * n + p ∨ 0x4000 * n + (p + w) ≤ q → cellGet 0 t.seqMem q = cellGet 0 s.seqMem q) ∧
      { t with seqMem := s.seqMem, seqBad := s.seqBad, eng := s.eng } = s ∧
      (∀ b, b ∈ t.seqBad ↔ b ∈ s.seqBad ∧ ¬(0x4000 * n + p ≤ 4 * b ∧ 4 * b + 4 ≤ 0x4000 * n + (p + w))) ∧
      ∀ r, t.gr (16 + n) r = s.gr (16 + n) r := by
  intro t p
  have ht : t = _ := State.storeOp_seq hb hp hw
  rw [ht]
  refine ⟨fun j hj => ?_, fun q hq => ?_, rfl, fun b => ?_, fun r => State.gr_retire ..⟩
  · rw [← Nat.add_assoc]
    exact (congrArg BitVec.toNat (cellGet_cellWrite_inside _ j _ hm (by simpa using hj))).trans (leBytes_getD_toNat _ _ _ hj)
  · exact cellGet_cellWrite_outside _ _ _ _ _ (by simpa [Nat.add_assoc] using hq)
  · exact List.mem_filter.trans (and_congr_right fun _ => by simp [p, Nat.add_assoc]; omega)

/-! ### Loads of a line sequencer (R211, R216) -/

/-- A load of a line sequencer below 0x4000 is one of its local memory (R211, R216). -/
theorem State.loadOp_seq {s : State} {n : Fin 48} {maj w : Nat} {d a : Fin 32} {i : BitVec 16} {signed : Bool} {f : MemFind}
    (hb : s.boundary (.seq n) = none) (hp : s.effAddr (16 + n) a i < 0x4000) (hw : s.effAddr (16 + n) a i % w = 0) :
    s.loadOp (.seq n) maj d a i w signed f =
      State.conclude (.seq n) (wordI maj d a i) (s.loadLocal (16 + n) d (s.effAddr (16 + n) a i) w signed f) := by
  unfold State.loadOp
  rw [State.issue_of_boundary hb rfl rfl (by simp)]
  unfold State.load
  dsimp only [Eng.key]
  rw [addrCause_none (by omega) hw]
  simp only [hp, if_true]

/-- None of the words that a read of `w` bytes of a local memory meets has an uncorrectable error (R216). -/
theorem State.seqBadAt_eq_false {s : State} {at_ w : Nat} :
    s.seqBadAt at_ w = false ↔ ∀ b ∈ s.seqBad, b < at_ / 4 ∨ (at_ + w - 1) / 4 < b := by
  simp only [State.seqBadAt, List.any_eq_false, Bool.and_eq_true, decide_eq_true_eq]
  exact forall₂_congr fun b _ => by omega

/-- Such a load writes the bytes, extended, into D and does nothing else. -/
theorem State.loadOp_seq_wrote {s : State} {n : Fin 48} {maj w : Nat} {d a : Fin 32} {i : BitVec 16} {signed : Bool} {v : Dword}
    (hb : s.boundary (.seq n) = none) (hp : s.effAddr (16 + n) a i < 0x4000) (hw : s.effAddr (16 + n) a i % w = 0)
    (hg : s.seqBadAt (0x4000 * n + s.effAddr (16 + n) a i) w = false)
    (hv : loadExt signed w (leNat (cellRead 0 s.seqMem (0x4000 * n + s.effAddr (16 + n) a i) w)) = v) :
    s.loadOp (.seq n) maj d a i w signed .clean = s.wrote (.seq n) d v := by
  subst hv
  rw [State.loadOp_seq hb hp hw, State.loadLocal]
  simp only [State.seqFind, localAddr_seq, hg, Bool.false_eq_true, if_false, State.conclude, State.settleEng, Eng.key, State.retire,
    State.setGr, State.engine_setEngine_same, State.setEngine_setEngine, State.wrote, Engine.setG_pc, Engine.setG_retired]

/-- With an error in one of the words it raises MEM_ERROR, on the state that its own finding leaves. -/
theorem State.loadOp_seq_error {s : State} {n : Fin 48} {maj w : Nat} {d a : Fin 32} {i : BitVec 16} {signed : Bool} {f : MemFind}
    (hb : s.boundary (.seq n) = none) (hp : s.effAddr (16 + n) a i < 0x4000) (hw : s.effAddr (16 + n) a i % w = 0)
    (hg : (s.seqFind (0x4000 * n + s.effAddr (16 + n) a i) f).seqBadAt (0x4000 * n + s.effAddr (16 + n) a i) w = true) :
    s.loadOp (.seq n) maj d a i w signed f = (s.seqFind (0x4000 * n + s.effAddr (16 + n) a i) f).raiseCause (.seq n) 10
      (some (s.effAddr (16 + n) a i)) (wordI maj d a i) := by
  rw [State.loadOp_seq hb hp hw, State.loadLocal]
  simp only [localAddr_seq, hg, if_true, State.conclude, State.settleEng]

/-- An unsigned load takes the bytes as they are. -/
theorem loadExt_cellRead (m : List Host.Cell) (a w : Nat) :
    loadExt false w (leNat (cellRead 0 m a w)) = BitVec.ofNat 64 (leNat (cellRead 0 m a w)) := by
  have h : leNat (cellRead 0 m a w) < 2 ^ (8 * w) := by
    rw [Nat.pow_mul]
    simpa using leNat_lt (cellRead 0 m a w)
  rw [loadExt, if_neg (by simp), Nat.mod_eq_of_lt h]

theorem loadExt_signed (m : Nat) : loadExt true 4 m = (BitVec.ofNat 32 m).signExtend 64 := by
  have h : sint (8 * 4) m = (BitVec.ofNat 32 m).toInt := by
    rw [BitVec.toInt_eq_toNat_cond, BitVec.toNat_ofNat]
    simp only [sint]
    split <;> split <;> omega
  simp [loadExt, h, BitVec.signExtend]

theorem LogOnly.seqBad {s t : State} (h : LogOnly s t) : t.seqBad = s.seqBad := by obtain ⟨_, _, rfl, _⟩ := h; rfl

theorem State.seqRec_logOnly (s : State) (cls n a2 code : Nat) : LogOnly s (s.seqRec cls n a2 code) := s.raise_logOnly ..

/-- A fault of a line sequencer takes its cause, and the errors of the local memories stay (R215, R216). -/
theorem State.seqFault_spec (s : State) (n : Fin 48) (cause a : Nat) (hc : cause < 256) :
    (s.seqFault n cause (some a)).get (F.SEQN_FAULT_CAUSE n) = cause ∧ (s.seqFault n cause (some a)).seqBad = s.seqBad := by
  have hk : ∀ n : Fin 48, (F.SEQN_FAULT_CAUSE n).key / 0x100000 ≠ 21 ∧ isCtxOwn (F.SEQN_FAULT_CAUSE n).key = false := by decide
  obtain ⟨h21, hctx⟩ := hk n
  unfold State.seqFault State.seqFaultAt
  dsimp only
  refine ⟨((State.seqRec_logOnly ..).get _ h21 hctx).trans ?_, (State.seqRec_logOnly ..).seqBad.trans rfl⟩
  rw [State.get_put_ne _ (F.SEQN_STATE n) _ _ (by simp [F.SEQN_FAULT_CAUSE, F.SEQN_STATE]) hctx, State.setEngine_get,
    State.get_put_ne _ (F.SEQN_FADDR_HI n) _ _ (by simp [F.SEQN_FAULT_CAUSE, F.SEQN_FADDR_HI]) hctx,
    State.get_put_ne _ (F.SEQN_FADDR_LO n) _ _ (by simp [F.SEQN_FAULT_CAUSE, F.SEQN_FADDR_LO]) hctx,
    State.get_put_disj _ (F.SEQN_FAULT_FPC n) (F.SEQN_FAULT_CAUSE n) _ (by simp [F.SEQN_FAULT_FPC]) rfl
      (by simp [F.SEQN_FAULT_CAUSE, F.SEQN_FAULT_FPC]),
    State.get_put_same _ _ _ (by simp [F.SEQN_FAULT_CAUSE])]
  exact Nat.mod_eq_of_lt hc

/-- An uncorrectable error that a read finds is among those of the local memories, and bars that read (R216). -/
theorem State.mem_seqFind_ue (s : State) (at_ : Nat) : at_ / 4 ∈ (s.seqFind at_ .ue).seqBad := by
  simp only [State.seqFind]
  split
  · next h => exact List.contains_iff_mem.1 h
  · exact List.mem_cons_self ..

theorem State.seqBadAt_of_mem {s : State} {at_ w : Nat} (h : at_ / 4 ∈ s.seqBad) (hw : 0 < w) : s.seqBadAt at_ w = true := by
  by_contra hf
  have := State.seqBadAt_eq_false.1 (Bool.not_eq_true _ ▸ hf) _ h
  omega

/-- Settles O7: a core's store by what it puts in flight and by what its target performs, a line sequencer's loads and stores
by its local memory. -/
theorem storesWaitForTheirTarget : Obligations.StoresWaitForTheirTarget := by
  unfold Obligations.StoresWaitForTheirTarget
  refine ⟨fun c d a i s hb => ?_, fun x q f s hq hk hc hm hr ht hs hl _ hwf hh => ?_, fun n d a i s hb hwf => ?_⟩
  · intro p x does
    have hdoes : ∀ n maj w, exec n s = .next (s.storeOp (.core c) maj d a i w) → does n w :=
      fun n maj w hn hp hw hc => ⟨_, hn, State.storeOp_core_spec hb hp hw hc⟩
    exact ⟨hdoes _ _ _ rfl, hdoes _ _ _ rfl, hdoes _ _ _ rfl, hdoes _ _ _ rfl⟩
  · refine ⟨_, congrArg Host.Outcome.next (State.reach_coreWrite hq hk hc hm hr ht hs hh), fun j hj => ?_, fun b hb => ?_, ?_, ?_, ?_⟩
    · exact State.coreWrite_coreByte_inside _ _ _ _ hwf (by omega)
    · exact State.coreWrite_coreByte_outside _ _ _ _ _ (by omega)
    · simp
    · simp
    · simp
  · intro e p at_ m stores good
    have hgood : ∀ w, good w ↔ s.seqBadAt (at_ p) w = false := fun w => State.seqBadAt_eq_false.symm
    have hstores : ∀ c maj w, exec c s = .next (s.storeOp e maj d a i w) → stores c w :=
      fun c maj w hn hp hw => ⟨_, hn, State.storeOp_seq_spec hb hwf hp hw⟩
    refine ⟨fun hp hw hg => ?_, fun hp hw hg => ?_, fun hp hw => ?_, fun hp hw hg => ?_, fun hp hg => ?_, hstores _ _ _ rfl,
      hstores _ _ _ rfl, hstores _ _ _ rfl, hstores _ _ _ rfl⟩
    · exact congrArg Host.Outcome.next (State.loadOp_seq_wrote hb hp hw ((hgood 8).1 hg) (loadExt_cellRead ..))
    · have hbad : s.seqBadAt (at_ p) 8 = true := by simpa [hgood] using hg
      exact ⟨_, congrArg Host.Outcome.next (State.loadOp_seq_error (f := .clean) hb hp hw hbad)⟩
    · have hmem := s.mem_seqFind_ue (at_ p)
      obtain ⟨hcause, hbad⟩ := (s.seqFind (at_ p) .ue).seqFault_spec n 10 p (by decide)
      exact ⟨_, congrArg Host.Outcome.next (State.loadOp_seq_error hb hp hw (State.seqBadAt_of_mem hmem (by decide))), hcause,
        hbad ▸ hmem⟩
    · exact congrArg Host.Outcome.next (State.loadOp_seq_wrote hb hp hw ((hgood 4).1 hg) (loadExt_signed _))
    · exact congrArg Host.Outcome.next (State.loadOp_seq_wrote hb hp (Nat.mod_one _) ((hgood 1).1 hg) (loadExt_cellRead ..))

end Sys2Proof.Machine
end

section
/-! Every command answers a next state (O1, O58), and what JTAG_HALT does not fetch (O60). -/
namespace Sys2Proof.Machine

/-- None of the commands stops the machine. -/
theorem exec_answers (c : Instr) (s : State) : ∃ t, exec c s = .next t := by
  cases c
  case maintenanceStart t ch op dur => cases op <;> exact ⟨_, rfl⟩
  all_goals exact ⟨_, rfl⟩

/-- Settles O1: a step is `exec` of the command in front, and every arm of `exec` answers a next state. -/
theorem frontCommandRuns : Obligations.FrontCommandRuns := by
  unfold Obligations.FrontCommandRuns
  refine ⟨fun c q s => rfl, fun s h => ⟨s.advance 1, ?_, rfl, rfl, rfl, fun a => ⟨rfl, rfl, rfl⟩⟩, exec_answers⟩
  simp [step, h]

/-- Settles O58: the arm of each event is its own operation after `advance`; only that of MAINTENANCE_START goes by its operand. -/
theorem everyEventCompletes : Obligations.EveryEventCompletes := by
  unfold Obligations.EveryEventCompletes
  intro t s z
  refine ⟨?_, ?_, ?_, ?_, ?_, ?_, ?_, ?_, ?_, ?_, ?_, ?_, ?maintenance, ?_⟩
  case maintenance => intro ch op dur; cases op <;> rfl
  all_goals and_intros
  all_goals intros; and_intros
  all_goals rfl

/-- Sequencer 0 after reset, RUNNING at address 0. -/
def sequencerRuns : State := State.reset.put (F.SEQN_STATE 0) 1

/-- Refutes O60: JTAG_HALT stands among the instructions, but it fetches nothing, so that it neither counts nor logs what a
fetch finds. With a corrected error in the word at the PC of sequencer 0 the count of R216 stays 0, where it is 1 after the
fetch. -/
theorem not_instructionsAfterAFinding : ¬ Obligations.InstructionsAfterAFinding := by
  unfold Obligations.InstructionsAfterAFinding
  intro h
  have hall := h (.seq 0 (.ce 0)) 0 0 0 0 0 0 .clean false 0 0 0 0 sequencerRuns rfl rfl
  have hhalt : exec (.jtagHalt (.seq 0 (.ce 0))) sequencerRuns = exec (.jtagHalt (.seq 0)) (sequencerRuns.fetched (.seq 0 (.ce 0))) :=
    Option.some.inj (congrArg (fun l => l[111]?) hall)
  have hstate : sequencerRuns.jtagHalt 16 = (sequencerRuns.fetched (.seq 0 (.ce 0))).jtagHalt 16 := Host.Outcome.next.inj hhalt
  exact absurd (congrArg (fun t => t.reg F.SEQ_ECC_CE.key) hstate) (by decide)

end Sys2Proof.Machine
end

section
/-! The memories keep their form under every command (O56): for each operation of the model, either that it leaves the four
memories as they are (`…_mems`) or that it leaves them in form (`…_memsOk`). -/
namespace Sys2Proof.Machine

/-- The memories whose form is kept: memory, the local memories, the flash and the dirty bytes of the L2. -/
def State.mems (s : State) : List Host.Cell × List Host.Cell × List Host.Cell × Tab Byte := (s.mem, s.seqMem, s.flash, s.dirty)

/-- Their form: `State.memoriesOk` of a state with these memories. -/
def MemsOk (m : List Host.Cell × List Host.Cell × List Host.Cell × Tab Byte) : Prop :=
  (Memory.wf m.1 && Memory.wf m.2.1 && cellsWf 0xFF m.2.2.1 && rising m.2.2.2) = true

theorem State.memsOk_iff {s : State} : MemsOk s.mems ↔ s.memoriesOk = true := Iff.rfl

@[simp] theorem State.mems_mk (pending regs mem poison dirty bus log time rose chk eng tbs glin units heads wins vigil scaler fuses flash
    power sensors ledger test ctxs pipes intake sess encAt net servo sides lanes panels seqMem seqBad trigOut free) :
    State.mems ⟨pending, regs, mem, poison, dirty, bus, log, time, rose, chk, eng, tbs, glin, units, heads, wins, vigil, scaler, fuses,
      flash, power, sensors, ledger, test, ctxs, pipes, intake, sess, encAt, net, servo, sides, lanes, panels, seqMem, seqBad, trigOut,
      free⟩ = (mem, seqMem, flash, dirty) := (rfl)

/-- Four memories of one state are its memories. -/
@[simp] theorem State.mems_eta (s : State) : (s.mem, s.seqMem, s.flash, s.dirty) = s.mems := (rfl)

@[simp] theorem State.mems_ite {c : Prop} [Decidable c] (s t : State) : (if c then s else t).mems = if c then s.mems else t.mems :=
  apply_ite _ _ _ _
@[simp] theorem State.mems_snd_ite {α : Type} {c : Prop} [Decidable c] (p q : α × State) :
    (if c then p else q).2.mems = if c then p.2.mems else q.2.mems := apply_ite (fun p : α × State => p.2.mems) _ _ _
@[simp] theorem memsOk_ite {c : Prop} [Decidable c] (m n) : MemsOk (if c then m else n) ↔ if c then MemsOk m else MemsOk n := by
  split <;> rfl

theorem memsOk_parts (m f l : List Host.Cell) (d : Tab Byte) :
    MemsOk (m, l, f, d) ↔ cellsWf 0 m = true ∧ cellsWf 0 l = true ∧ cellsWf 0xFF f = true ∧ rising d = true := by
  simp [MemsOk, Memory.wf, and_assoc]

theorem State.mems_ite_eq {c : Prop} [Decidable c] {s t u : State} (hs : s.mems = u.mems) (ht : t.mems = u.mems) :
    (if c then s else t).mems = u.mems := by
  split <;> assumption

theorem MemsOk.ite {c : Prop} [Decidable c] {s t : State} (hs : MemsOk s.mems) (ht : MemsOk t.mems) : MemsOk (if c then s else t).mems := by
  split <;> assumption

@[simp] theorem State.mems_foldl {α : Type} (f : State → α → State) (h : ∀ s a, (f s a).mems = s.mems) (l : List α) (s : State) :
    (l.foldl f s).mems = s.mems := by
  induction l generalizing s with
  | nil => rfl
  | cons a l ih => exact (ih _).trans (h s a)

@[simp] theorem MemsOk.foldl {α : Type} (f : State → α → State) (h : ∀ s a, MemsOk s.mems → MemsOk (f s a).mems) (l : List α) {s : State}
    (hs : MemsOk s.mems) : MemsOk (l.foldl f s).mems := by
  induction l generalizing s with
  | nil => exact hs
  | cons a l ih => exact ih (h s a hs)

@[simp] theorem State.mems_foldl_snd {α β : Type} (f : β × State → α → β × State) (h : ∀ p a, (f p a).2.mems = p.2.mems) (l : List α)
    (p : β × State) : (l.foldl f p).2.mems = p.2.mems := by
  induction l generalizing p with
  | nil => rfl
  | cons a l ih => exact (ih _).trans (h p a)

@[simp] theorem MemsOk.foldl_snd {α β : Type} (f : β × State → α → β × State) (h : ∀ p a, MemsOk p.2.mems → MemsOk (f p a).2.mems)
    (l : List α) {p : β × State} (hp : MemsOk p.2.mems) : MemsOk (l.foldl f p).2.mems := by
  induction l generalizing p with
  | nil => exact hp
  | cons a l ih => exact ih (h p a hp)

/-- The memories of the state that an operation answers beside a result. -/
theorem State.mems_of_eq {α : Type} {p : α × State} {a : α} {t : State} (h : p = (a, t)) : t.mems = p.2.mems := by rw [h]
theorem State.mems_of_eq₂ {α β : Type} {p : α × β × State} {a : α} {b : β} {t : State} (h : p = (a, b, t)) : t.mems = p.2.2.mems := by rw [h]

/-- The state that an instruction leaves. -/
def Act.state : Act → State
  | .next s => s
  | .goto _ s => s
  | .hold s => s
  | .cause _ _ s => s

@[simp] theorem Act.state_next (s : State) : (Act.next s).state = s := (rfl)
@[simp] theorem Act.state_goto (pc : Nat) (s : State) : (Act.goto pc s).state = s := (rfl)
@[simp] theorem Act.state_hold (s : State) : (Act.hold s).state = s := (rfl)
@[simp] theorem Act.state_cause (c : Nat) (a : Option Nat) (s : State) : (Act.cause c a s).state = s := (rfl)
@[simp] theorem Act.state_mems_ite {c : Prop} [Decidable c] (s t : Act) :
    (if c then s else t).state.mems = if c then s.state.mems else t.state.mems := apply_ite (fun a : Act => a.state.mems) _ _ _

@[simp] theorem State.setReg_mems (s : State) (k : Nat) (w : Word) : (s.setReg k w).mems = s.mems := (rfl)
@[simp] theorem State.put_mems (s : State) (f : Fld) (v : Nat) : (s.put f v).mems = s.mems := (rfl)
@[simp] theorem State.putB_mems (s : State) (f : Fld) (b : Bool) : (s.putB f b).mems = s.mems := (rfl)
@[simp] theorem State.putBit_mems (s : State) (f : Fld) (i : Nat) (b : Bool) : (s.putBit f i b).mems = s.mems := (rfl)
@[simp] theorem State.put64_mems (s : State) (key v : Nat) : (s.put64 key v).mems = s.mems := (rfl)
@[simp] theorem State.putI_mems (s : State) (f : Fld) (v : Int) : (s.putI f v).mems = s.mems := (rfl)
@[simp] theorem State.bump_mems (s : State) (f : Fld) : (s.bump f).mems = s.mems := (rfl)
@[simp] theorem State.setEngine_mems (s : State) (k : Nat) (e : Engine) : (s.setEngine k e).mems = s.mems := (rfl)
@[simp] theorem State.advance_mems (s : State) (t : Nat) : (s.advance t).mems = s.mems := (rfl)
theorem LogOnly.mems {s t : State} (h : LogOnly s t) : t.mems = s.mems := by obtain ⟨_, _, rfl, _⟩ := h; rfl
theorem RegsOnly.mems {s t : State} (h : RegsOnly s t) : t.mems = s.mems := by obtain ⟨_, _, rfl⟩ := h; rfl

@[simp] theorem State.raise_mems (s : State) (cls a1 a2 detail : Nat) (lim : Option Nat) : (s.raise cls a1 a2 detail lim).mems = s.mems :=
  (s.raise_logOnly ..).mems
@[simp] theorem State.refuse_mems (s : State) (cls : Nat) (src : Src) (k : AccKind) (a bad len set e : Nat) :
    (s.refuse cls src k a bad len set e).mems = s.mems := (s.refuse_regsOnly ..).mems
@[simp] theorem State.initCheck_mems (s : State) (src : Src) (k : AccKind) (a len : Nat) : (s.initCheck src k a len).2.mems = s.mems :=
  (s.initCheck_regsOnly ..).mems
@[simp] theorem State.tgtCheck_mems (s : State) (x : Access) : (s.tgtCheck x).2.mems = s.mems := (s.tgtCheck_regsOnly x).mems
@[simp] theorem State.unitRead_mems (s : State) (src : Src) (a n : Nat) : (s.unitRead src a n).2.mems = s.mems :=
  (s.unitRead_regsOnly ..).mems

@[simp] theorem State.setRegs_mems (s : State) (key : Nat) (ws : List Word) : (s.setRegs key ws).mems = s.mems := by
  induction ws generalizing s key with
  | nil => rfl
  | cons w ws ih => exact ih ..

@[simp] theorem State.freeBytes_mems (s : State) (n : Nat) : (s.freeBytes n).2.mems = s.mems := by
  induction n generalizing s with
  | zero => rfl
  | succ n ih => exact ih _

@[simp] theorem State.memWrite_memsOk (s : State) (a : Nat) (bs : List Byte) (h : MemsOk s.mems) : MemsOk (s.memWrite a bs).mems :=
  State.memsOk_iff.2 (State.memWrite_memoriesOk a bs (State.memsOk_iff.1 h))
@[simp] theorem State.cleanLine_memsOk (s : State) (a : Nat) (h : MemsOk s.mems) : MemsOk (s.cleanLine a).mems :=
  State.memsOk_iff.2 (State.cleanLine_memoriesOk a (State.memsOk_iff.1 h))
@[simp] theorem State.cleanRange_memsOk (s : State) (lo hi : Nat) (h : MemsOk s.mems) : MemsOk (s.cleanRange lo hi).mems :=
  State.memsOk_iff.2 (State.cleanRange_memoriesOk lo hi (State.memsOk_iff.1 h))
@[simp] theorem State.dropLines_memsOk (s : State) (a n : Nat) (h : MemsOk s.mems) :
    MemsOk (s.mem, s.seqMem, s.flash, dropLines s.dirty a n) :=
  State.memsOk_iff.2 (State.dropDirty_memoriesOk a n (State.memsOk_iff.1 h))
@[simp] theorem State.coreWrite_memsOk (s : State) (c a : Nat) (bs : List Byte) (h : MemsOk s.mems) : MemsOk (s.coreWrite c a bs).mems :=
  State.memsOk_iff.2 (State.coreWrite_memoriesOk c a bs (State.memsOk_iff.1 h))
@[simp] theorem State.unitPut_memsOk (s : State) (src : Src) (a : Nat) (bs : List Byte) (h : MemsOk s.mems) :
    MemsOk (s.unitPut src a bs).mems :=
  State.memsOk_iff.2 (State.unitPut_memoriesOk src a bs (State.memsOk_iff.1 h))
@[simp] theorem State.unitWrite_memsOk (s : State) (src : Src) (a : Nat) (bs : List Byte) (h : MemsOk s.mems) :
    MemsOk (s.unitWrite src a bs).2.mems :=
  State.memsOk_iff.2 (State.unitWrite_memoriesOk src a bs (State.memsOk_iff.1 h))
@[simp] theorem State.ringPost_memsOk (s : State) (src : Src) (k : Nat) (e : List Byte) (h : MemsOk s.mems) :
    MemsOk (s.ringPost src k e).2.mems :=
  State.memsOk_iff.2 (State.ringPost_memoriesOk src k e (State.memsOk_iff.1 h))
@[simp] theorem State.asWrite_memsOk {w : Nat} (s : State) (i : Initiator) (key : Nat) (v : BitVec w) (f : State → State)
    (h : MemsOk s.mems) (hf : ∀ t : State, MemsOk t.mems → MemsOk (f t).mems) : MemsOk (s.asWrite i key v f).mems :=
  State.memsOk_iff.2 (State.asWrite_memoriesOk i key v f (State.memsOk_iff.1 h) (by simpa only [State.memsOk_iff] using hf))

@[simp] theorem State.eccCe_mems (s : State) (a ini : Nat) (bit : BitVec 8) : (s.eccCe a ini bit).mems = s.mems := by
  simp [State.eccCe]
@[simp] theorem State.eccUe_mems (s : State) (a ini : Nat) : (s.eccUe a ini).mems = s.mems := by
  simp [State.eccUe]

@[simp] theorem State.applyFind_memsOk (s : State) (a ini : Nat) (f : MemFind) (h : MemsOk s.mems) :
    MemsOk (s.applyFind a ini f).mems := by
  unfold State.applyFind
  split <;> simp [h]

@[simp] theorem State.applyFinds_memsOk (s : State) (a n ini : Nat) (fs : List (Nat × MemFind)) (h : MemsOk s.mems) :
    MemsOk (s.applyFinds a n ini fs).mems := by
  unfold State.applyFinds
  exact MemsOk.foldl _ (fun t f ht => t.applyFind_memsOk _ _ _ ht) _ h

/-! #### Registers -/

@[simp] theorem State.bumpN_mems (s : State) (f : Fld) (n : Nat) : (s.bumpN f n).mems = s.mems := by
  simp [State.bumpN]

/-! #### Time -/

@[simp] theorem State.freeVal_mems (s : State) (w : Nat) : (s.freeVal w).2.mems = s.mems := by
  simp [State.freeVal]

/-! #### Memory, ECC and the L2 -/

@[simp] theorem State.transferCheck_mems (s : State) (src : Src) (k : AccKind) (a n : Nat) :
    (s.transferCheck src k a n).2.mems = s.mems := by
  simp [State.transferCheck]

/-! #### Rings -/

@[simp] theorem State.ringUpdate_mems (s : State) (k : Nat) : (s.ringUpdate k).mems = s.mems := by
  unfold State.ringUpdate
  split <;> simp

@[simp] theorem State.ringRefuse_mems (s : State) (k code : Nat) : (s.ringRefuse k code).mems = s.mems := by
  simp [State.ringRefuse]

@[simp] theorem State.ringTake_mems (s : State) (src : Src) (k : Nat) : (s.ringTake src k).2.2.mems = s.mems := by
  unfold State.ringTake
  split
  · simp
  split
  · simp
  split
  · simp
  · dsimp only
    split <;> next heq => simp [State.mems_of_eq heq]

@[simp] theorem State.ringBell_mems (s : State) (k v : Nat) (side : Bool) : (s.ringBell k v side).2.mems = s.mems := by
  simp [State.ringBell]

/-! #### Units, spans and masters -/

@[simp] theorem State.setTb_mems (s : State) (h : Nat) (b : Timebase) : (s.setTb h b).mems = s.mems := by
  simp [State.setTb]

@[simp] theorem State.setUnit_mems (s : State) (u : Nat) (x : CommitUnit) : (s.setUnit u x).mems = s.mems := by
  simp [State.setUnit]

@[simp] theorem State.setWin_mems (s : State) (w : Nat) (x : Win) : (s.setWin w x).mems = s.mems := by
  simp [State.setWin]

@[simp] theorem State.setHead_mems (s : State) (h : Nat) (x : Head) : (s.setHead h x).mems = s.mems := by
  simp [State.setHead]

/-! #### Records -/

@[simp] theorem State.headRec_mems (s : State) (cls h code : Nat) : (s.headRec cls h code).mems = s.mems := by
  simp [State.headRec]

@[simp] theorem State.spanRec_mems (s : State) (cls sp code : Nat) : (s.spanRec cls sp code).mems = s.mems := by
  simp [State.spanRec]

/-! #### Commit requests -/

@[simp] theorem State.markLate_mems (s : State) (u : Nat) : (s.markLate u).mems = s.mems := by
  simp [State.markLate]

@[simp] theorem State.seal_mems (s : State) (u : Nat) : (s.seal u).mems = s.mems := by
  simp [State.seal]

/-! #### Genlock -/

@[simp] theorem State.planPhase_mems (s : State) (h : Nat) (e : Int) : (s.planPhase h e).mems = s.mems := by
  simp [State.planPhase]

@[simp] theorem State.takeFallback_mems (s : State) (h : Nat) : (s.takeFallback h).mems = s.mems := by
  simp [State.takeFallback]

@[simp] theorem State.toHoldover_mems (s : State) (h : Nat) : (s.toHoldover h).mems = s.mems := by
  simp [State.toHoldover]

@[simp] theorem State.rateOut_mems (s : State) (h : Nat) (off : Int) : (s.rateOut h off).mems = s.mems := by
  simp [State.rateOut]

@[simp] theorem State.acquirePulse_mems (s : State) (h : Nat) : (s.acquirePulse h).mems = s.mems := by
  unfold State.acquirePulse
  dsimp only
  split <;> simp

@[simp] theorem State.acceptPulse_mems (s : State) (h k : Nat) (step : Bool) : (s.acceptPulse h k step).mems = s.mems := by
  simp [State.acceptPulse]

@[simp] theorem State.rejectPulse_mems (s : State) (h : Nat) : (s.rejectPulse h).mems = s.mems := by
  simp [State.rejectPulse]

@[simp] theorem State.tbPulse_mems (s : State) (h : Nat) (virt : Bool) : (s.tbPulse h virt).mems = s.mems := by
  simp [State.tbPulse]

@[simp] theorem State.genlockPulse_mems (s : State) (n width : Nat) : (s.genlockPulse n width).mems = s.mems := by
  unfold State.genlockPulse
  dsimp only
  (repeat' split) <;> simp

@[simp] theorem State.pulseMissing_mems (s : State) (h : Nat) : (s.pulseMissing h).mems = s.mems := by
  simp [State.pulseMissing]

@[simp] theorem State.genlockLost_mems (s : State) (h : Nat) : (s.genlockLost h).mems = s.mems := by
  simp [State.genlockLost]

@[simp] theorem State.virtualPulse_mems (s : State) (h : Nat) : (s.virtualPulse h).mems = s.mems := by
  simp [State.virtualPulse]

/-! #### Frame starts of a timebase -/

@[simp] theorem State.takeRef_mems (s : State) (h : Nat) : (s.takeRef h).mems = s.mems := by
  unfold State.takeRef
  dsimp only
  (repeat' split) <;> simp

@[simp] theorem State.takeTiming_mems (s : State) (h : Nat) : (s.takeTiming h).mems = s.mems := by
  simp [State.takeTiming]

@[simp] theorem State.frameRate_mems (s : State) (h : Nat) : (s.frameRate h).mems = s.mems := by
  simp [State.frameRate]

@[simp] theorem State.beginLine_mems (s : State) (h at_ t64 f : Nat) : (s.beginLine h at_ t64 f).mems = s.mems := by
  simp [State.beginLine]

@[simp] theorem State.tbFrameStart_mems (s : State) (h : Nat) : (s.tbFrameStart h).1.mems = s.mems := by
  simp [State.tbFrameStart]

@[simp] theorem State.tbLineStart_mems (s : State) (h : Nat) : (s.tbLineStart h).mems = s.mems := by
  simp [State.tbLineStart]

/-! #### Maintenance -/

@[simp] theorem State.setMode_mems (s : State) (m : Nat) : (s.setMode m).mems = s.mems := by
  simp [State.setMode]

@[simp] theorem State.updDegraded_mems (s : State) : (s.updDegraded).mems = s.mems := by
  simp [State.updDegraded]

/-! #### In-service test -/

@[simp] theorem State.endTest_mems (s : State) (result detail : Nat) : (s.endTest result detail).mems = s.mems := by
  unfold State.endTest
  split <;> simp

@[simp] theorem State.countService_mems (s : State) : (s.countService).mems = s.mems := by
  simp [State.countService]

@[simp] theorem State.untest_mems (s : State) (u : Nat) : (s.untest u).mems = s.mems := by
  unfold State.untest
  split <;> simp

@[simp] theorem State.stopTest_mems (s : State) : (s.stopTest).mems = s.mems := by
  unfold State.stopTest
  split <;> simp

@[simp] theorem State.updMode_mems (s : State) : (s.updMode).mems = s.mems := by
  simp [State.updMode]

@[simp] theorem State.abortTest_mems (s : State) : (s.abortTest).mems = s.mems := by
  simp [State.abortTest]

@[simp] theorem State.enterMode_mems (s : State) (m : Nat) : (s.enterMode m).mems = s.mems := by
  simp [State.enterMode]

/-! #### Pacing of load steps -/

@[simp] theorem State.worked_mems (s : State) (u : Nat) : (s.worked u).mems = s.mems := by
  simp [State.worked]

@[simp] theorem State.wakeAdmit_mems (s : State) (lane : Bool) (u : Nat) : (s.wakeAdmit lane u).mems = s.mems := by
  simp [State.wakeAdmit]

/-! #### Wick tags and surfaces -/

@[simp] theorem State.checkSentinels_mems (s : State) (src : Src) (t : Tag) : (s.checkSentinels src t).2.mems = s.mems := by
  simp [State.checkSentinels]

@[simp] theorem State.openSurface_memsOk (s : State) (src : Src) (t : Tag) (hm : MemsOk s.mems) :
    MemsOk (s.openSurface src t).mems := by
  simp [State.openSurface, hm]

@[simp] theorem State.closeSurface_memsOk (s : State) (src : Src) (t : Tag) (tagAt : Nat) (hm : MemsOk s.mems) :
    MemsOk (s.closeSurface src t tagAt).mems := by
  unfold State.closeSurface
  exact State.unitWrite_memsOk _ _ _ _ (State.unitWrite_memsOk _ _ _ _ (s.unitWrite_memsOk _ _ _ hm))

@[simp] theorem State.writeRows_memsOk (s : State) (src : Src) (a pitch : Nat) (rows : List (List Byte)) (hm : MemsOk s.mems) :
    MemsOk (s.writeRows src a pitch rows).mems := by
  induction rows generalizing s a with
  | nil => exact hm
  | cons r rs ih => exact ih _ _ (s.unitWrite_memsOk src a r hm)

/-! #### Which picture a window shows -/

@[simp] theorem State.choose_mems (s : State) (ws : List Word) (cur : Option Latched) (t0 : Nat) :
    (s.choose ws cur t0).2.mems = s.mems := by
  unfold State.choose
  refine State.mems_foldl_snd _ (fun p a => ?_) _ _
  split <;> next heq => simp [State.mems_of_eq heq]

@[simp] theorem State.vigilRec_mems (s : State) (cls w h line v r : Nat) : (s.vigilRec cls w h line v r).mems = s.mems := by
  simp [State.vigilRec]

@[simp] theorem State.latchTag_mems (s : State) (w h : Nat) (l : Latched) : (s.latchTag w h l).mems = s.mems := by
  simp [State.latchTag]

/-! #### The apply -/

@[simp] theorem State.applyWin_mems (s : State) (u t0 w : Nat) : (s.applyWin u t0 w).mems = s.mems := by
  unfold State.applyWin
  dsimp only
  (repeat' split) <;> simp

@[simp] theorem State.refuseBank_mems (s : State) (u code h w : Nat) : (s.refuseBank u code h w).mems = s.mems := by
  simp [State.refuseBank]

@[simp] theorem State.countSnuffed_mems (s : State) (h : Nat) : (s.countSnuffed h).mems = s.mems := by
  simp [State.countSnuffed]

@[simp] theorem State.applyBank_mems (s : State) (u t0 : Nat) : (s.applyBank u t0).mems = s.mems := by
  unfold State.applyBank
  split <;> simp

@[simp] theorem State.applyAtOnce_mems (s : State) (u : Nat) : (s.applyAtOnce u).mems = s.mems := by
  simp [State.applyAtOnce]

@[simp] theorem State.applyPoint_mems (s : State) (u : Nat) : (s.applyPoint u).mems = s.mems := by
  simp [State.applyPoint]

@[simp] theorem State.commitReq_mems (s : State) (u : Nat) : (s.commitReq u).2.mems = s.mems := by
  simp [State.commitReq]

/-! #### `place` -/

@[simp] theorem State.placeRefused_mems (s : State) (recAt u h code : Nat) : (s.placeRefused recAt u h code).mems = s.mems := by
  simp [State.placeRefused]

@[simp] theorem State.rasterAbsent_mems (s : State) (recAt h code : Nat) : (s.rasterAbsent recAt h code).mems = s.mems := by
  simp [State.rasterAbsent]

@[simp] theorem State.placeInto_mems (s : State) (u w h a b recAt : Nat) : (s.placeInto u w h a b recAt).2.mems = s.mems := by
  simp [State.placeInto]

@[simp] theorem State.place_mems (s : State) (own : Option Nat) (recAt a b : Nat) : (s.place own recAt a b).2.mems = s.mems := by
  unfold State.place
  dsimp only
  (repeat' split) <;> simp

@[simp] theorem State.writeDescriptor_mems (s : State) (w k : Nat) (v : Word) : (s.writeDescriptor w k v).mems = s.mems := by
  unfold State.writeDescriptor
  dsimp only
  split <;> simp

/-! #### Fetch and widening -/

@[simp] theorem State.chromaRow_mems (s : State) (src : Src) (f : Surf) (j lo hi : Nat) :
    (s.chromaRow src f j lo hi).2.mems = s.mems := by
  unfold State.chromaRow
  dsimp only
  split <;> next heq => simp [State.mems_of_eq heq]

@[simp] theorem State.fetchRow_mems (s : State) (src : Src) (f : Surf) (lo hi r : Nat) :
    (s.fetchRow src f lo hi r).2.mems = s.mems := by
  unfold State.fetchRow
  dsimp only
  split
  · next heq => simp [State.mems_of_eq heq]
  · next bs s₁ h₁ =>
    split
    · simp [State.mems_of_eq h₁]
    split
    · next h₂ => simp [State.mems_of_eq h₂, State.mems_of_eq h₁]
    · next c s₂ h₂ => split <;> next h₃ => simp [State.mems_of_eq h₃, State.mems_of_eq h₂, State.mems_of_eq h₁]

/-! #### Scaling -/

@[simp] theorem State.hRows_mems (s : State) (src : Src) (f : Surf) (set cx cw dw : Nat) (rows : List Nat) :
    (s.hRows src f set cx cw dw rows).2.mems = s.mems := by
  induction rows generalizing s with
  | nil => rfl
  | cons r rs ih =>
    unfold State.hRows
    dsimp only
    split
    · next h₁ => simp [State.mems_of_eq h₁]
    · next h₁ => split <;> next h₂ => simp [State.mems_of_eq h₂, ih, State.mems_of_eq h₁]

@[simp] theorem State.scaledLine_mems (s : State) (src : Src) (f : Surf) (hset vset cx cy cw ch dw dh y : Nat) :
    (s.scaledLine src f hset vset cx cy cw ch dw dh y).2.mems = s.mems := by
  have e : @State.scaledLine = @State.scaledLine := rfl
  conv at e => lhs; delta State.scaledLine
  have eq := congr_fun₃ (congr_fun₃ (congr_fun₃ (congr_fun₃ e s src f) hset vset cx) cy cw ch) dw dh y
  beta_reduce at eq
  rw [← eq]
  split
  extract_lets row ts
  split <;> next h => exact (State.mems_of_eq h).trans (State.hRows_mems ..)

/-! #### Layers and blending -/

@[simp] theorem State.surfLayer_mems (s : State) (src : Src) (ws : List Word) (f : Surf) (transfer y : Nat) :
    (s.surfLayer src ws f transfer y).2.mems = s.mems := by
  have e : @State.surfLayer = @State.surfLayer := rfl
  conv at e => lhs; delta State.surfLayer
  have eq := congr_fun₃ (congr_fun₃ e s src ws) f transfer y
  beta_reduce at eq
  rw [← eq]
  split <;> next h => exact (State.mems_of_eq h).trans (State.scaledLine_mems ..)

@[simp] theorem State.tagLayer_mems (s : State) (src : Src) (ws : List Word) (l : Latched) (y : Nat) :
    (s.tagLayer src ws l y).2.2.mems = s.mems := by
  have e : @State.tagLayer = @State.tagLayer := rfl
  conv at e => lhs; delta State.tagLayer
  have eq := congr_fun₂ (congr_fun₃ e s src ws) l y
  beta_reduce at eq
  rw [← eq]
  extract_lets t
  split
  · rfl
  · split <;> next h => exact (State.checkSentinels_mems ..).trans ((State.mems_of_eq h).trans (State.surfLayer_mems ..))

/-! #### A line of a head -/

@[simp] theorem State.ownLayer_mems (s : State) (src : Src) (w : Nat) (ws : List Word) (v treat y : Nat) :
    (s.ownLayer src w ws v treat y).2.mems = s.mems := by
  unfold State.ownLayer
  split
  · split <;> next heq => simp [State.mems_of_eq heq]
  · rfl
  · split <;> simp

@[simp] theorem State.composeLayer_mems (s : State) (src : Src) (w : Nat) (ws : List Word) (y : Nat) :
    (s.composeLayer src w ws y).2.mems = s.mems := by
  unfold State.composeLayer
  dsimp only
  (repeat' split) <;> simp

@[simp] theorem State.fetchLayers_mems (s : State) (src : Src) (y : Nat) (es : List (Nat × List Word)) :
    (s.fetchLayers src y es).2.mems = s.mems := by
  induction es generalizing s with
  | nil => rfl
  | cons e r ih => simp [State.fetchLayers, ih]

@[simp] theorem State.logPaths_mems (s : State) (h y : Nat) (ls : List Layer) : (s.logPaths h y ls).mems = s.mems := by
  simp [State.logPaths]

@[simp] theorem State.composeLine_mems (s : State) (h y fs : Nat) : (s.composeLine h y fs).mems = s.mems := by
  simp [State.composeLine]

@[simp] theorem State.composeNext_mems (s : State) (h : Nat) : (s.composeNext h).mems = s.mems := by
  simp [State.composeNext]

@[simp] theorem State.underrun_mems (s : State) (h : Nat) (ws : List Nat) : (s.underrun h ws).mems = s.mems := by
  simp [State.underrun]

/-! #### Coefficient sets -/

@[simp] theorem State.wrCoefLoad_mems (s : State) (v : Word) : (s.wrCoefLoad v).mems = s.mems := by
  simp [State.wrCoefLoad]

@[simp] theorem State.takeStage_mems (s : State) (k : Nat) (i : Nat) : (s.takeStage k i).mems = s.mems := by
  induction i with
  | zero => rfl
  | succ i ih => simp [State.takeStage, ih]

@[simp] theorem State.coefLoadDone_mems (s : State) : (s.coefLoadDone).mems = s.mems := by
  unfold State.coefLoadDone
  dsimp only
  (repeat' split) <;> simp

/-! #### Copy sets -/

@[simp] theorem State.wrCopyCtl_mems (s : State) (k : Nat) (v : Word) : (s.wrCopyCtl k v).mems = s.mems := by
  simp [State.wrCopyCtl]

/-! #### Copy jobs -/

@[simp] theorem State.dropCopy_mems (s : State) (k : Nat) : (s.dropCopy k).mems = s.mems := by
  simp [State.dropCopy]

@[simp] theorem State.queueCopies_mems (s : State) (c : Nat) (l : Latched) : (s.queueCopies c l).mems = s.mems := by
  simp [State.queueCopies]

@[simp] theorem State.copyStart_memsOk (s : State) (n : Nat) (hm : MemsOk s.mems) : MemsOk (s.copyStart n).mems := by
  unfold State.copyStart
  split
  · exact hm
  split
  · exact hm
  dsimp only
  split
  · simp [hm]
  split
  · simp [hm]
  split
  · simp [hm]
  · exact State.openSurface_memsOk _ _ _ hm

@[simp] theorem State.readRows_mems (s : State) (src : Src) (a pitch n : Nat) (cnt : Nat) :
    (s.readRows src a pitch n cnt).2.mems = s.mems := by
  induction cnt generalizing s a with
  | zero => rfl
  | succ cnt ih =>
    unfold State.readRows
    split
    · next h₁ => simp [State.mems_of_eq h₁]
    · next h₁ => split <;> next h₂ => simp [State.mems_of_eq h₂, ih, State.mems_of_eq h₁]

@[simp] theorem State.copyPixels_memsOk (s : State) (j : CopyJob) (t o : Tag) (hm : MemsOk s.mems) :
    MemsOk (s.copyPixels j t o).2.mems := by
  unfold State.copyPixels
  dsimp only
  split
  · next h₁ => simp [State.mems_of_eq h₁, hm]
  · next h₁ =>
    split
    · split <;> next h₂ => simp [State.mems_of_eq h₂, State.mems_of_eq h₁, hm]
    · simp [State.mems_of_eq h₁, hm]

@[simp] theorem State.copyDone_memsOk (s : State) (n : Nat) (hm : MemsOk s.mems) : MemsOk (s.copyDone n).mems := by
  unfold State.copyDone
  split <;> simp [hm]

@[simp] theorem State.stopCore_mems (s : State) (c st : Nat) : (s.stopCore c st).mems = s.mems := by
  simp [State.stopCore]

@[simp] theorem State.stopInto_mems (s : State) (c st : Nat) : (s.stopInto c st).mems = s.mems := by
  simp [State.stopInto]

@[simp] theorem State.haltInto_mems (s : State) (c st : Nat) : (s.haltInto c st).mems = s.mems := by
  simp [State.haltInto]

@[simp] theorem State.haltCore_mems (s : State) (c : Nat) : (s.haltCore c).mems = s.mems := by
  simp [State.haltCore]

@[simp] theorem State.settleHalt_mems (s : State) (c : Nat) : (s.settleHalt c).mems = s.mems := by
  unfold State.settleHalt
  split <;> simp

@[simp] theorem State.haltSeq_mems (s : State) (n : Nat) : (s.haltSeq n).mems = s.mems := by
  simp [State.haltSeq]

@[simp] theorem State.haltEngines_mems (s : State) : (s.haltEngines).mems = s.mems := by
  simp [State.haltEngines]

/-! #### Records -/

@[simp] theorem State.timeRec_mems (s : State) (cls code a2 : Nat) (lim : Option Nat) : (s.timeRec cls code a2 lim).mems = s.mems := by
  simp [State.timeRec]

@[simp] theorem State.portRec_mems (s : State) (cls p code : Nat) (lim : Option Nat) : (s.portRec cls p code lim).mems = s.mems := by
  simp [State.portRec]

@[simp] theorem State.frameRec_mems (s : State) (cls p code : Nat) (lim : Option Nat) : (s.frameRec cls p code lim).mems = s.mems := by
  simp [State.frameRec]

/-! #### Lengths and checksums of a frame -/

@[simp] theorem State.template_mems (s : State) (src : Src) (at_ : Nat) : (s.template src at_).2.mems = s.mems := by
  unfold State.template
  split <;> next heq => simp [State.mems_of_eq heq]

/-! #### Transmit queues -/

@[simp] theorem State.txDone_memsOk (s : State) (cookie p status epoch ts : Nat) (hm : MemsOk s.mems) :
    MemsOk (s.txDone cookie p status epoch ts).mems := by
  simp [State.txDone, hm]

@[simp] theorem State.frameLost_memsOk (s : State) (p : Nat) (f : TxFrame) (hm : MemsOk s.mems) : MemsOk (s.frameLost p f).mems := by
  unfold State.frameLost
  split <;> simp [hm]

@[simp] theorem State.enqueue_memsOk (s : State) (p : Nat) (f : TxFrame) (hm : MemsOk s.mems) : MemsOk (s.enqueue p f).mems := by
  simp [State.enqueue, hm]

@[simp] theorem State.flushPort_memsOk (s : State) (p : Nat) (hm : MemsOk s.mems) : MemsOk (s.flushPort p).mems := by
  unfold State.flushPort
  exact MemsOk.foldl _ (fun s f hs => by simp [hs]) _ (by simpa using hm)

@[simp] theorem State.ethTx_memsOk (s : State) (p : Nat) (hm : MemsOk s.mems) : MemsOk (s.ethTx p).mems := by
  unfold State.ethTx
  split
  · exact hm
  split
  · exact hm
  dsimp only
  split
  · split <;> simp [hm]
  · split <;> simp [hm]
  · simp [hm]

/-! #### Host entries -/

@[simp] theorem State.hostEntry_memsOk (s : State) (hm : MemsOk s.mems) : MemsOk (s.hostEntry).mems := by
  unfold State.hostEntry
  split
  · exact hm
  dsimp only
  split
  · simp [hm]
  split
  · next h₁ =>
    have ht := State.mems_of_eq₂ h₁
    refine MemsOk.ite (by simp [ht, hm]) (MemsOk.ite (by simp [ht, hm]) ?_)
    split <;> next h₂ => simp [State.mems_of_eq h₂, ht, hm]
  · next h₁ => simp [State.mems_of_eq₂ h₁, hm]

/-! #### Port and management configuration -/

@[simp] theorem State.portStop_memsOk (s : State) (p : Nat) (hm : MemsOk s.mems) : MemsOk (s.portStop p).mems := by
  simp [State.portStop, hm]

@[simp] theorem State.wrPortCfg_memsOk (s : State) (p : Nat) (v : Word) (hm : MemsOk s.mems) : MemsOk (s.wrPortCfg p v).mems := by
  simp [State.wrPortCfg, hm]

@[simp] theorem State.wrPortMac_mems (s : State) (p : Nat) (hi : Bool) (v : Word) : (s.wrPortMac p hi v).mems = s.mems := by
  simp [State.wrPortMac]

@[simp] theorem State.portComesUp_mems (s : State) (p : Nat) : (s.portComesUp p).mems = s.mems := by
  simp [State.portComesUp]

@[simp] theorem State.portGoesDown_memsOk (s : State) (p code : Nat) (hm : MemsOk s.mems) : MemsOk (s.portGoesDown p code).mems := by
  unfold State.portGoesDown
  (repeat' split) <;> simp [hm]

@[simp] theorem State.wrMgmtCfg_memsOk (s : State) (v : Word) (hm : MemsOk s.mems) : MemsOk (s.wrMgmtCfg v).mems := by
  simp [State.wrMgmtCfg, hm]

@[simp] theorem State.wrMdio_mems (s : State) (v : Word) : (s.wrMdio v).mems = s.mems := by
  simp [State.wrMdio]

@[simp] theorem State.mdioDone_mems (s : State) (data : BitVec 16) : (s.mdioDone data).mems = s.mems := by
  simp [State.mdioDone]

/-! #### Reception up to the filter -/

@[simp] theorem State.portBump_mems (s : State) (p : Nat) (f : Nat → Fld) : (s.portBump p f).mems = s.mems := by
  simp [State.portBump]

@[simp] theorem State.fecBad_mems (s : State) (p : Nat) : (s.fecBad p).mems = s.mems := by
  simp [State.fecBad]

@[simp] theorem State.macReceive_mems (s : State) (p : Nat) (fcsOk : Bool) (b : List Byte) :
    (s.macReceive p fcsOk b).2.mems = s.mems := by
  simp [State.macReceive]

/-! #### Contexts -/

@[simp] theorem State.setCtx_mems (s : State) (c : Nat) (x : Ctx) : (s.setCtx c x).mems = s.mems := by
  simp [State.setCtx]

/-! #### Records -/

@[simp] theorem State.ctxRec_mems (s : State) (cls c code : Nat) (a2 : Nat) (port : Nat) (lim : Option Nat) :
    (s.ctxRec cls c code a2 port lim).mems = s.mems := by
  simp [State.ctxRec]

@[simp] theorem State.jobRec_mems (s : State) (cls c p code : Nat) (a2 : Nat) (port : Nat) (lim : Option Nat) :
    (s.jobRec cls c p code a2 port lim).mems = s.mems := by
  simp [State.jobRec]

@[simp] theorem State.lostRec_mems (s : State) (c p : Nat) (a : Au) : (s.lostRec c p a).mems = s.mems := by
  simp [State.lostRec]

@[simp] theorem State.pipeRec_mems (s : State) (cls p c code : Nat) : (s.pipeRec cls p c code).mems = s.mems := by
  simp [State.pipeRec]

@[simp] theorem State.freeBuf_mems (s : State) (b : Nat) : (s.freeBuf b).mems = s.mems := by
  simp [State.freeBuf]

@[simp] theorem State.freeHeld_mems (s : State) (c : Nat) : (s.freeHeld c).mems = s.mems := by
  unfold State.freeHeld
  exact State.mems_foldl _ (fun _ _ => State.freeBuf_mems ..) _ _

@[simp] theorem State.ctxRefuse_mems (s : State) (c p code port : Nat) (lim : Option Nat) :
    (s.ctxRefuse c p code port lim).mems = s.mems := by
  simp [State.ctxRefuse]

@[simp] theorem State.toWaitRap_mems (s : State) (c : Nat) : (s.toWaitRap c).mems = s.mems := by
  simp [State.toWaitRap]

/-! #### Capture time -/

@[simp] theorem State.setAnchor_mems (s : State) (c ts t : Nat) (port : Nat) : (s.setAnchor c ts t port).mems = s.mems := by
  simp [State.setAnchor]

@[simp] theorem State.anchorWrite_mems (s : State) (c t : Nat) : (s.anchorWrite c t).mems = s.mems := by
  simp [State.anchorWrite]

/-! #### Audio sides and playout buffers -/

@[simp] theorem State.setSide_mems (s : State) (k : Nat) (x : Side) : (s.setSide k x).mems = s.mems := by
  simp [State.setSide]

@[simp] theorem State.overrun_mems (s : State) (c : Nat) (e : Nat × Reader) : (s.overrun c e).mems = s.mems := by
  simp [State.overrun]

@[simp] theorem State.placeFrame_memsOk (s : State) (c q : Nat) (f : List Nat) (hm : MemsOk s.mems) :
    MemsOk (s.placeFrame c q f).mems := by
  simp [State.placeFrame, hm]

@[simp] theorem State.placeFrames_memsOk (s : State) (c q : Nat) (fs : List (List Nat)) (hm : MemsOk s.mems) :
    MemsOk (s.placeFrames c q fs).mems := by
  induction fs generalizing s q with
  | nil => exact hm
  | cons f fs ih => exact ih _ _ (s.placeFrame_memsOk c q f hm)

@[simp] theorem State.startReaders_mems (s : State) (c p : Nat) : (s.startReaders c p).mems = s.mems := by
  simp [State.startReaders]

@[simp] theorem State.audioPacket_memsOk (s : State) (c : Nat) (k : RxPkt) (hm : MemsOk s.mems) : MemsOk (s.audioPacket c k).mems := by
  simp [State.audioPacket, hm]

/-! #### 64-bit registers -/

@[simp] theorem State.holdLow_mems (s : State) (key : Nat) (v : Word) : (s.holdLow key v).mems = s.mems := by
  simp [State.holdLow]

@[simp] theorem State.joinHigh_mems (s : State) (key : Nat) (v : Word) : (s.joinHigh key v).2.mems = s.mems := by
  simp [State.joinHigh]

@[simp] theorem State.dropLow_mems (s : State) (key : Nat) : (s.dropLow key).mems = s.mems := by
  simp [State.dropLow]

/-! #### Requests to encode sessions -/

@[simp] theorem State.setSes_mems (s : State) (v : Nat) (x : Sess) : (s.setSes v x).mems = s.mems := by
  simp [State.setSes]

@[simp] theorem State.keyRequest_mems (s : State) (v by_ : Nat) : (s.keyRequest v by_).mems = s.mems := by
  simp [State.keyRequest]

/-! #### Records -/

@[simp] theorem State.encRecOn_mems (s : State) (cls v p code : Nat) (lim : Option Nat) :
    (s.encRecOn cls v p code lim).mems = s.mems := by
  simp [State.encRecOn]

@[simp] theorem State.encRec_mems (s : State) (cls v code : Nat) (lim : Option Nat) : (s.encRec cls v code lim).mems = s.mems := by
  simp [State.encRec]

/-! #### Enabling and fields -/

@[simp] theorem State.sessEnable_mems (s : State) (v : Nat) : (s.sessEnable v).mems = s.mems := by
  simp [State.sessEnable]

@[simp] theorem State.setEpipeAt_mems (s : State) (p : Nat) : (s.setEpipeAt p).mems = s.mems := by
  simp [State.setEpipeAt]

@[simp] theorem State.epipeState_mems (s : State) (p : Nat) : (s.epipeState p).mems = s.mems := by
  simp [State.epipeState]

@[simp] theorem State.epipeStates_mems (s : State) : (s.epipeStates).mems = s.mems := by
  simp [State.epipeStates]

@[simp] theorem State.sessDisable_mems (s : State) (v : Nat) : (s.sessDisable v).mems = s.mems := by
  simp [State.sessDisable]

@[simp] theorem State.wrSess_mems (s : State) (v k : Nat) (x : Word) : (s.wrSess v k x).mems = s.mems := by
  simp [State.wrSess]

/-! #### Abandoning a picture -/

@[simp] theorem State.encAbandonNo_mems (s : State) (v i code : Nat) : (s.encAbandonNo v i code).mems = s.mems := by
  simp [State.encAbandonNo]

@[simp] theorem State.encAbandon_mems (s : State) (v code : Nat) : (s.encAbandon v code).mems = s.mems := by
  unfold State.encAbandon
  split <;> simp

@[simp] theorem State.encAbandonOn_mems (s : State) (v p code : Nat) : (s.encAbandonOn v p code).mems = s.mems := by
  simp [State.encAbandonOn]

@[simp] theorem State.encHeadStop_mems (s : State) (v : Nat) : (s.encHeadStop v).mems = s.mems := by
  simp [State.encHeadStop]

@[simp] theorem State.encCtxStop_mems (s : State) (c : Nat) : (s.encCtxStop c).mems = s.mems := by
  simp [State.encCtxStop]

/-! #### Frame and line starts of a virtual head -/

@[simp] theorem State.encResume_mems (s : State) (v : Nat) : (s.encResume v).mems = s.mems := by
  simp [State.encResume]

@[simp] theorem State.encPlace_mems (s : State) (v : Nat) : (s.encPlace v).mems = s.mems := by
  unfold State.encPlace
  split <;> simp

@[simp] theorem State.encBegin_mems (s : State) (v : Nat) : (s.encBegin v).mems = s.mems := by
  simp [State.encBegin]

@[simp] theorem State.encFrame_mems (s : State) (v : Nat) : (s.encFrame v).mems = s.mems := by
  simp [State.encFrame]

@[simp] theorem State.encLine_mems (s : State) (v : Nat) (line : List Pix) : (s.encLine v line).mems = s.mems := by
  unfold State.encLine
  dsimp only
  split <;> simp

/-! #### Packetisation -/

@[simp] theorem State.sendOn_memsOk (s : State) (src : Src) (c net hdr : Nat) (rtp : List Byte) (hm : MemsOk s.mems) :
    MemsOk (s.sendOn src c net hdr rtp).2.mems := by
  unfold State.sendOn
  split
  · simp [hm]
  · split <;> next heq => simp [State.mems_of_eq heq, hm]

@[simp] theorem State.sendRtp_memsOk (s : State) (src : Src) (c ts : Nat) (marker : Bool) (t : Nat) (pay : List Byte)
    (hm : MemsOk s.mems) :
    MemsOk (s.sendRtp src c ts marker t pay).mems := by
  simp [State.sendRtp, hm]

@[simp] theorem State.encSend_memsOk (s : State) (v : Nat) (pic : EncPic) (nals : List (List Byte)) (last : Bool) (hm : MemsOk s.mems) :
    MemsOk (s.encSend v pic nals last).mems := by
  unfold State.encSend
  exact MemsOk.foldl _ (fun t e ht => t.sendRtp_memsOk _ _ _ _ _ _ ht) _ hm

/-! #### Rate control -/

@[simp] theorem State.encEnd_mems (s : State) (v : Nat) (p : EncPic) (bud rep wb : Nat) : (s.encEnd v p bud rep wb).mems = s.mems := by
  simp [State.encEnd]

@[simp] theorem State.encRecon_memsOk (s : State) (v : Nat) (p : EncPic) (recon : List Byte) (hm : MemsOk s.mems) :
    MemsOk (s.encRecon v p recon).mems := by
  unfold State.encRecon
  exact MemsOk.foldl _ (fun t i ht => t.unitWrite_memsOk _ _ _ ht) _ (MemsOk.foldl _ (fun t i ht => t.unitWrite_memsOk _ _ _ ht) _ hm)

@[simp] theorem State.encRow_memsOk (s : State) (v : Nat) (row : EncRow) (hm : MemsOk s.mems) : MemsOk (s.encRow v row).mems := by
  unfold State.encRow
  dsimp only
  (repeat' split) <;> simp [hm]

/-! #### Pipes -/

@[simp] theorem State.epipeFail_mems (s : State) (p : Nat) (internal : Bool) : (s.epipeFail p internal).mems = s.mems := by
  simp [State.epipeFail]

@[simp] theorem State.wrEncEn_mems (s : State) (v : Word) : (s.wrEncEn v).mems = s.mems := by
  simp [State.wrEncEn]

/-! #### Packet buffers -/

@[simp] theorem State.takeBuf_mems (s : State) : (s.takeBuf).2.mems = s.mems := by
  simp [State.takeBuf]

@[simp] theorem State.wrBufReturn_mems (s : State) (v : Word) : (s.wrBufReturn v).mems = s.mems := by
  simp [State.wrBufReturn]

@[simp] theorem State.postFrame_memsOk (s : State) (src : Src) (ring : Nat) (frame mid : List Byte) (hm : MemsOk s.mems) :
    MemsOk (s.postFrame src ring frame mid).2.mems := by
  unfold State.postFrame
  dsimp only
  split
  · next heq => simp [State.mems_of_eq heq, hm]
  · next heq => split <;> next heq2 => simp [State.mems_of_eq heq, State.mems_of_eq heq2, hm]

@[simp] theorem State.intakeDrop_mems (s : State) (c p code : Nat) : (s.intakeDrop c p code).mems = s.mems := by
  simp [State.intakeDrop]

@[simp] theorem State.hostPost_memsOk (s : State) (p reason c : Nat) (frame : List Byte) (hm : MemsOk s.mems) :
    MemsOk (s.hostPost p reason c frame).mems := by
  unfold State.hostPost
  dsimp only
  split
  · simp [hm]
  split
  · simp [hm]
  split <;> next h => simp [State.mems_of_eq h, hm]

@[simp] theorem State.timePost_memsOk (s : State) (p : Nat) (frame : List Byte) (hm : MemsOk s.mems) :
    MemsOk (s.timePost p frame).mems := by
  simp [State.timePost, hm]

/-! #### Classification rules -/

@[simp] theorem State.wrRuleCmd_mems (s : State) (v : Word) : (s.wrRuleCmd v).mems = s.mems := by
  simp [State.wrRuleCmd]

@[simp] theorem State.setRules_mems (s : State) (t : Tab (List Word)) : (s.setRules t).mems = s.mems := by
  simp [State.setRules]

@[simp] theorem State.ruleDone_mems (s : State) : (s.ruleDone).mems = s.mems := by
  unfold State.ruleDone
  dsimp only
  (repeat' split) <;> simp

/-! #### Depacketisation -/

@[simp] theorem State.endAu_mems (s : State) (c : Nat) : (s.endAu c).mems = s.mems := by
  unfold State.endAu
  dsimp only
  split <;> simp

@[simp] theorem State.nalUnits_mems (s : State) (c port : Nat) (h265 : Bool) (pay : List Byte) :
    (s.nalUnits c port h265 pay).mems = s.mems := by
  unfold State.nalUnits
  dsimp only
  (repeat' split) <;> simp

@[simp] theorem State.videoPacket_mems (s : State) (c : Nat) (k : RxPkt) : (s.videoPacket c k).mems = s.mems := by
  unfold State.videoPacket
  dsimp only
  (repeat' split) <;> simp

@[simp] theorem State.depacketise_memsOk (s : State) (c : Nat) (k : RxPkt) (hm : MemsOk s.mems) : MemsOk (s.depacketise c k).mems := by
  simp [State.depacketise, hm]

/-! #### The reorder window -/

@[simp] theorem State.release_memsOk (s : State) (c : Nat) (hm : MemsOk s.mems) : MemsOk (s.release c).mems := by
  unfold State.release
  exact MemsOk.foldl _ (fun t k ht => MemsOk.ite (by simp [ht]) (by simp [ht])) _ (by simpa using hm)

@[simp] theorem State.declareLost_mems (s : State) (c : Nat) (gs : List (Nat × Nat)) : (s.declareLost c gs).mems = s.mems := by
  simp [State.declareLost]

@[simp] theorem State.expireByWin_mems (s : State) (c : Nat) : (s.expireByWin c).mems = s.mems := by
  simp [State.expireByWin]

@[simp] theorem State.dropCand_mems (s : State) (c : Nat) : (s.dropCand c).mems = s.mems := by
  unfold State.dropCand
  split <;> simp

@[simp] theorem State.acceptPkt_memsOk (s : State) (c : Nat) (k : RxPkt) (hm : MemsOk s.mems) : MemsOk (s.acceptPkt c k).mems := by
  unfold State.acceptPkt
  split <;> simp [hm]

@[simp] theorem State.restartWindow_mems (s : State) (c : Nat) : (s.restartWindow c).mems = s.mems := by
  simp [State.restartWindow]

@[simp] theorem State.resync_memsOk (s : State) (c : Nat) (k0 k : RxPkt) (hm : MemsOk s.mems) : MemsOk (s.resync c k0 k).mems := by
  simp [State.resync, hm]

@[simp] theorem State.retake_mems (s : State) (c : Nat) (j k : RxPkt) : (s.retake c j k).mems = s.mems := by
  unfold State.retake
  dsimp only
  split <;> simp

@[simp] theorem State.dupPkt_mems (s : State) (c : Nat) (k : RxPkt) : (s.dupPkt c k).mems = s.mems := by
  unfold State.dupPkt
  dsimp only
  (repeat' split) <;> simp

@[simp] theorem State.inWindow_memsOk (s : State) (c : Nat) (k : RxPkt) (h w : Nat) (d : Int) (hm : MemsOk s.mems) :
    MemsOk (s.inWindow c k h w d).mems := by
  simp [State.inWindow, hm]

@[simp] theorem State.expireByHold_memsOk (s : State) (c : Nat) (hm : MemsOk s.mems) : MemsOk (s.expireByHold c).mems := by
  simp [State.expireByHold, hm]

@[simp] theorem State.windowIn_memsOk (s : State) (c : Nat) (k : RxPkt) (hm : MemsOk s.mems) : MemsOk (s.windowIn c k).mems := by
  unfold State.windowIn
  dsimp only
  (repeat' split) <;> simp [hm]

@[simp] theorem State.rtpReject_mems (s : State) (c p buf : Nat) : (s.rtpReject c p buf).mems = s.mems := by
  simp [State.rtpReject]

@[simp] theorem State.rtpIn_memsOk (s : State) (c p buf : Nat) (b : List Byte) (hm : MemsOk s.mems) :
    MemsOk (s.rtpIn c p buf b).mems := by
  simp [State.rtpIn, hm]

/-! #### RTCP -/

@[simp] theorem State.senderReport_mems (s : State) (c p : Nat) (b : List Byte) : (s.senderReport c p b).mems = s.mems := by
  simp [State.senderReport]

@[simp] theorem State.keyFeedback_mems (s : State) (c : Nat) (b : List Byte) : (s.keyFeedback c b).mems = s.mems := by
  simp [State.keyFeedback]

@[simp] theorem State.rtcpIn_mems (s : State) (c p : Nat) (b : List Byte) : (s.rtcpIn c p b).mems = s.mems := by
  simp [State.rtcpIn]

/-! #### Packets of a context -/

@[simp] theorem State.netSeen_mems (s : State) (c net : Nat) : (s.netSeen c net).mems = s.mems := by
  simp [State.netSeen]

@[simp] theorem State.packetIn_memsOk (s : State) (c p net : Nat) (rtcp : Bool) (frame b : List Byte) (hm : MemsOk s.mems) :
    MemsOk (s.packetIn c p net rtcp frame b).mems := by
  unfold State.packetIn
  refine MemsOk.ite (by simp [hm]) ?_
  extract_lets isRtcp s₁
  have h₁ : MemsOk s₁.mems := MemsOk.ite (by simp [hm]) hm
  refine MemsOk.ite h₁ (MemsOk.ite (by simp [h₁]) (MemsOk.ite h₁ ?_))
  split <;> next h => simp [State.mems_of_eq h, h₁]

/-! #### The frame filter -/

@[simp] theorem State.udpIn_memsOk (s : State) (p : Nat) (b : List Byte) (i : IpAt) (hm : MemsOk s.mems) :
    MemsOk (s.udpIn p b i).mems := by
  unfold State.udpIn
  dsimp only
  (repeat' split) <;> simp [hm]

@[simp] theorem State.intakeFrame_memsOk (s : State) (p : Nat) (b : List Byte) (hm : MemsOk s.mems) :
    MemsOk (s.intakeFrame p b).mems := by
  unfold State.intakeFrame
  (repeat' split) <;> simp [hm]

@[simp] theorem State.ethRx_memsOk (s : State) (p : Nat) (fcsOk : Bool) (b : List Byte) (hm : MemsOk s.mems) :
    MemsOk (s.ethRx p fcsOk b).mems := by
  unfold State.ethRx
  split <;> next heq => simp [State.mems_of_eq heq, hm]

/-! #### Losses and silence -/

@[simp] theorem State.gapTimeout_memsOk (s : State) (c : Nat) (hm : MemsOk s.mems) : MemsOk (s.gapTimeout c).mems := by
  simp [State.gapTimeout, hm]

@[simp] theorem State.netSilent_mems (s : State) (c : Nat) (b : Bool) : (s.netSilent c b).mems = s.mems := by
  simp [State.netSilent]

/-! #### Opening -/

@[simp] theorem State.templatesOk_mems (s : State) (c : Nat) : (s.templatesOk c).2.mems = s.mems := by
  simp [State.templatesOk]

@[simp] theorem State.txCode_mems (s : State) (c : Nat) : (s.txCode c).2.mems = s.mems := by
  unfold State.txCode
  split
  · dsimp only
    split
    · rfl
    · split <;> next h => simp [State.mems_of_eq h]
  · rfl
  · rfl

@[simp] theorem State.openCode_mems (s : State) (c : Nat) : (s.openCode c).2.mems = s.mems := by
  unfold State.openCode
  split <;> simp

@[simp] theorem State.ctxOpen_mems (s : State) (c : Nat) : (s.ctxOpen c).mems = s.mems := by
  unfold State.ctxOpen
  split
  · next h =>
    have ht := State.mems_of_eq h
    dsimp only
    split <;> split <;> simp [ht]
  · next h => simp [State.mems_of_eq h]

/-! #### Closing -/

@[simp] theorem State.ctxClose_mems (s : State) (c : Nat) : (s.ctxClose c).mems = s.mems := by
  simp [State.ctxClose]

/-! #### Field writes -/

@[simp] theorem State.writeBits_mems (s : State) (key m : Nat) (v : Word) : (s.writeBits key m v).mems = s.mems := by
  simp [State.writeBits]

@[simp] theorem State.ctxOpenBit_mems (s : State) (c : Nat) (b : Bool) : (s.ctxOpenBit c b).mems = s.mems := by
  simp [State.ctxOpenBit]

@[simp] theorem State.wrCtx_mems (s : State) (c k : Nat) (v : Word) : (s.wrCtx c k v).mems = s.mems := by
  simp [State.wrCtx]

/-! #### Pipes and slots -/

@[simp] theorem State.setPipe_mems (s : State) (p : Nat) (x : Pipe) : (s.setPipe p x).mems = s.mems := by
  simp [State.setPipe]

@[simp] theorem State.markSlot_memsOk (s : State) (src : Src) (kind c j : Nat) (con : Bool) (fmt : Nat) (hm : MemsOk s.mems) :
    MemsOk (s.markSlot src kind c j con fmt).mems := by
  simp [State.markSlot, hm]

@[simp] theorem State.pipeMark_memsOk (s : State) (p : Nat) (hm : MemsOk s.mems) : MemsOk (s.pipeMark p).mems := by
  unfold State.pipeMark
  dsimp only
  split <;> simp [hm]

@[simp] theorem State.takeSlot_memsOk (s : State) (p c : Nat) (hm : MemsOk s.mems) : MemsOk (s.takeSlot p c).mems := by
  unfold State.takeSlot
  split <;> simp [hm]

@[simp] theorem State.pipeRest_mems (s : State) (p : Nat) : (s.pipeRest p).mems = s.mems := by
  simp [State.pipeRest]

@[simp] theorem State.countBusy_mems (s : State) (p : Nat) : (s.countBusy p).mems = s.mems := by
  simp [State.countBusy]

@[simp] theorem State.countPipes_mems (s : State) : (s.countPipes).mems = s.mems := by
  simp [State.countPipes]

@[simp] theorem State.discard_mems (s : State) (p : Nat) : (s.discard p).mems = s.mems := by
  unfold State.discard
  dsimp only
  split <;> simp

@[simp] theorem State.clearJob_mems (s : State) (p : Nat) : (s.clearJob p).mems = s.mems := by
  simp [State.clearJob]

@[simp] theorem State.dropJob_mems (s : State) (p : Nat) : (s.dropJob p).mems = s.mems := by
  simp [State.dropJob]

@[simp] theorem State.feedPset_mems (s : State) (p c : Nat) : (s.feedPset p c).mems = s.mems := by
  unfold State.feedPset
  dsimp only
  (repeat' split) <;> simp

@[simp] theorem State.dispatch_memsOk (s : State) (p : Nat) (fuel : Nat) (hm : MemsOk s.mems) : MemsOk (s.dispatch p fuel).mems := by
  induction fuel generalizing s with
  | zero => exact hm
  | succ fuel ih =>
    unfold State.dispatch
    split
    · exact hm
    split
    · exact hm
    exact MemsOk.ite (ih _ (by simp [hm])) (by simp [hm])

@[simp] theorem State.pipeDispatch_memsOk (s : State) (p : Nat) (hm : MemsOk s.mems) : MemsOk (s.pipeDispatch p).mems := by
  simp [State.pipeDispatch, hm]

@[simp] theorem State.slotExpiry_memsOk (s : State) (p : Nat) (hm : MemsOk s.mems) : MemsOk (s.slotExpiry p).mems := by
  unfold State.slotExpiry
  split <;> simp [hm]

/-! #### Concealment -/

@[simp] theorem State.copyBytes_memsOk (s : State) (p : Nat) (ten : Bool) (a k : Nat) (b : Option (Nat × Bool)) (hm : MemsOk s.mems) :
    MemsOk (s.copyBytes p ten a k b).mems := by
  unfold State.copyBytes
  split
  · simp [hm]
  · split <;> next heq => simp [State.mems_of_eq heq, hm]

@[simp] theorem State.concealArea_memsOk (s : State) (p : Nat) (ten : Bool) (at_ w h : Nat) (from_ : Option (Nat × Nat × Nat × Bool))
    (k : Nat) (hm : MemsOk s.mems) :
    MemsOk (s.concealArea p ten at_ w h from_ k).mems := by
  unfold State.concealArea
  exact MemsOk.foldl _ (fun t r ht => t.copyBytes_memsOk _ _ _ _ _ ht) _
    (MemsOk.foldl _ (fun t r ht => t.copyBytes_memsOk _ _ _ _ _ ht) _ hm)

/-! #### Decoded pictures -/

@[simp] theorem State.outputPic_memsOk (s : State) (p c j : Nat) (hm : MemsOk s.mems) : MemsOk (s.outputPic p c j).mems := by
  unfold State.outputPic
  split <;> simp [hm]

@[simp] theorem State.readRef_mems (s : State) (p c j : Nat) : (s.readRef p c j).2.mems = s.mems := by
  unfold State.readRef
  refine State.mems_foldl_snd _ (fun q r => ?_) _ _
  split <;> next h => simp [State.mems_of_eq h]

@[simp] theorem State.readRefs_mems (s : State) (p c : Nat) (refs : List Nat) : (s.readRefs p c refs).2.mems = s.mems := by
  simp [State.readRefs]

@[simp] theorem State.writePicture_memsOk (s : State) (p c j : Nat) (pic : DecodedPic) (hm : MemsOk s.mems) :
    MemsOk (s.writePicture p c j pic).mems := by
  unfold State.writePicture
  refine MemsOk.foldl _ (fun t k ht => t.concealArea_memsOk _ _ _ _ _ _ _ ht) _ ?_
  exact State.writeRows_memsOk _ _ _ _ _ (State.writeRows_memsOk _ _ _ _ _ (State.openSurface_memsOk _ _ _ (by simpa using hm)))

@[simp] theorem State.picRecords_mems (s : State) (p c a2 : Nat) (a : Au) (pic : DecodedPic) (poison : Bool) :
    (s.picRecords p c a2 a pic poison).mems = s.mems := by
  simp [State.picRecords]

@[simp] theorem State.keepPicture_memsOk (s : State) (p c j : Nat) (a : Au) (pic : DecodedPic) (hm : MemsOk s.mems) :
    MemsOk (s.keepPicture p c j a pic).mems := by
  unfold State.keepPicture
  refine MemsOk.foldl _ (fun t k ht => t.outputPic_memsOk _ _ _ ht) _ ?_
  have h := State.writePicture_memsOk (s.readRefs p c pic.refs).2 p c j pic (by simpa using hm)
  dsimp only
  split <;> simp [h]

@[simp] theorem State.pictureDecoded_memsOk (s : State) (p : Nat) (pic : DecodedPic) (hm : MemsOk s.mems) :
    MemsOk (s.pictureDecoded p pic).mems := by
  unfold State.pictureDecoded
  refine MemsOk.ite hm ?_
  split
  · exact hm
  refine MemsOk.ite (by simp [hm]) ?_
  extract_lets pic' code s₁
  have h₁ : MemsOk s₁.mems := by simp [s₁, hm]
  refine MemsOk.ite (by simp [hm]) (MemsOk.ite (by simp [hm]) ?_)
  split
  · exact h₁
  · exact MemsOk.ite h₁ (by simp [h₁])

@[simp] theorem State.ctxDrained_mems (s : State) (c : Nat) : (s.ctxDrained c).mems = s.mems := by
  unfold State.ctxDrained
  (repeat' split) <;> simp

/-! #### Key-picture requests -/

@[simp] theorem State.keypic_memsOk (s : State) (c : Nat) (hm : MemsOk s.mems) : MemsOk (s.keypic c).mems := by
  unfold State.keypic
  extract_lets x due s₁
  refine MemsOk.ite hm ?_
  split <;> next h => simp [State.mems_of_eq h, s₁, hm]

/-! #### The scheduler -/

@[simp] theorem State.assign_mems (s : State) (c q : Nat) : (s.assign c q).mems = s.mems := by
  simp [State.assign]

@[simp] theorem State.migrate_mems (s : State) : (s.migrate).mems = s.mems := by
  unfold State.migrate
  dsimp only
  (repeat' split) <;> simp

@[simp] theorem State.rateUpdate_mems (s : State) (p more : Nat) : (s.rateUpdate p more).mems = s.mems := by
  simp [State.rateUpdate]

@[simp] theorem State.returnJob_mems (s : State) (p : Nat) : (s.returnJob p).mems = s.mems := by
  unfold State.returnJob
  split <;> simp

@[simp] theorem State.pipeFail_mems (s : State) (p : Nat) (internal : Bool) : (s.pipeFail p internal).mems = s.mems := by
  simp [State.pipeFail]

@[simp] theorem State.wrDecEn_mems (s : State) (v : Word) : (s.wrDecEn v).mems = s.mems := by
  simp [State.wrDecEn]

@[simp] theorem State.setSideState_mems (s : State) (k st : Nat) : (s.setSideState k st).mems = s.mems := by
  simp [State.setSideState]

@[simp] theorem State.sideRec_mems (s : State) (cls k slot code c : Nat) (lim : Option Nat) :
    (s.sideRec cls k slot code c lim).mems = s.mems := by
  simp [State.sideRec]

/-! #### Configuration -/

@[simp] theorem State.txRestart_mems (s : State) (k : Nat) : (s.txRestart k).mems = s.mems := by
  simp [State.txRestart]

@[simp] theorem State.sideStart_mems (s : State) (k : Nat) : (s.sideStart k).mems = s.mems := by
  simp [State.sideStart]

@[simp] theorem State.sideStop_mems (s : State) (k : Nat) : (s.sideStop k).mems = s.mems := by
  simp [State.sideStop]

@[simp] theorem State.wrSideCfg_mems (s : State) (k : Nat) (v : Word) : (s.wrSideCfg k v).mems = s.mems := by
  simp [State.wrSideCfg]

@[simp] theorem State.noteShadow_mems (s : State) (k : Nat) : (s.noteShadow k).mems = s.mems := by
  simp [State.noteShadow]

@[simp] theorem State.wrMask_mems (s : State) (k : Nat) (v : Word) : (s.wrMask k v).mems = s.mems := by
  simp [State.wrMask]

@[simp] theorem State.wrAudio_mems (s : State) (p j : Nat) (v : Word) : (s.wrAudio p j v).mems = s.mems := by
  simp [State.wrAudio]

@[simp] theorem State.audioTrig_mems (s : State) (p : Nat) : (s.audioTrig p).2.mems = s.mems := by
  simp [State.audioTrig]

/-! #### Readers -/

@[simp] theorem State.sourceFrame_mems (s : State) (x : Source) (n : Nat) : (s.sourceFrame x n).2.2.mems = s.mems := by
  unfold State.sourceFrame
  split
  · extract_lets ch y bound code
    split <;> next h => simp [State.mems_of_eq h]
  · rfl
  · rfl

@[simp] theorem State.slip_mems (s : State) (k : Nat) (x : Source) (f : Nat → Nat → Fld) (cls code : Nat) :
    (s.slip k x f cls code).mems = s.mems := by
  unfold State.slip
  cases x <;> simp

@[simp] theorem State.putReader_mems (s : State) (k : Nat) (x : Source) (r : Reader) : (s.putReader k x r).mems = s.mems := by
  simp [State.putReader]

@[simp] theorem State.sendFrame_mems (s : State) (k : Nat) (x : Source) (r : Reader) : (s.sendFrame k x r).2.mems = s.mems := by
  unfold State.sendFrame
  dsimp only
  split <;> simp

@[simp] theorem State.readSource_mems (s : State) (k : Nat) (x : Source) : (s.readSource k x).2.mems = s.mems := by
  unfold State.readSource
  dsimp only
  (repeat' split) <;> simp

@[simp] theorem State.readAll_mems (s : State) (k : Nat) (xs : List Source) : (s.readAll k xs).2.mems = s.mems := by
  induction xs generalizing s with
  | nil => rfl
  | cons x r ih => simp [State.readAll, ih]

/-! #### Frame starts -/

@[simp] theorem State.takeShadow_mems (s : State) (k : Nat) : (s.takeShadow k).mems = s.mems := by
  simp [State.takeShadow]

@[simp] theorem State.txFrame_mems (s : State) (k : Nat) : (s.txFrame k).mems = s.mems := by
  simp [State.txFrame]

@[simp] theorem State.pathOverrun_mems (s : State) (q : Nat) (e : Nat × Side) : (s.pathOverrun q e).mems = s.mems := by
  unfold State.pathOverrun
  split <;> simp

@[simp] theorem State.rxFrame_mems (s : State) (k : Nat) (f : List Nat) : (s.rxFrame k f).mems = s.mems := by
  simp [State.rxFrame]

@[simp] theorem State.audioFrame_mems (s : State) (k : Nat) (f : List Nat) : (s.audioFrame k f).mems = s.mems := by
  simp [State.audioFrame]

/-! #### Clock faults -/

@[simp] theorem State.clockFault_mems (s : State) (k code : Nat) : (s.clockFault k code).mems = s.mems := by
  simp [State.clockFault]

@[simp] theorem State.clockAbsent_mems (s : State) (k : Nat) : (s.clockAbsent k).mems = s.mems := by
  simp [State.clockAbsent]

@[simp] theorem State.rateGate_mems (s : State) (k hz : Nat) : (s.rateGate k hz).mems = s.mems := by
  simp [State.rateGate]

@[simp] theorem State.clockRestored_mems (s : State) (k : Nat) : (s.clockRestored k).mems = s.mems := by
  simp [State.clockRestored]

@[simp] theorem State.audioSampleLost_mems (s : State) : (s.audioSampleLost).mems = s.mems := by
  simp [State.audioSampleLost]

@[simp] theorem State.audioSampleBack_mems (s : State) : (s.audioSampleBack).mems = s.mems := by
  simp [State.audioSampleBack]

/-! #### Packets of audio TX contexts -/

@[simp] theorem State.muteFrames_mems (c k : Nat) (fs : List (List Nat)) (s : State) : (State.muteFrames c k fs s).2.mems = s.mems := by
  induction fs generalizing s with
  | nil => rfl
  | cons f fs ih => simp [State.muteFrames, ih]

@[simp] theorem State.audioTx_memsOk (s : State) (c : Nat) (hm : MemsOk s.mems) : MemsOk (s.audioTx c).mems := by
  unfold State.audioTx
  split <;> simp [hm]

/-! #### HOLDUP -/

@[simp] theorem State.countHoldup_mems (s : State) : (s.countHoldup).mems = s.mems := by
  simp [State.countHoldup]

@[simp] theorem State.setHoldup_mems (s : State) (mv : Nat) : (s.setHoldup mv).mems = s.mems := by
  simp [State.setHoldup]

@[simp] theorem State.recharge_mems (s : State) (load : Nat) : (s.recharge load).mems = s.mems := by
  simp [State.recharge]

/-! #### Records -/

@[simp] theorem State.pwrRec_mems (s : State) (cls rail code : Nat) (lim : Option Nat) (a2 : Nat) :
    (s.pwrRec cls rail code lim a2).mems = s.mems := by
  simp [State.pwrRec]

@[simp] theorem State.heatRec_mems (s : State) (cls sensor code : Nat) (lim : Option Nat) :
    (s.heatRec cls sensor code lim).mems = s.mems := by
  simp [State.heatRec]

/-! #### Loss of the rails, reset -/

@[simp] theorem State.wipe_memsOk (s : State) (hm : MemsOk s.mems) : MemsOk (s.wipe).mems := by
  obtain ⟨_, _, hf, _⟩ := (memsOk_parts ..).1 hm
  exact (memsOk_parts ..).2 ⟨rfl, rfl, hf, rfl⟩

@[simp] theorem State.ledgerCut_mems (s : State) : (s.ledgerCut).mems = s.mems := by
  simp [State.ledgerCut]

@[simp] theorem State.railsOff_memsOk (s : State) (hm : MemsOk s.mems) : MemsOk (s.railsOff).mems := by
  simp [State.railsOff, hm]

@[simp] theorem State.shutdown_memsOk (s : State) (cause : Nat) (hm : MemsOk s.mems) : MemsOk (s.shutdown cause).mems := by
  simp [State.shutdown, hm]

/-! #### Caps and shed levels -/

@[simp] theorem State.updCap_mems (s : State) : (s.updCap).mems = s.mems := by
  simp [State.updCap]

@[simp] theorem State.markDerate_mems (s : State) : (s.markDerate).mems = s.mems := by
  simp [State.markDerate]

@[simp] theorem State.setShed_mems (s : State) (l : Nat) : (s.setShed l).mems = s.mems := by
  simp [State.setShed]

@[simp] theorem State.derate_mems (s : State) : (s.derate).mems = s.mems := by
  simp [State.derate]

/-! #### Orderly stop -/

@[simp] theorem State.orderlyStop_mems (s : State) (cause : Nat) : (s.orderlyStop cause).mems = s.mems := by
  simp [State.orderlyStop]

/-! #### The life ledger -/

@[simp] theorem State.showLedger_mems (s : State) : (s.showLedger).mems = s.mems := by
  simp [State.showLedger]

@[simp] theorem State.lifeEnd_mems (s : State) : (s.lifeEnd).mems = s.mems := by
  simp [State.lifeEnd]

@[simp] theorem State.ledgerSecond_mems (s : State) (mv : Nat) : (s.ledgerSecond mv).mems = s.mems := by
  simp [State.ledgerSecond]

@[simp] theorem State.flashErase_memsOk (s : State) (a n : Nat) (hm : MemsOk s.mems) : MemsOk (s.flashErase a n).mems := by
  obtain ⟨hmem, hseq, hf, hd⟩ := (memsOk_parts ..).1 hm
  exact (memsOk_parts ..).2 ⟨hmem, hseq, cellsWf_filter _ hf, hd⟩

@[simp] theorem State.ledgerWrite_mems (s : State) : (s.ledgerWrite).mems = s.mems := by
  simp [State.ledgerWrite]

@[simp] theorem State.ledgerDone_memsOk (s : State) (ok : Bool) (hm : MemsOk s.mems) : MemsOk (s.ledgerDone ok).mems := by
  unfold State.ledgerDone
  split
  · exact hm
  extract_lets slot base s₁ _ s₂ _ s₃ s₄
  have h₁ : MemsOk s₁.mems := MemsOk.ite hm (s.flashErase_memsOk _ _ hm)
  obtain ⟨hmem, hseq, hf, hd⟩ := (memsOk_parts ..).1 h₁
  have h₃ : MemsOk s₃.mems := (memsOk_parts ..).2 ⟨hmem, hseq, cellsWf_cellWrite _ _ hf, hd⟩
  have h₄ : MemsOk s₄.mems := MemsOk.ite (by simpa using h₃) (by simpa [s₂] using h₁)
  exact MemsOk.ite h₄ (by simp [h₄])

@[simp] theorem State.ledgerHour_mems (s : State) : (s.ledgerHour).mems = s.mems := by
  simp [State.ledgerHour]

@[simp] theorem State.wrLedgerCtrl_mems (s : State) (v : Word) : (s.wrLedgerCtrl v).mems = s.mems := by
  simp [State.wrLedgerCtrl]

@[simp] theorem State.ledgerLoad_mems (s : State) : (s.ledgerLoad).mems = s.mems := by
  have h : ∀ t : State, t.mems = s.mems →
      ({ t with ledger := { t.ledger with eq := max t.ledger.eq (10000 * 3600000 * t.fuses.life) } } : State).showLedger.mems = s.mems :=
    fun t ht => by simp [ht]
  unfold State.ledgerLoad
  refine h _ ?_
  split <;> simp

@[simp] theorem State.pmonMeasure_mems (s : State) (drift : List Int) : (s.pmonMeasure drift).mems = s.mems := by
  simp [State.pmonMeasure]

@[simp] theorem State.stopDone_memsOk (s : State) (hm : MemsOk s.mems) : MemsOk (s.stopDone).mems := by
  unfold State.stopDone
  refine MemsOk.ite hm (State.shutdown_memsOk _ _ (MemsOk.ite hm ?_))
  exact State.ledgerDone_memsOk _ _ (by simp [hm])

/-! #### Supply and start -/

@[simp] theorem State.stepBegins_mems (s : State) : (s.stepBegins).mems = s.mems := by
  simp [State.stepBegins]

@[simp] theorem State.leaveOff_mems (s : State) : (s.leaveOff).mems = s.mems := by
  simp [State.leaveOff]

@[simp] theorem State.vinStart_mems (s : State) (mv : Nat) : (s.vinStart mv).mems = s.mems := by
  simp [State.vinStart]

@[simp] theorem State.inrushEnd_mems (s : State) (us : Nat) : (s.inrushEnd us).mems = s.mems := by
  simp [State.inrushEnd]

@[simp] theorem State.inrushTimeout_memsOk (s : State) (vibOk : Bool) (hm : MemsOk s.mems) : MemsOk (s.inrushTimeout vibOk).mems := by
  simp [State.inrushTimeout, hm]

@[simp] theorem State.stepTimeout_memsOk (s : State) (hm : MemsOk s.mems) : MemsOk (s.stepTimeout).mems := by
  simp [State.stepTimeout, hm]

@[simp] theorem State.warmDone_mems (s : State) : (s.warmDone).mems = s.mems := by
  simp [State.warmDone]

@[simp] theorem State.rideEnter_mems (s : State) : (s.rideEnter).mems = s.mems := by
  simp [State.rideEnter]

@[simp] theorem State.vinWarn_mems (s : State) (mv : Nat) : (s.vinWarn mv).mems = s.mems := by
  simp [State.vinWarn]

@[simp] theorem State.rideRecord_mems (s : State) : (s.rideRecord).mems = s.mems := by
  simp [State.rideRecord]

@[simp] theorem State.reconnect_mems (s : State) : (s.reconnect).mems = s.mems := by
  simp [State.reconnect]

@[simp] theorem State.vinRecover_mems (s : State) (mv : Nat) : (s.vinRecover mv).mems = s.mems := by
  simp [State.vinRecover]

@[simp] theorem State.rideStop_mems (s : State) (cls cause : Nat) : (s.rideStop cls cause).mems = s.mems := by
  simp [State.rideStop]

@[simp] theorem State.vinReset_memsOk (s : State) (hm : MemsOk s.mems) : MemsOk (s.vinReset).mems := by
  simp [State.vinReset, hm]

@[simp] theorem State.vinHigh_mems (s : State) (mv : Nat) : (s.vinHigh mv).mems = s.mems := by
  simp [State.vinHigh]

@[simp] theorem State.vinOv_mems (s : State) (mv : Nat) : (s.vinOv mv).mems = s.mems := by
  simp [State.vinOv]

@[simp] theorem State.iinLimit_mems (s : State) (ma : Nat) : (s.iinLimit ma).mems = s.mems := by
  simp [State.iinLimit]

@[simp] theorem State.railTolerance_memsOk (s : State) (r : Nat) (high : Bool) (hm : MemsOk s.mems) :
    MemsOk (s.railTolerance r high).mems := by
  simp [State.railTolerance, hm]

@[simp] theorem State.railHard_memsOk (s : State) (r : Nat) (trip : Bool) (hm : MemsOk s.mems) : MemsOk (s.railHard r trip).mems := by
  simp [State.railHard, hm]

@[simp] theorem State.holdupLow_mems (s : State) (mv : Nat) : (s.holdupLow mv).mems = s.mems := by
  simp [State.holdupLow]

@[simp] theorem State.holdupReserve_memsOk (s : State) (mv : Nat) (hm : MemsOk s.mems) : MemsOk (s.holdupReserve mv).mems := by
  simp [State.holdupReserve, hm]

/-! #### The governor -/

@[simp] theorem State.measurePin_mems (s : State) (pin : Nat) : (s.measurePin pin).mems = s.mems := by
  simp [State.measurePin]

@[simp] theorem State.governorStep_mems (s : State) (pin : Nat) : (s.governorStep pin).mems = s.mems := by
  unfold State.governorStep
  dsimp only
  (repeat' split) <;> simp

@[simp] theorem State.governorRelease_mems (s : State) (pin : Nat) : (s.governorRelease pin).mems = s.mems := by
  simp [State.governorRelease]

/-! #### Restart and stop requests -/

@[simp] theorem State.autoRestart_mems (s : State) : (s.autoRestart).mems = s.mems := by
  simp [State.autoRestart]

@[simp] theorem State.wrRtCfg_mems (s : State) (v : Word) : (s.wrRtCfg v).mems = s.mems := by
  simp [State.wrRtCfg]

@[simp] theorem State.wrPwrCtrl_mems (s : State) (v : Word) : (s.wrPwrCtrl v).mems = s.mems := by
  simp [State.wrPwrCtrl]

/-! #### Temperature -/

@[simp] theorem State.sensorOut_mems (s : State) (i : Nat) : (s.sensorOut i).mems = s.mems := by
  simp [State.sensorOut]

@[simp] theorem State.sampleSensor_mems (s : State) (raw : List (Option Int)) (i : Nat) : (s.sampleSensor raw i).mems = s.mems := by
  unfold State.sampleSensor
  (repeat' split) <;> simp

@[simp] theorem State.takeT_mems (s : State) : (s.takeT).mems = s.mems := by
  unfold State.takeT
  dsimp only
  split <;> simp

@[simp] theorem State.thresholds_mems (s : State) : (s.thresholds).mems = s.mems := by
  simp [State.thresholds]

@[simp] theorem State.tempSample_mems (s : State) (raw : List (Option Int)) : (s.tempSample raw).mems = s.mems := by
  simp [State.tempSample]

@[simp] theorem State.sensorFail_mems (s : State) (n : Nat) : (s.sensorFail n).mems = s.mems := by
  simp [State.sensorFail]

@[simp] theorem State.thermalStep_mems (s : State) : (s.thermalStep).mems = s.mems := by
  simp [State.thermalStep]

@[simp] theorem State.hardTrip_memsOk (s : State) (hm : MemsOk s.mems) : MemsOk (s.hardTrip).mems := by
  simp [State.hardTrip, hm]

/-! #### Instances -/

@[simp] theorem State.vigilGlobal_mems (s : State) (cls v r inst : Nat) : (s.vigilGlobal cls v r inst).mems = s.mems := by
  simp [State.vigilGlobal]

@[simp] theorem State.setInstance_mems (s : State) (i st : Nat) : (s.setInstance i st).mems = s.mems := by
  simp [State.setInstance]

@[simp] theorem State.failInstance_mems (s : State) (i : Nat) : (s.failInstance i).mems = s.mems := by
  simp [State.failInstance]

@[simp] theorem State.restoreInstance_mems (s : State) (i : Nat) : (s.restoreInstance i).mems = s.mems := by
  simp [State.restoreInstance]

@[simp] theorem State.dissents_mems (s : State) (i w h n : Nat) (v : Nat × Nat) : (s.dissents i w h n v).mems = s.mems := by
  simp [State.dissents]

@[simp] theorem State.vigilTestEnter_mems (s : State) (i : Nat) : (s.vigilTestEnter i).mems = s.mems := by
  simp [State.vigilTestEnter]

@[simp] theorem State.vigilTake_mems (s : State) : (s.vigilTake).mems = s.mems := by
  unfold State.vigilTake
  dsimp only
  split <;> simp

@[simp] theorem State.vigilFrame_mems (s : State) : (s.vigilFrame).mems = s.mems := by
  simp [State.vigilFrame]

/-! #### The vote -/

@[simp] theorem State.voteWin_mems (s : State) (ups : List Upset) (w h n : Nat) (base : Nat × Nat) :
    (s.voteWin ups w h n base).2.mems = s.mems := by
  unfold State.voteWin
  dsimp only
  (repeat' split) <;> simp

/-! #### Age, progress and pick checks -/

@[simp] theorem State.takeCeil_mems (s : State) (h : Nat) : (s.takeCeil h).mems = s.mems := by
  simp [State.takeCeil]

@[simp] theorem State.pickChecks_mems (s : State) (h : Nat) : (s.pickChecks h).mems = s.mems := by
  simp [State.pickChecks]

@[simp] theorem State.agePart_mems (s : State) (w disp : Nat) (bd : Nat × Nat × Nat) (shows : Bool) :
    (s.agePart w disp bd shows).2.mems = s.mems := by
  unfold State.agePart
  dsimp only
  split <;> simp

@[simp] theorem State.judgeNext_mems (s : State) (ups : List Upset) (h : Nat) (e : Nat × List Word) :
    (s.judgeNext ups h e).mems = s.mems := by
  simp [State.judgeNext]

/-! #### The snuff stage -/

@[simp] theorem State.sendLine_mems (s : State) (h n fs : Nat) (ups : List PixUpset) : (s.sendLine h n fs ups).mems = s.mems := by
  simp [State.sendLine]

@[simp] theorem State.latchDisp_mems (s : State) (h : Nat) : (s.latchDisp h).mems = s.mems := by
  simp [State.latchDisp]

/-! #### The end of a line -/

@[simp] theorem State.voteLine_mems (s : State) (ups voters : List Upset) (h n : Nat) (e : Nat × List Word) :
    (s.voteLine ups voters h n e).mems = s.mems := by
  simp [State.voteLine]

@[simp] theorem State.closeLine_mems (s : State) (h : Nat) : (s.closeLine h).mems = s.mems := by
  simp [State.closeLine]

@[simp] theorem State.voteComplete_mems (s : State) (h : Nat) (ups : List Upset) (pilot : List Nat) (voters : List Upset) :
    (s.voteComplete h ups pilot voters).mems = s.mems := by
  simp [State.voteComplete]

@[simp] theorem State.deliver_mems (s : State) (h : Nat) : (s.deliver h).mems = s.mems := by
  simp [State.deliver]

/-! #### Frame starts of a head -/

@[simp] theorem State.frameWins_mems (s : State) (h : Nat) : (s.frameWins h).mems = s.mems := by
  simp [State.frameWins]

@[simp] theorem State.vigilFrameStart_mems (s : State) (h : Nat) : (s.vigilFrameStart h).mems = s.mems := by
  simp [State.vigilFrameStart]

/-! #### Registers of the vigil -/

@[simp] theorem State.wrColour_mems (s : State) (v : Nat) (x : Word) : (s.wrColour v x).mems = s.mems := by
  simp [State.wrColour]

@[simp] theorem State.wrVigilCtrl_mems (s : State) (v : Word) : (s.wrVigilCtrl v).mems = s.mems := by
  simp [State.wrVigilCtrl]

@[simp] theorem State.wrInject_mems (s : State) (v : Word) : (s.wrInject v).mems = s.mems := by
  simp [State.wrInject]

/-! #### Lanes and groups -/

@[simp] theorem State.setLane_mems (s : State) (l : Nat) (x : Lane) : (s.setLane l x).mems = s.mems := by
  simp [State.setLane]

@[simp] theorem State.setStage_mems (s : State) (l st : Nat) : (s.setStage l st).mems = s.mems := by
  simp [State.setStage]

/-! #### Records -/

@[simp] theorem State.laneRec_mems (s : State) (cls l code : Nat) (hop : Nat) (x : Nat) (a2 : Nat) (lim : Option Nat) :
    (s.laneRec cls l code hop x a2 lim).mems = s.mems := by
  simp [State.laneRec]

/-! #### Packets -/

@[simp] theorem State.queueCtl_mems (s : State) (l k : Nat) (p : List Byte) : (s.queueCtl l k p).mems = s.mems := by
  simp [State.queueCtl]

@[simp] theorem State.capBody_mems (s : State) (l : Nat) : (s.capBody l).2.mems = s.mems := by
  simp [State.capBody]

@[simp] theorem State.lanternCfg_mems (s : State) (l k : Nat) (echo : Bool) : (s.lanternCfg l k echo).mems = s.mems := by
  simp [State.lanternCfg]

@[simp] theorem State.lanternCfgAll_mems (s : State) (l : Nat) : (s.lanternCfgAll l).mems = s.mems := by
  simp [State.lanternCfgAll]

@[simp] theorem State.lanternCfgChange_mems (s : State) : (s.lanternCfgChange).mems = s.mems := by
  simp [State.lanternCfgChange]

/-! #### Scans by remote sense heads -/

@[simp] theorem State.sendScan_mems (s : State) (k profile no : Nat) : (s.sendScan k profile no).mems = s.mems := by
  unfold State.sendScan
  split <;> simp

@[simp] theorem State.sendSenseCmd_mems (s : State) (k : Nat) (cmd : List Byte) : (s.sendSenseCmd k cmd).mems = s.mems := by
  unfold State.sendSenseCmd
  split <;> simp

/-! #### Panels -/

@[simp] theorem State.setPanel_mems (s : State) (p : Nat) (x : Panel) : (s.setPanel p x).mems = s.mems := by
  simp [State.setPanel]

@[simp] theorem State.touchRec_mems (s : State) (cls p code : Nat) : (s.touchRec cls p code).mems = s.mems := by
  simp [State.touchRec]

/-! #### Tokens and rates -/

@[simp] theorem State.countTokens_mems (s : State) (p : Nat) : (s.countTokens p).mems = s.mems := by
  simp [State.countTokens]

@[simp] theorem State.fullRate_mems (s : State) (p : Nat) : (s.fullRate p).mems = s.mems := by
  simp [State.fullRate]

@[simp] theorem State.rateStep_mems (s : State) (p : Nat) : (s.rateStep p).mems = s.mems := by
  simp [State.rateStep]

/-! #### Reports -/

@[simp] theorem State.touchPost_memsOk (s : State) (p : Nat) (b : List Byte) (hm : MemsOk s.mems) : MemsOk (s.touchPost p b).mems := by
  unfold State.touchPost
  split <;> next heq => simp [State.mems_of_eq heq, hm]

@[simp] theorem State.touchReport_memsOk (s : State) (p flags stamp scan : Nat) (lifts : List (Touch × Nat)) (hm : MemsOk s.mems) :
    MemsOk (s.touchReport p flags stamp scan lifts).mems := by
  simp [State.touchReport, hm]

@[simp] theorem State.showTouches_mems (s : State) (p : Nat) : (s.showTouches p).mems = s.mems := by
  simp [State.showTouches]

@[simp] theorem State.liftAll_memsOk (s : State) (p reason : Nat) (hm : MemsOk s.mems) : MemsOk (s.liftAll p reason).mems := by
  simp [State.liftAll, hm]

/-! #### Phases and commands to sense heads -/

@[simp] theorem State.setPhase_mems (s : State) (p ph : Nat) : (s.setPhase p ph).mems = s.mems := by
  simp [State.setPhase]

@[simp] theorem State.enterSettle_mems (s : State) (p cause : Nat) : (s.enterSettle p cause).mems = s.mems := by
  simp [State.enterSettle]

@[simp] theorem State.startCmd_mems (s : State) (p : Nat) (c : List Byte) : (s.startCmd p c).mems = s.mems := by
  simp [State.startCmd]

@[simp] theorem State.nextCmd_mems (s : State) (p : Nat) : (s.nextCmd p).mems = s.mems := by
  unfold State.nextCmd
  split <;> simp

@[simp] theorem State.enterConfig_memsOk (s : State) (p : Nat) (hm : MemsOk s.mems) : MemsOk (s.enterConfig p).mems := by
  simp [State.enterConfig, hm]

@[simp] theorem State.toFault_memsOk (s : State) (p code : Nat) (hm : MemsOk s.mems) : MemsOk (s.toFault p code).mems := by
  simp [State.toFault, hm]

@[simp] theorem State.retryCmd_memsOk (s : State) (p : Nat) (c : SenseCmd) (hm : MemsOk s.mems) : MemsOk (s.retryCmd p c).mems := by
  simp [State.retryCmd, hm]

@[simp] theorem State.cmdTimeout_memsOk (s : State) (p : Nat) (hm : MemsOk s.mems) : MemsOk (s.cmdTimeout p).mems := by
  unfold State.cmdTimeout
  split <;> simp [hm]

@[simp] theorem State.senseRsp_memsOk (s : State) (p : Nat) (b : List Byte) (hm : MemsOk s.mems) : MemsOk (s.senseRsp p b).mems := by
  unfold State.senseRsp
  split <;> simp [hm]

/-! #### Triggers -/

@[simp] theorem State.declined_mems (s : State) (p : Nat) : (s.declined p).2.mems = s.mems := by
  simp [State.declined]

@[simp] theorem State.dropScan_mems (s : State) (p code : Nat) : (s.dropScan p code).mems = s.mems := by
  simp [State.dropScan]

@[simp] theorem State.startScan_mems (s : State) (p j : Nat) : (s.startScan p j).mems = s.mems := by
  simp [State.startScan]

@[simp] theorem State.touchTrig_mems (s : State) (p j : Nat) : (s.touchTrig p j).2.mems = s.mems := by
  simp [State.touchTrig]

/-! #### Peaks -/

@[simp] theorem State.peakAt_mems (s : State) (nd ns : Nat) (dl : Array Int) (i : Nat) : (s.peakAt nd ns dl i).2.mems = s.mems := by
  simp [State.peakAt]

@[simp] theorem State.peaksOf_mems (s : State) (nd ns : Nat) (limit : Int) (r : Option Rect) (dl : Array Int) :
    (s.peaksOf nd ns limit r dl).2.mems = s.mems := by
  simp [State.peaksOf]

/-! #### Tracking -/

@[simp] theorem State.admitPeaks_mems (s : State) (p : Nat) (lifts : List (Touch × Nat)) (unchecked : Bool) (cs : List Peak) :
    (s.admitPeaks p lifts unchecked cs).2.mems = s.mems := by
  simp [State.admitPeaks]

/-! #### Complete frames -/

@[simp] theorem State.recover_memsOk (s : State) (p flags : Nat) (sc : Scan) (hm : MemsOk s.mems) :
    MemsOk (s.recover p flags sc).mems := by
  simp [State.recover, hm]

@[simp] theorem State.endFrame_memsOk (s : State) (p : Nat) (sc : Scan) (found overflow : Bool) (lifts : List (Touch × Nat))
    (hm : MemsOk s.mems) :
    MemsOk (s.endFrame p sc found overflow lifts).mems := by
  simp [State.endFrame, hm]

@[simp] theorem State.mutualFrame_memsOk (s : State) (p : Nat) (sc : Scan) (vals : List Nat) (hm : MemsOk s.mems) :
    MemsOk (s.mutualFrame p sc vals).mems := by
  simp [State.mutualFrame, hm]

@[simp] theorem State.selfFrame_memsOk (s : State) (p : Nat) (sc : Scan) (vals : List Nat) (hm : MemsOk s.mems) :
    MemsOk (s.selfFrame p sc vals).mems := by
  simp [State.selfFrame, hm]

/-! #### SETTLE -/

@[simp] theorem State.settled_memsOk (s : State) (p : Nat) (frames : List (List Nat)) (hm : MemsOk s.mems) :
    MemsOk (s.settled p frames).mems := by
  simp [State.settled, hm]

@[simp] theorem State.touchFrame_memsOk (s : State) (p : Nat) (sc : Scan) (vals : List Nat) (hm : MemsOk s.mems) :
    MemsOk (s.touchFrame p sc vals).mems := by
  simp [State.touchFrame, hm]

@[simp] theorem State.senseData_memsOk (s : State) (p no off total : Nat) (last : Bool) (vals : List Nat) (hm : MemsOk s.mems) :
    MemsOk (s.senseData p no off total last vals).mems := by
  unfold State.senseData
  split <;> simp [hm]

@[simp] theorem State.localScan_memsOk (s : State) (p : Nat) (counts : List Nat) (hm : MemsOk s.mems) :
    MemsOk (s.localScan p counts).mems := by
  unfold State.localScan
  split <;> simp [hm]

@[simp] theorem State.frameTimeout_mems (s : State) (p : Nat) : (s.frameTimeout p).mems = s.mems := by
  unfold State.frameTimeout
  split <;> simp

@[simp] theorem State.waterTimeout_mems (s : State) (p : Nat) : (s.waterTimeout p).mems = s.mems := by
  simp [State.waterTimeout]

/-! #### Groups, maps and SAMPLE -/

@[simp] theorem State.panelLost_memsOk (s : State) (p : Nat) (hm : MemsOk s.mems) : MemsOk (s.panelLost p).mems := by
  simp [State.panelLost, hm]

@[simp] theorem State.panelUp_memsOk (s : State) (p : Nat) (hm : MemsOk s.mems) : MemsOk (s.panelUp p).mems := by
  simp [State.panelUp, hm]

@[simp] theorem State.touchGroupDown_memsOk (s : State) (l : Nat) (hm : MemsOk s.mems) : MemsOk (s.touchGroupDown l).mems := by
  unfold State.touchGroupDown
  exact MemsOk.foldl _ (fun t p ht => t.panelLost_memsOk p ht) _ hm

@[simp] theorem State.touchGroupUp_memsOk (s : State) (l : Nat) (hm : MemsOk s.mems) : MemsOk (s.touchGroupUp l).mems := by
  unfold State.touchGroupUp
  exact MemsOk.foldl _ (fun t p ht => t.panelUp_memsOk p ht) _ hm

@[simp] theorem State.touchHopUp_memsOk (s : State) (l hop : Nat) (hm : MemsOk s.mems) : MemsOk (s.touchHopUp l hop).mems := by
  unfold State.touchHopUp
  exact MemsOk.foldl _ (fun t p ht => t.panelUp_memsOk p ht) _ hm

@[simp] theorem State.touchSampleLost_memsOk (s : State) (hm : MemsOk s.mems) : MemsOk (s.touchSampleLost).mems := by
  unfold State.touchSampleLost
  exact MemsOk.foldl _ (fun t p ht => t.panelLost_memsOk p ht) _ hm

@[simp] theorem State.touchSampleBack_mems (s : State) : (s.touchSampleBack).mems = s.mems := by
  simp [State.touchSampleBack]

/-! #### Registers -/

@[simp] theorem State.panelOff_memsOk (s : State) (p : Nat) (hm : MemsOk s.mems) : MemsOk (s.panelOff p).mems := by
  simp [State.panelOff, hm]

@[simp] theorem State.wrPanelCfg_memsOk (s : State) (p : Nat) (v : Word) (hm : MemsOk s.mems) : MemsOk (s.wrPanelCfg p v).mems := by
  simp [State.wrPanelCfg, hm]

@[simp] theorem State.wrPanelCmd_memsOk (s : State) (p : Nat) (v : Word) (hm : MemsOk s.mems) : MemsOk (s.wrPanelCmd p v).mems := by
  simp [State.wrPanelCmd, hm]

@[simp] theorem State.wrPanel_memsOk (s : State) (p k : Nat) (v : Word) (hm : MemsOk s.mems) : MemsOk (s.wrPanel p k v).mems := by
  simp [State.wrPanel, hm]

@[simp] theorem State.refSwitch_mems (s : State) : (s.refSwitch).mems = s.mems := by
  simp [State.refSwitch]

@[simp] theorem State.loseSample_memsOk (s : State) (hm : MemsOk s.mems) : MemsOk (s.loseSample).mems := by
  simp [State.loseSample, hm]

@[simp] theorem State.domainFails_memsOk (s : State) (d : Nat) (hm : MemsOk s.mems) : MemsOk (s.domainFails d).mems := by
  simp [State.domainFails, hm]

@[simp] theorem State.clockLoss_memsOk (s : State) (d : Nat) (hm : MemsOk s.mems) : MemsOk (s.clockLoss d).mems := by
  simp [State.clockLoss, hm]

@[simp] theorem State.clockDrift_memsOk (s : State) (d khz : Nat) (hm : MemsOk s.mems) : MemsOk (s.clockDrift d khz).mems := by
  simp [State.clockDrift, hm]

@[simp] theorem State.wrSampleCfg_mems (s : State) (v : Word) : (s.wrSampleCfg v).mems = s.mems := by
  simp [State.wrSampleCfg]

@[simp] theorem State.sampleBack_mems (s : State) : (s.sampleBack).mems = s.mems := by
  simp [State.sampleBack]

@[simp] theorem State.startCore_mems (s : State) (c : Nat) : (s.startCore c).mems = s.mems := by
  simp [State.startCore]

@[simp] theorem State.wrCoreCtl_mems (s : State) (src : Src) (c : Nat) (v : Word) : (s.wrCoreCtl src c v).mems = s.mems := by
  simp [State.wrCoreCtl]

@[simp] theorem State.coreWatchdog_mems (s : State) (c : Nat) : (s.coreWatchdog c).mems = s.mems := by
  simp [State.coreWatchdog]

@[simp] theorem State.wrKick_mems (s : State) (c : Nat) (v : Word) : (s.wrKick c v).mems = s.mems := by
  simp [State.wrKick]

@[simp] theorem State.wrWdogCfg_mems (s : State) (c : Nat) (v : Word) : (s.wrWdogCfg c v).mems = s.mems := by
  simp [State.wrWdogCfg]

@[simp] theorem State.jtagHalt_mems (s : State) (k : Nat) : (s.jtagHalt k).mems = s.mems := by
  simp [State.jtagHalt]

/-! #### Entry to stage 1, and stops -/

@[simp] theorem State.clearLane_mems (s : State) (m : Nat) : (s.clearLane m).mems = s.mems := by
  simp [State.clearLane]

@[simp] theorem State.bringUp_mems (s : State) (l : Nat) : (s.bringUp l).mems = s.mems := by
  simp [State.bringUp]

@[simp] theorem State.bringUpFail_mems (s : State) (l : Nat) : (s.bringUpFail l).mems = s.mems := by
  simp [State.bringUpFail]

@[simp] theorem State.stepCeiling_mems (s : State) (l : Nat) : (s.stepCeiling l).mems = s.mems := by
  simp [State.stepCeiling]

@[simp] theorem State.conDrop_mems (s : State) (l code f : Nat) : (s.conDrop l code f).mems = s.mems := by
  simp [State.conDrop]

@[simp] theorem State.conBreak_mems (s : State) (l : Nat) : (s.conBreak l).mems = s.mems := by
  unfold State.conBreak
  split <;> simp

@[simp] theorem State.dropOutq_mems (s : State) (l : Nat) : (s.dropOutq l).mems = s.mems := by
  simp [State.dropOutq]

@[simp] theorem State.leaveUp_memsOk (s : State) (l : Nat) (hm : MemsOk s.mems) : MemsOk (s.leaveUp l).mems := by
  simp [State.leaveUp, hm]

@[simp] theorem State.linkDown_memsOk (s : State) (l code : Nat) (hm : MemsOk s.mems) : MemsOk (s.linkDown l code).mems := by
  simp [State.linkDown, hm]

/-! #### CFG and LOOP -/

@[simp] theorem State.laneStop_memsOk (s : State) (l : Nat) (hm : MemsOk s.mems) : MemsOk (s.laneStop l).mems := by
  unfold State.laneStop
  dsimp only
  split <;> simp [hm]

@[simp] theorem State.wrLaneCfg_memsOk (s : State) (l : Nat) (v : Word) (hm : MemsOk s.mems) : MemsOk (s.wrLaneCfg l v).mems := by
  unfold State.wrLaneCfg
  (repeat' split) <;> simp [hm]

@[simp] theorem State.wrLoop_mems (s : State) (l : Nat) (v : Word) : (s.wrLoop l v).mems = s.mems := by
  simp [State.wrLoop]

/-! #### UP -/

@[simp] theorem State.mapStatus_mems (s : State) (h : Nat) : (s.mapStatus h).mems = s.mems := by
  simp [State.mapStatus]

@[simp] theorem State.enterUp_memsOk (s : State) (l : Nat) (hm : MemsOk s.mems) : MemsOk (s.enterUp l).mems := by
  simp [State.enterUp, hm]

/-! #### Stages -/

@[simp] theorem State.orderCheck_mems (s : State) (l : Nat) (obs : StageObs) : (s.orderCheck l obs).2.mems = s.mems := by
  simp [State.orderCheck]

@[simp] theorem State.rateFail_mems (s : State) (l : Nat) : (s.rateFail l).mems = s.mems := by
  simp [State.rateFail]

@[simp] theorem State.enterRate_memsOk (s : State) (l tx rx : Nat) (hm : MemsOk s.mems) : MemsOk (s.enterRate l tx rx).mems := by
  simp [State.enterRate, hm]

@[simp] theorem State.enterScramble_mems (s : State) (l : Nat) : (s.enterScramble l).mems = s.mems := by
  simp [State.enterScramble]

@[simp] theorem State.stageDone_memsOk (s : State) (l m : Nat) (obs : StageObs) (hm : MemsOk s.mems) :
    MemsOk (s.stageDone l m obs).mems := by
  unfold State.stageDone
  extract_lets own
  refine MemsOk.ite hm ?_
  split
  · exact MemsOk.ite (by simp [own, hm]) hm
  · simp [own, hm]
  · simp [own, hm]
  · exact MemsOk.ite hm (MemsOk.ite (by simp [hm]) (by simp [own, hm]))
  · refine MemsOk.ite hm ?_
    split <;> next h => simp [State.mems_of_eq h, hm]
  · exact MemsOk.ite hm (by simp [hm])
  · refine MemsOk.ite hm ?_
    split <;> next h => simp [State.mems_of_eq h, hm]
  · exact hm

@[simp] theorem State.stageTimedOut_mems (s : State) (l m : Nat) : (s.stageTimedOut l m).mems = s.mems := by
  unfold State.stageTimedOut
  dsimp only
  split <;> simp

@[simp] theorem State.restart_mems (s : State) (l : Nat) : (s.restart l).mems = s.mems := by
  unfold State.restart
  split <;> simp

/-! #### Capability exchange -/

@[simp] theorem State.capSend_mems (s : State) (l : Nat) : (s.capSend l).mems = s.mems := by
  simp [State.capSend]

@[simp] theorem State.capIn_mems (s : State) (l : Nat) (b : List Byte) : (s.capIn l b).mems = s.mems := by
  simp [State.capIn]

/-! #### Back ring and STATUS -/

@[simp] theorem State.backPost_memsOk (s : State) (l hop : Nat) (p : List Byte) (hm : MemsOk s.mems) :
    MemsOk (s.backPost l hop p).mems := by
  unfold State.backPost
  dsimp only
  split
  · simp [hm]
  · split <;> next heq => simp [State.mems_of_eq heq, hm]

@[simp] theorem State.statusIn_mems (s : State) (l hop st : Nat) : (s.statusIn l hop st).mems = s.mems := by
  simp [State.statusIn]

@[simp] theorem State.hopCap_memsOk (s : State) (l hop : Nat) (b : List Byte) (hm : MemsOk s.mems) :
    MemsOk (s.hopCap l hop b).mems := by
  unfold State.hopCap
  dsimp only
  (repeat' split) <;> simp [hm]

/-! #### Echo and twins -/

@[simp] theorem State.echoEntry_mems (s : State) (h f n w : Nat) (foreign : Bool) (crc : Nat) :
    (s.echoEntry h f n w foreign crc).mems = s.mems := by
  unfold State.echoEntry
  dsimp only
  (repeat' split) <;> simp

@[simp] theorem State.echoPacket_mems (s : State) (l hop : Nat) (p : List Byte) : (s.echoPacket l hop p).mems = s.mems := by
  unfold State.echoPacket
  split <;> simp

@[simp] theorem State.echoAbsent_mems (s : State) (h n w : Nat) : (s.echoAbsent h n w).mems = s.mems := by
  unfold State.echoAbsent
  dsimp only
  (repeat' split) <;> simp

@[simp] theorem State.twinEntry_mems (s : State) (h n w kind : Nat) : (s.twinEntry h n w kind).mems = s.mems := by
  simp [State.twinEntry]

@[simp] theorem State.twinReport_mems (s : State) (l hop : Nat) (b : List Byte) : (s.twinReport l hop b).mems = s.mems := by
  unfold State.twinReport
  dsimp only
  split <;> simp

/-! #### Sense packets -/

@[simp] theorem State.sensePacket_memsOk (s : State) (l hop : Nat) (p : List Byte) (hm : MemsOk s.mems) :
    MemsOk (s.sensePacket l hop p).mems := by
  unfold State.sensePacket
  split <;> simp [hm]

/-! #### Consoles -/

@[simp] theorem State.conMark_memsOk (s : State) (l : Nat) (hm : MemsOk s.mems) : MemsOk (s.conMark l).mems := by
  unfold State.conMark
  split
  · next k _ =>
    refine MemsOk.ite hm (MemsOk.ite (by simp [hm]) ?_)
    exact MemsOk.foldl _ (fun t e ht => t.unitWrite_memsOk _ _ _ ht) _ (State.markSlot_memsOk _ _ _ _ _ _ _ hm)
  · exact hm

@[simp] theorem State.conBegin_memsOk (s : State) (l f width depth : Nat) (hm : MemsOk s.mems) :
    MemsOk (s.conBegin l f width depth).mems := by
  unfold State.conBegin
  dsimp only
  (repeat' split) <;> simp [hm]

@[simp] theorem State.conNew_memsOk (s : State) (l f width depth : Nat) (start : Bool) (hm : MemsOk s.mems) :
    MemsOk (s.conNew l f width depth start).mems := by
  simp [State.conNew, hm]

@[simp] theorem State.conAgain_mems (s : State) (l f : Nat) : (s.conAgain l f).mems = s.mems := by
  simp [State.conAgain]

@[simp] theorem State.conData_memsOk (s : State) (l : Nat) (p : List Byte) (hm : MemsOk s.mems) : MemsOk (s.conData l p).mems := by
  unfold State.conData
  dsimp only
  split <;> simp [hm]

@[simp] theorem State.conEnd_memsOk (s : State) (l : Nat) (k : ConFrame) (hm : MemsOk s.mems) : MemsOk (s.conEnd l k).mems := by
  simp [State.conEnd, hm]

@[simp] theorem State.conTrailer_memsOk (s : State) (l : Nat) (p : List Byte) (hm : MemsOk s.mems) :
    MemsOk (s.conTrailer l p).mems := by
  unfold State.conTrailer
  dsimp only
  split <;> simp [hm]

@[simp] theorem State.conApplied_memsOk (s : State) (l : Nat) (hm : MemsOk s.mems) : MemsOk (s.conApplied l).mems := by
  unfold State.conApplied
  dsimp only
  split <;> simp [hm]

/-! #### Packets received -/

@[simp] theorem State.controlIn_memsOk (s : State) (l hop : Nat) (p : List Byte) (hm : MemsOk s.mems) :
    MemsOk (s.controlIn l hop p).mems := by
  unfold State.controlIn
  dsimp only
  (repeat' split) <;> simp [hm]

@[simp] theorem State.packetFrom_memsOk (s : State) (l hop : Nat) (p : List Byte) (hm : MemsOk s.mems) :
    MemsOk (s.packetFrom l hop p).mems := by
  unfold State.packetFrom
  split <;> simp [hm]

@[simp] theorem State.packetDrop_mems (s : State) (m code : Nat) : (s.packetDrop m code).mems = s.mems := by
  simp [State.packetDrop]

@[simp] theorem State.packetOk_memsOk (s : State) (l m : Nat) (p : List Byte) (hm : MemsOk s.mems) :
    MemsOk (s.packetOk l m p).mems := by
  simp [State.packetOk, hm]

@[simp] theorem State.payloadIn_memsOk (s : State) (l m : Nat) (n : Nat) (b : List Byte) (hm : MemsOk s.mems) :
    MemsOk (s.payloadIn l m n b).mems := by
  induction n generalizing s b with
  | zero => exact hm
  | succ n ih =>
    unfold State.payloadIn
    exact MemsOk.ite hm (MemsOk.ite (by simp [hm]) (ih _ _ (by simp [hm])))

/-! #### Blocks received -/

@[simp] theorem State.countBlock_memsOk (s : State) (l : Nat) (bad : Bool) (hm : MemsOk s.mems) : MemsOk (s.countBlock l bad).mems := by
  unfold State.countBlock
  dsimp only
  split <;> simp [hm]

@[simp] theorem State.blockIn_memsOk (s : State) (l m h : Nat) (payload : List Byte) (hm : MemsOk s.mems) :
    MemsOk (s.blockIn l m h payload).mems := by
  simp [State.blockIn, hm]

@[simp] theorem State.drainBlocks_memsOk (l fuel : Nat) (s : State) (hm : MemsOk s.mems) :
    MemsOk (State.drainBlocks l fuel s).mems := by
  induction fuel generalizing s with
  | zero => exact hm
  | succ fuel ih =>
    unfold State.drainBlocks
    split
    · exact hm
    · exact ih _ (by simp [hm])

@[simp] theorem State.memberBlock_memsOk (s : State) (l m h : Nat) (payload : List Byte) (hm : MemsOk s.mems) :
    MemsOk (s.memberBlock l m h payload).mems := by
  simp [State.memberBlock, hm]

@[simp] theorem State.prbsCheck_mems (s : State) (l : Nat) (b : List Bool) : (s.prbsCheck l b).mems = s.mems := by
  simp [State.prbsCheck]

@[simp] theorem State.testIn_mems (s : State) (l : Nat) (b : List Bool) : (s.testIn l b).mems = s.mems := by
  unfold State.testIn
  (repeat' split) <;> simp

@[simp] theorem State.trainBreak_mems (s : State) (l : Nat) : (s.trainBreak l).mems = s.mems := by
  simp [State.trainBreak]

@[simp] theorem State.sawBeacon_mems (s : State) (m : Nat) : (s.sawBeacon m).mems = s.mems := by
  simp [State.sawBeacon]

@[simp] theorem State.laneIn_memsOk (s : State) (l m : Nat) (b : List Bool) (hm : MemsOk s.mems) : MemsOk (s.laneIn l m b).mems := by
  unfold State.laneIn
  (repeat' split) <;> simp [hm]

@[simp] theorem State.feed_memsOk (s : State) (m : Nat) (b : List Bool) (hm : MemsOk s.mems) : MemsOk (s.feed m b).mems := by
  unfold State.feed
  split <;> simp [hm]

@[simp] theorem State.blockReceived_memsOk (s : State) (m : Nat) (b : List Bool) (hm : MemsOk s.mems) :
    MemsOk (s.blockReceived m b).mems := by
  simp [State.blockReceived, hm]

@[simp] theorem State.transmit_memsOk (s : State) (m : Nat) (b : List Bool) (hm : MemsOk s.mems) : MemsOk (s.transmit m b).mems := by
  simp [State.transmit, hm]

/-! #### Line packets -/

@[simp] theorem State.headPackets_mems (s : State) (h k : Nat) (n : Nat) (room : Nat) : (s.headPackets h k n room).2.mems = s.mems := by
  induction n generalizing s room with
  | zero => rfl
  | succ n ih =>
    unfold State.headPackets
    extract_lets x over_ line?
    clear_value line?
    rcases line? with _ | ⟨l, voted⟩
    · rfl
    dsimp only
    split
    · split
      · rfl
      · simp [ih]
    split
    · rfl
    split
    · rfl
    · simp [ih]

@[simp] theorem State.nextPayload_mems (s : State) (l : Nat) : (s.nextPayload l).2.mems = s.mems := by
  simp [State.nextPayload]

/-! #### Blocks sent -/

@[simp] theorem State.testSend_memsOk (s : State) (l : Nat) (hm : MemsOk s.mems) : MemsOk (s.testSend l).mems := by
  unfold State.testSend
  exact MemsOk.ite (State.transmit_memsOk _ _ _ (by simpa using hm)) (MemsOk.ite (State.transmit_memsOk _ _ _ hm) hm)

@[simp] theorem State.rateSwitch_memsOk (s : State) (l : Nat) (hm : MemsOk s.mems) : MemsOk (s.rateSwitch l).mems := by
  unfold State.rateSwitch
  split <;> simp [hm]

@[simp] theorem State.blockSend_memsOk (s : State) (l : Nat) (hm : MemsOk s.mems) : MemsOk (s.blockSend l).mems := by
  unfold State.blockSend
  extract_lets st
  refine MemsOk.ite hm ?_
  extract_lets
  split
  next btype payload t h =>
    have ht : t.mems = s.mems := by
      rw [State.mems_of_eq₂ h]
      split
      · rfl
      split
      · rfl
      split
      next h' => exact (State.mems_of_eq h').trans (State.nextPayload_mems ..)
    exact State.rateSwitch_memsOk _ _ (State.transmit_memsOk _ _ _ (by simpa [ht] using hm))

/-! #### OUTMAP and SENSEMAP -/

@[simp] theorem State.unstop_mems (s : State) (l : Nat) : (s.unstop l).mems = s.mems := by
  simp [State.unstop]

@[simp] theorem State.wrOutmap_mems (s : State) (h : Nat) (v : Word) : (s.wrOutmap h v).mems = s.mems := by
  unfold State.wrOutmap
  dsimp only
  (repeat' split) <;> simp

@[simp] theorem State.takeMap_mems (s : State) (h : Nat) : (s.takeMap h).mems = s.mems := by
  simp [State.takeMap]

@[simp] theorem State.wrSensemap_memsOk (s : State) (k : Nat) (v : Word) (hm : MemsOk s.mems) : MemsOk (s.wrSensemap k v).mems := by
  simp [State.wrSensemap, hm]

/-! #### The transmit ring -/

@[simp] theorem State.hostLaneTx_mems (s : State) : (s.hostLaneTx).mems = s.mems := by
  unfold State.hostLaneTx
  split
  · rfl
  split
  · next h =>
    extract_lets m hop sub l
    exact State.mems_ite_eq (by simp [State.mems_of_eq₂ h]) (by simp [State.mems_of_eq₂ h])
  · next h => simp [State.mems_of_eq₂ h]

/-! #### Activation -/

@[simp] theorem State.actRefused_mems (s : State) (cls n : Nat) (src : Src) : (s.actRefused cls n src).mems = s.mems := by
  simp [State.actRefused]

@[simp] theorem State.wrAct_mems (s : State) (src : Src) (v : Word) : (s.wrAct src v).mems = s.mems := by
  unfold State.wrAct
  dsimp only
  (repeat' split) <;> simp

@[simp] theorem State.copyRegions_mems (s : State) (base : Nat) (k : Nat) : (s.copyRegions base k).mems = s.mems := by
  induction k with
  | zero => rfl
  | succ k ih => simp [State.copyRegions, ih]

@[simp] theorem State.actDone_mems (s : State) : (s.actDone).mems = s.mems := by
  simp [State.actDone]

@[simp] theorem State.wrBind_mems (s : State) (n : Nat) (v : Word) : (s.wrBind n v).mems = s.mems := by
  simp [State.wrBind]

@[simp] theorem State.wrLockdown_mems (s : State) (v : Word) : (s.wrLockdown v).mems = s.mems := by
  simp [State.wrLockdown]

/-! #### Ring registers -/

@[simp] theorem State.wrRingCfg_mems (s : State) (k : Nat) (v : Word) : (s.wrRingCfg k v).mems = s.mems := by
  simp [State.wrRingCfg]

@[simp] theorem State.wrRingBase_mems (s : State) (k : Nat) (v : Word) : (s.wrRingBase k v).mems = s.mems := by
  simp [State.wrRingBase]

@[simp] theorem State.wrBell_mems (s : State) (k : Nat) (v : Word) : (s.wrBell k v).mems = s.mems := by
  simp [State.wrBell]

/-! #### Check-value jobs -/

@[simp] theorem State.setChkQueue_mems (s : State) (u : Nat) (q : List ChkJob) : (s.setChkQueue u q).mems = s.mems := by
  simp [State.setChkQueue]

@[simp] theorem State.chkSubmit_memsOk (s : State) (src : Src) (a u : Nat) (hm : MemsOk s.mems) :
    MemsOk (s.chkSubmit src a u).2.mems := by
  unfold State.chkSubmit
  split
  · exact hm
  split
  · exact hm
  split
  · next h => simp [State.mems_of_eq h, hm]
  · next b t h =>
    have ht : MemsOk t.mems := by rw [State.mems_of_eq h, State.unitRead_mems]; exact hm
    extract_lets j c
    split
    · rw [State.raise_mems, State.bump_mems]
      exact ht
    · rw [State.setChkQueue_mems]
      exact t.unitWrite_memsOk _ _ _ ht

@[simp] theorem State.chkEnd_memsOk (s : State) (u : Nat) (q : ChkJob) (j : Job) (result code acount : Nat) (hm : MemsOk s.mems) :
    MemsOk (s.chkEnd u q j result code acount).mems := by
  simp [State.chkEnd, hm]

@[simp] theorem State.chkCompute_memsOk (s : State) (u : Nat) (q : ChkJob) (j : Job) (data : List Byte) (hm : MemsOk s.mems) :
    MemsOk (s.chkCompute u q j data).mems := by
  simp [State.chkCompute, hm]

@[simp] theorem State.chkAppend_memsOk (s : State) (u : Nat) (q : ChkJob) (j : Job) (data : List Byte) (hm : MemsOk s.mems) :
    MemsOk (s.chkAppend u q j data).mems := by
  simp [State.chkAppend, hm]

@[simp] theorem State.chkCheck_memsOk (s : State) (u : Nat) (q : ChkJob) (j : Job) (data : List Byte) (hm : MemsOk s.mems) :
    MemsOk (s.chkCheck u q j data).mems := by
  simp [State.chkCheck, hm]

@[simp] theorem State.chkRun_memsOk (s : State) (u : Nat) (hm : MemsOk s.mems) : MemsOk (s.chkRun u).mems := by
  unfold State.chkRun
  split
  · exact hm
  extract_lets j
  refine MemsOk.ite (by simp [hm]) ?_
  split
  · next h => simp [State.mems_of_eq h, hm]
  · next h => split <;> simp [State.mems_of_eq h, hm]

@[simp] theorem State.chkAbort_memsOk (s : State) (u : Nat) (hm : MemsOk s.mems) : MemsOk (s.chkAbort u).mems := by
  unfold State.chkAbort
  exact MemsOk.foldl _ (fun t q ht => t.chkEnd_memsOk _ _ _ _ _ _ ht) _ hm

/-! #### The fault log -/

@[simp] theorem State.postOverflow_memsOk (s : State) (hm : MemsOk s.mems) : MemsOk (s.postOverflow).mems := by
  simp [State.postOverflow, hm]

@[simp] theorem State.postRecord_memsOk (s : State) (hm : MemsOk s.mems) : MemsOk (s.postRecord).mems := by
  unfold State.postRecord
  dsimp only
  (repeat' split) <;> simp [hm]

@[simp] theorem State.wrCtrClear_mems (s : State) (v : Word) : (s.wrCtrClear v).mems = s.mems := by
  simp [State.wrCtrClear]

@[simp] theorem State.testRec_mems (s : State) (cls unit code : Nat) (a2 : Nat) : (s.testRec cls unit code a2).mems = s.mems := by
  simp [State.testRec]

/-! #### Fences -/

@[simp] theorem State.fenceEffect_memsOk (s : State) (u : Nat) (hm : MemsOk s.mems) : MemsOk (s.fenceEffect u).mems := by
  unfold State.fenceEffect
  dsimp only
  (repeat' split) <;> simp [hm]

@[simp] theorem State.fence_memsOk (s : State) (u why : Nat) (hm : MemsOk s.mems) : MemsOk (s.fence u why).mems := by
  unfold State.fence
  split <;> simp [hm]

@[simp] theorem State.wrFence_memsOk (s : State) (k : Nat) (v : Word) (hm : MemsOk s.mems) : MemsOk (s.wrFence k v).mems := by
  unfold State.wrFence
  exact MemsOk.ite (by simp [hm]) (MemsOk.foldl _ (fun t u ht => t.fence_memsOk _ _ ht) _ hm)

/-! #### Entry to SELF_TEST -/

@[simp] theorem State.readRepairBank_memsOk (s : State) (hm : MemsOk s.mems) : MemsOk (s.readRepairBank).mems := by
  unfold State.readRepairBank
  exact MemsOk.ite (by simp [hm]) (MemsOk.foldl _ (fun t u ht => t.fence_memsOk _ _ ht) _ hm)

@[simp] theorem State.enterSelfTest_memsOk (s : State) (hm : MemsOk s.mems) : MemsOk (s.enterSelfTest).mems := by
  simp [State.enterSelfTest, hm]

@[simp] theorem State.stepDone_memsOk (s : State) (temp : Int) (extOk repairOk : Bool) (hm : MemsOk s.mems) :
    MemsOk (s.stepDone temp extOk repairOk).mems := by
  simp [State.stepDone, hm]

/-! #### Warm reset and RESET_N -/

@[simp] theorem State.warmReset_memsOk (s : State) (hm : MemsOk s.mems) : MemsOk (s.warmReset).mems := by
  simp [State.warmReset, hm]

@[simp] theorem State.wrResetReq_memsOk (s : State) (v : Word) (hm : MemsOk s.mems) : MemsOk (s.wrResetReq v).mems := by
  simp [State.wrResetReq, hm]

@[simp] theorem State.resetLow_memsOk (s : State) (hm : MemsOk s.mems) : MemsOk (s.resetLow).mems := by
  simp [State.resetLow, hm]

@[simp] theorem State.resetHigh_mems (s : State) : (s.resetHigh).mems = s.mems := by
  simp [State.resetHigh]

@[simp] theorem State.vaonLost_memsOk (s : State) (hm : MemsOk s.mems) : MemsOk (s.vaonLost).mems := by
  obtain ⟨_, _, hf, _⟩ := (memsOk_parts ..).1 hm
  exact (memsOk_parts ..).2 ⟨rfl, rfl, hf, rfl⟩

/-! #### The start tests -/

@[simp] theorem State.bankRemove_mems (s : State) (b : Nat) : (s.bankRemove b).mems = s.mems := by
  simp [State.bankRemove]

@[simp] theorem State.softRepair_mems (s : State) (r : Nat) : (s.softRepair r).mems = s.mems := by
  unfold State.softRepair
  (repeat' split) <;> simp

@[simp] theorem State.dramSoft_mems (s : State) (rows : List Nat) : (s.dramSoft rows).mems = s.mems := by
  simp [State.dramSoft]

@[simp] theorem State.testHalt_mems (s : State) (u : Nat) : (s.testHalt u).mems = s.mems := by
  simp [State.testHalt]

@[simp] theorem State.startFail_memsOk (s : State) (u : Nat) (hm : MemsOk s.mems) : MemsOk (s.startFail u).mems := by
  simp [State.startFail, hm]

@[simp] theorem State.startResult_memsOk (s : State) (x : TestResult) (hm : MemsOk s.mems) : MemsOk (s.startResult x).mems := by
  simp [State.startResult, hm]

@[simp] theorem State.latchedRecords_mems (s : State) : (s.latchedRecords).mems = s.mems := by
  unfold State.latchedRecords
  dsimp only
  split <;> simp

@[simp] theorem State.enterBoot_mems (s : State) (mainOk : Bool) : (s.enterBoot mainOk).mems = s.mems := by
  simp [State.enterBoot]

@[simp] theorem State.testsDone_memsOk (s : State) (results : List TestResult) (repairs : RepairFind) (mainOk : Bool)
    (hm : MemsOk s.mems) :
    MemsOk (s.testsDone results repairs mainOk).mems := by
  unfold State.testsDone
  refine MemsOk.ite hm ?_
  extract_lets s₁ s₂ s₃
  have h₁ : MemsOk s₁.mems := MemsOk.foldl _ (fun t x ht => t.startResult_memsOk x ht) _ hm
  have h₃ : MemsOk s₃.mems := by simp [s₃, s₂, h₁]
  exact MemsOk.ite h₃ (by simp [h₃])

@[simp] theorem State.testRetry_mems (s : State) (u : Nat) : (s.testRetry u).mems = s.mems := by
  simp [State.testRetry]

/-! #### In-service tests -/

@[simp] theorem State.istTake_memsOk (s : State) (u : Nat) (hm : MemsOk s.mems) : MemsOk (s.istTake u).mems := by
  simp [State.istTake, hm]

@[simp] theorem State.condSample_mems (s : State) : (s.condSample).mems = s.mems := by
  simp [State.condSample]

@[simp] theorem State.wrIst_memsOk (s : State) (v : Word) (hm : MemsOk s.mems) : MemsOk (s.wrIst v).mems := by
  simp [State.wrIst, hm]

@[simp] theorem State.istPass_mems (s : State) (u : Nat) : (s.istPass u).mems = s.mems := by
  simp [State.istPass]

@[simp] theorem State.istFail_mems (s : State) (u : Nat) : (s.istFail u).mems = s.mems := by
  simp [State.istFail]

@[simp] theorem State.istDone_mems (s : State) (result detail : Nat) (soft : List Nat) :
    (s.istDone result detail soft).mems = s.mems := by
  unfold State.istDone
  split <;> simp

@[simp] theorem State.outOfConditions_memsOk (s : State) (hm : MemsOk s.mems) : MemsOk (s.outOfConditions).mems := by
  unfold State.outOfConditions
  dsimp only
  split <;> simp [hm]

/-! #### Fuses and hard repair -/

@[simp] theorem State.wrFuseCmd_mems (s : State) (v : Word) : (s.wrFuseCmd v).mems = s.mems := by
  simp [State.wrFuseCmd]

@[simp] theorem State.fuseDone_mems (s : State) (verify : List Bool) : (s.fuseDone verify).mems = s.mems := by
  unfold State.fuseDone
  split <;> simp

@[simp] theorem State.putTrained_mems (s : State) (c : Nat) (b : Bool) : (s.putTrained c b).mems = s.mems := by
  simp [State.putTrained]

@[simp] theorem State.wrPpr_mems (s : State) (v : Word) : (s.wrPpr v).mems = s.mems := by
  simp [State.wrPpr]

@[simp] theorem State.pprDone_mems (s : State) (resource : Bool) : (s.pprDone resource).mems = s.mems := by
  unfold State.pprDone
  split <;> simp

/-! #### Supply events that bear on these -/

@[simp] theorem State.vinLow_mems (s : State) (mv : Nat) : (s.vinLow mv).mems = s.mems := by
  simp [State.vinLow]

@[simp] theorem State.wrVinWarn_mems (s : State) (v : Word) : (s.wrVinWarn v).mems = s.mems := by
  simp [State.wrVinWarn]

/-! #### Mode requests -/

@[simp] theorem State.wrModeReq_mems (s : State) (v : Word) : (s.wrModeReq v).mems = s.mems := by
  simp [State.wrModeReq]

/-! #### Directory and slots -/

@[simp] theorem State.slotFails_mems (s : State) (i ofs code : Nat) : (s.slotFails i ofs code).mems = s.mems := by
  simp [State.slotFails]

@[simp] theorem State.trySlots_mems (s : State) (d : Dir) (sigs : List Bool) (is : List Nat) :
    (s.trySlots d sigs is).2.mems = s.mems := by
  induction is generalizing s with
  | nil => rfl
  | cons i r ih =>
    unfold State.trySlots
    dsimp only
    split
    · rfl
    · simp [ih]

/-! #### Boot -/

@[simp] theorem State.loadSeg_memsOk (s : State) (at_ : Nat) (g : Seg) (hm : MemsOk s.mems) : MemsOk (s.loadSeg at_ g).mems := by
  simp [State.loadSeg, hm]

@[simp] theorem State.loadImage_memsOk (s : State) (i ofs : Nat) (hm : MemsOk s.mems) : MemsOk (s.loadImage i ofs).mems := by
  unfold State.loadImage
  extract_lets os s₁ entry c s₂ s₃ s₄
  have h₁ : MemsOk s₁.mems :=
    MemsOk.foldl _ (fun t e ht => MemsOk.foldl _ (fun t g ht => t.loadSeg_memsOk _ g ht) _ ht) _ hm
  have h₄ : MemsOk s₄.mems := by simp [s₄, s₃, s₂, h₁]
  clear_value s₄
  simp [h₄]

@[simp] theorem State.bootLoad_memsOk (s : State) (sfdp : Option Sfdp) (sigA sigB : Bool) (hm : MemsOk s.mems) :
    MemsOk (s.bootLoad sfdp sigA sigB).mems := by
  unfold State.bootLoad
  have hs : ∀ t d g o, (State.trySlots t d g o).2.mems = t.mems := fun t d g o => State.trySlots_mems t d g o
  refine MemsOk.ite hm ?_
  extract_lets +onlyGivenNames s₁ u s₂ none_
  have h₂ : MemsOk s₂.mems := by simpa [s₂, s₁] using hm
  have hn : ∀ t : State, MemsOk t.mems → MemsOk (none_ t).mems := fun t ht => by simp [none_, ht]
  generalize @State.trySlots = slots at hs ⊢
  generalize s₂ = t at h₂ ⊢
  generalize none_ = noSlot at hn ⊢
  clear s₂ u s₁ none_
  as_aux_lemma =>
    split
    · exact hn _ h₂
    · extract_lets last skip order s₃
      have h₃ : MemsOk s₃.mems := MemsOk.ite (by simp [h₂]) h₂
      clear_value s₃
      split
      · next h => exact State.loadImage_memsOk _ _ _ (by simpa [State.mems_of_eq h, hs] using h₃)
      · next h => exact hn _ (by simpa [State.mems_of_eq h, hs] using h₃)

@[simp] theorem State.wrBootConfirm_mems (s : State) (v : Word) : (s.wrBootConfirm v).mems = s.mems := by
  simp [State.wrBootConfirm]

@[simp] theorem State.bootWdog_memsOk (s : State) (hm : MemsOk s.mems) : MemsOk (s.bootWdog).mems := by
  unfold State.bootWdog
  split <;> simp [hm]

@[simp] theorem State.wrSramWays_mems (s : State) (v : Word) : (s.wrSramWays v).mems = s.mems := by
  simp [State.wrSramWays]

@[simp] theorem State.eraseRange_memsOk (s : State) (lo hi : Nat) (hm : MemsOk s.mems) : MemsOk (s.eraseRange lo hi).mems := by
  obtain ⟨hmem, hseq, hf, hd⟩ := (memsOk_parts ..).1 hm
  exact (memsOk_parts ..).2 ⟨cellsWf_filter _ hmem, hseq, hf, rising_filter _ hd⟩

@[simp] theorem State.l2Done_memsOk (s : State) (hm : MemsOk s.mems) : MemsOk (s.l2Done).mems := by
  simp [State.l2Done, hm]

@[simp] theorem State.ncClean_memsOk (s : State) (n : Nat) (hm : MemsOk s.mems) : MemsOk (s.ncClean n).mems := by
  simp [State.ncClean, hm]

@[simp] theorem State.wrNc_memsOk (s : State) (n : Nat) (limit : Bool) (v : Word) (hm : MemsOk s.mems) :
    MemsOk (s.wrNc n limit v).mems := by
  simp [State.wrNc, hm]

/-! #### Waits of an engine that end -/

@[simp] theorem State.finishWait_mems (s : State) (k d v : Nat) : (s.finishWait k d v).mems = s.mems := by
  simp [State.finishWait]

/-! #### Steps of time -/

@[simp] theorem State.setServo_mems (s : State) (v : Servo) : (s.setServo v).mems = s.mems := by
  simp [State.setServo]

@[simp] theorem State.stepCoreDone_mems (s : State) (c : Nat) : (s.stepCoreDone c).mems = s.mems := by
  simp [State.stepCoreDone]

@[simp] theorem State.applyStep_mems (s : State) (a : Int) (first : Bool) (core prior : Nat) :
    (s.applyStep a first core prior).mems = s.mems := by
  simp [State.applyStep]

@[simp] theorem State.beginStep_mems (s : State) (a : Int) (first : Bool) (core : Nat) : (s.beginStep a first core).mems = s.mems := by
  simp [State.beginStep]

@[simp] theorem State.nextSteps_mems (s : State) (fuel : Nat) : (s.nextSteps fuel).mems = s.mems := by
  induction fuel generalizing s with
  | zero => rfl
  | succ fuel ih =>
    unfold State.nextSteps
    split <;> simp [ih]

@[simp] theorem State.stepApply_mems (s : State) : (s.stepApply).mems = s.mems := by
  unfold State.stepApply
  split <;> simp

@[simp] theorem State.timeRestep_mems (s : State) (c : Nat) (a : Int) : (s.timeRestep c a).2.mems = s.mems := by
  unfold State.timeRestep
  dsimp only
  (repeat' split) <;> simp

/-! #### Samples -/

@[simp] theorem State.toServoHoldover_mems (s : State) (code : Nat) : (s.toServoHoldover code).mems = s.mems := by
  unfold State.toServoHoldover
  split <;> simp

@[simp] theorem State.rejectSample_mems (s : State) (o : Int) (at_ code : Nat) : (s.rejectSample o at_ code).mems = s.mems := by
  unfold State.rejectSample
  split <;> simp

@[simp] theorem State.putLastOfs_mems (s : State) (o : Int) : (s.putLastOfs o).mems = s.mems := by
  simp [State.putLastOfs]

@[simp] theorem State.countSample_mems (s : State) (o : Int) : (s.countSample o).mems = s.mems := by
  simp [State.countSample]

@[simp] theorem State.steer_mems (s : State) (o : Int) (dt : Nat) : (s.steer o dt).mems = s.mems := by
  simp [State.steer]

@[simp] theorem State.sample_mems (s : State) (v : Nat) : (s.sample v).mems = s.mems := by
  simp [State.sample]

@[simp] theorem State.wrFreq_mems (s : State) (v : Word) : (s.wrFreq v).mems = s.mems := by
  simp [State.wrFreq]

@[simp] theorem State.wrServoCfg_mems (s : State) (v : Word) : (s.wrServoCfg v).mems = s.mems := by
  simp [State.wrServoCfg]

@[simp] theorem State.servoQuiet_mems (s : State) : (s.servoQuiet).mems = s.mems := by
  simp [State.servoQuiet]

/-! #### Trigger registers -/

@[simp] theorem State.wrTrigger_mems (s : State) (n k : Nat) (v : Word) : (s.wrTrigger n k v).mems = s.mems := by
  unfold State.wrTrigger
  split <;> simp

/-! #### Waits on the raster -/

@[simp] theorem State.runRestart_mems (s : State) (n : Nat) : (s.runRestart n).mems = s.mems := by
  simp [State.runRestart]

@[simp] theorem State.endWait_mems (s : State) (k d v : Nat) : (s.endWait k d v).mems = s.mems := by
  simp [State.endWait]

@[simp] theorem State.frameWait_mems (s : State) (start h k : Nat) : (s.frameWait start h k).mems = s.mems := by
  unfold State.frameWait
  dsimp only
  split <;> simp

@[simp] theorem State.stepWait_mems (s : State) (h k : Nat) : (s.stepWait h k).mems = s.mems := by
  unfold State.stepWait
  split <;> simp

@[simp] theorem State.seqFrame_mems (s : State) (stepped : Bool) (g : Nat) : (s.seqFrame stepped g).mems = s.mems := by
  simp [State.seqFrame]

/-! #### Frame starts -/

@[simp] theorem State.dueLine_mems (s : State) (g : Nat) : (s.dueLine g).mems = s.mems := by
  simp [State.dueLine]

@[simp] theorem State.headFrame_mems (s : State) (h g : Nat) : (s.headFrame h g).mems = s.mems := by
  simp [State.headFrame]

@[simp] theorem State.unitFrame_mems (s : State) (h : Nat) : (s.unitFrame h).mems = s.mems := by
  simp [State.unitFrame]

@[simp] theorem State.frameStart_mems (s : State) (h : Nat) : (s.frameStart h).mems = s.mems := by
  simp [State.frameStart]

/-! #### Line starts -/

@[simp] theorem State.nextTbLine_mems (s : State) (h : Nat) : (s.nextTbLine h).mems = s.mems := by
  simp [State.nextTbLine]

@[simp] theorem State.pruneHist_mems (s : State) (h : Nat) : (s.pruneHist h).mems = s.mems := by
  simp [State.pruneHist]

@[simp] theorem State.snuffAtLine_mems (s : State) (h : Nat) : (s.snuffAtLine h).mems = s.mems := by
  simp [State.snuffAtLine]

@[simp] theorem State.sendNow_mems (s : State) (h : Nat) (ups : List PixUpset) : (s.sendNow h ups).mems = s.mems := by
  simp [State.sendNow]

@[simp] theorem State.lineStart_mems (s : State) (h : Nat) (ups : List PixUpset) : (s.lineStart h ups).mems = s.mems := by
  simp [State.lineStart]

/-! #### The apply point and commit requests -/

@[simp] theorem State.applyOne_mems (s : State) (u : Nat) : (s.applyOne u).mems = s.mems := by
  simp [State.applyOne]

@[simp] theorem State.applyEvent_mems (s : State) (u : Nat) : (s.applyEvent u).mems = s.mems := by
  simp [State.applyEvent]

@[simp] theorem State.applyDone_memsOk (s : State) (u : Nat) (hm : MemsOk s.mems) : MemsOk (s.applyDone u).mems := by
  unfold State.applyDone
  exact MemsOk.foldl _ (fun t l ht => t.conApplied_memsOk _ ht) _
    (MemsOk.foldl _ (fun t p ht => t.pipeMark_memsOk _ ht) _ (by simpa using hm))

@[simp] theorem State.wrCommit_mems (s : State) (u : Nat) (v : Word) : (s.wrCommit u v).mems = s.mems := by
  simp [State.wrCommit]

/-! #### Registers of a head -/

@[simp] theorem State.wrTiming_mems (s : State) (h k : Nat) (v : Word) : (s.wrTiming h k v).mems = s.mems := by
  simp [State.wrTiming]

@[simp] theorem State.judgeLate_mems (s : State) (h : Nat) : (s.judgeLate h).mems = s.mems := by
  simp [State.judgeLate]

@[simp] theorem State.headOn_mems (s : State) (h : Nat) : (s.headOn h).mems = s.mems := by
  simp [State.headOn]

@[simp] theorem State.headOff_mems (s : State) (h : Nat) : (s.headOff h).mems = s.mems := by
  simp [State.headOff]

@[simp] theorem State.wrHeadCfg_mems (s : State) (h : Nat) (v : Word) : (s.wrHeadCfg h v).mems = s.mems := by
  simp [State.wrHeadCfg]

@[simp] theorem State.wrRef_mems (s : State) (h : Nat) (v : Word) : (s.wrRef h v).mems = s.mems := by
  simp [State.wrRef]

/-! #### Spans -/

@[simp] theorem State.moveWins_mems (s : State) (u : Nat) (f : Nat → Nat) : (s.moveWins u f).mems = s.mems := by
  simp [State.moveWins]

@[simp] theorem State.unitCease_mems (s : State) (u : Nat) : (s.unitCease u).mems = s.mems := by
  simp [State.unitCease]

@[simp] theorem State.spanOn_mems (s : State) (sp : Nat) : (s.spanOn sp).mems = s.mems := by
  simp [State.spanOn]

@[simp] theorem State.spanOff_mems (s : State) (sp : Nat) : (s.spanOff sp).mems = s.mems := by
  simp [State.spanOff]

@[simp] theorem State.wrSpanCtrl_mems (s : State) (sp : Nat) (v : Word) : (s.wrSpanCtrl sp v).mems = s.mems := by
  simp [State.wrSpanCtrl]

@[simp] theorem State.wrSpan_mems (s : State) (sp k : Nat) (v : Word) : (s.wrSpan sp k v).mems = s.mems := by
  simp [State.wrSpan]

/-! #### Maintenance of the channels -/

@[simp] theorem State.maintain_mems (s : State) (scrub : Bool) (ch dur : Nat) : (s.maintain scrub ch dur).mems = s.mems := by
  simp [State.maintain]

/-! #### Registers of the vigil -/

@[simp] theorem State.setVigilCtrl_mems (s : State) (v : Word) : (s.setVigilCtrl v).mems = s.mems := by
  simp [State.setVigilCtrl]

@[simp] theorem State.seqRec_mems (s : State) (cls n a2 code : Nat) : (s.seqRec cls n a2 code).mems = s.mems := by
  simp [State.seqRec]

@[simp] theorem State.seqFaultAt_mems (s : State) (n cause : Nat) (addr : Option Nat) (fpc : Nat) :
    (s.seqFaultAt n cause addr fpc).mems = s.mems := by
  unfold State.seqFaultAt
  split <;> simp

@[simp] theorem State.seqFault_mems (s : State) (n cause : Nat) (addr : Option Nat) : (s.seqFault n cause addr).mems = s.mems := by
  simp [State.seqFault]

/-! #### Start and halt -/

@[simp] theorem State.startSeq_mems (s : State) (n : Nat) : (s.startSeq n).mems = s.mems := by
  simp [State.startSeq]

@[simp] theorem State.wrSeqCtl_mems (s : State) (n : Nat) (v : Word) : (s.wrSeqCtl n v).mems = s.mems := by
  simp [State.wrSeqCtl]

/-! #### Line budget and watchdog -/

@[simp] theorem State.countRun_mems (s : State) (n : Nat) : (s.countRun n).mems = s.mems := by
  simp [State.countRun]

@[simp] theorem State.seqWatchdog_mems (s : State) (n : Nat) : (s.seqWatchdog n).mems = s.mems := by
  simp [State.seqWatchdog]

/-! #### Local memory -/

@[simp] theorem State.seqWrite_memsOk (s : State) (at_ : Nat) (bytes : List Byte) (hm : MemsOk s.mems) :
    MemsOk (s.seqWrite at_ bytes).mems := by
  obtain ⟨hmem, hseq, hf, hd⟩ := (memsOk_parts ..).1 hm
  exact (memsOk_parts ..).2 ⟨hmem, cellsWf_cellWrite _ _ hseq, hf, hd⟩

@[simp] theorem State.seqFind_mems (s : State) (at_ : Nat) (f : MemFind) : (s.seqFind at_ f).mems = s.mems := by
  unfold State.seqFind
  split <;> simp

@[simp] theorem State.wrSeqMem_memsOk (s : State) (n o : Nat) (v : Word) (hm : MemsOk s.mems) : MemsOk (s.wrSeqMem n o v).2.mems := by
  simp [State.wrSeqMem, hm]

@[simp] theorem State.seqFinds_mems (s : State) (key n : Nat) (fs : List (Nat × MemFind)) : (s.seqFinds key n fs).mems = s.mems := by
  simp [State.seqFinds]

@[simp] theorem State.trigPulse_mems (s : State) (n a : Nat) : (s.trigPulse n a).2.mems = s.mems := by
  simp [State.trigPulse]

@[simp] theorem State.fire_memsOk (s : State) (src : Src) (b a : Nat) (entry : List Byte) (hm : MemsOk s.mems) :
    MemsOk (s.fire src b a entry).2.mems := by
  unfold State.fire
  split <;> simp [hm]

/-! #### Time triggers -/

@[simp] theorem State.trigRec_mems (s : State) (cls n code : Nat) (lim : Option Nat) : (s.trigRec cls n code lim).mems = s.mems := by
  simp [State.trigRec]

@[simp] theorem State.trigNext_mems (s : State) (n : Nat) : (s.trigNext n).mems = s.mems := by
  simp [State.trigNext]

@[simp] theorem State.trigFire_memsOk (s : State) (n : Nat) (hm : MemsOk s.mems) : MemsOk (s.trigFire n).mems := by
  simp [State.trigFire, hm]

@[simp] theorem State.trigsBelow_memsOk (s : State) (n : Nat) (hm : MemsOk s.mems) : MemsOk (s.trigsBelow n).mems := by
  unfold State.trigsBelow
  exact MemsOk.foldl _ (fun t n ht => t.trigFire_memsOk n ht) _ hm

/-! #### 64-bit registers -/

@[simp] theorem State.readReg_mems (s : State) (i key : Nat) : (s.readReg i key).2.mems = s.mems := by
  unfold State.readReg
  (repeat' split) <;> simp

@[simp] theorem State.readReg64_mems (s : State) (i key : Nat) : (s.readReg64 i key).2.mems = s.mems := by
  simp [State.readReg64]

/-! #### Balls -/

@[simp] theorem State.wrPlaceCtl_mems (s : State) (v : Word) : (s.wrPlaceCtl v).mems = s.mems := by
  simp [State.wrPlaceCtl]

@[simp] theorem State.wrPlain_mems (s : State) (key : Nat) (v : Word) : (s.wrPlain key v).mems = s.mems := by
  simp [State.wrPlain]

/-! #### One function per block, by the offset in the block -/

@[simp] theorem State.wrSys_memsOk (s : State) (src : Src) (o : Nat) (v : Word) (hm : MemsOk s.mems) :
    MemsOk (s.wrSys src o v).mems := by
  unfold State.wrSys
  (repeat' split) <;> simp [hm]

@[simp] theorem State.wrPwr_mems (s : State) (key : Nat) (v : Word) : (s.wrPwr key v).mems = s.mems := by
  simp [State.wrPwr]

@[simp] theorem State.wrTime_memsOk (s : State) (key : Nat) (v : Word) (hm : MemsOk s.mems) : MemsOk (s.wrTime key v).mems := by
  unfold State.wrTime
  split <;> simp [hm]

@[simp] theorem State.wrRaster_mems (s : State) (key : Nat) (v : Word) : (s.wrRaster key v).mems = s.mems := by
  unfold State.wrRaster
  (repeat' split) <;> simp

@[simp] theorem State.wrSeq_memsOk (s : State) (key : Nat) (v : Word) (hm : MemsOk s.mems) : MemsOk (s.wrSeq key v).2.mems := by
  unfold State.wrSeq
  split <;> simp [hm]

@[simp] theorem State.wrComp_mems (s : State) (key : Nat) (v : Word) : (s.wrComp key v).mems = s.mems := by
  unfold State.wrComp
  split <;> simp

@[simp] theorem State.wrPixp_mems (s : State) (key : Nat) (v : Word) : (s.wrPixp key v).mems = s.mems := by
  unfold State.wrPixp
  split <;> simp

@[simp] theorem State.wrVigil_mems (s : State) (key : Nat) (v : Word) : (s.wrVigil key v).mems = s.mems := by
  unfold State.wrVigil
  (repeat' split) <;> simp

@[simp] theorem State.wrIntake_mems (s : State) (key : Nat) (v : Word) : (s.wrIntake key v).mems = s.mems := by
  unfold State.wrIntake
  split <;> simp

@[simp] theorem State.wrEnc_mems (s : State) (key : Nat) (v : Word) : (s.wrEnc key v).mems = s.mems := by
  unfold State.wrEnc
  split <;> simp

@[simp] theorem State.wrDravio_memsOk (s : State) (key : Nat) (v : Word) (hm : MemsOk s.mems) : MemsOk (s.wrDravio key v).mems := by
  unfold State.wrDravio
  split <;> simp [hm]

@[simp] theorem State.wrTouch_memsOk (s : State) (key : Nat) (v : Word) (hm : MemsOk s.mems) : MemsOk (s.wrTouch key v).mems := by
  unfold State.wrTouch
  split <;> simp [hm]

@[simp] theorem State.wrAudioBlk_mems (s : State) (key : Nat) (v : Word) : (s.wrAudioBlk key v).mems = s.mems := by
  unfold State.wrAudioBlk
  split <;> simp

@[simp] theorem State.wrProt_mems (s : State) (src : Src) (key : Nat) (v : Word) : (s.wrProt src key v).mems = s.mems := by
  unfold State.wrProt
  split <;> simp

@[simp] theorem State.wrRings_mems (s : State) (key : Nat) (v : Word) : (s.wrRings key v).mems = s.mems := by
  unfold State.wrRings
  split <;> simp

@[simp] theorem State.loseBanks_memsOk (s : State) (n m : Nat) (hm : MemsOk s.mems) : MemsOk (s.loseBanks n m).mems := by
  simp +contextual [State.loseBanks, hm]

@[simp] theorem State.wrTest_memsOk (s : State) (key : Nat) (v : Word) (hm : MemsOk s.mems) : MemsOk (s.wrTest key v).mems := by
  unfold State.wrTest
  split <;> simp [hm]

@[simp] theorem State.wrL2_memsOk (s : State) (key : Nat) (v : Word) (hm : MemsOk s.mems) : MemsOk (s.wrL2 key v).mems := by
  unfold State.wrL2
  split <;> simp [hm]

@[simp] theorem State.regWrite_memsOk (s : State) (src : Src) (key : Nat) (v : Word) (hm : MemsOk s.mems) :
    MemsOk (s.regWrite src key v).2.mems := by
  unfold State.regWrite
  (repeat' split) <;> simp [hm]

@[simp] theorem State.regWriteN_memsOk (s : State) (src : Src) (key len v : Nat) (hm : MemsOk s.mems) :
    MemsOk (s.regWriteN src key len v).2.mems := by
  simp [State.regWriteN, hm]

@[simp] theorem State.regReadN_mems (s : State) (src : Src) (key len : Nat) : (s.regReadN src key len).2.mems = s.mems := by
  simp [State.regReadN]

/-! #### Performing an access that has passed its checks -/

@[simp] theorem State.perform_memsOk (s : State) (x : Access) (finds : List (Nat × MemFind)) (hm : MemsOk s.mems) :
    MemsOk (s.perform x finds).2.mems := by
  unfold State.perform
  (repeat' split) <;> simp [hm]

@[simp] theorem State.storeFailed_mems (s : State) (x : Access) : (s.storeFailed x).mems = s.mems := by
  simp [State.storeFailed]

@[simp] theorem State.atTarget_memsOk (s : State) (x : Access) (finds : List (Nat × MemFind)) (hm : MemsOk s.mems) :
    MemsOk (s.atTarget x finds).2.mems := by
  simp [State.atTarget, hm]

@[simp] theorem State.regAccess_memsOk (s : State) (x : Access) (hm : MemsOk s.mems) : MemsOk (s.regAccess x).mems := by
  simp [State.regAccess, hm]

/-! #### The commands -/

@[simp] theorem State.regCommand_memsOk (s : State) (i : Initiator) (k : AccKind) (a : Nat) (data : List Byte) (hm : MemsOk s.mems) :
    MemsOk (s.regCommand i k a data).mems := by
  have e : @State.regCommand = @State.regCommand := rfl
  conv at e => lhs; delta State.regCommand
  have eq := congr_fun₂ (congr_fun₃ e s i k) a data
  beta_reduce at eq
  rw [← eq]
  extract_lets src
  split
  next ok t h =>
    have ht : MemsOk t.mems := by simpa [State.mems_of_eq h] using hm
    exact MemsOk.ite ht (State.regAccess_memsOk t (t.tagged src k a 4 data) ht)

@[simp] theorem State.launch_mems (s : State) (i : Src) (k : AccKind) (a len : Nat) (data : List Byte) :
    (s.launch i k a len data).mems = s.mems := by
  simp [State.launch]

@[simp] theorem State.land_memsOk (s : State) (j : Nat) (finds : List (Nat × MemFind)) (hm : MemsOk s.mems) :
    MemsOk (s.land j finds).mems := by
  unfold State.land
  split <;> simp [hm]

@[simp] theorem State.reach_memsOk (s : State) (n : Nat) (finds : List (Nat × MemFind)) (hm : MemsOk s.mems) :
    MemsOk (s.reach n finds).mems := by
  unfold State.reach
  split <;> simp [hm]

@[simp] theorem State.landAll_memsOk (s : State) (p : Access → Bool) (n : Nat) (hm : MemsOk s.mems) : MemsOk (s.landAll p n).mems := by
  induction n generalizing s with
  | zero => exact hm
  | succ n ih => exact MemsOk.ite (ih _ (by simp [hm])) hm

@[simp] theorem State.scrub_memsOk (s : State) (words : Nat) (finds : List (Nat × MemFind)) (hm : MemsOk s.mems) :
    MemsOk (s.scrub words finds).mems := by
  unfold State.scrub
  exact MemsOk.ite hm (MemsOk.foldl _ (fun t f ht => t.applyFind_memsOk _ _ _ ht) _ hm)

/-! #### Registers -/

@[simp] theorem State.setGr_mems (s : State) (k d : Nat) (v : Dword) : (s.setGr k d v).mems = s.mems := by
  simp [State.setGr]

/-! #### Data of a core's loads and stores -/

@[simp] theorem State.complete_memsOk (s : State) (k : Nat) (p : Access → Bool) (hm : MemsOk s.mems) :
    MemsOk (s.complete k p).2.mems := by
  unfold State.complete
  dsimp only
  (repeat' split) <;> simp [hm]

@[simp] theorem State.fenceAll_memsOk (s : State) (k : Nat) (hm : MemsOk s.mems) : MemsOk (s.fenceAll k).2.mems := by
  simp [State.fenceAll, hm]

/-! #### Exceptions of a core -/

@[simp] theorem State.enterExc_mems (s : State) (c cause : Nat) (imprecise : Bool) (addr : Option Nat) (inst off : Nat) :
    (s.enterExc c cause imprecise addr inst off).mems = s.mems := by
  simp [State.enterExc]

@[simp] theorem State.syncCause_mems (s : State) (c cause : Nat) (addr : Option Nat) (inst : Nat) :
    (s.syncCause c cause addr inst).mems = s.mems := by
  simp [State.syncCause]

@[simp] theorem State.takeImprecise_mems (s : State) (c : Nat) : (s.takeImprecise c).mems = s.mems := by
  unfold State.takeImprecise
  dsimp only
  (repeat' split) <;> simp

@[simp] theorem State.takeAttention_mems (s : State) (c : Nat) : (s.takeAttention c).mems = s.mems := by
  simp [State.takeAttention]

/-! #### The instruction boundary -/

@[simp] theorem State.fetched_memsOk (s : State) (x0 : Eng) (hm : MemsOk s.mems) : MemsOk (s.fetched x0).mems := by
  unfold State.fetched
  split <;> simp [hm]

@[simp] theorem State.fetchCore_memsOk (s : State) (c : Nat) (f : MemFind) (hm : MemsOk s.mems) : MemsOk (s.fetchCore c f).2.mems := by
  have e : @State.fetchCore = @State.fetchCore := rfl
  conv at e => lhs; delta State.fetchCore
  have eq := congr_fun₃ e s c f
  beta_reduce at eq
  rw [← eq]
  clear e eq
  have hI : ∀ t src k a n, (State.initCheck t src k a n).2.mems = t.mems := State.initCheck_mems
  generalize @State.initCheck = check at hI ⊢
  as_aux_lemma =>
    extract_lets pc
    split
    next ok t h =>
      have ht : MemsOk t.mems := by simpa [State.mems_of_eq h, hI] using hm
      split
      · exact ht
      split
      · exact ht
      · extract_lets u
        have hu : MemsOk u.mems := t.applyFind_memsOk _ _ _ ht
        split <;> exact hu

/-! #### Issue and completion -/

@[simp] theorem State.retire_mems (s : State) (k pc : Nat) : (s.retire k pc).mems = s.mems := by
  simp [State.retire]

@[simp] theorem State.raiseCause_mems (s : State) (e : Eng) (cause : Nat) (addr : Option Nat) (word : Nat) :
    (s.raiseCause e cause addr word).mems = s.mems := by
  unfold State.raiseCause
  split <;> simp

@[simp] theorem State.settleEng_mems (s : State) (x0 : Eng) : (s.settleEng x0).mems = s.mems := by
  unfold State.settleEng
  split <;> simp

@[simp] theorem State.actOf_memsOk (s : State) (e : Eng) (who : Who) (keeperOnly : Bool) (f : State → Act)
    (hf : ∀ t : State, MemsOk t.mems → MemsOk (f t).state.mems) (hm : MemsOk s.mems) :
    MemsOk (s.actOf e who keeperOnly f).state.mems := by
  unfold State.actOf
  split
  · exact hm
  split
  · exact hm
  · exact hf s hm

theorem State.boundaryCore_memsOk {s t : State} {c : Nat} {f : MemFind} (h : s.boundaryCore c f = some t) (hm : MemsOk s.mems) :
    MemsOk t.mems := by
  have e : @State.boundaryCore = @State.boundaryCore := rfl
  conv at e => lhs; delta State.boundaryCore
  have eq := congr_fun₃ e s c f
  beta_reduce at eq
  rw [← eq] at h
  extract_lets e at h
  split_ifs at h
  · cases h; exact hm
  · cases h; simpa using hm
  · cases h; simpa using hm
  · cases h; exact hm
  · have hf := s.fetchCore_memsOk c f hm
    split at h
    · next u hu =>
      rw [hu] at hf
      cases h
      simpa using hf
    · cases h

theorem State.boundarySeq_memsOk {s t : State} {n : Nat} {f : MemFind} (h : s.boundarySeq n f = some t) (hm : MemsOk s.mems) :
    MemsOk t.mems := by
  unfold State.boundarySeq at h
  extract_lets e u at h
  split_ifs at h
  · cases h; exact hm
  · cases h; simpa using hm
  · cases h; simpa [u] using hm

theorem State.boundary_memsOk {s t : State} {e : Eng} (h : s.boundary e = some t) (hm : MemsOk s.mems) : MemsOk t.mems := by
  cases e with
  | core c f => exact State.boundaryCore_memsOk h hm
  | seq n f => exact State.boundarySeq_memsOk h hm

theorem State.conclude_memsOk (e : Eng) (word : Nat) (a : Act) (hm : MemsOk a.state.mems) : MemsOk (State.conclude e word a).mems := by
  cases a <;> simpa [State.conclude] using hm

theorem State.issue_memsOk (s : State) (e : Eng) (word : Nat) (who : Who) (keeperOnly : Bool) (f : State → Act)
    (hf : ∀ t : State, MemsOk t.mems → MemsOk (f t).state.mems) (hm : MemsOk s.mems) :
    MemsOk (s.issue e word who keeperOnly f).mems := by
  unfold State.issue
  split
  · next h => exact State.boundary_memsOk h hm
  · exact State.conclude_memsOk _ _ _ (State.actOf_memsOk _ _ _ _ _ hf (s.fetched_memsOk e hm))

@[simp] theorem State.issueVal_memsOk (s : State) (e : Eng) (word : Nat) (who : Who) (d : Nat) (v : State → Dword) (hm : MemsOk s.mems) :
    MemsOk (s.issueVal e word who d v).mems := by
  unfold State.issueVal
  exact State.issue_memsOk _ _ _ _ _ _ (fun t ht => by simpa using ht) hm

theorem State.afterFence_memsOk (s : State) (e : Eng) (f : State → Act) (hf : ∀ t : State, MemsOk t.mems → MemsOk (f t).state.mems)
    (hm : MemsOk s.mems) : MemsOk (s.afterFence e f).state.mems := by
  have hc := s.fenceAll_memsOk (Eng.key e) hm
  unfold State.afterFence
  split
  · next h =>
    rw [h] at hc
    exact hf _ hc
  · next h =>
    rw [h] at hc
    exact hc

/-! #### Attention and refusals that arrive -/

@[simp] theorem State.attentionArrives_mems (s : State) (c : Nat) : (s.attentionArrives c).mems = s.mems := by
  simp [State.attentionArrives]

@[simp] theorem State.impreciseArrives_mems (s : State) (c : Nat) : (s.impreciseArrives c).mems = s.mems := by
  simp [State.impreciseArrives]

/-! #### Words that no engine, or not this one, executes -/

@[simp] theorem State.atomic_memsOk (s : State) (e : Eng) (op d a w : Nat) (b : Dword) (find : MemFind) (hm : MemsOk s.mems) :
    MemsOk (s.atomic e op d a w b find).state.mems := by
  have e' : @State.atomic = @State.atomic := rfl
  conv at e' => lhs; delta State.atomic
  have eq := congr_fun₂ (congr_fun₃ (congr_fun₃ e' s e op) d a w) b find
  beta_reduce at eq
  rw [← eq]
  clear e' eq
  have hI : ∀ t src k a n, (State.initCheck t src k a n).2.mems = t.mems := State.initCheck_mems
  generalize @State.initCheck = check at hI ⊢
  as_aux_lemma =>
    extract_lets k x
    split
    · exact hm
    split
    · exact hm
    split
    next ok t h =>
      have ht : MemsOk t.mems := by simpa [State.mems_of_eq h, hI] using hm
      split
      · exact ht
      refine State.afterFence_memsOk _ _ _ (fun u hu => ?_) ht
      split
      next ok v h' =>
        have hv : MemsOk v.mems := by simpa [State.mems_of_eq h'] using hu
        split
        · exact hv
        split
        · exact hv
        extract_lets w₁ old w₂
        have hw : MemsOk w₁.mems := v.applyFind_memsOk _ _ _ hv
        split
        · exact hw
        have hw₂ : MemsOk w₂.mems := by
          simp only [w₂]
          split
          · exact w₁.coreWrite_memsOk k a _ hw
          · exact hw
        simpa using hw₂

@[simp] theorem State.atomicOp_memsOk (s : State) (e : Eng) (op : Nat) (d a b : Fin 32) (w64 : Bool) (find : MemFind)
    (hm : MemsOk s.mems) :
    MemsOk (s.atomicOp e op d a b w64 find).mems := by
  unfold State.atomicOp
  exact State.issue_memsOk _ _ _ _ _ _ (fun t ht => t.atomic_memsOk _ _ _ _ _ _ _ ht) hm

@[simp] theorem State.branch_memsOk (s : State) (e : Eng) (maj : Nat) (a b : Fin 32) (off : BitVec 16) (p : Dword → Dword → Bool)
    (hm : MemsOk s.mems) :
    MemsOk (s.branch e maj a b off p).mems := by
  unfold State.branch
  refine State.issue_memsOk _ _ _ _ _ _ (fun t ht => ?_) hm
  dsimp only
  split <;> exact ht

@[simp] theorem State.immOp_memsOk (s : State) (e : Eng) (maj : Nat) (d a : Fin 32) (imm : BitVec 16) (f : Dword → Dword)
    (hm : MemsOk s.mems) :
    MemsOk (s.immOp e maj d a imm f).mems := by
  simp [State.immOp, hm]

@[simp] theorem State.shiftOp_memsOk (s : State) (e : Eng) (k : Nat) (d a : Fin 32) (imm : BitVec 16) (hm : MemsOk s.mems) :
    MemsOk (s.shiftOp e k d a imm).mems := by
  unfold State.shiftOp
  refine State.issue_memsOk _ _ _ _ _ _ (fun t ht => ?_) hm
  split
  · exact ht
  · simpa using ht

@[simp] theorem State.intOp_memsOk (s : State) (e : Eng) (fn : Nat) (who : Who) (d a b : Fin 32) (f : Dword → Dword → Dword)
    (hm : MemsOk s.mems) :
    MemsOk (s.intOp e fn who d a b f).mems := by
  simp [State.intOp, hm]

/-! #### Loads -/

@[simp] theorem State.loadNormal_memsOk (s : State) (k d a w : Nat) (signed : Bool) (find : MemFind) (hm : MemsOk s.mems) :
    MemsOk (s.loadNormal k d a w signed find).state.mems := by
  simp [State.loadNormal, hm]

@[simp] theorem State.loadUncached_memsOk (s : State) (k d a w : Nat) (signed : Bool) (find : MemFind) (hm : MemsOk s.mems) :
    MemsOk (s.loadUncached k d a w signed find).state.mems := by
  unfold State.loadUncached
  split
  · simp [hm]
  · split <;> next heq => simp [State.mems_of_eq heq, hm]

@[simp] theorem State.loadLocal_mems (s : State) (k d a w : Nat) (signed : Bool) (find : MemFind) :
    (s.loadLocal k d a w signed find).state.mems = s.mems := by
  simp [State.loadLocal]

@[simp] theorem State.load_memsOk (s : State) (e : Eng) (d a w : Nat) (signed : Bool) (find : MemFind) (hm : MemsOk s.mems) :
    MemsOk (s.load e d a w signed find).state.mems := by
  unfold State.load
  split <;> simp [hm]

@[simp] theorem State.loadOp_memsOk (s : State) (e : Eng) (maj : Nat) (d a : Fin 32) (imm : BitVec 16) (w : Nat) (signed : Bool)
    (find : MemFind) (hm : MemsOk s.mems) :
    MemsOk (s.loadOp e maj d a imm w signed find).mems := by
  unfold State.loadOp
  exact State.issue_memsOk _ _ _ _ _ _ (fun t ht => t.load_memsOk _ _ _ _ _ _ ht) hm

/-! #### Stores -/

@[simp] theorem State.launchStore_mems (s : State) (k a : Nat) (bytes : List Byte) (word : Nat) :
    (s.launchStore k a bytes word).mems = s.mems := by
  simp [State.launchStore]

@[simp] theorem State.store_memsOk (s : State) (e : Eng) (a w : Nat) (v : Dword) (word : Nat) (hm : MemsOk s.mems) :
    MemsOk (s.store e a w v word).state.mems := by
  unfold State.store
  split <;> simp [hm]

@[simp] theorem State.storeOp_memsOk (s : State) (e : Eng) (maj : Nat) (d a : Fin 32) (imm : BitVec 16) (w : Nat) (hm : MemsOk s.mems) :
    MemsOk (s.storeOp e maj d a imm w).mems := by
  unfold State.storeOp
  exact State.issue_memsOk _ _ _ _ _ _ (fun t ht => t.store_memsOk _ _ _ _ _ ht) hm

theorem State.mediaRead_memsOk (s : State) (k a n : Nat) (f : State → List Byte → Act)
    (hf : ∀ t bs, MemsOk t.mems → MemsOk (f t bs).state.mems) (hm : MemsOk s.mems) : MemsOk (s.mediaRead k a n f).state.mems := by
  have e : @State.mediaRead = @State.mediaRead := rfl
  conv at e => lhs; delta State.mediaRead
  have eq := congr_fun₂ (congr_fun₃ e s k a) n f
  beta_reduce at eq
  rw [← eq]
  clear e eq
  have hI : ∀ t src k a n, (State.initCheck t src k a n).2.mems = t.mems := State.initCheck_mems
  generalize @State.initCheck = check at hI ⊢
  as_aux_lemma =>
    extract_lets x
    split
    next ok t h =>
      have ht : MemsOk t.mems := by simpa [State.mems_of_eq h, hI] using hm
      split
      · exact ht
      split
      · exact ht
      split
      · split
        · exact ht
        · exact hf _ _ ht
      have hc := t.complete_memsOk k (fun y => !t.isNormal y.addr) ht
      split
      · next u h' => rw [h'] at hc; exact hc
      next u h' =>
        rw [h'] at hc
        split
        next ok v h'' =>
          have hv : MemsOk v.mems := by simpa [State.mems_of_eq h''] using hc
          split
          · exact hv
          split
          · exact hv
          · exact hf _ _ hv

@[simp] theorem State.setTb32_mems (s : State) (k : Nat) (bs : List Byte) : (s.setTb32 k bs).mems = s.mems := by
  simp [State.setTb32]

theorem State.tagRead_memsOk (s : State) (k a : Nat) (f : State → List Byte → Act)
    (hf : ∀ t bs, MemsOk t.mems → MemsOk (f t bs).state.mems) (hm : MemsOk s.mems) : MemsOk (s.tagRead k a f).state.mems := by
  unfold State.tagRead
  split
  · exact hm
  split
  · exact hm
  · exact State.mediaRead_memsOk _ _ _ _ _ hf hm

@[simp] theorem State.tagJudge_memsOk (s : State) (k d : Nat) (bs : List Byte) (hm : MemsOk s.mems) :
    MemsOk (s.tagJudge k d bs).state.mems := by
  unfold State.tagJudge
  extract_lets t
  split
  · simpa using hm
  · refine State.mediaRead_memsOk _ _ _ _ _ (fun u x hu => ?_) hm
    exact State.mediaRead_memsOk _ _ _ _ _ (fun v y hv => by simpa using hv) hu

theorem State.ringOp_memsOk (s : State) (e : Eng) (fn : Nat) (d a b : Fin 32) (f : State → Nat → Nat → Act)
    (hf : ∀ t x r, MemsOk t.mems → MemsOk (f t x r).state.mems) (hm : MemsOk s.mems) : MemsOk (s.ringOp e fn d a b f).mems := by
  unfold State.ringOp
  refine State.issue_memsOk _ _ _ _ _ _ (fun t ht => ?_) hm
  refine State.afterFence_memsOk _ _ _ (fun u hu => ?_) ht
  split
  · simpa using hu
  · exact hf _ _ _ hu

@[simp] theorem State.rputAct_memsOk (s : State) (k d x r : Nat) (hm : MemsOk s.mems) : MemsOk (s.rputAct k d x r).state.mems := by
  unfold State.rputAct
  dsimp only
  split <;> simp [hm]

@[simp] theorem State.rgetAct_memsOk (s : State) (k d x r : Nat) (hm : MemsOk s.mems) : MemsOk (s.rgetAct k d x r).state.mems := by
  unfold State.rgetAct
  extract_lets n src
  split
  · exact hm
  split
  · exact hm
  split
  · next bs t h =>
    have ht : MemsOk t.mems := by simpa [State.mems_of_eq₂ h] using hm
    split
    next ok u h' =>
      split
      · simpa [State.mems_of_eq h'] using hm
      · simpa using t.coreWrite_memsOk k x bs ht
  · next h => simpa [State.mems_of_eq₂ h] using hm

@[simp] theorem State.rbellAct_mems (s : State) (k d x r : Nat) : (s.rbellAct k d x r).state.mems = s.mems := by
  have e : @State.rbellAct = @State.rbellAct := rfl
  conv at e => lhs; delta State.rbellAct
  have eq := congr_fun₂ (congr_fun₃ e s k d) x r
  beta_reduce at eq
  rw [← eq]
  clear e eq
  have hI : ∀ t src k a n, (State.initCheck t src k a n).2.mems = t.mems := State.initCheck_mems
  generalize @State.initCheck = check at hI ⊢
  as_aux_lemma =>
    extract_lets at_
    split
    next ok t h =>
      have ht : t.mems = s.mems := by simp [State.mems_of_eq h, hI]
      split
      · exact ht
      split
      next st u h' => simp [State.mems_of_eq h', ht]

@[simp] theorem State.rwaitEnds_mems (s : State) (c : Nat) : (s.rwaitEnds c).mems = s.mems := by
  unfold State.rwaitEnds
  (repeat' split) <;> simp

/-! #### The target head -/

@[simp] theorem State.absentAct_mems (s : State) (e : Eng) (d h : Nat) : (s.absentAct e d h).state.mems = s.mems := by
  simp [State.absentAct]

theorem State.withHead_memsOk (s : State) (e : Eng) (d h : Nat) (f : Act) (hf : MemsOk f.state.mems) (hm : MemsOk s.mems) :
    MemsOk (s.withHead e d h f).state.mems := by
  unfold State.withHead
  split
  · simpa using hm
  split
  · exact hm
  · exact hf

/-! #### Waits -/

theorem State.waitAct_memsOk (s : State) (e : Eng) (d : Nat) (done : Option (State × Nat)) (w : Wait)
    (hd : ∀ p, done = some p → MemsOk p.1.mems) (hm : MemsOk s.mems) : MemsOk (s.waitAct e d done w).state.mems := by
  unfold State.waitAct
  split
  · split
    · simpa using hd _ rfl
    · simpa using hm
  · split
    · simpa using hd _ rfl
    · simpa using hm

theorem State.countAct_memsOk (s : State) (e : Eng) (f : State → Act) (hf : ∀ t : State, MemsOk t.mems → MemsOk (f t).state.mems)
    (hm : MemsOk s.mems) : MemsOk (s.countAct e f).state.mems := by
  unfold State.countAct
  split
  · exact hf s hm
  · extract_lets t
    have ht : MemsOk t.mems := by simpa [t] using hm
    split
    · exact hf t ht
    · exact ht

@[simp] theorem State.wlineAct_memsOk (s : State) (e : Eng) (d h target : Nat) (hm : MemsOk s.mems) :
    MemsOk (s.wlineAct e d h target).state.mems := by
  unfold State.wlineAct
  refine State.countAct_memsOk _ _ _ (fun t ht => State.waitAct_memsOk _ _ _ _ _ (fun p hp => ?_) ht) hm
  split at hp
  · cases hp; exact ht
  · cases hp

@[simp] theorem State.waitEnds_mems (s : State) (e : Eng) : (s.waitEnds e).mems = s.mems := by
  unfold State.waitEnds
  dsimp only
  (repeat' split) <;> simp

/-! #### Commits, windows and pictures -/

@[simp] theorem State.noteCommit_mems (s : State) (x0 : Eng) : (s.noteCommit x0).mems = s.mems := by
  unfold State.noteCommit
  split <;> simp

@[simp] theorem State.pickAct_mems (s : State) (e : Eng) (d x : Nat) : (s.pickAct e d x).state.mems = s.mems := by
  simp [State.pickAct]

@[simp] theorem State.withholdAct_mems (s : State) (e : Eng) (d x : Nat) : (s.withholdAct e d x).state.mems = s.mems := by
  unfold State.withholdAct
  dsimp only
  (repeat' split) <;> simp

/-! #### Triggers -/

@[simp] theorem State.trigPos_mems (s : State) (x0 : Eng) : (s.trigPos x0).2.mems = s.mems := by
  unfold State.trigPos
  split <;> simp

@[simp] theorem State.trigGo_memsOk (s : State) (e : Eng) (d b : Nat) (a : Dword) (hm : MemsOk s.mems) :
    MemsOk (s.trigGo e d b a).state.mems := by
  simp [State.trigGo, hm]

@[simp] theorem State.trigAct_memsOk (s : State) (e : Eng) (d b : Nat) (a : Dword) (hm : MemsOk s.mems) :
    MemsOk (s.trigAct e d b a).state.mems := by
  unfold State.trigAct
  (repeat' split) <;> simp [hm]

/-! #### System registers -/

@[simp] theorem State.srWrite_mems (s : State) (c n v : Nat) : (s.srWrite c n v).mems = s.mems := by
  simp [State.srWrite]

@[simp] theorem State.srOp_memsOk (s : State) (e : Eng) (sub : Nat) (d : Fin 32) (sr : Fin 4096) (a : Fin 32) (f : Option
    (Nat → Nat → Nat)) (reads : Bool) (hm : MemsOk s.mems) :
    MemsOk (s.srOp e sub d sr a f reads).mems := by
  unfold State.srOp
  refine State.issue_memsOk _ _ _ _ _ _ (fun t ht => ?_) hm
  dsimp only
  split
  · exact ht
  · split <;> split <;> simpa using ht

/-! #### Traps and returns -/

@[simp] theorem State.brkHalt_mems (s : State) (x0 : Eng) : (s.brkHalt x0).mems = s.mems := by
  unfold State.brkHalt
  split <;> simp

/-! #### Fences and cache operations -/

theorem State.cacheOp_memsOk (s : State) (e : Eng) (sr : Nat) (a : Fin 32) (keeperOnly : Bool) (f : State → Nat → State)
    (hf : ∀ t x, MemsOk t.mems → MemsOk (f t x).mems) (hm : MemsOk s.mems) : MemsOk (s.cacheOp e sr a keeperOnly f).mems := by
  unfold State.cacheOp
  refine State.issue_memsOk _ _ _ _ _ _ (fun t ht => ?_) hm
  extract_lets k x
  split
  · have hc := t.complete_memsOk k (fun y => t.isNormal y.addr) ht
    split
    · next u h =>
      rw [h] at hc
      exact hf _ _ hc
    · next u h =>
      rw [h] at hc
      exact hc
  · exact hf _ _ ht

/-! #### `rulesync` and `timerestep` -/

@[simp] theorem State.rulesyncEnds_mems (s : State) (c : Nat) : (s.rulesyncEnds c).mems = s.mems := by
  simp [State.rulesyncEnds]

/-! #### The commands -/

/-- An instruction that first fences. -/
theorem State.issueFenced_memsOk (s : State) (e : Eng) (word : Nat) (who : Who) (keeperOnly : Bool) (f : State → Act)
    (hf : ∀ t : State, MemsOk t.mems → MemsOk (f t).state.mems) (hm : MemsOk s.mems) :
    MemsOk (s.issue e word who keeperOnly fun t => t.afterFence e f).mems :=
  State.issue_memsOk _ _ _ _ _ _ (fun _ ht => State.afterFence_memsOk _ _ _ hf ht) hm

section
variable {s : State} (hm : MemsOk s.mems)
include hm

theorem execTimerestep_memsOk (e : Eng) (a : Fin 32) : ∃ t, execTimerestep e a s = .next t ∧ MemsOk t.mems := by
  refine ⟨_, rfl, State.issue_memsOk _ _ _ _ _ _ (fun t ht => ?_) hm⟩
  extract_lets c
  have hr := t.timeRestep_mems c (t.gr c a.val).toInt
  split <;> next h => simpa [State.mems_of_eq h] using ht

theorem execRwait_memsOk (e : Eng) (d a : Fin 32) : ∃ t, execRwait e d a s = .next t ∧ MemsOk t.mems := by
  refine ⟨_, rfl, State.issueFenced_memsOk _ _ _ _ _ _ (fun t ht => ?_) hm⟩
  dsimp only
  split <;> simpa using ht

theorem execWline_memsOk (e : Eng) (d a b : Fin 32) : ∃ t, execWline e d a b s = .next t ∧ MemsOk t.mems :=
  ⟨_, rfl, State.issue_memsOk _ _ _ _ _ _ (fun t ht => t.withHead_memsOk _ _ _ _ (t.wlineAct_memsOk _ _ _ _ ht) ht) hm⟩

theorem execWframe_memsOk (e : Eng) (d a b : Fin 32) : ∃ t, execWframe e d a b s = .next t ∧ MemsOk t.mems := by
  refine ⟨_, rfl, State.issue_memsOk _ _ _ _ _ _ (fun t ht => ?_) hm⟩
  dsimp only
  refine t.withHead_memsOk _ _ _ _ (t.countAct_memsOk _ _ (fun u hu => ?_) ht) ht
  exact u.waitAct_memsOk _ _ none _ (by simp) hu

theorem execWtime_memsOk (e : Eng) (d a : Fin 32) : ∃ t, execWtime e d a s = .next t ∧ MemsOk t.mems := by
  refine ⟨_, rfl, State.issue_memsOk _ _ _ _ _ _ (fun t ht => ?_) hm⟩
  refine t.countAct_memsOk _ _ (fun u hu => u.waitAct_memsOk _ _ _ _ (fun p hp => ?_) hu) ht
  split at hp
  · cases hp; exact hu
  · cases hp

theorem execStamp_memsOk (e : Eng) (d b : Fin 32) : ∃ t, execStamp e d b s = .next t ∧ MemsOk t.mems :=
  ⟨_, rfl, State.issue_memsOk _ _ _ _ _ _ (fun t ht => t.withHead_memsOk _ _ _ _ (by simpa using ht) ht) hm⟩

theorem execCommit_memsOk (e : Eng) (d b : Fin 32) : ∃ t, execCommit e d b s = .next t ∧ MemsOk t.mems := by
  refine ⟨_, rfl, State.issueFenced_memsOk _ _ _ _ _ _ (fun t ht => ?_) hm⟩
  dsimp only
  exact t.withHead_memsOk _ _ _ _ (by simpa using ht) ht

theorem execPlace_memsOk (e : Eng) (d a b : Fin 32) : ∃ t, execPlace e d a b s = .next t ∧ MemsOk t.mems := by
  refine ⟨_, rfl, State.issueFenced_memsOk _ _ _ _ _ _ (fun t ht => ?_) hm⟩
  dsimp only
  split
  · exact ht
  · simpa using ht

theorem execTagld_memsOk (e : Eng) (d a b : Fin 32) : ∃ t, execTagld e d a b s = .next t ∧ MemsOk t.mems := by
  refine ⟨_, rfl, State.issue_memsOk _ _ _ _ _ _ (fun t ht => ?_) hm⟩
  dsimp only
  split
  · simpa using ht
  · exact t.tagRead_memsOk _ _ _ (fun u bs hu => by simpa using hu) ht

theorem execTagchk_memsOk (e : Eng) (d a : Fin 32) : ∃ t, execTagchk e d a s = .next t ∧ MemsOk t.mems := by
  refine ⟨_, rfl, State.issue_memsOk _ _ _ _ _ _ (fun t ht => ?_) hm⟩
  exact t.tagRead_memsOk _ _ _ (fun u bs hu => u.tagJudge_memsOk _ _ _ hu) ht

theorem execScan_memsOk (e : Eng) (d a b : Fin 32) : ∃ t, execScan e d a b s = .next t ∧ MemsOk t.mems := by
  refine ⟨_, rfl, State.issueFenced_memsOk _ _ _ _ _ _ (fun t ht => ?_) hm⟩
  dsimp only
  split
  · exact ht
  · simpa using State.chkSubmit_memsOk _ _ _ _ (t.cleanLine_memsOk _ ht)

theorem execLaneBeaconTimeout_memsOk (t : Nat) (l : Fin 64) : ∃ u, execLaneBeaconTimeout t l s = .next u ∧ MemsOk u.mems := by
  refine ⟨_, rfl, ?_⟩
  split
  · split <;> simp [hm]
  · simpa using hm

theorem execIllegalInstruction_memsOk (e : Eng) (w : Word) : ∃ t, execIllegalInstruction e w s = .next t ∧ MemsOk t.mems :=
  ⟨_, rfl, MemsOk.ite hm (State.issue_memsOk _ _ _ _ _ _ (fun _ ht => ht) hm)⟩
end

/-- Every command answers a state whose memories are in form. -/
theorem exec_memsOk (c : Instr) (s : State) (hm : MemsOk s.mems) : ∃ t, exec c s = .next t ∧ MemsOk t.mems := by
  cases c
  case maintenanceStart t ch op dur => cases op <;> exact ⟨_, rfl, by simpa using hm⟩
  case ncWindowWrite | seqMemWrite | portEnable | mgmtEnable | laneEnable | laneDisable | sensemapWrite | panelEnable | panelDisable
      | touchCmdTest | touchCmdRecover | warmReset | fenceWrite | istGo =>
    exact ⟨_, rfl, State.asWrite_memsOk _ _ _ _ _ hm fun t ht => by simp [ht]⟩
  case jmp | call | callr | trap | brk | eret | rulesync | wlineI =>
    exact ⟨_, rfl, State.issue_memsOk _ _ _ _ _ _ (fun t ht => by simp [ht]) hm⟩
  case cclean | cinval | cflush =>
    exact ⟨_, rfl, State.cacheOp_memsOk _ _ _ _ _ _ (fun t x ht => by simp [ht]) hm⟩
  case rput | rget | rbell =>
    exact ⟨_, rfl, State.ringOp_memsOk _ _ _ _ _ _ _ (fun t x r ht => by simp [ht]) hm⟩
  case fence | fenceI | pick | withhold | trig =>
    exact ⟨_, rfl, State.issueFenced_memsOk _ _ _ _ _ _ (fun t ht => by simp [ht]) hm⟩
  case bringupStageDone | bringupTimeout | bringupRestart | capSend | laneSignalLoss | blockSend | seqBudget =>
    exact ⟨_, rfl, by split <;> simp [hm]⟩
  case timerestep => exact execTimerestep_memsOk hm ..
  case rwait => exact execRwait_memsOk hm ..
  case wline => exact execWline_memsOk hm ..
  case wframe => exact execWframe_memsOk hm ..
  case wtime => exact execWtime_memsOk hm ..
  case stamp => exact execStamp_memsOk hm ..
  case commit => exact execCommit_memsOk hm ..
  case place => exact execPlace_memsOk hm ..
  case tagld => exact execTagld_memsOk hm ..
  case tagchk => exact execTagchk_memsOk hm ..
  case scan => exact execScan_memsOk hm ..
  case laneBeaconTimeout => exact execLaneBeaconTimeout_memsOk hm ..
  case illegalInstruction => exact execIllegalInstruction_memsOk hm ..
  all_goals exact ⟨_, rfl, by simp [hm]⟩
/-- Settles O56: a step of the command in front is `exec` of it, and no command takes a memory out of its form. -/
theorem memoriesKeepTheirForm : Obligations.MemoriesKeepTheirForm := by
  unfold Obligations.MemoriesKeepTheirForm
  intro s t hs h
  rw [← State.memsOk_iff] at hs ⊢
  unfold step at h
  split at h
  · cases h; simpa using hs
  · next c cs _ =>
    obtain ⟨u, hu, hm⟩ := exec_memsOk c { s with pending := cs } hs
    rw [hu] at h
    cases h
    exact hm

end Sys2Proof.Machine
end

section
/-! The checks of an access at its initiator and at its target (O19). -/
namespace Sys2Proof.Machine

/-! ### The bytes of an access against the address map and the regions -/

theorem State.firstUnmapped_eq_none_iff (s : State) (a n : Nat) :
    s.firstUnmapped a n = none ↔ ∀ b, a ≤ b → b < a + n → s.region b ≠ .unmapped := by
  induction n generalizing a with
  | zero => simp only [State.firstUnmapped, true_iff]; omega
  | succ n ih =>
    unfold State.firstUnmapped
    split
    · next h => simp only [reduceCtorEq, false_iff, not_forall]; exact ⟨a, le_rfl, by omega, by simp [h]⟩
    · next h =>
      rw [ih]
      refine ⟨fun g b hb hn => ?_, fun g b hb hn => g b (by omega) (by omega)⟩
      rcases hb.eq_or_lt with rfl | hb
      · exact h
      · exact g b hb (by omega)

/-- Region `r` of the rule sets is enabled and holds the byte `a`. -/
def State.RegionHolds (s : State) (r a : Nat) : Prop :=
  s.on (F.REGION_EN 0 r) = true ∧ s.regionBase 0 r ≤ a ∧ a ≤ s.regionLast 0 r

/-- Region `r` of set `n` is the lowest that holds the byte `a`. -/
def State.FirstRegion (s : State) (n a r : Nat) : Prop :=
  r < 16 ∧ s.RegionHolds (16 * n + r) a ∧ ∀ q, q < r → ¬s.RegionHolds (16 * n + q) a

theorem State.findRegion_of_holds {s : State} {n a r : Nat} (hr : s.RegionHolds (16 * n + r) a) (k i : Nat) (hi : i ≤ r) (hk : r < i + k)
    (hq : ∀ q, i ≤ q → q < r → ¬s.RegionHolds (16 * n + q) a) : s.findRegion n a i k = some (16 * n + r) := by
  induction k generalizing i with
  | zero => omega
  | succ k ih =>
    unfold State.findRegion
    rcases hi.eq_or_lt with rfl | hlt
    · obtain ⟨he, hb, hl⟩ := hr
      simp [he, hb, hl]
    · have hn := hq i le_rfl hlt
      rw [State.RegionHolds] at hn
      rw [if_neg (by simpa [and_assoc] using hn)]
      exact ih (i + 1) hlt (by omega) fun q h => hq q (by omega)

theorem State.findRegion_of_not_holds {s : State} {n a : Nat} (k i : Nat) (hq : ∀ q, i ≤ q → q < i + k → ¬s.RegionHolds (16 * n + q) a) :
    s.findRegion n a i k = none := by
  induction k generalizing i with
  | zero => rfl
  | succ k ih =>
    have hn := hq i le_rfl (by omega)
    rw [State.RegionHolds] at hn
    unfold State.findRegion
    rw [if_neg (by simpa [and_assoc] using hn)]
    exact ih (i + 1) fun q h h' => hq q (by omega) (by omega)

/-- The lowest region that holds a byte grants it, or the byte has class 2 (R457, R459). -/
theorem State.byteClass_of_first {s : State} {src : Src} {a r : Nat} (k : AccKind) (h : s.FirstRegion (s.setOf src.id) a r) :
    s.byteClass src k a = if permOk (s.get (F.REGION_PERM 0 (16 * s.setOf src.id + r))) src.keeper k then 0 else 2 := by
  obtain ⟨hr, hh, hq⟩ := h
  unfold State.byteClass
  rw [State.findRegion_of_holds hh 16 0 (by omega) (by omega) fun q _ => hq q]

/-- A byte that no region holds has class 1 at User level and under LOCKDOWN (R458, R459). -/
theorem State.byteClass_of_none {s : State} {src : Src} {a : Nat} (k : AccKind) (h : ∀ r, r < 16 → ¬s.RegionHolds (16 * s.setOf src.id + r) a)
    (hl : src.keeper = false ∨ s.on F.PROT_CTRL_LOCKDOWN = true) : s.byteClass src k a = 1 := by
  unfold State.byteClass
  rw [State.findRegion_of_not_holds 16 0 fun q _ hq => h q (by omega)]
  rcases hl with hl | hl <;> simp [hl]

theorem State.firstBad_eq_none {s : State} {src : Src} {k : AccKind} {a n : Nat} (h : ∀ b, a ≤ b → b < a + n → s.byteClass src k b = 0) :
    s.firstBad src k a n = none := by
  induction n generalizing a with
  | zero => rfl
  | succ n ih =>
    unfold State.firstBad
    rw [if_pos (h a le_rfl (by omega))]
    exact ih fun b hb hn => h b (by omega) (by omega)

theorem State.firstBad_head {s : State} {src : Src} {k : AccKind} {a n : Nat} (hn : 0 < n) (h : s.byteClass src k a ≠ 0) :
    s.firstBad src k a n = some (a, s.byteClass src k a) := by
  obtain ⟨m, rfl⟩ := Nat.exists_eq_add_of_lt hn
  simp [State.firstBad, h]

/-! ### The check at the initiator -/

/-- The transaction of `u` is refused with class `cls`: FAULT and PROT.REFUSED alone change (R459, R462). -/
def RefusedWith (s : State) (a cls : Nat) (u : Bool × State) : Prop :=
  u.1 = false ∧ OnlyLogged [F.PROT_REFUSED.key] s u.2 ∧ ∃ r ∈ u.2.log.recent.head?, r.cls = cls ∧ r.addr1 = a

theorem State.refusedWith_refuse (s : State) (cls : Nat) (src : Src) (k : AccKind) (a bad len set e : Nat) :
    RefusedWith s a cls (false, s.refuse cls src k a bad len set e) := by
  obtain ⟨r, hr, hc, ha, _⟩ := s.refuse_newest cls src k a bad len set e
  exact ⟨rfl, s.refuse_onlyLogged .., r, hr, hc, ha⟩

theorem State.initCheck_of_mapCheck {s : State} {a len c b : Nat} (src : Src) (k : AccKind) (h : s.mapCheck a len = some (c, b)) :
    RefusedWith s a c (s.initCheck src k a len) := by
  unfold State.initCheck
  rw [h]
  exact s.refusedWith_refuse ..

theorem State.initCheck_of_firstBad {s : State} {src : Src} {k : AccKind} {a len c b : Nat} (hm : s.mapCheck a len = none)
    (h : s.firstBad src k a len = some (b, c)) : RefusedWith s a c (s.initCheck src k a len) := by
  unfold State.initCheck
  rw [hm]
  dsimp only
  rw [h]
  exact s.refusedWith_refuse ..

theorem State.initCheck_of_granted {s : State} {src : Src} {k : AccKind} {a len : Nat} (hm : s.mapCheck a len = none)
    (h : s.firstBad src k a len = none) : s.initCheck src k a len = (true, s) := by
  unfold State.initCheck
  rw [hm]
  dsimp only
  rw [h]

theorem State.mapCheck_unmapped {s : State} {a len : Nat} (h : ¬∀ b, a ≤ b → b < a + len → s.region b ≠ .unmapped) :
    ∃ b, s.mapCheck a len = some (4, b) := by
  rw [← State.firstUnmapped_eq_none_iff] at h
  obtain ⟨b, hb⟩ := Option.ne_none_iff_exists'.1 h
  exact ⟨b, by simp [State.mapCheck, hb]⟩

theorem State.mapCheck_mapped {s : State} {a len : Nat} (h : ∀ b, a ≤ b → b < a + len → s.region b ≠ .unmapped) :
    s.mapCheck a len = if (s.region a).isReg && !widthOk a len then some (5, a) else none := by
  rw [← State.firstUnmapped_eq_none_iff] at h
  simp [State.mapCheck, h]

theorem widthOk_iff (a len : Nat) : widthOk a len = true ↔ (len = 4 ∧ a % 4 = 0) ∨ (len = 8 ∧ a % 8 = 0) := by
  simp [widthOk]

section
variable {s : State} {src : Src} {k : AccKind} {a len : Nat}

/-- The width of an access: in register space 4 bytes aligned to 4, or 8 aligned to 8 (R459). -/
def State.WidthFits (s : State) (a len : Nat) : Prop := (s.region a).isReg = true → (len = 4 ∧ a % 4 = 0) ∨ (len = 8 ∧ a % 8 = 0)

theorem State.mapCheck_fits (hmap : ∀ b, a ≤ b → b < a + len → s.region b ≠ .unmapped) (hw : s.WidthFits a len) :
    s.mapCheck a len = none := by
  rw [State.mapCheck_mapped hmap, if_neg]
  rw [Bool.and_eq_true, Bool.not_eq_true', ← Bool.not_eq_true, widthOk_iff]
  exact fun h => h.2 (hw h.1)

theorem State.initCheck_unmapped (h : ¬∀ b, a ≤ b → b < a + len → s.region b ≠ .unmapped) :
    RefusedWith s a 4 (s.initCheck src k a len) := by
  obtain ⟨b, hb⟩ := State.mapCheck_unmapped h
  exact State.initCheck_of_mapCheck _ _ hb

theorem State.initCheck_misfit (hmap : ∀ b, a ≤ b → b < a + len → s.region b ≠ .unmapped) (h : ¬s.WidthFits a len) :
    RefusedWith s a 5 (s.initCheck src k a len) := by
  refine State.initCheck_of_mapCheck (b := a) _ _ ?_
  rw [State.mapCheck_mapped hmap, if_pos]
  rw [Bool.and_eq_true, Bool.not_eq_true', ← Bool.not_eq_true, widthOk_iff]
  exact Classical.not_imp.1 h

theorem State.initCheck_notGranted {r : Nat} (hlen : 0 < len) (hm : s.mapCheck a len = none) (hr : s.FirstRegion (s.setOf src.id) a r)
    (hg : permOk (s.get (F.REGION_PERM 0 (16 * s.setOf src.id + r))) src.keeper k ≠ true) :
    RefusedWith s a 2 (s.initCheck src k a len) := by
  have hcls : s.byteClass src k a = 2 := (State.byteClass_of_first k hr).trans (if_neg hg)
  exact State.initCheck_of_firstBad hm (by rw [State.firstBad_head hlen (by simp [hcls]), hcls])

theorem State.initCheck_outside (hlen : 0 < len) (hm : s.mapCheck a len = none)
    (hno : ∀ r, r < 16 → ¬s.RegionHolds (16 * s.setOf src.id + r) a) (hl : src.keeper = false ∨ s.on F.PROT_CTRL_LOCKDOWN = true) :
    RefusedWith s a 1 (s.initCheck src k a len) := by
  have hcls : s.byteClass src k a = 1 := State.byteClass_of_none k hno hl
  exact State.initCheck_of_firstBad hm (by rw [State.firstBad_head hlen (by simp [hcls]), hcls])

theorem State.initCheck_granted (hm : s.mapCheck a len = none)
    (h : ∀ b, a ≤ b → b < a + len → ∃ r, s.FirstRegion (s.setOf src.id) b r ∧
      permOk (s.get (F.REGION_PERM 0 (16 * s.setOf src.id + r))) src.keeper k = true) : s.initCheck src k a len = (true, s) := by
  refine State.initCheck_of_granted hm (State.firstBad_eq_none fun b hb hn => ?_)
  obtain ⟨r, hr, hg⟩ := h b hb hn
  exact (State.byteClass_of_first k hr).trans (if_pos hg)
end

/-! ### The commands of software and of an initiator -/

/-- A command to a register that its initiator's check refuses does nothing else (R25, R462). -/
theorem State.regCommand_refused {s : State} {i : Initiator} {k : AccKind} {a : Nat} {data : List Byte}
    (h : (s.initCheck (s.issuer i) k a 4).1 = false) : s.regCommand i k a data = (s.initCheck (s.issuer i) k a 4).2 := by
  have e : @State.regCommand = @State.regCommand := rfl
  conv at e => lhs; delta State.regCommand
  have eq := congr_fun₂ (congr_fun₃ e s i k) a data
  beta_reduce at eq
  rw [← eq]
  extract_lets src
  split
  next ok t ht =>
    rw [ht] at h ⊢
    exact if_pos (by cases (h : ok = false); rfl)

/-- A transaction within one block of 256 bytes stays whole (R456). -/
theorem splitTx_within {a n : Nat} (h0 : 0 < n) (hn : a % 256 + n ≤ 256) : splitTx 3 a n = [(a, n)] := by
  have hm : min n (256 - a % 256) = n := by omega
  simp [splitTx, hm, h0.ne']

theorem slice_whole (bs : List Byte) : slice bs 0 bs.length = bs := by simp [slice]

/-- A transaction that passes enters flight with the tags of its initiator (R456, R463). -/
theorem State.launch_passed {s : State} {src : Src} {k : AccKind} {a len : Nat} (data : List Byte) (h : (s.initCheck src k a len).1 = true) :
    s.launch src k a len data = { s with bus := { s.bus with inflight := s.bus.inflight ++ [s.tagged src k a len data] } } := by
  unfold State.launch
  rw [State.initCheck_passes h]
  rfl

/-! ### The check at the target -/

theorem State.firstBad_inflight (s : State) (q : List Access) (src : Src) (k : AccKind) (a n : Nat) :
    { s with bus := { s.bus with inflight := q } }.firstBad src k a n = s.firstBad src k a n := by
  have hr (m i j : Nat) (b : Nat) : { s with bus := { s.bus with inflight := q } }.findRegion m b i j = s.findRegion m b i j := by
    induction j generalizing i with
    | zero => rfl
    | succ j ih => simp only [State.findRegion, ih]; rfl
  have hc (b : Nat) : { s with bus := { s.bus with inflight := q } }.byteClass src k b = s.byteClass src k b := by
    unfold State.byteClass
    rw [hr]
    rfl
  induction n generalizing a with
  | zero => rfl
  | succ n ih => simp only [State.firstBad, ih, hc]

/-- An access with a stale tag whose bytes the rules now refuse is refused with class 3 and counted (R463). -/
theorem State.tgtCheck_stale {s : State} {x : Access} (hm : s.mapCheck x.addr x.len = none) (ht : s.staleTag x = true)
    (hb : (s.firstBad x.src x.kind x.addr x.len).isSome = true) :
    ∃ b, s.tgtCheck x = (false, (s.bump F.PROT_EPOCH_REFUSED).refuse 3 x.src x.kind x.addr b x.len x.set x.epoch) := by
  obtain ⟨⟨b, c⟩, hb⟩ := Option.isSome_iff_exists.1 hb
  refine ⟨b, ?_⟩
  unfold State.tgtCheck
  simp only [hm, ht, hb, if_true]

/-- A core's store that its target refuses leaves flight and joins the imprecise refusals of the core (R161, R163). -/
theorem State.land_refused {s t : State} {j : Nat} {x : Access} {f : List (Nat × MemFind)} (hx : s.bus.inflight[j]? = some x)
    (hk : x.kind = .write) (hc : x.src.id.val < 16)
    (ht : { s with bus := { s.bus with inflight := s.bus.inflight.eraseIdx j } }.tgtCheck x = (false, t)) :
    s.land j f = t.setEngine x.src.id.val
      { t.engine x.src.id.val with impr := (t.engine x.src.id.val).impr ++ [(x.addr, x.word)] } := by
  unfold State.land
  rw [hx]
  dsimp only [State.atTarget]
  rw [ht]
  simp [hk, State.storeFailed, hc]

/-- The counter of a bumped field below its end goes up by one. -/
theorem State.reg_bump_same {s : State} {f : Fld} (h : (s.reg f.key).toNat < 2 ^ 31 - 1) : (s.bump f).reg f.key = s.reg f.key + 1 := by
  unfold State.bump
  rw [State.reg_setReg_same, if_neg (by omega)]
  exact BitVec.eq_of_toNat_eq (by simp)

/-- A refusal leaves the registers outside FAULT and PROT.REFUSED. -/
theorem State.reg_refuse (s : State) (cls : Nat) (src : Src) (k : AccKind) (a bad len set e key : Nat) (hk : key / 0x100000 ≠ 21)
    (hr : key ≠ F.PROT_REFUSED.key) (hc : isCtxOwn key = false) : (s.refuse cls src k a bad len set e).reg key = s.reg key := by
  unfold State.refuse
  rw [(State.raise_logOnly ..).reg key hk hc]
  exact State.reg_setReg_ne _ _ _ _ hr hc

/-- What the target of a store with a stale tag does when the rules now refuse it (R161, R463). -/
theorem reaches_refusal_of_stale {x : Access} {q : List Access} (f : List (Nat × MemFind)) {s : State} (hq : s.bus.inflight = x :: q)
    (hk : x.kind = .write) (hc : x.src.id.val < 16) (hm : s.mapCheck x.addr x.len = none) (ht : s.staleTag x = true)
    (hb : (s.firstBad x.src x.kind x.addr x.len).isSome = true) (hh : (s.engine x.src.id.val).halting = none) (hs : s.accessStalls x = false) :
    Reaches (.targetCheck 0 f) s (fun t => SameBytes s t ∧ t.bus.inflight = q ∧
      (∃ r ∈ t.log.recent.head?, r.cls = 3 ∧ r.addr1 = x.addr) ∧
      (t.engine x.src.id.val).impr = (s.engine x.src.id.val).impr ++ [(x.addr, x.word)] ∧
      ((s.reg F.PROT_EPOCH_REFUSED.key).toNat < 2 ^ 31 - 1 → t.reg F.PROT_EPOCH_REFUSED.key = s.reg F.PROT_EPOCH_REFUSED.key + 1) ∧
      ∀ j r, t.gr j r = s.gr j r) := by
  obtain ⟨b, hv⟩ := State.tgtCheck_stale (s := { s with bus := { s.bus with inflight := q } }) (x := x)
    ((s.mapCheck_inflight ..).trans hm) ht (by rw [State.firstBad_inflight]; exact hb)
  set u := State.bump { s with bus := { s.bus with inflight := q } } F.PROT_EPOCH_REFUSED with hu
  set v := u.refuse 3 x.src x.kind x.addr b x.len x.set x.epoch with hvdef
  have hvu : RegsOnly u v := u.refuse_regsOnly ..
  have hvs : RegsOnly { s with bus := { s.bus with inflight := q } } v := ((RegsOnly.refl _).setReg _ _).trans hvu
  obtain ⟨regs, log, hrl⟩ := hvs
  have heng : ∀ j, v.engine j = s.engine j := fun j => by rw [hrl]; rfl
  have hland : s.land 0 f = v.setEngine x.src.id.val
      { v.engine x.src.id.val with impr := (v.engine x.src.id.val).impr ++ [(x.addr, x.word)] } :=
    State.land_refused (by simp [hq]) hk hc (by simpa [hq] using hv)
  refine ⟨(s.land 0 f).settleHalt x.src.id.val, congrArg Host.Outcome.next (State.reach_zero hq hs), ?_⟩
  rw [hland, State.settleHalt_of_none (by rw [State.engine_setEngine_same, heng]; exact hh)]
  refine ⟨fun a => ?_, ?_, ?_, ?_, fun hn => ?_, fun j r => ?_⟩
  · rw [hrl]; exact ⟨rfl, rfl, rfl⟩
  · rw [hrl]; rfl
  · obtain ⟨r, hr, hcls, ha, _⟩ := u.refuse_newest 3 x.src x.kind x.addr b x.len x.set x.epoch
    exact ⟨r, hr, hcls, ha⟩
  · rw [State.engine_setEngine_same, heng]
  · exact (u.reg_refuse _ _ _ _ _ _ _ _ _ (by decide) (by decide) (by decide)).trans (State.reg_bump_same hn)
  · unfold State.gr
    rcases eq_or_ne j x.src.id.val with rfl | hj
    · rw [State.engine_setEngine_same, heng]
    · rw [State.engine_setEngine_ne _ _ _ _ hj, heng]

/-- Settles O19: the first forbidden byte decides the class, at the initiator and, for a stale tag, at the target. -/
theorem initiatorChecks : Obligations.InitiatorChecks := by
  unfold Obligations.InitiatorChecks
  refine ⟨fun i k a len x v s hlen => ?_, fun i k a len data s hlen hblk hdata hok => ?_,
    fun x q f s hq hk hc hm ht hb hh hs => reaches_refusal_of_stale f hq hk hc hm ht hb hh hs⟩
  · exact ⟨State.initCheck_unmapped, State.initCheck_misfit,
      fun hmap hw ⟨r, hr, hg⟩ => State.initCheck_notGranted hlen (State.mapCheck_fits hmap hw) hr hg,
      fun hmap hw hno hl => State.initCheck_outside hlen (State.mapCheck_fits hmap hw) hno hl,
      fun hmap hw hall => State.initCheck_granted (State.mapCheck_fits hmap hw) hall,
      fun h => congrArg Host.Outcome.next (State.regCommand_refused h)⟩
  · have hs : exec (.initiatorCheck i k a len data) s =
        .next ((splitTx 3 a len.val).foldl (fun t p => t.launch (s.issuer i) k p.1 p.2 (slice data (p.1 - a) p.2)) s) := rfl
    rw [hs, splitTx_within hlen hblk]
    simp only [List.foldl_cons, List.foldl_nil, Nat.sub_self]
    rw [State.launch_passed _ hok, ← hdata, slice_whole]
    rfl

end Sys2Proof.Machine
end

section
/-! The clock domains (O35): what follows when a domain is lost leaves MODE, DEGRADED, PWR.STATUS and CLK.FAULT to the few
operations that write them. -/
namespace Sys2Proof.Machine

/-! ### What leaves MODE, DEGRADED, PWR.STATUS and CLK.FAULT -/

/-- The keys of MODE, DEGRADED, PWR.STATUS and CLK.FAULT. -/
def clockKeys : List Nat := [0, 8, 0x100000, 0x300004]

/-- Those four registers of `t` stand as in `s`. -/
structure SameClock (s t : State) : Prop where
  reg : ∀ k ∈ clockKeys, t.reg k = s.reg k

theorem mem_clockKeys {k : Nat} : k ∈ clockKeys ↔ k = 0 ∨ k = 8 ∨ k = 0x100000 ∨ k = 0x300004 := by simp [clockKeys]

theorem not_mem_clockKeys {k : Nat} (h : 0x400000 ≤ k) : k ∉ clockKeys := by
  rw [mem_clockKeys]
  omega

theorem isCtxOwn_of_clock {k : Nat} (hk : k ∈ clockKeys) : isCtxOwn k = false := by
  obtain rfl | rfl | rfl | rfl := mem_clockKeys.1 hk <;> rfl

theorem SameClock.refl (s : State) : SameClock s s := ⟨fun _ _ => rfl⟩

theorem SameClock.trans {s t u : State} (h : SameClock s t) (g : SameClock t u) : SameClock s u :=
  ⟨fun k hk => (g.reg k hk).trans (h.reg k hk)⟩

theorem SameClock.of_regs {s t : State} (h : t.regs = s.regs) : SameClock s t := ⟨fun k _ => by simp [State.reg, h]⟩

theorem SameClock.ite {s t u : State} {c : Prop} [Decidable c] (ht : SameClock s t) (hu : SameClock s u) :
    SameClock s (if c then t else u) := by
  split <;> assumption

theorem SameClock.foldl {α : Type} (f : State → α → State) (l : List α) (h : ∀ t, ∀ a ∈ l, SameClock t (f t a)) (s : State) :
    SameClock s (l.foldl f s) := by
  induction l generalizing s with
  | nil => exact SameClock.refl s
  | cons a l ih => exact (h s a List.mem_cons_self).trans (ih (fun t b hb => h t b (List.mem_cons_of_mem _ hb)) _)

theorem State.setReg_sameClock (s : State) (k : Nat) (w : Word) (hk : k ∉ clockKeys) : SameClock s (s.setReg k w) :=
  ⟨fun _ hj => State.reg_setReg_ne _ _ _ _ (fun h => hk (h ▸ hj)) (isCtxOwn_of_clock hj)⟩

theorem LogOnly.sameClock {s t : State} (h : LogOnly s t) : SameClock s t :=
  ⟨fun k hk => h.reg k (by obtain rfl | rfl | rfl | rfl := mem_clockKeys.1 hk <;> decide) (isCtxOwn_of_clock hk)⟩

theorem State.setPanel_sameClock (s : State) (p : Nat) (x : Panel) : SameClock s (s.setPanel p x) := SameClock.of_regs rfl
theorem State.setSide_sameClock (s : State) (k : Nat) (x : Side) : SameClock s (s.setSide k x) := SameClock.of_regs rfl
theorem State.setCtx_sameClock (s : State) (c : Nat) (x : Ctx) : SameClock s (s.setCtx c x) := SameClock.of_regs rfl
theorem State.setEngine_sameClock (s : State) (k : Nat) (e : Engine) : SameClock s (s.setEngine k e) := SameClock.of_regs rfl

section
variable {s t : State} (h : SameClock s t)
include h

theorem SameClock.put (f : Fld) (v : Nat) (hf : 0x400000 ≤ f.key) : SameClock s (t.put f v) :=
  h.trans (t.setReg_sameClock _ _ (not_mem_clockKeys hf))
theorem SameClock.putB (f : Fld) (b : Bool) (hf : 0x400000 ≤ f.key) : SameClock s (t.putB f b) := h.put f _ hf
theorem SameClock.putBit (f : Fld) (i : Nat) (b : Bool) (hf : 0x400000 ≤ f.key) : SameClock s (t.putBit f i b) := h.put f _ hf
theorem SameClock.bump (f : Fld) (hf : 0x400000 ≤ f.key) : SameClock s (t.bump f) := h.trans (t.setReg_sameClock _ _ (not_mem_clockKeys hf))
theorem SameClock.raise (cls a1 a2 d : Nat) (lim : Option Nat) : SameClock s (t.raise cls a1 a2 d lim) :=
  h.trans (t.raise_logOnly ..).sameClock
end

/-! ### Rings and panels -/

theorem State.ringRefuse_sameClock (s : State) (k code : Nat) : SameClock s (s.ringRefuse k code) :=
  ((SameClock.refl s).bump _ (by decide)).raise ..

theorem State.ringUpdate_sameClock (s : State) (k : Nat) : SameClock s (s.ringUpdate k) := by
  unfold State.ringUpdate
  refine SameClock.putBit ?_ _ _ _ (Nat.le_add_right_of_le (by decide))
  split
  · exact SameClock.of_regs rfl
  · split <;> exact SameClock.of_regs rfl

theorem State.refuse_sameClock (s : State) (cls : Nat) (src : Src) (k : AccKind) (a bad len set e : Nat) :
    SameClock s (s.refuse cls src k a bad len set e) := by
  unfold State.refuse
  exact ((SameClock.refl s).bump _ (by decide)).raise ..

theorem State.initCheck_sameClock (s : State) (src : Src) (k : AccKind) (a len : Nat) : SameClock s (s.initCheck src k a len).2 := by
  unfold State.initCheck
  dsimp only
  split
  · exact s.refuse_sameClock ..
  · split
    · exact s.refuse_sameClock ..
    · exact SameClock.refl s

theorem State.unitPut_sameClock (s : State) (src : Src) (a : Nat) (bs : List Byte) : SameClock s (s.unitPut src a bs) := by
  unfold State.unitPut
  split <;> exact SameClock.of_regs rfl

theorem State.unitWrite_sameClock (s : State) (src : Src) (a : Nat) (bs : List Byte) : SameClock s (s.unitWrite src a bs).2 := by
  unfold State.unitWrite
  generalize splitTx (bs.length / 256 + 2) a bs.length = l
  suffices h : ∀ p : Bool × State, SameClock s p.2 → SameClock s (l.foldl _ p).2 from h (true, s) (SameClock.refl s)
  induction l with
  | nil => exact fun p hp => hp
  | cons t l ih =>
    intro p hp
    refine ih _ ?_
    have hi := hp.trans (p.2.initCheck_sameClock src .write t.1 t.2)
    dsimp only
    split
    · exact hi.trans (State.unitPut_sameClock ..)
    · exact hi

theorem State.ringPost_sameClock (s : State) (src : Src) (k : Nat) (e : List Byte) : SameClock s (s.ringPost src k e).2 := by
  unfold State.ringPost
  split
  · exact s.ringRefuse_sameClock ..
  split
  · exact s.ringRefuse_sameClock ..
  split
  · exact s.ringRefuse_sameClock ..
  split
  · exact SameClock.refl s
  have hw := s.unitWrite_sameClock src (s.ringAddr k (s.get (F.RINGS_PUT k))) e
  dsimp only
  split
  · exact (hw.put _ _ (Nat.le_add_right_of_le (by decide))).trans (State.ringUpdate_sameClock ..)
  · exact hw.trans (State.ringRefuse_sameClock ..)

theorem State.touchPost_sameClock (s : State) (p : Nat) (b : List Byte) : SameClock s (s.touchPost p b) := by
  have hr := s.ringPost_sameClock touchSrc (s.get F.TOUCH_CTRL_RING) (slice b 0 256)
  unfold State.touchPost
  split
  · next h =>
    rw [h] at hr
    exact hr
  · next h =>
    rw [h] at hr
    exact (hr.bump _ (by decide)).raise ..

theorem State.touchReport_sameClock (s : State) (p flags stamp scan : Nat) (lifts : List (Touch × Nat)) :
    SameClock s (s.touchReport p flags stamp scan lifts) := by
  unfold State.touchReport
  exact (s.setPanel_sameClock ..).trans (State.touchPost_sameClock ..)

theorem State.freeVal_sameClock (s : State) (w : Nat) : SameClock s (s.freeVal w).2 := SameClock.of_regs rfl

theorem State.liftAll_sameClock (s : State) (p reason : Nat) : SameClock s (s.liftAll p reason) := by
  unfold State.liftAll
  extract_lets x t
  have ht : SameClock s t := (s.setPanel_sameClock ..).put _ _ (Nat.le_add_right_of_le (by decide))
  split
  · exact ht
  · exact ((ht.trans (t.freeVal_sameClock 32)).trans (State.freeVal_sameClock _ 16)).trans (State.touchReport_sameClock ..)

theorem State.panelLost_sameClock (s : State) (p : Nat) : SameClock s (s.panelLost p) := by
  unfold State.panelLost
  split
  · exact SameClock.refl s
  · exact (s.liftAll_sameClock p 2).trans (SameClock.of_regs rfl)

theorem State.touchSampleLost_sameClock (s : State) : SameClock s s.touchSampleLost :=
  SameClock.foldl _ _ (fun t p _ => t.panelLost_sameClock p) s

theorem State.enterSettle_sameClock (s : State) (p cause : Nat) : SameClock s (s.enterSettle p cause) := by
  have h : SameClock s ((s.setPhase p phaseSettle).put (F.PANEL_STATE_CAUSE p) cause) :=
    ((SameClock.refl s).put _ _ (by simp only [F.PANEL_STATE_PHASE]; omega)).put _ _ (by simp only [F.PANEL_STATE_CAUSE]; omega)
  unfold State.enterSettle State.fullRate
  refine SameClock.trans (SameClock.put (h.trans (SameClock.of_regs rfl)) _ _ ?_) (SameClock.of_regs rfl)
  simp only [F.PANEL_STATE_RATE]; omega

theorem State.touchSampleBack_sameClock (s : State) : SameClock s s.touchSampleBack := by
  refine SameClock.foldl _ _ (fun t p _ => SameClock.ite (SameClock.refl t) ?_) s
  exact (t.setPanel_sameClock ..).trans (State.enterSettle_sameClock ..)

/-! ### Sides -/

theorem State.audioSampleLost_sameClock (s : State) : SameClock s s.audioSampleLost := by
  unfold State.audioSampleLost
  exact SameClock.foldl _ _ (fun t e _ => t.setSide_sameClock ..) s

theorem State.sideStart_sameClock (s : State) (k : Nat) : SameClock s (s.sideStart k) := by
  unfold State.sideStart State.setSideState State.txRestart
  refine SameClock.put ?_ _ _ (by simp only [F.SIDE_STATE]; omega)
  exact (s.setSide_sameClock ..).trans (SameClock.foldl _ _ (fun t c _ => t.setCtx_sameClock ..) _)

theorem State.audioSampleBack_sameClock (s : State) : SameClock s s.audioSampleBack :=
  SameClock.foldl _ _ (fun t k _ => SameClock.ite (t.sideStart_sameClock k) (SameClock.refl t)) s

/-! ### Tests -/

theorem unitStateFld_key {u : Nat} {f : Fld} (h : unitStateFld u = some f) : 0x400000 ≤ f.key := by
  unfold unitStateFld at h
  split_ifs at h <;> cases h
  · simp only [F.PIPE_STATE]; omega
  · simp only [F.EPIPE_STATE]; omega
  · unfold vigilState; split <;> decide
  · simp only [F.LANE_STATE_STAGE]; omega

theorem State.untest_sameClock (s : State) (u : Nat) : SameClock s (s.untest u) := by
  unfold State.untest
  split
  · next h =>
    exact SameClock.ite (SameClock.refl s) (((SameClock.refl s).put _ _ (unitStateFld_key h)).put _ _ (by decide))
  · exact SameClock.refl s

theorem State.endTest_sameClock (s : State) (result detail : Nat) : SameClock s (s.endTest result detail) := by
  unfold State.endTest
  split
  · exact SameClock.refl s
  · next u _ =>
    have hr : 0x400000 ≤ (F.TEST_RESULT_RESULT u).key := Nat.le_add_right_of_le (by decide)
    extract_lets _ t
    have ht : SameClock s t := SameClock.of_regs rfl
    have hs : SameClock s ((t.put F.TEST_STATUS_STATE 0).put F.TEST_IST_CMD_STATUS 0) := (ht.put _ _ (by decide)).put _ _ (by decide)
    exact (((hs.put (F.TEST_RESULT_RESULT u) _ hr).putB (F.TEST_RESULT_IN_SERVICE u) _ hr).put (F.TEST_RESULT_DETAIL u) _ hr).raise ..

theorem State.stopTest_sameClock (s : State) : SameClock s s.stopTest := by
  unfold State.stopTest
  split
  · exact SameClock.refl s
  · exact (s.untest_sameClock _).trans (State.endTest_sameClock ..)

/-! ### Engines -/

theorem State.stopInto_sameClock (s : State) {c : Nat} (st : Nat) (hc : c < 16) : SameClock s (s.stopInto c st) := by
  have hk (j : Nat) (hj : j < 0x40) : 0x1000 + j + 0x40 * c ∉ clockKeys := by rw [mem_clockKeys]; omega
  have h : SameClock s (s.stopCore c st) :=
    (((s.setEngine_sameClock c _).trans (State.setReg_sameClock _ _ _ (hk 4 (by decide)))).trans
      (State.setReg_sameClock _ _ _ (hk 0x18 (by decide)))).trans (State.setReg_sameClock _ _ _ (hk 0x1C (by decide)))
  unfold State.stopInto
  exact SameClock.ite (h.raise ..) h

theorem State.haltCore_sameClock (s : State) {c : Nat} (hc : c < 16) : SameClock s (s.haltCore c) := by
  unfold State.haltCore State.haltInto
  exact SameClock.ite (SameClock.ite (SameClock.of_regs rfl) (s.stopInto_sameClock _ hc)) (SameClock.refl s)

theorem State.haltSeq_sameClock (s : State) (n : Nat) : SameClock s (s.haltSeq n) := by
  unfold State.haltSeq
  exact SameClock.ite ((SameClock.put (s.setEngine_sameClock ..) _ _ (Nat.le_add_right_of_le (by decide)))) (SameClock.refl s)

theorem State.haltEngines_sameClock (s : State) : SameClock s s.haltEngines :=
  (SameClock.foldl _ _ (fun t _ hc => t.haltCore_sameClock (List.mem_range.1 hc)) s).trans
    (SameClock.foldl _ _ (fun t n _ => t.haltSeq_sameClock n) _)

/-! ### Bits of a field -/

theorem bitAt_mod {n i w : Nat} (h : i < w) : bitAt (n % 2 ^ w) i = bitAt n i := by
  simp only [bitAt, ← Nat.testBit_eq_decide_div_mod_eq, Nat.testBit_mod_two_pow, h, decide_true, Bool.true_and]

theorem bitAt_setBit_same (n i : Nat) : bitAt (setBit n i true) i = true := by
  unfold setBit
  split
  · assumption
  · next h =>
    have hp : 0 < 2 ^ i := Nat.two_pow_pos i
    simp only [bitAt, decide_eq_true_eq] at h ⊢
    rw [if_pos trivial, Nat.add_div_right _ hp]
    omega

theorem State.bit_putBit_same (s : State) (f : Fld) {i : Nat} (hi : i < f.w) (h : f.lo + f.w ≤ 32) : (s.putBit f i true).bit f i = true := by
  unfold State.bit State.putBit
  rw [State.get_put_same _ _ _ h, bitAt_mod hi, bitAt_setBit_same]

theorem State.on_putB_same (s : State) (f : Fld) (b : Bool) (hw : f.w = 1) (h : f.lo + f.w ≤ 32) : (s.putB f b).on f = b := by
  unfold State.on State.putB
  rw [State.get_put_same _ _ _ h, hw]
  cases b <;> rfl

/-! ### The mode and the degradation -/

theorem State.on_of_get {s t : State} {f : Fld} (h : t.get f = s.get f) : t.on f = s.on f := by simp [State.on, h]

theorem State.bit_of_reg {s t : State} {f : Fld} {i : Nat} (h : t.reg f.key = s.reg f.key) : t.bit f i = s.bit f i := by
  simp [State.bit, State.get, h]

theorem SameClock.get {s t : State} (h : SameClock s t) (f : Fld) (hf : f.key ∈ clockKeys) : t.get f = s.get f := by
  simp [State.get, h.reg _ hf]

theorem SameClock.on {s t : State} (h : SameClock s t) (f : Fld) (hf : f.key ∈ clockKeys) : t.on f = s.on f := by
  simp [State.on, h.get f hf]

theorem State.updDegraded_sample (s : State) : s.updDegraded.on F.SYS_DEGRADED_SAMPLE = s.on F.SYS_DEGRADED_SAMPLE := by
  have h (t : State) (f : Fld) (b : Bool) (hk : f.key = 8) (hl : f.lo + f.w ≤ 4) :
      (t.putB f b).on F.SYS_DEGRADED_SAMPLE = t.on F.SYS_DEGRADED_SAMPLE := by
    unfold State.on State.putB
    rw [State.get_put_disj _ _ _ _ (by omega) hk.symm (.inl hl)]
  unfold State.updDegraded
  simp only [h _ F.SYS_DEGRADED_FENCED _ rfl (by decide), h _ F.SYS_DEGRADED_FAILED _ rfl (by decide),
    h _ F.SYS_DEGRADED_TEST _ rfl (by decide), h _ F.SYS_DEGRADED_TOO_FEW _ rfl (by decide)]

theorem State.setMode_reg (s : State) (m : Nat) {k : Nat} (hk : k = 0x100000 ∨ k = 0x300004) : (s.setMode m).reg k = s.reg k := by
  have hp (t : State) (j : Nat) (w : Word) (hj : j < 0x100000) : (t.setReg j w).reg k = t.reg k :=
    State.reg_setReg_ne _ _ _ _ (by omega) (isCtxOwn_of_clock (by rw [mem_clockKeys]; omega))
  unfold State.setMode
  split
  · rfl
  · exact (hp _ _ _ (by decide)).trans ((hp _ _ _ (by decide)).trans (hp _ _ _ (by decide)))

/-- A register that `updMode` leaves: neither MODE nor its counter nor DEGRADED. -/
theorem State.updMode_reg (s : State) {k : Nat} (hk : k = 0x100000 ∨ k = 0x300004) : s.updMode.reg k = s.reg k := by
  have hc : k ∈ clockKeys := by rw [mem_clockKeys]; omega
  have hd (t : State) : t.updDegraded.reg k = t.reg k := by
    unfold State.updDegraded
    have hp (t : State) (f : Fld) (b : Bool) (hf : f.key = 8) : (t.putB f b).reg k = t.reg k :=
      State.reg_setReg_ne _ _ _ _ (by omega) (isCtxOwn_of_clock hc)
    rw [hp _ _ _ rfl, hp _ _ _ rfl, hp _ _ _ rfl, hp _ _ _ rfl]
  unfold State.updMode
  dsimp only
  split
  · split
    · rw [hd, (State.stopTest_sameClock _).reg k hc, State.setMode_reg _ _ hk, hd]
    · rw [State.setMode_reg _ _ hk, hd]
  · exact hd s

theorem State.setMode_sample (s : State) (m : Nat) : (s.setMode m).on F.SYS_DEGRADED_SAMPLE = s.on F.SYS_DEGRADED_SAMPLE := by
  unfold State.setMode State.on
  split
  · rfl
  · rw [State.get, State.bump, State.reg_setReg_ne _ _ _ _ (by decide) (by decide)]
    exact congrArg (decide <| · = 1) ((State.get_put_ne _ _ _ _ (by decide) (by decide)).trans (State.get_put_ne _ _ _ _ (by decide) (by decide)))

theorem State.updMode_sample (s : State) : s.updMode.on F.SYS_DEGRADED_SAMPLE = s.on F.SYS_DEGRADED_SAMPLE := by
  have hs (t : State) : t.stopTest.on F.SYS_DEGRADED_SAMPLE = t.on F.SYS_DEGRADED_SAMPLE :=
    t.stopTest_sameClock.on _ (by decide)
  unfold State.updMode
  dsimp only
  split
  · split
    · rw [State.updDegraded_sample, hs, State.setMode_sample, State.updDegraded_sample]
    · rw [State.setMode_sample, State.updDegraded_sample]
  · exact s.updDegraded_sample

/-! ### The loss of SAMPLE and of the domains that stop the part -/

theorem State.loseSample_sample (s : State) : s.loseSample.on F.SYS_DEGRADED_SAMPLE = true := by
  unfold State.loseSample
  split
  · assumption
  · have h := (s.putB F.SYS_DEGRADED_SAMPLE true).audioSampleLost_sameClock.trans (State.touchSampleLost_sameClock _)
    rw [State.updMode_sample, h.on _ (by decide), State.on_putB_same _ _ _ rfl (by decide)]

theorem State.loseSample_reg (s : State) {k : Nat} (hk : k = 0x100000 ∨ k = 0x300004) : s.loseSample.reg k = s.reg k := by
  have hc : k ∈ clockKeys := by rw [mem_clockKeys]; omega
  unfold State.loseSample
  split
  · rfl
  · have h := (s.putB F.SYS_DEGRADED_SAMPLE true).audioSampleLost_sameClock.trans (State.touchSampleLost_sameClock _)
    rw [State.updMode_reg _ hk, h.reg k hc]
    exact State.reg_setReg_ne _ _ _ _ (by rintro rfl; revert hk; decide) (isCtxOwn_of_clock hc)

theorem State.sampleBack_sample {s : State} (h : s.on F.SYS_DEGRADED_SAMPLE = true) : s.sampleBack.on F.SYS_DEGRADED_SAMPLE = false := by
  unfold State.sampleBack
  rw [if_neg (by simp [h])]
  extract_lets _ t
  have hb := (t.putB F.SYS_DEGRADED_SAMPLE false).audioSampleBack_sameClock.trans (State.touchSampleBack_sameClock _)
  rw [State.updMode_sample, hb.on _ (by decide), State.on_putB_same _ _ _ rfl (by decide)]

/-- In ORDERLY_STOP the mode is not judged again (R507). -/
theorem State.updMode_stop {s : State} (h : s.mode = modeStop) : s.updMode.mode = modeStop := by
  have hd : s.updDegraded.mode = modeStop := by
    have hp (t : State) (f : Fld) (b : Bool) (hf : f.key = 8) : (t.putB f b).mode = t.mode :=
      State.get_put_ne _ _ _ _ (by rw [hf]; decide) (by decide)
    unfold State.updDegraded
    rw [hp _ _ _ rfl, hp _ _ _ rfl, hp _ _ _ rfl, hp _ _ _ rfl, h]
  unfold State.updMode
  dsimp only
  rw [if_neg (by rw [hd]; decide), hd]

theorem State.setMode_mode (s : State) {m : Nat} (hm : m < 16) : (s.setMode m).mode = m := by
  unfold State.setMode
  split
  · assumption
  · unfold State.mode State.bump
    rw [State.get, State.reg_setReg_ne _ _ _ _ (by decide) (by decide)]
    exact (State.get_put_same _ _ _ (by decide)).trans (Nat.mod_eq_of_lt hm)

theorem State.enterMode_stop (s : State) : (s.enterMode modeStop).mode = modeStop := by
  have h := s.setMode_mode (m := modeStop) (by decide)
  unfold State.enterMode State.abortTest
  split
  · exact h
  · exact State.updMode_stop (((State.stopTest_sameClock _).get _ (by decide)).trans h)

theorem State.enterMode_reg (s : State) (m : Nat) {k : Nat} (hk : k = 0x100000 ∨ k = 0x300004) : (s.enterMode m).reg k = s.reg k := by
  have h := s.setMode_reg m hk
  unfold State.enterMode State.abortTest
  split
  · exact h
  · rw [State.updMode_reg _ hk, (State.stopTest_sameClock _).reg k (by rw [mem_clockKeys]; omega), h]

/-- An orderly stop for a domain: MODE 10 with cause 7, and CLK.FAULT as before (R17, R507). -/
theorem State.orderlyStop_domain {s : State} (h : s.canStop = true) :
    (s.orderlyStop 7).mode = modeStop ∧ (s.orderlyStop 7).get F.PWR_STATUS_STOP_CAUSE = 7 ∧
      (s.orderlyStop 7).reg 0x300004 = s.reg 0x300004 := by
  unfold State.orderlyStop
  rw [if_neg (by simp [h])]
  extract_lets t _ u
  have ht : t.mode = modeStop ∧ t.get F.PWR_STATUS_STOP_CAUSE = 7 ∧ t.reg 0x300004 = s.reg 0x300004 :=
    ⟨(State.get_put_ne _ _ _ _ (by decide) (by decide)).trans s.enterMode_stop, State.get_put_same _ _ _ (by decide),
      (State.reg_setReg_ne _ _ _ _ (by decide) (by decide)).trans (s.enterMode_reg _ (.inr rfl))⟩
  have hu : SameClock t u := SameClock.ite (SameClock.of_regs rfl) ((SameClock.refl t).raise ..)
  have hc : SameClock t u.haltEngines.updCap :=
    (hu.trans u.haltEngines_sameClock).trans (State.setReg_sameClock _ _ _ (by decide))
  exact ⟨(hc.get _ (by decide)).trans ht.1, (hc.get _ (by decide)).trans ht.2.1, (hc.reg _ (by decide)).trans ht.2.2⟩

/-! ### What the loss and the drift of a domain call for -/

theorem State.canStop_of_mode {s t : State} (h : t.mode = s.mode) : t.canStop = s.canStop := by
  unfold State.canStop
  rw [h]

/-- What follows in `t` leaves CLK.FAULT; it degrades the part, or stops it with cause 7 (R17, R19, R507). -/
theorem State.domainFails_spec (s : State) (d : Nat) :
    (s.domainFails d).reg 0x300004 = s.reg 0x300004 ∧ (d = 0 → s.domainFails d = s) ∧
      (d = 7 → (s.domainFails d).on F.SYS_DEGRADED_SAMPLE = true) ∧
      (d ≠ 0 → d ≠ 7 → s.canStop = true → (s.domainFails d).mode = 10 ∧ (s.domainFails d).get F.PWR_STATUS_STOP_CAUSE = 7) := by
  unfold State.domainFails
  split
  · next h => exact ⟨rfl, fun _ => rfl, fun h' => absurd (h.symm.trans h') (by decide), fun h' => absurd h h'⟩
  split
  · next h h' =>
    exact ⟨s.loseSample_reg (.inr rfl), fun h'' => absurd h'' h, fun _ => s.loseSample_sample, fun _ h'' => absurd h' h''⟩
  · next h h' =>
    refine ⟨?_, fun h'' => absurd h'' h, fun h'' => absurd h'' h', fun _ _ hs => ?_⟩
    · by_cases hs : s.canStop = true
      · exact (State.orderlyStop_domain hs).2.2
      · unfold State.orderlyStop
        rw [if_pos (by simpa using hs)]
    · obtain ⟨hm, hc, _⟩ := State.orderlyStop_domain hs
      exact ⟨hm, hc⟩

/-- The record of a lost domain. -/
def State.lossRec (s : State) (d : Nat) : State := ((s.putBit F.CLK_FAULT_LOSS d true).putB F.TEST_COND_CLK_OK false).raise 0x7E 0 0 0

theorem State.clockLoss_eq (s : State) (d : Nat) :
    s.clockLoss d = { s.lossRec d with power := { (s.lossRec d).power with domLost := setBit (s.lossRec d).power.domLost d true } }.domainFails d :=
  rfl

theorem State.lossRec_sameClock (s : State) (d : Nat) : SameClock (s.putBit F.CLK_FAULT_LOSS d true) (s.lossRec d) :=
  ((SameClock.refl _).putB _ _ (by decide)).raise ..

theorem State.mode_putBit_fault (s : State) {f : Fld} (hf : f.key = 0x300004) (d : Nat) : (s.putBit f d true).mode = s.mode :=
  State.get_put_ne _ _ _ _ (by rw [hf]; decide) (by decide)

theorem OnlyLogged.of_logOnly_put₂ {s t : State} {f g : Fld} {v w : Nat} (h : LogOnly ((s.put f v).put g w) t) :
    OnlyLogged [f.key, g.key] s t := by
  obtain ⟨r, l, rfl, hr⟩ := h
  refine ⟨rfl, fun k hk hn => ?_⟩
  simp only [List.mem_cons, List.not_mem_nil, or_false, not_or] at hn
  exact (hr k hk).trans ((tabGet?_tabSet_ne _ _ _ _ hn.2).trans (tabGet?_tabSet_ne _ _ _ _ hn.1))

theorem State.nominalKhz_advance_put (s : State) (time : Nat) (c khz : Nat) (d : Nat) :
    ((s.advance time).put (F.CLK_MEAS_KHZ c) khz).nominalKhz d = s.nominalKhz d := by
  have h : ((s.advance time).put (F.CLK_MEAS_KHZ c) khz).on F.CLK_SAMPLE_CFG_BASE = s.on F.CLK_SAMPLE_CFG_BASE := by
    unfold State.on
    rw [State.get_put_ne _ _ _ _ (by simp only [F.CLK_SAMPLE_CFG_BASE, F.CLK_MEAS_KHZ]; omega) (by decide)]
    rfl
  unfold State.nominalKhz State.sampleBase
  rw [h]

theorem reaches_refSwitch (time : Nat) (s : State) : Reaches (.refSwitch time) s (fun t =>
    t.on F.CLK_STATUS_REF_SRC = !s.on F.CLK_STATUS_REF_SRC ∧ t.on F.CLK_FAULT_REF_SWITCH = true ∧
      (∃ r ∈ t.log.recent.head?, r.cls = 0x7D) ∧
      OnlyLogged [F.CLK_STATUS_REF_SRC.key, F.CLK_FAULT_REF_SWITCH.key] (s.advance time) t) := by
  refine ⟨_, rfl, ?_⟩
  set z := s.advance time
  have hl := (((z.putB F.CLK_STATUS_REF_SRC (!z.on F.CLK_STATUS_REF_SRC)).putB F.CLK_FAULT_REF_SWITCH true).raise_logOnly 0x7D 0 0 0 none)
  obtain ⟨r, hr, hc, _⟩ := State.raise_newest ((z.putB F.CLK_STATUS_REF_SRC (!z.on F.CLK_STATUS_REF_SRC)).putB F.CLK_FAULT_REF_SWITCH true) 0x7D 0 0 0 none
  refine ⟨?_, ?_, ⟨r, hr, hc⟩, OnlyLogged.of_logOnly_put₂ hl⟩
  · refine (State.on_of_get (hl.get F.CLK_STATUS_REF_SRC (by decide) (by decide))).trans ?_
    refine (State.on_of_get (State.get_put_ne _ _ _ _ (by decide) (by decide))).trans ?_
    exact State.on_putB_same z F.CLK_STATUS_REF_SRC _ rfl (by decide)
  · refine (State.on_of_get (hl.get F.CLK_FAULT_REF_SWITCH (by decide) (by decide))).trans ?_
    exact State.on_putB_same _ _ _ rfl (by decide)

theorem State.setMode_keeps (s : State) (m : Nat) :
    (s.setMode m).eng = s.eng ∧ (s.setMode m).heads = s.heads ∧ (s.setMode m).flash = s.flash := by
  unfold State.setMode
  split <;> exact ⟨rfl, rfl, rfl⟩

theorem State.ledgerCut_keeps (s : State) :
    s.ledgerCut.mode = s.mode ∧ s.ledgerCut.eng = s.eng ∧ s.ledgerCut.heads = s.heads ∧ s.ledgerCut.flash = s.flash := by
  unfold State.ledgerCut
  split
  · exact ⟨rfl, rfl, rfl, rfl⟩
  · exact ⟨State.get_put_ne _ _ _ _ (by decide) (by decide), rfl, rfl, rfl⟩

/-- The registers that read as with the rails off. -/
def State.offRegs (s : State) : State :=
  let s := (((s.put F.CLK_STATUS_LOCK 0).put F.PWR_RAIL_OK 0x800).put F.PWR_STATUS_START_STEP 0).put F.PWR_STATUS_SHED_LEVEL 0
  let s := ((s.putB F.PWR_STATUS_ON_HOLDUP false).putB F.PWR_STATUS_RT_AVAIL false).putB F.PWR_STATUS_IIN_LIMIT false
  s.putB F.HLTH_STATUS_LOW_HALT false

theorem State.railsOff_eq (s : State) : ∃ p, s.railsOff = { (s.countHoldup.wipe.setMode modeOff).ledgerCut.offRegs with power := p } :=
  ⟨_, rfl⟩

theorem State.offRegs_mode (s : State) : s.offRegs.mode = s.mode := by
  unfold State.offRegs State.mode
  dsimp only [State.putB]
  rw [State.get_put_ne, State.get_put_ne, State.get_put_ne, State.get_put_ne, State.get_put_ne, State.get_put_ne, State.get_put_ne,
    State.get_put_ne]
  all_goals decide

theorem State.offRegs_lock (s : State) : s.offRegs.get F.CLK_STATUS_LOCK = 0 := by
  unfold State.offRegs
  dsimp only [State.putB]
  rw [State.get_put_ne, State.get_put_ne, State.get_put_ne, State.get_put_ne, State.get_put_ne, State.get_put_ne, State.get_put_ne,
    State.get_put_same]
  all_goals decide

theorem State.off_spec {x : State} (p : Power) (hm : x.mode = 0) :
    let t := { x.offRegs with power := p }
    t.mode = 0 ∧ t.get F.CLK_STATUS_LOCK = 0 ∧ t.eng = x.eng ∧ t.heads = x.heads ∧ t.flash = x.flash :=
  ⟨x.offRegs_mode.trans hm, x.offRegs_lock, rfl, rfl, rfl⟩

/-- When both references are lost the part is OFF, its flash as before (R13). -/
theorem State.railsOff_spec (s : State) : s.railsOff.mode = 0 ∧ s.railsOff.get F.CLK_STATUS_LOCK = 0 ∧ s.railsOff.eng = [] ∧
    s.railsOff.heads = [] ∧ s.railsOff.flash = s.flash := by
  obtain ⟨he, hh, hf⟩ := s.countHoldup.wipe.setMode_keeps modeOff
  obtain ⟨cm, ce, ch, cf⟩ := (s.countHoldup.wipe.setMode modeOff).ledgerCut_keeps
  have hm : (s.countHoldup.wipe.setMode modeOff).mode = 0 := State.setMode_mode _ (by decide)
  obtain ⟨p, hp⟩ := s.railsOff_eq
  obtain ⟨h1, h2, h3, h4, h5⟩ := State.off_spec p (cm.trans hm)
  rw [hp]
  exact ⟨h1, h2, h3.trans (ce.trans he), h4.trans (ch.trans hh), h5.trans (cf.trans hf)⟩

theorem reaches_clockLoss (time : Nat) (d : Fin 8) (s : State) : Reaches (.clockLoss time d) s (fun t =>
    (d = 0 → t.bit F.CLK_FAULT_LOSS 0 = true ∧ (∃ r ∈ t.log.recent.head?, r.cls = 0x7E) ∧
      OnlyLogged [F.CLK_FAULT_LOSS.key, F.TEST_COND_CLK_OK.key] { s.advance time with power := t.power } t) ∧
    (d = 7 → t.bit F.CLK_FAULT_LOSS 7 = true ∧ t.on F.SYS_DEGRADED_SAMPLE = true) ∧
    (d ≠ 0 → d ≠ 7 → s.canStop = true → t.bit F.CLK_FAULT_LOSS d = true ∧ t.mode = 10 ∧ t.get F.PWR_STATUS_STOP_CAUSE = 7)) := by
  refine ⟨_, rfl, ?_⟩
  set z := s.advance time
  rw [State.clockLoss_eq]
  set v : State := { z.lossRec d with power := { (z.lossRec d).power with domLost := setBit (z.lossRec d).power.domLost d true } } with hv
  have hz : SameClock (z.putBit F.CLK_FAULT_LOSS d true) v := (z.lossRec_sameClock d).trans (SameClock.of_regs rfl)
  have hs : v.canStop = s.canStop := State.canStop_of_mode ((hz.get _ (by decide)).trans (z.mode_putBit_fault rfl d))
  obtain ⟨hf, h0, h7, hd⟩ := v.domainFails_spec d
  have hbit : (v.domainFails d).bit F.CLK_FAULT_LOSS d = true := by
    refine (State.bit_of_reg (hf.trans (hz.reg _ (by decide)))).trans ?_
    exact State.bit_putBit_same z F.CLK_FAULT_LOSS d.isLt (by decide)
  refine ⟨?_, ?_, fun hn hn' hcan => ?_⟩
  · rintro rfl
    refine ⟨hbit, ?_⟩
    obtain ⟨r, hr, hc, _⟩ := State.raise_newest ((z.putBit F.CLK_FAULT_LOSS 0 true).putB F.TEST_COND_CLK_OK false) 0x7E 0 0 0 none
    obtain ⟨rg, l, e, hrg⟩ := ((z.putBit F.CLK_FAULT_LOSS 0 true).putB F.TEST_COND_CLK_OK false).raise_logOnly 0x7E 0 0 0 none
    rw [h0 rfl]
    refine ⟨⟨r, hr, hc⟩, OnlyLogged.of_logOnly_put₂ (s := { z with power := v.power }) ⟨rg, l, ?_, hrg⟩⟩
    rw [hv]
    unfold State.lossRec
    rw [show ((0 : Fin 8) : Nat) = 0 from rfl, e]
    rfl
  · rintro rfl
    exact ⟨hbit, h7 rfl⟩
  · obtain ⟨hm, hc⟩ := hd (by omega) (by omega) (hs.trans hcan)
    exact ⟨hbit, hm, hc⟩

/-- The count of a gate, and whether the domain stands within 2 % (R16, R536). -/
def State.gate (s : State) (d khz : Nat) (within : Bool) : State :=
  { s.put (F.CLK_MEAS_KHZ d) khz with power := { s.power with domOff := setBit s.power.domOff d within } }

theorem State.clockDrift_within {s : State} {time d khz : Nat} (h : 100 * (max khz (s.nominalKhz d) - min khz (s.nominalKhz d)) ≤ s.nominalKhz d) :
    (s.advance time).clockDrift d khz = (s.advance time).gate d khz false := by
  unfold State.clockDrift
  dsimp only
  rw [State.nominalKhz_advance_put, if_pos h, decide_eq_false (by omega)]
  rfl

/-- A domain that drifts is recorded, and treated as lost (R16, R17). -/
theorem State.clockDrift_beyond {s : State} {time d khz : Nat} (h : s.nominalKhz d < 100 * (max khz (s.nominalKhz d) - min khz (s.nominalKhz d))) :
    ∃ w u v, u = ((s.advance time).gate d khz w).putBit F.CLK_FAULT_DRIFT d true ∧ SameClock u v ∧ v.log = (u.raise 0x7F 0 0 0).log ∧
      (s.advance time).clockDrift d khz = v.domainFails d := by
  set off := max khz (s.nominalKhz d) - min khz (s.nominalKhz d)
  set w := decide (s.nominalKhz d < 50 * off)
  set u := ((s.advance time).gate d khz w).putBit F.CLK_FAULT_DRIFT d true
  refine ⟨w, u, if 50 * off ≤ s.nominalKhz d then u.raise 0x7F 0 0 0 else (u.raise 0x7F 0 0 0).putB F.TEST_COND_CLK_OK false, rfl,
    SameClock.ite ((SameClock.refl _).raise ..) (((SameClock.refl _).raise ..).putB _ _ (by decide)), ?_, ?_⟩
  · split <;> rfl
  · unfold State.clockDrift
    dsimp only
    rw [State.nominalKhz_advance_put, if_neg (by omega)]
    rfl

theorem reaches_clockDrift_within {s : State} {d : Fin 8} {khz : Nat} (time : Nat)
    (h : 100 * (max khz (s.nominalKhz d) - min khz (s.nominalKhz d)) ≤ s.nominalKhz d) :
    Reaches (.clockDrift time d khz) s (fun t => t.get (F.CLK_MEAS_KHZ d) = khz % 2 ^ 32 ∧
      OnlyRegs [(F.CLK_MEAS_KHZ d).key] { s.advance time with power := { s.power with domOff := setBit s.power.domOff d false } } t) := by
  refine ⟨_, congrArg Host.Outcome.next (State.clockDrift_within h), State.get_put_same _ (F.CLK_MEAS_KHZ d) _ (Nat.le_refl 32), rfl,
    fun k hk => ?_⟩
  exact tabGet?_tabSet_ne _ _ _ _ (by simpa using hk)

theorem reaches_clockDrift_beyond {s : State} {d : Fin 8} {khz : Nat} (time : Nat)
    (h : s.nominalKhz d < 100 * (max khz (s.nominalKhz d) - min khz (s.nominalKhz d))) :
    Reaches (.clockDrift time d khz) s (fun t => t.bit F.CLK_FAULT_DRIFT d = true ∧
      (d = 0 → ∃ r ∈ t.log.recent.head?, r.cls = 0x7F) ∧ (d = 7 → t.on F.SYS_DEGRADED_SAMPLE = true) ∧
      (d ≠ 0 → d ≠ 7 → s.canStop = true → t.mode = 10 ∧ t.get F.PWR_STATUS_STOP_CAUSE = 7)) := by
  obtain ⟨w, u, v, hu, hv, hlog, he⟩ := State.clockDrift_beyond (time := time) h
  refine ⟨_, congrArg Host.Outcome.next he, ?_⟩
  obtain ⟨hf, h0, h7, hd⟩ := v.domainFails_spec d
  have hmode : v.mode = s.mode := by
    refine (hv.get F.SYS_MODE_MODE (by decide)).trans ?_
    rw [hu]
    refine (State.mode_putBit_fault _ rfl d).trans (State.get_put_ne _ (F.CLK_MEAS_KHZ d) _ _ ?_ (by decide))
    simp only [F.SYS_MODE_MODE, F.CLK_MEAS_KHZ]; omega
  refine ⟨?_, ?_, fun hd7 => h7 (by rw [hd7]; rfl), fun hn hn' hcan => hd (by omega) (by omega) ((State.canStop_of_mode hmode).trans hcan)⟩
  · refine (State.bit_of_reg (f := F.CLK_FAULT_DRIFT) (hf.trans (hv.reg _ (by decide)))).trans ?_
    rw [hu]
    exact State.bit_putBit_same _ F.CLK_FAULT_DRIFT d.isLt (by decide)
  · rintro rfl
    obtain ⟨r, hr, hc, _⟩ := State.raise_newest u 0x7F 0 0 0 none
    rw [h0 rfl, hlog]
    exact ⟨r, hr, hc⟩

theorem reaches_sampleCfgWrite {s : State} {i : Initiator} (v : Word) (h : Admits s i F.CLK_SAMPLE_CFG_BASE.key) :
    (s.mode = 5 ∨ s.mode = 11 → Reaches (.sampleCfgWrite i v) s (fun t => (t.on F.CLK_SAMPLE_CFG_BASE = true ↔ v.toNat % 2 = 1) ∧
      OnlyRegs [F.CLK_SAMPLE_CFG_BASE.key] s t)) ∧
    (s.mode ≠ 5 → s.mode ≠ 11 → Reaches (.sampleCfgWrite i v) s (fun t => OnlyLogged [] s t ∧ ∃ r ∈ t.log.recent.head?, r.cls = 0x7C)) := by
  have he : exec (.sampleCfgWrite i v) s = .next (s.wrSampleCfg v) := congrArg Host.Outcome.next (State.asWrite_admitted v _ h)
  refine ⟨fun hm => ⟨_, he, ?_⟩, fun h5 h11 => ⟨_, he, ?_⟩⟩
  · have hc : (s.mode = modeReady || s.mode = modeService) = true := by
      rcases hm with hm | hm <;> simp [hm, modeReady, modeService]
    unfold State.wrSampleCfg
    rw [if_pos hc]
    refine ⟨?_, rfl, fun k hk => tabGet?_tabSet_ne _ _ _ _ (by simpa using hk)⟩
    rw [State.on_putB_same _ _ _ rfl (by decide)]
    simp [bitAt]
  · have hc : ¬(s.mode = modeReady || s.mode = modeService) = true := by simp [modeReady, modeService, h5, h11]
    unfold State.wrSampleCfg
    rw [if_neg hc]
    obtain ⟨r, hr, hcls, _⟩ := State.raise_newest s 0x7C 0 0 0 none
    obtain ⟨rg, l, e, hrg⟩ := s.raise_logOnly 0x7C 0 0 0 none
    refine ⟨?_, r, hr, hcls⟩
    rw [e]
    exact ⟨rfl, fun k hk _ => hrg k hk⟩

/-- Settles O35, command by command. -/
theorem clockDomains : Obligations.ClockDomains := by
  unfold Obligations.ClockDomains
  intro i d khz v time s
  refine ⟨reaches_refSwitch time s, ⟨_, rfl, (s.advance time).railsOff_spec⟩, reaches_clockLoss time d s,
    fun h => reaches_clockDrift_within time h, fun h => reaches_clockDrift_beyond time h, fun h => reaches_sampleCfgWrite v h,
    fun h => ⟨_, rfl, State.sampleBack_sample (s := s.advance time) h⟩, fun h => congrArg Host.Outcome.next ?_⟩
  have hb : (s.advance time).on F.SYS_DEGRADED_SAMPLE = false := h
  unfold State.sampleBack
  rw [if_pos (by simp [hb])]

end Sys2Proof.Machine
end

section
/-! Patrol scrub, refresh and the channel of an address (O36). -/
namespace Sys2Proof.Machine

/-! ### The parity of the bits that a predicate selects -/

/-- The parity of the number of members of `l` at which `p` holds. -/
def parityOf (l : List Nat) (p : Nat → Bool) : Bool := l.foldr (fun j r => p j ^^ r) false

theorem parityOf_cons (a : Nat) (l : List Nat) (p : Nat → Bool) : parityOf (a :: l) p = (p a ^^ parityOf l p) := rfl

theorem parityOf_append (l m : List Nat) (p : Nat → Bool) : parityOf (l ++ m) p = (parityOf l p ^^ parityOf m p) := by
  induction l with
  | nil => simp [parityOf]
  | cons a l ih => rw [List.cons_append, parityOf_cons, parityOf_cons, ih, Bool.xor_assoc]

theorem parityOf_map (l : List Nat) (f : Nat → Nat) (p : Nat → Bool) : parityOf (l.map f) p = parityOf l (fun j => p (f j)) := by
  simp [parityOf, List.foldr_map]

theorem parityOf_congr {l : List Nat} {p q : Nat → Bool} (h : ∀ j ∈ l, p j = q j) : parityOf l p = parityOf l q := by
  induction l with
  | nil => rfl
  | cons a l ih =>
    rw [parityOf_cons, parityOf_cons, h a List.mem_cons_self, ih fun j hj => h j (List.mem_cons_of_mem _ hj)]

theorem parityOf_false {l : List Nat} {p : Nat → Bool} (h : ∀ j ∈ l, p j = false) : parityOf l p = false := by
  rw [parityOf_congr h]
  induction l with
  | nil => rfl
  | cons a l ih => rw [parityOf_cons, ih fun j hj => h j (List.mem_cons_of_mem _ hj)]; rfl

theorem length_filter_mod_two (l : List Nat) (p : Nat → Bool) : (l.filter p).length % 2 = (parityOf l p).toNat := by
  induction l with
  | nil => rfl
  | cons a l ih =>
    rw [parityOf_cons]
    cases h : p a
    · rw [List.filter_cons_of_neg (by simp [h]), ih, Bool.false_xor]
    · rw [List.filter_cons_of_pos h, List.length_cons, Nat.add_mod, ih]
      cases parityOf l p <;> rfl

theorem parityOf_single {m b : Nat} (g : Nat → Bool) (hb : b < m) : parityOf (List.range m) (fun j => decide (j = b) && g j) = g b := by
  induction m with
  | zero => omega
  | succ m ih =>
    rw [List.range_succ, parityOf_append]
    rcases Nat.lt_succ_iff_lt_or_eq.1 hb with hlt | rfl
    · rw [ih hlt]
      simp [parityOf, hlt.ne']
    · rw [parityOf_false fun j hj => by simp [(List.mem_range.1 hj).ne]]
      simp [parityOf]

/-- Of `n` groups of `m` the members that stand at `b` in their group. -/
theorem parityOf_groups {m b : Nat} (q : Nat → Bool) (hb : b < m) (n : Nat) :
    parityOf (List.range (m * n)) (fun j => decide (j % m = b) && q j) = parityOf (List.range n) (fun i => q (m * i + b)) := by
  induction n with
  | zero => rfl
  | succ n ih =>
    have hblock : parityOf (List.range m) (fun j => decide ((m * n + j) % m = b) && q (m * n + j)) = q (m * n + b) := by
      refine Eq.trans (parityOf_congr fun j hj => ?_) (parityOf_single (fun j => q (m * n + j)) hb)
      rw [Nat.mul_add_mod, Nat.mod_eq_of_lt (List.mem_range.1 hj)]
    rw [Nat.mul_succ, List.range_add, parityOf_append, parityOf_map, ih, hblock, List.range_succ, parityOf_append]
    simp [parityOf]

/-! ### The channel of an address (R571) -/

theorem testBit_xorFields {m b : Nat} (hb : b < m) (n u : Nat) :
    (xorFields m n u).testBit b = parityOf (List.range n) (fun i => u.testBit (m * i + b)) := by
  induction n generalizing u with
  | zero => simp [xorFields, parityOf]
  | succ n ih =>
    have hdiv (i : Nat) : (u / 2 ^ m).testBit (m * i + b) = u.testBit (m * (i + 1) + b) := by
      rw [Nat.testBit_div_two_pow]
      congr 1
      ring
    rw [xorFields, Nat.testBit_xor, Nat.testBit_mod_two_pow, ih, List.range_succ_eq_map, parityOf_cons, parityOf_map]
    simp [hb, hdiv]

theorem State.channelOf_parity (s : State) {b : Nat} (a : Nat) (hb : b < s.logChan) : s.channelOf a / 2 ^ b % 2 =
    ((List.range 32).filter (fun j => j % s.logChan = b ∧ a / 2 ^ (8 + j) % 2 = 1)).length % 2 := by
  set u := a / 256 % 2 ^ 32
  have hbit (j : Nat) : u.testBit j = (decide (j < 32) && decide (a / 2 ^ (8 + j) % 2 = 1)) := by
    rw [Nat.testBit_mod_two_pow, show 256 = 2 ^ 8 from rfl, Nat.testBit_div_two_pow, Nat.testBit_eq_decide_div_mod_eq, Nat.add_comm]
  have hlong : s.logChan * 32 = 32 + (s.logChan - 1) * 32 := by
    have : s.logChan = s.logChan - 1 + 1 := by omega
    omega
  have hpar : (s.channelOf a).testBit b = parityOf (List.range 32) (fun j => decide (j % s.logChan = b ∧ a / 2 ^ (8 + j) % 2 = 1)) := by
    unfold State.channelOf
    rw [testBit_xorFields hb, ← parityOf_groups u.testBit hb, hlong, List.range_add, parityOf_append, parityOf_map,
      parityOf_false (p := fun j => _ && u.testBit (32 + j)) fun j _ => by simp [hbit], Bool.xor_false]
    refine parityOf_congr fun j hj => ?_
    simp [hbit, List.mem_range.1 hj]
  rw [length_filter_mod_two, ← hpar, Nat.testBit_eq_decide_div_mod_eq]
  rcases Nat.mod_two_eq_zero_or_one (s.channelOf a / 2 ^ b) with h | h <;> rw [h] <;> rfl

/-! ### Scrub, maintenance and refresh (R32, R33, R126) -/

theorem State.units_lt (s : State) : 0 < s.dramEnd / 256 ∧ s.dramEnd / 256 < 2 ^ 32 := by
  unfold State.dramEnd State.dramGib byMember
  split <;> decide

theorem State.scrub_closed {s : State} {words : Nat} {finds : List (Nat × MemFind)}
    (h : s.on F.MEMC_SCRUB_CFG_ENABLE = false ∨ s.scrubOpen words = false) : s.scrub words finds = s := by
  unfold State.scrub
  rw [if_pos (by rcases h with h | h <;> simp [h])]

/-- Of an open scrub what it finds applies, and SCRUB_POS moves on. -/
theorem State.scrub_open {s : State} {words : Nat} (finds : List (Nat × MemFind)) (he : s.on F.MEMC_SCRUB_CFG_ENABLE = true)
    (ho : s.scrubOpen words = true) : s.scrub words finds =
    ((finds.filter (fun f => f.1 < s.dramEnd && (f.1 / 256 + s.dramEnd / 256 - s.get F.MEMC_SCRUB_POS % (s.dramEnd / 256)) % (s.dramEnd / 256) < words)).foldl
      (fun s f => s.applyFind f.1 0xFF f.2) s).put F.MEMC_SCRUB_POS ((s.get F.MEMC_SCRUB_POS + words) % (s.dramEnd / 256)) := by
  unfold State.scrub
  rw [if_neg (by simp [he, ho])]

/-- From `s` on, `t` holds the uncorrectable word `w` poisoned, logged as the newest record, and counted. -/
structure Poisoned (w : Nat) (s t : State) : Prop where
  poison : t.poison.contains w = true
  newest : ∃ r ∈ t.log.recent.head?, r.cls = 0x11 ∧ r.addr1 = w
  mem : t.mem = s.mem
  count : (s.reg F.MEMC_UE_COUNT_COUNT.key).toNat < 2 ^ 31 - 1 → t.reg F.MEMC_UE_COUNT_COUNT.key = s.reg F.MEMC_UE_COUNT_COUNT.key + 1

/-- An uncorrectable word of DRAM is poisoned, counted and logged (R30). -/
theorem State.applyFind_poisoned {s : State} {a : Nat} (ini : Nat) (ha : a < s.dramEnd) :
    Poisoned (a / 32 * 32) s (s.applyFind a ini .ue) := by
  have hr : s.region a = .dram := by simp [State.region, ha]
  have hw : s.eccWord a = a / 32 * 32 := by simp [State.eccWord, State.eccSize, hr]
  set w := a / 32 * 32
  set p : State := { s with poison := if s.poison.contains w then s.poison else w :: s.poison }
  have hp : p.poison.contains w = true := by
    show (if s.poison.contains w then s.poison else w :: s.poison).contains w = true
    split
    · assumption
    · simp
  have he : s.applyFind a ini .ue = (p.bump F.MEMC_UE_COUNT_COUNT).raise 0x11 w 0 (s.memUnit a + 0x10000 * ini) := by
    have hpr : p.region a = .dram := hr
    unfold State.applyFind
    dsimp only
    rw [if_pos (by simp [hr])]
    unfold State.eccUe
    dsimp only
    rw [hw]
    exact if_pos hpr
  rw [he]
  have hl := (p.bump F.MEMC_UE_COUNT_COUNT).raise_logOnly 0x11 w 0 (s.memUnit a + 0x10000 * ini) none
  obtain ⟨r, hr, hc, h1, _⟩ := State.raise_newest (p.bump F.MEMC_UE_COUNT_COUNT) 0x11 w 0 (s.memUnit a + 0x10000 * ini) none
  refine ⟨?_, ⟨r, hr, hc, h1⟩, ?_, fun h => ?_⟩
  · rw [hl.poison]
    exact hp
  · rw [hl.mem]
    rfl
  · rw [hl.reg _ (by decide) (by decide)]
    exact State.reg_bump_same h

theorem reaches_patrolScrub_clean {s : State} {words time : Nat} (he : s.on F.MEMC_SCRUB_CFG_ENABLE = true)
    (ho : (s.advance time).scrubOpen words = true) : Reaches (.patrolScrub time words []) s (fun t =>
      t.get F.MEMC_SCRUB_POS = (s.get F.MEMC_SCRUB_POS + words) % (s.dramEnd / 256) ∧ OnlyRegs [F.MEMC_SCRUB_POS.key] (s.advance time) t) := by
  refine ⟨_, congrArg Host.Outcome.next (State.scrub_open (s := s.advance time) [] he ho), ?_, rfl,
    fun k hk => tabGet?_tabSet_ne _ _ _ _ (by simpa using hk)⟩
  refine (State.get_put_same _ _ _ (by decide)).trans (Nat.mod_eq_of_lt ?_)
  exact (Nat.mod_lt _ s.units_lt.1).trans s.units_lt.2

theorem foldl_filter_one {α β : Type} {p : α → Bool} (g : β → α → β) (b : β) {a : α} (h : p a = true) :
    ([a].filter p).foldl g b = g b a := by
  rw [List.filter_cons_of_pos h]
  rfl

/-- An open scrub that finds an uncorrectable word among the units it reads applies that find. -/
theorem State.scrub_one {s : State} {words a e : Nat} (hd : s.dramEnd = e) (he : s.on F.MEMC_SCRUB_CFG_ENABLE = true)
    (ho : s.scrubOpen words = true) (ha : a < e)
    (hw : (a / 256 + e / 256 - s.get F.MEMC_SCRUB_POS % (e / 256)) % (e / 256) < words) :
    s.scrub words [(a, .ue)] = (s.applyFind a 0xFF .ue).put F.MEMC_SCRUB_POS ((s.get F.MEMC_SCRUB_POS + words) % (e / 256)) := by
  rw [State.scrub_open _ he ho, hd, foldl_filter_one]
  rw [Bool.and_eq_true, decide_eq_true_eq, decide_eq_true_eq]
  exact ⟨ha, hw⟩

theorem State.advance_dramEnd (s : State) (time : Nat) : (s.advance time).dramEnd = s.dramEnd := by
  unfold State.dramEnd
  rw [show (s.advance time).dramGib = s.dramGib from rfl]

theorem Poisoned.put_pos {w : Nat} {s u : State} (h : Poisoned w s u) (n : Nat) : Poisoned w s (u.put F.MEMC_SCRUB_POS n) :=
  ⟨h.poison, h.newest, h.mem, fun hc => (State.reg_setReg_ne _ _ _ _ (by decide) (by decide)).trans (h.count hc)⟩

theorem State.scrub_poisoned {s : State} {words a e : Nat} (hd : s.dramEnd = e) (he : s.on F.MEMC_SCRUB_CFG_ENABLE = true)
    (ho : s.scrubOpen words = true) (ha : a < e)
    (hw : (a / 256 + e / 256 - s.get F.MEMC_SCRUB_POS % (e / 256)) % (e / 256) < words) :
    Poisoned (a / 32 * 32) s (s.scrub words [(a, .ue)]) := by
  have hf : Poisoned (a / 32 * 32) s (s.applyFind a 0xFF .ue) := State.applyFind_poisoned 0xFF (hd.symm ▸ ha)
  rw [State.scrub_one hd he ho ha hw]
  exact hf.put_pos _

theorem reaches_patrolScrub_ue {s : State} {words time a : Nat} (he : s.on F.MEMC_SCRUB_CFG_ENABLE = true)
    (ho : (s.advance time).scrubOpen words = true) (ha : a < s.dramEnd)
    (hw : (a / 256 + s.dramEnd / 256 - s.get F.MEMC_SCRUB_POS % (s.dramEnd / 256)) % (s.dramEnd / 256) < words) :
    Reaches (.patrolScrub time words [(a, .ue)]) s (Poisoned (a / 32 * 32) (s.advance time)) := by
  have hd := State.advance_dramEnd s time
  generalize s.dramEnd = e at hd ha hw
  exact ⟨_, rfl, State.scrub_poisoned hd he ho ha hw⟩

/-- What an operation of `maintain` does, by what is due (R126). -/
theorem State.maintain_open {s : State} {ch dur : Nat} (scrub : Bool) (hc : ch < 2 ^ s.logChan) (hm : s.mayMaintain dur = true) :
    s.maintain scrub ch dur = { s with bus := { s.bus with
      maint := tabSet s.bus.maint ch (s.time.pix + dur), scrubs := if scrub then tabSet s.bus.scrubs ch (s.time.pix + dur) else s.bus.scrubs } } := by
  unfold State.maintain
  rw [if_pos (by simp [hc, hm])]

theorem State.maintain_waits {s : State} {dur : Nat} (scrub : Bool) (ch : Nat) (hm : s.mayMaintain dur = false) :
    s.maintain scrub ch dur = s := by
  unfold State.maintain
  rw [if_neg (by simp [hm])]

theorem execMaintenanceStart_eq (time : Nat) (ch : Fin 32) (op : Maint) (dur : Nat) (s : State) :
    exec (.maintenanceStart time ch op dur) s = .next ((s.advance time).maintain (decide (op = .scrub)) ch dur) := by
  cases op <;> rfl

theorem reaches_maintenanceStart {s : State} {time dur : Nat} {ch : Fin 32} (op : Maint) (hc : ch.val < 2 ^ s.logChan)
    (hm : (s.advance time).mayMaintain dur = true) : Reaches (.maintenanceStart time ch op dur) s (fun t =>
      tabGet? t.bus.maint ch = some (s.time.pix + time + dur) ∧ t.regs = s.regs ∧
      (op = .scrub → tabGet? t.bus.scrubs ch = some (s.time.pix + time + dur)) ∧ (op ≠ .scrub → t.bus.scrubs = s.bus.scrubs)) := by
  refine ⟨_, execMaintenanceStart_eq .., ?_⟩
  rw [State.maintain_open (s := s.advance time) _ hc hm]
  refine ⟨tabGet?_tabSet_same .., rfl, fun h => ?_, fun h => ?_⟩
  · simp only [h, decide_true, if_true]
    exact tabGet?_tabSet_same ..
  · simp [h]

theorem reaches_refreshForced {s : State} {ch : Fin 32} (time : Nat) (hc : ch.val < 2 ^ s.logChan) :
    Reaches (.refreshForced time ch) s (fun t => OnlyRegs [F.RASTER_LTR_FORCED.key] (s.advance time) t ∧
      ((s.reg F.RASTER_LTR_FORCED.key).toNat < 2 ^ 31 - 1 → t.reg F.RASTER_LTR_FORCED.key = s.reg F.RASTER_LTR_FORCED.key + 1)) := by
  refine ⟨(s.advance time).bump F.RASTER_LTR_FORCED, congrArg Host.Outcome.next (if_pos hc),
    ⟨rfl, fun k hk => tabGet?_tabSet_ne _ _ _ _ (by simpa using hk)⟩, fun h => State.reg_bump_same (s := s.advance time) h⟩

/-- Settles O36: the scrub, what waits for its channel, forced refresh, and the parities that select a channel. -/
theorem memoryMaintenance : Obligations.MemoryMaintenance := by
  unfold Obligations.MemoryMaintenance
  intro ch op dur words time s
  refine ⟨reaches_patrolScrub_clean, fun a he ho ha hw => (reaches_patrolScrub_ue he ho ha hw).imp
      fun _ ⟨ht, hp, hr, hm, hn⟩ => ⟨ht, hp, hr, hm, hn⟩,
    fun finds h => congrArg Host.Outcome.next (State.scrub_closed (s := s.advance time) h),
    fun hc => ⟨reaches_maintenanceStart op hc, fun hm => ?_, reaches_refreshForced time hc⟩, fun a b hb => s.channelOf_parity a hb⟩
  rw [execMaintenanceStart_eq, State.maintain_waits _ _ hm]

end Sys2Proof.Machine
end

section
/-! Blocks, mappings, host packets and loopback of the lanes (O46). -/
namespace Sys2Proof.Machine

/-! ### What the link and its panels leave alone

The counters of discarded blocks and the SENSEMAPs stand in registers that no change of a link's stage and no phase of a panel
writes; a block that has been sent stays on its lane. -/

/-- The keys of the SENSEMAPs, and those of HDR_ERR and STUFF_ERR of every lane. -/
def Quiet (k : Nat) : Prop :=
  k / 0x80 = 0x1A006 ∨ (0xD01000 ≤ k ∧ k < 0xD03000 ∧ (k % 0x80 = 0x20 ∨ k % 0x80 = 0x28))

theorem quiet_stuffErr (l : Fin 64) : Quiet (F.LANE_STUFF_ERR l).key := by
  unfold Quiet F.LANE_STUFF_ERR
  dsimp only
  omega

theorem quiet_hdrErr (l : Fin 64) : Quiet (F.LANE_HDR_ERR l).key := by
  unfold Quiet F.LANE_HDR_ERR
  dsimp only
  omega

theorem quiet_sensemap (k : Fin 32) : Quiet (F.DRAVIO_SENSEMAP_LANE k).key := by
  unfold Quiet F.DRAVIO_SENSEMAP_LANE
  dsimp only
  omega

theorem Quiet.range {k : Nat} (h : Quiet k) : 0xD00300 ≤ k ∧ k < 0xD03000 := by
  unfold Quiet at h
  omega

theorem not_quiet_above {k : Nat} (h : 0xD03000 ≤ k) : ¬Quiet k := fun hq => by
  obtain ⟨_, hk⟩ := hq.range
  omega

theorem not_quiet_lane {o : Nat} (l : Nat) (h : 0xD01000 ≤ o ∧ o % 0x80 ≠ 0x20 ∧ o % 0x80 ≠ 0x28) : ¬Quiet (o + 0x80 * l) := by
  unfold Quiet
  omega

theorem not_quiet_outmap {h : Nat} (hh : h < 32) : ¬Quiet (F.DRAVIO_OUTMAP_STATUS h).key := fun hq => by
  obtain ⟨hk, _⟩ := hq.range
  unfold F.DRAVIO_OUTMAP_STATUS at hk
  dsimp only at hk
  omega

/-- `t` has the quiet registers of `s`, and on every lane the block sent and the number of the next one. -/
structure Undisturbed (s t : State) : Prop where
  reg : ∀ k, Quiet k → t.reg k = s.reg k
  sent : ∀ l, (t.lane l).txG = (s.lane l).txG ∧ (t.lane l).out = (s.lane l).out

namespace Undisturbed

theorem refl (s : State) : Undisturbed s s := ⟨fun _ _ => rfl, fun _ => ⟨rfl, rfl⟩⟩

theorem trans {s t u : State} (h : Undisturbed s t) (g : Undisturbed t u) : Undisturbed s u :=
  ⟨fun k hk => (g.reg k hk).trans (h.reg k hk), fun l => ⟨(g.sent l).1.trans (h.sent l).1, (g.sent l).2.trans (h.sent l).2⟩⟩

theorem of_eq {s t : State} (hr : t.regs = s.regs) (hl : t.lanes = s.lanes) : Undisturbed s t :=
  ⟨fun k _ => by simp [State.reg, hr], fun l => by simp [State.lane, hl]⟩

theorem foldl {α : Type} {f : State → α → State} : ∀ (l : List α) (s : State), (∀ a ∈ l, ∀ s, Undisturbed s (f s a)) →
    Undisturbed s (l.foldl f s)
  | [], s, _ => refl s
  | a :: l, s, h => (h a List.mem_cons_self s).trans (foldl l (f s a) fun b hb => h b (List.mem_cons_of_mem _ hb))

theorem ite {s t u : State} {c : Prop} [Decidable c] (ht : Undisturbed s t) (hu : Undisturbed s u) :
    Undisturbed s (if c then t else u) := by
  split <;> assumption

theorem setReg {s : State} {k : Nat} (w : Word) (h : ¬Quiet k) : Undisturbed s (s.setReg k w) :=
  ⟨fun j hj => State.reg_setReg_ne _ _ _ _ (fun e => h (e ▸ hj)) (by
    obtain ⟨hlo, _⟩ := hj.range
    simp [isCtxOwn]
    omega), fun _ => ⟨rfl, rfl⟩⟩

theorem put {s : State} {f : Fld} (v : Nat) (h : ¬Quiet f.key) : Undisturbed s (s.put f v) := setReg _ h
theorem putB {s : State} {f : Fld} (b : Bool) (h : ¬Quiet f.key) : Undisturbed s (s.putB f b) := setReg _ h
theorem putBit {s : State} {f : Fld} (i : Nat) (b : Bool) (h : ¬Quiet f.key) : Undisturbed s (s.putBit f i b) := setReg _ h
theorem bump {s : State} {f : Fld} (h : ¬Quiet f.key) : Undisturbed s (s.bump f) := setReg _ h

theorem setLane {s : State} {l : Nat} {x : Lane} (hg : x.txG = (s.lane l).txG) (ho : x.out = (s.lane l).out) :
    Undisturbed s (s.setLane l x) :=
  ⟨fun _ _ => rfl, fun j => by
    by_cases hj : j = l
    · subst hj
      rw [State.lane_setLane_same]
      exact ⟨hg, ho⟩
    · rw [State.lane_setLane_ne _ _ _ _ hj]
      exact ⟨rfl, rfl⟩⟩

theorem of_logOnly {s t : State} (h : LogOnly s t) : Undisturbed s t :=
  ⟨fun k hk => h.reg k (by have := hk.range; omega) (by
    have := hk.range
    simp [isCtxOwn]
    omega), fun l => by simp [State.lane, h.lanes]⟩

end Undisturbed

variable (s : State)

theorem State.raise_undisturbed (cls a1 a2 d : Nat) (lim : Option Nat) : Undisturbed s (s.raise cls a1 a2 d lim) :=
  .of_logOnly (s.raise_logOnly cls a1 a2 d lim)

theorem State.laneRec_undisturbed (cls l code hop x a2 : Nat) (lim : Option Nat) :
    Undisturbed s (s.laneRec cls l code hop x a2 lim) := s.raise_undisturbed ..

/-! ### Rings -/

theorem State.refuse_undisturbed (cls : Nat) (src : Src) (k : AccKind) (a bad len set e : Nat) :
    Undisturbed s (s.refuse cls src k a bad len set e) := by
  unfold State.refuse
  exact Undisturbed.trans (.bump (not_quiet_above (by decide))) (State.raise_undisturbed ..)

theorem State.initCheck_undisturbed (src : Src) (k : AccKind) (a len : Nat) : Undisturbed s (s.initCheck src k a len).2 := by
  unfold State.initCheck
  dsimp only
  split
  · exact s.refuse_undisturbed ..
  · split
    · exact s.refuse_undisturbed ..
    · exact .refl s

theorem State.unitPut_undisturbed (src : Src) (a : Nat) (b : List Byte) : Undisturbed s (s.unitPut src a b) :=
  .ite (.of_eq rfl rfl) (.of_eq rfl rfl)

theorem State.unitWrite_undisturbed (src : Src) (a : Nat) (b : List Byte) : Undisturbed s (s.unitWrite src a b).2 := by
  unfold State.unitWrite
  refine List.foldlRecOn (motive := fun p : Bool × State => Undisturbed s p.2) _ _ (.refl s) fun p hp t _ => ?_
  have hc := hp.trans (p.2.initCheck_undisturbed src .write t.1 t.2)
  dsimp only
  split
  · exact hc.trans (State.unitPut_undisturbed ..)
  · exact hc

theorem State.ringRefuse_undisturbed (k code : Nat) : Undisturbed s (s.ringRefuse k code) :=
  (Undisturbed.bump (f := F.RINGS_REFUSED) (not_quiet_above (by decide))).trans (State.raise_undisturbed ..)

theorem not_quiet_ringsPut (k : Nat) : ¬Quiet (F.RINGS_PUT k).key := not_quiet_above (by unfold F.RINGS_PUT; dsimp only; omega)
theorem not_quiet_attnState (k : Nat) : ¬Quiet (F.RINGS_ATTN_STATE k).key :=
  not_quiet_above (by unfold F.RINGS_ATTN_STATE; dsimp only; omega)

theorem State.ringUpdate_undisturbed (k : Nat) : Undisturbed s (s.ringUpdate k) := by
  unfold State.ringUpdate
  extract_lets f s1
  have h1 : Undisturbed s s1 := .ite (.of_eq rfl rfl) (by split <;> exact .of_eq rfl rfl)
  exact h1.trans (.putBit _ _ (not_quiet_attnState _))

theorem State.ringPost_undisturbed (src : Src) (k : Nat) (e : List Byte) : Undisturbed s (s.ringPost src k e).2 := by
  unfold State.ringPost
  split_ifs
  · exact s.ringRefuse_undisturbed ..
  · exact s.ringRefuse_undisturbed ..
  · exact s.ringRefuse_undisturbed ..
  · exact .refl s
  · have hw := s.unitWrite_undisturbed src (s.ringAddr k (s.get (F.RINGS_PUT k))) e
    dsimp only
    generalize s.unitWrite src (s.ringAddr k (s.get (F.RINGS_PUT k))) e = p at hw ⊢
    obtain ⟨ok, s'⟩ := p
    cases ok
    · exact hw.trans (s'.ringRefuse_undisturbed ..)
    · exact (hw.trans (.put _ (not_quiet_ringsPut k))).trans (State.ringUpdate_undisturbed ..)

/-! ### Panels -/

theorem not_quiet_panelState (p : Nat) : ¬Quiet (F.PANEL_STATE_PHASE p).key :=
  not_quiet_above (by unfold F.PANEL_STATE_PHASE; dsimp only; omega)

theorem State.setPanel_undisturbed (p : Nat) (x : Panel) : Undisturbed s (s.setPanel p x) := .of_eq rfl rfl
theorem State.freeVal_undisturbed (w : Nat) : Undisturbed s (s.freeVal w).2 := .of_eq rfl rfl

theorem State.touchPost_undisturbed (p : Nat) (b : List Byte) : Undisturbed s (s.touchPost p b) := by
  unfold State.touchPost
  have hp := s.ringPost_undisturbed touchSrc (s.get F.TOUCH_CTRL_RING) (slice b 0 256)
  split
  next h => rwa [h] at hp
  next h =>
    rw [h] at hp
    exact (hp.trans (.bump (f := F.TOUCH_RING_DROP) (not_quiet_above (by decide)))).trans (State.raise_undisturbed ..)

theorem State.touchReport_undisturbed (p flags stamp scan : Nat) (lifts : List (Touch × Nat)) :
    Undisturbed s (s.touchReport p flags stamp scan lifts) := by
  unfold State.touchReport
  exact Undisturbed.trans (State.setPanel_undisturbed ..) (State.touchPost_undisturbed ..)

theorem State.showTouches_undisturbed (p : Nat) : Undisturbed s (s.showTouches p) := .put (f := F.PANEL_STATE_NTOUCH p) _ (not_quiet_panelState p)

theorem State.liftAll_undisturbed (p reason : Nat) : Undisturbed s (s.liftAll p reason) := by
  unfold State.liftAll
  extract_lets x s1
  have h1 : Undisturbed s s1 := Undisturbed.trans (State.setPanel_undisturbed ..) (State.showTouches_undisturbed ..)
  dsimp only
  refine .ite h1 (Undisturbed.trans ?_ (State.touchReport_undisturbed ..))
  exact (h1.trans (s1.freeVal_undisturbed 32)).trans (State.freeVal_undisturbed ..)

theorem State.panelLost_undisturbed (p : Nat) : Undisturbed s (s.panelLost p) := by
  unfold State.panelLost
  split
  · exact .refl s
  · exact (s.liftAll_undisturbed p 2).trans (State.setPanel_undisturbed ..)

theorem State.touchGroupDown_undisturbed (l : Nat) : Undisturbed s (s.touchGroupDown l) :=
  .foldl _ s fun p _ s => s.panelLost_undisturbed p

theorem State.setPhase_undisturbed (p ph : Nat) : Undisturbed s (s.setPhase p ph) := .put _ (not_quiet_panelState p)

theorem State.fullRate_undisturbed (p : Nat) : Undisturbed s (s.fullRate p) := by
  unfold State.fullRate
  exact Undisturbed.trans (.put (f := F.PANEL_STATE_RATE p) 0 (not_quiet_panelState p)) (State.setPanel_undisturbed ..)

theorem State.enterSettle_undisturbed (p cause : Nat) : Undisturbed s (s.enterSettle p cause) := by
  unfold State.enterSettle
  refine Undisturbed.trans (Undisturbed.trans ?_ (State.setPanel_undisturbed ..)) (State.fullRate_undisturbed ..)
  exact (s.setPhase_undisturbed p phaseSettle).trans (.put (f := F.PANEL_STATE_CAUSE p) cause (not_quiet_panelState p))

theorem State.queueCtl_undisturbed (l k : Nat) (p : List Byte) : Undisturbed s (s.queueCtl l k p) := .setLane rfl rfl

theorem State.sendSenseCmd_undisturbed (k : Nat) (cmd : List Byte) : Undisturbed s (s.sendSenseCmd k cmd) := by
  unfold State.sendSenseCmd
  split
  · exact .refl s
  · exact s.queueCtl_undisturbed ..

theorem State.startCmd_undisturbed (p : Nat) (c : List Byte) : Undisturbed s (s.startCmd p c) := by
  unfold State.startCmd
  exact Undisturbed.trans (State.setPanel_undisturbed ..) (State.sendSenseCmd_undisturbed ..)

theorem State.enterConfig_undisturbed (p : Nat) : Undisturbed s (s.enterConfig p) := by
  unfold State.enterConfig
  extract_lets s1 x s2
  have h1 : Undisturbed s s1 := ((s.liftAll_undisturbed p 2).trans (State.setPhase_undisturbed ..)).trans (State.fullRate_undisturbed ..)
  have h2 : Undisturbed s s2 := h1.trans (State.setPanel_undisturbed ..)
  split_ifs
  · exact h2.trans (State.enterSettle_undisturbed ..)
  · exact h2
  · exact (h2.trans (State.setPanel_undisturbed ..)).trans (State.startCmd_undisturbed ..)

theorem State.panelUp_undisturbed (p : Nat) : Undisturbed s (s.panelUp p) :=
  .ite (.refl s) (s.enterConfig_undisturbed p)

theorem State.touchGroupUp_undisturbed (l : Nat) : Undisturbed s (s.touchGroupUp l) :=
  .foldl _ s fun p _ s => s.panelUp_undisturbed p

/-! ### Stages of a link -/

theorem not_quiet_laneState (l : Nat) : ¬Quiet (F.LANE_STATE_STAGE l).key := not_quiet_lane (o := 0xD01004) l (by decide)

theorem State.setStage_undisturbed (l st : Nat) : Undisturbed s (s.setStage l st) :=
  .foldl _ s fun m _ _ => (Undisturbed.put st (not_quiet_laneState m)).trans (.setLane rfl rfl)

theorem State.conDrop_undisturbed (l code f : Nat) : Undisturbed s (s.conDrop l code f) := by
  unfold State.conDrop
  refine Undisturbed.trans (Undisturbed.trans ?_ (.bump ?_)) (State.laneRec_undisturbed ..)
  · exact .setLane rfl rfl
  · exact not_quiet_lane (o := 0xD01040) l (by decide)

theorem State.conBreak_undisturbed (l : Nat) : Undisturbed s (s.conBreak l) := by
  unfold State.conBreak
  split
  · exact .ite (.refl s) (s.conDrop_undisturbed ..)
  · exact .refl s

theorem State.dropOutq_undisturbed (l : Nat) : Undisturbed s (s.dropOutq l) :=
  .foldl _ s fun _ _ s => .ite (.of_eq rfl rfl) (.refl s)

theorem State.leaveUp_undisturbed (l : Nat) : Undisturbed s (s.leaveUp l) := by
  unfold State.leaveUp
  have h1 : Undisturbed s ((s.groupLanes l).foldl (fun s m => s.bump (F.LANE_DOWN_COUNT m)) s) :=
    .foldl _ s fun m _ s => .bump (f := F.LANE_DOWN_COUNT m) (not_quiet_lane (o := 0xD0102C) m (by decide))
  exact ((h1.trans (State.touchGroupDown_undisturbed ..)).trans (State.dropOutq_undisturbed ..)).trans (State.conBreak_undisturbed ..)

theorem State.clearLane_undisturbed (m : Nat) : Undisturbed s (s.clearLane m) :=
  (((Undisturbed.put (f := F.LANE_STATE_TXRATE m) 0 (not_quiet_laneState m)).trans
    (.put (f := F.LANE_STATE_RXRATE m) 0 (not_quiet_laneState m))).trans
    (.putB (f := F.LANE_STATE_RX_INVERTED m) false (not_quiet_laneState m))).trans
    (.putB (f := F.LANE_STATE_REVERSED m) false (not_quiet_laneState m))

theorem State.wakeAdmit_undisturbed (lane : Bool) (u : Nat) : Undisturbed s (s.wakeAdmit lane u) := by
  unfold State.wakeAdmit
  split_ifs
  · exact .of_eq rfl rfl
  · exact .refl s
  · exact .of_eq rfl rfl
  · exact .refl s

theorem State.bringUp_undisturbed (l : Nat) : Undisturbed s (s.bringUp l) := by
  unfold State.bringUp
  extract_lets s1 s2 x s3 wake s4
  have h1 : Undisturbed s s1 := (s.setStage_undisturbed l 1).trans (.foldl _ _ fun m _ s => s.clearLane_undisturbed m)
  have h2 : Undisturbed s s2 := h1.trans (.putB (f := F.LANE_STATE_PCAP_VALID l) false (not_quiet_laneState l))
  clear_value s2
  have h3 : Undisturbed s s3 := h2.trans (.setLane rfl rfl)
  have h4 : Undisturbed s s4 := h3.trans (.of_eq rfl rfl)
  exact h4.trans (State.wakeAdmit_undisturbed ..)

theorem State.stepCeiling_undisturbed (l : Nat) : Undisturbed s (s.stepCeiling l) := by
  unfold State.stepCeiling
  extract_lets c
  refine .ite (.refl s) (Undisturbed.trans (.foldl _ s fun m _ s => ?_) (State.laneRec_undisturbed ..))
  exact .put (f := F.LANE_STATE_CEILING m) _ (not_quiet_laneState m)

theorem State.linkDown_undisturbed (l code : Nat) : Undisturbed s (s.linkDown l code) := by
  unfold State.linkDown
  split
  · exact .refl s
  · have h : Undisturbed s (((s.laneRec 0x20 l code).leaveUp l).bringUp l) :=
      ((s.laneRec_undisturbed ..).trans (State.leaveUp_undisturbed ..)).trans (State.bringUp_undisturbed ..)
    generalize ((s.laneRec 0x20 l code).leaveUp l).bringUp l = s1 at h
    extract_lets x ds
    split
    · refine Undisturbed.trans (h.trans ?_) (State.stepCeiling_undisturbed ..)
      exact .setLane rfl rfl
    · exact h.trans (.setLane rfl rfl)

theorem State.mapStatus_undisturbed {h : Nat} (hh : h < 32) : Undisturbed s (s.mapStatus h) := .put _ (not_quiet_outmap hh)

theorem State.lanternCfgAll_undisturbed (l : Nat) : Undisturbed s (s.lanternCfgAll l) := by
  unfold State.lanternCfgAll
  refine .ite ?_ (.refl s)
  exact Undisturbed.trans (s.queueCtl_undisturbed ..) (.foldl _ _ fun _ _ s => .ite (s.queueCtl_undisturbed ..) (.refl s))

theorem State.enterUp_undisturbed (l : Nat) : Undisturbed s (s.enterUp l) := by
  unfold State.enterUp
  extract_lets s1 s2 y s3 r s4 z s5
  have h1 : Undisturbed s s1 := (s.setStage_undisturbed l 9).trans (.put (f := F.LANE_STATE_HOPS_SEEN l) 0 (not_quiet_laneState l))
  have h2 : Undisturbed s s2 := h1.trans (.foldl _ _ fun _ _ _ => .setLane rfl rfl)
  clear_value s2
  have h3 : Undisturbed s s3 := h2.trans (.setLane rfl rfl)
  have h4 : Undisturbed s s4 := (h3.trans (State.laneRec_undisturbed ..)).trans (State.lanternCfgAll_undisturbed ..)
  clear_value s4
  have hz : Undisturbed s4 (s4.setLane l { s4.lane l with stopped := true }) := .setLane rfl rfl
  have h5 : Undisturbed s s5 := h4.trans (.ite (.refl s4) (hz.trans (State.laneRec_undisturbed ..)))
  refine (h5.trans (.foldl _ _ fun h hh s => s.mapStatus_undisturbed ?_)).trans (State.touchGroupUp_undisturbed ..)
  exact List.mem_range.1 (List.mem_filter.1 hh).1

theorem State.enterRate_undisturbed (l tx rx : Nat) : Undisturbed s (s.enterRate l tx rx) := by
  unfold State.enterRate
  extract_lets s1
  have h1 : Undisturbed s s1 := (s.setStage_undisturbed l 8).trans (.foldl _ _ fun m _ s =>
    (Undisturbed.put (f := F.LANE_STATE_TXRATE m) tx (not_quiet_laneState m)).trans
      (.put (f := F.LANE_STATE_RXRATE m) rx (not_quiet_laneState m)))
  clear_value s1
  exact .ite (h1.trans (s1.enterUp_undisturbed l)) (h1.trans (.setLane rfl rfl))

theorem State.rateSwitch_undisturbed (l : Nat) : Undisturbed s (s.rateSwitch l) := by
  unfold State.rateSwitch
  split
  · refine .ite (Undisturbed.trans ?_ (State.enterRate_undisturbed ..)) (.refl s)
    exact .setLane rfl rfl
  · exact .refl s

end Sys2Proof.Machine
end

section
/-! Blocks, mappings, host packets and loopback of the lanes, continued (O46). -/
namespace Sys2Proof.Machine

/-! ### Bits of a register that a write takes -/

theorem State.get_lt (s : State) (f : Fld) : s.get f < 2 ^ f.w := Nat.mod_lt _ (by positivity)

theorem State.reg_writeBits_same (s : State) (key m : Nat) (v : Word) : (s.writeBits key m v).reg key =
    BitVec.ofNat 32 (((s.reg key).toNat &&& (0xFFFFFFFF ^^^ m)) ||| (v.toNat &&& m)) := State.reg_setReg_same ..

theorem State.getLsbD_writeBits (s : State) {key m : Nat} {v : Word} (i : Nat) (hi : i < 32) :
    ((s.writeBits key m v).reg key).getLsbD i = if m.testBit i then v.getLsbD i else (s.reg key).getLsbD i := by
  have h1 : Nat.testBit 0xFFFFFFFF i = true := by
    rw [show 0xFFFFFFFF = 2 ^ 32 - 1 from rfl, Nat.testBit_two_pow_sub_one]
    simpa using hi
  rw [State.reg_writeBits_same, BitVec.getLsbD_ofNat]
  simp only [Nat.testBit_or, Nat.testBit_and, Nat.testBit_xor, h1, hi, decide_true, Bool.true_and, BitVec.testBit_toNat]
  cases m.testBit i <;> simp

/-- A field that lies in the mask of a write takes its bits of the value. -/
theorem State.get_writeBits (s : State) {f : Fld} {m : Nat} (v : Word) (hf : f.lo + f.w ≤ 32)
    (hm : ∀ i < f.w, m.testBit (f.lo + i) = true) : (s.writeBits f.key m v).get f = v.toNat / 2 ^ f.lo % 2 ^ f.w := by
  apply Nat.eq_of_testBit_eq
  intro i
  simp only [State.get, Fld.of, bits, Nat.testBit_mod_two_pow, Nat.testBit_div_two_pow, BitVec.testBit_toNat]
  by_cases hi : i < f.w
  · rw [Nat.add_comm i, State.getLsbD_writeBits _ _ (by omega), hm i hi, if_pos rfl]
  · simp [hi]

/-- A field outside the mask of a write keeps its value. -/
theorem State.get_writeBits_out (s : State) {f : Fld} {m : Nat} (v : Word) (hf : f.lo + f.w ≤ 32)
    (hm : ∀ i < f.w, m.testBit (f.lo + i) = false) : (s.writeBits f.key m v).get f = s.get f := by
  apply Nat.eq_of_testBit_eq
  intro i
  simp only [State.get, Fld.of, bits, Nat.testBit_mod_two_pow, Nat.testBit_div_two_pow, BitVec.testBit_toNat]
  by_cases hi : i < f.w
  · rw [Nat.add_comm i, State.getLsbD_writeBits _ _ (by omega), hm i hi, if_neg (by decide)]
  · simp [hi]

theorem State.writeBits_masked (s : State) (key m : Nat) (v : Word) :
    (s.writeBits key m v).reg key &&& BitVec.ofNat 32 m = v &&& BitVec.ofNat 32 m := by
  apply BitVec.eq_of_getLsbD_eq
  intro i hi
  rw [BitVec.getLsbD_and, BitVec.getLsbD_and, State.getLsbD_writeBits _ _ hi, BitVec.getLsbD_ofNat]
  cases m.testBit i <;> simp

/-- A write of the bits that stand changes no bit. -/
theorem State.reg_writeBits_of_masked {s : State} {key m : Nat} {v : Word}
    (h : s.reg key &&& BitVec.ofNat 32 m = v &&& BitVec.ofNat 32 m) : (s.writeBits key m v).reg key = s.reg key := by
  apply BitVec.eq_of_getLsbD_eq
  intro i hi
  have hb := congrArg (fun w => BitVec.getLsbD w i) h
  simp only [BitVec.getLsbD_and, BitVec.getLsbD_ofNat, hi, decide_true, Bool.true_and] at hb
  rw [State.getLsbD_writeBits _ _ hi]
  split
  next hm => simpa [hm] using hb.symm
  next => rfl

theorem State.writeBits_onlyRegs (s : State) (key m : Nat) (v : Word) : OnlyRegs [key] s (s.writeBits key m v) :=
  ⟨rfl, fun _ hk => tabGet?_tabSet_ne _ _ _ _ (by simpa using hk)⟩

/-! ### Registers that only states with the same table share -/

theorem State.get_of_regs {s t : State} (h : t.regs = s.regs) (f : Fld) : t.get f = s.get f := by simp [State.get, State.reg, h]
theorem State.on_of_regs {s t : State} (h : t.regs = s.regs) (f : Fld) : t.on f = s.on f := by simp [State.on, State.get_of_regs h]

theorem State.groupN_of_regs {s t : State} (h : t.regs = s.regs) (l : Nat) : t.groupN l = s.groupN l := by
  unfold State.groupN
  rw [State.get_of_regs h]

theorem State.leadOf_of_regs {s t : State} (h : t.regs = s.regs) (l : Nat) : t.leadOf l = s.leadOf l := by
  unfold State.leadOf
  simp only [State.groupN_of_regs h, State.on_of_regs h]

/-! ### Blocks received (R331, R335, R339, R347) -/

theorem State.blockReceived_shut {s : State} {m : Nat} (b : List Bool) (h : s.get (F.LANE_LOOP_MODE m) % 2 = 1) :
    s.blockReceived m b = s := by
  have h4 : s.get (F.LANE_LOOP_MODE m) < 4 := s.get_lt _
  unfold State.blockReceived
  dsimp only
  rw [if_pos (by simp; omega)]

/-- Where no loopback shuts the receiver off and no PRBS is checked, the bits reach the group's lead; far-end loopback only
sends them on as they came. -/
theorem State.blockReceived_open {s : State} {l m : Nat} (b : List Bool) (hl : s.leadOf l = some m)
    (hm : s.get (F.LANE_LOOP_MODE l) % 2 = 0) (hc : s.on (F.LANE_LOOP_PRBS_CHK l) = false) :
    ∃ u : State, u.regs = s.regs ∧ (∃ o, u.lane m = { s.lane m with out := o }) ∧ s.blockReceived l b = u.laneIn m l b := by
  have h4 : s.get (F.LANE_LOOP_MODE l) < 4 := s.get_lt _
  have hf : ∀ u : State, u.regs = s.regs → u.feed l b = u.laneIn m l b := fun u hu => by
    unfold State.feed
    rw [State.leadOf_of_regs hu, hl]
    dsimp only
    rw [State.on_of_regs hu, hc]
    rfl
  unfold State.blockReceived
  dsimp only
  rw [if_neg (by simp; omega)]
  refine ⟨_, ?_, ?_, hf _ ?_⟩
  · split <;> rfl
  · split
    · by_cases h : m = l
      · subst h
        exact ⟨b, by rw [State.lane_setLane_same]⟩
      · exact ⟨(s.lane m).out, by rw [State.lane_setLane_ne _ _ _ _ h]⟩
    · exact ⟨(s.lane m).out, rfl⟩
  · split <;> rfl

theorem State.countBlock_undisturbed (s : State) (l : Nat) (bad : Bool) : Undisturbed s (s.countBlock l bad) := by
  unfold State.countBlock
  extract_lets w x s1
  have h1 : Undisturbed s s1 := .setLane rfl rfl
  clear_value s1
  exact .ite (h1.trans (s1.linkDown_undisturbed l 3)) h1

theorem State.trainBreak_undisturbed (s : State) (l : Nat) : Undisturbed s (s.trainBreak l) := .setLane rfl rfl

/-- A block that is discarded goes into its lane's counter. -/
theorem State.reg_discarded {s : State} {f : Fld} (l m code : Nat) (hq : Quiet f.key) (hn : (s.reg f.key).toNat < 2 ^ 31 - 1) :
    (((((s.sawBeacon l).bump f).laneRec 0x24 l code 0 0 0 (some l)).trainBreak m).countBlock m true).reg f.key = s.reg f.key + 1 := by
  have hb : ((s.sawBeacon l).bump f).reg f.key = s.reg f.key + 1 := State.reg_bump_same (s := s.sawBeacon l) hn
  have h := ((s.sawBeacon l).bump f).laneRec_undisturbed 0x24 l code 0 0 0 (some l)
  rw [← hb]
  exact ((h.trans (State.trainBreak_undisturbed ..)).trans (State.countBlock_undisturbed ..)).reg _ hq

theorem State.countBlock_of_not_up {s : State} {l : Nat} (h : s.laneUp l = false) (bad : Bool) :
    s.countBlock l bad = s.setLane l { s.lane l with window := (bad :: (s.lane l).window).take 64 } := by
  unfold State.countBlock
  extract_lets w x s1
  have hd : s1.linkDown l 3 = s1 := by
    unfold State.linkDown
    exact if_pos (by rw [show s1.laneUp l = s.laneUp l from rfl, h]; rfl)
  rw [hd, ite_self]

/-- A block that is not DATA moves the number expected next. -/
theorem State.blockIn_rxG (s : State) (l m : Nat) {h : Nat} (p : List Byte) (hb : bits h 10 2 ≠ 0) :
    ((s.blockIn l m h p).lane l).rxG = some ((bits h 12 24 + 1) % 2 ^ 24) := by
  unfold State.blockIn
  extract_lets s1 x seq gap s2 btype last ready good follows run y
  rw [if_neg (by simp [btype, hb]), State.lane_setLane_same]

/-- In stage 6 a good TRAIN block with the number expected counts. -/
theorem State.blockIn_trainRun {s : State} {l h : Nat} {p : List Byte} (m : Nat) (hl64 : l < 64) (hs : s.laneStage l = 6) (hb : bits h 10 2 = 2)
    (hz : p.take 2047 = List.replicate 2047 0) (hlast : leNat (slice p 2047 1) ≤ 1) (hg : (s.lane l).rxG = some (bits h 12 24)) :
    ((s.blockIn l m h p).lane l).trainRun = (s.lane l).trainRun + 1 := by
  have hu : s.laneUp l = false := by simp [State.laneUp, hs]
  unfold State.blockIn
  rw [State.countBlock_of_not_up hu]
  extract_lets x0 s1 x seq gap s2 btype last ready good follows run y
  have hx : x = { s.lane l with window := (false :: (s.lane l).window).take 64 } := State.lane_setLane_same ..
  have hs2 : s2.laneStage l = 6 := by
    refine Eq.trans ?_ hs
    unfold s2
    split
    · exact (State.raise_logOnly ..).get _ (by
        unfold F.LANE_STATE_STAGE
        dsimp only
        omega) (by simp [isCtxOwn, F.LANE_STATE_STAGE])
    · rfl
  have hxg : x.rxG = some seq := by
    rw [hx]
    exact hg
  have hall : (p.take 2047).all (fun b => b = 0) = true :=
    List.all_eq_true.2 fun b hb => decide_eq_true (List.eq_of_mem_replicate (hz ▸ hb))
  have hgood : good = true := by simp only [good, btype, last, hb, hall, hlast, decide_true, Bool.and_self]
  have hfol : follows = true := by simp only [follows, hxg, decide_true, Bool.or_true]
  rw [if_neg (by simp [btype, hb]), State.lane_setLane_same]
  have hrun : run = x.trainRun + 1 := by
    simp only [run, hs2, hgood, hfol]
    rfl
  exact hrun.trans (by rw [hx])

theorem State.leadOf_le {s : State} {l m : Nat} (h : s.leadOf l = some m) : m ≤ l := by
  have hm := List.mem_of_find?_eq_some h
  simp only [List.mem_cons, List.not_mem_nil, or_false] at hm
  omega

section
variable {u : State} {l m : Nat} {b : List Bool} (hw : (u.lane m).waiting = none) (hs : u.laneStage l ≠ 11)
  (hi : u.on (F.LANE_STATE_RX_INVERTED l) = false)
include hw hs hi

theorem State.laneIn_stuffing (h : receiveBits b = .stuffing) : u.laneIn m l b =
    ((((u.sawBeacon l).bump (F.LANE_STUFF_ERR l)).laneRec 0x24 l 2 0 0 0 (some l)).trainBreak m).countBlock m true := by
  unfold State.laneIn
  rw [if_neg (by simp [hw, hs]), hi, if_neg (by decide), h]

theorem State.laneIn_badHeader (h : receiveBits b = .badHeader) : u.laneIn m l b =
    ((((u.sawBeacon l).bump (F.LANE_HDR_ERR l)).laneRec 0x24 l 1 0 0 0 (some l)).trainBreak m).countBlock m true := by
  unfold State.laneIn
  rw [if_neg (by simp [hw, hs]), hi, if_neg (by decide), h]

theorem State.laneIn_ok {hd : Nat} {p : List Byte} (h : receiveBits b = .ok hd p) :
    u.laneIn m l b = (u.sawBeacon l).memberBlock m l hd p := by
  unfold State.laneIn
  rw [if_neg (by simp [hw, hs]), hi, if_neg (by decide), h]

end

/-- What a block received on lane `l`, whose group's lead is `m`, does. -/
theorem State.blockReceived_does {s : State} {l : Fin 64} {m : Nat} {b : List Bool} (hl : s.leadOf l = some m)
    (hw : (s.lane m).waiting = none) (hs : s.laneStage l ≠ 11) (hi : s.on (F.LANE_STATE_RX_INVERTED l) = false)
    (hm : s.get (F.LANE_LOOP_MODE l) % 2 = 0) (hc : s.on (F.LANE_LOOP_PRBS_CHK l) = false) :
    (receiveBits b = .stuffing → (s.reg (F.LANE_STUFF_ERR l).key).toNat < 2 ^ 31 - 1 →
      (s.blockReceived l b).reg (F.LANE_STUFF_ERR l).key = s.reg (F.LANE_STUFF_ERR l).key + 1) ∧
    (receiveBits b = .badHeader → (s.reg (F.LANE_HDR_ERR l).key).toNat < 2 ^ 31 - 1 →
      (s.blockReceived l b).reg (F.LANE_HDR_ERR l).key = s.reg (F.LANE_HDR_ERR l).key + 1) ∧
    (∀ hd p, receiveBits b = .ok hd p → bits hd 10 2 ≠ 0 → s.groupN m = 1 ∨ s.laneStage m < 6 →
      ((s.blockReceived l b).lane m).rxG = some ((bits hd 12 24 + 1) % 2 ^ 24) ∧
      (s.laneStage m = 6 → bits hd 10 2 = 2 → p.take 2047 = List.replicate 2047 0 → leNat (slice p 2047 1) ≤ 1 →
        (s.lane m).rxG = some (bits hd 12 24) → ((s.blockReceived l b).lane m).trainRun = (s.lane m).trainRun + 1)) := by
  obtain ⟨u, hr, ⟨o, hu⟩, he⟩ := State.blockReceived_open b hl hm hc
  have hreg : ∀ k, u.reg k = s.reg k := fun k => by simp [State.reg, hr]
  have hst : ∀ k, u.laneStage k = s.laneStage k := fun k => State.get_of_regs hr _
  have hwu : (u.lane m).waiting = none := by
    rw [hu]
    exact hw
  have hsu : u.laneStage l ≠ 11 := hst l ▸ hs
  have hiu : u.on (F.LANE_STATE_RX_INVERTED l) = false := (State.on_of_regs hr _).trans hi
  rw [he]
  refine ⟨fun h hn => ?_, fun h hn => ?_, fun hd p h hb hg => ?_⟩
  · rw [State.laneIn_stuffing hwu hsu hiu h]
    rw [← hreg] at hn ⊢
    exact State.reg_discarded _ _ _ (quiet_stuffErr l) hn
  · rw [State.laneIn_badHeader hwu hsu hiu h]
    rw [← hreg] at hn ⊢
    exact State.reg_discarded _ _ _ (quiet_hdrErr l) hn
  · have hmb : (u.sawBeacon l).memberBlock m l hd p = (u.sawBeacon l).blockIn m l hd p := by
      unfold State.memberBlock
      refine if_pos ?_
      have hn : (u.sawBeacon l).groupN m = s.groupN m := State.groupN_of_regs hr m
      have hsm : (u.sawBeacon l).laneStage m = s.laneStage m := hst m
      rw [hn, hsm]
      simpa using hg
    have hlane : ∃ t, (u.sawBeacon l).lane m = { s.lane m with out := o, beaconAt := t } := by
      by_cases hml : m = l
      · subst hml
        exact ⟨_, (State.lane_setLane_same ..).trans (by rw [hu])⟩
      · exact ⟨(s.lane m).beaconAt, (State.lane_setLane_ne _ _ _ _ hml).trans hu⟩
    obtain ⟨t, ht⟩ := hlane
    rw [State.laneIn_ok hwu hsu hiu h, hmb]
    refine ⟨State.blockIn_rxG _ _ _ _ hb, fun h6 h2 hz hlast hx => ?_⟩
    refine (State.blockIn_trainRun (s := u.sawBeacon l) _ (by have := State.leadOf_le hl; omega) ((hst m).trans h6) h2 hz hlast (by rw [ht]; exact hx)).trans ?_
    rw [ht]

/-! ### Blocks sent (R331, R335, R347, R18) -/

theorem State.transmit_plain {u : State} {m : Nat} (b : List Bool) (hm : u.get (F.LANE_LOOP_MODE m) = 0)
    (hp : u.on (F.LANE_LOOP_PRBS_GEN m) = false) : u.transmit m b = u.setLane m { u.lane m with out := b } := by
  unfold State.transmit
  simp [hm, hp]

/-- Block number `g` of the group of `l`, with what it carries, goes out on member `pos`. -/
def State.sendNext (u : State) (l pos g type : Nat) (payload : List Byte) : State :=
  ((u.setLane l { u.lane l with txG := g + 1 }).transmit (l + pos)
    (blockBits (header (l + pos) pos (u.get (F.LANE_CFG_GSIZE l)) type g) payload)).rateSwitch l

theorem State.sendNext_sent {u : State} {l pos : Nat} (g type : Nat) (payload : List Byte) (hm : u.get (F.LANE_LOOP_MODE (l + pos)) = 0)
    (hp : u.on (F.LANE_LOOP_PRBS_GEN (l + pos)) = false) : ((u.sendNext l pos g type payload).lane l).txG = g + 1 ∧
      ((u.sendNext l pos g type payload).lane (l + pos)).out =
        blockBits (header (l + pos) pos (u.get (F.LANE_CFG_GSIZE l)) type g) payload := by
  unfold State.sendNext
  set b := blockBits (header (l + pos) pos (u.get (F.LANE_CFG_GSIZE l)) type g) payload
  rw [State.transmit_plain (u := u.setLane l _) b hm hp]
  set v := u.setLane l { u.lane l with txG := g + 1 } with hv
  have hr := State.rateSwitch_undisturbed (v.setLane (l + pos) { v.lane (l + pos) with out := b }) l
  refine ⟨(hr.sent l).1.trans ?_, (hr.sent (l + pos)).2.trans (by rw [State.lane_setLane_same])⟩
  have hg : (v.lane l).txG = g + 1 := by rw [hv, State.lane_setLane_same]
  by_cases h0 : l + pos = l
  · rw [h0, State.lane_setLane_same]
    exact hg
  · rw [State.lane_setLane_ne _ _ _ _ (Ne.symm h0)]
    exact hg

theorem State.headPackets_regs (s : State) (h k n room : Nat) : (s.headPackets h k n room).2.regs = s.regs := by
  induction n generalizing s room with
  | zero => rfl
  | succ n ih =>
    unfold State.headPackets
    extract_lets x over_ line?
    clear_value line?
    rcases line? with _ | ⟨l, voted⟩
    · rfl
    · dsimp only
      split_ifs
      · rfl
      · exact ih ..
      · rfl
      · rfl
      · exact ih ..

theorem State.nextPayload_regs (s : State) (l : Nat) : (s.nextPayload l).2.regs = s.regs := by
  unfold State.nextPayload
  dsimp only [State.setLane_regs]
  split
  · refine List.foldlRecOn (motive := fun p : List Byte × State => p.2.regs = s.regs) _ _ rfl fun p hp e _ => ?_
    exact (State.headPackets_regs ..).trans hp
  · rfl

section
variable {s : State} {l : Nat} (h0 : s.laneStage l ≠ 0) (h11 : s.laneStage l ≠ 11) (hw : (s.lane l).waiting = none)
  (ha : s.admitted l = true)
include h0 h11 hw ha

theorem State.blockSend_lost (hl : s.lineLoss = true) : s.blockSend l =
    s.sendNext l ((s.lane l).txG % s.groupN l) (s.lane l).txG 1 (List.replicate 2048 0) := by
  unfold State.blockSend
  rw [if_neg (by simp [h0, h11, hw, ha]), hl]
  rfl

theorem State.blockSend_training (hl : s.lineLoss = false) (hx : (s.lane l).left = false) : s.blockSend l =
    s.sendNext l ((s.lane l).txG % s.groupN l) (s.lane l).txG 2
      (List.replicate 2047 0 ++ leBytes (if (s.lane l).trained = true then 1 else 0) 1) := by
  unfold State.blockSend
  rw [if_neg (by simp [h0, h11, hw, ha]), hl]
  dsimp only
  rw [hx]
  rfl

theorem State.blockSend_data (hl : s.lineLoss = false) (hx : (s.lane l).left = true) : s.blockSend l =
    (s.nextPayload l).2.sendNext l ((s.lane l).txG % s.groupN l) (s.lane l).txG (if (s.nextPayload l).1.isEmpty then 1 else 0)
      ((s.nextPayload l).1 ++ List.replicate (2048 - (s.nextPayload l).1.length) 0) := by
  unfold State.blockSend
  rw [if_neg (by simp [h0, h11, hw, ha]), hl]
  dsimp only
  rw [hx]
  rfl

end

end Sys2Proof.Machine
end

section
/-! Mappings, host packets and loopback of the lanes; what the commands of O46 do. -/
namespace Sys2Proof.Machine

/-! ### Blocks -/

theorem reaches_blockReceived {s : State} {l : Fin 64} {m time : Nat} {b : List Bool} (hl : s.leadOf l = some m)
    (hw : (s.lane m).waiting = none) (hs : s.laneStage l ≠ 11) (hi : s.on (F.LANE_STATE_RX_INVERTED l) = false)
    (hm : s.get (F.LANE_LOOP_MODE l) % 2 = 0) (hc : s.on (F.LANE_LOOP_PRBS_CHK l) = false) :
    (receiveBits b = .stuffing → Reaches (.blockReceived time l b) s (fun t => (s.reg (F.LANE_STUFF_ERR l).key).toNat < 2 ^ 31 - 1 →
      t.reg (F.LANE_STUFF_ERR l).key = s.reg (F.LANE_STUFF_ERR l).key + 1)) ∧
    (receiveBits b = .badHeader → Reaches (.blockReceived time l b) s (fun t => (s.reg (F.LANE_HDR_ERR l).key).toNat < 2 ^ 31 - 1 →
      t.reg (F.LANE_HDR_ERR l).key = s.reg (F.LANE_HDR_ERR l).key + 1)) ∧
    (∀ hd p, receiveBits b = .ok hd p → hd / 2 ^ 10 % 4 ≠ 0 → s.groupN m = 1 ∨ s.laneStage m < 6 →
      Reaches (.blockReceived time l b) s (fun t => (t.lane m).rxG = some ((hd / 2 ^ 12 % 2 ^ 24 + 1) % 2 ^ 24) ∧
        (s.laneStage m = 6 → hd / 2 ^ 10 % 4 = 2 → p.take 2047 = List.replicate 2047 0 → leNat (slice p 2047 1) ≤ 1 →
          (s.lane m).rxG = some (hd / 2 ^ 12 % 2 ^ 24) → (t.lane m).trainRun = (s.lane m).trainRun + 1))) := by
  obtain ⟨h1, h2, h3⟩ := State.blockReceived_does (s := s.advance time) (b := b) hl hw hs hi hm hc
  exact ⟨fun h => ⟨_, rfl, h1 h⟩, fun h => ⟨_, rfl, h2 h⟩, fun hd p h hb hg => ⟨_, rfl, h3 hd p h hb hg⟩⟩

theorem execBlockSend_lead {s : State} {l : Fin 64} (time : Nat) (hl : s.leadOf l = some l.val) :
    exec (.blockSend time l) s = .next ((s.advance time).blockSend l) := by
  show Host.Outcome.next _ = _
  rw [show (s.advance time).leadOf l = some l.val from hl]

theorem reaches_blockSend {s : State} {l : Fin 64} {time : Nat} (hl : s.leadOf l = some l.val) (h0 : s.laneStage l ≠ 0)
    (h11 : s.laneStage l ≠ 11) (hw : (s.lane l).waiting = none) (ha : s.admitted l = true)
    (hm : s.get (F.LANE_LOOP_MODE (l + (s.lane l).txG % s.groupN l)) = 0)
    (hp : s.on (F.LANE_LOOP_PRBS_GEN (l + (s.lane l).txG % s.groupN l)) = false) :
    let z := s.advance time
    let x := s.lane l
    let pos := x.txG % s.groupN l
    let sent := fun (type : Nat) (payload : List Byte) => blockBits (header (l + pos) pos (s.get (F.LANE_CFG_GSIZE l)) type x.txG) payload
    Reaches (.blockSend time l) s (fun t => (t.lane l).txG = x.txG + 1 ∧
      (s.lineLoss = true → (t.lane (l + pos)).out = sent 1 (List.replicate 2048 0)) ∧
      (s.lineLoss = false → x.left = false → (t.lane (l + pos)).out = sent 2 (List.replicate 2047 0 ++ leBytes (if x.trained = true then 1 else 0) 1)) ∧
      (s.lineLoss = false → x.left = true → let p := (z.nextPayload l).1
        (t.lane (l + pos)).out = sent (if p = [] then 1 else 0) (p ++ List.replicate (2048 - p.length) 0))) := by
  intro z x pos sent
  refine ⟨_, execBlockSend_lead time hl, ?_⟩
  have hs := fun type p => State.sendNext_sent (u := z) (s.lane l).txG type p hm hp
  cases hloss : s.lineLoss with
  | true =>
    rw [State.blockSend_lost (s := z) h0 h11 hw ha hloss]
    obtain ⟨hg, ho⟩ := hs 1 (List.replicate 2048 0)
    exact ⟨hg, fun _ => ho, nofun, nofun⟩
  | false =>
    cases hleft : x.left with
    | false =>
      rw [State.blockSend_training (s := z) h0 h11 hw ha hloss hleft]
      obtain ⟨hg, ho⟩ := hs 2 (List.replicate 2047 0 ++ leBytes (if x.trained = true then 1 else 0) 1)
      exact ⟨hg, nofun, fun _ _ => ho, nofun⟩
    | true =>
      rw [State.blockSend_data (s := z) h0 h11 hw ha hloss hleft]
      have hr : (z.nextPayload l).2.regs = z.regs := State.nextPayload_regs z l
      obtain ⟨hg, ho⟩ := State.sendNext_sent (u := (z.nextPayload l).2) (s.lane l).txG (if (z.nextPayload l).1.isEmpty then 1 else 0)
        ((z.nextPayload l).1 ++ List.replicate (2048 - (z.nextPayload l).1.length) 0) ((State.get_of_regs hr _).trans hm)
        ((State.on_of_regs hr _).trans hp)
      refine ⟨hg, nofun, nofun, fun _ _ => ho.trans ?_⟩
      simp only [State.get_of_regs hr, List.isEmpty_iff]
      rfl

/-! ### OUTMAP (R360, R361) -/

section
variable (s : State) (h : Nat) (v : Word)

theorem State.wrote_lead : (s.writeBits (F.DRAVIO_OUTMAP_LEAD h).key 0x81FF v).get (F.DRAVIO_OUTMAP_LEAD h) = v.toNat % 2 ^ 6 :=
  (s.get_writeBits (f := F.DRAVIO_OUTMAP_LEAD h) v (by decide : 0 + 6 ≤ 32)
    (by decide : ∀ i < 6, Nat.testBit 0x81FF (0 + i) = true)).trans (by rw [show (F.DRAVIO_OUTMAP_LEAD h).lo = 0 from rfl, pow_zero, Nat.div_one]; rfl)

theorem State.wrote_hop : (s.writeBits (F.DRAVIO_OUTMAP_LEAD h).key 0x81FF v).get (F.DRAVIO_OUTMAP_HOP h) = v.toNat / 2 ^ 6 % 2 ^ 3 :=
  s.get_writeBits (f := F.DRAVIO_OUTMAP_HOP h) v (by decide : 6 + 3 ≤ 32) (by decide : ∀ i < 3, Nat.testBit 0x81FF (6 + i) = true)

theorem State.wrote_en : (s.writeBits (F.DRAVIO_OUTMAP_LEAD h).key 0x81FF v).on (F.DRAVIO_OUTMAP_EN h) = decide (v.toNat / 2 ^ 15 % 2 = 1) :=
  congrArg (fun n => decide (n = 1))
    (s.get_writeBits (f := F.DRAVIO_OUTMAP_EN h) v (by decide : 15 + 1 ≤ 32) (by decide : ∀ i < 1, Nat.testBit 0x81FF (15 + i) = true))

end

theorem OnlyRegs.put {k : Nat} {s t : State} (h : OnlyRegs [k] s t) (f : Fld) (v : Nat) (hf : f.key = k) : OnlyRegs [k] s (t.put f v) := by
  obtain ⟨hs, hr⟩ := h
  refine ⟨hs, fun j hj => (tabGet?_tabSet_ne _ _ _ _ ?_).trans (hr j hj)⟩
  simpa [hf] using hj

/-- A record after a change of the registers at `ks`. -/
theorem OnlyRegs.onlyLogged {ks : List Nat} {s t u : State} (h : OnlyRegs ks s t) (g : LogOnly t u) : OnlyLogged ks s u := by
  obtain ⟨hs, hr⟩ := h
  obtain ⟨r, l, rfl, hg⟩ := g
  refine ⟨?_, fun k hk hn => (hg k hk).trans (hr k hn)⟩
  rw [← hs]

theorem State.get_put_status (s : State) {h : Nat} {f : Fld} (v : Nat) (hk : f.key = (F.DRAVIO_OUTMAP_STATUS h).key)
    (hf : f.lo + f.w ≤ 16) : (s.put (F.DRAVIO_OUTMAP_STATUS h) v).get f = s.get f :=
  State.get_put_disj _ _ _ _ (by decide : 16 + 2 ≤ 32) hk (Or.inr hf)

/-- A status leaves every field but the statuses of mappings. -/
theorem State.mapStatus_get (s : State) {h : Nat} {f : Fld} (hc : isCtxOwn f.key = false)
    (hf : f.lo + f.w ≤ 16 ∨ f.key ≠ (F.DRAVIO_OUTMAP_STATUS h).key) : (s.mapStatus h).get f = s.get f := by
  by_cases hk : f.key = (F.DRAVIO_OUTMAP_STATUS h).key
  · exact s.get_put_status _ hk (hf.resolve_right (not_not_intro hk))
  · exact State.get_put_ne _ _ _ _ hk hc

theorem State.mapStatus_lanes (s : State) (h : Nat) : (s.mapStatus h).lanes = s.lanes := rfl

/-- What a fold of statuses leaves. -/
theorem State.foldl_mapStatus {f : Fld} (hc : isCtxOwn f.key = false) : ∀ (hs : List Nat) (s : State),
    (∀ h ∈ hs, f.lo + f.w ≤ 16 ∨ f.key ≠ (F.DRAVIO_OUTMAP_STATUS h).key) →
    (hs.foldl State.mapStatus s).get f = s.get f ∧ (hs.foldl State.mapStatus s).lanes = s.lanes
  | [], _, _ => ⟨rfl, rfl⟩
  | h :: hs, s, hf => by
    obtain ⟨hg, hl⟩ := State.foldl_mapStatus hc hs (s.mapStatus h) fun k hk => hf k (List.mem_cons_of_mem _ hk)
    exact ⟨hg.trans (s.mapStatus_get hc (hf h List.mem_cons_self)), hl⟩

theorem State.unstop_get (s : State) (l : Nat) {f : Fld} (hc : isCtxOwn f.key = false)
    (hf : f.lo + f.w ≤ 16 ∨ 0xD01000 ≤ f.key) : (s.unstop l).get f = s.get f := by
  unfold State.unstop
  split
  · rfl
  · refine (State.foldl_mapStatus hc _ _ fun h hh => hf.imp_right fun hk => ?_).1
    have h32 : h < 32 := List.mem_range.1 (List.mem_filter.1 hh).1
    simp only [F.DRAVIO_OUTMAP_STATUS]
    omega

theorem State.unstop_stopped (s : State) (l : Nat) : ((s.unstop l).lane l).stopped = false := by
  unfold State.unstop
  split
  next h => simpa using h
  next =>
    rw [State.lane, (State.foldl_mapStatus (f := F.DRAVIO_OUTMAP_LEAD 0) (by decide) _ _ fun _ _ => Or.inl (by decide)).2]
    exact congrArg Lane.stopped (State.lane_setLane_same ..)

section
variable {s : State} {h : Fin 32} {v : Word} (hen : s.on (F.DRAVIO_OUTMAP_EN h) = false)
include hen

theorem State.outmapOf_off : s.outmapOf h = none := by
  unfold State.outmapOf
  rw [hen]
  rfl

/-- A write that leaves a mapping off sets its fields. -/
theorem State.wrOutmap_off (hv : v.toNat / 2 ^ 15 % 2 = 0) :
    s.wrOutmap h v = (s.writeBits (F.DRAVIO_OUTMAP_LEAD h).key 0x81FF v).put (F.DRAVIO_OUTMAP_STATUS h) 3 := by
  have hw : (s.writeBits (F.DRAVIO_OUTMAP_LEAD h).key 0x81FF v).on (F.DRAVIO_OUTMAP_EN h) = false := by
    rw [State.wrote_en]
    exact decide_eq_false (by omega)
  unfold State.wrOutmap
  generalize s.writeBits (F.DRAVIO_OUTMAP_LEAD h).key 0x81FF v = w at hw
  rw [State.outmapOf_off hen]
  dsimp only
  rw [hw, State.outmapOf_off hw]
  rfl

section
variable (hv : v.toNat / 2 ^ 15 % 2 = 1)
include hv

/-- A mapping that serves lets its group go again, and takes its status. -/
theorem State.wrOutmap_taken (hb : (s.writeBits (F.DRAVIO_OUTMAP_LEAD h).key 0x81FF v).mapBad h = false)
    (hd : (s.writeBits (F.DRAVIO_OUTMAP_LEAD h).key 0x81FF v).demandFits (v.toNat % 2 ^ 6)
      ((s.writeBits (F.DRAVIO_OUTMAP_LEAD h).key 0x81FF v).get (F.LANE_CFG_TXMAX (v.toNat % 2 ^ 6))) = true) :
    s.wrOutmap h v = ((s.writeBits (F.DRAVIO_OUTMAP_LEAD h).key 0x81FF v).unstop (v.toNat % 2 ^ 6)).mapStatus h := by
  have hw : (s.writeBits (F.DRAVIO_OUTMAP_LEAD h).key 0x81FF v).on (F.DRAVIO_OUTMAP_EN h) = true := by
    rw [State.wrote_en]
    exact decide_eq_true hv
  have hl := s.wrote_lead h v
  unfold State.wrOutmap
  generalize s.writeBits (F.DRAVIO_OUTMAP_LEAD h).key 0x81FF v = w at hw hl hb hd
  have ho : w.outmapOf h = some (v.toNat % 2 ^ 6, w.get (F.DRAVIO_OUTMAP_HOP h)) := by
    unfold State.outmapOf
    rw [hw, hl]
    rfl
  rw [State.outmapOf_off hen]
  dsimp only
  rw [hw, hb, hl, hd, ho]
  rfl

/-- A mapping that does not serve is switched off, its status REFUSED, and is logged as class 0x28. -/
theorem State.wrOutmap_refused (hr : (s.writeBits (F.DRAVIO_OUTMAP_LEAD h).key 0x81FF v).mapBad h = true ∨
    (s.writeBits (F.DRAVIO_OUTMAP_LEAD h).key 0x81FF v).demandFits (v.toNat % 2 ^ 6)
      ((s.writeBits (F.DRAVIO_OUTMAP_LEAD h).key 0x81FF v).get (F.LANE_CFG_TXMAX (v.toNat % 2 ^ 6))) = false) :
    ∃ l code k, s.wrOutmap h v = ((((s.writeBits (F.DRAVIO_OUTMAP_LEAD h).key 0x81FF v).putB (F.DRAVIO_OUTMAP_EN h) false).put
      (F.DRAVIO_OUTMAP_STATUS h) 2).laneRec 0x28 l code k h) := by
  have hw : (s.writeBits (F.DRAVIO_OUTMAP_LEAD h).key 0x81FF v).on (F.DRAVIO_OUTMAP_EN h) = true := by
    rw [State.wrote_en]
    exact decide_eq_true hv
  have hl := s.wrote_lead h v
  unfold State.wrOutmap
  generalize s.writeBits (F.DRAVIO_OUTMAP_LEAD h).key 0x81FF v = w at hw hl hr
  have hoff : (w.putB (F.DRAVIO_OUTMAP_EN h) false).outmapOf h = none :=
    State.outmapOf_off (State.on_putB_same _ _ _ rfl (by decide : 15 + 1 ≤ 32))
  rw [State.outmapOf_off hen]
  dsimp only
  rw [hw, hl, hoff]
  have hcode : ((if w.mapBad h then 6 else if !w.demandFits (v.toNat % 2 ^ 6) (w.get (F.LANE_CFG_TXMAX (v.toNat % 2 ^ 6))) then 7 else 0) != 0)
      = true := by
    rcases hr with hr | hr <;> rw [hr]
    · rfl
    · cases w.mapBad h <;> rfl
  rw [if_neg (by decide), if_pos hcode]
  exact ⟨_, _, _, rfl⟩

end
end

theorem isCtxOwn_above {k : Nat} (h : 0xB00000 ≤ k) : isCtxOwn k = false := by
  simp [isCtxOwn]
  omega

theorem State.get_writeBits_ne (s : State) {key m : Nat} (v : Word) {f : Fld} (hk : f.key ≠ key) (hc : isCtxOwn f.key = false) :
    (s.writeBits key m v).get f = s.get f := congrArg f.of (State.reg_setReg_ne _ _ _ _ hk hc)

/-- A write of OUTMAP leaves the registers of the lanes. -/
theorem State.wrote_lane (s : State) (h : Fin 32) (v : Word) {f : Fld} (hf : 0xD01000 ≤ f.key) :
    (s.writeBits (F.DRAVIO_OUTMAP_LEAD h).key 0x81FF v).get f = s.get f := by
  refine s.get_writeBits_ne v ?_ (isCtxOwn_above (by omega))
  simp only [F.DRAVIO_OUTMAP_LEAD]
  omega

theorem laneCfg_key (l : Nat) : 0xD01000 ≤ (F.LANE_CFG_TXMAX l).key := by
  simp only [F.LANE_CFG_TXMAX]
  omega

theorem laneState_key (l : Nat) : 0xD01000 ≤ (F.LANE_STATE_HOPS_SEEN l).key := by
  simp only [F.LANE_STATE_HOPS_SEEN]
  omega

theorem outmap_key (h : Nat) : isCtxOwn (F.DRAVIO_OUTMAP_LEAD h).key = false := isCtxOwn_above (by simp only [F.DRAVIO_OUTMAP_LEAD]; omega)

section
variable {s : State} {i : Initiator} {h : Fin 32} {v : Word} (ha : Admits s i (F.DRAVIO_OUTMAP_LEAD h).key)
  (hen : s.on (F.DRAVIO_OUTMAP_EN h) = false)
include ha hen

theorem reaches_outmapWrite_off (hv : v.toNat / 2 ^ 15 % 2 = 0) : Reaches (.outmapWrite i h v) s (fun t =>
    t.on (F.DRAVIO_OUTMAP_EN h) = false ∧ t.get (F.DRAVIO_OUTMAP_STATUS h) = 3 ∧ t.get (F.DRAVIO_OUTMAP_LEAD h) = v.toNat % 2 ^ 6 ∧
    t.get (F.DRAVIO_OUTMAP_HOP h) = v.toNat / 2 ^ 6 % 2 ^ 3 ∧ OnlyRegs [(F.DRAVIO_OUTMAP_LEAD h).key] s t) := by
  refine ⟨_, congrArg Host.Outcome.next ((State.asWrite_admitted v _ ha).trans (State.wrOutmap_off hen hv)), ?_, ?_, ?_, ?_, ?_⟩
  · refine (State.on_of_get (State.get_put_status (f := F.DRAVIO_OUTMAP_EN h) _ _ rfl (by decide : 15 + 1 ≤ 16))).trans ?_
    exact (s.wrote_en h v).trans (decide_eq_false (by omega))
  · exact State.get_put_same _ (F.DRAVIO_OUTMAP_STATUS h) _ (by decide : 16 + 2 ≤ 32)
  · exact (State.get_put_status (f := F.DRAVIO_OUTMAP_LEAD h) _ _ rfl (by decide : 0 + 6 ≤ 16)).trans (s.wrote_lead h v)
  · exact (State.get_put_status (f := F.DRAVIO_OUTMAP_HOP h) _ _ rfl (by decide : 6 + 3 ≤ 16)).trans (s.wrote_hop h v)
  · exact (s.writeBits_onlyRegs _ _ v).put _ _ rfl

section
variable (hv : v.toNat / 2 ^ 15 % 2 = 1)
include hv

theorem reaches_outmapWrite_taken (hb : (s.writeBits (F.DRAVIO_OUTMAP_LEAD h).key 0x81FF v).mapBad h = false)
    (hd : (s.writeBits (F.DRAVIO_OUTMAP_LEAD h).key 0x81FF v).demandFits (v.toNat % 2 ^ 6)
      (s.get (F.LANE_CFG_TXMAX (v.toNat % 2 ^ 6))) = true) :
    Reaches (.outmapWrite i h v) s (fun t => t.mapsTo h (v.toNat % 2 ^ 6) = true ∧ t.get (F.DRAVIO_OUTMAP_STATUS h) =
      if v.toNat / 2 ^ 6 % 2 ^ 3 ≠ 0 ∧ s.bit (F.LANE_STATE_HOPS_SEEN (v.toNat % 2 ^ 6)) (v.toNat / 2 ^ 6 % 2 ^ 3 - 1) = false then 1 else 0) := by
  have hw := s.wrote_lane h v (laneCfg_key (v.toNat % 2 ^ 6))
  have hn := s.wrote_lane h v (laneState_key (v.toNat % 2 ^ 6))
  have ht := State.wrOutmap_taken hen hv hb (hw ▸ hd)
  have hl := s.wrote_lead h v
  have hh := s.wrote_hop h v
  have he := s.wrote_en h v
  refine ⟨_, congrArg Host.Outcome.next ((State.asWrite_admitted v _ ha).trans ht), ?_, ?_⟩
  all_goals generalize s.writeBits (F.DRAVIO_OUTMAP_LEAD h).key 0x81FF v = w at hl hh he hn ⊢
  · have hg : ∀ f : Fld, isCtxOwn f.key = false → f.lo + f.w ≤ 16 → ((w.unstop (v.toNat % 2 ^ 6)).mapStatus h).get f = w.get f :=
      fun f hc hf => (State.mapStatus_get _ hc (Or.inl hf)).trans (State.unstop_get _ _ hc (Or.inl hf))
    unfold State.mapsTo
    rw [State.on_of_get (hg (F.DRAVIO_OUTMAP_EN h) (outmap_key h) (by decide : 15 + 1 ≤ 16)), he,
      hg (F.DRAVIO_OUTMAP_LEAD h) (outmap_key h) (by decide : 0 + 6 ≤ 16), hl]
    simpa using hv
  · have hul := (w.unstop_get (v.toNat % 2 ^ 6) (outmap_key h) (Or.inl (by decide : 0 + 6 ≤ 16))).trans hl
    have huh := (w.unstop_get (f := F.DRAVIO_OUTMAP_HOP h) (v.toNat % 2 ^ 6) (outmap_key h) (Or.inl (by decide : 6 + 3 ≤ 16))).trans hh
    have hun := (w.unstop_get (f := F.LANE_STATE_HOPS_SEEN (v.toNat % 2 ^ 6)) (v.toNat % 2 ^ 6)
      (isCtxOwn_above (by have := laneState_key (v.toNat % 2 ^ 6); omega)) (Or.inr (laneState_key _))).trans hn
    refine (State.get_put_same _ _ _ (by decide : 16 + 2 ≤ 32)).trans ?_
    rw [hul, huh, w.unstop_stopped]
    unfold State.bit
    rw [hun, if_neg (by decide)]
    simp only [Bool.and_eq_true, bne_iff_ne, Bool.not_eq_true']
    split <;> rfl

theorem reaches_outmapWrite_refused (hr : (s.writeBits (F.DRAVIO_OUTMAP_LEAD h).key 0x81FF v).mapBad h = true ∨
    (s.writeBits (F.DRAVIO_OUTMAP_LEAD h).key 0x81FF v).demandFits (v.toNat % 2 ^ 6) (s.get (F.LANE_CFG_TXMAX (v.toNat % 2 ^ 6))) = false) :
    Reaches (.outmapWrite i h v) s (fun t => t.on (F.DRAVIO_OUTMAP_EN h) = false ∧ t.get (F.DRAVIO_OUTMAP_STATUS h) = 2 ∧
      OnlyLogged [(F.DRAVIO_OUTMAP_LEAD h).key] s t ∧ ∃ r ∈ t.log.recent.head?, r.cls = 0x28) := by
  rw [← s.wrote_lane h v (laneCfg_key (v.toNat % 2 ^ 6))] at hr
  obtain ⟨l, code, k, ht⟩ := State.wrOutmap_refused hen hv hr
  refine ⟨_, congrArg Host.Outcome.next ((State.asWrite_admitted v _ ha).trans ht), ?_⟩
  have ho := ((s.writeBits_onlyRegs (F.DRAVIO_OUTMAP_LEAD h).key 0x81FF v).put (F.DRAVIO_OUTMAP_EN h) 0 rfl).put (F.DRAVIO_OUTMAP_STATUS h) 2 rfl
  change OnlyRegs _ s (((s.writeBits (F.DRAVIO_OUTMAP_LEAD h).key 0x81FF v).putB (F.DRAVIO_OUTMAP_EN h) false).put _ 2) at ho
  set w := (s.writeBits (F.DRAVIO_OUTMAP_LEAD h).key 0x81FF v).putB (F.DRAVIO_OUTMAP_EN h) false with hwdef
  have hw : w.on (F.DRAVIO_OUTMAP_EN h) = false := State.on_putB_same _ _ _ rfl (by decide : 15 + 1 ≤ 32)
  have hlog : LogOnly (w.put (F.DRAVIO_OUTMAP_STATUS h) 2) ((w.put (F.DRAVIO_OUTMAP_STATUS h) 2).laneRec 0x28 l code k h) :=
    State.raise_logOnly ..
  obtain ⟨r, hr, hc, _⟩ := (w.put (F.DRAVIO_OUTMAP_STATUS h) 2).raise_newest 0x28 (laneAddr l) 0
    ((l % 64 + 0x40 * (k % 8)) ||| (0x100 * (code % 256)) + 0x10000 * (h % 0x1000)) none
  have h21 : (F.DRAVIO_OUTMAP_LEAD h).key / 0x100000 ≠ 21 := by
    simp only [F.DRAVIO_OUTMAP_LEAD]
    omega
  refine ⟨?_, ?_, ho.onlyLogged hlog, r, hr, hc⟩
  · refine (State.on_of_get (hlog.get (F.DRAVIO_OUTMAP_EN h) h21 (outmap_key h))).trans ?_
    exact (State.on_of_get (State.get_put_status (f := F.DRAVIO_OUTMAP_EN h) _ _ rfl (by decide : 15 + 1 ≤ 16))).trans hw
  · exact (hlog.get (F.DRAVIO_OUTMAP_STATUS h) h21 (outmap_key h)).trans (State.get_put_same _ _ _ (by decide : 16 + 2 ≤ 32))

end
end

/-! ### SENSEMAP (R374) -/

theorem State.wrSensemap_takes (s : State) (k : Fin 32) (v : Word) :
    (s.wrSensemap k v).reg (F.DRAVIO_SENSEMAP_LANE k).key &&& 0x87FF = v &&& 0x87FF := by
  unfold State.wrSensemap
  have hm := s.writeBits_masked (F.DRAVIO_SENSEMAP_LANE k).key 0x87FF v
  extract_lets old t t2
  have h2 : Undisturbed t t2 := .ite (t.panelLost_undisturbed k) (.refl t)
  split_ifs
  · exact hm
  · rw [(h2.trans (t2.panelUp_undisturbed k)).reg _ (quiet_sensemap k)]
    exact hm
  · rw [h2.reg _ (quiet_sensemap k)]
    exact hm

theorem State.wrSensemap_same {s : State} {k : Fin 32} {v : Word}
    (h : s.reg (F.DRAVIO_SENSEMAP_LANE k).key &&& 0x87FF = v &&& 0x87FF) :
    s.wrSensemap k v = s.writeBits (F.DRAVIO_SENSEMAP_LANE k).key 0x87FF v := by
  unfold State.wrSensemap
  exact if_pos (State.reg_writeBits_of_masked h)

/-! ### The transmit ring (R376) -/

section
variable {s y : State} {e : List Byte} {m : Nat} (hen : s.on F.DRAVIO_HOSTTX_EN = true)
  (ht : s.ringTake dravioSrc (s.get F.DRAVIO_HOSTTX_RING) = (0, e, y)) (hl : y.leadOf (leNat (slice e 0 1)) = some m)
  (h64 : leNat (slice e 0 1) < 64)
include hen ht hl h64

/-- An entry that the rules of the transmit ring allow joins the packets that wait at its lane; another one is logged. -/
theorem State.hostLaneTx_eq : s.hostLaneTx =
    if (leNat (slice e 4 1) = 5 ∨ 0x80 ≤ leNat (slice e 4 1)) ∧ y.laneUp m = true ∧
      (leNat (slice e 1 1) % 8 = 0 ∨ y.bit (F.LANE_STATE_HOPS_SEEN m) (leNat (slice e 1 1) % 8 - 1) = true) then
      y.queueCtl m (leNat (slice e 1 1) % 8) (controlPacket (leNat (slice e 4 1)) (slice e 8 (min 248 (leNat (slice e 2 2)))))
    else y.laneRec 0x2D (leNat (slice e 0 1)) (leNat (slice e 4 1)) (leNat (slice e 1 1) % 8) := by
  unfold State.hostLaneTx
  rw [if_neg (by simp [hen]), ht]
  change (if _ = true then _ else _) = _
  rw [hl, Option.getD_some]
  generalize leNat (slice e 4 1) = sub, leNat (slice e 1 1) % 8 = hop, leNat (slice e 0 1) = n at h64
  by_cases h : (sub = 5 ∨ 0x80 ≤ sub) ∧ y.laneUp m = true ∧ (hop = 0 ∨ y.bit (F.LANE_STATE_HOPS_SEEN m) (hop - 1) = true)
  · rw [if_pos h, if_neg]
    obtain ⟨hs, hu, hh⟩ := h
    simp only [Bool.or_eq_true, Bool.and_eq_true, bne_iff_ne, decide_eq_true_eq, Bool.not_eq_true', hu]
    rcases hh with hh | hh
    · simp [hh]
      omega
    · simp [hh]
      omega
  · rw [if_neg h, if_pos]
    simp only [Bool.or_eq_true, Bool.and_eq_true, bne_iff_ne, decide_eq_true_eq, Bool.not_eq_true']
    by_contra hn
    refine h ?_
    simp only [not_or, not_and, Bool.not_eq_false] at hn
    obtain ⟨⟨⟨hs, _⟩, hu⟩, hh⟩ := hn
    exact ⟨by omega, hu, or_iff_not_imp_left.2 hh⟩

end

/-! ### LOOP (R377) -/

theorem State.wrLoop_enabled {s : State} {l : Nat} (v : Word) (h : s.on (F.LANE_CFG_EN l) = true) : s.wrLoop l v = s := if_pos h

section
variable {s : State} {l : Nat} (v : Word)

theorem State.loop_mode : (s.writeBits (F.LANE_LOOP_MODE l).key 0xF v).get (F.LANE_LOOP_MODE l) = v.toNat % 4 :=
  (s.get_writeBits (f := F.LANE_LOOP_MODE l) v (by decide : 0 + 2 ≤ 32)
    (by decide : ∀ i < 2, Nat.testBit 0xF (0 + i) = true)).trans (by rw [show (F.LANE_LOOP_MODE l).lo = 0 from rfl, pow_zero, Nat.div_one]; rfl)

theorem State.loop_gen : (s.writeBits (F.LANE_LOOP_MODE l).key 0xF v).on (F.LANE_LOOP_PRBS_GEN l) = decide (v.toNat / 4 % 2 = 1) :=
  congrArg (fun n => decide (n = 1))
    (s.get_writeBits (f := F.LANE_LOOP_PRBS_GEN l) v (by decide : 2 + 1 ≤ 32) (by decide : ∀ i < 1, Nat.testBit 0xF (2 + i) = true))

theorem State.loop_chk : (s.writeBits (F.LANE_LOOP_MODE l).key 0xF v).on (F.LANE_LOOP_PRBS_CHK l) = decide (v.toNat / 8 % 2 = 1) :=
  congrArg (fun n => decide (n = 1))
    (s.get_writeBits (f := F.LANE_LOOP_PRBS_CHK l) v (by decide : 3 + 1 ≤ 32) (by decide : ∀ i < 1, Nat.testBit 0xF (3 + i) = true))

theorem State.loop_state : (s.writeBits (F.LANE_LOOP_MODE l).key 0xF v).on (F.LANE_STATE_MEMBER l) = s.on (F.LANE_STATE_MEMBER l) :=
  State.on_of_get (s.get_writeBits_ne v (by simp only [F.LANE_STATE_MEMBER, F.LANE_LOOP_MODE]; omega)
    (isCtxOwn_above (by simp only [F.LANE_STATE_MEMBER]; omega)))

theorem State.loop_fenced : (s.writeBits (F.LANE_LOOP_MODE l).key 0xF v).laneFenced l = s.laneFenced l := by
  have hk : (F.LANE_LOOP_MODE l).key ≠ 0x50 ∧ (F.LANE_LOOP_MODE l).key ≠ 0x54 := by
    simp only [F.LANE_LOOP_MODE]
    omega
  unfold State.laneFenced State.bit
  rw [s.get_writeBits_ne (f := F.SYS_FENCE_LANE_LO) v hk.1.symm (by decide),
    s.get_writeBits_ne (f := F.SYS_FENCE_LANE_HI) v hk.2.symm (by decide)]

/-- LOOP of a member's lane is taken; apart from that only its generator and checker start anew. -/
theorem State.wrLoop_member (h : s.on (F.LANE_CFG_EN l) = false) (hm : s.on (F.LANE_STATE_MEMBER l) = true) :
    ∃ n x, s.wrLoop l v = { (s.writeBits (F.LANE_LOOP_MODE l).key 0xF v).setLane l x with free := n } := by
  unfold State.wrLoop
  rw [if_neg (by simp [h])]
  dsimp only
  rw [if_pos ((s.loop_state v).trans hm)]
  split <;> exact ⟨_, _, rfl⟩

/-- A lane that is no member of a group also takes its stage. -/
theorem State.wrLoop_idle (h : s.on (F.LANE_CFG_EN l) = false) (hm : s.on (F.LANE_STATE_MEMBER l) = false) :
    ∃ n x, s.wrLoop l v = { ((s.writeBits (F.LANE_LOOP_MODE l).key 0xF v).put (F.LANE_STATE_STAGE l)
      ((s.writeBits (F.LANE_LOOP_MODE l).key 0xF v).idleStage l)).setLane l x with free := n } := by
  have hw := (s.loop_state (l := l) v).trans hm
  unfold State.wrLoop
  rw [if_neg (by simp [h])]
  simp only [hw, Bool.false_eq_true, if_false]
  split <;> exact ⟨_, _, rfl⟩

end

/-! ### The commands (R374, R376, R377) -/

theorem reaches_sensemapWrite {s : State} {i : Initiator} {k : Fin 32} {v : Word} (ha : Admits s i (F.DRAVIO_SENSEMAP_LANE k).key) :
    Reaches (.sensemapWrite i k v) s (fun t => t.reg (F.DRAVIO_SENSEMAP_LANE k).key &&& 0x87FF = v &&& 0x87FF ∧
      (s.reg (F.DRAVIO_SENSEMAP_LANE k).key &&& 0x87FF = v &&& 0x87FF → OnlyRegs [(F.DRAVIO_SENSEMAP_LANE k).key] s t)) :=
  ⟨_, congrArg Host.Outcome.next (State.asWrite_admitted v _ ha), s.wrSensemap_takes k v, fun h => by
    rw [State.wrSensemap_same h]
    exact s.writeBits_onlyRegs ..⟩

theorem exec_hostLaneTx_off {s : State} (time : Nat) (h : s.on F.DRAVIO_HOSTTX_EN = false) :
    exec (.hostLaneTx time) s = .next (s.advance time) :=
  congrArg Host.Outcome.next (if_pos (by rw [show (s.advance time).on F.DRAVIO_HOSTTX_EN = false from h]; rfl))

theorem reaches_hostLaneTx {s y : State} {time m : Nat} {e : List Byte} (hen : s.on F.DRAVIO_HOSTTX_EN = true)
    (ht : (s.advance time).ringTake dravioSrc (s.get F.DRAVIO_HOSTTX_RING) = (0, e, y)) (hl : y.leadOf (leNat (slice e 0 1)) = some m)
    (h64 : leNat (slice e 0 1) < 64) :
    let hp := leNat (slice e 1 1) % 8
    let sub := leNat (slice e 4 1)
    let ok := (sub = 5 ∨ 0x80 ≤ sub) ∧ y.laneUp m = true ∧ (hp = 0 ∨ y.bit (F.LANE_STATE_HOPS_SEEN m) (hp - 1) = true)
    Reaches (.hostLaneTx time) s (fun t => (ok → (t.lane m).ctl = (y.lane m).ctl ++
        [toHop hp (controlPacket sub (slice e 8 (min 248 (leNat (slice e 2 2)))))]) ∧
      (¬ok → (t.lane m).ctl = (y.lane m).ctl ∧ ∃ r ∈ t.log.recent.head?, r.cls = 0x2D)) := by
  intro hp sub ok
  refine ⟨_, congrArg Host.Outcome.next (State.hostLaneTx_eq (s := s.advance time) hen ht hl h64), fun h => ?_, fun h => ?_⟩
  · rw [if_pos h]
    exact congrArg Lane.ctl (State.lane_setLane_same ..)
  · rw [if_neg h]
    have hlog : LogOnly y (y.laneRec 0x2D (leNat (slice e 0 1)) sub hp) := State.raise_logOnly ..
    obtain ⟨r, hr, hc, _⟩ := State.raise_newest ..
    exact ⟨congrArg (fun ls => (tabGet {} ls m).ctl) hlog.lanes, r, hr, hc⟩

section
variable {s : State} {i : Initiator} {l : Fin 64} {v : Word} (ha : Admits s i (F.LANE_LOOP_MODE l).key)
include ha

theorem exec_loopWrite_enabled (h : s.on (F.LANE_CFG_EN l) = true) : exec (.loopWrite i l v) s = .next s :=
  congrArg Host.Outcome.next ((State.asWrite_admitted v _ ha).trans (State.wrLoop_enabled v h))

variable (h : s.on (F.LANE_CFG_EN l) = false)
include h

theorem reaches_loopWrite_idle (hm : s.on (F.LANE_STATE_MEMBER l) = false) : Reaches (.loopWrite i l v) s (fun t =>
    t.get (F.LANE_LOOP_MODE l) = v.toNat % 4 ∧ (t.on (F.LANE_LOOP_PRBS_GEN l) = true ↔ v.toNat / 4 % 2 = 1) ∧
    (t.on (F.LANE_LOOP_PRBS_CHK l) = true ↔ v.toNat / 8 % 2 = 1) ∧
    (s.laneFenced l = false → t.laneStage l = if v.toNat % 4 = 0 then 0 else 10)) := by
  obtain ⟨n, x, hx⟩ := State.wrLoop_idle v h hm
  refine ⟨_, congrArg Host.Outcome.next ((State.asWrite_admitted v _ ha).trans hx), ?_⟩
  have hmode := s.loop_mode (l := l) v
  have hgen := s.loop_gen (l := l) v
  have hchk := s.loop_chk (l := l) v
  have hfen := s.loop_fenced (l := l) v
  generalize s.writeBits (F.LANE_LOOP_MODE l).key 0xF v = w at hmode hgen hchk hfen ⊢
  have hput : ∀ f : Fld, f.key = (F.LANE_LOOP_MODE l).key → (w.put (F.LANE_STATE_STAGE l) (w.idleStage l)).get f = w.get f := fun f hf =>
    State.get_put_ne _ _ _ _ (by rw [hf]; simp only [F.LANE_STATE_STAGE, F.LANE_LOOP_MODE]; omega)
      (by rw [hf]; exact isCtxOwn_above (by simp only [F.LANE_LOOP_MODE]; omega))
  refine ⟨(hput _ rfl).trans hmode, ?_, ?_, fun hf => ?_⟩
  · exact (iff_of_eq (congrArg (· = true) ((State.on_of_get (hput (F.LANE_LOOP_PRBS_GEN l) rfl)).trans hgen))).trans decide_eq_true_iff
  · exact (iff_of_eq (congrArg (· = true) ((State.on_of_get (hput (F.LANE_LOOP_PRBS_CHK l) rfl)).trans hchk))).trans decide_eq_true_iff
  · refine (State.get_put_same _ (F.LANE_STATE_STAGE l) _ (by decide : 0 + 4 ≤ 32)).trans ?_
    unfold State.idleStage
    rw [hfen, hf, hmode]
    by_cases h0 : v.toNat % 4 = 0
    · simp [h0]
    · simp [h0, F.LANE_STATE_STAGE]

theorem reaches_loopWrite_member (hm : s.on (F.LANE_STATE_MEMBER l) = true) : Reaches (.loopWrite i l v) s (fun t =>
    t.get (F.LANE_LOOP_MODE l) = v.toNat % 4 ∧ OnlyRegs [(F.LANE_LOOP_MODE l).key] { s with lanes := t.lanes, free := t.free } t) := by
  obtain ⟨n, x, hx⟩ := State.wrLoop_member v h hm
  refine ⟨_, congrArg Host.Outcome.next ((State.asWrite_admitted v _ ha).trans hx), s.loop_mode v, rfl, ?_⟩
  exact (s.writeBits_onlyRegs (F.LANE_LOOP_MODE l).key 0xF v).2

end

/-- Settles O46, command by command: blocks received and sent, mappings, the transmit ring, loopback. -/
theorem laneTraffic : Obligations.LaneTraffic := by
  unfold Obligations.LaneTraffic
  intro i l m h k b v time s z x one om sm w lead hop pos sent
  refine ⟨fun hs => congrArg Host.Outcome.next (State.blockReceived_shut (s := s.advance time) b hs),
    fun hl hw hs hi hm hc => reaches_blockReceived hl hw hs hi hm hc,
    fun hl h0 h11 hw ha hm hp => reaches_blockSend hl h0 h11 hw ha hm hp,
    fun ha hen => ⟨reaches_outmapWrite_off ha hen, reaches_outmapWrite_taken ha hen, reaches_outmapWrite_refused ha hen⟩,
    reaches_sensemapWrite, exec_hostLaneTx_off time,
    fun e y hen ht he hl => reaches_hostLaneTx hen ht (he ▸ hl) (he ▸ l.isLt),
    fun ha => ⟨reaches_loopWrite_idle ha, reaches_loopWrite_member ha, exec_loopWrite_enabled ha⟩⟩

end Sys2Proof.Machine
end

section
/-! The lines that the compositor makes and the underruns (O33). -/
namespace Sys2Proof.Machine

/-! ### Blending (R250) -/

theorem roundDiv_mul_right (n : Nat) {d : Nat} (h : 0 < d) : roundDiv (n * d) d = n := by
  unfold roundDiv
  rw [show 2 * (n * d) + d = d + n * (2 * d) by ring, Nat.add_mul_div_right _ _ (by omega), Nat.div_eq_of_lt (by omega), Nat.zero_add]

theorem blend1_opaque (c v : Nat) : blend1 c v 65535 = v := by
  unfold blend1
  rw [Nat.sub_self, Nat.mul_zero, Nat.add_zero]
  exact roundDiv_mul_right v (by decide)

theorem blend1_clear (c v : Nat) : blend1 c v 0 = c := by
  unfold blend1
  rw [Nat.mul_zero, Nat.zero_add]
  exact roundDiv_mul_right c (by decide)

/-! ### Every stage of a line keeps its number of pixels -/

theorem blendRow_length (x0 : Nat) (row : LayerRow) (line : List (Nat × Nat × Nat)) : (blendRow x0 row line).length = line.length := by
  simp only [blendRow, List.length_append, List.length_take, List.length_map, List.length_zip, List.length_drop]
  omega

theorem blendAll_length (bg : Nat × Nat × Nat) (n : Nat) (ls : List Layer) : (blendAll bg n ls).length = n := by
  unfold blendAll
  exact List.foldlRecOn (motive := fun l : List (Nat × Nat × Nat) => l.length = n) ls _ List.length_replicate fun _ hl _ _ => (blendRow_length ..).trans hl

theorem State.outLine_length (s : State) (h : Nat) (line : List (Nat × Nat × Nat)) : (s.outLine h line).length = line.length :=
  List.length_map ..

theorem State.drawTreat_length (s : State) (h : Nat) (ws : List Word) (v treat y : Nat) (cols : List Nat) {under line : List Pix}
    (hu : under.length = line.length) : (s.drawTreat h ws v treat y cols under line).length = line.length := by
  simp [State.drawTreat, hu]

theorem State.drawSnuffed_length (s : State) (h y : Nat) (bg : Nat × Nat × Nat) (n : Nat) (ls : List Layer) :
    ∀ (low : List Layer) (line : List Pix), line.length = n → (s.drawSnuffed h y bg n low ls line).length = n := by
  induction ls with
  | nil => exact fun _ _ hl => hl
  | cons l ls ih =>
    intro low line hl
    unfold State.drawSnuffed
    split
    · exact ih _ _ hl
    · refine ih _ _ ((s.drawTreat_length _ _ _ _ _ _ ?_).trans hl)
      split
      · rfl
      · rw [State.outLine_length, blendAll_length, hl]

/-! ### Rank order and window-lines -/

theorem mem_insertRank {e f : Nat × List Word} {l : List (Nat × List Word)} : f ∈ insertRank e l ↔ f = e ∨ f ∈ l := by
  induction l with
  | nil => simp [insertRank]
  | cons g l ih =>
    unfold insertRank
    split
    · exact List.mem_cons
    · rw [List.mem_cons, ih, List.mem_cons]
      exact or_left_comm

theorem mem_rankOrder {e : Nat × List Word} {l : List (Nat × List Word)} : e ∈ rankOrder l ↔ e ∈ l := by
  suffices h : ∀ r, e ∈ l.foldl (fun r e => insertRank e r) r ↔ e ∈ r ∨ e ∈ l from (h []).trans (by simp)
  induction l with
  | nil => simp
  | cons f l ih =>
    intro r
    rw [List.foldl_cons, ih, mem_insertRank, List.mem_cons]
    tauto

/-- The window-lines of layers that one path reason flags are flagged by it. -/
theorem path_of_mem_winLines {line : List Pix} {y n p : Nat} {ls : List Layer} (hp : ∀ l ∈ ls, l.path = p) :
    ∀ q ∈ winLines line y n ls, q.path = p := by
  induction ls with
  | nil => simp [winLines]
  | cons l ls ih =>
    have ih := ih fun x hx => hp x (List.mem_cons_of_mem _ hx)
    unfold winLines
    split
    · intro q hq
      obtain rfl | hq := List.mem_cons.1 hq
      · exact hp l List.mem_cons_self
      · exact ih q hq
    · exact ih

/-- A supervised layer has its window-line. -/
theorem winLines_ne_nil {line : List Pix} {y n : Nat} {ls : List Layer} {l : Layer} (hl : l ∈ ls) (hs : supervised l.ws = true) :
    winLines line y n ls ≠ [] := by
  induction ls with
  | nil => cases hl
  | cons a ls ih =>
    unfold winLines
    split
    · exact nofun
    · obtain rfl | hl := List.mem_cons.1 hl
      · contradiction
      · exact ih hl

/-! ### Composition (R61, R235) -/

/-- A line that is composed names its number and its frame and has as many pixels as the head's lines. -/
theorem State.composeLine_composed (s : State) (h y fs : Nat) :
    let l := ((s.composeLine h y fs).head h).composed
    l.no = y ∧ l.fseq = fs ∧ l.full = true ∧ l.pix.length = (s.tb h).timing.hactive := by
  unfold State.composeLine
  dsimp only
  rw [State.head_setHead_same]
  exact ⟨rfl, rfl, rfl, State.drawSnuffed_length _ _ _ _ _ _ _ _ ((State.outLine_length ..).trans (blendAll_length ..))⟩

/-- With no active window a line is the background. -/
theorem State.composeLine_bare {s : State} {h : Nat} (y fs : Nat) (hw : s.actWins h = []) :
    let l := ((s.composeLine h y fs).head h).composed
    l.wins = [] ∧ l.pix = s.outLine h (List.replicate (s.tb h).timing.hactive (colour16 (s.head h).bgAct.toNat)) := by
  unfold State.composeLine
  dsimp only
  rw [State.head_setHead_same, hw]
  exact ⟨rfl, rfl⟩

/-- The slice composes the next line of a head that it works for when that line is active and the slice awake. -/
theorem State.composeNext_eq (s : State) (h : Nat) : s.composeNext h =
    if s.composes h && (s.nextLine h).1 < (s.tb h).timing.vactive && s.awake (0x30 + s.sliceOf h) then
      (s.composeLine h (s.nextLine h).1 (s.nextLine h).2).worked (0x30 + s.sliceOf h) else s := by
  unfold State.composeNext
  generalize s.nextLine h = p
  rfl

@[simp] theorem State.worked_head (s : State) (u h : Nat) : (s.worked u).head h = s.head h := rfl
@[simp] theorem State.advance_head (s : State) (t h : Nat) : (s.advance t).head h = s.head h := rfl
@[simp] theorem State.advance_tb (s : State) (t h : Nat) : (s.advance t).tb h = s.tb h := rfl
@[simp] theorem State.advance_actWins (s : State) (t h : Nat) : (s.advance t).actWins h = s.actWins h := rfl
@[simp] theorem State.advance_nextLine (s : State) (t h : Nat) : (s.advance t).nextLine h = s.nextLine h := rfl
@[simp] theorem State.advance_composes (s : State) (t h : Nat) : (s.advance t).composes h = s.composes h := rfl
@[simp] theorem State.advance_sliceOf (s : State) (t h : Nat) : (s.advance t).sliceOf h = s.sliceOf h := rfl
@[simp] theorem State.advance_outLine (s : State) (t h : Nat) (l : List (Nat × Nat × Nat)) : (s.advance t).outLine h l = s.outLine h l := rfl

theorem reaches_composeLine {s : State} {h : Fin 48} {time : Nat} (hc : s.composes h = true)
    (hy : (s.nextLine h).1 < (s.tb h).timing.vactive) (ha : (s.advance time).awake (0x30 + s.sliceOf h) = true) :
    let n := (s.tb h).timing.hactive
    Reaches (.composeLine time h) s (fun t => (t.head h).composed.no = (s.nextLine h).1 ∧ (t.head h).composed.fseq = (s.nextLine h).2 ∧
      (t.head h).composed.full = true ∧ (t.head h).composed.pix.length = n ∧
      (s.actWins h = [] → (t.head h).composed.wins = [] ∧
        (t.head h).composed.pix = s.outLine h (List.replicate n (colour16 (s.head h).bgAct.toNat)))) := by
  refine ⟨(s.advance time).composeNext h, rfl, ?_⟩
  dsimp only
  rw [State.composeNext_eq, if_pos (by simp [hc, hy, ha]), State.worked_head]
  obtain ⟨hno, hfs, hfull, hlen⟩ := (s.advance time).composeLine_composed h (s.nextLine h).1 (s.nextLine h).2
  exact ⟨hno, hfs, hfull, hlen, fun hw => State.composeLine_bare (s := s.advance time) _ _ hw⟩

theorem exec_composeLine_asleep {s : State} {h : Fin 48} {time : Nat} (ha : (s.advance time).awake (0x30 + s.sliceOf h) = false) :
    exec (.composeLine time h) s = .next (s.advance time) :=
  congrArg Host.Outcome.next ((State.composeNext_eq ..).trans (if_neg (by simp [ha])))

/-! ### Underruns (R58, R123) -/

/-- Head `h` has its next line composed. -/
def State.lineReady (s : State) (h : Nat) : Bool :=
  (s.head h).composed.full && (s.head h).composed.no = (s.nextLine h).1 && (s.head h).composed.fseq = (s.nextLine h).2

/-- The line that head `h` shows where none was composed: the background, each of its window-lines flagged. -/
def State.missedLine (s : State) (h : Nat) : Line :=
  let pix := s.outLine h (List.replicate (s.tb h).timing.hactive (colour16 (s.head h).bgAct.toNat))
  let ls := (rankOrder ((s.actWins h).filter (fun e => crosses e.2 (s.nextLine h).1))).map (fun e =>
    ({ win := e.1, ws := e.2, row := [], v := 0, treat := 0, path := 12 } : Layer))
  ⟨(s.nextLine h).1, (s.nextLine h).2, pix, winLines pix (s.nextLine h).1 (s.tb h).timing.hactive ls, true, true, 0⟩

/-- A line with the window-lines of the windows `ws` flagged. -/
def Line.flagged (l : Line) (ws : List Nat) : Line :=
  { l with wins := l.wins.map (fun (q : WinLine) => if q.path = 0 && ws.contains q.win then { q with path := 12, rendered := false } else q) }

/-- Line `y` of the frame `fs` counts as an underrun of head `h`, and is logged once per frame. -/
def State.countUnderrun (s : State) (h y fs : Nat) : State :=
  let b := s.tb h
  let s := (s.bump (F.HEAD_UNDERRUN_COUNT h)).setTb h { b with underrunAt := some (fs, y) }
  if b.underrunLogged = some fs then s
  else (s.setTb h { s.tb h with underrunLogged := some fs }).raise 0x46 (headAddr h) 0 (rasterDet h y ((s.spanOf h).getD 0) 0)

/-- An underrun flags window-lines of the line that the head has, or of the one shown in its place, and counts when a window
that it concerns crosses the line. -/
theorem State.underrun_eq (s : State) (h : Nat) (ws : List Nat) : s.underrun h ws =
    let t := s.setHead h { s.head h with composed := (if s.lineReady h then (s.head h).composed else s.missedLine h).flagged ws }
    if !((s.actWins h).any (fun e => crosses e.2 (s.nextLine h).1 && (!s.lineReady h || ws.contains e.1))) ||
      (s.tb h).underrunAt = some ((s.nextLine h).2, (s.nextLine h).1) then t else t.countUnderrun h (s.nextLine h).1 (s.nextLine h).2 := by
  unfold State.underrun State.lineReady State.missedLine
  generalize s.nextLine h = p
  rfl

theorem State.lineReady_of_not_full {s : State} {h : Nat} (hf : (s.head h).composed.full = false) : s.lineReady h = false := by
  simp [State.lineReady, hf]

theorem State.missedLine_path {s : State} {h : Nat} : ∀ q ∈ (s.missedLine h).wins, q.path = 12 :=
  path_of_mem_winLines (List.forall_mem_map.2 fun _ _ => rfl)

theorem Line.flagged_path {l : Line} (ws : List Nat) (hl : ∀ q ∈ l.wins, q.path = 12) : ∀ q ∈ (l.flagged ws).wins, q.path = 12 := by
  refine List.forall_mem_map.2 fun q hq => ?_
  split
  · rfl
  · exact hl q hq

/-- A supervised window that crosses the line has a window-line in what is shown in its place. -/
theorem State.missedLine_wins {s : State} {h : Nat} {e : Nat × List Word} (he : e ∈ s.actWins h)
    (hc : crosses e.2 (s.nextLine h).1 = true) (hs : supervised e.2 = true) : (s.missedLine h).wins ≠ [] :=
  winLines_ne_nil (List.mem_map_of_mem (mem_rankOrder.2 (List.mem_filter.2 ⟨he, hc⟩))) hs

/-- What counting an underrun leaves: the counter is bumped, the timebase remembers the line, and a record may follow. -/
theorem State.countUnderrun_logOnly (s : State) (h y fs : Nat) :
    ∃ b, LogOnly ((s.bump (F.HEAD_UNDERRUN_COUNT h)).setTb h b) (s.countUnderrun h y fs) := by
  unfold State.countUnderrun
  extract_lets b t
  split
  · exact ⟨_, LogOnly.refl _⟩
  · refine ⟨{ b with underrunAt := some (fs, y), underrunLogged := some fs }, ?_⟩
    rw [show t.setTb h { t.tb h with underrunLogged := some fs } = (s.bump (F.HEAD_UNDERRUN_COUNT h)).setTb h
      { b with underrunAt := some (fs, y), underrunLogged := some fs } by simp [t, State.setTb, State.tb]]
    exact State.raise_logOnly ..

theorem LogOnly.head {s t : State} (h : LogOnly s t) (g : Nat) : t.head g = s.head g := by simp [State.head, h.heads]

theorem isCtxOwn_below {k : Nat} (h : k < 0xA80000) : isCtxOwn k = false := by
  simp [isCtxOwn]
  omega

theorem reaches_lineUnderrun {s : State} {h : Fin 48} (time : Nat) (ws : List (Fin 2048)) (hc : s.composes h = true)
    (hy : (s.nextLine h).1 < (s.tb h).timing.vactive) (hf : (s.head h).composed.full = false)
    (hw : ∃ e ∈ s.actWins h, crosses e.2 (s.nextLine h).1 = true) (hu : (s.tb h).underrunAt ≠ some ((s.nextLine h).2, (s.nextLine h).1)) :
    Reaches (.lineUnderrun time h ws) s (fun t => (t.head h).composed.no = (s.nextLine h).1 ∧ (∀ l ∈ (t.head h).composed.wins, l.path = 12) ∧
      ((∃ e ∈ s.actWins h, crosses e.2 (s.nextLine h).1 = true ∧ supervised e.2 = true) → (t.head h).composed.wins ≠ []) ∧
      ((s.reg (F.HEAD_UNDERRUN_COUNT h).key).toNat < 2 ^ 31 - 1 →
        t.reg (F.HEAD_UNDERRUN_COUNT h).key = s.reg (F.HEAD_UNDERRUN_COUNT h).key + 1)) := by
  refine ⟨(s.advance time).underrun h (ws.map (fun w => w.val)), congrArg Host.Outcome.next (if_pos (by simp [hc, hy])), ?_⟩
  obtain ⟨e, he, hce⟩ := hw
  have hany : (s.actWins h).any (fun e => crosses e.2 (s.nextLine h).1) = true := List.any_eq_true.2 ⟨e, he, hce⟩
  have hr : (s.advance time).lineReady h = false := State.lineReady_of_not_full hf
  rw [State.underrun_eq]
  simp only [hr, State.advance_actWins, State.advance_nextLine, State.advance_tb, State.advance_head, hany, hu, Bool.not_false, Bool.true_or,
    Bool.and_true, Bool.not_true, Bool.false_or, decide_false, if_false, Bool.false_eq_true]
  generalize ht : (s.advance time).setHead h _ = t
  obtain ⟨b, hlog⟩ := t.countUnderrun_logOnly h (s.nextLine h).1 (s.nextLine h).2
  have hline : (t.head h).composed = ((s.advance time).missedLine h).flagged (ws.map (fun w => w.val)) := by
    rw [← ht, State.head_setHead_same]
  have hreg : t.reg (F.HEAD_UNDERRUN_COUNT h).key = s.reg (F.HEAD_UNDERRUN_COUNT h).key := by rw [← ht]; rfl
  have hkey : (F.HEAD_UNDERRUN_COUNT h).key < 0xA80000 := by simp only [F.HEAD_UNDERRUN_COUNT]; omega
  rw [hlog.head, show (((t.bump (F.HEAD_UNDERRUN_COUNT h)).setTb h b).head h) = t.head h from rfl, hline,
    hlog.reg _ (by omega) (isCtxOwn_below hkey), State.setTb_reg, ← hreg]
  refine ⟨rfl, Line.flagged_path _ State.missedLine_path, fun ⟨e, he, hc, hs⟩ hn => ?_, State.reg_bump_same⟩
  exact State.missedLine_wins (s := s.advance time) he hc hs (List.map_eq_nil_iff.1 hn)

/-- Settles O33: lines composed and missed, and the two ends of the blend. -/
theorem composedLines : Obligations.ComposedLines := by
  unfold Obligations.ComposedLines
  refine ⟨?_, fun c v => ⟨blend1_opaque c v, blend1_clear c v⟩⟩
  intro h time ws s z y n c hc hy
  exact ⟨reaches_composeLine hc hy, exec_composeLine_asleep, reaches_lineUnderrun time ws hc hy⟩

end Sys2Proof.Machine
end

section
/-! The registers of the vigil, and echoes that do not come (O32). -/
namespace Sys2Proof.Machine

/-! ### VIGIL.CTRL (R52, R82, R87, R365) -/

theorem State.lanternCfgAll_regs (s : State) (l : Nat) : (s.lanternCfgAll l).regs = s.regs := by
  unfold State.lanternCfgAll
  dsimp only
  split
  · refine List.foldlRecOn (motive := fun t : State => t.regs = s.regs) _ _ rfl fun t ht k _ => ?_
    split
    · exact ht
    · exact ht
  · rfl

theorem State.lanternCfgChange_regs (s : State) : s.lanternCfgChange.regs = s.regs :=
  List.foldlRecOn (motive := fun t : State => t.regs = s.regs) _ _ rfl fun t ht l _ => (t.lanternCfgAll_regs l).trans ht

theorem State.setVigilCtrl_regs (s : State) (v : Word) : (s.setVigilCtrl v).regs = (s.wrVigilCtrl v).regs := by
  unfold State.setVigilCtrl
  dsimp only
  split
  · rfl
  · exact State.lanternCfgChange_regs _

theorem bitAt_eq_true {n i : Nat} : bitAt n i = true ↔ n / 2 ^ i % 2 = 1 := decide_eq_true_iff

/-- A field of a register in which only another field is written. -/
theorem State.on_putB_disj (s : State) (f g : Fld) (b : Bool) (hf : f.lo + f.w ≤ 32) (hk : g.key = f.key)
    (hd : f.lo + f.w ≤ g.lo ∨ g.lo + g.w ≤ f.lo) : (s.putB f b).on g = s.on g :=
  State.on_of_get (s.get_put_disj f g _ hf hk hd)

theorem State.on_put_disj (s : State) (f g : Fld) (v : Nat) (hf : f.lo + f.w ≤ 32) (hk : g.key = f.key)
    (hd : f.lo + f.w ≤ g.lo ∨ g.lo + g.w ≤ f.lo) : (s.put f v).on g = s.on g :=
  State.on_of_get (s.get_put_disj f g _ hf hk hd)

/-- A write of VIGIL.CTRL in its parts: TWIN while it is unlocked, LOCK where it is set, then ECHO and ECHO_EVERY. -/
theorem State.wrVigilCtrl_eq (s : State) (v : Word) : s.wrVigilCtrl v =
    (((if bitAt v.toNat 0 then (if s.on F.VIGIL_CTRL_LOCK then s else s.putB F.VIGIL_CTRL_TWIN (bitAt v.toNat 1)).putB F.VIGIL_CTRL_LOCK true
      else if s.on F.VIGIL_CTRL_LOCK then s else s.putB F.VIGIL_CTRL_TWIN (bitAt v.toNat 1)).putB F.VIGIL_CTRL_ECHO
        (bitAt v.toNat 8)).put F.VIGIL_CTRL_ECHO_EVERY (bits v.toNat 9 3)) := rfl

section
variable (s : State) (v : Word)

theorem State.wrVigilCtrl_every : (s.wrVigilCtrl v).get F.VIGIL_CTRL_ECHO_EVERY = v.toNat / 2 ^ 9 % 8 := by
  rw [State.wrVigilCtrl_eq, State.get_put_same _ _ _ (by decide)]
  exact Nat.mod_mod ..

theorem State.wrVigilCtrl_echo : (s.wrVigilCtrl v).on F.VIGIL_CTRL_ECHO = bitAt v.toNat 8 := by
  rw [State.wrVigilCtrl_eq, State.on_put_disj _ F.VIGIL_CTRL_ECHO_EVERY F.VIGIL_CTRL_ECHO _ (by decide) rfl (by decide)]
  exact State.on_putB_same _ _ _ rfl (by decide)

theorem State.wrVigilCtrl_lock : (s.wrVigilCtrl v).on F.VIGIL_CTRL_LOCK = (s.on F.VIGIL_CTRL_LOCK || bitAt v.toNat 0) := by
  have htwin : (if s.on F.VIGIL_CTRL_LOCK then s else s.putB F.VIGIL_CTRL_TWIN (bitAt v.toNat 1)).on F.VIGIL_CTRL_LOCK =
      s.on F.VIGIL_CTRL_LOCK := by
    split
    · rfl
    · exact s.on_putB_disj F.VIGIL_CTRL_TWIN F.VIGIL_CTRL_LOCK _ (by decide) rfl (by decide)
  rw [State.wrVigilCtrl_eq, State.on_put_disj _ F.VIGIL_CTRL_ECHO_EVERY F.VIGIL_CTRL_LOCK _ (by decide) rfl (by decide),
    State.on_putB_disj _ F.VIGIL_CTRL_ECHO F.VIGIL_CTRL_LOCK _ (by decide) rfl (by decide)]
  split
  · next h => rw [State.on_putB_same _ F.VIGIL_CTRL_LOCK _ rfl (by decide), h, Bool.or_true]
  · next h => rw [htwin, Bool.eq_false_iff.2 h, Bool.or_false]

theorem State.wrVigilCtrl_twin :
    (s.wrVigilCtrl v).on F.VIGIL_CTRL_TWIN = if s.on F.VIGIL_CTRL_LOCK then s.on F.VIGIL_CTRL_TWIN else bitAt v.toNat 1 := by
  rw [State.wrVigilCtrl_eq, State.on_put_disj _ F.VIGIL_CTRL_ECHO_EVERY F.VIGIL_CTRL_TWIN _ (by decide) rfl (by decide),
    State.on_putB_disj _ F.VIGIL_CTRL_ECHO F.VIGIL_CTRL_TWIN _ (by decide) rfl (by decide)]
  have htwin : (if s.on F.VIGIL_CTRL_LOCK then s else s.putB F.VIGIL_CTRL_TWIN (bitAt v.toNat 1)).on F.VIGIL_CTRL_TWIN =
      if s.on F.VIGIL_CTRL_LOCK then s.on F.VIGIL_CTRL_TWIN else bitAt v.toNat 1 := by
    split
    · rfl
    · exact State.on_putB_same _ _ _ rfl (by decide)
  split
  · exact (State.on_putB_disj _ F.VIGIL_CTRL_LOCK F.VIGIL_CTRL_TWIN _ (by decide) rfl (by decide)).trans htwin
  · exact htwin

end

theorem reaches_vigilCtrlWrite {s : State} {i : Initiator} {v : Word} (ha : Admits s i F.VIGIL_CTRL_LOCK.key) :
    let locked := s.on F.VIGIL_CTRL_LOCK = true
    Reaches (.vigilCtrlWrite i v) s (fun t =>
      (t.on F.VIGIL_CTRL_LOCK = true ↔ locked ∨ v.toNat % 2 = 1) ∧ (t.on F.VIGIL_CTRL_ECHO = true ↔ v.toNat / 2 ^ 8 % 2 = 1) ∧
      (¬locked → (t.on F.VIGIL_CTRL_TWIN = true ↔ v.toNat / 2 % 2 = 1)) ∧ (locked → t.on F.VIGIL_CTRL_TWIN = s.on F.VIGIL_CTRL_TWIN) ∧
      t.get F.VIGIL_CTRL_ECHO_EVERY = v.toNat / 2 ^ 9 % 8) := by
  intro locked
  have hr := s.setVigilCtrl_regs v
  refine ⟨_, congrArg Host.Outcome.next (State.asWrite_admitted v _ ha), ?_⟩
  dsimp only
  rw [State.on_of_regs hr, State.on_of_regs hr, State.on_of_regs hr, State.get_of_regs hr, State.wrVigilCtrl_lock, State.wrVigilCtrl_echo,
    State.wrVigilCtrl_twin, Bool.or_eq_true, bitAt_eq_true, bitAt_eq_true, pow_zero, Nat.div_one]
  refine ⟨Iff.rfl, Iff.rfl, fun hl => ?_, fun hl => if_pos hl, s.wrVigilCtrl_every v⟩
  rw [if_neg hl, bitAt_eq_true, pow_one]

/-! ### Colours (R52, R76) -/

/-- The field of COLOUR_v, or of CLOVE_HATCH for 0. -/
def colourFld (c : Nat) : Fld := if c = 0 then F.VIGIL_CLOVE_HATCH else F.VIGIL_COLOUR c

theorem colourFld_whole (c : Nat) : (colourFld c).lo = 0 ∧ (colourFld c).w = 24 := by
  unfold colourFld
  split <;> exact ⟨rfl, rfl⟩

/-- A write of a colour while the vigil is unlocked: one that breaks the luminance rule is logged, another is taken. -/
theorem State.wrColour_open {s : State} (c : Nat) (x : Word) (h : s.on F.VIGIL_CTRL_LOCK = false) : s.wrColour c x =
    if (if c = 2 then 0x80 ≤ maxComp (bits x.toNat 0 24) else maxComp (bits x.toNat 0 24) < 0x80) then
      s.raise 0x3D (keyAddr (colourFld c).key) 0 (s.vigilDet 0 0 c 0) else s.put (colourFld c) (bits x.toNat 0 24) := by
  unfold State.wrColour
  simp only [h]
  rfl

theorem maxComp_rgb (n : Nat) : maxComp (bits n 0 24) =
    max (n % 2 ^ 24 / 2 ^ 16) (max (n % 2 ^ 24 / 2 ^ 8 % 2 ^ 8) (n % 2 ^ 24 % 2 ^ 8)) := by
  simp only [maxComp, bits]
  omega

theorem State.put_onlyRegs (s : State) (f : Fld) (v : Nat) : OnlyRegs [f.key] s (s.put f v) :=
  ⟨rfl, fun _ hk => tabGet?_tabSet_ne _ _ _ _ (by simpa using hk)⟩

theorem LogOnly.onlyLogged_nil {s t : State} (h : LogOnly s t) : OnlyLogged [] s t := by
  obtain ⟨r, l, rfl, hr⟩ := h
  exact ⟨rfl, fun k hk _ => hr k hk⟩

section
variable {s : State} {i : Initiator} {c : Fin 8} {v : Word} (ha : Admits s i (colourKey c))
include ha

theorem exec_colourWrite_locked (h : s.on F.VIGIL_CTRL_LOCK = true) : exec (.colourWrite i c v) s = .next s :=
  congrArg Host.Outcome.next ((State.asWrite_admitted v _ ha).trans (if_pos h))

theorem reaches_colourWrite_taken (h : ¬s.on F.VIGIL_CTRL_LOCK = true) (hc : c.val = 2 ↔ maxComp (bits v.toNat 0 24) < 0x80) :
    Reaches (.colourWrite i c v) s (fun t => t.get (colourFld c) = v.toNat % 2 ^ 24 ∧ OnlyRegs [(colourFld c).key] s t) := by
  have heff : s.wrColour c v = s.put (colourFld c) (bits v.toNat 0 24) := by
    rw [State.wrColour_open _ _ (Bool.eq_false_iff.2 h), if_neg]
    split <;> omega
  obtain ⟨hlo, hw⟩ := colourFld_whole c
  refine ⟨_, congrArg Host.Outcome.next ((State.asWrite_admitted v _ ha).trans heff), ?_, s.put_onlyRegs _ _⟩
  rw [State.get_put_same _ _ _ (by omega), hw]
  simp [bits]

theorem reaches_colourWrite_refused (h : ¬s.on F.VIGIL_CTRL_LOCK = true) (hc : c.val = 2 ↔ 0x80 ≤ maxComp (bits v.toNat 0 24)) :
    Reaches (.colourWrite i c v) s (fun t => OnlyLogged [] s t ∧ ∃ r ∈ t.log.recent.head?, r.cls = 0x3D) := by
  have heff : s.wrColour c v = s.raise 0x3D (keyAddr (colourFld c).key) 0 (s.vigilDet 0 0 c 0) := by
    rw [State.wrColour_open _ _ (Bool.eq_false_iff.2 h), if_pos]
    split <;> omega
  obtain ⟨r, hr, hcls, _⟩ := s.raise_newest 0x3D (keyAddr (colourFld c).key) 0 (s.vigilDet 0 0 c 0) none
  exact ⟨_, congrArg Host.Outcome.next ((State.asWrite_admitted v _ ha).trans heff), (s.raise_logOnly ..).onlyLogged_nil, r, hr, hcls⟩

end

/-! ### INJECT (R87) -/

theorem reaches_vigilInject {s : State} {i : Initiator} {v : Word} (ha : Admits s i F.VIGIL_INJECT_WINDOW.key)
    (hgo : v.toNat / 2 ^ 16 % 2 = 1) (hi : v.toNat / 2 ^ 12 % 4 ≠ 3) : Reaches (.vigilInject i v) s (fun t =>
      (t.win (v.toNat % 2 ^ 11)).inject = v.toNat / 2 ^ 12 % 4 + 1 ∧ ∀ x, x ≠ v.toNat % 2 ^ 11 → t.win x = s.win x) := by
  have hcond : (bitAt v.toNat 16 && bits v.toNat 12 2 != 3) = true := Bool.and_eq_true_iff.2 ⟨bitAt_eq_true.2 hgo, bne_iff_ne.2 hi⟩
  have heff : s.wrInject v = ((s.put F.VIGIL_INJECT_WINDOW (bits v.toNat 0 11)).put F.VIGIL_INJECT_INSTANCE (bits v.toNat 12 2)).setWin
      (bits v.toNat 0 11) { s.win (bits v.toNat 0 11) with inject := bits v.toNat 12 2 + 1 } := if_pos hcond
  refine ⟨_, congrArg Host.Outcome.next ((State.asWrite_admitted v _ ha).trans heff), ?_⟩
  rw [show v.toNat % 2 ^ 11 = bits v.toNat 0 11 by simp [bits]]
  refine ⟨?_, fun x hx => State.win_setWin_ne _ _ _ _ hx⟩
  rw [State.win_setWin_same]
  rfl

/-! ### Echoes (R49, R82) -/

theorem State.vigilRec_logOnly (s : State) (cls w h line v r : Nat) : LogOnly s (s.vigilRec cls w h line v r) := s.raise_logOnly ..

theorem State.vigilRec_newest (s : State) (cls w h line v r : Nat) : ∃ x ∈ (s.vigilRec cls w h line v r).log.recent.head?, x.cls = cls := by
  obtain ⟨x, hx, hc, _⟩ := State.raise_newest ..
  exact ⟨x, hx, hc⟩

theorem LogOnly.win {s t : State} (h : LogOnly s t) (w : Nat) : t.win w = s.win w := by simp [State.win, h.wins]

/-- An echo that is judged, due and absent is counted, remembered for the frame and logged. -/
theorem State.echoAbsent_due {s : State} {h n w : Nat} {e : Nat × Nat × Nat × Nat × Bool}
    (hf : (s.head h).hist.find? (fun e => e.1 = n && e.2.2.1 = w && !e.2.2.2.2) = some e) (hen : s.enabled h = true)
    (hl : s.echoLine n = true) (hon : s.winOn w h = true) (hreq : ((s.win w).act.map wEchoReq).getD false = true) (hec : s.headEcho h = true)
    (hto : (s.head h).echoTimeout ≤ s.linesSince h e.2.1 n) : ∃ x, s.echoAbsent h n w =
      (((s.setHead h x).bump F.VIGIL_ECHO_COUNT).setWin w { s.win w with echoLost := true }).vigilRec 0x37 w h n 4 14 := by
  unfold State.echoAbsent
  dsimp only
  rw [if_neg (by simp [hen, hl, hec, hon, hreq]), hf]
  dsimp only
  rw [if_neg (by omega)]
  exact ⟨_, rfl⟩

theorem reaches_echoTimeout {s : State} {time : Nat} {h : Fin 48} {line : Nat} {w : Fin 2048} {e : Nat × Nat × Nat × Nat × Bool}
    (hf : (s.head h).hist.find? (fun e => e.1 = line && e.2.2.1 = w.val && !e.2.2.2.2) = some e) (hen : s.enabled h = true)
    (hl : s.echoLine line = true) (hon : s.winOn w h = true) (hreq : ((s.win w).act.map wEchoReq).getD false = true)
    (hec : s.headEcho h = true) (hto : (s.head h).echoTimeout ≤ (s.advance time).linesSince h e.2.1 line) :
    Reaches (.echoTimeout time h line w) s (fun t => (t.win w).echoLost = true ∧ (∃ r ∈ t.log.recent.head?, r.cls = 0x37) ∧
      ((s.reg F.VIGIL_ECHO_COUNT.key).toNat < 2 ^ 31 - 1 → t.reg F.VIGIL_ECHO_COUNT.key = s.reg F.VIGIL_ECHO_COUNT.key + 1)) := by
  obtain ⟨x, heff⟩ := State.echoAbsent_due (s := s.advance time) hf hen hl hon hreq hec hto
  refine ⟨_, congrArg Host.Outcome.next heff, ?_⟩
  generalize hu : ((s.advance time).setHead h x).bump F.VIGIL_ECHO_COUNT = u
  have hlog := (u.setWin w { (s.advance time).win w with echoLost := true }).vigilRec_logOnly 0x37 w h line 4 14
  refine ⟨?_, State.vigilRec_newest .., fun hn => ?_⟩
  · rw [hlog.win, State.win_setWin_same]
  · rw [hlog.reg _ (by decide) (by decide), State.setWin_reg, ← hu]
    exact State.reg_bump_same (s := (s.advance time).setHead h x) hn

theorem exec_echoTimeout_disabled {s : State} {time : Nat} {h : Fin 48} {line : Nat} {w : Fin 2048} (hen : s.enabled h = false) :
    exec (.echoTimeout time h line w) s = .next (s.advance time) := by
  have hz : (s.advance time).enabled h = false := hen
  exact congrArg Host.Outcome.next (if_pos (by simp [hz]))

/-- Settles O32, command by command: VIGIL.CTRL, the colours, INJECT and the absent echo. -/
theorem vigilRegisters : Obligations.VigilRegisters := by
  unfold Obligations.VigilRegisters
  intro i c v h line w time s n rgb most fld locked
  have hmost : most = maxComp (bits v.toNat 0 24) := (maxComp_rgb v.toNat).symm
  have hfld : fld = colourFld c := by simp only [fld, colourFld, Fin.ext_iff]; rfl
  have hc2 : c.val = 2 ↔ c = 2 := (Fin.ext_iff (b := (2 : Fin 8))).symm
  rw [hfld, hmost]
  exact ⟨reaches_vigilCtrlWrite,
    fun ha => ⟨exec_colourWrite_locked ha, fun hl hc => reaches_colourWrite_taken ha hl (hc2.trans hc),
      fun hl hc => reaches_colourWrite_refused ha hl (hc2.trans hc)⟩,
    reaches_vigilInject, fun e hf hen hl hon hreq hec hto => reaches_echoTimeout hf hen hl hon hreq hec hto, exec_echoTimeout_disabled⟩

end Sys2Proof.Machine
end

section
/-! The verdicts of the vigil: the vote, age and progress, the end of a line, delivery (O31). -/
namespace Sys2Proof.Machine

/-! ### The vote (R77) -/

theorem State.inService_length_le (s : State) : s.inService.length ≤ 3 := List.length_filter_le ..

/-- Two or three instances that report the same decide so, and none dissents. -/
theorem voteOf_unanimous {l : List Nat} (v : Nat × Nat) (h2 : 2 ≤ l.length) (h3 : l.length ≤ 3) :
    voteOf (l.map (fun i => (i, v))) = ⟨v, none, false⟩ := by
  match l, h2, h3 with
  | [_, _], _, _ => simp [voteOf]
  | [_, _, _], _, _ => simp [voteOf]

theorem instVerdict_nil (w : Nat) (v : Nat × Nat) (i : Nat) : instVerdict [] w v i = v := rfl

/-- Where none is upset, the vote reaches what the instances reach, and leaves the state alone. -/
theorem State.voteWin_agreed {s : State} {v : Nat × Nat} (w h n : Nat) (h2 : 2 ≤ s.inService.length) (hv : v.1 ≠ 6) :
    s.voteWin [] w h n v = (v, s) := by
  unfold State.voteWin
  simp only [instVerdict_nil, voteOf_unanimous v h2 s.inService_length_le]
  simp [hv]

/-! ### A supervised window that nothing holds -/

/-- Two or more instances are in service, and nothing holds or withholds the pictures of window `w` of head `h`. -/
structure Unheld (s : State) (h w : Nat) : Prop where
  service : 2 ≤ s.inService.length
  mode : s.mode ≠ 10
  step : (s.head h).stepHold = 0
  withheld : (s.win w).withheld = none
  heldInt : (s.win w).heldInt = 0
  heldUnv : (s.win w).heldUnv = 0
  echo : (s.win w).echoLost = false
  pick : (s.win w).pick = (0, 0)
  pickWas : (s.win w).pickWas = (0, 0)

/-- Window `w` is the one that the vigil supervises on the enabled head `h`, by the descriptor `ws`; it carries the good tag
`l`, nothing holds it and no upset is to be reported for it. -/
structure Watched (s : State) (h w : Nat) (ws : List Word) (l : Latched) : Prop extends Unheld s h w where
  enabled : s.enabled h = true
  sup : s.supWins h = [(w, ws)]
  tag : (s.win w).tag = some l
  ok : (tagOf l.bytes).ok = true
  inject : (s.win w).inject = 0
  snuff : (s.win w).snuff = (0, 0)

theorem Watched.advance {s : State} {h w : Nat} {ws : List Word} {l : Latched} (hw : Watched s h w ws l) (time : Nat) :
    Watched (s.advance time) h w ws l :=
  ⟨⟨hw.service, hw.mode, hw.step, hw.withheld, hw.heldInt, hw.heldUnv, hw.echo, hw.pick, hw.pickWas⟩, hw.enabled, hw.sup, hw.tag, hw.ok,
    hw.inject, hw.snuff⟩

theorem Unheld.withheldPart {s : State} {h w : Nat} (hu : Unheld s h w) (fresh : Bool) :
    s.withheldPart h w fresh = [(0, 0), (0, 0), (0, 0)] := by
  have hr : s.running = true := bne_iff_ne.2 hu.mode
  simp [State.withheldPart, hr, hu.step, hu.withheld]

theorem heldVerdict_none {x : Win} (fresh : Bool) (rest : List (Nat × Nat)) (hi : x.heldInt = 0) (hu : x.heldUnv = 0)
    (he : x.echoLost = false) (hp : x.pick = (0, 0)) : heldVerdict x fresh [(0, 0), (0, 0), (0, 0)] rest = reduce rest := by
  simp [heldVerdict, hi, hu, he, hp, reduce, firstOf]

/-! ### Age and progress (R53 to R56) -/

theorem sint_uint_sint (n : Nat) : sint 32 (uint 32 (sint 32 n) % 2 ^ 32) = sint 32 n := by
  simp only [sint, uint]
  omega

/-- The age of a picture captured at `cap` on a line with display time `disp` (R54). -/
def ageAt (disp cap : Nat) : Int := sint 32 (dispStamp disp + 2 ^ 32 - stampOf cap)

/-- WSTATE of window `w` on a line with display time `disp`: the age and the sequence number of its picture, the latch of an
age beyond the bound, and ADV where it is due. -/
def State.showAge (s : State) (w disp : Nat) (t : Tag) (stale : Nat) (shows : Bool) : State :=
  let x := s.win w
  let s := (s.putI (F.VIGIL_WSTATE_AGE w) (ageAt disp t.capture)).put (F.VIGIL_WSTATE_SEQ w) t.seq
  let s := if (stale : Int) < ageAt disp t.capture then s.putB (F.VIGIL_WSTATE_AGE_LATCH w) true else s
  if x.streamDue || (x.advDue && shows) then
    (s.put (F.VIGIL_WSTATE_ADV w) (dispStamp disp)).setWin w { x with advDue := x.advDue && !shows, streamDue := false } else s

/-- What age and progress find, `t` being the state with the WSTATE of the line. -/
def State.ageFinds (t : State) (w disp cap freeze : Nat) : List (Nat × Nat) :=
  [if ageAt disp cap < -2000 then (4, 10) else (0, 0), if t.on (F.VIGIL_WSTATE_AGE_LATCH w) then (1, 1) else (0, 0),
    if (freeze : Int) < sint 32 (dispStamp disp + 2 ^ 32 - t.get (F.VIGIL_WSTATE_ADV w)) then (1, 2) else (0, 0)]

theorem State.agePart_good {s : State} {w : Nat} {l : Latched} (disp : Nat) (bd : Nat × Nat × Nat) (shows : Bool)
    (ht : (s.win w).tag = some l) (hok : (tagOf l.bytes).ok = true) :
    let t := s.showAge w disp (tagOf l.bytes) bd.1 shows
    s.agePart w disp bd shows = (t.ageFinds w disp (tagOf l.bytes).capture bd.2.1, t) := by
  intro t
  unfold State.agePart
  dsimp only
  split
  · next h => cases ht.symm.trans h
  · next k h =>
    obtain rfl : k = l := Option.some.inj (h.symm.trans ht)
    rw [if_neg (by simp [hok])]
    rfl

/-! ### Registers below a key -/

/-- The registers of `t` below the key `b`, and below the contexts, stand as in `s`. -/
structure KeepsBelow (b : Nat) (s t : State) : Prop where
  reg : ∀ k < b, k < 0xA80000 → t.reg k = s.reg k

namespace KeepsBelow

theorem refl (b : Nat) (s : State) : KeepsBelow b s s := ⟨fun _ _ _ => rfl⟩

theorem trans {b : Nat} {s t u : State} (h : KeepsBelow b s t) (g : KeepsBelow b t u) : KeepsBelow b s u :=
  ⟨fun k hk hc => (g.reg k hk hc).trans (h.reg k hk hc)⟩

theorem of_regs {b : Nat} {s t : State} (h : t.regs = s.regs) : KeepsBelow b s t := ⟨fun k _ _ => by simp [State.reg, h]⟩

theorem of_logOnly {b : Nat} {s t : State} (h : LogOnly s t) : KeepsBelow b s t :=
  ⟨fun k _ hc => h.reg k (by omega) (isCtxOwn_below hc)⟩

theorem ite {b : Nat} {s t u : State} {c : Prop} [Decidable c] (ht : KeepsBelow b s t) (hu : KeepsBelow b s u) :
    KeepsBelow b s (if c then t else u) := by
  split <;> assumption

theorem foldl {α : Type} {b : Nat} (f : State → α → State) (l : List α) (s : State) (h : ∀ t, ∀ a ∈ l, KeepsBelow b t (f t a)) :
    KeepsBelow b s (l.foldl f s) :=
  List.foldlRecOn (motive := KeepsBelow b s) l f (refl b s) fun t ht a ha => ht.trans (h t a ha)

section
variable {b : Nat} {s t : State} (h : KeepsBelow b s t)
include h

theorem setReg {k : Nat} (w : Word) (hk : b ≤ k) : KeepsBelow b s (t.setReg k w) :=
  h.trans ⟨fun _ hj hc => State.reg_setReg_ne _ _ _ _ (by omega) (isCtxOwn_below hc)⟩
theorem put (f : Fld) (v : Nat) (hk : b ≤ f.key) : KeepsBelow b s (t.put f v) := h.setReg _ hk
theorem putB (f : Fld) (v : Bool) (hk : b ≤ f.key) : KeepsBelow b s (t.putB f v) := h.setReg _ hk
theorem putI (f : Fld) (v : Int) (hk : b ≤ f.key) : KeepsBelow b s (t.putI f v) := h.setReg _ hk
theorem bump (f : Fld) (hk : b ≤ f.key) : KeepsBelow b s (t.bump f) := h.setReg _ hk
theorem raise (cls a1 a2 d : Nat) (lim : Option Nat) : KeepsBelow b s (t.raise cls a1 a2 d lim) :=
  h.trans (of_logOnly (t.raise_logOnly ..))

theorem get (f : Fld) (hf : f.key < b) (hc : f.key < 0xA80000) : t.get f = s.get f := by simp [State.get, h.reg _ hf hc]
theorem on (f : Fld) (hf : f.key < b) (hc : f.key < 0xA80000) : t.on f = s.on f := State.on_of_get (h.get f hf hc)
theorem bit (f : Fld) (i : Nat) (hf : f.key < b) (hc : f.key < 0xA80000) : t.bit f i = s.bit f i := by simp [State.bit, h.get f hf hc]
end

end KeepsBelow

theorem wstate_key (w : Nat) : 0x910000 ≤ (F.VIGIL_WSTATE_VERDICT w).key ∧ 0x910000 ≤ (F.VIGIL_WSTATE_REASON w).key ∧
    0x910000 ≤ (F.VIGIL_WSTATE_AGE_LATCH w).key ∧ 0x910000 ≤ (F.VIGIL_WSTATE_SEQ w).key ∧ 0x910000 ≤ (F.VIGIL_WSTATE_ADV w).key ∧
    0x910000 ≤ (F.VIGIL_WSTATE_AGE w).key := by
  simp only [F.VIGIL_WSTATE_VERDICT, F.VIGIL_WSTATE_REASON, F.VIGIL_WSTATE_AGE_LATCH, F.VIGIL_WSTATE_SEQ, F.VIGIL_WSTATE_ADV,
    F.VIGIL_WSTATE_AGE]
  omega

/-! ### What the WSTATE of a line leaves -/

section
variable (s : State) (w disp : Nat) (t : Tag) (stale : Nat) (shows : Bool)

theorem State.showAge_win : ∃ a b, (s.showAge w disp t stale shows).win w = { s.win w with advDue := a, streamDue := b } := by
  unfold State.showAge
  dsimp only
  split
  · exact ⟨_, _, State.win_setWin_same ..⟩
  · exact ⟨(s.win w).advDue, (s.win w).streamDue, by split <;> rfl⟩

theorem State.showAge_heads : (s.showAge w disp t stale shows).heads = s.heads := by
  unfold State.showAge
  dsimp only
  split <;> split <;> rfl

theorem State.showAge_keeps : KeepsBelow 0x910000 s (s.showAge w disp t stale shows) := by
  obtain ⟨_, _, hlatch, hseq, hadv, hage⟩ := wstate_key w
  unfold State.showAge
  extract_lets x s1 s2
  have h1 : KeepsBelow 0x910000 s s1 := ((KeepsBelow.refl _ s).putI _ _ hage).put _ _ hseq
  have h2 : KeepsBelow 0x910000 s s2 := .ite (h1.putB _ _ hlatch) h1
  exact .ite ((h2.put _ _ hadv).trans (.of_regs rfl)) h2

end

theorem wstate_own {w : Nat} (hw : w < 2048) : isCtxOwn (F.VIGIL_WSTATE_AGE_LATCH w).key = false ∧
    isCtxOwn (F.VIGIL_WSTATE_ADV w).key = false ∧ isCtxOwn (F.VIGIL_WSTATE_AGE w).key = false := by
  refine ⟨isCtxOwn_below ?_, isCtxOwn_below ?_, isCtxOwn_below ?_⟩
  all_goals
    simp only [F.VIGIL_WSTATE_AGE_LATCH, F.VIGIL_WSTATE_ADV, F.VIGIL_WSTATE_AGE]
    omega

section
variable (s : State) {w : Nat} (disp : Nat) (t : Tag) (stale : Nat) (shows : Bool) (hw : w < 2048)
include hw

theorem State.showAge_age : (s.showAge w disp t stale shows).getI (F.VIGIL_WSTATE_AGE w) = ageAt disp t.capture := by
  obtain ⟨_, _, hown⟩ := wstate_own hw
  have hne (u : State) (f : Fld) (v : Nat) (hf : (F.VIGIL_WSTATE_AGE w).key ≠ f.key) :
      (u.put f v).get (F.VIGIL_WSTATE_AGE w) = u.get (F.VIGIL_WSTATE_AGE w) := State.get_put_ne _ _ _ _ hf hown
  have hage : (s.putI (F.VIGIL_WSTATE_AGE w) (ageAt disp t.capture)).getI (F.VIGIL_WSTATE_AGE w) = ageAt disp t.capture := by
    have hput := State.get_put_same s (F.VIGIL_WSTATE_AGE w) (uint 32 (ageAt disp t.capture)) (by decide : 0 + 32 ≤ 32)
    exact (congrArg (sint 32) hput).trans (sint_uint_sint _)
  unfold State.showAge
  extract_lets x s1 s2
  have h1 : s1.getI (F.VIGIL_WSTATE_AGE w) = ageAt disp t.capture :=
    (congrArg (sint 32) (hne _ (F.VIGIL_WSTATE_SEQ w) _ (by simp only [F.VIGIL_WSTATE_AGE, F.VIGIL_WSTATE_SEQ]; omega))).trans hage
  have h2 : s2.getI (F.VIGIL_WSTATE_AGE w) = ageAt disp t.capture := by
    unfold s2
    split
    · exact (congrArg (sint 32) (hne _ (F.VIGIL_WSTATE_AGE_LATCH w) _ (by simp only [F.VIGIL_WSTATE_AGE, F.VIGIL_WSTATE_AGE_LATCH]; omega))).trans h1
    · exact h1
  split
  · have hadv := hne s2 (F.VIGIL_WSTATE_ADV w) (dispStamp disp) (by simp only [F.VIGIL_WSTATE_AGE, F.VIGIL_WSTATE_ADV]; omega)
    rw [State.getI, State.setWin_get, hadv]
    exact h2
  · exact h2

theorem State.showAge_latch : (s.showAge w disp t stale shows).on (F.VIGIL_WSTATE_AGE_LATCH w) =
    (decide ((stale : Int) < ageAt disp t.capture) || s.on (F.VIGIL_WSTATE_AGE_LATCH w)) := by
  obtain ⟨hown, _, _⟩ := wstate_own hw
  have hne (u : State) (f : Fld) (v : Nat) (hf : (F.VIGIL_WSTATE_AGE_LATCH w).key ≠ f.key) :
      (u.put f v).on (F.VIGIL_WSTATE_AGE_LATCH w) = u.on (F.VIGIL_WSTATE_AGE_LATCH w) := State.on_of_get (State.get_put_ne _ _ _ _ hf hown)
  unfold State.showAge
  extract_lets x s1 s2
  have h1 : s1.on (F.VIGIL_WSTATE_AGE_LATCH w) = s.on (F.VIGIL_WSTATE_AGE_LATCH w) :=
    (hne _ (F.VIGIL_WSTATE_SEQ w) _ (by simp only [F.VIGIL_WSTATE_SEQ, F.VIGIL_WSTATE_AGE_LATCH]; omega)).trans
      (hne _ (F.VIGIL_WSTATE_AGE w) _ (by simp only [F.VIGIL_WSTATE_AGE, F.VIGIL_WSTATE_AGE_LATCH]; omega))
  have h2 : s2.on (F.VIGIL_WSTATE_AGE_LATCH w) = (decide ((stale : Int) < ageAt disp t.capture) || s.on (F.VIGIL_WSTATE_AGE_LATCH w)) := by
    unfold s2
    split
    · next h => rw [State.on_putB_same _ _ _ rfl (by decide : 8 + 1 ≤ 32), decide_eq_true h, Bool.true_or]
    · next h => rw [h1, decide_eq_false h, Bool.false_or]
  split
  · rw [State.setWin_on, hne s2 (F.VIGIL_WSTATE_ADV w) _ (by simp only [F.VIGIL_WSTATE_ADV, F.VIGIL_WSTATE_AGE_LATCH]; omega), h2]
  · exact h2

/-- ADV stands on a line on which it is not due. -/
theorem State.showAge_adv (h1 : (s.win w).advDue = false) (h2 : (s.win w).streamDue = false) :
    (s.showAge w disp t stale shows).get (F.VIGIL_WSTATE_ADV w) = s.get (F.VIGIL_WSTATE_ADV w) := by
  obtain ⟨_, hown, _⟩ := wstate_own hw
  have hne (u : State) (f : Fld) (v : Nat) (hf : (F.VIGIL_WSTATE_ADV w).key ≠ f.key) :
      (u.put f v).get (F.VIGIL_WSTATE_ADV w) = u.get (F.VIGIL_WSTATE_ADV w) := State.get_put_ne _ _ _ _ hf hown
  unfold State.showAge
  extract_lets x s1 s2
  have hs1 : s1.get (F.VIGIL_WSTATE_ADV w) = s.get (F.VIGIL_WSTATE_ADV w) :=
    (hne _ (F.VIGIL_WSTATE_SEQ w) _ (by simp only [F.VIGIL_WSTATE_SEQ, F.VIGIL_WSTATE_ADV]; omega)).trans
      (hne _ (F.VIGIL_WSTATE_AGE w) _ (by simp only [F.VIGIL_WSTATE_AGE, F.VIGIL_WSTATE_ADV]; omega))
  rw [if_neg (by simp [x, h1, h2])]
  unfold s2
  split
  · exact (hne _ (F.VIGIL_WSTATE_AGE_LATCH w) _ (by simp only [F.VIGIL_WSTATE_AGE_LATCH, F.VIGIL_WSTATE_ADV]; omega)).trans hs1
  · exact hs1

end

theorem KeepsBelow.inService {s t : State} (hk : KeepsBelow 0x910000 s t) : t.inService = s.inService := by
  unfold State.inService
  simp only [List.filter_cons, List.filter_nil, vigilState, hk.get F.VIGIL_STATUS_STATE_A (by decide) (by decide),
    hk.get F.VIGIL_STATUS_STATE_B (by decide) (by decide), hk.get F.VIGIL_STATUS_STATE_C (by decide) (by decide)]

theorem Unheld.showAge {s : State} {h w : Nat} (hu : Unheld s h w) (disp : Nat) (t : Tag) (stale : Nat) (shows : Bool) :
    Unheld (s.showAge w disp t stale shows) h w := by
  have hk := s.showAge_keeps w disp t stale shows
  obtain ⟨a, b, hwin⟩ := s.showAge_win w disp t stale shows
  have hhead : (s.showAge w disp t stale shows).head h = s.head h := by simp only [State.head, s.showAge_heads]
  refine ⟨by rw [hk.inService]; exact hu.service, ?_, by rw [hhead]; exact hu.step, ?_, ?_, ?_, ?_, ?_, ?_⟩
  · rw [State.mode, hk.get _ (by decide) (by decide)]
    exact hu.mode
  all_goals rw [hwin]
  exacts [hu.withheld, hu.heldInt, hu.heldUnv, hu.echo, hu.pick, hu.pickWas]

theorem State.ageFinds_reduce (t : State) (w disp cap freeze : Nat) : reduce (t.ageFinds w disp cap freeze) =
    if ageAt disp cap < -2000 then (4, 10) else if t.on (F.VIGIL_WSTATE_AGE_LATCH w) then (1, 1)
    else if (freeze : Int) < sint 32 (dispStamp disp + 2 ^ 32 - t.get (F.VIGIL_WSTATE_ADV w)) then (1, 2) else (0, 0) := by
  unfold State.ageFinds
  split_ifs <;> rfl

theorem State.ageFinds_reduce_ne (t : State) (w disp cap freeze : Nat) : (reduce (t.ageFinds w disp cap freeze)).1 ≠ 6 := by
  rw [State.ageFinds_reduce]
  split_ifs <;> decide

/-! ### AGE_PROGRESS_VOTE (R54 to R56, R61 to R63) -/

/-- The bounds under which a window of head `h` is judged on its next line. -/
def State.judgeBounds (s : State) (h w : Nat) (ws : List Word) : Nat × Nat × Nat :=
  if (s.nextLine h).1 = 0 then s.nextBounds h ws else (s.win w).bounds

/-- The WSTATE of the next line of a window of head `h` with the tag `t`. -/
def State.judgeAge (s : State) (h w : Nat) (ws : List Word) (t : Tag) : State :=
  s.showAge w (s.tb (s.master h)).dispNext t (s.judgeBounds h w ws).1 (crosses ws (s.nextLine h).1)

/-- Of a window that nothing holds, what age and progress find is its verdict on the next line. -/
theorem State.judgeNext_watched {s : State} {h w : Nat} {ws : List Word} {l : Latched} (hw : Watched s h w ws l) :
    let t := s.judgeAge h w ws (tagOf l.bytes)
    ∃ x, s.judgeNext [] h (w, ws) = t.setWin w x ∧
      x.evald = reduce (t.ageFinds w (s.tb (s.master h)).dispNext (tagOf l.bytes).capture (s.judgeBounds h w ws).2.1) := by
  intro t
  have hage : s.agePart w (s.tb (s.master h)).dispNext (s.judgeBounds h w ws) (crosses ws (s.nextLine h).1) =
      (t.ageFinds w (s.tb (s.master h)).dispNext (tagOf l.bytes).capture (s.judgeBounds h w ws).2.1, t) := State.agePart_good _ _ _ hw.tag hw.ok
  have hu : Unheld t h w := hw.toUnheld.showAge ..
  have hne := t.ageFinds_reduce_ne w (s.tb (s.master h)).dispNext (tagOf l.bytes).capture (s.judgeBounds h w ws).2.1
  generalize t.ageFinds w (s.tb (s.master h)).dispNext (tagOf l.bytes).capture (s.judgeBounds h w ws).2.1 = finds at hage hne ⊢
  clear_value t
  unfold State.judgeBounds at hage
  unfold State.judgeNext
  generalize s.nextLine h = p at hage ⊢
  obtain ⟨n, fs⟩ := p
  dsimp only at hage ⊢
  rw [hage]
  dsimp only
  have hfresh : heldVerdict (t.win w) true [(0, 0), (0, 0), (0, 0)] finds = reduce finds :=
    heldVerdict_none _ _ hu.heldInt hu.heldUnv hu.echo hu.pick
  have hheld : heldVerdict (if n + 1 = (s.tb (s.master h)).timing.vtotal then { t.win w with pick := (t.win w).pickWas } else t.win w) false
      [(0, 0), (0, 0), (0, 0)] finds = reduce finds := by
    split
    · exact heldVerdict_none _ _ hu.heldInt hu.heldUnv hu.echo hu.pickWas
    · exact heldVerdict_none _ _ hu.heldInt hu.heldUnv hu.echo hu.pick
  rw [hu.withheldPart, hu.withheldPart, hfresh, hheld, ite_self, State.voteWin_agreed _ _ _ hu.service hne]
  exact ⟨_, rfl, rfl⟩

/-- What WSTATE of the window holds once it has been judged. -/
theorem State.judgeAge_wstate (s : State) {h w : Nat} (ws : List Word) (t : Tag) (hw : w < 2048) :
    (s.judgeAge h w ws t).getI (F.VIGIL_WSTATE_AGE w) = ageAt (s.tb (s.master h)).dispNext t.capture ∧
    (s.judgeAge h w ws t).on (F.VIGIL_WSTATE_AGE_LATCH w) =
      (decide (((s.judgeBounds h w ws).1 : Int) < ageAt (s.tb (s.master h)).dispNext t.capture) || s.on (F.VIGIL_WSTATE_AGE_LATCH w)) ∧
    ((s.win w).advDue = false → (s.win w).streamDue = false →
      (s.judgeAge h w ws t).get (F.VIGIL_WSTATE_ADV w) = s.get (F.VIGIL_WSTATE_ADV w)) :=
  ⟨s.showAge_age _ _ _ _ hw, s.showAge_latch _ _ _ _ hw, s.showAge_adv _ _ _ _ hw⟩

@[simp] theorem State.advance_win (s : State) (t w : Nat) : (s.advance t).win w = s.win w := rfl
@[simp] theorem State.advance_master (s : State) (t h : Nat) : (s.advance t).master h = s.master h := rfl
@[simp] theorem State.advance_judgeBounds (s : State) (t h w : Nat) (ws : List Word) :
    (s.advance t).judgeBounds h w ws = s.judgeBounds h w ws := rfl

/-- AGE_PROGRESS_VOTE of a head whose one window nothing holds: WSTATE shows the age, and the verdict is by age and progress. -/
theorem reaches_ageProgressVote {s : State} {h : Fin 48} {w : Fin 2048} {ws : List Word} {l : Latched} (time : Nat)
    (hw : Watched s h w ws l) :
    let disp := (s.tb (s.master h)).dispNext
    let age := ageAt disp (tagOf l.bytes).capture
    let bd := s.judgeBounds h w ws
    Reaches (.ageProgressVote time h []) s (fun t =>
      t.getI (F.VIGIL_WSTATE_AGE w) = age ∧
      t.on (F.VIGIL_WSTATE_AGE_LATCH w) = (decide ((bd.1 : Int) < age) || s.on (F.VIGIL_WSTATE_AGE_LATCH w)) ∧
      ((s.win w).advDue = false → (s.win w).streamDue = false → t.get (F.VIGIL_WSTATE_ADV w) = s.get (F.VIGIL_WSTATE_ADV w)) ∧
      (t.win w).evald = if age < -2000 then (4, 10) else if t.on (F.VIGIL_WSTATE_AGE_LATCH w) then (1, 1)
        else if (bd.2.1 : Int) < sint 32 (dispStamp disp + 2 ^ 32 - t.get (F.VIGIL_WSTATE_ADV w)) then (1, 2) else (0, 0)) := by
  intro disp age bd
  have hz := hw.advance time
  have hexec : exec (.ageProgressVote time h []) s = .next ((s.advance time).judgeNext [] h (w.val, ws)) := by
    refine congrArg Host.Outcome.next ((if_pos hz.enabled).trans ?_)
    rw [hz.sup]
    rfl
  obtain ⟨x, hjudge, hx⟩ := State.judgeNext_watched hz
  refine ⟨_, hexec.trans (congrArg Host.Outcome.next hjudge), ?_⟩
  obtain ⟨hage, hlatch, hadv⟩ := (s.advance time).judgeAge_wstate (h := h) ws (tagOf l.bytes) w.isLt
  rw [State.ageFinds_reduce] at hx
  generalize (s.advance time).judgeAge h w ws (tagOf l.bytes) = t at hage hlatch hadv hx ⊢
  simp only [State.advance_master, State.advance_tb, State.advance_judgeBounds, State.advance_win, State.advance_get, State.advance_on]
    at hage hlatch hadv hx
  rw [State.win_setWin_same, State.getI, State.setWin_get, State.setWin_get, State.setWin_on]
  exact ⟨hage, hlatch, hadv, hx⟩

theorem exec_ageProgressVote_disabled {s : State} {h : Fin 48} {time : Nat} {ups : List Upset} (hen : s.enabled h = false) :
    exec (.ageProgressVote time h ups) s = .next (s.advance time) := by
  have hz : ¬(s.advance time).enabled h = true := Bool.eq_false_iff.1 hen
  exact congrArg Host.Outcome.next (if_neg hz)

section
variable {s : State} {h : Fin 48} {w : Fin 2048} {ws : List Word} {l : Latched} (time : Nat) (hw : Watched s h w ws l)
include hw

theorem reaches_stale (ha : ((s.judgeBounds h w ws).1 : Int) < ageAt (s.tb (s.master h)).dispNext (tagOf l.bytes).capture) :
    Reaches (.ageProgressVote time h []) s (fun t => (t.win w).evald = (1, 1) ∧ t.on (F.VIGIL_WSTATE_AGE_LATCH w) = true ∧
      t.getI (F.VIGIL_WSTATE_AGE w) = ageAt (s.tb (s.master h)).dispNext (tagOf l.bytes).capture) := by
  obtain ⟨t, ht, hage, hlatch, _, hv⟩ := reaches_ageProgressVote time hw
  rw [decide_eq_true ha, Bool.true_or] at hlatch
  rw [hlatch, if_neg (by omega), if_pos rfl] at hv
  exact ⟨t, ht, hv, hlatch, hage⟩

theorem reaches_lost (ha : ageAt (s.tb (s.master h)).dispNext (tagOf l.bytes).capture < -2000) :
    Reaches (.ageProgressVote time h []) s (fun t => (t.win w).evald = (4, 10)) := by
  obtain ⟨t, ht, _, _, _, hv⟩ := reaches_ageProgressVote time hw
  rw [if_pos ha] at hv
  exact ⟨t, ht, hv⟩

theorem reaches_live (hlo : -2000 ≤ ageAt (s.tb (s.master h)).dispNext (tagOf l.bytes).capture)
    (hhi : ageAt (s.tb (s.master h)).dispNext (tagOf l.bytes).capture ≤ (s.judgeBounds h w ws).1)
    (hl : s.on (F.VIGIL_WSTATE_AGE_LATCH w) = false) (h1 : (s.win w).advDue = false) (h2 : (s.win w).streamDue = false)
    (hp : sint 32 (dispStamp (s.tb (s.master h)).dispNext + 2 ^ 32 - s.get (F.VIGIL_WSTATE_ADV w)) ≤ (s.judgeBounds h w ws).2.1) :
    Reaches (.ageProgressVote time h []) s (fun t => (t.win w).evald = (0, 0)) := by
  obtain ⟨t, ht, _, hlatch, hadv, hv⟩ := reaches_ageProgressVote time hw
  rw [decide_eq_false (by omega), hl, Bool.or_false] at hlatch
  rw [hadv h1 h2, hlatch, if_neg (by omega), if_neg Bool.false_ne_true, if_neg (by omega)] at hv
  exact ⟨t, ht, hv⟩

end

/-! ### VOTE_COMPLETE (R59 to R61, R65, R81, R86) -/

/-- The verdict of a line that only its check values concern: INTEGRITY where they differ, else LIVE (R59). -/
def integrityVerdict (bad : Bool) : Nat × Nat := if bad then (5, 15) else (0, 0)

theorem lineVerdict_good {x : Win} {q : WinLine} (hx : x.snuff = (0, 0)) (hq : q.path = 0) :
    lineVerdict x (some q) = integrityVerdict q.mismatch := by
  cases hm : q.mismatch <;> simp [lineVerdict, hx, hq, hm, integrityVerdict, reduce, firstOf, rankOf]

/-- With no upset in a voter copy the verdict of the vote goes out. -/
theorem voterVerdict_nil (w : Nat) (bad : Bool) : voterVerdict [] w (integrityVerdict bad) = (integrityVerdict bad, false) := by
  cases bad <;> rfl

/-- Window `w` becomes `x`, WSTATE shows its verdict `v`, and a verdict that snuffs and is not the one before is counted and
logged. -/
def State.showVerdict (s : State) (w h n : Nat) (v : Nat × Nat) (x : Win) (was : Nat) : State :=
  let s := ((s.setWin w x).put (F.VIGIL_WSTATE_VERDICT w) v.1).put (F.VIGIL_WSTATE_REASON w) v.2
  if v.1 != 0 && v.1 != was then (s.bump F.VIGIL_SNUFF_COUNT).vigilRec 0x30 w h n v.1 v.2 else s

/-- The line of a window that nothing holds is judged by its check values alone. -/
theorem State.voteLine_watched {s : State} {h w : Nat} {ws : List Word} {l : Latched} {q : WinLine} (hw : Watched s h w ws l)
    (hc : crosses ws (s.lineOf h) = true) (hq : (s.head h).sent.wins.find? (fun j => j.win = w) = some q) (hp : q.path = 0) :
    let v := integrityVerdict q.mismatch
    ∃ (t : State) (x : Win), s.voteLine [] [] h (s.lineOf h) (w, ws) = t.showVerdict w h (s.lineOf h) v x (s.win w).last.1 ∧
      x.last = v ∧ x.heldInt = holdInt 0 v ∧ (v.1 = 0 → x.lastGood = some l) := by
  have hne : (integrityVerdict q.mismatch).1 ≠ 6 := by cases q.mismatch <;> decide
  have hv := State.voteWin_agreed w h (s.lineOf h) hw.service hne
  have hfew : ¬s.inService.length < 2 := Nat.not_lt.2 hw.service
  unfold State.voteLine
  simp only [hc, if_true, hq, lineVerdict_good hw.snuff hp, hw.inject, List.nil_append, hv, hfew, if_false, voterVerdict_nil,
    Bool.false_eq_true]
  generalize hv : integrityVerdict q.mismatch = v
  generalize ht : (if (decide (v.1 = 5) && decide (v.2 = 15) && q.mismatch) = true then
    (s.bump F.VIGIL_INTEG_COUNT).vigilRec 53 w h (s.lineOf h) 5 15 else s) = t
  have hwin : t.win w = s.win w := by
    rw [← ht]
    split
    · exact (State.vigilRec_logOnly ..).win w
    · rfl
  rw [hwin]
  refine ⟨t, _, rfl, rfl, ?_, fun h0 => ?_⟩
  · rw [hw.heldInt]
  · simp [h0, hw.tag]

/-- WSTATE and the window once a verdict is shown. -/
structure LineJudged (w : Nat) (v : Nat × Nat) (x : Win) (t : State) : Prop where
  verdict : t.get (F.VIGIL_WSTATE_VERDICT w) = v.1
  reason : t.get (F.VIGIL_WSTATE_REASON w) = v.2
  win : t.win w = x

theorem LineJudged.of_word {w : Nat} {v : Nat × Nat} {x : Win} {t u : State} (hj : LineJudged w v x t)
    (hr : u.reg (F.VIGIL_WSTATE_VERDICT w).key = t.reg (F.VIGIL_WSTATE_VERDICT w).key) (hw : u.win w = t.win w) : LineJudged w v x u :=
  ⟨(congrArg (F.VIGIL_WSTATE_VERDICT w).of hr).trans hj.verdict, (congrArg (F.VIGIL_WSTATE_REASON w).of hr).trans hj.reason, hw.trans hj.win⟩

theorem wstate_word {w : Nat} (hw : w < 2048) : 0x910000 ≤ (F.VIGIL_WSTATE_VERDICT w).key ∧ (F.VIGIL_WSTATE_VERDICT w).key < 0xA00000 := by
  simp only [F.VIGIL_WSTATE_VERDICT]
  omega

theorem LineJudged.logOnly {w : Nat} {v : Nat × Nat} {x : Win} {t u : State} (hj : LineJudged w v x t) (hl : LogOnly t u) (hw : w < 2048) :
    LineJudged w v x u := by
  obtain ⟨_, hk⟩ := wstate_word hw
  exact hj.of_word (hl.reg _ (by omega) (isCtxOwn_below (by omega))) (hl.win w)

/-- A register below WSTATE changes nothing of it. -/
theorem LineJudged.setReg {w : Nat} {v : Nat × Nat} {x : Win} {t : State} (hj : LineJudged w v x t) {k : Nat} (r : Word) (hk : k < 0x910000)
    (hw : w < 2048) : LineJudged w v x (t.setReg k r) := by
  obtain ⟨hlo, hhi⟩ := wstate_word hw
  exact hj.of_word (State.reg_setReg_ne _ _ _ _ (by omega) (isCtxOwn_below (by omega))) rfl

theorem State.showVerdict_judged (s : State) {w : Nat} (h n : Nat) {v : Nat × Nat} (x : Win) (was : Nat) (hw : w < 2048)
    (hv : v.1 < 8 ∧ v.2 < 32) : LineJudged w v x (s.showVerdict w h n v x was) := by
  have hput : LineJudged w v x (((s.setWin w x).put (F.VIGIL_WSTATE_VERDICT w) v.1).put (F.VIGIL_WSTATE_REASON w) v.2) := by
    refine ⟨?_, ?_, State.win_setWin_same ..⟩
    · rw [State.get_put_disj _ (F.VIGIL_WSTATE_REASON w) (F.VIGIL_WSTATE_VERDICT w) _ (by decide : 3 + 5 ≤ 32) rfl (.inr (by decide : 0 + 3 ≤ 3)),
        State.get_put_same _ _ _ (by decide : 0 + 3 ≤ 32)]
      exact Nat.mod_eq_of_lt hv.1
    · rw [State.get_put_same _ _ _ (by decide : 3 + 5 ≤ 32)]
      exact Nat.mod_eq_of_lt hv.2
  unfold State.showVerdict
  dsimp only
  split
  · exact (hput.setReg _ (by decide) hw).logOnly (State.vigilRec_logOnly ..) hw
  · exact hput

theorem LineJudged.closeLine {w : Nat} {v : Nat × Nat} {x : Win} {t : State} (hj : LineJudged w v x t) (h : Nat) :
    LineJudged w v x (t.closeLine h) := hj.of_word rfl rfl

theorem LineJudged.countSnuffed {w : Nat} {v : Nat × Nat} {x : Win} {t : State} (hj : LineJudged w v x t) {h : Nat} (hh : h < 48)
    (hw : w < 2048) : LineJudged w v x (t.countSnuffed h) :=
  hj.setReg _ (by simp only [F.VIGIL_HSNUFF_COUNT]; omega) hw

/-- VOTE_COMPLETE of a head whose one window nothing holds, and whose line left on a good path. -/
theorem reaches_voteComplete {s : State} {h : Fin 48} {w : Fin 2048} {ws : List Word} {l : Latched} {q : WinLine} (time : Nat)
    (hw : Watched s h w ws l) (hc : crosses ws (s.lineOf h) = true)
    (hq : (s.head h).sent.wins.find? (fun j => j.win = w.val) = some q) (hp : q.path = 0) :
    let v := integrityVerdict q.mismatch
    Reaches (.voteComplete time h [] [] []) s (fun t => t.get (F.VIGIL_WSTATE_VERDICT w) = v.1 ∧ t.get (F.VIGIL_WSTATE_REASON w) = v.2 ∧
      (t.win w).last = v ∧ (t.win w).heldInt = holdInt 0 v ∧ (v.1 = 0 → (t.win w).lastGood = some l)) := by
  intro v
  have hz := hw.advance time
  obtain ⟨t, x, ht, hlast, hheld, hgood⟩ := State.voteLine_watched hz hc hq hp
  have hexec : exec (.voteComplete time h [] [] []) s =
      .next ((((s.advance time).voteLine [] [] h (s.lineOf h) (w.val, ws)).countSnuffed h).closeLine h) := by
    refine congrArg Host.Outcome.next ?_
    unfold State.voteComplete
    simp only [List.map_nil, List.foldl_nil, hz.enabled, if_true, hz.sup, List.foldl_cons]
    rfl
  have hv : v.1 < 8 ∧ v.2 < 32 := by
    simp only [v, integrityVerdict]
    split <;> decide
  have hj := (((t.showVerdict_judged h (s.lineOf h) x (s.win w).last.1 w.isLt hv).countSnuffed h.isLt w.isLt).closeLine h)
  refine ⟨_, hexec.trans (congrArg (fun u => Host.Outcome.next ((State.countSnuffed u h).closeLine h)) ht), hj.verdict, hj.reason, ?_, ?_, ?_⟩
  · exact (congrArg Win.last hj.win).trans hlast
  · exact (congrArg Win.heldInt hj.win).trans hheld
  · exact fun h0 => (congrArg Win.lastGood hj.win).trans (hgood h0)

/-! ### INTEGRITY_COMPARE (R59) -/

theorem reaches_integrityCompare (s : State) (h : Fin 48) (time : Nat) : Reaches (.integrityCompare time h) s (fun t => t.regs = s.regs ∧
    (t.head h).sent.wins.length = (s.head h).sent.wins.length ∧
    ∀ (j : Nat) (q : WinLine), (s.head h).sent.wins[j]? = some q → ∃ r, (t.head h).sent.wins[j]? = some r ∧ r.sent = q.sent ∧
      (r.mismatch = true ↔ q.altered = false ∧ q.cols ≠ [] ∧ q.sent ≠ q.expected)) := by
  refine ⟨(s.advance time).setHead h { s.head h with sent := compareLine (s.head h).sent }, rfl, rfl, ?_⟩
  rw [State.head_setHead_same]
  refine ⟨List.length_map .., fun j q hq => ⟨_, List.getElem?_map.trans (congrArg _ hq), rfl, ?_⟩⟩
  simp [and_assoc]

/-! ### VERDICT_DELIVERY (R39, R60 to R62, R67) -/

section
variable {s : State} (v : Nat × Nat)

theorem State.atLine_few (h : s.inService.length < 2) : (s.atLine v).1 = 6 := by
  unfold State.atLine
  rw [if_pos h]
  split
  · assumption
  · rfl

theorem State.atLine_stop (h : 2 ≤ s.inService.length) (hm : s.mode = 10) : s.atLine v = (7, 20) := by
  have hr : s.running = false := by simp [State.running, hm, modeStop]
  unfold State.atLine
  rw [if_neg (Nat.not_lt.2 h), if_pos (by simp [hr])]

theorem State.atLine_running (h : 2 ≤ s.inService.length) (hm : s.mode ≠ 10) : s.atLine v = v := by
  have hr : s.running = true := bne_iff_ne.2 hm
  unfold State.atLine
  rw [if_neg (Nat.not_lt.2 h), if_neg (by simp [hr])]

end

theorem State.atLine_of_regs {s t : State} (h : t.regs = s.regs) (v : Nat × Nat) : t.atLine v = s.atLine v := by
  have hserv : t.inService = s.inService := List.filter_congr fun i _ => by rw [State.get_of_regs h]
  have hrun : t.running = s.running := congrArg (· != modeStop) (State.get_of_regs h _)
  rw [State.atLine, hserv, hrun, State.atLine]

/-- The verdict of one window reaches the snuff stage and, by `b`, the compositor. -/
def State.deliverWin (s : State) (b : Timebase) (e : Nat × List Word) : State :=
  s.setWin e.1 { s.win e.1 with snuff := s.atLine (s.win e.1).next
                                comp := s.atLine (if b.timing.vtotal = b.line + 2 then (s.win e.1).freshV else (s.win e.1).next) }

/-- Delivery changes no register and no verdict still to be delivered, and the snuff stage of each window has its verdict. -/
theorem State.foldl_deliverWin (b : Timebase) (l : List (Nat × List Word)) (s : State) :
    let t := l.foldl (fun s e => s.deliverWin b e) s
    t.regs = s.regs ∧ (∀ w, (t.win w).next = (s.win w).next) ∧
      (∀ w, (t.win w).snuff = (s.win w).snuff ∨ (t.win w).snuff = s.atLine (s.win w).next) ∧
      ∀ e ∈ l, (t.win e.1).snuff = s.atLine (s.win e.1).next := by
  induction l generalizing s with
  | nil => exact ⟨rfl, fun _ => rfl, fun _ => .inl rfl, nofun⟩
  | cons a l ih =>
    obtain ⟨hr, hn, hs, hl⟩ := ih (s.deliverWin b a)
    have hat (v : Nat × Nat) : (s.deliverWin b a).atLine v = s.atLine v := State.atLine_of_regs (s := s) rfl v
    have hnext (w : Nat) : ((s.deliverWin b a).win w).next = (s.win w).next := by
      by_cases hw : w = a.1
      · rw [hw, State.deliverWin, State.win_setWin_same]
      · rw [State.deliverWin, State.win_setWin_ne _ _ _ _ hw]
    have hsame : ((s.deliverWin b a).win a.1).snuff = s.atLine (s.win a.1).next := by rw [State.deliverWin, State.win_setWin_same]
    simp only [hat, hnext] at hn hs hl
    refine ⟨hr, hn, fun w => ?_, fun e he => ?_⟩
    · by_cases hw : w = a.1
      · subst hw
        exact .inr ((hs a.1).elim (fun h => h.trans hsame) id)
      · have hkeep : ((s.deliverWin b a).win w).snuff = (s.win w).snuff := by rw [State.deliverWin, State.win_setWin_ne _ _ _ _ hw]
        exact (hs w).imp_left fun h => h.trans hkeep
    · obtain rfl | he := List.mem_cons.1 he
      · exact (hs e.1).elim (fun h => h.trans hsame) id
      · exact hl e he

theorem reaches_verdictDelivery (s : State) (h : Fin 48) (time : Nat) : Reaches (.verdictDelivery time h) s (fun t => t.regs = s.regs ∧
    ∀ e ∈ s.supWins h, (2 ≤ s.inService.length → s.mode ≠ 10 → (t.win e.1).snuff = (s.win e.1).next) ∧
      (2 ≤ s.inService.length → s.mode = 10 → (t.win e.1).snuff = (7, 20)) ∧ (s.inService.length < 2 → (t.win e.1).snuff.1 = 6)) := by
  obtain ⟨hr, _, _, hl⟩ := State.foldl_deliverWin ((s.advance time).tb ((s.advance time).master h)) (s.supWins h) (s.advance time)
  refine ⟨_, rfl, hr, fun e he => ?_⟩
  have hat (v : Nat × Nat) : (s.advance time).atLine v = s.atLine v := State.atLine_of_regs (s := s) rfl v
  have hsnuff : (((s.advance time).deliver h).win e.1).snuff = s.atLine (s.win e.1).next := (hl e he).trans (hat _)
  refine ⟨fun h2 hm => hsnuff.trans (State.atLine_running _ h2 hm), fun h2 hm => hsnuff.trans (State.atLine_stop _ h2 hm), fun h2 => ?_⟩
  exact (congrArg Prod.fst hsnuff).trans (State.atLine_few _ h2)

/-! ### Three instances (R77) -/

theorem voteOf_three (a b c : Nat × Nat) : (a.1 = b.1 → voteOf [(0, a), (1, b), (2, c)] = ⟨a, if c.1 = a.1 then none else some 2, false⟩) ∧
    (a.1 ≠ b.1 → a.1 = c.1 → voteOf [(0, a), (1, b), (2, c)] = ⟨a, some 1, false⟩) ∧
    (a.1 ≠ b.1 → b.1 = c.1 → voteOf [(0, a), (1, b), (2, c)] = ⟨b, some 0, false⟩) ∧
    (a.1 ≠ b.1 → a.1 ≠ c.1 → b.1 ≠ c.1 → voteOf [(0, a), (1, b), (2, c)] = ⟨(6, 17), none, true⟩) := by
  refine ⟨fun hab => if_pos hab, fun hab hac => ?_, fun hab hbc => ?_, fun hab hac hbc => ?_⟩
  · exact (if_neg hab).trans (if_pos hac)
  · exact (if_neg hab).trans ((if_neg fun hac => hab (hac.trans hbc.symm)).trans (if_pos hbc))
  · exact (if_neg hab).trans ((if_neg hac).trans (if_neg hbc))

/-- Settles O31, command by command: age and progress, the end of a line, the compare, the delivery, the vote. -/
theorem vigilVerdicts : Obligations.VigilVerdicts := by
  unfold Obligations.VigilVerdicts
  refine ⟨?_, ?_, voteOf_three⟩
  · intro h w ws l time s x t0 b d age n bd hen hsup htag hok hserv hmode hstep hwith hint hunv hecho hpick hwas hinj hsnuff
    have hw : Watched s h w ws l := ⟨⟨hserv, hmode, hstep, hwith, hint, hunv, hecho, hpick, hwas⟩, hen, hsup, htag, hok, hinj, hsnuff⟩
    refine ⟨reaches_stale time hw, reaches_lost time hw, reaches_live time hw, fun q hc hq hp => ?_⟩
    have hv := reaches_voteComplete time hw hc hq hp
    refine ⟨fun hm => ?_, fun hm => ?_⟩
    all_goals
      rw [hm] at hv
      obtain ⟨t, ht, hverdict, hreason, hlast, hheld, hgood⟩ := hv
    · exact ⟨t, ht, hverdict, hreason, hheld, hlast⟩
    · exact ⟨t, ht, hverdict, hlast, hgood rfl⟩
  · exact fun h time ups s => ⟨exec_ageProgressVote_disabled, reaches_integrityCompare s h time, reaches_verdictDelivery s h time⟩

end Sys2Proof.Machine
end

section
/-! What leaves the timebases and the time alone (O29). -/
namespace Sys2Proof.Machine

/-- The timebases and the time. -/
def State.clockwork (s : State) : Tab Timebase × TimeU := (s.tbs, s.time)

theorem State.tb_of_clockwork {s t : State} (h : t.clockwork = s.clockwork) (g : Nat) : t.tb g = s.tb g := by
  obtain ⟨htbs, htime⟩ := Prod.mk.inj h
  simp [State.tb, htbs, htime]

theorem State.time_of_clockwork {s t : State} (h : t.clockwork = s.clockwork) : t.time = s.time := congrArg Prod.snd h

@[simp] theorem State.clockwork_mk (pending regs mem poison dirty bus log time rose chk eng tbs glin units heads wins vigil scaler fuses flash
    power sensors ledger test ctxs pipes intake sess encAt net servo sides lanes panels seqMem seqBad trigOut free) :
    State.clockwork ⟨pending, regs, mem, poison, dirty, bus, log, time, rose, chk, eng, tbs, glin, units, heads, wins, vigil, scaler, fuses,
      flash, power, sensors, ledger, test, ctxs, pipes, intake, sess, encAt, net, servo, sides, lanes, panels, seqMem, seqBad, trigOut,
      free⟩ = (tbs, time) := (rfl)

@[simp] theorem State.clockwork_eta (s : State) : (s.tbs, s.time) = s.clockwork := (rfl)

@[simp] theorem State.clockwork_ite {c : Prop} [Decidable c] (s t : State) :
    (if c then s else t).clockwork = if c then s.clockwork else t.clockwork := apply_ite _ _ _ _

@[simp] theorem State.clockwork_foldl {α : Type} (f : State → α → State) (h : ∀ s a, (f s a).clockwork = s.clockwork) (l : List α)
    (s : State) : (l.foldl f s).clockwork = s.clockwork :=
  List.foldlRecOn (motive := fun t : State => t.clockwork = s.clockwork) l f rfl fun t ht a _ => (h t a).trans ht

@[simp] theorem State.setReg_clockwork (s : State) (k : Nat) (w : Word) : (s.setReg k w).clockwork = s.clockwork := (rfl)
@[simp] theorem State.put_clockwork (s : State) (f : Fld) (v : Nat) : (s.put f v).clockwork = s.clockwork := (rfl)
@[simp] theorem State.putB_clockwork (s : State) (f : Fld) (b : Bool) : (s.putB f b).clockwork = s.clockwork := (rfl)
@[simp] theorem State.putI_clockwork (s : State) (f : Fld) (v : Int) : (s.putI f v).clockwork = s.clockwork := (rfl)
@[simp] theorem State.bump_clockwork (s : State) (f : Fld) : (s.bump f).clockwork = s.clockwork := (rfl)
@[simp] theorem State.setEngine_clockwork (s : State) (k : Nat) (e : Engine) : (s.setEngine k e).clockwork = s.clockwork := (rfl)
@[simp] theorem State.setUnit_clockwork (s : State) (u : Nat) (x : CommitUnit) : (s.setUnit u x).clockwork = s.clockwork := (rfl)
@[simp] theorem State.setWin_clockwork (s : State) (w : Nat) (x : Win) : (s.setWin w x).clockwork = s.clockwork := (rfl)
@[simp] theorem State.setHead_clockwork (s : State) (h : Nat) (x : Head) : (s.setHead h x).clockwork = s.clockwork := (rfl)
@[simp] theorem State.setSes_clockwork (s : State) (v : Nat) (x : Sess) : (s.setSes v x).clockwork = s.clockwork := (rfl)

theorem LogOnly.clockwork {s t : State} (h : LogOnly s t) : t.clockwork = s.clockwork := Prod.ext h.tbs h.time

@[simp] theorem State.raise_clockwork (s : State) (cls a1 a2 detail : Nat) (lim : Option Nat) :
    (s.raise cls a1 a2 detail lim).clockwork = s.clockwork := (s.raise_logOnly ..).clockwork

/-! ### The mode and in-service tests -/

@[simp] theorem State.setMode_clockwork (s : State) (m : Nat) : (s.setMode m).clockwork = s.clockwork := by simp [State.setMode]
@[simp] theorem State.updDegraded_clockwork (s : State) : s.updDegraded.clockwork = s.clockwork := by simp [State.updDegraded]
@[simp] theorem State.countService_clockwork (s : State) : s.countService.clockwork = s.clockwork := by simp [State.countService]

@[simp] theorem State.endTest_clockwork (s : State) (result detail : Nat) : (s.endTest result detail).clockwork = s.clockwork := by
  unfold State.endTest
  split <;> simp

@[simp] theorem State.untest_clockwork (s : State) (u : Nat) : (s.untest u).clockwork = s.clockwork := by
  unfold State.untest
  split <;> simp

@[simp] theorem State.stopTest_clockwork (s : State) : s.stopTest.clockwork = s.clockwork := by
  unfold State.stopTest
  split <;> simp

@[simp] theorem State.updMode_clockwork (s : State) : s.updMode.clockwork = s.clockwork := by simp [State.updMode]

/-! ### The vigil -/

@[simp] theorem State.vigilRec_clockwork (s : State) (cls w h line v r : Nat) : (s.vigilRec cls w h line v r).clockwork = s.clockwork := by
  simp [State.vigilRec]
@[simp] theorem State.vigilGlobal_clockwork (s : State) (cls v r inst : Nat) : (s.vigilGlobal cls v r inst).clockwork = s.clockwork := by
  simp [State.vigilGlobal]
@[simp] theorem State.setInstance_clockwork (s : State) (i st : Nat) : (s.setInstance i st).clockwork = s.clockwork := by
  simp [State.setInstance]
@[simp] theorem State.restoreInstance_clockwork (s : State) (i : Nat) : (s.restoreInstance i).clockwork = s.clockwork := by
  simp [State.restoreInstance]
@[simp] theorem State.vigilTestEnter_clockwork (s : State) (i : Nat) : (s.vigilTestEnter i).clockwork = s.clockwork := by
  simp [State.vigilTestEnter]

@[simp] theorem State.vigilTake_clockwork (s : State) : s.vigilTake.clockwork = s.clockwork := by
  unfold State.vigilTake
  dsimp only
  split <;> simp

@[simp] theorem State.vigilFrame_clockwork (s : State) : s.vigilFrame.clockwork = s.clockwork := by simp [State.vigilFrame]
@[simp] theorem State.takeCeil_clockwork (s : State) (h : Nat) : (s.takeCeil h).clockwork = s.clockwork := by simp [State.takeCeil]
@[simp] theorem State.frameWins_clockwork (s : State) (h : Nat) : (s.frameWins h).clockwork = s.clockwork := by simp [State.frameWins]
@[simp] theorem State.vigilFrameStart_clockwork (s : State) (h : Nat) : (s.vigilFrameStart h).clockwork = s.clockwork := by
  simp [State.vigilFrameStart]
@[simp] theorem State.pickChecks_clockwork (s : State) (h : Nat) : (s.pickChecks h).clockwork = s.clockwork := by simp [State.pickChecks]

/-! ### Encode sessions -/

@[simp] theorem State.encRecOn_clockwork (s : State) (cls v p code : Nat) (lim : Option Nat) :
    (s.encRecOn cls v p code lim).clockwork = s.clockwork := by simp [State.encRecOn]
@[simp] theorem State.encRec_clockwork (s : State) (cls v code : Nat) (lim : Option Nat) : (s.encRec cls v code lim).clockwork = s.clockwork := by
  simp [State.encRec]
@[simp] theorem State.setEpipeAt_clockwork (s : State) (p : Nat) : (s.setEpipeAt p).clockwork = s.clockwork := by simp [State.setEpipeAt]
@[simp] theorem State.epipeState_clockwork (s : State) (p : Nat) : (s.epipeState p).clockwork = s.clockwork := by simp [State.epipeState]
@[simp] theorem State.encAbandonNo_clockwork (s : State) (v i code : Nat) : (s.encAbandonNo v i code).clockwork = s.clockwork := by
  simp [State.encAbandonNo]

@[simp] theorem State.encAbandon_clockwork (s : State) (v code : Nat) : (s.encAbandon v code).clockwork = s.clockwork := by
  unfold State.encAbandon
  split <;> simp

@[simp] theorem State.encResume_clockwork (s : State) (v : Nat) : (s.encResume v).clockwork = s.clockwork := by simp [State.encResume]

@[simp] theorem State.encPlace_clockwork (s : State) (v : Nat) : (s.encPlace v).clockwork = s.clockwork := by
  unfold State.encPlace
  split <;> simp

@[simp] theorem State.encBegin_clockwork (s : State) (v : Nat) : (s.encBegin v).clockwork = s.clockwork := by simp [State.encBegin]
@[simp] theorem State.encFrame_clockwork (s : State) (v : Nat) : (s.encFrame v).clockwork = s.clockwork := by simp [State.encFrame]

@[simp] theorem State.encLine_clockwork (s : State) (v : Nat) (line : List Pix) : (s.encLine v line).clockwork = s.clockwork := by
  unfold State.encLine
  dsimp only
  split <;> simp

/-! ### Frames and lines -/

@[simp] theorem State.takeMap_clockwork (s : State) (h : Nat) : (s.takeMap h).clockwork = s.clockwork := by simp [State.takeMap]
@[simp] theorem State.unitFrame_clockwork (s : State) (h : Nat) : (s.unitFrame h).clockwork = s.clockwork := by simp [State.unitFrame]

@[simp] theorem State.frameWait_clockwork (s : State) (start h k : Nat) : (s.frameWait start h k).clockwork = s.clockwork := by
  unfold State.frameWait
  dsimp only
  split <;> simp

@[simp] theorem State.seqFrame_clockwork (s : State) (stepped : Bool) (g : Nat) : (s.seqFrame stepped g).clockwork = s.clockwork := by
  simp [State.seqFrame]
@[simp] theorem State.pruneHist_clockwork (s : State) (h : Nat) : (s.pruneHist h).clockwork = s.clockwork := by simp [State.pruneHist]
@[simp] theorem State.snuffAtLine_clockwork (s : State) (h : Nat) : (s.snuffAtLine h).clockwork = s.clockwork := by simp [State.snuffAtLine]
@[simp] theorem State.sendLine_clockwork (s : State) (h n fs : Nat) (ups : List PixUpset) : (s.sendLine h n fs ups).clockwork = s.clockwork := by
  simp [State.sendLine]
@[simp] theorem State.sendNow_clockwork (s : State) (h : Nat) (ups : List PixUpset) : (s.sendNow h ups).clockwork = s.clockwork := by
  simp [State.sendNow]

end Sys2Proof.Machine
end

section
/-! A frame start and a line start of a timebase (O29; R88 to R92). -/
namespace Sys2Proof.Machine

/-! ### Spans and masters -/

theorem State.spanOf_of_reg {s t : State} {h : Nat} (hr : t.reg (F.HEAD_GL_STATE_MEMBER h).key = s.reg (F.HEAD_GL_STATE_MEMBER h).key) :
    t.spanOf h = s.spanOf h := by
  have hmember : t.get (F.HEAD_GL_STATE_MEMBER h) = s.get (F.HEAD_GL_STATE_MEMBER h) := congrArg (Fld.of _) hr
  have hspan : t.get (F.HEAD_GL_STATE_SPAN h) = s.get (F.HEAD_GL_STATE_SPAN h) := congrArg (Fld.of _) hr
  rw [State.spanOf, State.on_of_get hmember, hspan, State.spanOf]

theorem State.spanOf_lt {s : State} {h p : Nat} (hp : s.spanOf h = some p) : p < 16 := by
  unfold State.spanOf at hp
  split at hp
  · exact Option.some.inj hp ▸ State.get_lt s _
  · cases hp

theorem State.master_of_reg {s t : State} {h : Nat} (hr : t.reg (F.HEAD_GL_STATE_MEMBER h).key = s.reg (F.HEAD_GL_STATE_MEMBER h).key)
    (hm : ∀ p < 16, t.reg (F.SPAN_STATUS_MASTER p).key = s.reg (F.SPAN_STATUS_MASTER p).key) : t.master h = s.master h := by
  unfold State.master
  rw [State.spanOf_of_reg hr]
  cases hp : s.spanOf h with
  | none => rfl
  | some p => simp only [State.get, hm p (State.spanOf_lt hp)]

theorem State.hasHead_of_fuses {s t : State} (h : t.fuses = s.fuses) (g : Nat) : t.hasHead g = s.hasHead g := by
  unfold State.hasHead State.nHeads State.nVheads
  rw [h]

/-! ### What the timebase of head `h` keeps while lines are missed and sent -/

/-- A timebase without what it keeps for its head: whether it sends, its underruns, DISP as the vigil has latched it. -/
def Timebase.raster (b : Timebase) : Timebase := { b with sending := false, dispNext := 0, underrunLogged := none, underrunAt := none }

/-- Head `h` runs in `t` as in `s`: there, on the same timebase at the same position, and at the same time. -/
structure SameRaster (h : Nat) (s t : State) : Prop where
  raster : (t.tb h).raster = (s.tb h).raster
  time : t.time = s.time
  hasHead : t.hasHead h = s.hasHead h
  master : t.master h = s.master h

namespace SameRaster

variable {h : Nat} {s t u : State}

theorem refl (h : Nat) (s : State) : SameRaster h s s := ⟨rfl, rfl, rfl, rfl⟩

theorem trans (a : SameRaster h s t) (b : SameRaster h t u) : SameRaster h s u :=
  ⟨b.raster.trans a.raster, b.time.trans a.time, b.hasHead.trans a.hasHead, b.master.trans a.master⟩

theorem ite {c : Prop} [Decidable c] (ht : SameRaster h s t) (hu : SameRaster h s u) : SameRaster h s (if c then t else u) := by
  split <;> assumption

theorem foldl {α : Type} (f : State → α → State) (hf : ∀ t a, SameRaster h t (f t a)) (l : List α) (s : State) :
    SameRaster h s (l.foldl f s) :=
  List.foldlRecOn (motive := SameRaster h s) l f (refl h s) fun t ht a _ => ht.trans (hf t a)

theorem setTb (s : State) {g : Nat} {b : Timebase} (hb : b.raster = (s.tb g).raster) : SameRaster h s (s.setTb g b) := by
  refine ⟨?_, rfl, rfl, rfl⟩
  by_cases hg : h = g
  · rw [hg, State.tb_setTb_same, hb]
  · rw [State.tb_setTb_ne _ _ _ _ hg]

theorem of_logOnly (hh : h < 48) (hl : LogOnly s t) : SameRaster h s t := by
  refine ⟨congrArg Timebase.raster (State.tb_of_clockwork hl.clockwork h), hl.time, State.hasHead_of_fuses hl.fuses h,
    State.master_of_reg ?_ fun p hp => ?_⟩
  all_goals
    refine hl.reg _ ?_ (isCtxOwn_below ?_)
    all_goals
      simp only [F.HEAD_GL_STATE_MEMBER, F.SPAN_STATUS_MASTER]
      omega

theorem bump_underrun (hh : h < 48) (s : State) (g : Nat) : SameRaster h s (s.bump (F.HEAD_UNDERRUN_COUNT g)) := by
  refine ⟨rfl, rfl, rfl, State.master_of_reg ?_ fun p hp => ?_⟩
  all_goals
    refine State.reg_setReg_ne _ _ _ _ ?_ (isCtxOwn_below ?_)
    all_goals
      simp only [F.HEAD_GL_STATE_MEMBER, F.SPAN_STATUS_MASTER, F.HEAD_UNDERRUN_COUNT]
      omega

/-- A field that is none of those kept for the head stands. -/
theorem field (a : SameRaster h s t) {α : Type} (f : Timebase → α) (hf : ∀ b : Timebase, f b.raster = f b) : f (t.tb h) = f (s.tb h) :=
  (hf _).symm.trans ((congrArg f a.raster).trans (hf _))

theorem lineOver (a : SameRaster h s t) : t.lineOver h = s.lineOver h := by
  rw [State.lineOver, a.field Timebase.lineAt fun _ => rfl, a.field Timebase.lineLen fun _ => rfl, a.time, State.lineOver]

theorem frameOver (a : SameRaster h s t) : t.frameOver h = s.frameOver h := by
  rw [State.frameOver, a.field Timebase.timing fun _ => rfl, a.field Timebase.line fun _ => rfl, a.lineOver, State.frameOver]

end SameRaster

theorem State.countUnderrun_sameRaster {h : Nat} (hh : h < 48) (s : State) (g y fs : Nat) : SameRaster h s (s.countUnderrun g y fs) := by
  unfold State.countUnderrun
  extract_lets b t
  have ht : SameRaster h s t := (SameRaster.bump_underrun hh s g).trans (.setTb _ rfl)
  refine .ite ht ((ht.trans (.setTb _ ?_)).trans (.of_logOnly hh (State.raise_logOnly ..)))
  rfl

theorem State.setHead_sameRaster (s : State) (h g : Nat) (x : Head) : SameRaster h s (s.setHead g x) := ⟨rfl, rfl, rfl, rfl⟩

theorem State.dueLine_sameRaster {h : Nat} (hh : h < 48) (s : State) (g : Nat) : SameRaster h s (s.dueLine g) := by
  refine .ite ?_ (.refl h s)
  rw [State.underrun_eq]
  have ht := s.setHead_sameRaster h g
  exact .ite (ht _) ((ht _).trans (State.countUnderrun_sameRaster hh ..))

/-! ### The timebase's own part of a frame start (R88, R90) -/

@[simp] theorem State.put_tb (s : State) (f : Fld) (v h : Nat) : (s.put f v).tb h = s.tb h := rfl
@[simp] theorem State.putI_tb (s : State) (f : Fld) (v : Int) (h : Nat) : (s.putI f v).tb h = s.tb h := rfl

/-- The timebase `h` runs the frame `f`, and no step or load of its position is due. -/
structure Undue (f h : Nat) (s : State) : Prop where
  fseq : (s.tb h).fseq = f
  step : (s.tb h).stepDue = none
  load : (s.tb h).loadDue = false

theorem Undue.setTb {f h : Nat} (s : State) {b : Timebase} (hf : b.fseq = f) (hs : b.stepDue = none) (hl : b.loadDue = false) :
    Undue f h (s.setTb h b) := by
  constructor <;> rwa [State.tb_setTb_same]

section
variable {f h : Nat} {s : State} (hu : Undue f h s)
include hu

theorem Undue.of_tb {t : State} (ht : t.tb h = s.tb h) : Undue f h t := by
  constructor <;> rw [ht]
  exacts [hu.fseq, hu.step, hu.load]

theorem Undue.takeFallback : Undue f h (s.takeFallback h) := by
  unfold State.takeFallback
  dsimp only
  split
  · exact (Undue.setTb s (b := { s.tb h with src := (s.tb h).fallback, fallback := 0, cand := [], lastPulse := none, spacings := [] })
      hu.fseq hu.step hu.load).of_tb rfl
  · exact hu

theorem Undue.takeRef : Undue f h (s.takeRef h) := by
  unfold State.takeRef
  extract_lets b src b1 t b2
  split
  · have ht : Undue f h t := .setTb s hu.fseq hu.step hu.load
    split
    · exact ht.takeFallback
    · exact ht
  · have ht : Undue f h (s.setTb h b2) := .setTb s hu.fseq rfl rfl
    exact ht.of_tb rfl

theorem Undue.takeTiming : Undue f h (s.takeTiming h) := by
  unfold State.takeTiming
  dsimp only
  split
  · exact .setTb s hu.fseq hu.step hu.load
  · exact hu

theorem Undue.frameRate : Undue f h (s.frameRate h) := by
  unfold State.frameRate
  extract_lets st b move t
  exact .setTb t hu.fseq hu.step hu.load

/-- With nothing due the frame counts by one and its line 0 starts where the last line ends. -/
theorem Undue.tbFrameStart : let t := (s.tbFrameStart h).1
    (t.tb h).fseq = (f + 1) % 2 ^ 32 ∧ (t.tb h).line = 0 ∧ (t.tb h).lineAt = (s.tb h).lineAt + (s.tb h).lineLen ∧ (t.tb h).fresh = true ∧
      (s.tbFrameStart h).2 = false := by
  have hv := hu.takeRef.takeTiming.frameRate
  unfold State.tbFrameStart State.beginLine
  simp [hv.fseq, hv.step, hv.load, State.lineEnd]

end


/-! ### Frame starts and line starts of a timebase (R88, R90, R92) -/

theorem State.takeTiming_tb_ne (s : State) {g h : Nat} (hg : g ≠ h) : (s.takeTiming g).tb h = s.tb h := by
  unfold State.takeTiming
  dsimp only
  split
  · exact State.tb_setTb_ne _ _ _ _ hg.symm
  · rfl

/-- The heads' parts of a frame start leave the timebase where it is. -/
theorem State.headFrame_raster (s : State) (h g : Nat) : ((s.headFrame h g).tb h).raster = (s.tb h).raster := by
  unfold State.headFrame
  extract_lets s1 b s2 x line s3 s4 s5
  have h1 : s1.tb h = s.tb h := by
    unfold s1
    split
    · rfl
    · next hg => exact s.takeTiming_tb_ne hg
  have h2 : (s2.tb h).raster = (s1.tb h).raster := SameRaster.raster (.setTb s1 rfl)
  rw [State.tb_of_clockwork (s := s2) (by simp [s3, s4, s5]), h2, h1]

/-- The timebase `h` runs line `n` of the frame `f`, which began at `start`; `fr` while LINE_START of line 0 is still to come. -/
structure RunsAt (f n start : Nat) (fr : Bool) (h : Nat) (s : State) : Prop where
  fseq : (s.tb h).fseq = f
  line : (s.tb h).line = n
  lineAt : (s.tb h).lineAt = start
  fresh : (s.tb h).fresh = fr

theorem RunsAt.of_raster {f n start h : Nat} {fr : Bool} {s t : State} (hs : RunsAt f n start fr h s)
    (ht : (t.tb h).raster = (s.tb h).raster) : RunsAt f n start fr h t := by
  have hfield {α : Type} (p : Timebase → α) (hp : ∀ b : Timebase, p b.raster = p b) : p (t.tb h) = p (s.tb h) :=
    (hp _).symm.trans ((congrArg p ht).trans (hp _))
  exact ⟨(hfield Timebase.fseq fun _ => rfl).trans hs.fseq, (hfield Timebase.line fun _ => rfl).trans hs.line,
    (hfield Timebase.lineAt fun _ => rfl).trans hs.lineAt, (hfield Timebase.fresh fun _ => rfl).trans hs.fresh⟩

theorem RunsAt.begun {f n start h : Nat} {fr : Bool} {s : State} (hs : RunsAt f n start fr h s) :
    RunsAt f n start false h (s.setTb h { s.tb h with fresh := false }) := by
  constructor <;> rw [State.tb_setTb_same]
  exacts [hs.fseq, hs.line, hs.lineAt]

theorem Undue.of_sameRaster {f h : Nat} {s t : State} (hu : Undue f h s) (a : SameRaster h s t) : Undue f h t :=
  ⟨(a.field Timebase.fseq fun _ => rfl).trans hu.fseq, (a.field Timebase.stepDue fun _ => rfl).trans hu.step,
    (a.field Timebase.loadDue fun _ => rfl).trans hu.load⟩

theorem State.frameStart_idle {s : State} {h : Nat} (hn : s.master h ≠ h ∨ s.frameOver h = false) : s.frameStart h = s := by
  unfold State.frameStart
  rw [if_pos]
  obtain hm | ho := hn
  · simp [hm]
  · simp [ho]

theorem State.frameStart_started {f h : Nat} {s : State} (hh : h < 48) (hu : Undue f h s) (hhas : s.hasHead h = true) (hm : s.master h = h)
    (ho : s.frameOver h = true) : RunsAt ((f + 1) % 2 ^ 32) 0 ((s.tb h).lineAt + (s.tb h).lineLen) true h (s.frameStart h) := by
  unfold State.frameStart
  rw [if_neg (by simp [hhas, hm, ho])]
  extract_lets gs start s1
  have h1 : SameRaster h s s1 := .foldl _ (fun t g => t.dueLine_sameRaster hh g) gs s
  obtain ⟨hfseq, hline, hat, hfresh, hstep⟩ := (hu.of_sameRaster h1).tbFrameStart
  rw [h1.field Timebase.lineAt fun _ => rfl, h1.field Timebase.lineLen fun _ => rfl] at hat
  generalize s1.tbFrameStart h = p at *
  obtain ⟨s2, stepped⟩ := p
  obtain rfl : stepped = false := hstep
  refine RunsAt.of_raster (s := s2) ⟨hfseq, hline, hat, hfresh⟩ ?_
  have hheads (t : State) : ((gs.foldl (fun s g => s.headFrame h g) t).tb h).raster = (t.tb h).raster :=
    List.foldlRecOn (motive := fun u : State => (u.tb h).raster = (t.tb h).raster) gs _ rfl fun u hu g _ => (u.headFrame_raster h g).trans hu
  dsimp only
  rw [if_neg Bool.false_ne_true, State.tb_of_clockwork (State.clockwork_foldl _ (fun t g => t.seqFrame_clockwork false g) _ _),
    State.tb_of_clockwork (State.clockwork_foldl _ (fun t k => t.frameWait_clockwork start h k) _ _), hheads,
    State.tb_of_clockwork (State.unitFrame_clockwork ..)]

/-- A line start within the frame: the next line begins where the line under way ends. -/
theorem State.tbLineStart_runsAt (s : State) (h : Nat) :
    RunsAt (s.tb h).fseq ((s.tb h).line + 1) ((s.tb h).lineAt + (s.tb h).lineLen) false h (s.tbLineStart h) := by
  unfold State.tbLineStart State.beginLine State.lineEnd
  dsimp only
  split <;> constructor <;> simp

/-- The timebase `h` at its line start, the lines due until then having been counted. -/
def State.lineBegun (s : State) (h : Nat) : State :=
  (if (s.tb h).fresh then s else (s.tbHeads h).foldl (fun s g => s.dueLine g) s).nextTbLine h

theorem State.latchDisp_raster (s : State) (h : Nat) : ((s.latchDisp h).tb h).raster = (s.tb h).raster := SameRaster.raster (.setTb s rfl)

/-- A line start of a head that runs its own timebase moves that to its next line. -/
theorem State.lineStart_raster {s : State} {h : Nat} (ups : List PixUpset) (hhas : s.hasHead h = true) (hm : s.master h = h)
    (hr : (s.tb h).fresh = true ∨ s.lineOver h = true) : ((s.lineStart h ups).tb h).raster = ((s.lineBegun h).tb h).raster := by
  have hgo : (!s.hasHead h || (decide (s.master h = h) && !(s.tb h).fresh && !s.lineOver h)) = false := by
    obtain hr | hr := hr <;> simp [hhas, hr]
  have hdue : (if s.master h = h && !(s.tb h).fresh then (s.tbHeads h).foldl (fun s g => s.dueLine g) s else s).nextTbLine h = s.lineBegun h := by
    unfold State.lineBegun
    cases (s.tb h).fresh <;> simp [hm]
  unfold State.lineStart
  dsimp only
  rw [if_neg (by simp [hgo]), if_pos hm, hdue, ← State.latchDisp_raster (s.lineBegun h)]
  refine congrArg Timebase.raster (State.tb_of_clockwork ?_ h)
  simp

theorem State.lineStart_idle {s : State} {h : Nat} (ups : List PixUpset) (hm : s.master h = h) (hf : (s.tb h).fresh = false)
    (ho : s.lineOver h = false) : s.lineStart h ups = s := if_pos (by simp [hm, hf, ho])

/-- A head that follows its master moves no timebase. -/
theorem State.lineStart_follows {s : State} {h : Nat} (ups : List PixUpset) (hm : s.master h ≠ h) (g : Nat) :
    (s.lineStart h ups).tb g = s.tb g := by
  refine State.tb_of_clockwork ?_ g
  unfold State.lineStart
  simp [hm]

section
variable {s : State} {h : Nat}

theorem State.lineBegun_fresh (hf : (s.tb h).fresh = true) :
    RunsAt (s.tb h).fseq (s.tb h).line (s.tb h).lineAt false h (s.lineBegun h) := by
  unfold State.lineBegun State.nextTbLine
  dsimp only
  rw [if_pos hf, if_pos hf]
  exact RunsAt.begun ⟨rfl, rfl, rfl, rfl⟩

theorem State.lineBegun_next (hh : h < 48) (hf : (s.tb h).fresh = false) (hl : (s.tb h).line + 1 < (s.tb h).timing.vtotal) :
    RunsAt (s.tb h).fseq ((s.tb h).line + 1) ((s.tb h).lineAt + (s.tb h).lineLen) false h (s.lineBegun h) := by
  unfold State.lineBegun
  rw [if_neg (by simp [hf])]
  generalize ht : (s.tbHeads h).foldl (fun s g => s.dueLine g) s = t
  have hs : SameRaster h s t := ht ▸ .foldl _ (fun t g => t.dueLine_sameRaster hh g) _ s
  have hline := hs.field Timebase.line fun _ => rfl
  have hnext := t.tbLineStart_runsAt h
  rw [hs.field Timebase.fseq fun _ => rfl, hline, hs.field Timebase.lineAt fun _ => rfl, hs.field Timebase.lineLen fun _ => rfl] at hnext
  unfold State.nextTbLine
  dsimp only
  rw [hs.field Timebase.fresh fun _ => rfl, hs.field Timebase.timing fun _ => rfl, hline, if_neg (by simp [hf]), if_neg (Nat.not_le.2 hl)]
  exact hnext

theorem State.lineBegun_frame {f : Nat} (hh : h < 48) (hu : Undue f h s) (hhas : s.hasHead h = true) (hm : s.master h = h)
    (ho : s.lineOver h = true) (hf : (s.tb h).fresh = false) (hl : (s.tb h).timing.vtotal ≤ (s.tb h).line + 1) :
    RunsAt ((f + 1) % 2 ^ 32) 0 ((s.tb h).lineAt + (s.tb h).lineLen) false h (s.lineBegun h) := by
  have hover : s.frameOver h = true := by simp [State.frameOver, hl, ho]
  unfold State.lineBegun
  rw [if_neg (by simp [hf])]
  generalize ht : (s.tbHeads h).foldl (fun s g => s.dueLine g) s = t
  have hs : SameRaster h s t := ht ▸ .foldl _ (fun t g => t.dueLine_sameRaster hh g) _ s
  have hstart := State.frameStart_started hh (hu.of_sameRaster hs) (hs.hasHead.trans hhas) (hs.master.trans hm) (hs.frameOver.trans hover)
  rw [hs.field Timebase.lineAt fun _ => rfl, hs.field Timebase.lineLen fun _ => rfl] at hstart
  unfold State.nextTbLine
  dsimp only
  rw [hs.field Timebase.fresh fun _ => rfl, hs.field Timebase.timing fun _ => rfl, hs.field Timebase.line fun _ => rfl,
    if_neg (by simp [hf]), if_pos hl]
  exact hstart.begun

end

/-! ### The line that a head sends (R61) -/

theorem upsetPix_length (ups : List PixUpset) (line : List Pix) : (upsetPix ups line).length = line.length := by
  rw [upsetPix, List.length_map, List.length_zipIdx]

theorem State.snuffWin_length (s : State) (h n : Nat) (line : List Pix) (l : WinLine) : (s.snuffWin h n line l).2.length = line.length := by
  unfold State.snuffWin
  split
  · rfl
  · extract_lets vr flag v
    split
    · rfl
    · exact s.drawTreat_length _ _ _ _ _ _ rfl

theorem State.snuffAll_length (s : State) (h n : Nat) (ls : List WinLine) (line : List Pix) : (s.snuffAll h n line ls).2.length = line.length := by
  induction ls generalizing line with
  | nil => rfl
  | cons l ls ih => exact (ih _).trans (s.snuffWin_length ..)

/-- Line `n` of the frame `f` is on its way to the pins, with as many pixels as `c`. -/
structure Sent (n f : Nat) (c x : Line) : Prop where
  no : x.no = n
  fseq : x.fseq = f
  full : x.full = true
  pix : x.pix.length = c.pix.length

theorem State.sendLine_sent (s : State) (h n f : Nat) (ups : List PixUpset) :
    Sent n f (s.head h).composed ((s.sendLine h n f ups).head h).sent := by
  unfold State.sendLine
  dsimp only
  rw [State.head_setHead_same]
  exact ⟨rfl, rfl, rfl, (s.snuffAll_length ..).trans (upsetPix_length ..)⟩

/-- Head `h` sends, and the line composed for it is the line that starts, `n` of the frame `f`. -/
structure Sends (h n f : Nat) (c : Line) (s : State) : Prop where
  sending : (s.tb h).sending = true
  composes : s.composes h = true
  line : (s.tb (s.master h)).line = n
  fseq : (s.tb (s.master h)).fseq = f
  active : n < (s.tb (s.master h)).timing.vactive
  composed : (s.head h).composed = c
  full : c.full = true
  no : c.no = n
  frame : c.fseq = f

/-- The start of a line changes the windows only, before it is sent. -/
theorem State.snuffAtLine_wins (s : State) (h : Nat) : ∃ ws, s.snuffAtLine h = { s with wins := ws } :=
  List.foldlRecOn (motive := fun t : State => ∃ ws, t = { s with wins := ws }) _ _ ⟨s.wins, rfl⟩ fun t ht e _ => by
    obtain ⟨ws, rfl⟩ := ht
    exact ⟨_, rfl⟩

theorem Sends.sendNow {h n f : Nat} {c : Line} {s : State} (hs : Sends h n f c s) (h32 : h < 32) (ups : List PixUpset) :
    Sent n f c ((s.sendNow h ups).head h).sent := by
  obtain ⟨ws, hws⟩ := s.snuffAtLine_wins h
  have hgo : (((s.snuffAtLine h).tb h).sending && (s.snuffAtLine h).composes h && (s.tb (s.master h)).line < (s.tb (s.master h)).timing.vactive &&
      (s.head h).composed.full && (s.head h).composed.no = (s.tb (s.master h)).line &&
      (s.head h).composed.fseq = (s.tb (s.master h)).fseq) = true := by
    have hsending : ((s.snuffAtLine h).tb h).sending = true := hws ▸ hs.sending
    have hcomposes : (s.snuffAtLine h).composes h = true := hws ▸ hs.composes
    simp [hsending, hcomposes, hs.composed, hs.line, hs.fseq, hs.active, hs.full, hs.no, hs.frame]
  have hc : ((s.snuffAtLine h).head h).composed = c := hws ▸ hs.composed
  unfold State.sendNow
  dsimp only
  rw [if_pos hgo, if_neg (by omega), hs.line, hs.fseq]
  exact hc ▸ State.sendLine_sent ..

theorem State.pruneHist_sent (s : State) (h : Nat) : ((s.pruneHist h).head h).sent = (s.head h).sent := by
  unfold State.pruneHist
  dsimp only
  rw [State.head_setHead_same]

theorem State.pickChecks_heads (s : State) (h : Nat) : (s.pickChecks h).heads = s.heads :=
  List.foldlRecOn (motive := fun t : State => t.heads = s.heads) _ _ rfl fun t ht e _ => by
    dsimp only
    split
    · exact (State.vigilRec_logOnly ..).heads.trans ht
    · exact ht

/-- A head whose line starts sends the one composed for it. -/
theorem State.lineStart_sent {h n f : Nat} {c : Line} {s : State} (hs : Sends h n f c s) (h32 : h < 32) (ups : List PixUpset)
    (hhas : s.hasHead h = true) (hm : s.master h = h → (s.tb h).fresh = true) : Sent n f c ((s.lineStart h ups).head h).sent := by
  have hnext : Sends h n f c (if s.master h = h then (s.nextTbLine h).latchDisp h else s) := by
    split
    · next hh =>
      have hline := hs.line
      have hfseq := hs.fseq
      have hactive := hs.active
      rw [hh] at hline hfseq hactive
      unfold State.nextTbLine State.latchDisp
      dsimp only
      rw [if_pos (hm hh), State.tb_setTb_same]
      have hmaster (b b' : Timebase) : ((s.setTb h b).setTb h b').master h = h := hh
      refine ⟨?_, hs.composes, ?_, ?_, ?_, hs.composed, hs.full, hs.no, hs.frame⟩ <;> simp only [hmaster, State.tb_setTb_same]
      exacts [hs.sending, hline, hfseq, hactive]
    · exact hs
  have hfresh : (decide (s.master h = h) && !(s.tb h).fresh) = false := by
    by_cases hh : s.master h = h
    · simp [hm hh]
    · simp [hh]
  have hgo : ¬(!s.hasHead h || (decide (s.master h = h) && !(s.tb h).fresh && !s.lineOver h)) = true := by simp [hhas, hfresh]
  have hdue : (if s.master h = h && !(s.tb h).fresh then (s.tbHeads h).foldl (fun s g => s.dueLine g) s else s) = s := if_neg (by simp [hfresh])
  unfold State.lineStart
  dsimp only
  rw [if_neg hgo, hdue]
  have hsent := hnext.sendNow h32 ups
  generalize (if s.master h = h then (s.nextTbLine h).latchDisp h else s) = t at *
  rw [← State.pruneHist_sent] at hsent
  split
  · rwa [State.head, State.pickChecks_heads]
  · exact hsent


end Sys2Proof.Machine
end

section
/-! What a commit unit that ceases leaves alone: the registers below 0x600000, those of the raster among them (O29). -/
namespace Sys2Proof.Machine

theorem KeepsBelow.setUnit {b : Nat} {s t : State} (h : KeepsBelow b s t) (u : Nat) (x : CommitUnit) : KeepsBelow b s (t.setUnit u x) :=
  h.trans (.of_regs rfl)

theorem State.refuse_keeps (s : State) (cls : Nat) (src : Src) (k : AccKind) (a bad len set e : Nat) :
    KeepsBelow 0x600000 s (s.refuse cls src k a bad len set e) := by
  unfold State.refuse
  exact ((KeepsBelow.refl _ s).bump F.PROT_REFUSED (by decide)).raise ..

theorem State.initCheck_keeps (s : State) (src : Src) (k : AccKind) (a len : Nat) : KeepsBelow 0x600000 s (s.initCheck src k a len).2 := by
  unfold State.initCheck
  dsimp only
  split
  · exact s.refuse_keeps ..
  · split
    · exact s.refuse_keeps ..
    · exact .refl _ s

theorem State.unitRead_keeps (s : State) (src : Src) (a n : Nat) : KeepsBelow 0x600000 s (s.unitRead src a n).2 := by
  refine List.foldlRecOn (motive := fun p : Option (List Byte) × State => KeepsBelow 0x600000 s p.2) _ _ (.refl _ s) fun p hp t _ => ?_
  have hc := hp.trans (p.2.initCheck_keeps src .read t.1 t.2)
  dsimp only
  split
  · exact hp
  · split <;> exact hc

theorem State.choose_keeps (s : State) (ws : List Word) (cur : Option Latched) (t0 : Nat) : KeepsBelow 0x600000 s (s.choose ws cur t0).2 := by
  refine List.foldlRecOn (motive := fun p : List Latched × State => KeepsBelow 0x600000 s p.2) _ _ (.refl _ s) fun p hp a _ => ?_
  have hc := hp.trans (p.2.unitRead_keeps (sliceSrc (s.sliceOf (wHead ws))) a 32)
  split
  all_goals
    next h =>
      rw [h] at hc
      exact hc

theorem State.vigilRec_keeps (s : State) (cls w h line v r : Nat) : KeepsBelow 0x600000 s (s.vigilRec cls w h line v r) :=
  .of_logOnly (State.vigilRec_logOnly ..)

theorem State.latchTag_keeps (s : State) (w h : Nat) (l : Latched) : KeepsBelow 0x600000 s (s.latchTag w h l) := by
  unfold State.latchTag
  extract_lets x t old changed fresh newStream adv back x' s1 s2
  have h1 : KeepsBelow 0x600000 s s1 := .of_regs rfl
  have h2 : KeepsBelow 0x600000 s s2 := .ite (h1.putB _ _ (by have := wstate_key w; omega)) h1
  exact .ite (h2.trans (State.vigilRec_keeps ..)) h2

theorem State.seal_keeps (s : State) (u : Nat) : KeepsBelow 0x600000 s (s.seal u) := by
  unfold State.seal
  extract_lets t
  have ht : KeepsBelow 0x600000 s t := .of_regs rfl
  exact ht.trans (.foldl _ _ _ fun _ _ _ => .of_regs rfl)

theorem State.applyWin_keeps (s : State) (u t0 w : Nat) : KeepsBelow 0x600000 s (s.applyWin u t0 w) := by
  unfold State.applyWin
  extract_lets x
  split
  · exact .refl _ s
  · next b _ =>
    split
    · exact .refl _ s
    · split
      · exact .of_regs rfl
      · extract_lets x1 s1 h s2
        have h1 : KeepsBelow 0x600000 s s1 := .of_regs rfl
        have h2 : KeepsBelow 0x600000 s s2 := .ite (h1.trans (State.vigilRec_keeps ..)) h1
        split
        · have h3 := h2.trans (s2.choose_keeps b.words (s2.win w).tag t0)
          generalize s2.choose b.words (s2.win w).tag t0 = q at *
          obtain ⟨_ | l, s3⟩ := q
          · exact h3
          · exact h3.trans (s3.latchTag_keeps ..)
        · exact h2

theorem State.refuseBank_keeps (s : State) (u code h w : Nat) : KeepsBelow 0x600000 s (s.refuseBank u code h w) := by
  unfold State.refuseBank
  extract_lets s1 s2 s3 x
  have h1 : KeepsBelow 0x600000 s s1 := .of_regs rfl
  have h2 : KeepsBelow 0x600000 s s2 :=
    ((h1.put _ _ (by simp only [F.CHEAD_APPLY_STATUS_CODE]; omega)).putB _ _ (by simp only [F.CHEAD_APPLY_STATUS_REFUSED]; omega)).put _ _
      (by simp only [F.CHEAD_APPLY_STATUS_WINDOW]; omega)
  have h3 : KeepsBelow 0x600000 s s3 := (h2.bump _ (by decide)).raise ..
  exact .ite ((h3.setUnit u _).trans (State.seal_keeps ..)) (h3.setUnit u _)

theorem State.countSnuffed_keeps (s : State) (h : Nat) : KeepsBelow 0x600000 s (s.countSnuffed h) :=
  (KeepsBelow.refl _ s).put _ _ (by simp only [F.VIGIL_HSNUFF_COUNT]; omega)

theorem State.applyBank_keeps (s : State) (u t0 : Nat) : KeepsBelow 0x600000 s (s.applyBank u t0) := by
  unfold State.applyBank
  split
  · exact s.refuseBank_keeps ..
  · extract_lets s1 s2 x s3 s4
    have h1 : KeepsBelow 0x600000 s s1 := .foldl _ _ _ fun t w _ => t.applyWin_keeps u t0 w
    have h2 : KeepsBelow 0x600000 s s2 := h1.trans (.foldl _ _ _ fun _ _ _ => .of_regs rfl)
    have h3 : KeepsBelow 0x600000 s s3 := h2.trans (.foldl _ _ _ fun t h _ => t.countSnuffed_keeps h)
    have h4 : KeepsBelow 0x600000 s s4 := h3.setUnit u _
    exact .ite ((h4.setUnit u _).trans (State.seal_keeps ..)) h4

theorem State.applyAtOnce_keeps (s : State) (u : Nat) : KeepsBelow 0x600000 s (s.applyAtOnce u) := by
  unfold State.applyAtOnce
  extract_lets q s1 s2
  have h1 : KeepsBelow 0x600000 s s1 := State.applyBank_keeps ..
  have h2 : KeepsBelow 0x600000 s s2 := .ite (h1.trans (State.applyBank_keeps ..)) h1
  exact h2.setUnit u _

theorem State.unitCease_keeps (s : State) (u : Nat) : KeepsBelow 0x600000 s (s.unitCease u) := by
  unfold State.unitCease
  extract_lets t
  have ht : KeepsBelow 0x600000 s t := .ite (s.applyAtOnce_keeps u) (.refl _ s)
  exact ht.setUnit u _

end Sys2Proof.Machine
end

section
/-! Spans: how they begin and end, and their members (O29; R113 to R115, R576). -/
namespace Sys2Proof.Machine

/-! ### Two fields and their register -/

theorem State.put_bits (s : State) (f : Fld) (n lo : Nat) : s.put f (bits n lo f.w) = s.put f (n / 2 ^ lo) := by
  simp only [State.put, Fld.ins, bits, Nat.mod_mod]

theorem State.on_put_ne (s : State) {f g : Fld} {v : Nat} (h : g.key ≠ f.key) (hg : isCtxOwn g.key = false) : (s.put f v).on g = s.on g :=
  State.on_of_get (State.get_put_ne _ _ _ _ h hg)

theorem State.on_putB_ne (s : State) {f g : Fld} {b : Bool} (h : g.key ≠ f.key) (hg : isCtxOwn g.key = false) : (s.putB f b).on g = s.on g :=
  s.on_put_ne h hg

/-! ### What stays beside one register of the raster -/

/-- The registers below 0x600000 other than the one at `key` stand in `t` as in `s`, and so do the fuses, the timebases and
the time. -/
structure Beside (key : Nat) (s t : State) : Prop where
  reg : ∀ k < 0x600000, k ≠ key → t.reg k = s.reg k
  fuses : t.fuses = s.fuses
  clockwork : t.clockwork = s.clockwork

namespace Beside

variable {key : Nat} {s t : State}

theorem refl (key : Nat) (s : State) : Beside key s s := ⟨fun _ _ _ => rfl, rfl, rfl⟩

theorem put (a : Beside key s t) {f : Fld} (v : Nat) (hf : f.key = key) : Beside key s (t.put f v) := by
  refine ⟨fun k hk hne => (State.reg_setReg_ne _ _ _ _ ?_ (isCtxOwn_below ?_)).trans (a.reg k hk hne), a.fuses, a.clockwork⟩
  · rwa [hf]
  · omega

theorem logOnly (a : Beside key s t) {u : State} (h : LogOnly t u) : Beside key s u := by
  refine ⟨fun k hk hne => (h.reg k ?_ (isCtxOwn_below ?_)).trans (a.reg k hk hne), h.fuses.trans a.fuses, h.clockwork.trans a.clockwork⟩
  all_goals omega

variable (a : Beside key s t)
include a

theorem get {f : Fld} (hf : f.key < 0x600000) (hne : f.key ≠ key) : t.get f = s.get f := congrArg f.of (a.reg _ hf hne)

theorem spanOf {h : Nat} (hf : (F.HEAD_GL_STATE_MEMBER h).key < 0x600000) (hne : (F.HEAD_GL_STATE_MEMBER h).key ≠ key) :
    t.spanOf h = s.spanOf h := State.spanOf_of_reg (a.reg _ hf hne)

end Beside

theorem mem_members {s : State} {p h : Nat} (hm : h ∈ s.members p) : h < 48 := List.mem_range.1 (List.mem_of_mem_filter hm)

/-! #### Beside a register of a span -/

/-- The key of a register of span `p` other than its members: CTRL or STATUS. -/
def IsSpanKey (p key : Nat) : Prop := key = (F.SPAN_CTRL_ENABLE p).key ∨ key = (F.SPAN_STATUS_MASTER p).key

section
variable {p key : Nat} {s t : State} (a : Beside key s t) (hk : IsSpanKey p key) (hp : p < 16)
include a hk hp

theorem Beside.members : t.members p = s.members p := by
  have hne : (F.SPAN_MEMBERS_LO p).key ≠ key ∧ (F.SPAN_MEMBERS_HI p).key ≠ key := by
    obtain rfl | rfl := hk
    all_goals
      simp only [F.SPAN_MEMBERS_LO, F.SPAN_MEMBERS_HI, F.SPAN_CTRL_ENABLE, F.SPAN_STATUS_MASTER]
      omega
  have hlo : t.get (F.SPAN_MEMBERS_LO p) = s.get (F.SPAN_MEMBERS_LO p) := a.get (by simp only [F.SPAN_MEMBERS_LO]; omega) hne.1
  have hhi : t.get (F.SPAN_MEMBERS_HI p) = s.get (F.SPAN_MEMBERS_HI p) := a.get (by simp only [F.SPAN_MEMBERS_HI]; omega) hne.2
  exact List.filter_congr fun h _ => by rw [State.hasHead_of_fuses a.fuses, State.bit, State.bit, hlo, hhi, State.bit, State.bit]

omit hp in
theorem Beside.head_spanOf {h : Nat} (hh : h < 48) : t.spanOf h = s.spanOf h := by
  refine a.spanOf (by simp only [F.HEAD_GL_STATE_MEMBER]; omega) ?_
  obtain rfl | rfl := hk
  all_goals
    simp only [F.HEAD_GL_STATE_MEMBER, F.SPAN_CTRL_ENABLE, F.SPAN_STATUS_MASTER]
    omega

omit hp in
theorem Beside.head_enabled {h : Nat} (hh : h < 48) : t.enabled h = s.enabled h := by
  refine State.on_of_get (a.get (by simp only [F.HEAD_CFG_ENABLE]; omega) ?_)
  obtain rfl | rfl := hk
  all_goals
    simp only [F.HEAD_CFG_ENABLE, F.SPAN_CTRL_ENABLE, F.SPAN_STATUS_MASTER]
    omega

theorem Beside.any_enabled : (t.members p).any t.enabled = (s.members p).any s.enabled := by
  rw [a.members hk hp, Bool.eq_iff_iff, List.any_eq_true, List.any_eq_true]
  exact exists_congr fun h => and_congr_right fun hm => by rw [a.head_enabled hk (mem_members hm)]

end

/-! ### Records of a span (R129) -/

theorem State.spanRec_logOnly (s : State) (cls p code : Nat) : LogOnly s (s.spanRec cls p code) := State.raise_logOnly ..

theorem LogOnly.span_ctrl {s t : State} (h : LogOnly s t) {p : Nat} (hp : p < 16) :
    t.on (F.SPAN_CTRL_ENABLE p) = s.on (F.SPAN_CTRL_ENABLE p) ∧ t.get (F.SPAN_CTRL_DEADLINE p) = s.get (F.SPAN_CTRL_DEADLINE p) := by
  refine ⟨State.on_of_get (h.get _ ?_ (isCtxOwn_below ?_)), h.get _ ?_ (isCtxOwn_below ?_)⟩
  all_goals
    simp only [F.SPAN_CTRL_ENABLE, F.SPAN_CTRL_DEADLINE]
    omega

/-- The newest record is of class 0x47 and carries the code. -/
def SpanLogs (t : State) (code : Nat) : Prop := ∃ r ∈ t.log.recent.head?, r.cls = 0x47 ∧ r.detail / 2 ^ 24 = code

theorem State.spanRec_logs (s : State) (p code : Nat) : SpanLogs (s.spanRec 0x47 p code) code := by
  obtain ⟨r, hr, hcls, _, _, hdet⟩ := State.raise_newest ..
  refine ⟨r, hr, hcls, ?_⟩
  rw [hdet, rasterDet]
  omega

/-! ### A step for each member -/

/-- A fold over a list with `g` in it reaches what the step of `g` reaches and no other step undoes. -/
theorem foldl_settles {P : State → Prop} {f : State → Nat → State} {g : Nat} (hset : ∀ s, P (f s g)) {l : List Nat}
    (hkeep : ∀ s, ∀ a ∈ l, a ≠ g → P s → P (f s a)) (hg : g ∈ l) (s : State) : P (l.foldl f s) := by
  have hall (t : State) (a : Nat) (ha : a ∈ l) (ht : P t) : P (f t a) := by
    by_cases hag : a = g
    · exact hag ▸ hset t
    · exact hkeep t a ha hag ht
  obtain ⟨l₁, l₂, rfl⟩ := List.append_of_mem hg
  rw [List.foldl_append, List.foldl_cons]
  refine List.foldlRecOn (motive := P) l₂ f (hset _) fun t ht a ha => hall t a ?_ ht
  simp [ha]

/-- GL_STATE of head `h` names the span `p`, or none. -/
def State.setSpan (s : State) (h p : Nat) (on : Bool) : State := (s.putB (F.HEAD_GL_STATE_MEMBER h) on).put (F.HEAD_GL_STATE_SPAN h) p

theorem State.setSpan_tb (s : State) (h p : Nat) (on : Bool) (g : Nat) : (s.setSpan h p on).tb g = s.tb g := rfl

theorem State.setSpan_reg (s : State) (h p : Nat) (on : Bool) {k : Nat} (hk : k < 0x600000) (hne : k ≠ (F.HEAD_GL_STATE_MEMBER h).key) :
    (s.setSpan h p on).reg k = s.reg k :=
  (((Beside.refl _ s).put (f := F.HEAD_GL_STATE_MEMBER h) _ rfl).put (f := F.HEAD_GL_STATE_SPAN h) _ rfl).reg k hk hne

theorem State.setSpan_spanOf_same (s : State) (h : Nat) {p : Nat} (hp : p < 16) (on : Bool) :
    (s.setSpan h p on).spanOf h = if on then some p else none := by
  have hon : (s.setSpan h p on).on (F.HEAD_GL_STATE_MEMBER h) = on := by
    rw [State.setSpan, State.on_put_disj _ (F.HEAD_GL_STATE_SPAN h) (F.HEAD_GL_STATE_MEMBER h) _ (by decide : 4 + 4 ≤ 32) rfl
      (by decide : 4 + 4 ≤ 8 ∨ 8 + 1 ≤ 4)]
    exact State.on_putB_same _ _ _ rfl (by decide : 8 + 1 ≤ 32)
  have hspan : (s.setSpan h p on).get (F.HEAD_GL_STATE_SPAN h) = p :=
    (State.get_put_same _ (F.HEAD_GL_STATE_SPAN h) p (by decide : 4 + 4 ≤ 32)).trans (Nat.mod_eq_of_lt hp)
  rw [State.spanOf, hon, hspan]

theorem State.setSpan_spanOf_ne (s : State) {g h : Nat} (hg : g < 48) (hne : h ≠ g) (p : Nat) (on : Bool) :
    (s.setSpan h p on).spanOf g = s.spanOf g := by
  refine State.spanOf_of_reg (s.setSpan_reg h p on ?_ ?_)
  all_goals
    simp only [F.HEAD_GL_STATE_MEMBER]
    omega

/-! ### The start of a span (R113, R115, R576) -/

theorem State.moveWins_keeps (s : State) (u : Nat) (f : Nat → Nat) : KeepsBelow 0x600000 s (s.moveWins u f) := .of_regs rfl

/-- The unit of span `p` has taken over from its members'. -/
def State.spanTakes (s : State) (p : Nat) : State := (s.members p).foldl (fun s h => (s.unitCease h).moveWins h (fun _ => 48 + p)) s

theorem State.spanTakes_keeps (s : State) (p : Nat) : KeepsBelow 0x600000 s (s.spanTakes p) :=
  .foldl _ _ _ fun t h _ => (t.unitCease_keeps h).trans (State.moveWins_keeps ..)

/-- Span `p` is enabled in its own registers. -/
def State.spanBegun (s : State) (p : Nat) : State :=
  (((s.spanTakes p).setUnit (48 + p) {}).putB (F.SPAN_CTRL_ENABLE p) true).put (F.SPAN_STATUS_MASTER p) ((s.members p).head?.getD 0)

theorem State.spanOn_eq (s : State) (p : Nat) : s.spanOn p = (s.members p).foldl (fun t h => t.setSpan h p true) (s.spanBegun p) := rfl

theorem spanKeys {p : Nat} (hp : p < 16) : (F.SPAN_CTRL_ENABLE p).key < 0x600000 ∧ (F.SPAN_STATUS_MASTER p).key < 0x600000 ∧
    (F.SPAN_CTRL_ENABLE p).key ≠ (F.SPAN_STATUS_MASTER p).key ∧
    ∀ h < 48, (F.SPAN_CTRL_ENABLE p).key ≠ (F.HEAD_GL_STATE_MEMBER h).key ∧
      (F.SPAN_STATUS_MASTER p).key ≠ (F.HEAD_GL_STATE_MEMBER h).key := by
  simp only [F.SPAN_CTRL_ENABLE, F.SPAN_STATUS_MASTER, F.HEAD_GL_STATE_MEMBER]
  refine ⟨by omega, by omega, by omega, fun h _ => ?_⟩
  omega

section
variable {p : Nat} (hp : p < 16) (s : State)
include hp

/-- What CTRL and STATUS of the span hold is settled before the members are marked. -/
theorem State.spanOn_get {f : Fld} (hf : IsSpanKey p f.key) : (s.spanOn p).get f = (s.spanBegun p).get f := by
  obtain ⟨hctrl, hstatus, _, hgl⟩ := spanKeys hp
  rw [State.spanOn_eq]
  refine List.foldlRecOn (motive := fun t : State => t.get f = (s.spanBegun p).get f) _ _ rfl fun t ht h hh => ?_
  obtain ⟨hglctrl, hglstatus⟩ := hgl h (mem_members hh)
  refine (congrArg f.of ?_).trans ht
  obtain hf | hf := hf
  · exact t.setSpan_reg h p true (hf ▸ hctrl) (hf ▸ hglctrl)
  · exact t.setSpan_reg h p true (hf ▸ hstatus) (hf ▸ hglstatus)

theorem State.spanOn_enable : (s.spanOn p).on (F.SPAN_CTRL_ENABLE p) = true := by
  obtain ⟨hctrl, _, hne, _⟩ := spanKeys hp
  rw [State.on_of_get (s.spanOn_get hp (.inl rfl)), State.spanBegun, State.on_put_ne _ hne (isCtxOwn_below (by omega))]
  exact State.on_putB_same _ _ _ rfl (by decide : 0 + 1 ≤ 32)

theorem State.spanOn_deadline : (s.spanOn p).get (F.SPAN_CTRL_DEADLINE p) = s.get (F.SPAN_CTRL_DEADLINE p) := by
  obtain ⟨hctrl, _, hne, _⟩ := spanKeys hp
  have hctrl : (F.SPAN_CTRL_DEADLINE p).key < 0x600000 := hctrl
  have hne : (F.SPAN_CTRL_DEADLINE p).key ≠ (F.SPAN_STATUS_MASTER p).key := hne
  rw [s.spanOn_get hp (f := F.SPAN_CTRL_DEADLINE p) (.inl rfl), State.spanBegun,
    State.get_put_ne _ (F.SPAN_STATUS_MASTER p) _ _ hne (isCtxOwn_below (by omega)),
    State.putB, State.get_put_disj _ (F.SPAN_CTRL_ENABLE p) (F.SPAN_CTRL_DEADLINE p) _ (by decide : 0 + 1 ≤ 32) rfl
      (by decide : 0 + 1 ≤ 16 ∨ 16 + 14 ≤ 0), State.setUnit_get]
  exact (s.spanTakes_keeps p).get _ hctrl (by omega)

theorem State.spanOn_master : (s.spanOn p).get (F.SPAN_STATUS_MASTER p) = (s.members p).head?.getD 0 % 2 ^ 6 :=
  (s.spanOn_get hp (.inr rfl)).trans (State.get_put_same _ _ _ (by decide : 0 + 6 ≤ 32))

theorem State.spanOn_count : (s.spanOn p).get (F.SPAN_STATUS_COUNT p) = s.get (F.SPAN_STATUS_COUNT p) := by
  obtain ⟨_, hstatus, hne, _⟩ := spanKeys hp
  have hstatus : (F.SPAN_STATUS_COUNT p).key < 0x600000 := hstatus
  have hne : (F.SPAN_STATUS_COUNT p).key ≠ (F.SPAN_CTRL_ENABLE p).key := hne.symm
  rw [s.spanOn_get hp (f := F.SPAN_STATUS_COUNT p) (.inr rfl), State.spanBegun,
    State.get_put_disj _ (F.SPAN_STATUS_MASTER p) (F.SPAN_STATUS_COUNT p) _ (by decide : 0 + 6 ≤ 32) rfl (by decide : 0 + 6 ≤ 8 ∨ 8 + 6 ≤ 0),
    State.putB, State.get_put_ne _ (F.SPAN_CTRL_ENABLE p) _ _ hne (isCtxOwn_below (by omega)), State.setUnit_get]
  exact (s.spanTakes_keeps p).get _ hstatus (by omega)

theorem State.spanOn_spanOf {h : Nat} (hh : h ∈ s.members p) : (s.spanOn p).spanOf h = some p := by
  rw [State.spanOn_eq]
  exact foldl_settles (P := fun t : State => t.spanOf h = some p) (f := fun t h => t.setSpan h p true) (fun t => t.setSpan_spanOf_same h hp true)
    (fun t g _ hne ht => (t.setSpan_spanOf_ne (mem_members hh) hne p true).trans ht) hh _

end

/-! ### The end of a span (R114, R115, R576) -/

/-- Head `h` leaves its span; its timebase goes on from the position of `m`. -/
def State.leaveSpan (s : State) (m : Timebase) (h : Nat) : State :=
  let b := s.tb h
  let s := (s.setUnit h {}).setTb h { b with
    fseq := m.fseq, line := m.line, lineAt := m.lineAt, lineT64 := m.lineT64, lineLen := m.lineLen, carry := m.carry, succ := m.succ
    fresh := m.fresh, timing := { m.timing with hactive := b.timing.hactive, htotal := b.timing.htotal } }
  s.setSpan h 0 false

theorem State.spanOff_eq (s : State) (p : Nat) : s.spanOff p =
    (((((s.members p).foldl (fun t h => t.leaveSpan (s.tb (s.get (F.SPAN_STATUS_MASTER p))) h)
      ((s.unitCease (48 + p)).moveWins (48 + p) (fun h => h))).putB (F.SPAN_CTRL_ENABLE p) false).putB (F.SPAN_COMMIT_LATE p) false).put
        (F.SPAN_STATUS_MASTER p) 0) := rfl

/-- Head `h` is in no span, and its timebase is at the frame and the line of `m`. -/
structure Released (m : Timebase) (h : Nat) (t : State) : Prop where
  spanOf : t.spanOf h = none
  fseq : (t.tb h).fseq = m.fseq
  line : (t.tb h).line = m.line

theorem State.leaveSpan_released (s : State) (m : Timebase) (h : Nat) : Released m h (s.leaveSpan m h) := by
  refine ⟨State.setSpan_spanOf_same _ h (by decide) false, ?_, ?_⟩
  all_goals
    unfold State.leaveSpan
    dsimp only
    rw [State.setSpan_tb, State.tb_setTb_same]

theorem Released.leaveSpan {m : Timebase} {g h : Nat} {t : State} (ht : Released m g t) (hg : g < 48) (hne : h ≠ g) :
    Released m g (t.leaveSpan m h) := by
  refine ⟨(State.setSpan_spanOf_ne _ hg hne 0 false).trans ht.spanOf, ?_, ?_⟩
  · exact (congrArg Timebase.fseq (State.tb_setTb_ne _ _ _ _ hne.symm)).trans ht.fseq
  · exact (congrArg Timebase.line (State.tb_setTb_ne _ _ _ _ hne.symm)).trans ht.line

theorem Released.put {m : Timebase} {h : Nat} {t : State} (ht : Released m h t) {f : Fld} (v : Nat) (hh : (F.HEAD_GL_STATE_MEMBER h).key < 0x600000)
    (hf : (F.HEAD_GL_STATE_MEMBER h).key ≠ f.key) : Released m h (t.put f v) :=
  ⟨(((Beside.refl f.key t).put v rfl).spanOf hh hf).trans ht.spanOf, ht.fseq, ht.line⟩

section
variable {p : Nat} (hp : p < 16) (s : State)
include hp

theorem State.spanOff_enable : (s.spanOff p).on (F.SPAN_CTRL_ENABLE p) = false := by
  have hlate : (F.SPAN_CTRL_ENABLE p).key ≠ (F.SPAN_COMMIT_LATE p).key := by
    simp only [F.SPAN_CTRL_ENABLE, F.SPAN_COMMIT_LATE]
    omega
  obtain ⟨hctrl, _, hne, _⟩ := spanKeys hp
  have hlt : (F.SPAN_CTRL_ENABLE p).key < 0xA80000 := by omega
  rw [State.spanOff_eq, State.on_put_ne _ hne (isCtxOwn_below hlt), State.on_putB_ne _ hlate (isCtxOwn_below hlt)]
  exact State.on_putB_same _ _ _ rfl (by decide : 0 + 1 ≤ 32)

omit hp in
theorem State.spanOff_released {h : Nat} (hh : h ∈ s.members p) : Released (s.tb (s.get (F.SPAN_STATUS_MASTER p))) h (s.spanOff p) := by
  have hlt := mem_members hh
  have hkeys : (F.HEAD_GL_STATE_MEMBER h).key < 0x600000 ∧ (F.HEAD_GL_STATE_MEMBER h).key ≠ (F.SPAN_CTRL_ENABLE p).key ∧
      (F.HEAD_GL_STATE_MEMBER h).key ≠ (F.SPAN_COMMIT_LATE p).key ∧ (F.HEAD_GL_STATE_MEMBER h).key ≠ (F.SPAN_STATUS_MASTER p).key := by
    simp only [F.HEAD_GL_STATE_MEMBER, F.SPAN_CTRL_ENABLE, F.SPAN_COMMIT_LATE, F.SPAN_STATUS_MASTER]
    omega
  obtain ⟨hgl, hctrl, hlate, hstatus⟩ := hkeys
  rw [State.spanOff_eq]
  refine ((Released.put ?_ _ hgl hctrl).put _ hgl hlate).put _ hgl hstatus
  exact foldl_settles (f := fun t h => t.leaveSpan (s.tb (s.get (F.SPAN_STATUS_MASTER p))) h) (fun t => t.leaveSpan_released _ h)
    (fun t g _ hne ht => ht.leaveSpan hlt hne) hh _

end

/-! ### CTRL and MEMBERS of a span (R113, R114) -/

/-- FHOLD and DEADLINE of span `p` as a write of CTRL gives them. -/
def State.spanTimes (s : State) (p n : Nat) : State := (s.put (F.SPAN_CTRL_FHOLD p) (n / 2 ^ 4)).put (F.SPAN_CTRL_DEADLINE p) (n / 2 ^ 16)

theorem State.spanTimes_beside (s : State) (p n : Nat) : Beside (F.SPAN_CTRL_ENABLE p).key s (s.spanTimes p n) :=
  ((Beside.refl _ s).put (f := F.SPAN_CTRL_FHOLD p) _ rfl).put (f := F.SPAN_CTRL_DEADLINE p) _ rfl

theorem State.put_fhold_enable (s : State) (p v : Nat) : (s.put (F.SPAN_CTRL_FHOLD p) v).on (F.SPAN_CTRL_ENABLE p) = s.on (F.SPAN_CTRL_ENABLE p) :=
  s.on_put_disj (F.SPAN_CTRL_FHOLD p) (F.SPAN_CTRL_ENABLE p) v (by decide : 4 + 2 ≤ 32) rfl (by decide : 4 + 2 ≤ 0 ∨ 0 + 1 ≤ 4)

theorem State.spanTimes_enable (s : State) (p n : Nat) : (s.spanTimes p n).on (F.SPAN_CTRL_ENABLE p) = s.on (F.SPAN_CTRL_ENABLE p) := by
  rw [State.spanTimes, State.on_put_disj _ (F.SPAN_CTRL_DEADLINE p) (F.SPAN_CTRL_ENABLE p) _ (by decide : 16 + 14 ≤ 32) rfl
    (by decide : 16 + 14 ≤ 0 ∨ 0 + 1 ≤ 16), State.put_fhold_enable]

theorem State.spanTimes_deadline (s : State) (p n : Nat) : (s.spanTimes p n).get (F.SPAN_CTRL_DEADLINE p) = n / 2 ^ 16 % 2 ^ 14 :=
  State.get_put_same _ _ _ (by decide : 16 + 14 ≤ 32)

theorem State.wrSpanCtrl_begin {s : State} {p : Nat} {v : Word} (hen : s.on (F.SPAN_CTRL_ENABLE p) = false) (hb : bitAt v.toNat 0 = true) :
    s.wrSpanCtrl p v = let z := s.spanTimes p v.toNat
      if z.spanCode p ≠ 0 then z.spanRec 0x47 p (z.spanCode p) else z.spanOn p := by
  have hfhold (t : State) : t.put (F.SPAN_CTRL_FHOLD p) (bits v.toNat 4 2) = t.put (F.SPAN_CTRL_FHOLD p) (v.toNat / 2 ^ 4) := State.put_bits ..
  have hdeadline (t : State) : t.put (F.SPAN_CTRL_DEADLINE p) (bits v.toNat 16 14) = t.put (F.SPAN_CTRL_DEADLINE p) (v.toNat / 2 ^ 16) :=
    State.put_bits ..
  unfold State.wrSpanCtrl State.spanTimes
  simp only [hen, hb, hfhold, hdeadline, Bool.not_false, Bool.not_true, Bool.and_self, Bool.false_eq_true, if_true, if_false,
    bne_iff_ne]

theorem State.wrSpanCtrl_end {s : State} {p : Nat} {v : Word} (hp : p < 16) (hen : s.on (F.SPAN_CTRL_ENABLE p) = true)
    (hb : bitAt v.toNat 0 = false) :
    ∃ t, Beside (F.SPAN_CTRL_ENABLE p).key s t ∧ t.on (F.SPAN_CTRL_ENABLE p) = true ∧
      s.wrSpanCtrl p v = if (t.members p).any t.enabled then t.spanRec 0x47 p 7 else t.spanOff p := by
  let s1 := s.put (F.SPAN_CTRL_FHOLD p) (bits v.toNat 4 2)
  have h1 : Beside (F.SPAN_CTRL_ENABLE p).key s s1 := (Beside.refl _ s).put (f := F.SPAN_CTRL_FHOLD p) _ rfl
  have hen1 : s1.on (F.SPAN_CTRL_ENABLE p) = true := (s.put_fhold_enable p _).trans hen
  let t := if bits v.toNat 16 14 = s1.get (F.SPAN_CTRL_DEADLINE p) then s1 else s1.spanRec 0x47 p 6
  have hlog : LogOnly s1 t := by
    unfold t
    split
    · exact .refl s1
    · exact s1.spanRec_logOnly ..
  refine ⟨t, h1.logOnly hlog, (hlog.span_ctrl hp).1.trans hen1, ?_⟩
  unfold State.wrSpanCtrl
  simp only [hen, hb, Bool.not_false, Bool.not_true, Bool.and_self, Bool.false_eq_true, if_true, if_false]
  rfl

section
variable {s : State} {i : Initiator} {p : Fin 16} {v : Word}

theorem reaches_spanEnable (ha : Admits s i (F.SPAN_CTRL_ENABLE p).key) (hb : bitAt v.toNat 0 = true)
    (hen : s.on (F.SPAN_CTRL_ENABLE p) = false) :
    let c := (s.spanTimes p v.toNat).spanCode p
    Reaches (.spanEnable i p v) s (fun t => t.get (F.SPAN_CTRL_DEADLINE p) = v.toNat / 2 ^ 16 % 2 ^ 14 ∧
      (t.on (F.SPAN_CTRL_ENABLE p) = true ↔ c = 0) ∧
      (c = 0 → t.get (F.SPAN_STATUS_MASTER p) = (s.members p).head?.getD 0 % 2 ^ 6 ∧
        t.get (F.SPAN_STATUS_COUNT p) = s.get (F.SPAN_STATUS_COUNT p) ∧ ∀ h ∈ s.members p, t.spanOf h = some p.val) ∧
      (c ≠ 0 → SpanLogs t c)) := by
  intro c
  have hz := s.spanTimes_beside p v.toNat
  have hmembers := hz.members (p := p) (.inl rfl) p.isLt
  have hdeadline := s.spanTimes_deadline p v.toNat
  obtain ⟨_, hstatus, hne, _⟩ := spanKeys p.isLt
  refine ⟨_, congrArg Host.Outcome.next ((State.asWrite_admitted v _ ha).trans (State.wrSpanCtrl_begin hen hb)), ?_⟩
  dsimp only
  by_cases hc : c = 0
  · rw [if_neg (not_not.2 hc)]
    refine ⟨(State.spanOn_deadline p.isLt _).trans hdeadline, iff_of_true (State.spanOn_enable p.isLt _) hc, fun _ => ⟨?_, ?_, fun h hh => ?_⟩,
      fun hn => absurd hc hn⟩
    · rw [State.spanOn_master p.isLt, hmembers]
    · exact (State.spanOn_count p.isLt _).trans (hz.get (f := F.SPAN_STATUS_COUNT p) hstatus hne.symm)
    · exact State.spanOn_spanOf p.isLt _ (hmembers ▸ hh)
  · rw [if_pos hc]
    obtain ⟨henabled, hdl⟩ := ((s.spanTimes p v.toNat).spanRec_logOnly 0x47 p c).span_ctrl p.isLt
    refine ⟨hdl.trans hdeadline, iff_of_false ?_ hc, fun h => absurd h hc, fun _ => State.spanRec_logs ..⟩
    rw [henabled, State.spanTimes_enable, hen]
    exact Bool.false_ne_true

section
variable (ha : Admits s i (F.SPAN_CTRL_ENABLE p).key) (hb : bitAt v.toNat 0 = false) (hen : s.on (F.SPAN_CTRL_ENABLE p) = true)
include ha hb hen

theorem reaches_spanDisable (hoff : (s.members p).any s.enabled = false) :
    Reaches (.spanDisable i p v) s (fun t => t.on (F.SPAN_CTRL_ENABLE p) = false ∧
      ∀ h ∈ s.members p, Released (s.tb (s.get (F.SPAN_STATUS_MASTER p))) h t) := by
  obtain ⟨t, ht, _, heq⟩ := State.wrSpanCtrl_end (v := v) p.isLt hen hb
  obtain ⟨_, hstatus, hne, _⟩ := spanKeys p.isLt
  have hmaster : t.tb (t.get (F.SPAN_STATUS_MASTER p)) = s.tb (s.get (F.SPAN_STATUS_MASTER p)) := by
    rw [ht.get hstatus hne.symm, State.tb_of_clockwork ht.clockwork]
  rw [if_neg (by simp [ht.any_enabled (.inl rfl) p.isLt, hoff])] at heq
  refine ⟨t.spanOff p, congrArg Host.Outcome.next ((State.asWrite_admitted v _ ha).trans heq), State.spanOff_enable p.isLt t, fun h hh => ?_⟩
  exact hmaster ▸ t.spanOff_released (ht.members (.inl rfl) p.isLt ▸ hh)

theorem reaches_spanDisable_refused (hon : (s.members p).any s.enabled = true) :
    Reaches (.spanDisable i p v) s (fun t => t.on (F.SPAN_CTRL_ENABLE p) = true ∧ SpanLogs t 7 ∧ ∀ h < 48, t.spanOf h = s.spanOf h) := by
  obtain ⟨t, ht, hent, heq⟩ := State.wrSpanCtrl_end (v := v) p.isLt hen hb
  rw [if_pos (by rw [ht.any_enabled (.inl rfl) p.isLt, hon])] at heq
  have hlog := t.spanRec_logOnly 0x47 p 7
  exact ⟨t.spanRec 0x47 p 7, congrArg Host.Outcome.next ((State.asWrite_admitted v _ ha).trans heq), (hlog.span_ctrl p.isLt).1.trans hent,
    State.spanRec_logs .., fun h hh => (ht.logOnly hlog).head_spanOf (.inl rfl) hh⟩

end

section
variable (ha : Admits s i (F.SPAN_MEMBERS_LO p).key)
include ha

theorem reaches_spanMembersWrite (hen : s.on (F.SPAN_CTRL_ENABLE p) = false) :
    Reaches (.spanMembersWrite i p 0 v) s (fun t => t.get (F.SPAN_MEMBERS_LO p) = v.toNat &&& (2 ^ s.nHeads - 1) ∧
      t.get (F.SPAN_STATUS_COUNT p) = (t.members p).length % 2 ^ 6 ∧ OnlyRegs [(F.SPAN_MEMBERS_LO p).key, (F.SPAN_STATUS_COUNT p).key] s t) := by
  let s1 := s.put (F.SPAN_MEMBERS_LO p) (v.toNat &&& (2 ^ s.nHeads - 1))
  have hkeys : (F.SPAN_MEMBERS_LO p).key ≠ (F.SPAN_STATUS_COUNT p).key ∧ (F.SPAN_MEMBERS_LO p).key < 0xA80000 := by
    simp only [F.SPAN_MEMBERS_LO, F.SPAN_STATUS_COUNT]
    omega
  have heq : s.wrSpan p 0 v = s1.put (F.SPAN_STATUS_COUNT p) (s1.members p).length := by
    simp [State.wrSpan, hen, State.headMask, s1]
  have hcount : Beside (F.SPAN_STATUS_COUNT p).key s1 (s1.put (F.SPAN_STATUS_COUNT p) (s1.members p).length) := (Beside.refl _ s1).put _ rfl
  refine ⟨_, congrArg Host.Outcome.next ((State.asWrite_admitted v _ ha).trans heq), ?_, ?_, rfl, fun k hk => ?_⟩
  · rw [State.get_put_ne _ _ _ _ hkeys.1 (isCtxOwn_below hkeys.2), State.get_put_same _ _ _ (by decide : 0 + 32 ≤ 32)]
    exact Nat.mod_eq_of_lt (lt_of_le_of_lt Nat.and_le_left v.isLt)
  · rw [State.get_put_same _ _ _ (by decide : 8 + 6 ≤ 32), hcount.members (p := p) (.inr rfl) p.isLt]
    rfl
  · rw [List.mem_cons, List.mem_singleton, not_or] at hk
    exact (tabGet?_tabSet_ne _ _ _ _ hk.2).trans (tabGet?_tabSet_ne _ _ _ _ hk.1)

theorem reaches_spanMembersWrite_refused (hen : s.on (F.SPAN_CTRL_ENABLE p) = true) :
    Reaches (.spanMembersWrite i p 0 v) s (fun t => OnlyLogged [] s t ∧ SpanLogs t 6) := by
  have heq : s.wrSpan p 0 v = s.spanRec 0x47 p 6 := by simp [State.wrSpan, hen]
  exact ⟨_, congrArg Host.Outcome.next ((State.asWrite_admitted v _ ha).trans heq), (s.spanRec_logOnly ..).onlyLogged_nil, State.spanRec_logs ..⟩

end
end

end Sys2Proof.Machine
end

section
/-! Frame starts, line starts and spans (O29). The statement holds of the 48 heads (`framesAndLinesOfHeads`). As it is written it says of
every number that a refused end of a span leaves `spanOf` of it alone, and that fails where GL_STATE of a number that is no head's
would lie among the registers of the fault log (`not_framesAndLines`). -/
namespace Sys2Proof.Machine

@[simp] theorem State.advance_hasHead (s : State) (t h : Nat) : (s.advance t).hasHead h = s.hasHead h := rfl

/-! ### Frame starts and line starts of a head (R88 to R92) -/

section
variable {s : State} {h : Fin 48} (time : Nat)

theorem State.advance_lineOver : (s.advance time).lineOver h = decide ((s.tb h).lineAt + (s.tb h).lineLen ≤ s.time.pix + time) := rfl

theorem reaches_frameStart (hhas : s.hasHead h = true) (hm : s.master h = h) (he : (s.tb h).lineAt + (s.tb h).lineLen ≤ s.time.pix + time)
    (hl : (s.tb h).timing.vtotal ≤ (s.tb h).line + 1) (hs : (s.tb h).stepDue = none) (hd : (s.tb h).loadDue = false) :
    Reaches (.frameStart time h) s (RunsAt (((s.tb h).fseq + 1) % 2 ^ 32) 0 ((s.tb h).lineAt + (s.tb h).lineLen) true h) := by
  have hover : (s.advance time).frameOver h = true := by
    rw [State.frameOver, State.advance_lineOver, State.advance_tb, decide_eq_true hl, decide_eq_true he, Bool.and_self]
  exact ⟨_, rfl, State.frameStart_started (s := s.advance time) h.isLt ⟨rfl, hs, hd⟩ hhas hm hover⟩

theorem exec_frameStart_idle
    (hn : s.master h ≠ h ∨ ¬(s.tb h).lineAt + (s.tb h).lineLen ≤ s.time.pix + time ∨ (s.tb h).line + 1 < (s.tb h).timing.vtotal) :
    exec (.frameStart time h) s = .next (s.advance time) := by
  refine congrArg Host.Outcome.next (State.frameStart_idle (hn.imp id fun hn => ?_))
  rw [State.frameOver, State.advance_lineOver, State.advance_tb]
  obtain he | hl := hn
  · rw [decide_eq_false he, Bool.and_false]
  · rw [decide_eq_false (Nat.not_le.2 hl), Bool.false_and]

section
variable (ups : List PixUpset)

/-- LINE_START of a head that runs its own timebase, once its line is over or its frame has started. -/
theorem reaches_lineStart {f n start : Nat} {fr : Bool} (hhas : s.hasHead h = true) (hm : s.master h = h)
    (hr : (s.tb h).fresh = true ∨ (s.tb h).lineAt + (s.tb h).lineLen ≤ s.time.pix + time)
    (ht : RunsAt f n start fr h ((s.advance time).lineBegun h)) : Reaches (.lineStart time h ups) s (RunsAt f n start fr h) :=
  ⟨_, rfl, ht.of_raster (State.lineStart_raster (s := s.advance time) ups hhas hm (hr.imp id decide_eq_true))⟩

theorem reaches_lineStart_frame (hhas : s.hasHead h = true) (hm : s.master h = h) (hf : (s.tb h).fresh = false)
    (he : (s.tb h).lineAt + (s.tb h).lineLen ≤ s.time.pix + time) (hl : (s.tb h).timing.vtotal ≤ (s.tb h).line + 1)
    (hs : (s.tb h).stepDue = none) (hd : (s.tb h).loadDue = false) :
    Reaches (.lineStart time h ups) s (RunsAt (((s.tb h).fseq + 1) % 2 ^ 32) 0 ((s.tb h).lineAt + (s.tb h).lineLen) false h) :=
  have hu : Undue (s.tb h).fseq h (s.advance time) := ⟨rfl, hs, hd⟩
  reaches_lineStart time ups hhas hm (.inr he) (State.lineBegun_frame h.isLt hu hhas hm (decide_eq_true he) hf hl)

theorem reaches_lineStart_next (hhas : s.hasHead h = true) (hm : s.master h = h) (hf : (s.tb h).fresh = false)
    (he : (s.tb h).lineAt + (s.tb h).lineLen ≤ s.time.pix + time) (hl : (s.tb h).line + 1 < (s.tb h).timing.vtotal) :
    Reaches (.lineStart time h ups) s (RunsAt (s.tb h).fseq ((s.tb h).line + 1) ((s.tb h).lineAt + (s.tb h).lineLen) false h) :=
  reaches_lineStart time ups hhas hm (.inr he) (State.lineBegun_next (s := s.advance time) h.isLt hf hl)

theorem exec_lineStart_idle (hm : s.master h = h) (hf : (s.tb h).fresh = false)
    (hn : ¬(s.tb h).lineAt + (s.tb h).lineLen ≤ s.time.pix + time) : exec (.lineStart time h ups) s = .next (s.advance time) :=
  congrArg Host.Outcome.next (State.lineStart_idle (s := s.advance time) ups hm hf (decide_eq_false hn))

theorem Sends.advance {n f : Nat} {c : Line} (hs : Sends h n f c s) : Sends h n f c (s.advance time) :=
  ⟨hs.sending, hs.composes, hs.line, hs.fseq, hs.active, hs.composed, hs.full, hs.no, hs.frame⟩

/-- After a FRAME_START the head keeps line 0, and sends the line composed for it. -/
theorem reaches_lineStart_fresh (hhas : s.hasHead h = true) (hm : s.master h = h) (hf : (s.tb h).fresh = true) :
    Reaches (.lineStart time h ups) s (fun t => RunsAt (s.tb h).fseq (s.tb h).line (s.tb h).lineAt false h t ∧
      ∀ n f c, Sends h n f c s → h.val < 32 → Sent n f c (t.head h).sent) := by
  refine ⟨_, rfl, ?_, fun n f c hs h32 => State.lineStart_sent (hs.advance time) h32 ups hhas fun _ => hf⟩
  exact (State.lineBegun_fresh (s := s.advance time) hf).of_raster (State.lineStart_raster (s := s.advance time) ups hhas hm (.inl hf))

/-- A head that follows its master moves no timebase, and sends the line composed for it. -/
theorem reaches_lineStart_follows (hhas : s.hasHead h = true) (hm : s.master h ≠ h) :
    Reaches (.lineStart time h ups) s (fun t => (∀ g, t.tb g = s.tb g) ∧
      ∀ n f c, Sends h n f c s → h.val < 32 → Sent n f c (t.head h).sent) :=
  ⟨_, rfl, State.lineStart_follows (s := s.advance time) ups hm,
    fun _ _ _ hs h32 => State.lineStart_sent (hs.advance time) h32 ups hhas fun hh => absurd hh hm⟩

end
end

/-! ### The statement of the 48 heads -/

/-- O29 with its clause on a refused end of a span said of the 48 heads, and not of every number. -/
def FramesAndLinesOfHeads : Prop :=
  (∀ (h : Fin 48) (time : Nat) (ups : List PixUpset) (s : State), s.hasHead h = true →
     let z := s.advance time
     let b := s.tb h
     let m := s.tb (s.master h)
     let c := (s.head h).composed
     let endsAt := b.lineAt + b.lineLen
     let ended := endsAt ≤ s.time.pix + time
     let sends := fun (t : State) => h.val < 32 → b.sending = true → s.composes h = true → m.line < m.timing.vactive → c.full = true →
       c.no = m.line → c.fseq = m.fseq →
         (t.head h).sent.no = m.line ∧ (t.head h).sent.fseq = m.fseq ∧ (t.head h).sent.full = true ∧ (t.head h).sent.pix.length = c.pix.length
     (s.master h = h →
       (ended → b.timing.vtotal ≤ b.line + 1 → b.stepDue = none → b.loadDue = false →
         Reaches (.frameStart time h) s (fun t => (t.tb h).fseq = (b.fseq + 1) % 2 ^ 32 ∧ (t.tb h).line = 0 ∧ (t.tb h).lineAt = endsAt ∧
           (t.tb h).fresh = true) ∧
         (b.fresh = false → Reaches (.lineStart time h ups) s (fun t => (t.tb h).fseq = (b.fseq + 1) % 2 ^ 32 ∧ (t.tb h).line = 0 ∧
           (t.tb h).lineAt = endsAt ∧ (t.tb h).fresh = false))) ∧
       (¬ended ∨ b.line + 1 < b.timing.vtotal → exec (.frameStart time h) s = .next z) ∧
       (b.fresh = false → ended → b.line + 1 < b.timing.vtotal → Reaches (.lineStart time h ups) s (fun t => (t.tb h).line = b.line + 1 ∧
         (t.tb h).lineAt = endsAt ∧ (t.tb h).fseq = b.fseq)) ∧
       (b.fresh = false → ¬ended → exec (.lineStart time h ups) s = .next z) ∧
       (b.fresh = true → Reaches (.lineStart time h ups) s (fun t => (t.tb h).line = b.line ∧ (t.tb h).lineAt = b.lineAt ∧
         (t.tb h).fseq = b.fseq ∧ (t.tb h).fresh = false ∧ sends t))) ∧
     (s.master h ≠ h → exec (.frameStart time h) s = .next z ∧
       Reaches (.lineStart time h ups) s (fun t => (∀ g, t.tb g = s.tb g) ∧ sends t))) ∧
  (∀ (i : Initiator) (p : Fin 16) (v : Word) (s : State),
     let n := v.toNat
     let ctl := (F.SPAN_CTRL_ENABLE p).key
     let logs := fun (t : State) (code : Nat) => ∃ r ∈ t.log.recent.head?, r.cls = 0x47 ∧ r.detail / 2 ^ 24 = code
     (Admits s i ctl → n % 2 = 1 → s.on (F.SPAN_CTRL_ENABLE p) = false →
       let z := (s.put (F.SPAN_CTRL_FHOLD p) (n / 2 ^ 4)).put (F.SPAN_CTRL_DEADLINE p) (n / 2 ^ 16)
       Reaches (.spanEnable i p v) s (fun t => t.get (F.SPAN_CTRL_DEADLINE p) = n / 2 ^ 16 % 2 ^ 14 ∧
         (t.on (F.SPAN_CTRL_ENABLE p) = true ↔ z.spanCode p = 0) ∧
         (z.spanCode p = 0 → t.get (F.SPAN_STATUS_MASTER p) = (s.members p).head?.getD 0 % 2 ^ 6 ∧
           t.get (F.SPAN_STATUS_COUNT p) = s.get (F.SPAN_STATUS_COUNT p) ∧ ∀ h ∈ s.members p, t.spanOf h = some p.val) ∧
         (z.spanCode p ≠ 0 → logs t (z.spanCode p)))) ∧
     (Admits s i ctl → n % 2 = 0 → s.on (F.SPAN_CTRL_ENABLE p) = true →
       ((s.members p).any s.enabled = false → Reaches (.spanDisable i p v) s (fun t => t.on (F.SPAN_CTRL_ENABLE p) = false ∧
         ∀ h ∈ s.members p, t.spanOf h = none ∧ (t.tb h).fseq = (s.tb (s.get (F.SPAN_STATUS_MASTER p))).fseq ∧
           (t.tb h).line = (s.tb (s.get (F.SPAN_STATUS_MASTER p))).line)) ∧
       ((s.members p).any s.enabled = true → Reaches (.spanDisable i p v) s (fun t => t.on (F.SPAN_CTRL_ENABLE p) = true ∧ logs t 7 ∧ ∀ h < 48, t.spanOf h = s.spanOf h))) ∧
     (Admits s i (F.SPAN_MEMBERS_LO p).key →
       (s.on (F.SPAN_CTRL_ENABLE p) = false → Reaches (.spanMembersWrite i p 0 v) s (fun t =>
         t.get (F.SPAN_MEMBERS_LO p) = n &&& (2 ^ s.nHeads - 1) ∧ t.get (F.SPAN_STATUS_COUNT p) = (t.members p).length % 2 ^ 6 ∧
         OnlyRegs [(F.SPAN_MEMBERS_LO p).key, (F.SPAN_STATUS_COUNT p).key] s t)) ∧
       (s.on (F.SPAN_CTRL_ENABLE p) = true → Reaches (.spanMembersWrite i p 0 v) s (fun t => OnlyLogged [] s t ∧ logs t 6))))

/-- What O29 says holds of the heads that a part can have. -/
theorem framesAndLinesOfHeads : FramesAndLinesOfHeads := by
  unfold FramesAndLinesOfHeads
  refine ⟨?_, ?_⟩
  · intro h time ups s hhas z b m c endsAt ended sends
    have hsends {t : State} (ht : ∀ n f c, Sends h n f c s → h.val < 32 → Sent n f c (t.head h).sent) : sends t := by
      intro h32 hsending hcomposes hactive hfull hno hfs
      obtain ⟨hsno, hsfs, hsfull, hspix⟩ := ht _ _ _ ⟨hsending, hcomposes, rfl, rfl, hactive, rfl, hfull, hno, hfs⟩ h32
      exact ⟨hsno, hsfs, hsfull, hspix⟩
    refine ⟨fun hm => ⟨fun he hl hs hd => ⟨?_, fun hf => ?_⟩, fun hn => ?_, fun hf he hl => ?_, fun hf he => ?_, fun hf => ?_⟩, fun hm => ⟨?_, ?_⟩⟩
    · obtain ⟨t, ht, hr⟩ := reaches_frameStart time hhas hm he hl hs hd
      exact ⟨t, ht, hr.fseq, hr.line, hr.lineAt, hr.fresh⟩
    · obtain ⟨t, ht, hr⟩ := reaches_lineStart_frame time ups hhas hm hf he hl hs hd
      exact ⟨t, ht, hr.fseq, hr.line, hr.lineAt, hr.fresh⟩
    · exact exec_frameStart_idle time (.inr hn)
    · obtain ⟨t, ht, hr⟩ := reaches_lineStart_next time ups hhas hm hf he hl
      exact ⟨t, ht, hr.line, hr.lineAt, hr.fseq⟩
    · exact exec_lineStart_idle time ups hm hf he
    · obtain ⟨t, ht, hr, hsent⟩ := reaches_lineStart_fresh time ups hhas hm hf
      exact ⟨t, ht, hr.line, hr.lineAt, hr.fseq, hr.fresh, hsends hsent⟩
    · exact exec_frameStart_idle time (.inl hm)
    · obtain ⟨t, ht, htb, hsent⟩ := reaches_lineStart_follows time ups hhas hm
      exact ⟨t, ht, htb, hsends hsent⟩
  · intro i p v s n ctl logs
    have hodd (h : n % 2 = 1) : bitAt n 0 = true := bitAt_eq_true.2 (by rwa [pow_zero, Nat.div_one])
    have heven (h : n % 2 = 0) : bitAt n 0 = false := decide_eq_false (by rw [pow_zero, Nat.div_one, h]; decide)
    refine ⟨fun ha hn hen => reaches_spanEnable ha (hodd hn) hen,
      fun ha hn hen => ⟨fun hoff => ?_, reaches_spanDisable_refused ha (heven hn) hen⟩,
      fun ha => ⟨reaches_spanMembersWrite ha, reaches_spanMembersWrite_refused ha⟩⟩
    obtain ⟨t, ht, hctrl, hreleased⟩ := reaches_spanDisable ha (heven hn) hen hoff
    exact ⟨t, ht, hctrl, fun h hh => ⟨(hreleased h hh).spanOf, (hreleased h hh).fseq, (hreleased h hh).line⟩⟩

/-! ### The refutation -/

/-- Span 0 is enabled with head 0, which is enabled: it cannot be ended. -/
def spanRefusing : State := st [(F.SPAN_MEMBERS_LO 0, 1), (F.SPAN_CTRL_ENABLE 0, 1), (F.HEAD_CFG_ENABLE 0, 1)]

/-- GL_STATE of the number 131,040 would lie at the second word of FAULT.LAST: there the class 0x47 of the refusal reads as MEMBER. -/
theorem spanRefusing_spanOf : (F.HEAD_GL_STATE_MEMBER 131040).key = (F.FAULT_LAST 1).key ∧ spanRefusing.spanOf 131040 = none ∧
    (spanRefusing.wrSpanCtrl 0 0).spanOf 131040 = some 0 := by decide

/-- Refutes O29: a write of CTRL that would end span 0 of `spanRefusing` is refused, and the record of that changes `spanOf` of 131,040,
a number that is no head's. -/
theorem not_framesAndLines : ¬ Obligations.FramesAndLines := by
  unfold Obligations.FramesAndLines
  rintro ⟨_, hspans⟩
  obtain ⟨_, hend, _⟩ := hspans keeper 0 0 spanRefusing
  obtain ⟨_, hrefused⟩ := hend (by decide) (by decide) (by decide)
  obtain ⟨t, ht, _, _, hkept⟩ := hrefused (by decide)
  have hexec : exec (.spanDisable keeper 0 0) spanRefusing = .next (spanRefusing.wrSpanCtrl 0 0) :=
    congrArg Host.Outcome.next (State.asWrite_admitted _ _ (by decide))
  obtain rfl : spanRefusing.wrSpanCtrl 0 0 = t := Host.Outcome.next.inj (hexec.symm.trans ht)
  obtain ⟨_, hbefore, hafter⟩ := spanRefusing_spanOf
  cases hafter.symm.trans ((hkept 131040).trans hbefore)

end Sys2Proof.Machine
end

section
/-! Commits, placements, picks and withholding on a core (O24; R117 to R119, R197 to R203). -/
namespace Sys2Proof.Machine

/-! ### An instruction of a core that waits for its earlier stores (R137, R187) -/

theorem SameBytes.of_mems {s t : State} (h : t.mems = s.mems) : SameBytes s t := by
  simp only [State.mems, Prod.mk.injEq] at h
  obtain ⟨hmem, hseq, _, hdirty⟩ := h
  intro a
  unfold State.coreByte
  rw [hmem, hseq, hdirty]
  exact ⟨rfl, rfl, rfl⟩

/-- With nothing of the engine in flight there is nothing to wait for. -/
theorem State.afterFence_idle {s : State} {e : Eng} (f : State → Act) (h : s.inFlightOf (Eng.key e) = false) : s.afterFence e f = f s := by
  have hnone (q : Access → Bool) : s.bus.inflight.any (fun x => decide (x.src.id.val = Eng.key e) && true && q x) = false := by
    rw [State.inFlightOf, List.any_eq_false] at h
    exact List.any_eq_false.2 fun x hx => by simp [eq_false_of_ne_true (h x hx)]
  have hsome : s.bus.inflight.any (fun x => decide (x.src.id.val = Eng.key e) && true) = false := by simpa using hnone fun _ => true
  unfold State.afterFence State.fenceAll State.complete
  simp only [hnone, hsome, Bool.false_eq_true, if_false]

theorem State.conclude_wrote {t : State} {c : Fin 16} (w d : Nat) (v : Dword) (h : (t.engine c).halting = none) :
    State.conclude (.core c) w (.next (t.setGr c d v)) = t.wrote (.core c) d v := by
  simp only [State.conclude, State.retire, State.setGr, Eng.key, State.engine_setEngine_same, State.setEngine_setEngine, State.wrote]
  exact State.settleHalt_of_none (by rw [State.engine_setEngine_same]; exact (Engine.setG_halting ..).trans h)

/-- An instruction that leaves the state `t`, its engines apart, and writes `v` into D. -/
theorem State.issue_fenced {s t : State} {c : Fin 16} {w d : Nat} {v : Dword} {f : State → Act} (hb : s.boundary (.core c) = none)
    (hq : s.inFlightOf c = false) (hf : f s = .next (t.setGr c d v)) (he : t.eng = s.eng) :
    s.issue (.core c) w .both false (fun s => s.afterFence (.core c) f) = t.wrote (.core c) d v := by
  have hhalt : (t.engine c).halting = none := by rw [State.engine, he]; exact halting_of_boundary hb
  rw [State.issue_of_boundary hb rfl rfl (by simp), State.afterFence_idle f hq, hf]
  exact State.conclude_wrote w d v hhalt

theorem State.wrote_gr_same (s : State) (c : Fin 16) {d : Fin 32} (v : Dword) (h : d ≠ 0) : (s.wrote (.core c) d v).gr c d = v := by
  have hd : d.val ≠ 0 := fun h0 => h (Fin.ext h0)
  simp [State.gr, State.wrote, Eng.key, Engine.setG, hd]

theorem State.wrote_gr_ne (s : State) (c : Fin 16) {d : Fin 32} (v : Dword) {r : Nat} (h : r ≠ d) :
    (s.wrote (.core c) d v).gr c r = s.gr c r := by
  simp only [State.gr, State.wrote, Eng.key, State.engine_setEngine_same, Engine.setG]
  split
  · rfl
  · split
    · rfl
    · rw [tabGet_tabSet_ne _ _ _ _ _ h]

/-- The instruction gives core `c` the value `v` in D, leaves its other registers and every byte, and reaches `p`. -/
def Gives (c : Fin 16) (d : Fin 32) (s : State) (i : Instr) (v : Nat) (p : State → Prop) : Prop :=
  Reaches i s (fun t => (d ≠ 0 → t.gr c d = BitVec.ofNat 64 v) ∧ (∀ r, r ≠ d.val → t.gr c r = s.gr c r) ∧ SameBytes s t ∧ p t)

theorem gives_of_wrote {s t : State} {c : Fin 16} {d : Fin 32} {i : Instr} {v : Nat} {p : State → Prop}
    (hx : exec i s = .next (t.wrote (.core c) d (BitVec.ofNat 64 v))) (he : t.eng = s.eng) (hm : t.mems = s.mems)
    (hp : p (t.wrote (.core c) d (BitVec.ofNat 64 v))) : Gives c d s i v p := by
  refine ⟨_, hx, fun hd => State.wrote_gr_same _ _ _ hd, fun r hr => ?_, .of_mems hm, hp⟩
  rw [State.wrote_gr_ne _ _ _ hr, State.gr, State.engine, he]
  rfl

theorem State.headBarred_keeper {s : State} {c : Fin 16} (hk : (s.engine c).keeper = true) (h : Nat) : s.headBarred (.core c) h = false := by
  simp [State.headBarred, hk]

/-! ### Sealing a bank (R117, R201) -/

theorem tabGet?_map {α : Type} (f : Nat × α → Nat × α) (hf : ∀ e, (f e).1 = e.1) (t : Tab α) (k : Nat) :
    tabGet? (t.map f) k = (tabGet? t k).map (fun x => (f (k, x)).2) := by
  induction t with
  | nil => rfl
  | cons e t ih =>
    obtain ⟨j, a⟩ := e
    have hfe : f (j, a) = (j, (f (j, a)).2) := Prod.ext (hf (j, a)) rfl
    rw [List.map_cons, hfe]
    unfold tabGet?
    split
    · next hj => rw [hj, Option.map_some]
    · exact ih

/-- An image of the windows, window by window; a window that has no entry keeps none. -/
theorem State.win_map (s : State) (f : Nat × Win → Nat × Win) (hf : ∀ e, (f e).1 = e.1) (hd : ∀ k, (f (k, {})).2 = {}) (w : Nat) :
    State.win { s with wins := s.wins.map f } w = (f (w, s.win w)).2 := by
  simp only [State.win, tabGet, tabGet?_map f hf]
  cases tabGet? s.wins w with
  | none => exact (hd w).symm
  | some x => rfl

/-- What becomes of a window when unit `u` seals. -/
def State.sealWin (s : State) (u : Nat) (e : Nat × Win) : Nat × Win :=
  if e.2.unit = some u then (e.1, { e.2 with sealed := some ⟨s.winWords e.1, e.2.openArm, e.2.openRemove⟩, openArm := false }) else e

theorem State.seal_eq (s : State) (u : Nat) : ∃ hs, s.seal u = { s with wins := s.wins.map (s.sealWin u), heads := hs } :=
  List.foldlRecOn (motive := fun t : State => ∃ hs, t = { s with wins := s.wins.map (s.sealWin u), heads := hs }) (s.unitHeads u) _
    ⟨s.heads, rfl⟩ fun _ ht _ _ => by
      obtain ⟨hs, rfl⟩ := ht
      exact ⟨_, rfl⟩

@[simp] theorem State.seal_regs (s : State) (u : Nat) : (s.seal u).regs = s.regs := by obtain ⟨_, h⟩ := s.seal_eq u; rw [h]
@[simp] theorem State.seal_eng (s : State) (u : Nat) : (s.seal u).eng = s.eng := by obtain ⟨_, h⟩ := s.seal_eq u; rw [h]
@[simp] theorem State.seal_units (s : State) (u : Nat) : (s.seal u).units = s.units := by obtain ⟨_, h⟩ := s.seal_eq u; rw [h]
@[simp] theorem State.seal_unit (s : State) (u v : Nat) : (s.seal u).unit v = s.unit v := by simp [State.unit]

theorem State.seal_win (s : State) (u w : Nat) : (s.seal u).win w = (s.sealWin u (w, s.win w)).2 := by
  obtain ⟨_, h⟩ := s.seal_eq u
  rw [h]
  refine State.win_map s _ (fun e => ?_) (fun k => rfl) w
  unfold State.sealWin
  split <;> rfl

/-! ### Commit requests (R117 to R119, R197) -/

section
variable {s : State} {u : Nat} (hoff : s.unitOff u = false)
include hoff

/-- A request that is in time, for a unit without a sealed bank. -/
theorem State.commitReq_seals (hl : s.isLate u = false) (hs : (s.unit u).sealed = false) :
    s.commitReq u = (1, (s.setUnit u { s.unit u with sealed := true, skip := none }).seal u) := by
  simp [State.commitReq, hoff, hl, hs]

theorem State.commitReq_queues (hl : s.isLate u = false) (hs : (s.unit u).sealed = true) (hq : (s.unit u).queued = false) :
    s.commitReq u = (2, s.setUnit u { s.unit u with queued := true }) := by
  simp [State.commitReq, hoff, hl, hs, hq]

theorem State.commitReq_full (hl : s.isLate u = false) (hs : (s.unit u).sealed = true) (hq : (s.unit u).queued = true) :
    s.commitReq u = (10, s) := by
  simp [State.commitReq, hoff, hl, hs, hq]

theorem State.commitReq_late (hl : s.isLate u = true) (hs : (s.unit u).sealed = false) :
    s.commitReq u = (5, ((s.markLate u).setUnit u
      { (s.markLate u).unit u with sealed := true, skip := some (s.tb (s.unitMaster u)).fseq }).seal u) := by
  simp [State.commitReq, hoff, hl, hs]

end

/-- What a late request of a head leaves, before its record. -/
def State.lateMarked (s : State) (u : Nat) : State :=
  let t := (s.putB (F.HEAD_COMMIT_LATE u) true).bump (F.HEAD_LATE_COUNT u)
  t.setUnit u { t.unit u with lateLogged := true }

theorem State.headRec_logOnly (s : State) (cls h code : Nat) : LogOnly s (s.headRec cls h code) := s.raise_logOnly ..

theorem State.markLate_logOnly (s : State) {u : Nat} (hu : u < 48) : LogOnly (s.lateMarked u) (s.markLate u) := by
  unfold State.markLate
  simp only [hu, if_true]
  split
  · exact State.headRec_logOnly ..
  · exact LogOnly.refl _

theorem State.markLate_late (s : State) {u : Nat} (hu : u < 48) : (s.markLate u).on (F.HEAD_COMMIT_LATE u) = true := by
  have hkey : (F.HEAD_COMMIT_LATE u).key < 0x503000 ∧ (F.HEAD_COMMIT_LATE u).key ≠ (F.HEAD_LATE_COUNT u).key ∧
      0x500000 ≤ (F.HEAD_COMMIT_LATE u).key := by
    simp only [F.HEAD_COMMIT_LATE, F.HEAD_LATE_COUNT]
    omega
  obtain ⟨hlt, hne, hle⟩ := hkey
  have hown := isCtxOwn_below (hlt.trans (by decide))
  rw [State.on_of_get ((s.markLate_logOnly hu).get _ (by omega) hown)]
  have hbump : (s.lateMarked u).get (F.HEAD_COMMIT_LATE u) = (s.putB (F.HEAD_COMMIT_LATE u) true).get (F.HEAD_COMMIT_LATE u) :=
    congrArg (Fld.of _) (State.reg_setReg_ne _ _ _ _ hne hown)
  rw [State.on_of_get hbump]
  exact State.on_putB_same _ _ _ rfl (by decide : 3 + 1 ≤ 32)

section
variable {s t : State} {c : Fin 16} {d b : Fin 32} {v : Nat} (hb : s.boundary (.core c) = none) (hq : s.inFlightOf c = false)
  (hk : (s.engine c).keeper = true)
include hb hq hk

/-- `commit` gives what the request for the unit answers (R197). -/
theorem exec_commit (hh : s.hasHead ((s.gr c b).toNat % 64) = true) (hr : s.commitReq (s.unitOf ((s.gr c b).toNat % 64)) = (v, t))
    (he : t.eng = s.eng) : exec (.commit (.core c) d b) s = .next (t.wrote (.core c) d (BitVec.ofNat 64 v)) := by
  refine congrArg Host.Outcome.next (State.issue_fenced hb hq ?_ he)
  have ht : s.tgtHead (.core c) b = (s.gr c b).toNat % 64 := by simp [State.tgtHead, bits]
  simp only [ht, hr]
  rw [State.withHead, hh, State.headBarred_keeper hk]
  rfl

theorem gives_commit {p : State → Prop} (hh : s.hasHead ((s.gr c b).toNat % 64) = true)
    (hr : s.commitReq (s.unitOf ((s.gr c b).toNat % 64)) = (v, t)) (he : t.eng = s.eng) (hp : p (t.wrote (.core c) d (BitVec.ofNat 64 v))) :
    Gives c d s (.commit (.core c) d b) v p := by
  refine gives_of_wrote (exec_commit hb hq hk hh hr he) he ?_ hp
  rw [← State.commitReq_mems s (s.unitOf ((s.gr c b).toNat % 64)), hr]

end

/-! ### Placements (R198, R199) -/

/-- The placement fields of window `w` in OPEN, taken from the operands of a `place` of it on head `h`. -/
def State.placedAt (s : State) (w h x y : Nat) : State :=
  ((((s.put (F.WIN_X w) y).put (F.WIN_Y w) (y / 2 ^ 16)).put (F.WIN_HEAD w) h).put (F.WIN_Z w) (x / 2 ^ 24)).putB (F.WIN_PLACED w) true

theorem State.placeInto_room {s : State} {h : Nat} (u w x y recAt : Nat) (hn : s.openCount h < 64) :
    s.placeInto u w h x y recAt = (0, (s.placedAt w h x y).setWin w { s.win w with unit := some u, openRemove := false }) := by
  have hX (t : State) : t.put (F.WIN_X w) (bits y 0 13) = t.put (F.WIN_X w) y := by
    exact (State.put_bits t (F.WIN_X w) y 0).trans (by rw [pow_zero, Nat.div_one])
  have hY (t : State) : t.put (F.WIN_Y w) (bits y 16 13) = t.put (F.WIN_Y w) (y / 2 ^ 16) := State.put_bits ..
  have hZ (t : State) : t.put (F.WIN_Z w) (bits x 24 6) = t.put (F.WIN_Z w) (x / 2 ^ 24) := State.put_bits ..
  unfold State.placeInto State.placedAt
  simp only [Nat.not_le.2 hn, decide_false, Bool.and_false, Bool.false_eq_true, if_false, hX, hY, hZ]
  rfl

/-- The fields that `place` writes hold what its operands say. -/
theorem State.placedAt_fields (s : State) {w h : Nat} (x y : Nat) (hw : w < 2048) (hh : h < 64) : let t := s.placedAt w h x y
    t.get (F.WIN_X w) = y % 2 ^ 13 ∧ t.get (F.WIN_Y w) = y / 2 ^ 16 % 2 ^ 13 ∧ t.get (F.WIN_HEAD w) = h ∧
      t.get (F.WIN_Z w) = x / 2 ^ 24 % 64 ∧ t.on (F.WIN_PLACED w) = true := by
  have hkeys : isCtxOwn (F.WIN_X w).key = false ∧ (F.WIN_X w).key ≠ (F.WIN_HEAD w).key := by
    refine ⟨isCtxOwn_below ?_, ?_⟩
    all_goals
      simp only [F.WIN_X, F.WIN_HEAD]
      omega
  obtain ⟨hown, hne⟩ := hkeys
  have hfirst (t : State) (f : Fld) (hf : f.key = (F.WIN_X w).key) (a b : Nat) (e : Bool) :
      (((t.put (F.WIN_HEAD w) a).put (F.WIN_Z w) b).putB (F.WIN_PLACED w) e).get f = t.get f := by
    have h1 : f.key ≠ (F.WIN_HEAD w).key := hf ▸ hne
    have h2 : isCtxOwn f.key = false := hf ▸ hown
    rw [State.putB, State.get_put_ne _ (F.WIN_PLACED w) _ _ h1 h2, State.get_put_ne _ (F.WIN_Z w) _ _ h1 h2, State.get_put_ne _ _ _ _ h1 h2]
  intro t
  refine ⟨?_, ?_, ?_, ?_, State.on_putB_same _ _ _ rfl (by decide : 14 + 1 ≤ 32)⟩
  · exact (hfirst _ (F.WIN_X w) rfl ..).trans ((State.get_put_disj _ (F.WIN_Y w) (F.WIN_X w) _ (by decide : 16 + 13 ≤ 32) rfl
      (by decide : 16 + 13 ≤ 0 ∨ 0 + 13 ≤ 16)).trans (State.get_put_same _ _ _ (by decide : 0 + 13 ≤ 32)))
  · exact (hfirst _ (F.WIN_Y w) rfl ..).trans (State.get_put_same _ _ _ (by decide : 16 + 13 ≤ 32))
  · refine (State.get_put_disj _ (F.WIN_PLACED w) (F.WIN_HEAD w) _ (by decide : 14 + 1 ≤ 32) rfl (by decide : 14 + 1 ≤ 0 ∨ 0 + 6 ≤ 14)).trans
      ((State.get_put_disj _ (F.WIN_Z w) (F.WIN_HEAD w) _ (by decide : 8 + 6 ≤ 32) rfl (by decide : 8 + 6 ≤ 0 ∨ 0 + 6 ≤ 8)).trans
        ((State.get_put_same _ (F.WIN_HEAD w) h (by decide : 0 + 6 ≤ 32)).trans (Nat.mod_eq_of_lt hh)))
  · exact (State.get_put_disj _ (F.WIN_PLACED w) (F.WIN_Z w) _ (by decide : 14 + 1 ≤ 32) rfl (by decide : 14 + 1 ≤ 8 ∨ 8 + 6 ≤ 14)).trans
      (State.get_put_same _ _ _ (by decide : 8 + 6 ≤ 32))

theorem bits_low (n w : Nat) : bits n 0 w = n % 2 ^ w := by simp [bits]

theorem bitAt_of_lt {n i : Nat} (h : n < 2 ^ i) : bitAt n i = false := by simp [bitAt, Nat.div_eq_of_lt h]

/-- The operand `x` of `place` names window `w` and head `h`, and asks for no removal (R198). -/
structure Names (x w h : Nat) : Prop where
  remove : bitAt x 31 = false
  win : bits x 0 11 = w
  head : bits x 16 6 = h

section
variable {s : State} {x w h : Nat} (recAt y : Nat) (hx : Names x w h)
include hx

theorem State.place_absent (hh : s.hasHead h = false) : s.place none recAt x y = (3, s.rasterAbsent recAt h 3) := by
  simp [State.place, hx.remove, hx.head, hh]

variable (hh : s.hasHead h = true) (hw : w < s.nWins)
include hh hw

theorem State.place_room (hu : (s.win w).unit = none ∨ (s.win w).unit = some (s.unitOf h)) (hn : s.openCount h < 64) :
    s.place none recAt x y =
      (0, (s.placedAt w h x y).setWin w { s.win w with unit := some (s.unitOf h), openRemove := false }) := by
  rw [← State.placeInto_room _ _ _ _ recAt hn]
  obtain hu | hu := hu
  · simp [State.place, State.winUnit, hx.remove, hx.win, hx.head, hh, hw, hu]
  · simp [State.place, State.winUnit, hx.remove, hx.win, hx.head, hh, hw, hu]

theorem State.place_taken {v : Nat} (hu : (s.win w).unit = some v) (hv : v ≠ s.unitOf h) :
    s.place none recAt x y = (1, s.placeRefused recAt (s.unitOf h) h 1) := by
  simp [State.place, State.winUnit, hx.remove, hx.win, hx.head, hh, hw, hu, hv]

end

/-- A refused placement leaves the windows and the engines. -/
theorem State.placeRefused_leaves (s : State) (recAt u h code : Nat) :
    (s.placeRefused recAt u h code).wins = s.wins ∧ (s.placeRefused recAt u h code).eng = s.eng := by
  unfold State.placeRefused
  split
  · exact ⟨rfl, rfl⟩
  · exact ⟨(State.raise_logOnly ..).wins, (State.raise_logOnly ..).eng⟩

section
variable {s t : State} {c : Fin 16} {d a b : Fin 32} {v : Nat} (hb : s.boundary (.core c) = none) (hq : s.inFlightOf c = false)
  (hk : (s.engine c).keeper = true)
include hb hq hk

/-- `place` gives what the placement answers (R198). -/
theorem gives_place {p : State → Prop} (hr : s.place none (s.engine c).pc (s.gr c a).toNat (s.gr c b).toNat = (v, t)) (he : t.eng = s.eng)
    (hp : p (t.wrote (.core c) d (BitVec.ofNat 64 v))) : Gives c d s (.place (.core c) d a b) v p := by
  refine gives_of_wrote (congrArg Host.Outcome.next (State.issue_fenced hb hq ?_ he)) he ?_ hp
  · simp only [State.headBarred_keeper hk, Bool.and_false, Bool.false_eq_true, if_false, Eng.seqHead, State.rasterAt, Eng.key, hr]
  · rw [← State.place_mems s none (s.engine c).pc (s.gr c a).toNat (s.gr c b).toNat, hr]

omit hk

/-! ### Picks and withholding (R202, R203) -/

theorem exec_pick (hf : s.pickAct (.core c) d (s.gr c a).toNat = .next (t.setGr c d (BitVec.ofNat 64 v))) (he : t.eng = s.eng) :
    exec (.pick (.core c) d a) s = .next (t.wrote (.core c) d (BitVec.ofNat 64 v)) :=
  congrArg Host.Outcome.next (State.issue_fenced hb hq hf he)

theorem exec_withhold (hf : s.withholdAct (.core c) d (s.gr c a).toNat = .next (t.setGr c d (BitVec.ofNat 64 v))) (he : t.eng = s.eng) :
    exec (.withhold (.core c) d a) s = .next (t.wrote (.core c) d (BitVec.ofNat 64 v)) :=
  congrArg Host.Outcome.next (State.issue_fenced hb hq hf he)

end

section
variable {s : State} {c : Fin 16} {x : Nat} (d : Nat) (hw : x % 2 ^ 11 < s.nWins)
include hw

theorem State.pickAct_unplaced (ho : s.openPlaced (x % 2 ^ 11) = false) :
    s.pickAct (.core c) d x = .next (s.setGr c d (BitVec.ofNat 64 (2 ^ 64 - 1))) := by
  unfold State.pickAct
  rw [bits_low]
  simp only [Nat.not_le.2 hw, if_false, ho, Bool.not_false, if_true]
  rfl

variable (hk : (s.engine c).keeper = true)

theorem State.withholdAct_inactive (ha : (s.win (x % 2 ^ 11)).act = none) :
    s.withholdAct (.core c) d x = .next (s.setGr c d 3) := by
  unfold State.withholdAct
  rw [bits_low]
  simp only [Nat.not_le.2 hw, if_false, ha]
  rfl

include hk

theorem State.pickAct_arms (ho : s.openPlaced (x % 2 ^ 11) = true) (hx : x < 2 ^ 31) :
    s.pickAct (.core c) d x = .next ((s.setWin (x % 2 ^ 11) { s.win (x % 2 ^ 11) with openArm := true }).setGr c d 0) := by
  unfold State.pickAct
  rw [bits_low]
  simp only [Nat.not_le.2 hw, if_false, ho, Bool.not_true, Bool.false_eq_true, State.headBarred_keeper hk, State.ownUnit, Option.isSome_none,
    Bool.false_and, bitAt_of_lt hx]
  rfl

theorem State.withholdAct_active {ws : List Word} (ha : (s.win (x % 2 ^ 11)).act = some ws) :
    s.withholdAct (.core c) d x = .next ((s.setWin (x % 2 ^ 11)
      (if bitAt x 31 then { s.win (x % 2 ^ 11) with release := (s.win (x % 2 ^ 11)).withheld.isSome }
        else { s.win (x % 2 ^ 11) with withheld := some ((s.win (x % 2 ^ 11)).withheld.getD s.time.pix), release := false })).setGr c d 0) := by
  unfold State.withholdAct
  rw [bits_low]
  simp only [Nat.not_le.2 hw, if_false, ha, State.headBarred_keeper hk, Bool.false_eq_true]
  split <;> rfl

end

/-- Settles O24, instruction by instruction. -/
theorem commitsAndPlacements : Obligations.CommitsAndPlacements := by
  unfold Obligations.CommitsAndPlacements
  intro c d a b s hb hq hk e x y gives w h g u
  have h64 : h < 64 := Nat.mod_lt _ (by decide)
  have h2048 : w < 2048 := Nat.mod_lt _ (by decide)
  have namesOf (hx : x < 2 ^ 31) : Names x w h := ⟨bitAt_of_lt hx, bits_low x 11, rfl⟩
  refine ⟨fun hh hoff => ⟨fun hl => ⟨fun hs => ?_, fun hs hu => ?_, fun hs hu => ?_⟩, fun hl hs hu => ?_⟩,
    fun hx => have hx := namesOf hx; ⟨fun hh hw hu hn => ?_, fun hh => ?_, fun hh hw hu => ?_⟩,
    fun hw => ⟨fun ho => ?_, fun ho hx => ?_, fun ha => ?_, fun ws ha => ⟨fun hx => ?_, fun hx => ?_⟩⟩⟩
  · refine gives_commit hb hq hk hh (State.commitReq_seals hoff hl hs) (State.seal_eng ..) ⟨?_, State.seal_regs ..⟩
    exact (congrArg CommitUnit.sealed ((State.seal_unit ..).trans (State.unit_setUnit_same ..)))
  · exact gives_commit hb hq hk hh (State.commitReq_queues hoff hl hs hu) rfl ⟨congrArg CommitUnit.queued (State.unit_setUnit_same ..), rfl⟩
  · exact exec_commit hb hq hk hh (State.commitReq_full hoff hl hs hu) rfl
  · have hlog := s.markLate_logOnly hu
    refine gives_commit hb hq hk hh (State.commitReq_late hoff hl hs) ((State.seal_eng ..).trans hlog.eng) ⟨?_, ?_⟩
    · exact congrArg CommitUnit.sealed ((State.seal_unit ..).trans (State.unit_setUnit_same ..))
    · exact (State.on_of_regs (State.seal_regs ..) _).trans (s.markLate_late hu)
  · obtain ⟨hX, hY, hH, hZ, hP⟩ := s.placedAt_fields x y h2048 h64
    refine gives_place hb hq hk (State.place_room _ y hx hh hw hu hn) rfl ⟨hX, hY, hH, hZ, hP, ?_, ?_⟩
    · exact (congrArg Win.unit (State.win_setWin_same _ w _)).trans rfl
    · exact (congrArg Win.act (State.win_setWin_same _ w _)).trans rfl
  · have hlog : LogOnly s (s.rasterAbsent (s.engine c).pc h 3) := s.raise_logOnly ..
    obtain ⟨r, hr, hcls, _⟩ := s.raise_newest 0x4D (s.engine c).pc 0 (rasterDet h 0 0 3) none
    exact gives_place hb hq hk (State.place_absent _ y hx hh) hlog.eng ⟨hlog.wins, r, hr, hcls⟩
  · obtain ⟨v, hv, hne⟩ := hu
    obtain ⟨hwins, heng⟩ := s.placeRefused_leaves (s.engine c).pc (s.unitOf h) h 1
    exact gives_place hb hq hk (State.place_taken _ y hx hh hw hv hne) heng hwins
  · exact exec_pick hb hq (State.pickAct_unplaced d hw ho) rfl
  · refine gives_of_wrote (exec_pick hb hq (State.pickAct_arms d hw hk ho hx) rfl) rfl rfl ⟨?_, ?_, rfl⟩
    · exact (congrArg Win.openArm (State.win_setWin_same _ w _)).trans rfl
    · exact (congrArg Win.act (State.win_setWin_same _ w _)).trans rfl
  · exact exec_withhold hb hq (State.withholdAct_inactive d hw ha) rfl
  · have hbit : bitAt x 31 = false := decide_eq_false (by omega)
    refine gives_of_wrote (exec_withhold hb hq (State.withholdAct_active d hw hk ha) rfl) rfl rfl ⟨?_, rfl⟩
    rw [hbit]
    exact (congrArg Win.withheld (State.win_setWin_same _ w _)).trans rfl
  · have hbit : bitAt x 31 = true := decide_eq_true hx
    refine gives_of_wrote (exec_withhold hb hq (State.withholdAct_active d hw hk ha) rfl) rfl rfl ⟨?_, rfl⟩
    rw [hbit]
    exact Bool.eq_iff_iff.1 ((congrArg Win.release (State.win_setWin_same _ w _)).trans rfl)

end Sys2Proof.Machine
end

section
/-! Pulses, missing pulses and the loss of a reference (O30; R97 to R110). -/
namespace Sys2Proof.Machine

/-! ### Pulses of an input (R97, R100, R130) -/

/-- The followers of a source go by the parts fitted, the spans and the timebases. -/
theorem State.followers_of_raster {s t : State} (hfuses : t.fuses = s.fuses) (hclock : t.clockwork = s.clockwork)
    (hreg : ∀ k, 0x501000 ≤ k → k < 0x504000 → t.reg k = s.reg k) (src : Nat) : t.followers src = s.followers src := by
  refine List.filter_congr fun h hh => ?_
  have h48 : h < 48 := List.mem_range.1 hh
  have hmaster : t.master h = s.master h := by
    refine State.master_of_reg (hreg _ ?_ ?_) fun p hp => hreg _ ?_ ?_
    all_goals
      simp only [F.HEAD_GL_STATE_MEMBER, F.SPAN_STATUS_MASTER]
      omega
  rw [State.hasHead_of_fuses hfuses, hmaster, State.tb_of_clockwork hclock]

/-- PERIOD of a genlock input. -/
def periodFld (n : Fin 2) : Fld := if n = 0 then F.RASTER_GL_IN0_PERIOD else F.RASTER_GL_IN1_PERIOD

/-- When the last pulse of a genlock input came. -/
def GlIn.last (g : GlIn) (n : Fin 2) : Option Nat := if n = 0 then g.at0 else g.at1

theorem periodFld_whole (n : Fin 2) : (periodFld n).lo = 0 ∧ (periodFld n).w = 32 ∧ (periodFld n).key < 0x501000 := by
  revert n
  decide

/-- A pulse of input `n` is noted, and its PERIOD taken. -/
def State.notePulse (s : State) (n : Fin 2) : State :=
  let t := { s with glin := if n = 0 then { s.glin with at0 := some s.time.pix } else { s.glin with at1 := some s.time.pix } }
  match s.glin.last n with
  | none => t
  | some p => t.put (periodFld n) (s.time.pix - p)

theorem State.genlockPulse_wide {s : State} {n : Fin 2} {width : Nat} (hw : 10 * max 1 (s.get F.RASTER_GL_IN_CFG_MIN_W) ≤ width) :
    s.genlockPulse n width = ((s.notePulse n).followers (n.val + 1)).foldl (fun s h => s.tbPulse h false) (s.notePulse n) := by
  unfold State.genlockPulse
  rw [if_neg (Nat.not_lt.2 hw)]
  match n with
  | 0 => rfl
  | 1 => rfl

/-- What noting a pulse leaves: all but the input's own time and PERIOD. -/
theorem State.notePulse_spec (s : State) (n : Fin 2) : ∃ g r, s.notePulse n = { s with glin := g, regs := r } ∧ g.last n = some s.time.pix ∧
    (∀ k, k ≠ (periodFld n).key → tabGet? r k = tabGet? s.regs k) ∧
    ∀ p, s.glin.last n = some p → (s.notePulse n).get (periodFld n) = (s.time.pix - p) % 2 ^ 32 := by
  obtain ⟨hlo, hw, _⟩ := periodFld_whole n
  have hlast : GlIn.last (if n = 0 then { s.glin with at0 := some s.time.pix } else { s.glin with at1 := some s.time.pix }) n =
      some s.time.pix := by
    unfold GlIn.last
    split <;> rfl
  unfold State.notePulse
  cases hp : s.glin.last n with
  | none => exact ⟨_, _, rfl, hlast, fun _ _ => rfl, nofun⟩
  | some p =>
    refine ⟨_, _, rfl, hlast, fun k hk => tabGet?_tabSet_ne _ _ _ _ hk, fun q hq => ?_⟩
    rw [Option.some.inj hq]
    exact (State.get_put_same _ _ _ (by rw [hlo, hw])).trans (by rw [hw])

theorem State.notePulse_reg (s : State) {n : Fin 2} {k : Nat} (hk : 0x501000 ≤ k) (hc : isCtxOwn k = false) :
    (s.notePulse n).reg k = s.reg k := by
  obtain ⟨g, r, ht, _, hr, _⟩ := s.notePulse_spec n
  obtain ⟨_, _, hlt⟩ := periodFld_whole n
  simp [ht, State.reg, hr k (by omega), ctxLayout, hc]

theorem State.notePulse_followers (s : State) (n : Fin 2) (src : Nat) : (s.notePulse n).followers src = s.followers src := by
  obtain ⟨g, r, ht, _⟩ := s.notePulse_spec n
  refine State.followers_of_raster (by rw [ht]) (by rw [ht]; rfl) (fun k hk hlt => s.notePulse_reg hk (isCtxOwn_below (by omega))) src

/-! ### A first candidate (R102) -/

theorem State.acquirePulse_first {s : State} {h : Nat} (hc : (s.tb h).cand = []) :
    s.acquirePulse h = s.setTb h { s.tb h with cand := [s.time.pix] } := by
  unfold State.acquirePulse
  simp only [hc, List.nil_append, List.length_nil, Nat.zero_add, List.drop_zero, Nat.reduceSub]

/-- The first pulse that a timebase in ACQUIRE sees, virtual or not. -/
theorem State.tbPulse_first {s : State} {h : Nat} (virt : Bool) (hst : s.get (F.HEAD_GL_STATE_STATE h) = 1) (hc : (s.tb h).cand = []) :
    s.tbPulse h virt = s.setTb h { s.tb h with cand := [s.time.pix] } := by
  rw [← State.acquirePulse_first hc]
  simp [State.tbPulse, hst, glAcquire]

section
variable {s : State} {n : Fin 2} {width : Nat} (time : Nat)

theorem exec_genlockPulse_narrow (hw : width < 10 * max 1 (s.get F.RASTER_GL_IN_CFG_MIN_W)) :
    exec (.genlockPulse time n width) s = .next (s.advance time) :=
  congrArg Host.Outcome.next (if_pos hw)

variable (hw : 10 * max 1 (s.get F.RASTER_GL_IN_CFG_MIN_W) ≤ width)
include hw

theorem exec_genlockPulse_wide : exec (.genlockPulse time n width) s = .next ((s.followers (n.val + 1)).foldl
    (fun s h => s.tbPulse h false) ((s.advance time).notePulse n)) := by
  rw [show s.followers (n.val + 1) = (s.advance time).followers (n.val + 1) from rfl, ← State.notePulse_followers _ n]
  exact congrArg Host.Outcome.next (State.genlockPulse_wide hw)

/-- A pulse of an input that no timebase follows. -/
theorem reaches_genlockPulse_alone (hf : s.followers (n.val + 1) = []) : Reaches (.genlockPulse time n width) s (fun t =>
    t.glin.last n = some (s.time.pix + time) ∧
    (∀ p, s.glin.last n = some p → t.get (periodFld n) = (s.time.pix + time - p) % 2 ^ 32) ∧ t.tbs = s.tbs ∧
    ∀ k, k ≠ (periodFld n).key → tabGet? t.regs k = tabGet? s.regs k) := by
  obtain ⟨g, r, ht, hlast, hregs, hperiod⟩ := (s.advance time).notePulse_spec n
  refine ⟨_, (exec_genlockPulse_wide time hw).trans (by rw [hf]; rfl), ?_, hperiod, ?_⟩
  · rwa [ht]
  · rw [ht]
    exact ⟨rfl, hregs⟩

/-- A pulse of an input that one timebase in ACQUIRE follows. -/
theorem reaches_genlockPulse_first {h : Fin 48} (hf : s.followers (n.val + 1) = [h.val]) (hst : s.get (F.HEAD_GL_STATE_STATE h) = 1)
    (hc : (s.tb h).cand = []) : Reaches (.genlockPulse time n width) s (fun t =>
      (t.tb h).cand = [s.time.pix + time] ∧ t.get (F.HEAD_GL_STATE_STATE h) = 1) := by
  obtain ⟨g, r, ht, _⟩ := (s.advance time).notePulse_spec n
  have htb : ((s.advance time).notePulse n).tb h = s.tb h := by rw [ht]; rfl
  have hpix : ((s.advance time).notePulse n).time.pix = s.time.pix + time := by rw [ht]; rfl
  have hkey : 0x501000 ≤ (F.HEAD_GL_STATE_STATE h).key ∧ isCtxOwn (F.HEAD_GL_STATE_STATE h).key = false := by
    refine ⟨?_, isCtxOwn_below ?_⟩
    all_goals
      simp only [F.HEAD_GL_STATE_STATE]
      omega
  have hget : ((s.advance time).notePulse n).get (F.HEAD_GL_STATE_STATE h) = 1 :=
    (congrArg (Fld.of _) ((s.advance time).notePulse_reg hkey.1 hkey.2)).trans hst
  have heq := exec_genlockPulse_wide (n := n) time hw
  rw [hf, List.foldl_cons, List.foldl_nil, State.tbPulse_first false hget (by rw [htb, hc]), hpix] at heq
  exact ⟨_, heq, by rw [State.tb_setTb_same], hget⟩

end

/-! ### A pulse that does not come (R100, R106 to R108) -/

/-- Timebase `h` has lost pulse after pulse since `b`: it runs free, and walks no more. -/
structure Missed (h : Nat) (b : Timebase) (t : State) : Prop where
  state : t.get (F.HEAD_GL_STATE_STATE h) = 4
  missed : (t.tb h).missed = b.missed + 1
  walk : (t.tb h).walk = 0
  walkNow : (t.tb h).walkNow = 0

section
variable {s : State} {h : Fin 48} (time : Nat)

theorem exec_pulseMissing_idle (hn : s.get (F.HEAD_GL_STATE_STATE h) = 0 ∨ (s.tb h).src = 3 ∨ (s.advance time).windowOver h = false) :
    exec (.pulseMissing time h) s = .next (s.advance time) := by
  refine congrArg Host.Outcome.next ?_
  have hidle (hn : s.get (F.HEAD_GL_STATE_STATE h) = 0 ∨ (s.tb h).src = 3) : (s.advance time).pulseMissing h = s.advance time := by
    unfold State.pulseMissing
    obtain hst | hsrc := hn
    · simp [hst, glTrack, glLocked, glFreewheel]
    · simp [hsrc]
  obtain hst | hsrc | hover := hn
  · rw [hidle (.inl hst), ite_self]
  · rw [hidle (.inr hsrc), ite_self]
  · rw [hover, Bool.and_false]
    rfl

variable (hhas : s.hasHead h = true) (hm : s.master h = h)
include hhas hm

theorem reaches_pulseMissing (hover : (s.advance time).windowOver h = true) (hsrc : (s.tb h).src ≠ 3)
    (hst : s.get (F.HEAD_GL_STATE_STATE h) = 2 ∨ s.get (F.HEAD_GL_STATE_STATE h) = 3) :
    Reaches (.pulseMissing time h) s (fun t => Missed h (s.tb h) t ∧ ((s.reg (F.HEAD_MISSING_COUNT h).key).toNat < 2 ^ 31 - 1 →
      t.reg (F.HEAD_MISSING_COUNT h).key = s.reg (F.HEAD_MISSING_COUNT h).key + 1)) := by
  have hkey : (F.HEAD_MISSING_COUNT h).key ≠ (F.HEAD_GL_STATE_STATE h).key ∧ isCtxOwn (F.HEAD_MISSING_COUNT h).key = false := by
    refine ⟨?_, isCtxOwn_below ?_⟩
    all_goals
      simp only [F.HEAD_MISSING_COUNT, F.HEAD_GL_STATE_STATE]
      omega
  have heq : exec (.pulseMissing time h) s = .next ((s.advance time).pulseMissing h) :=
    congrArg Host.Outcome.next (if_pos (by simp [hhas, hover, hm]))
  have hruns : (decide (s.get (F.HEAD_GL_STATE_STATE h) = glTrack) || decide (s.get (F.HEAD_GL_STATE_STATE h) = glLocked)) = true := by
    rw [Bool.or_eq_true, decide_eq_true_eq, decide_eq_true_eq]
    exact hst
  unfold State.pulseMissing at heq
  rw [State.advance_tb, if_neg hsrc, State.advance_get, if_pos hruns] at heq
  refine ⟨_, heq, ⟨?_, ?_, ?_, ?_⟩, fun hlt => ?_⟩
  · exact State.get_put_same _ _ _ (by decide : 0 + 3 ≤ 32)
  · rw [State.tb_setTb_same]
  · rw [State.tb_setTb_same]
  · rw [State.tb_setTb_same]
  · exact (State.reg_setReg_ne _ _ _ _ hkey.1 hkey.2).trans (State.reg_bump_same hlt)

/-! ### The loss of a reference (R107, R108) -/

/-- A timebase in FREEWHEEL that has seen no pulse for eight frames: HOLDOVER is logged and entered before a fallback is looked for. -/
theorem exec_genlockLost (hf : 8 ≤ (s.tb h).freeFrames) (hst : s.get (F.HEAD_GL_STATE_STATE h) = 4) :
    ∃ u : State, exec (.genlockLost time h) s = .next (u.takeFallback h) ∧ u.get (F.HEAD_GL_STATE_STATE h) = 5 ∧
      (u.tb h).src = (s.tb h).src ∧ (u.tb h).fallback = (s.tb h).fallback ∧ ∃ r ∈ u.log.recent.head?, r.cls = 0x41 := by
  let v := (s.advance time).headRec 0x41 h 0
  have htb : v.tb h = s.tb h := State.tb_of_clockwork ((s.advance time).headRec_logOnly 0x41 h 0).clockwork h
  obtain ⟨r, hr, hcls, _⟩ := State.raise_newest (s.advance time) 0x41 (headAddr h) 0
    (rasterDet h ((s.advance time).lineOf h) (((s.advance time).spanOf h).getD 0) 0) none
  have heq : exec (.genlockLost time h) s = .next ((s.advance time).genlockLost h) :=
    congrArg Host.Outcome.next (if_pos (by simp [hhas, hm, hf]))
  unfold State.genlockLost at heq
  rw [State.advance_get, hst, if_pos (show 4 = glFreewheel from rfl)] at heq
  refine ⟨_, heq, State.get_put_same _ _ _ (by decide : 0 + 3 ≤ 32), ?_, ?_, r, hr, hcls⟩
  all_goals
    rw [State.tb_setTb_same]
    simp only [State.put_tb, State.putI_tb, State.tb_setTb_same]
    rw [show ((s.advance time).headRec 0x41 h 0).tb h = s.tb h from htb]

theorem reaches_genlockLost_holdover (hf : 8 ≤ (s.tb h).freeFrames) (hst : s.get (F.HEAD_GL_STATE_STATE h) = 4)
    (hb : (s.tb h).fallback = 0 ∨ (s.tb h).fallback = (s.tb h).src) : Reaches (.genlockLost time h) s (fun t =>
      t.get (F.HEAD_GL_STATE_STATE h) = 5 ∧ (t.tb h).src = (s.tb h).src ∧ ∃ r ∈ t.log.recent.head?, r.cls = 0x41) := by
  obtain ⟨u, heq, hstate, hsrc, hfall, hlog⟩ := exec_genlockLost time hhas hm hf hst
  have hstay : u.takeFallback h = u := by
    obtain hb | hb := hb
    · simp [State.takeFallback, hfall, hb]
    · simp [State.takeFallback, hfall, hsrc, hb]
  exact ⟨u, heq.trans (by rw [hstay]), hstate, hsrc, hlog⟩

theorem reaches_genlockLost_fallback (hf : 8 ≤ (s.tb h).freeFrames) (hst : s.get (F.HEAD_GL_STATE_STATE h) = 4)
    (hb : (s.tb h).fallback ≠ 0) (hne : (s.tb h).fallback ≠ (s.tb h).src) : Reaches (.genlockLost time h) s (fun t =>
      t.get (F.HEAD_GL_STATE_STATE h) = 1 ∧ (t.tb h).src = (s.tb h).fallback ∧ (t.tb h).fallback = 0) := by
  obtain ⟨u, heq, _, hsrc, hfall, _⟩ := exec_genlockLost time hhas hm hf hst
  have hkey : (F.HEAD_GL_STATE_STATE h).key ≠ (F.HEAD_REF_SRC h).key ∧ isCtxOwn (F.HEAD_GL_STATE_STATE h).key = false := by
    refine ⟨?_, isCtxOwn_below ?_⟩
    all_goals
      simp only [F.HEAD_GL_STATE_STATE, F.HEAD_REF_SRC]
      omega
  unfold State.takeFallback at heq
  dsimp only at heq
  rw [if_pos (by simp [hsrc, hfall, hb, hne])] at heq
  refine ⟨_, heq, ?_, ?_, ?_⟩
  · rw [State.get_put_ne _ (F.HEAD_REF_FALLBACK h) _ _ hkey.1 hkey.2, State.get_put_ne _ _ _ _ hkey.1 hkey.2]
    exact State.get_put_same _ _ _ (by decide : 0 + 3 ≤ 32)
  · rw [State.put_tb, State.put_tb, State.put_tb, State.tb_setTb_same]
    exact hfall
  · rw [State.put_tb, State.put_tb, State.put_tb, State.tb_setTb_same]

/-! ### Virtual pulses (R109, R110) -/

omit hhas hm in
theorem exec_virtualPulse_idle (hn : s.time.everLocked = false ∨ (s.advance time).pulseDue h = false) :
    exec (.virtualPulse time h) s = .next (s.advance time) := by
  have hidle : (s.advance time).virtualPulse h = s.advance time := by
    refine if_neg ?_
    obtain hn | hn := hn
    · simp [State.advance, hn]
    · simp [hn]
  exact congrArg Host.Outcome.next (by rw [hidle, ite_self])

theorem reaches_virtualPulse (hl : s.time.everLocked = true) (hd : (s.advance time).pulseDue h = true) (hsrc : (s.tb h).src = 3)
    (hst : s.get (F.HEAD_GL_STATE_STATE h) = 1) (hc : (s.tb h).cand = []) :
    Reaches (.virtualPulse time h) s (fun t => (t.tb h).cand = [s.time.pix + time] ∧ t.regs = s.regs) := by
  have heq : exec (.virtualPulse time h) s = .next ((s.advance time).tbPulse h true) := by
    refine congrArg Host.Outcome.next ((if_pos hhas).trans (if_pos ?_))
    simp [State.advance_tb, hsrc, hd, hm, show (s.advance time).time.everLocked = true from hl]
  rw [State.tbPulse_first (s := s.advance time) true hst hc] at heq
  refine ⟨_, heq, ?_, rfl⟩
  rw [State.tb_setTb_same]
  rfl

end

/-- Settles O30, event by event. -/
theorem genlock : Obligations.Genlock := by
  unfold Obligations.Genlock
  intro n h width time s z now b st last period
  refine ⟨exec_genlockPulse_narrow time, fun hw hf => reaches_genlockPulse_alone time hw hf,
    fun hw hf hst hc => reaches_genlockPulse_first time hw hf hst hc, fun hhas hm => ⟨fun hover hsrc hst => ?_, exec_pulseMissing_idle time,
      fun hf hst => ⟨reaches_genlockLost_holdover time hhas hm hf hst, reaches_genlockLost_fallback time hhas hm hf hst⟩,
      exec_virtualPulse_idle time, reaches_virtualPulse time hhas hm⟩⟩
  obtain ⟨t, ht, hmissed, hcount⟩ := reaches_pulseMissing time hhas hm hover hsrc hst
  exact ⟨t, ht, hmissed.state, hmissed.missed, hmissed.walk, hmissed.walkNow, hcount⟩

end Sys2Proof.Machine
end

section
/-! What leaves the heads alone (O27): the registers of RASTER, the timebases and the time, and the lines composed. -/
namespace Sys2Proof.Machine

/-- What the heads send by: the registers of block 5 (RASTER), the timebases and the time, and the lines composed. -/
def State.scanout (s : State) : (Nat → Word) × (Tab Timebase × TimeU) × (Nat → Line) :=
  (fun k => if k / 0x100000 = 5 then s.reg k else 0, s.clockwork, fun h => (s.head h).composed)

theorem State.scanout_ext {s t : State} (hr : ∀ k, k / 0x100000 = 5 → t.reg k = s.reg k) (hc : t.clockwork = s.clockwork)
    (hl : ∀ h, (t.head h).composed = (s.head h).composed) : t.scanout = s.scanout :=
  Prod.ext (funext fun k => ite_congr rfl (hr k) fun _ => rfl) (Prod.ext hc (funext hl))

section
variable {s t : State} (hs : t.scanout = s.scanout)
include hs

theorem State.reg_of_scanout {k : Nat} (hk : k / 0x100000 = 5) : t.reg k = s.reg k := by
  simpa [State.scanout, hk] using congrFun (congrArg Prod.fst hs) k

theorem State.get_of_scanout (f : Fld) (hk : f.key / 0x100000 = 5) : t.get f = s.get f := congrArg f.of (State.reg_of_scanout hs hk)

theorem State.tb_of_scanout (h : Nat) : t.tb h = s.tb h := State.tb_of_clockwork (congrArg (fun p => p.2.1) hs) h

theorem State.composed_of_scanout (h : Nat) : (t.head h).composed = (s.head h).composed := congrFun (congrArg (fun p => p.2.2) hs) h

end

@[simp] theorem State.scanout_ite {c : Prop} [Decidable c] (s t : State) : (if c then s else t).scanout = if c then s.scanout else t.scanout :=
  apply_ite _ _ _ _

@[simp] theorem State.scanout_foldl {α : Type} (f : State → α → State) (h : ∀ s a, (f s a).scanout = s.scanout) (l : List α) (s : State) :
    (l.foldl f s).scanout = s.scanout :=
  List.foldlRecOn (motive := fun t : State => t.scanout = s.scanout) l f rfl fun t ht a _ => (h t a).trans ht

/-! ### The setters -/

theorem State.setReg_scanout (s : State) {k : Nat} (w : Word) (hk : k < 0x500000 ∨ 0x600000 ≤ k) : (s.setReg k w).scanout = s.scanout :=
  State.scanout_ext (fun j hj => State.reg_setReg_ne _ _ _ _ (by omega) (isCtxOwn_below (by omega))) rfl fun _ => rfl

@[simp] theorem State.put_scanout (s : State) (f : Fld) (v : Nat) (hf : f.key < 0x500000 ∨ 0x600000 ≤ f.key) :
    (s.put f v).scanout = s.scanout := s.setReg_scanout _ hf
@[simp] theorem State.putB_scanout (s : State) (f : Fld) (b : Bool) (hf : f.key < 0x500000 ∨ 0x600000 ≤ f.key) :
    (s.putB f b).scanout = s.scanout := s.setReg_scanout _ hf
@[simp] theorem State.putI_scanout (s : State) (f : Fld) (v : Int) (hf : f.key < 0x500000 ∨ 0x600000 ≤ f.key) :
    (s.putI f v).scanout = s.scanout := s.setReg_scanout _ hf
@[simp] theorem State.bump_scanout (s : State) (f : Fld) (hf : f.key < 0x500000 ∨ 0x600000 ≤ f.key) :
    (s.bump f).scanout = s.scanout := s.setReg_scanout _ hf

@[simp] theorem State.setWin_scanout (s : State) (w : Nat) (x : Win) : (s.setWin w x).scanout = s.scanout := (rfl)
@[simp] theorem State.setUnit_scanout (s : State) (u : Nat) (x : CommitUnit) : (s.setUnit u x).scanout = s.scanout := (rfl)
@[simp] theorem State.setSes_scanout (s : State) (v : Nat) (x : Sess) : (s.setSes v x).scanout = s.scanout := (rfl)

theorem State.setHead_scanout (s : State) {h : Nat} {x : Head} (hx : x.composed = (s.head h).composed) :
    (s.setHead h x).scanout = s.scanout := by
  refine State.scanout_ext (fun _ _ => rfl) rfl fun g => ?_
  by_cases hg : g = h
  · rw [hg, State.head_setHead_same, hx]
  · rw [State.head_setHead_ne _ _ _ _ hg]

theorem LogOnly.scanout {s t : State} (h : LogOnly s t) : t.scanout = s.scanout :=
  State.scanout_ext (fun k hk => h.reg k (by omega) (isCtxOwn_below (by omega))) h.clockwork fun g => by rw [h.head]

@[simp] theorem State.raise_scanout (s : State) (cls a1 a2 d : Nat) (lim : Option Nat) : (s.raise cls a1 a2 d lim).scanout = s.scanout :=
  (s.raise_logOnly ..).scanout

/-! ### The mode and in-service tests -/

@[simp] theorem State.setMode_scanout (s : State) (m : Nat) : (s.setMode m).scanout = s.scanout := by
  simp [State.setMode, F.SYS_MODE_PREV, F.SYS_MODE_MODE, F.SYS_MODE_CHANGES]

@[simp] theorem State.updDegraded_scanout (s : State) : s.updDegraded.scanout = s.scanout := by
  simp [State.updDegraded, F.SYS_DEGRADED_FENCED, F.SYS_DEGRADED_FAILED, F.SYS_DEGRADED_TEST, F.SYS_DEGRADED_TOO_FEW]

@[simp] theorem State.countService_scanout (s : State) : s.countService.scanout = s.scanout := by
  simp [State.countService, F.VIGIL_STATUS_IN_SERVICE]

@[simp] theorem State.endTest_scanout (s : State) (result detail : Nat) : (s.endTest result detail).scanout = s.scanout := by
  unfold State.endTest
  split
  · rfl
  · next u _ =>
    have hkey : 0x600000 ≤ (F.TEST_RESULT_RESULT u).key := by simp only [F.TEST_RESULT_RESULT]; omega
    rw [State.raise_scanout, State.put_scanout _ (F.TEST_RESULT_DETAIL u) _ (.inr hkey),
      State.putB_scanout _ (F.TEST_RESULT_IN_SERVICE u) _ (.inr hkey), State.put_scanout _ _ _ (.inr hkey), State.put_scanout _ _ _ (by decide), State.put_scanout _ _ _ (by decide)]
    rfl

theorem vigilState_key (i : Nat) : (vigilState i).key = 0x900004 := by
  unfold vigilState
  split <;> rfl

@[simp] theorem State.setState_scanout (s : State) (i v : Nat) : (s.put (vigilState i) v).scanout = s.scanout :=
  s.put_scanout _ _ (.inr (by rw [vigilState_key]; decide))

@[simp] theorem State.untest_scanout (s : State) (u : Nat) : (s.untest u).scanout = s.scanout := by
  unfold State.untest
  split
  · next f hf =>
    have hkey : 0x600000 ≤ f.key := by
      unfold unitStateFld at hf
      split at hf
      · cases hf; simp only [F.PIPE_STATE]; omega
      · split at hf
        · cases hf; simp only [F.EPIPE_STATE]; omega
        · split at hf
          · cases hf; rw [vigilState_key]; decide
          · split at hf
            · cases hf; simp only [F.LANE_STATE_STAGE]; omega
            · cases hf
    simp [s.put_scanout f _ (.inr hkey)]
  · rfl

@[simp] theorem State.stopTest_scanout (s : State) : s.stopTest.scanout = s.scanout := by
  unfold State.stopTest
  split <;> simp

@[simp] theorem State.updMode_scanout (s : State) : s.updMode.scanout = s.scanout := by simp [State.updMode]

/-! ### The vigil -/

@[simp] theorem State.vigilRec_scanout (s : State) (cls w h line v r : Nat) : (s.vigilRec cls w h line v r).scanout = s.scanout := by
  simp [State.vigilRec]
@[simp] theorem State.vigilGlobal_scanout (s : State) (cls v r inst : Nat) : (s.vigilGlobal cls v r inst).scanout = s.scanout := by
  simp [State.vigilGlobal]

@[simp] theorem State.setInstance_scanout (s : State) (i st : Nat) : (s.setInstance i st).scanout = s.scanout := by
  simp [State.setInstance, F.VIGIL_STATUS_IN_SERVICE, F.VIGIL_STATUS_ALL_SNUFF]

@[simp] theorem State.failInstance_scanout (s : State) (i : Nat) : (s.failInstance i).scanout = s.scanout := by simp [State.failInstance]

@[simp] theorem State.restoreInstance_scanout (s : State) (i : Nat) : (s.restoreInstance i).scanout = s.scanout :=
  (State.vigilGlobal_scanout ..).trans ((State.setInstance_scanout ..).trans rfl)

@[simp] theorem State.vigilTestEnter_scanout (s : State) (i : Nat) : (s.vigilTestEnter i).scanout = s.scanout := by
  unfold State.vigilTestEnter
  split
  · rfl
  · split
    · exact (State.setInstance_scanout ..).trans rfl
    · rw [State.raise_scanout, State.put_scanout _ _ _ (by decide), State.put_scanout _ _ _ (by decide), State.put_scanout _ _ _ (by decide)]
      rfl

@[simp] theorem State.vigilTake_scanout (s : State) : s.vigilTake.scanout = s.scanout := by
  unfold State.vigilTake
  dsimp only
  split <;> simp

theorem dissentReg_key (i : Nat) : 0x600000 ≤ (dissentReg i).key := by
  unfold dissentReg
  split <;> decide

@[simp] theorem State.dissents_scanout (s : State) (i w h n : Nat) (v : Nat × Nat) : (s.dissents i w h n v).scanout = s.scanout := by
  have hcount : (s.bump (dissentReg i)).scanout = s.scanout := s.bump_scanout _ (.inr (dissentReg_key i))
  unfold State.dissents
  extract_lets s1 first g s2 s3 run
  have h3 : s3.scanout = s.scanout := by
    unfold s3
    split
    · exact (State.raise_scanout ..).trans hcount
    · exact hcount
  split
  · exact (s3.failInstance_scanout i).trans h3
  · exact h3

@[simp] theorem State.voteWin_scanout (s : State) (ups : List Upset) (w h n : Nat) (v : Nat × Nat) :
    (s.voteWin ups w h n v).2.scanout = s.scanout := by
  unfold State.voteWin
  extract_lets r s1 s2 x s3
  have h1 : s1.scanout = s.scanout := by
    unfold s1
    split <;> simp
  have h2 : s2.scanout = s.scanout := by simp [s2, h1, F.VIGIL_SPLIT_COUNT]
  simp [s3, h2]

theorem wstate_off (w : Nat) : 0x600000 ≤ (F.VIGIL_WSTATE_AGE w).key ∧ 0x600000 ≤ (F.VIGIL_WSTATE_SEQ w).key ∧
    0x600000 ≤ (F.VIGIL_WSTATE_AGE_LATCH w).key ∧ 0x600000 ≤ (F.VIGIL_WSTATE_ADV w).key := by
  have := wstate_key w
  omega

@[simp] theorem State.agePart_scanout (s : State) (w disp : Nat) (bd : Nat × Nat × Nat) (shows : Bool) :
    (s.agePart w disp bd shows).2.scanout = s.scanout := by
  obtain ⟨hage, hseq, hlatch, hadv⟩ := wstate_off w
  unfold State.agePart
  dsimp only
  split
  · rfl
  · split
    · rfl
    · simp [hage, hseq, hlatch, hadv]

@[simp] theorem State.judgeNext_scanout (s : State) (ups : List Upset) (h : Nat) (e : Nat × List Word) :
    (s.judgeNext ups h e).scanout = s.scanout := by
  simp [State.judgeNext]

@[simp] theorem State.pickChecks_scanout (s : State) (h : Nat) : (s.pickChecks h).scanout = s.scanout := by simp [State.pickChecks]

@[simp] theorem State.judgeLate_scanout (s : State) (h : Nat) : (s.judgeLate h).scanout = s.scanout := by simp [State.judgeLate]

@[simp] theorem State.countSnuffed_scanout (s : State) (h : Nat) : (s.countSnuffed h).scanout = s.scanout :=
  s.put_scanout _ _ (by simp only [F.VIGIL_HSNUFF_COUNT]; omega)

/-! ### Encode sessions -/

@[simp] theorem State.encAbandonNo_scanout (s : State) (v i code : Nat) : (s.encAbandonNo v i code).scanout = s.scanout := by
  have hkey : 0x600000 ≤ (F.SESS_ABANDON v).key := by simp only [F.SESS_ABANDON]; omega
  simp [State.encAbandonNo, State.encRecOn, hkey]

@[simp] theorem State.encAbandon_scanout (s : State) (v code : Nat) : (s.encAbandon v code).scanout = s.scanout := by
  unfold State.encAbandon
  split <;> simp

@[simp] theorem State.encHeadStop_scanout (s : State) (v : Nat) : (s.encHeadStop v).scanout = s.scanout := by
  have hkey : 0x600000 ≤ (F.SESS_STATUS_STATE v).key := by simp only [F.SESS_STATUS_STATE]; omega
  simp [State.encHeadStop, hkey]

/-! ### The apply of a bank -/

theorem KeepsBelow.scanout {s t : State} (h : KeepsBelow 0x600000 s t) (hc : t.clockwork = s.clockwork)
    (hl : ∀ g, (t.head g).composed = (s.head g).composed) : t.scanout = s.scanout :=
  State.scanout_ext (fun k hk => h.reg k (by omega) (by omega)) hc hl

@[simp] theorem State.unitRead_scanout (s : State) (src : Src) (a n : Nat) : (s.unitRead src a n).2.scanout = s.scanout := by
  have hkeeps := s.unitRead_keeps src a n
  obtain ⟨r, l, hrl⟩ := s.unitRead_regsOnly src a n
  rw [hrl] at hkeeps ⊢
  exact hkeeps.scanout rfl fun _ => rfl

@[simp] theorem State.choose_scanout (s : State) (ws : List Word) (cur : Option Latched) (t0 : Nat) :
    (s.choose ws cur t0).2.scanout = s.scanout := by
  refine List.foldlRecOn (motive := fun p : List Latched × State => p.2.scanout = s.scanout) _ _ rfl fun p hp a _ => ?_
  split
  all_goals
    next h => exact ((congrArg (fun q => q.2.scanout) h).symm.trans (State.unitRead_scanout ..)).trans hp

@[simp] theorem State.latchTag_scanout (s : State) (w h : Nat) (l : Latched) : (s.latchTag w h l).scanout = s.scanout := by
  obtain ⟨_, _, hlatch, _⟩ := wstate_off w
  simp [State.latchTag, hlatch]

@[simp] theorem State.applyWin_scanout (s : State) (u t0 w : Nat) : (s.applyWin u t0 w).scanout = s.scanout := by
  unfold State.applyWin
  dsimp only
  split
  · rfl
  · split
    · rfl
    · split
      · rfl
      · split
        · split <;> simp
        · simp

@[simp] theorem State.seal_scanout (s : State) (u : Nat) : (s.seal u).scanout = s.scanout := by
  unfold State.seal
  exact List.foldlRecOn (motive := fun t : State => t.scanout = s.scanout) _ _ rfl fun t ht g _ => by
    rw [State.setHead_scanout _ (by rfl), ht]

@[simp] theorem State.refuseBank_scanout (s : State) (u code h w : Nat) : (s.refuseBank u code h w).scanout = s.scanout := by
  unfold State.refuseBank
  extract_lets s1 s2 s3 x
  have hkey : ∀ k, 0x600000 ≤ 0x701010 + 0x20 * k := by omega
  have h2 : s2.scanout = s.scanout :=
    (State.put_scanout _ _ _ (.inr (hkey h))).trans ((State.putB_scanout _ _ _ (.inr (hkey h))).trans (State.put_scanout _ _ _ (.inr (hkey h))))
  have h3 : s3.scanout = s.scanout := by simp [s3, h2, F.COMP_REFUSE_COUNT]
  split
  · rw [State.seal_scanout, State.setUnit_scanout, h3]
  · rw [State.setUnit_scanout, h3]

@[simp] theorem State.applyBank_scanout (s : State) (u t0 : Nat) : (s.applyBank u t0).scanout = s.scanout := by
  unfold State.applyBank
  split
  · exact s.refuseBank_scanout ..
  · extract_lets s1 s2 x s3 s4
    have h1 : s1.scanout = s.scanout := State.scanout_foldl _ (fun t w => t.applyWin_scanout u t0 w) _ _
    have h2 : s2.scanout = s.scanout :=
      List.foldlRecOn (motive := fun t : State => t.scanout = s.scanout) _ _ h1 fun t ht g _ => by
        rw [State.setHead_scanout _ (by rfl), ht]
    have h3 : s3.scanout = s.scanout := (State.scanout_foldl _ (fun t h => t.countSnuffed_scanout h) _ _).trans h2
    split
    · rw [State.seal_scanout, State.setUnit_scanout]
      exact h3
    · exact h3

@[simp] theorem State.applyAtOnce_scanout (s : State) (u : Nat) : (s.applyAtOnce u).scanout = s.scanout := by
  simp [State.applyAtOnce]

end Sys2Proof.Machine
end

section
/-! The timing, the reference and the enable of a head (O27; R93 to R96, R131). -/
namespace Sys2Proof.Machine

/-! ### Timing registers (R93) -/

/-- The bits of HTIM, VTIM and RATE that software writes. -/
def timingMask : Fin 3 → Nat
  | 0 => 0x1FFF1FFF
  | 1 => 0x3FFF1FFF
  | 2 => 0xFFFFFFFF

/-- The key of HTIM, VTIM or RATE, `k` 0 to 2, and of CFG and REF behind them. -/
def timingKey (h k : Nat) : Nat := (F.HEAD_HTIM_HACTIVE h).key + 4 * k

theorem rowAt_timing : ∀ (h : Fin 48) (k : Fin 3), (rowAt 0 (timingKey h k)).map (fun r => r.1.rw ||| r.1.wk) = some (timingMask k) := by
  decide +kernel

theorem State.rwBits_timing (s : State) (h : Fin 48) (k : Fin 3) : s.rwBits (timingKey h k) = timingMask k := by
  have hrow := rowAt_timing h k
  have hctx : ctxLayout s.regs (timingKey h k) = 0 := by
    have hbelow : timingKey h k < 0xA80000 := by simp only [timingKey, F.HEAD_HTIM_HACTIVE]; omega
    simp [ctxLayout, isCtxOwn_below hbelow]
  unfold State.rwBits
  rw [hctx]
  split
  next h => simpa [h] using hrow
  next h => simp [h] at hrow

section
variable {s : State} {i : Initiator} {h : Fin 48} {k : Fin 3} {v : Word} (ha : Admits s i (timingKey h k))
include ha

/-- A write to a disabled head is taken whole, of VTIM and RATE while its span has no enabled head. -/
theorem exec_timingWrite_taken (hen : s.enabled h = false) (hspan : k = 0 ∨ ∀ p, s.spanOf h = some p → (s.members p).any s.enabled = false) :
    exec (.timingWrite i h k v) s = .next (s.writeBits (timingKey h k) (timingMask k) v) := by
  refine congrArg Host.Outcome.next ((State.asWrite_admitted v _ ha).trans ?_)
  unfold State.wrTiming
  extract_lets spanOn key
  have hopen : (k.val != 0 && spanOn) = false := by
    rcases hspan with rfl | hspan
    · rfl
    · have : spanOn = false := by
        unfold spanOn
        split
        next p hp => exact hspan p hp
        next => rfl
      simp [this]
  rw [hen, hopen, if_neg (by decide)]
  exact congrArg (s.writeBits _ · v) (s.rwBits_timing h k)

/-- What HTIM, VTIM or RATE hold once taken: fields of their masks, and nothing else has changed. -/
theorem reaches_timingWrite_taken (hen : s.enabled h = false)
    (hspan : k = 0 ∨ ∀ p, s.spanOf h = some p → (s.members p).any s.enabled = false) {p : State → Prop}
    (hp : p (s.writeBits (timingKey h k) (timingMask k) v)) :
    Reaches (.timingWrite i h k v) s (fun t => p t ∧ OnlyRegs [timingKey h k] s t) :=
  ⟨_, exec_timingWrite_taken ha hen hspan, hp, s.writeBits_onlyRegs ..⟩

/-- An enabled head keeps its timing and logs class 0x45. -/
theorem reaches_timingWrite_refused (hen : s.enabled h = true) :
    Reaches (.timingWrite i h k v) s (fun t => OnlyLogged [] s t ∧ ∃ r ∈ t.log.recent.head?, r.cls = 0x45) := by
  have heff : s.wrTiming h k v = s.headRec 0x45 h 0 := by
    unfold State.wrTiming
    rw [hen]
    rfl
  obtain ⟨r, hr, hcls, _⟩ := State.raise_newest s 0x45 ..
  exact ⟨_, congrArg Host.Outcome.next ((State.asWrite_admitted v _ ha).trans heff), (s.headRec_logOnly ..).onlyLogged_nil, r, hr, hcls⟩

end

theorem timingKey_vtim (h : Nat) : (F.HEAD_VTIM_VACTIVE h).key = timingKey h 1 := by
  simp only [F.HEAD_VTIM_VACTIVE, timingKey, F.HEAD_HTIM_HACTIVE]
  omega

theorem timingKey_rate (h : Nat) : (F.HEAD_RATE_NUM h).key = timingKey h 2 := by
  simp only [F.HEAD_RATE_NUM, timingKey, F.HEAD_HTIM_HACTIVE]
  omega

/-- A field of a timing register that its mask covers takes its bits of the value. -/
theorem State.get_timing (s : State) {h : Nat} {k : Fin 3} (v : Word) {f : Fld} (hkey : f.key = timingKey h k) (hw : f.lo + f.w ≤ 32)
    (hm : ∀ i < f.w, (timingMask k).testBit (f.lo + i) = true) :
    (s.writeBits (timingKey h k) (timingMask k) v).get f = v.toNat / 2 ^ f.lo % 2 ^ f.w := hkey ▸ s.get_writeBits v hw hm

/-- The same of a field that begins its register. -/
theorem State.get_timing_first (s : State) {h : Nat} {k : Fin 3} (v : Word) {f : Fld} (hlo : f.lo = 0) (hkey : f.key = timingKey h k)
    (hw : f.w ≤ 32) (hm : ∀ i < f.w, (timingMask k).testBit i = true) :
    (s.writeBits (timingKey h k) (timingMask k) v).get f = v.toNat % 2 ^ f.w := by
  rw [s.get_timing v hkey (by omega) (by simpa [hlo] using hm), hlo, pow_zero, Nat.div_one]

/-! ### The reference register (R96) -/

/-- A write of the low `j` bits takes them of the value and keeps the others. -/
theorem State.toNat_writeBits_low (s : State) (key : Nat) (v : Word) {j : Nat} (hj : j ≤ 32) :
    ((s.writeBits key (2 ^ j - 1) v).reg key).toNat % 2 ^ j = v.toNat % 2 ^ j ∧
      ((s.writeBits key (2 ^ j - 1) v).reg key).toNat / 2 ^ j = (s.reg key).toNat / 2 ^ j := by
  constructor
  all_goals
    apply Nat.eq_of_testBit_eq
    intro i
  · simp only [Nat.testBit_mod_two_pow, BitVec.testBit_toNat]
    by_cases hi : i < j
    · simp [hi, State.getLsbD_writeBits _ _ (show i < 32 by omega), Nat.testBit_two_pow_sub_one]
    · simp [hi]
  · simp only [Nat.testBit_div_two_pow, BitVec.testBit_toNat]
    by_cases hi : i + j < 32
    · simp [State.getLsbD_writeBits _ _ hi, Nat.testBit_two_pow_sub_one]
    · rw [BitVec.getLsbD_of_ge _ _ (by omega), BitVec.getLsbD_of_ge _ _ (by omega)]

theorem reaches_refWrite {s : State} {i : Initiator} {h : Fin 48} {v : Word} (ha : Admits s i (timingKey h 4)) :
    Reaches (.refWrite i h v) s (fun t => (t.reg (timingKey h 4)).toNat % 2 ^ 7 = v.toNat % 2 ^ 7 ∧
      (t.reg (timingKey h 4)).toNat / 2 ^ 7 = (s.reg (timingKey h 4)).toNat / 2 ^ 7 ∧ OnlyRegs [timingKey h 4] s t) := by
  have hkey : timingKey h 4 = (F.HEAD_REF_SRC h).key := by simp only [timingKey, F.HEAD_HTIM_HACTIVE, F.HEAD_REF_SRC]; omega
  rw [hkey] at ha ⊢
  obtain ⟨hlow, hhigh⟩ := s.toNat_writeBits_low (F.HEAD_REF_SRC h).key v (j := 7) (by decide)
  exact ⟨_, congrArg Host.Outcome.next (State.asWrite_admitted v _ ha), hlow, hhigh, s.writeBits_onlyRegs ..⟩

/-! ### Enabling a head (R94) -/

/-- The head's CFG fields as the value `n` gives them, before the checks of R94. -/
def State.cfgTaken (s : State) (h n : Nat) : State :=
  ((s.put (F.HEAD_CFG_FHOLD h) (n / 2 ^ 4)).put (F.HEAD_CFG_DEPTH h) (n / 2)).put (F.HEAD_CFG_DEADLINE h) (n / 2 ^ 16)

/-- CFG holds DEPTH, DEADLINE and FHOLD of the value `n`. -/
def CfgHolds (h n : Nat) (t : State) : Prop :=
  t.get (F.HEAD_CFG_DEPTH h) = n / 2 % 4 ∧ t.get (F.HEAD_CFG_DEADLINE h) = n / 2 ^ 16 % 2 ^ 14 ∧ t.get (F.HEAD_CFG_FHOLD h) = n / 2 ^ 4 % 4

/-- A write of CFG cuts the fields out of its value first. -/
theorem State.cfgTaken_of_bits (s : State) (h n : Nat) :
    ((s.put (F.HEAD_CFG_FHOLD h) (bits n 4 2)).put (F.HEAD_CFG_DEPTH h) (bits n 1 2)).put (F.HEAD_CFG_DEADLINE h) (bits n 16 14) =
      s.cfgTaken h n := by
  have hfhold (t : State) : t.put (F.HEAD_CFG_FHOLD h) (bits n 4 2) = t.put (F.HEAD_CFG_FHOLD h) (n / 2 ^ 4) := t.put_bits _ n 4
  have hdepth (t : State) : t.put (F.HEAD_CFG_DEPTH h) (bits n 1 2) = t.put (F.HEAD_CFG_DEPTH h) (n / 2 ^ 1) := t.put_bits _ n 1
  have hdeadline (t : State) : t.put (F.HEAD_CFG_DEADLINE h) (bits n 16 14) = t.put (F.HEAD_CFG_DEADLINE h) (n / 2 ^ 16) := t.put_bits _ n 16
  rw [hfhold, hdepth, hdeadline, Nat.pow_one]
  rfl

theorem State.cfgTaken_holds (s : State) (h n : Nat) : CfgHolds h n (s.cfgTaken h n) := by
  simp [CfgHolds, State.cfgTaken, State.get_put_same, State.get_put_disj, F.HEAD_CFG_DEPTH, F.HEAD_CFG_DEADLINE, F.HEAD_CFG_FHOLD]

theorem State.put_fhold_enabled (s : State) (h v : Nat) : (s.put (F.HEAD_CFG_FHOLD h) v).enabled h = s.enabled h :=
  s.on_put_disj _ _ v (by decide : 4 + 2 ≤ 32) rfl (.inr (by decide : 0 + 1 ≤ 4))

theorem State.cfgTaken_enabled (s : State) (h n : Nat) : (s.cfgTaken h n).enabled h = s.enabled h := by
  simp [State.enabled, State.cfgTaken, State.on_put_disj, F.HEAD_CFG_ENABLE, F.HEAD_CFG_DEPTH, F.HEAD_CFG_DEADLINE, F.HEAD_CFG_FHOLD]

theorem State.cfgTaken_mode (s : State) {h : Nat} (hh : h < 48) (n : Nat) : (s.cfgTaken h n).mode = s.mode := by
  have hne : 0 ≠ 0x50100C + 0x80 * h := by omega
  simp [State.mode, State.cfgTaken, State.get_put_ne, isCtxOwn_below, hne, F.SYS_MODE_MODE, F.HEAD_CFG_DEPTH, F.HEAD_CFG_DEADLINE, F.HEAD_CFG_FHOLD]

theorem CfgHolds.of_reg {h n : Nat} {s t : State} (hs : CfgHolds h n s) (hr : t.reg (F.HEAD_CFG_ENABLE h).key = s.reg (F.HEAD_CFG_ENABLE h).key) :
    CfgHolds h n t := by
  obtain ⟨hdepth, hdeadline, hfhold⟩ := hs
  exact ⟨(congrArg (F.HEAD_CFG_DEPTH h).of hr).trans hdepth, (congrArg (F.HEAD_CFG_DEADLINE h).of hr).trans hdeadline,
    (congrArg (F.HEAD_CFG_FHOLD h).of hr).trans hfhold⟩

theorem CfgHolds.putB_enable {h n : Nat} {s : State} (hs : CfgHolds h n s) (b : Bool) : CfgHolds h n (s.putB (F.HEAD_CFG_ENABLE h) b) := by
  simpa [CfgHolds, State.putB, State.get_put_disj, F.HEAD_CFG_ENABLE, F.HEAD_CFG_DEPTH, F.HEAD_CFG_DEADLINE, F.HEAD_CFG_FHOLD] using hs

theorem State.putB_enable_enabled (s : State) (h : Nat) (b : Bool) : (s.putB (F.HEAD_CFG_ENABLE h) b).enabled h = b :=
  s.on_putB_same _ b rfl (by decide : 0 + 1 ≤ 32)

theorem cfg_block {h : Nat} (hh : h < 48) : (F.HEAD_CFG_ENABLE h).key / 0x100000 = 5 := by simp only [F.HEAD_CFG_ENABLE]; omega

/-- A write with ENABLE set to a disabled head outside SERVICE checks the fields it takes. -/
theorem State.wrHeadCfg_enable {s : State} {h : Nat} {v : Word} (hh : h < 48) (hbit : v.toNat % 2 = 1) (hen : s.enabled h = false)
    (hmode : s.mode ≠ 11) :
    s.wrHeadCfg h v = if (s.cfgTaken h v.toNat).enableCode h = 0 then (s.cfgTaken h v.toNat).headOn h
      else (s.cfgTaken h v.toNat).headRec 0x45 h ((s.cfgTaken h v.toNat).enableCode h) := by
  have hfhold : (s.put (F.HEAD_CFG_FHOLD h) (bits v.toNat 4 2)).enabled h = false :=
    (s.put_fhold_enabled ..).trans hen
  have hbit0 : bitAt v.toNat 0 = true := bitAt_eq_true.2 (by simpa using hbit)
  have hmode' : ¬(s.cfgTaken h v.toNat).mode = modeService := by rwa [s.cfgTaken_mode hh]
  unfold State.wrHeadCfg
  dsimp only
  rw [hfhold, s.cfgTaken_of_bits, hbit0, if_neg (by decide), if_neg (by decide), if_neg hmode']
  by_cases hc : (s.cfgTaken h v.toNat).enableCode h = 0
  · simp [hc]
  · simp [hc]

theorem State.headOn_reg (s : State) (h : Nat) {k : Nat} (hk : k / 0x100000 = 5) :
    (s.headOn h).reg k = (s.putB (F.HEAD_CFG_ENABLE h) true).reg k := by
  unfold State.headOn
  exact State.reg_of_scanout ((State.updMode_scanout _).trans (State.judgeLate_scanout ..)) hk

theorem State.headRec_logs (s : State) (cls h code : Nat) :
    ∃ r ∈ (s.headRec cls h code).log.recent.head?, r.cls = cls ∧ r.detail / 2 ^ 24 = code := by
  obtain ⟨r, hr, hcls, _, _, hdet⟩ := State.raise_newest ..
  refine ⟨r, hr, hcls, ?_⟩
  rw [hdet, rasterDet]
  omega

theorem reaches_headEnable {s : State} {i : Initiator} {h : Fin 48} {v : Word} (ha : Admits s i (timingKey h 3)) (hbit : v.toNat % 2 = 1)
    (hen : s.enabled h = false) (hmode : s.mode ≠ 11) :
    Reaches (.headEnable i h v) s (fun t => CfgHolds h v.toNat t ∧ (t.enabled h = true ↔ (s.cfgTaken h v.toNat).enableCode h = 0) ∧
      ((s.cfgTaken h v.toNat).enableCode h ≠ 0 →
        ∃ r ∈ t.log.recent.head?, r.cls = 0x45 ∧ r.detail / 2 ^ 24 = (s.cfgTaken h v.toNat).enableCode h)) := by
  have hkey : timingKey h 3 = (F.HEAD_CFG_ENABLE h).key := by simp only [timingKey, F.HEAD_HTIM_HACTIVE, F.HEAD_CFG_ENABLE]; omega
  rw [hkey] at ha
  refine ⟨_, congrArg Host.Outcome.next ((State.asWrite_admitted v _ ha).trans (State.wrHeadCfg_enable h.isLt hbit hen hmode)), ?_⟩
  have hholds := s.cfgTaken_holds h v.toNat
  split
  next hc =>
    have hreg := (s.cfgTaken h v.toNat).headOn_reg h (cfg_block h.isLt)
    refine ⟨(hholds.putB_enable true).of_reg hreg, iff_of_true ?_ hc, fun hne => absurd hc hne⟩
    exact (State.on_of_get (congrArg (F.HEAD_CFG_ENABLE h).of hreg)).trans (State.putB_enable_enabled ..)
  next hc =>
    have hreg : ((s.cfgTaken h v.toNat).headRec 0x45 h ((s.cfgTaken h v.toNat).enableCode h)).reg (F.HEAD_CFG_ENABLE h).key =
        (s.cfgTaken h v.toNat).reg (F.HEAD_CFG_ENABLE h).key :=
      State.reg_of_scanout (State.headRec_logOnly ..).scanout (cfg_block h.isLt)
    refine ⟨hholds.of_reg hreg, iff_of_false ?_ hc, fun _ => State.headRec_logs ..⟩
    unfold State.enabled
    rw [State.on_of_get (congrArg (F.HEAD_CFG_ENABLE h).of hreg)]
    exact Bool.not_eq_true _ ▸ (s.cfgTaken_enabled h v.toNat).trans hen

/-! ### Disabling a head (R95) -/

/-- A head with ENABLE 0 that sends no line. -/
def State.headEnded (s : State) (h : Nat) : State :=
  let s := s.putB (F.HEAD_CFG_ENABLE h) false
  let s := s.setTb h { s.tb h with sending := false }
  s.setHead h { s.head h with composed := {}, stepHold := 0, hist := [] }

theorem State.headOff_scanout (s : State) (h : Nat) : (s.headOff h).scanout = (s.headEnded h).scanout := by
  unfold State.headOff
  extract_lets s1 b s2 x s3 s4 u s5 s6
  have h4 : s4.scanout = s3.scanout := by simp [s4]
  have h5 : s5.scanout = s3.scanout := by simp [s5, h4]
  have h6 : s6.scanout = s3.scanout := (s5.countSnuffed_scanout h).trans h5
  rw [State.updMode_scanout, State.scanout_ite, State.vigilTake_scanout, ite_self, h6]
  rfl

theorem State.headOff_ends (s : State) {h : Nat} (hh : h < 48) :
    (s.headOff h).enabled h = false ∧ ((s.headOff h).tb h).sending = false ∧ ((s.headOff h).head h).composed.full = false := by
  have hs := s.headOff_scanout h
  refine ⟨?_, ?_, ?_⟩
  · exact (State.on_of_get (State.get_of_scanout hs _ (cfg_block hh))).trans (State.putB_enable_enabled ..)
  · rw [State.tb_of_scanout hs h]
    exact congrArg Timebase.sending (State.tb_setTb_same ..)
  · rw [State.composed_of_scanout hs h]
    exact congrArg (fun x => x.composed.full) (State.head_setHead_same ..)

theorem reaches_headDisable {s : State} {i : Initiator} {h : Fin 48} {v : Word} (ha : Admits s i (timingKey h 3)) (hbit : v.toNat % 2 = 0)
    (hen : s.enabled h = true) :
    Reaches (.headDisable i h v) s (fun t => t.enabled h = false ∧ (t.tb h).sending = false ∧ (t.head h).composed.full = false) := by
  have hkey : timingKey h 3 = (F.HEAD_CFG_ENABLE h).key := by simp only [timingKey, F.HEAD_HTIM_HACTIVE, F.HEAD_CFG_ENABLE]; omega
  rw [hkey] at ha
  have heff : s.wrHeadCfg h v = (s.put (F.HEAD_CFG_FHOLD h) (bits v.toNat 4 2)).headOff h := by
    have hfhold : (s.put (F.HEAD_CFG_FHOLD h) (bits v.toNat 4 2)).enabled h = true :=
      (s.put_fhold_enabled ..).trans hen
    have hbit0 : bitAt v.toNat 0 = false := Bool.eq_false_iff.2 fun hb => by
      have := bitAt_eq_true.1 hb
      omega
    unfold State.wrHeadCfg
    dsimp only
    rw [hfhold, hbit0, if_pos rfl, if_neg (by decide)]
  exact ⟨_, congrArg Host.Outcome.next ((State.asWrite_admitted v _ ha).trans heff), State.headOff_ends _ h.isLt⟩

/-- Settles O27: each timing register takes its fields through the mask of its row; what follows an enable or a disable leaves the
registers of the head, its timebase and its composed line alone. -/
theorem headRegisters : Obligations.HeadRegisters := by
  unfold Obligations.HeadRegisters
  intro i h v s
  refine ⟨fun ha hen hspan => reaches_timingWrite_taken ha hen hspan ⟨?_, ?_⟩, fun ha hen hspan => reaches_timingWrite_taken ha hen hspan ⟨?_, ?_⟩,
    fun ha hen hspan => reaches_timingWrite_taken ha hen hspan ⟨?_, ?_⟩, fun k ha hen => reaches_timingWrite_refused ha hen,
    reaches_refWrite, fun ha hbit hen hmode => ?_, reaches_headDisable⟩
  · exact s.get_timing_first v (f := F.HEAD_HTIM_HACTIVE h) rfl rfl (by decide : 13 ≤ 32) (by decide : ∀ i < 13, (timingMask 0).testBit i = true)
  · exact s.get_timing v (k := 0) (f := F.HEAD_HTIM_HTOTAL h) rfl (by decide : 16 + 13 ≤ 32)
      (by decide : ∀ i < 13, (timingMask 0).testBit (16 + i) = true)
  · exact s.get_timing_first v (f := F.HEAD_VTIM_VACTIVE h) rfl (timingKey_vtim h) (by decide : 13 ≤ 32)
      (by decide : ∀ i < 13, (timingMask 1).testBit i = true)
  · exact s.get_timing v (k := 1) (f := F.HEAD_VTIM_VTOTAL h) (timingKey_vtim h) (by decide : 16 + 14 ≤ 32)
      (by decide : ∀ i < 14, (timingMask 1).testBit (16 + i) = true)
  · exact s.get_timing_first v (f := F.HEAD_RATE_NUM h) rfl (timingKey_rate h) (by decide : 16 ≤ 32)
      (by decide : ∀ i < 16, (timingMask 2).testBit i = true)
  · exact s.get_timing v (k := 2) (f := F.HEAD_RATE_DEN h) (timingKey_rate h) (by decide : 16 + 16 ≤ 32)
      (by decide : ∀ i < 16, (timingMask 2).testBit (16 + i) = true)
  · obtain ⟨t, ht, ⟨hdepth, hdeadline, hfhold⟩, hon, hlogs⟩ := reaches_headEnable ha hbit hen hmode
    exact ⟨t, ht, hdepth, hdeadline, hfhold, hon, hlogs⟩

end Sys2Proof.Machine
end

section
/-! The end of an apply and the frames of a console (O28). -/
namespace Sys2Proof.Machine

/-- A unit whose apply ends while lane 0, live on context 0, holds a console frame that waits for its mark (R284). -/
def consoleWaiting : State :=
  { st [(F.CTX_CTRL_KIND 0, 4), (F.CTX_STATUS_STATE 0, 2)] with
    units := [(0, { applying := true })], lanes := [(0, { con := some { fseq := 1, markDue := true } })] }

/-- Whether the console frame of lane 0 still waits for its mark. -/
def State.conWaits (s : State) : Option Bool := (s.lane 0).con.map ConFrame.markDue

theorem consoleWaiting_no_pipe : ∀ p, p < 16 → (consoleWaiting.pipe p).markDue = false := by decide

theorem consoleWaiting_marked : ((consoleWaiting.advance 0).applyDone 0).conWaits = some false := by decide +kernel

theorem consoleWaiting_waits : ((consoleWaiting.advance 0).setUnit 0 { consoleWaiting.unit 0 with applying := false }).conWaits = some true := by
  decide +kernel

/-- Refutes O28: APPLY_DONE also marks the frame of a console that waits, as R284 asks, though no decode pipe waits. The clause lacks
that hypothesis. -/
theorem not_commitUnits : ¬ Obligations.CommitUnits := by
  unfold Obligations.CommitUnits
  intro h
  obtain ⟨-, -, -, -, hdone⟩ := h keeper 0 0 0 0 consoleWaiting
  have hsame : (consoleWaiting.advance 0).applyDone 0 =
      (consoleWaiting.advance 0).setUnit 0 { consoleWaiting.unit 0 with applying := false } :=
    Host.Outcome.next.inj (hdone consoleWaiting_no_pipe)
  have hmarked := consoleWaiting_marked
  rw [hsame, consoleWaiting_waits] at hmarked
  cases hmarked

end Sys2Proof.Machine
end

section
/-! Commits as they hold: O28 with no console waiting (R116 to R121, R230, R231, R284). -/
namespace Sys2Proof.Machine

/-! ### What leaves the banks alone -/

/-- What the commit units hold: the windows with their images, and the state of each unit. -/
def State.banks (s : State) : Tab Win × Tab CommitUnit := (s.wins, s.units)

section
variable {s t : State} (hs : t.banks = s.banks)
include hs

theorem State.wins_of_banks : t.wins = s.wins := congrArg Prod.fst hs
theorem State.win_of_banks (w : Nat) : t.win w = s.win w := congrArg (fun p : Tab Win × Tab CommitUnit => tabGet ({} : Win) p.1 w) hs
theorem State.unit_of_banks (u : Nat) : t.unit u = s.unit u := congrArg (fun p : Tab Win × Tab CommitUnit => tabGet ({} : CommitUnit) p.2 u) hs

end

@[simp] theorem State.banks_ite {c : Prop} [Decidable c] (s t : State) : (if c then s else t).banks = if c then s.banks else t.banks :=
  apply_ite _ _ _ _

@[simp] theorem State.banks_foldl {α : Type} (f : State → α → State) (h : ∀ s a, (f s a).banks = s.banks) (l : List α) (s : State) :
    (l.foldl f s).banks = s.banks :=
  List.foldlRecOn (motive := fun t : State => t.banks = s.banks) l f rfl fun t ht a _ => (h t a).trans ht

@[simp] theorem State.put_banks (s : State) (f : Fld) (v : Nat) : (s.put f v).banks = s.banks := (rfl)
@[simp] theorem State.putB_banks (s : State) (f : Fld) (b : Bool) : (s.putB f b).banks = s.banks := (rfl)
@[simp] theorem State.putBit_banks (s : State) (f : Fld) (i : Nat) (b : Bool) : (s.putBit f i b).banks = s.banks := (rfl)
@[simp] theorem State.bump_banks (s : State) (f : Fld) : (s.bump f).banks = s.banks := (rfl)
@[simp] theorem State.setPipe_banks (s : State) (p : Nat) (x : Pipe) : (s.setPipe p x).banks = s.banks := (rfl)
@[simp] theorem State.setLane_banks (s : State) (l : Nat) (x : Lane) : (s.setLane l x).banks = s.banks := (rfl)
@[simp] theorem State.setCtx_banks (s : State) (c : Nat) (x : Ctx) : (s.setCtx c x).banks = s.banks := (rfl)

theorem RegsOnly.banks {s t : State} (h : RegsOnly s t) : t.banks = s.banks := by obtain ⟨_, _, rfl⟩ := h; rfl
theorem LogOnly.banks {s t : State} (h : LogOnly s t) : t.banks = s.banks := by obtain ⟨_, _, rfl, _⟩ := h; rfl

@[simp] theorem State.raise_banks (s : State) (cls a1 a2 d : Nat) (lim : Option Nat) : (s.raise cls a1 a2 d lim).banks = s.banks :=
  (s.raise_logOnly ..).banks
@[simp] theorem State.unitRead_banks (s : State) (src : Src) (a n : Nat) : (s.unitRead src a n).2.banks = s.banks :=
  (s.unitRead_regsOnly ..).banks

theorem State.unitPut_banks (s : State) (src : Src) (a : Nat) (bs : List Byte) : (s.unitPut src a bs).banks = s.banks := by
  unfold State.unitPut
  split <;> rfl

@[simp] theorem State.unitWrite_banks (s : State) (src : Src) (a : Nat) (bs : List Byte) : (s.unitWrite src a bs).2.banks = s.banks := by
  unfold State.unitWrite
  refine List.foldlRecOn (motive := fun p : Bool × State => p.2.banks = s.banks) _ _ rfl fun p hp t _ => ?_
  have hcheck := (p.2.initCheck_regsOnly src .write t.1 t.2).banks.trans hp
  dsimp only
  split
  · exact (State.unitPut_banks ..).trans hcheck
  · exact hcheck

/-! ### Marks of pipes and consoles (R47, R284, R371) -/

@[simp] theorem State.openSurface_banks (s : State) (src : Src) (t : Tag) : (s.openSurface src t).banks = s.banks := by
  simp [State.openSurface]

@[simp] theorem State.closeSurface_banks (s : State) (src : Src) (t : Tag) (a : Nat) : (s.closeSurface src t a).banks = s.banks :=
  (State.unitWrite_banks ..).trans ((State.unitWrite_banks ..).trans (State.unitWrite_banks ..))

@[simp] theorem State.markSlot_banks (s : State) (src : Src) (kind c j : Nat) (con : Bool) (fmt : Nat) :
    (s.markSlot src kind c j con fmt).banks = s.banks :=
  (State.openSurface_banks ..).trans rfl

@[simp] theorem State.pipeMark_banks (s : State) (p : Nat) : (s.pipeMark p).banks = s.banks := by
  unfold State.pipeMark
  dsimp only
  split
  · split
    · rfl
    · exact (State.markSlot_banks ..).trans rfl
  · rfl

@[simp] theorem State.conDrop_banks (s : State) (l code f : Nat) : (s.conDrop l code f).banks = s.banks := by
  simp [State.conDrop, State.laneRec]

@[simp] theorem State.conMark_banks (s : State) (l : Nat) : (s.conMark l).banks = s.banks := by
  unfold State.conMark
  split
  · split
    · rfl
    · split
      · simp
      · exact (State.banks_foldl _ (fun t e => t.unitWrite_banks ..) _ _).trans ((State.markSlot_banks ..).trans rfl)
  · rfl

@[simp] theorem State.queueCopies_banks (s : State) (c : Nat) (l : Latched) : (s.queueCopies c l).banks = s.banks := by
  refine State.banks_foldl _ (fun t k => ?_) _ _
  split
  · rfl
  · simp [State.dropCopy]

@[simp] theorem State.conEnd_banks (s : State) (l : Nat) (k : ConFrame) : (s.conEnd l k).banks = s.banks := by
  simp [State.conEnd]

@[simp] theorem State.conApplied_banks (s : State) (l : Nat) : (s.conApplied l).banks = s.banks := by
  unfold State.conApplied
  dsimp only
  split <;> simp

theorem State.applyDone_banks (s : State) (u : Nat) : (s.applyDone u).banks = (s.setUnit u { s.unit u with applying := false }).banks := by
  simp [State.applyDone]

/-- A pipe that owes no mark stays as it is. -/
theorem State.pipeMark_idle {s : State} {p : Nat} (h : (s.pipe p).markDue = false) : s.pipeMark p = s := by
  unfold State.pipeMark
  dsimp only
  split
  · simp [h]
  · rfl

/-- No console frame of lane `l` waits for an apply. -/
def State.conIdle (s : State) (l : Nat) : Prop := ∀ k, (s.lane l).con = some k → k.markDue = false ∧ k.ended = false

theorem State.conMark_idle {s : State} {l : Nat} (h : s.conIdle l) : s.conMark l = s := by
  unfold State.conMark
  split
  next k hk => simp [(h k hk).1]
  next => rfl

theorem State.conApplied_idle {s : State} {l : Nat} (h : s.conIdle l) : s.conApplied l = s := by
  unfold State.conApplied
  rw [State.conMark_idle h]
  dsimp only
  split
  next k hk => simp [(h k hk).2]
  next => rfl

theorem foldl_fixed {α : Type} {f : State → α → State} {s : State} {l : List α} (h : ∀ a ∈ l, f s a = s) : l.foldl f s = s :=
  List.foldlRecOn (motive := (· = s)) l f rfl fun t ht a ha => by rw [ht, h a ha]

theorem State.applyDone_idle {s : State} {u : Nat} (hpipe : ∀ p, p < 16 → (s.pipe p).markDue = false) (hcon : ∀ l, l < 64 → s.conIdle l) :
    s.applyDone u = s.setUnit u { s.unit u with applying := false } := by
  have hpipes : (List.range 16).foldl (fun s p => s.pipeMark p) (s.setUnit u { s.unit u with applying := false }) =
      s.setUnit u { s.unit u with applying := false } :=
    foldl_fixed fun p hp => State.pipeMark_idle (hpipe p (List.mem_range.1 hp))
  unfold State.applyDone
  rw [hpipes]
  exact foldl_fixed fun l hl => State.conApplied_idle (hcon l (List.mem_range.1 hl))

/-! ### A bank that applies (R120, R229 to R232) -/

/-- The unit of a window, its active image and its sealed one. -/
def Win.images (x : Win) : Option Nat × Option (List Word) × Option WinBank := (x.unit, x.act, x.sealed)

@[simp] theorem State.choose_banks (s : State) (ws : List Word) (cur : Option Latched) (t0 : Nat) : (s.choose ws cur t0).2.banks = s.banks := by
  refine List.foldlRecOn (motive := fun p : List Latched × State => p.2.banks = s.banks) _ _ rfl fun p hp a _ => ?_
  split
  all_goals
    next h => exact ((congrArg (fun q => q.2.banks) h).symm.trans (State.unitRead_banks ..)).trans hp

@[simp] theorem State.vigilRec_banks (s : State) (cls w h line v r : Nat) : (s.vigilRec cls w h line v r).banks = s.banks := by
  simp [State.vigilRec]

/-- The images of a window that is written anew are those of what it is written with. -/
theorem State.images_setWin {s : State} {w : Nat} {x : Win} (hx : x.images = (s.win w).images) (j : Nat) :
    ((s.setWin w x).win j).images = (s.win j).images := by
  by_cases hj : j = w
  · rw [hj, State.win_setWin_same, hx]
  · rw [State.win_setWin_ne _ _ _ _ hj]

/-- A tag that is latched leaves every image alone. -/
theorem State.latchTag_images (s : State) (w h : Nat) (l : Latched) (j : Nat) : ((s.latchTag w h l).win j).images = (s.win j).images := by
  unfold State.latchTag
  extract_lets x t old changed fresh newStream adv back x' s1 s2
  have h1 : (s1.win j).images = (s.win j).images := State.images_setWin (x := x') rfl j
  have h2 : s2.banks = s1.banks := by simp [s2]
  split
  · rw [State.win_of_banks ((State.vigilRec_banks ..).trans h2), h1]
  · rw [State.win_of_banks h2, h1]

theorem State.latchTag_units (s : State) (w h : Nat) (l : Latched) : (s.latchTag w h l).units = s.units := by
  unfold State.latchTag
  extract_lets x t old changed fresh newStream adv back x' s1 s2
  have h2 : s2.banks = s1.banks := by simp [s2]
  split
  · exact congrArg Prod.snd ((State.vigilRec_banks ..).trans h2)
  · exact congrArg Prod.snd h2

/-- Window `w` once the image `b` is its active one. -/
def State.winShown (s : State) (w : Nat) (b : WinBank) : Win :=
  let x := s.win w
  let x := match x.act with
    | some o => if wKind o != wKind b.words || wSrc o != wSrc b.words then dropSource x else x
    | none => { dropPicture x with bounds := s.boundsOf b.words }
  { x with act := some b.words, sealed := none }

/-- What follows once window `w` shows the image `b`: the record of a bad treatment, and the picture that an arming picks. -/
def State.shownPick (s : State) (w t0 : Nat) (b : WinBank) : State :=
  let s := if badTreat b.words then s.vigilRec 0x3B w (wHead b.words) (s.lineOf (wHead b.words)) 0 0 else s
  if b.arm && supervised b.words then
    let p := s.choose b.words (s.win w).tag t0
    match p.1 with
    | some l => p.2.latchTag w (wHead b.words) l
    | none => p.2
  else s

theorem State.winShown_images (s : State) (w : Nat) (b : WinBank) : (s.winShown w b).images = ((s.win w).unit, some b.words, none) := by
  unfold State.winShown
  dsimp only
  split
  · split <;> rfl
  · rfl

theorem State.shownPick_kept (s : State) (w t0 : Nat) (b : WinBank) :
    (∀ j, ((s.shownPick w t0 b).win j).images = (s.win j).images) ∧ (s.shownPick w t0 b).units = s.units := by
  unfold State.shownPick
  extract_lets s1 p
  have h1 : s1.banks = s.banks := by simp [s1]
  have h2 : p.2.banks = s.banks := (State.choose_banks ..).trans h1
  split
  · split
    · refine ⟨fun j => ?_, (State.latchTag_units ..).trans (congrArg Prod.snd h2)⟩
      rw [State.latchTag_images, State.win_of_banks h2]
    · exact ⟨fun j => by rw [State.win_of_banks h2], congrArg Prod.snd h2⟩
  · exact ⟨fun j => by rw [State.win_of_banks h1], congrArg Prod.snd h1⟩

/-- A window whose sealed image of words `ws` is to become the active one when unit `u` applies. -/
def Win.Shows (x : Win) (u : Nat) (ws : List Word) : Prop :=
  ∃ b, x.sealed = some b ∧ x.unit = some u ∧ b.remove = false ∧ b.words = ws ∧ wPlaced ws = true

/-- An apply writes window `w` alone, and one that shows its sealed image has it as the active one. -/
theorem State.applyWin_writes (s : State) (u t0 w : Nat) : ∃ x : Win, (∀ j, ((s.applyWin u t0 w).win j).images = ((s.setWin w x).win j).images) ∧
    (s.applyWin u t0 w).units = s.units ∧ ∀ ws, (s.win w).Shows u ws → x.images = (some u, some ws, none) := by
  have hkept (j : Nat) : (s.win j).images = ((s.setWin w (s.win w)).win j).images := (State.images_setWin rfl j).symm
  unfold State.applyWin
  extract_lets x y z
  split
  next hnone => exact ⟨s.win w, hkept, rfl, fun ws ⟨b, hb, _⟩ => nomatch hnone.symm.trans hb⟩
  next b hb =>
    split
    next hne => exact ⟨s.win w, hkept, rfl, fun ws ⟨_, _, hu, _⟩ => by simp [x, hu] at hne⟩
    next hu =>
      split
      next hgone =>
        refine ⟨_, fun j => rfl, rfl, fun ws ⟨b', hb', _, hr, hw, hp⟩ => ?_⟩
        obtain rfl : b = b' := Option.some.inj (hb.symm.trans hb')
        simp [hr, hw, hp] at hgone
      next hplaced =>
        obtain ⟨himages, hunits⟩ := (s.setWin w (s.winShown w b)).shownPick_kept w t0 b
        refine ⟨s.winShown w b, himages, hunits, fun ws ⟨b', hb', hu', _, hw, _⟩ => ?_⟩
        obtain rfl : b = b' := Option.some.inj (hb.symm.trans hb')
        rw [State.winShown_images, hu', hw]

theorem State.applyWin_unsealed {s : State} {w : Nat} (u t0 : Nat) (h : (s.win w).sealed = none) : s.applyWin u t0 w = s := by
  unfold State.applyWin
  extract_lets x y z
  split
  next => rfl
  next b hb => exact nomatch h.symm.trans hb

theorem State.applyWin_other (s : State) (u t0 : Nat) {w j : Nat} (hj : j ≠ w) : ((s.applyWin u t0 w).win j).images = (s.win j).images := by
  obtain ⟨x, hwrites, _⟩ := s.applyWin_writes u t0 w
  rw [hwrites, State.win_setWin_ne _ _ _ _ hj]

theorem Win.Shows.of_images {x y : Win} {u : Nat} {ws : List Word} (h : x.Shows u ws) (hi : y.images = x.images) : y.Shows u ws := by
  obtain ⟨b, hb, hu, hrest⟩ := h
  have hunit : y.unit = x.unit := congrArg Prod.fst hi
  have hsealed : y.sealed = x.sealed := congrArg (fun p => p.2.2) hi
  exact ⟨b, hsealed.trans hb, hunit.trans hu, hrest⟩

theorem State.applyWins_units (u t0 : Nat) (l : List Nat) (s : State) : (l.foldl (fun s w => s.applyWin u t0 w) s).units = s.units :=
  List.foldlRecOn (motive := fun t : State => t.units = s.units) l _ rfl fun t ht w _ => by
    obtain ⟨_, _, hunits, _⟩ := t.applyWin_writes u t0 w
    exact hunits.trans ht

/-- An active image that has nothing sealed behind it stays through the apply of other windows. -/
theorem State.applyWins_keep (u t0 : Nat) {w : Nat} (l : List Nat) (s : State) {i : Option Nat × Option (List Word)}
    (h : (s.win w).images = (i.1, i.2, none)) : ((l.foldl (fun s w => s.applyWin u t0 w) s).win w).images = (i.1, i.2, none) :=
  List.foldlRecOn (motive := fun t : State => (t.win w).images = (i.1, i.2, none)) l _ h fun t ht j _ => by
    by_cases hj : w = j
    · have hsealed : (t.win j).sealed = none := hj ▸ congrArg (fun p => p.2.2) ht
      rw [State.applyWin_unsealed u t0 hsealed, ht]
    · rw [State.applyWin_other _ _ _ hj, ht]

theorem State.applyWins_show (u t0 : Nat) {w : Nat} {ws : List Word} {l : List Nat} (hw : w ∈ l) {s : State} (h : (s.win w).Shows u ws) :
    ((l.foldl (fun s w => s.applyWin u t0 w) s).win w).images = (some u, some ws, none) := by
  induction l generalizing s with
  | nil => cases hw
  | cons j l ih =>
    by_cases hj : w = j
    · obtain ⟨x, hwrites, _, himages⟩ := s.applyWin_writes u t0 w
      refine State.applyWins_keep u t0 l (s.applyWin u t0 j) (i := (some u, some ws)) ?_
      rw [← hj, hwrites, State.win_setWin_same]
      exact himages ws h
    · exact ih ((List.mem_cons.1 hw).resolve_left hj) (h.of_images (State.applyWin_other _ _ _ hj))

theorem mem_keys_of_sealed {s : State} {w : Nat} {b : WinBank} (h : (s.win w).sealed = some b) : w ∈ s.wins.map (fun e => e.1) := by
  cases hx : tabGet? s.wins w with
  | none => simp [State.win, tabGet, hx] at h
  | some x => exact List.mem_map_of_mem (mem_of_tabGet? hx)

@[simp] theorem State.countSnuffed_banks (s : State) (h : Nat) : (s.countSnuffed h).banks = s.banks := (rfl)

/-- A bank that passes its checks, with none queued behind it. -/
theorem State.applyBank_passes {s : State} {u : Nat} (t0 : Nat) (hc : s.applyCheck u = none) (hq : (s.unit u).queued = false) :
    ((s.applyBank u t0).unit u).sealed = false ∧ ((s.applyBank u t0).unit u).applying = true ∧
      ∀ w ws, (s.win w).Shows u ws → ((s.applyBank u t0).win w).act = some ws := by
  unfold State.applyBank
  rw [hc]
  extract_lets s1 s2 x s3 s4 y
  have h2 : s2.banks = s1.banks := List.foldlRecOn (motive := fun t : State => t.banks = s1.banks) _ _ rfl fun t ht h _ => ht
  have h3 : s3.banks = s1.banks := (State.banks_foldl _ (fun t h => t.countSnuffed_banks h) _ _).trans h2
  have hunit : x = s.unit u := (State.unit_of_banks h2 u).trans (congrArg (fun t : Tab CommitUnit => tabGet ({} : CommitUnit) t u) (State.applyWins_units ..))
  have hqueued : ¬x.queued = true := by simp [hunit, hq]
  rw [if_neg hqueued]
  refine ⟨congrArg CommitUnit.sealed (State.unit_setUnit_same ..), congrArg CommitUnit.applying (State.unit_setUnit_same ..), fun w ws h => ?_⟩
  obtain ⟨b, hb, _⟩ := id h
  have hshown := State.applyWins_show u t0 (mem_keys_of_sealed hb) h
  have hwin : s4.win w = s1.win w := State.win_of_banks h3 w
  rw [hwin]
  exact congrArg (fun p => p.2.1) hshown

/-- What a head reports of a bank that fails a check. -/
def State.refusalAt (s : State) (h code w : Nat) : State :=
  ((s.put (F.CHEAD_APPLY_STATUS_CODE h) code).putB (F.CHEAD_APPLY_STATUS_REFUSED h) true).put (F.CHEAD_APPLY_STATUS_WINDOW h) w

theorem State.refusalAt_reports (s : State) (h code w : Nat) : (s.refusalAt h code w).on (F.CHEAD_APPLY_STATUS_REFUSED h) = true ∧
    (s.refusalAt h code w).get (F.CHEAD_APPLY_STATUS_CODE h) = code % 16 := by
  simp [State.refusalAt, State.putB, State.on, State.get_put_disj, State.get_put_same, F.CHEAD_APPLY_STATUS_REFUSED, F.CHEAD_APPLY_STATUS_CODE,
    F.CHEAD_APPLY_STATUS_WINDOW]

/-- A bank that fails check `code` on head `h`, with none queued behind it (R231). -/
theorem State.refuseBank_refused {s : State} {u code h w : Nat} (hh : h < 48) (hq : (s.unit u).queued = false) :
    ((s.refuseBank u code h w).unit u).sealed = false ∧ (∀ y, ((s.refuseBank u code h w).win y).act = (s.win y).act) ∧
      (s.refuseBank u code h w).on (F.CHEAD_APPLY_STATUS_REFUSED h) = true ∧
      (s.refuseBank u code h w).get (F.CHEAD_APPLY_STATUS_CODE h) = code % 16 ∧
      ∃ r ∈ (s.refuseBank u code h w).log.recent.head?, r.cls = 0x4F := by
  unfold State.refuseBank
  extract_lets s1 s2 s3 x
  have h3 : s3.banks = s1.banks := (State.raise_banks ..).trans rfl
  have hqueued : ¬x.queued = true := by
    rw [show x = s.unit u from State.unit_of_banks h3 u, hq]
    decide
  have hreg : s3.reg (F.CHEAD_APPLY_STATUS_CODE h).key = (s1.refusalAt h code w).reg (F.CHEAD_APPLY_STATUS_CODE h).key := by
    have hkey : (F.CHEAD_APPLY_STATUS_CODE h).key = 0x701010 + 0x20 * h := rfl
    have hown : isCtxOwn (F.CHEAD_APPLY_STATUS_CODE h).key = false := isCtxOwn_below (by omega)
    refine ((s2.bump F.COMP_REFUSE_COUNT).raise_logOnly ..).reg _ (by omega) hown |>.trans (State.reg_setReg_ne _ _ _ _ ?_ hown)
    simp only [F.COMP_REFUSE_COUNT]
    omega
  obtain ⟨hrefused, hcode⟩ := s1.refusalAt_reports h code w
  obtain ⟨r, hr, hcls, _⟩ := (s2.bump F.COMP_REFUSE_COUNT).raise_newest 0x4F ..
  rw [if_neg hqueued]
  refine ⟨congrArg CommitUnit.sealed (State.unit_setUnit_same ..), fun y => ?_,
    (State.on_of_get (congrArg (F.CHEAD_APPLY_STATUS_REFUSED h).of hreg)).trans hrefused,
    (congrArg (F.CHEAD_APPLY_STATUS_CODE h).of hreg).trans hcode, r, hr, hcls⟩
  have hwin : s3.win y = s1.win y := State.win_of_banks h3 y
  have hmap : s1.win y = _ := State.win_map s _ (fun e => by split <;> rfl) (fun k => rfl) y
  refine (congrArg Win.act (hwin.trans hmap)).trans ?_
  split <;> rfl

/-! ### The apply point (R120, R127) -/

theorem applyCheck_head {s : State} {u code h w : Nat} (hc : s.applyCheck u = some (code, h, w)) : h < 48 := by
  obtain ⟨c, _, hfound⟩ := List.exists_of_findSome?_eq_some hc
  obtain ⟨g, hg, hmap⟩ := List.exists_of_findSome?_eq_some hfound
  obtain ⟨x, _, hx⟩ := Option.map_eq_some_iff.1 hmap
  obtain ⟨-, rfl, -⟩ : c = code ∧ g = h ∧ x = w := by simpa using hx
  unfold State.unitHeads at hg
  split at hg
  next hlt => rwa [List.mem_singleton.1 hg]
  next => exact mem_members hg

/-- At its apply point, unit `u` of `s` has a sealed bank whose period ends, and no other unit goes first. -/
structure AtApply (s : State) (u : Nat) : Prop where
  live : s.unitLive u = true
  line : (s.tb (s.unitMaster u)).line = (s.tb (s.unitMaster u)).timing.vactive
  idle : (s.unit u).applying = false
  isSealed : (s.unit u).sealed = true
  alone : s.applyOrder u = []
  unskipped : (s.unit u).skip ≠ some (s.tb (s.unitMaster u)).fseq
  last : s.lastFrame (s.unitMaster u) (s.holdOf u) = true

theorem AtApply.applies {s : State} {u : Nat} (h : AtApply s u) : s.applyEvent u = s.applyBank u (s.t0Now u) := by
  obtain ⟨hlive, hline, hidle, hsealed, halone, hskip, hlast⟩ := h
  simp [State.applyEvent, State.applyOne, State.applyPoint, hlive, hline, hidle, hsealed, halone, hskip, hlast]

theorem State.applyEvent_elsewhere {s : State} {u : Nat} (hline : (s.tb (s.unitMaster u)).line ≠ (s.tb (s.unitMaster u)).timing.vactive)
    (halone : s.applyOrder u = []) : s.applyEvent u = s := by
  simp [State.applyEvent, State.applyOne, hline, halone]

theorem State.lastFrame_of_succ {s : State} {h hold : Nat} (hload : (s.tb h).loadDue = false)
    (hsucc : (s.tb h).succ.getD (((s.tb h).fseq + 1) % 2 ^ 32) % hold = 0) : s.lastFrame h hold = true := by
  simpa [State.lastFrame, State.nextFseq, hload] using hsucc

/-! ### A request by a head's COMMIT (R116, R117) -/

theorem State.wrCommit_seals {s : State} {h : Nat} {v : Word} (hh : h < 48) (hlive : s.unitLive h = true) (hreq : v.toNat % 2 = 1)
    (hkeep : v.toNat / 8 % 2 = 0) (hoff : s.unitOff h = false) (hlate : s.isLate h = false) (hs : (s.unit h).sealed = false) :
    s.wrCommit h v = (s.setUnit h { s.unit h with sealed := true, skip := none }).seal h := by
  have hown : s.unitOf h = h := by
    rw [State.unitLive, if_pos hh, Bool.and_eq_true, decide_eq_true_eq] at hlive
    exact hlive.2
  have hbit0 : bitAt v.toNat 0 = true := bitAt_eq_true.2 (by simpa using hreq)
  have hbit3 : bitAt v.toNat 3 = false := Bool.eq_false_iff.2 fun hb => by
    have := bitAt_eq_true.1 hb
    omega
  unfold State.wrCommit
  simp [hh, hown, hlive, hbit0, hbit3, State.commitReq_seals hoff hlate hs]

/-- Every window of the unit holds what the OPEN bank held of it, and no active image changes. -/
theorem State.seal_images (s : State) (u x : Nat) : ((s.seal u).win x).act = (s.win x).act ∧ ((s.win x).unit = some u →
    ∃ k, ((s.seal u).win x).sealed = some k ∧ k.words = s.winWords x ∧ k.remove = (s.win x).openRemove ∧ k.arm = (s.win x).openArm) := by
  rw [s.seal_win, State.sealWin]
  split
  next => exact ⟨rfl, fun _ => ⟨_, rfl, rfl, rfl, rfl⟩⟩
  next hne => exact ⟨rfl, fun hu => absurd hu hne⟩

theorem exec_commitReq {s : State} {i : Initiator} {h : Fin 48} {w : Fin 64} (hw : w.val = h.val) {v : Word}
    (ha : Admits s i (F.HEAD_COMMIT_REQ h).key) : exec (.commitReq i w v) s = .next (s.wrCommit h v) := by
  have hkey : commitKey w = (F.HEAD_COMMIT_REQ h).key := by rw [hw, commitKey, if_pos h.isLt]
  rw [← hkey] at ha
  rw [← hw]
  exact congrArg Host.Outcome.next (State.asWrite_admitted v _ ha)

/-- What O28 claims, of an APPLY_DONE for which no console waits either. -/
def CommitUnitsNoneWaiting : Prop :=
  ∀ (i : Initiator) (v : Word) (h : Fin 48) (u : Fin 64) (time : Nat) (s : State),
    let z := s.advance time
    let b := s.tb (s.unitMaster u)
    (∀ w : Fin 64, w.val = h.val → Admits s i (F.HEAD_COMMIT_REQ h).key → s.unitLive h = true → v.toNat % 2 = 1 → v.toNat / 8 % 2 = 0 →
      s.unitOff h = false → s.isLate h = false → (s.unit h).sealed = false →
      Reaches (.commitReq i w v) s (fun t => (t.unit h).sealed = true ∧ t.regs = s.regs ∧
        ∀ x, (t.win x).act = (s.win x).act ∧ ((s.win x).unit = some h.val → ∃ k, (t.win x).sealed = some k ∧ k.words = s.winWords x ∧
          k.remove = (s.win x).openRemove ∧ k.arm = (s.win x).openArm))) ∧
    (s.unitLive u = true → b.line = b.timing.vactive → (s.unit u).applying = false → (s.unit u).sealed = true → (s.unit u).queued = false →
      b.loadDue = false → z.applyOrder u = [] → (s.unit u).skip ≠ some b.fseq → b.succ.getD ((b.fseq + 1) % 2 ^ 32) % ((s.unit u).hold + 1) = 0 →
      (z.applyCheck u = none → Reaches (.apply time u) s (fun t => (t.unit u).sealed = false ∧ (t.unit u).applying = true ∧
        ∀ x k, (s.win x).unit = some u.val → (s.win x).sealed = some k → k.remove = false → wPlaced k.words = true → (t.win x).act = some k.words)) ∧
      (∀ code g x, z.applyCheck u = some (code, g, x) → Reaches (.apply time u) s (fun t => (t.unit u).sealed = false ∧
        (∀ y, (t.win y).act = (s.win y).act) ∧ t.on (F.CHEAD_APPLY_STATUS_REFUSED g) = true ∧ t.get (F.CHEAD_APPLY_STATUS_CODE g) = code % 16 ∧
        ∃ r ∈ t.log.recent.head?, r.cls = 0x4F))) ∧
    (b.line ≠ b.timing.vactive → z.applyOrder u = [] → exec (.apply time u) s = .next z) ∧
    Reaches (.applyDone time u) s (fun t => (t.unit u).applying = false ∧ (t.unit u).sealed = (s.unit u).sealed ∧ t.wins = s.wins) ∧
    ((∀ p, p < 16 → (s.pipe p).markDue = false) → (∀ l, l < 64 → s.conIdle l) →
      exec (.applyDone time u) s = .next (z.setUnit u { s.unit u with applying := false }))

/-- O28 holds once no console waits either: a request seals, an apply takes or refuses the sealed bank, and APPLY_DONE ends the transfer. -/
theorem commitUnitsNoneWaiting : CommitUnitsNoneWaiting := by
  unfold CommitUnitsNoneWaiting
  intro i v h u time s
  refine ⟨fun w hw ha hlive hreq hkeep hoff hlate hs => ?_, fun hlive hline hidle hsealed hq hload halone hskip hlast => ?_,
    fun hline halone => congrArg Host.Outcome.next (State.applyEvent_elsewhere hline halone), ?_,
    fun hpipe hcon => congrArg Host.Outcome.next (State.applyDone_idle hpipe hcon)⟩
  · refine ⟨_, (exec_commitReq hw ha).trans (congrArg _ (State.wrCommit_seals h.isLt hlive hreq hkeep hoff hlate hs)), ?_, State.seal_regs .., fun x => ?_⟩
    · rw [State.seal_unit, State.unit_setUnit_same]
    · exact State.seal_images _ h x
  · have hat : AtApply (s.advance time) u := ⟨hlive, hline, hidle, hsealed, halone, hskip, State.lastFrame_of_succ hload hlast⟩
    have hexec : exec (.apply time u) s = .next ((s.advance time).applyBank u ((s.advance time).t0Now u)) :=
      congrArg Host.Outcome.next hat.applies
    refine ⟨fun hc => ⟨_, hexec, ?_⟩, fun code g x hc => ⟨_, hexec, ?_⟩⟩
    · obtain ⟨hunsealed, happlying, hshown⟩ := State.applyBank_passes _ hc hq
      exact ⟨hunsealed, happlying, fun x k hunit hk hremove hplaced => hshown x k.words ⟨k, hk, hunit, hremove, rfl, hplaced⟩⟩
    · unfold State.applyBank
      rw [hc]
      exact State.refuseBank_refused (applyCheck_head hc) hq
  · have hbanks := (s.advance time).applyDone_banks u
    have hunit := (State.unit_of_banks hbanks u).trans (State.unit_setUnit_same ..)
    refine ⟨_, rfl, congrArg CommitUnit.applying hunit, ?_, (State.wins_of_banks hbanks).trans rfl⟩
    rw [hunit]
    rfl

end Sys2Proof.Machine
end

section
/-! Program counters and modes stay legal (O57): what an exception, a fault, a halt and a completed instruction leave in the
program counters and the system registers of the engines. -/
namespace Sys2Proof.Machine

/-! ### The core that takes an exception (R159) -/

theorem Engine.sreg_of_sr {e f : Engine} (h : f.sr = e.sr) (n : Nat) : f.sreg n = e.sreg n := by simp [Engine.sreg, h]

/-- A system register of an engine of which one system register has been written. -/
theorem Engine.sreg_tabSet {e f : Engine} {n : Nat} {v : Dword} (h : f.sr = tabSet e.sr n v) (m : Nat) :
    f.sreg m = if m = n then v.toNat else e.sreg m := by
  by_cases hm : m = n
  · simp [Engine.sreg, h, hm]
  · simp [Engine.sreg, h, hm, tabGet_tabSet_ne]

/-- What an exception leaves in the core that takes it. -/
structure Entered (e : Engine) (cause : Nat) (addr : Option Nat) (inst off : Nat) (y : Engine) : Prop where
  epc : y.sreg 2 = e.pc % 2 ^ 64
  epstate : y.sreg 3 = e.pstate
  pstate : y.sreg 1 = 5
  ecause : y.sreg 4 = (cause + (if e.keeper then 0 else 0x200)) % 2 ^ 64
  eaddr : y.sreg 5 = (addr.map (· % 2 ^ 64)).getD (e.sreg 5)
  einst : y.sreg 6 = inst % 2 ^ 64
  other : ∀ n, n ∉ [1, 2, 3, 4, 5, 6] → y.sreg n = e.sreg n
  pc : y.pc = (e.sreg 8 + off) % 2 ^ 40
  g : y.g = e.g
  retired : y.retired = e.retired

theorem State.enterExc_entered (s : State) (c cause : Nat) (imprecise : Bool) (addr : Option Nat) (inst off : Nat) :
    Entered (s.engine c) (cause + if imprecise then 0x100 else 0) addr inst off
      ((s.enterExc c cause imprecise addr inst off).engine c) := by
  have hy : (s.enterExc c cause imprecise addr inst off).engine c = _ := State.engine_setEngine_same ..
  have hp : (s.engine c).pstate < 18446744073709551616 := BitVec.isLt _
  rw [hy]
  constructor
  case other =>
    intro n hn
    simp only [List.mem_cons, List.not_mem_nil, or_false, not_or] at hn
    cases addr <;> simp [Engine.sreg, tabGet_tabSet_ne, hn]
  all_goals cases addr <;> simp [Engine.sreg, tabGet_tabSet_ne, hp]

/-! ### Operations that leave the engines, or their program counters and system registers -/

theorem State.applyFind_eng (s : State) (a ini : Nat) (f : MemFind) : (s.applyFind a ini f).eng = s.eng := by
  have hraise (t : State) (cls a1 a2 d : Nat) (lim : Option Nat) : (t.raise cls a1 a2 d lim).eng = t.eng := (t.raise_logOnly ..).eng
  cases f with
  | clean => rfl
  | ce b => unfold State.applyFind State.eccCe; dsimp only; split_ifs <;> simp [hraise]
  | ue => unfold State.applyFind State.eccUe; dsimp only; split_ifs <;> simp [hraise]
  | l2ce => exact hraise ..
  | l2ueClean => rfl
  | l2ueDirty => exact hraise ..
  | l1parity => rfl

theorem State.seqFind_eng (s : State) (a : Nat) (f : MemFind) : (s.seqFind a f).eng = s.eng := by cases f <;> rfl

theorem State.fetched_eng (s : State) (e : Eng) : (s.fetched e).eng = s.eng := by
  cases e with
  | core c f => exact s.applyFind_eng ..
  | seq n f => exact s.seqFind_eng ..

/-- The cause of a fetch and what it leaves: the check of its initiator may refuse it, memory may hold no instructions there, or the
ECC may find something (R30, R156 to R158). -/
theorem State.fetchCore_eq {s t : State} {c : Nat} {ok : Bool} (f : MemFind)
    (hc : s.initCheck (s.engSrc c) .fetch (s.engine c).pc 4 = (ok, t)) :
    s.fetchCore c f =
      if !ok then (some 4, t)
      else if t.region (s.engine c).pc != .dram && t.region (s.engine c).pc != .l2sram then (some 4, t)
      else if (t.applyFind (s.engine c).pc c f).corePoisoned (s.engine c).pc 4 then (some 10, t.applyFind (s.engine c).pc c f)
      else (none, t.applyFind (s.engine c).pc c f) := by
  have h : @State.fetchCore = @State.fetchCore := rfl
  conv at h => lhs; delta State.fetchCore
  have heq := congr_fun₃ h s c f
  beta_reduce at heq
  rewrite [← heq]
  clear h heq
  generalize @State.initCheck = check at hc
  as_aux_lemma =>
    dsimp only
    rw [hc]

theorem State.fetchCore_eng (s : State) (c : Nat) (f : MemFind) : (s.fetchCore c f).2.eng = s.eng := by
  have ht := (s.initCheck_regsOnly (s.engSrc c) .fetch (s.engine c).pc 4).eng
  generalize hc : s.initCheck (s.engSrc c) .fetch (s.engine c).pc 4 = p at ht
  obtain ⟨ok, t⟩ := p
  have hu : (t.applyFind (s.engine c).pc c f).eng = s.eng := (State.applyFind_eng ..).trans ht
  rw [State.fetchCore_eq f hc]
  split_ifs
  · exact ht
  · exact ht
  · exact hu
  · exact hu

/-- Engine by engine, the PC and the system registers are those of `s`. -/
structure SamePcs (s t : State) : Prop where
  pc : ∀ k, (t.engine k).pc = (s.engine k).pc
  sr : ∀ k, (t.engine k).sr = (s.engine k).sr

theorem SamePcs.of_eng {s t : State} (h : t.eng = s.eng) : SamePcs s t :=
  ⟨fun k => by simp [State.engine, h], fun k => by simp [State.engine, h]⟩

theorem SamePcs.refl (s : State) : SamePcs s s := .of_eng rfl

theorem SamePcs.trans {s t u : State} (h : SamePcs s t) (g : SamePcs t u) : SamePcs s u :=
  ⟨fun k => (g.pc k).trans (h.pc k), fun k => (g.sr k).trans (h.sr k)⟩

theorem State.setEngine_samePcs (s : State) (k : Nat) {e : Engine} (hpc : e.pc = (s.engine k).pc) (hsr : e.sr = (s.engine k).sr) :
    SamePcs s (s.setEngine k e) := by
  constructor <;> (intro j; by_cases hj : j = k)
  · rw [hj, State.engine_setEngine_same, hpc]
  · rw [State.engine_setEngine_ne _ _ _ _ hj]
  · rw [hj, State.engine_setEngine_same, hsr]
  · rw [State.engine_setEngine_ne _ _ _ _ hj]

theorem State.setGr_samePcs (s : State) (k d : Nat) (v : Dword) : SamePcs s (s.setGr k d v) :=
  s.setEngine_samePcs k (by simp) (by simp)

theorem State.stopInto_samePcs (s : State) (c st : Nat) : SamePcs s (s.stopInto c st) := by
  have h : SamePcs s (s.stopCore c st) := (s.setEngine_samePcs c (by rfl) (by rfl)).trans (.of_eng rfl)
  unfold State.stopInto
  dsimp only
  split
  · exact h.trans (.of_eng (State.raise_logOnly ..).eng)
  · exact h

theorem State.haltInto_samePcs (s : State) (c st : Nat) : SamePcs s (s.haltInto c st) := by
  unfold State.haltInto
  dsimp only
  split_ifs
  · exact s.setEngine_samePcs c rfl rfl
  · exact s.stopInto_samePcs ..
  · exact .refl s

theorem State.settleEng_samePcs (s : State) (e : Eng) : SamePcs s (s.settleEng e) := by
  cases e with
  | seq n f => exact .refl s
  | core c f =>
    unfold State.settleEng State.settleHalt
    dsimp only
    split
    · split
      · exact .refl s
      · exact s.stopInto_samePcs ..
    · exact .refl s

theorem State.seqFault_samePcs (s : State) (n cause : Nat) (addr : Option Nat) : SamePcs s (s.seqFault n cause addr) := by
  unfold State.seqFault State.seqFaultAt
  dsimp only
  refine .trans ?_ (.of_eng (State.seqRec_logOnly ..).eng)
  cases addr <;> exact (s.setEngine_samePcs (16 + n) (by rfl) (by rfl)).trans (.of_eng rfl)

theorem State.brkHalt_samePcs (s : State) (e : Eng) : SamePcs s (s.brkHalt e) := by
  cases e with
  | core c f => exact s.haltInto_samePcs ..
  | seq n f => exact .of_eng rfl

/-! ### Legal program counters and modes (R136, R137, R159) -/

/-- What `State.pcsLegal` asks of one engine. -/
def Engine.legal (e : Engine) : Prop :=
  e.pc % 4 = 0 ∧ e.pc < 2 ^ 40 ∧ e.sreg 2 % 4 = 0 ∧ e.sreg 2 < 2 ^ 40 ∧ e.sreg 8 % 4096 = 0 ∧ e.sreg 1 < 8 ∧ e.sreg 3 < 8

theorem State.pcsLegal_iff (s : State) : s.pcsLegal ↔ ∀ k, (s.engine k).legal := Iff.rfl

theorem SamePcs.pcsLegal {s t : State} (g : SamePcs s t) (h : s.pcsLegal) : t.pcsLegal := by
  rw [State.pcsLegal_iff] at *
  intro k
  have hs := Engine.sreg_of_sr (g.sr k)
  simpa only [Engine.legal, hs, g.pc k] using h k

theorem State.pcsLegal.setEngine {s : State} (h : s.pcsLegal) (k : Nat) {e : Engine} (he : e.legal) : (s.setEngine k e).pcsLegal := by
  rw [State.pcsLegal_iff]
  intro j
  by_cases hj : j = k
  · rw [hj, State.engine_setEngine_same]; exact he
  · rw [State.engine_setEngine_ne _ _ _ _ hj]; exact h j

/-- A word address below 2^40. -/
def PcOk (pc : Nat) : Prop := pc % 4 = 0 ∧ pc < 2 ^ 40

theorem pcPlus_ok {pc : Nat} (h : PcOk pc) (n : Int) : PcOk (pcPlus pc n) := by
  unfold PcOk pcPlus at *
  omega

theorem State.retire_pcsLegal {s : State} (h : s.pcsLegal) (k : Nat) {pc : Nat} (hp : PcOk pc) : (s.retire k pc).pcsLegal := by
  obtain ⟨_, _, hsr⟩ := h k
  exact h.setEngine k ⟨hp.1, hp.2, hsr⟩

/-- An exception goes to a word of the page of EVEC. -/
theorem State.enterExc_pcsLegal {s : State} (h : s.pcsLegal) (c cause : Nat) (imprecise : Bool) (addr : Option Nat) (inst : Nat) {off : Nat}
    (ho : off % 4 = 0) : (s.enterExc c cause imprecise addr inst off).pcsLegal := by
  have hy := s.enterExc_entered c cause imprecise addr inst off
  unfold State.enterExc at hy ⊢
  rw [State.engine_setEngine_same] at hy
  obtain ⟨hpc, hpc', hepc, hepc', hevec, hpstate, hepstate⟩ := h c
  have h8 := hy.other 8 (by decide)
  have hp : (s.engine c).pstate = (s.engine c).sreg 1 := rfl
  refine h.setEngine c ?_
  unfold Engine.legal
  rw [hy.epc, hy.epstate, hy.pstate, hy.pc, h8, hp]
  omega

theorem State.syncCause_pcsLegal {s : State} (h : s.pcsLegal) (c cause : Nat) (addr : Option Nat) (inst : Nat) :
    (s.syncCause c cause addr inst).pcsLegal := by
  unfold State.syncCause
  dsimp only
  split
  · exact ((s.haltInto_samePcs c 3).trans (.of_eng (State.raise_logOnly ..).eng)).pcsLegal h
  · exact State.enterExc_pcsLegal h _ _ _ _ _ (by split <;> rfl)

theorem State.raiseCause_pcsLegal {s : State} (h : s.pcsLegal) (e : Eng) (cause : Nat) (addr : Option Nat) (w : Nat) :
    (s.raiseCause e cause addr w).pcsLegal := by
  cases e with
  | core c f => exact State.syncCause_pcsLegal h _ _ _ _
  | seq n f => exact (s.seqFault_samePcs ..).pcsLegal h

theorem State.takeImprecise_pcsLegal {s : State} (h : s.pcsLegal) (c : Nat) : (s.takeImprecise c).pcsLegal := by
  unfold State.takeImprecise
  split
  · exact h
  · next a w r hr =>
    have himpr (t : State) (ht : t.pcsLegal) : (t.setEngine c { t.engine c with impr := r }).pcsLegal :=
      SamePcs.pcsLegal (t.setEngine_samePcs c (by rfl) (by rfl)) ht
    cases w with
    | some w => exact State.enterExc_pcsLegal (himpr s h) _ _ _ _ _ rfl
    | none => exact State.enterExc_pcsLegal (himpr (s.freeVal 32).2 h) _ _ _ _ _ rfl

/-! ### What comes at the boundary, and what an instruction does (R161) -/

theorem State.boundaryCore_pcsLegal {s t : State} (h : s.pcsLegal) {c : Nat} {f : MemFind} (ht : s.boundaryCore c f = some t) :
    t.pcsLegal := by
  have hf := State.pcsLegal_of_eng h (s.fetchCore_eng c f)
  unfold State.boundaryCore at ht
  generalize s.fetchCore c f = p at hf ht
  obtain ⟨cause, u⟩ := p
  extract_lets e at ht
  split_ifs at ht
  · cases ht; exact h
  · cases ht; exact State.takeImprecise_pcsLegal h c
  · cases ht; exact State.enterExc_pcsLegal h _ _ _ _ _ rfl
  · cases ht; exact h
  · cases cause with
    | none => cases ht
    | some cause =>
      cases ht
      exact State.syncCause_pcsLegal (s := (u.freeVal 32).2) hf _ _ _ _

theorem State.boundarySeq_pcsLegal {s t : State} (h : s.pcsLegal) {n : Nat} {f : MemFind} (ht : s.boundarySeq n f = some t) :
    t.pcsLegal := by
  unfold State.boundarySeq at ht
  dsimp only at ht
  split_ifs at ht <;> cases ht
  · exact h
  · exact (s.seqFault_samePcs ..).pcsLegal h
  · exact (State.seqFault_samePcs ..).pcsLegal (State.pcsLegal_of_eng h (s.seqFind_eng ..))

/-- What an instruction does keeps program counters and modes legal; a target that it goes to is a word address. -/
def Act.Legal : Act → Prop
  | .next s => s.pcsLegal
  | .goto pc s => PcOk pc ∧ s.pcsLegal
  | .hold s => s.pcsLegal
  | .cause _ _ s => s.pcsLegal

theorem State.conclude_pcsLegal (e : Eng) (w : Nat) {a : Act} (h : a.Legal) : (State.conclude e w a).pcsLegal := by
  cases a with
  | next s =>
    have hs : s.pcsLegal := h
    obtain ⟨hpc, hlt, _⟩ := hs (Eng.key e)
    exact (State.settleEng_samePcs ..).pcsLegal (State.retire_pcsLegal hs _ ⟨by omega, by omega⟩)
  | goto pc s => exact (State.settleEng_samePcs ..).pcsLegal (State.retire_pcsLegal h.2 _ h.1)
  | hold s => exact (State.settleEng_samePcs ..).pcsLegal h
  | cause c a s => exact (State.settleEng_samePcs ..).pcsLegal (State.raiseCause_pcsLegal h _ _ _ _)

theorem State.issue_pcsLegal {s : State} (h : s.pcsLegal) (e : Eng) (w : Nat) (who : Who) (keeperOnly : Bool) {f : State → Act}
    (hf : ∀ t : State, t.pcsLegal → (f t).Legal) : (s.issue e w who keeperOnly f).pcsLegal := by
  have hfetched := State.pcsLegal_of_eng h (s.fetched_eng e)
  unfold State.issue
  split
  · next t ht =>
    cases e with
    | core c g => exact State.boundaryCore_pcsLegal h ht
    | seq n g => exact State.boundarySeq_pcsLegal h ht
  · apply State.conclude_pcsLegal
    unfold State.actOf
    split_ifs
    · exact hfetched
    · exact hfetched
    · exact hf _ hfetched

/-! ### The instructions -/

/-- The low bits that a mask leaves out are clear. -/
theorem and_mod_two_pow_eq_zero {m k : Nat} (v : Nat) (hm : m % 2 ^ k = 0) : (v &&& m) % 2 ^ k = 0 := by
  rw [Nat.and_mod_two_pow, hm, Nat.and_zero]

section
variable {s : State} (h : s.pcsLegal)
include h

theorem State.issueVal_pcsLegal (e : Eng) (w : Nat) (who : Who) (d : Nat) (v : State → Dword) : (s.issueVal e w who d v).pcsLegal :=
  State.issue_pcsLegal h e w who false fun t ht => (t.setGr_samePcs ..).pcsLegal ht

theorem State.shiftOp_pcsLegal (e : Eng) (k : Nat) (d a : Fin 32) (imm : BitVec 16) : (s.shiftOp e k d a imm).pcsLegal :=
  State.issue_pcsLegal h e _ _ _ fun t ht => by
    split
    · exact ht
    · exact (t.setGr_samePcs ..).pcsLegal ht

theorem State.branch_pcsLegal (e : Eng) (maj : Nat) (a b : Fin 32) (off : BitVec 16) (p : Dword → Dword → Bool) :
    (s.branch e maj a b off p).pcsLegal :=
  State.issue_pcsLegal h e _ _ _ fun t ht => by
    obtain ⟨hpc, hlt, _⟩ := ht (Eng.key e)
    dsimp only
    split
    · exact ⟨pcPlus_ok ⟨hpc, hlt⟩ _, ht⟩
    · exact ht

/-- A write of a system register reaches only the bits of R137. -/
theorem State.srWrite_pcsLegal (c n v : Nat) : (s.srWrite c n v).pcsLegal := by
  unfold State.srWrite
  extract_lets e
  split
  · exact h
  obtain ⟨hpc, hlt, hepc, hepc', hevec, hpstate, hepstate⟩ := h c
  have hs := Engine.sreg_tabSet (e := e) (f := { e with sr := tabSet e.sr n (BitVec.ofNat 64 (v &&& srMask n)) }) rfl
  have hle : (v &&& srMask n) % 2 ^ 64 ≤ srMask n := (Nat.mod_le _ _).trans Nat.and_le_right
  have hpage : (v &&& (2 ^ 40 - 4096)) % 2 ^ 12 = 0 := and_mod_two_pow_eq_zero v (by decide)
  have hword : (v &&& (2 ^ 40 - 4)) % 2 ^ 2 = 0 := and_mod_two_pow_eq_zero v (by decide)
  refine h.setEngine c ⟨hpc, hlt, ?_, ?_, ?_, ?_, ?_⟩
  all_goals
    rw [hs, BitVec.toNat_ofNat]
    split
    case isFalse => assumption
    case isTrue hn =>
      subst hn
      simp only [srMask] at hle ⊢
      omega

theorem State.srOp_pcsLegal (e : Eng) (sub : Nat) (d : Fin 32) (sr : Fin 4096) (a : Fin 32) (f : Option (Nat → Nat → Nat)) (reads : Bool) :
    (s.srOp e sub d sr a f reads).pcsLegal :=
  State.issue_pcsLegal h e _ _ _ fun t ht => by
    dsimp only
    split
    · exact ht
    · have hw : (match f with | some g => t.srWrite (Eng.key e) sr.val (g (t.srView (Eng.key e) sr.val) (t.gr (Eng.key e) a.val).toNat) | none => t).pcsLegal := by
        split
        · exact State.srWrite_pcsLegal ht _ _ _
        · exact ht
      split_ifs
      · exact (State.setGr_samePcs ..).pcsLegal hw
      · exact hw

theorem execBrk_pcsLegal (e : Eng) (code : Fin 4096) : ∃ t, execBrk e code s = .next t ∧ t.pcsLegal :=
  ⟨_, rfl, State.issue_pcsLegal h e _ _ _ fun t ht => by
    split
    · exact (t.brkHalt_samePcs e).pcsLegal ht
    · exact ht⟩

theorem execEret_pcsLegal (e : Eng) : ∃ t, execEret e s = .next t ∧ t.pcsLegal :=
  ⟨_, rfl, State.issue_pcsLegal h e _ _ _ fun t ht => by
    obtain ⟨_, _, hepc, hepc', _⟩ := ht (Eng.key e)
    exact ⟨⟨hepc, hepc'⟩, State.srWrite_pcsLegal ht _ _ _⟩⟩

theorem execJmp_pcsLegal (e : Eng) (off : BitVec 26) : ∃ t, execJmp e off s = .next t ∧ t.pcsLegal :=
  ⟨_, rfl, State.issue_pcsLegal h e _ _ _ fun t ht => by
    obtain ⟨hpc, hlt, _⟩ := ht (Eng.key e)
    exact ⟨pcPlus_ok ⟨hpc, hlt⟩ _, ht⟩⟩

theorem execCall_pcsLegal (e : Eng) (off : BitVec 26) : ∃ t, execCall e off s = .next t ∧ t.pcsLegal :=
  ⟨_, rfl, State.issue_pcsLegal h e _ _ _ fun t ht => by
    obtain ⟨hpc, hlt, _⟩ := ht (Eng.key e)
    exact ⟨pcPlus_ok ⟨hpc, hlt⟩ _, (t.setGr_samePcs ..).pcsLegal ht⟩⟩

/-- A target that is no word address below 2^40 raises its cause (R148). -/
theorem execCallr_pcsLegal (e : Eng) (d a : Fin 32) (imm : BitVec 16) : ∃ t, execCallr e d a imm s = .next t ∧ t.pcsLegal :=
  ⟨_, rfl, State.issue_pcsLegal h e _ _ _ fun t ht => by
    extract_lets k x
    split_ifs with h4 h40
    · exact ht
    · exact ht
    · exact ⟨⟨by omega, by omega⟩, (t.setGr_samePcs ..).pcsLegal ht⟩⟩

theorem execTrap_pcsLegal (e : Eng) (code : Fin 4096) : ∃ t, execTrap e code s = .next t ∧ t.pcsLegal :=
  ⟨_, rfl, State.issue_pcsLegal h e _ _ _ fun _ ht => ht⟩

/-- Each instruction of the integer group, and each of the immediate group but the shifts, writes a value into D; the other
groups are those of the lemmas above. -/
theorem exec_pcsLegal {c : Instr} (hc : computes c = true) : ∃ t, exec c s = .next t ∧ t.pcsLegal := by
  cases c
  case trap e code => exact execTrap_pcsLegal h e code
  case brk e code => exact execBrk_pcsLegal h e code
  case eret e => exact execEret_pcsLegal h e
  case jmp e off => exact execJmp_pcsLegal h e off
  case call e off => exact execCall_pcsLegal h e off
  case callr e d a imm => exact execCallr_pcsLegal h e d a imm
  case braEq | braNe | braLt | braGe | braLtu | braGeu => exact ⟨_, rfl, State.branch_pcsLegal h _ _ _ _ _ _⟩
  case srd | swr | srs | src => exact ⟨_, rfl, State.srOp_pcsLegal h _ _ _ _ _ _ _⟩
  case shlk | shrk | sark | rolk => exact ⟨_, rfl, State.shiftOp_pcsLegal h _ _ _ _ _⟩
  case add | sub | and | or | xor | shl | shr | sar | lt | ltu | mins | maxs | minu | maxu | andn | rol | mul | mulhs | mulhu | quos | quou |
      mods | modu | add32 | sub32 | shl32 | shr32 | sar32 | mul32 | sext32 | bswap | lzc | tzc | ones | addk | addk32 | andk | ork | xork |
      ltk | ltuk | setu | addh | pcrel => exact ⟨_, rfl, State.issueVal_pcsLegal h _ _ _ _ _⟩
  all_goals cases hc

end

/-- Settles O57: a step of such an instruction is `exec` of it, and whatever stands at the boundary, is written, raised or gone to
is legal where what it was made of is. -/
theorem programCountersStayLegal : Obligations.ProgramCountersStayLegal := by
  unfold Obligations.ProgramCountersStayLegal
  intro c q s t hc hs ht
  obtain ⟨u, hu, hl⟩ := exec_pcsLegal (s := { s with pending := q }) hs hc
  cases hu.symm.trans ht
  exact hl

end Sys2Proof.Machine
end

section
/-! What an instruction leaves on the state of its fetch (R29, R137, R169), and the integer group (O2; R136, R137, R141). -/
namespace Sys2Proof.Machine

/-! ### Issue on what the fetch leaves -/

theorem State.engine_of_eng {s t : State} (h : t.eng = s.eng) (k : Nat) : t.engine k = s.engine k := by simp [State.engine, h]

theorem State.gr_of_eng {s t : State} (h : t.eng = s.eng) (k r : Nat) : t.gr k r = s.gr k r := by
  simp [State.gr, State.engine_of_eng h]

@[simp] theorem State.fetched_engine (s : State) (e : Eng) (k : Nat) : (s.fetched e).engine k = s.engine k :=
  State.engine_of_eng (s.fetched_eng e) k

@[simp] theorem State.fetched_gr (s : State) (e : Eng) (k r : Nat) : (s.fetched e).gr k r = s.gr k r :=
  State.gr_of_eng (s.fetched_eng e) k r

/-- At a boundary no halt waits, so that none takes effect after an instruction that asks for none (R175). -/
theorem State.settleEng_idle {s t : State} {e : Eng} (h : s.boundary e = none)
    (ht : (t.engine (Eng.key e)).halting = (s.engine (Eng.key e)).halting) : t.settleEng e = t := by
  cases e with
  | seq n f => rfl
  | core c f => exact State.settleHalt_of_none (ht.trans (halting_of_boundary h))

/-! ### Halts of a core (R160, R175, R176) -/

theorem State.settleHalt_of_holds {s : State} {c : Nat} (h : s.holdsHalt c = true) : s.settleHalt c = s := by
  unfold State.settleHalt
  split
  · exact if_pos h
  · rfl

theorem State.holdsHalt_of_eq {s t : State} {c : Nat} (hb : t.bus = s.bus) (hw : (t.engine c).wait = (s.engine c).wait) :
    t.holdsHalt c = s.holdsHalt c := by simp [State.holdsHalt, State.inFlightOf, hb, hw]

theorem State.haltInto_stopped {s : State} {c : Nat} (st : Nat) (h : s.get (F.CORE_STATE c) ≠ 1 ∧ s.get (F.CORE_STATE c) ≠ 2) :
    s.haltInto c st = s := by simp [State.haltInto, h]

theorem State.haltInto_waits {s : State} {c : Nat} (st : Nat) (h : s.get (F.CORE_STATE c) = 1 ∨ s.get (F.CORE_STATE c) = 2)
    (hh : s.holdsHalt c = true) :
    s.haltInto c st = s.setEngine c { s.engine c with halting := some (haltOf (s.engine c).halting st) } := by
  simp [State.haltInto, h, hh]

theorem State.haltInto_stops {s : State} {c : Nat} (st : Nat) (h : s.get (F.CORE_STATE c) = 1 ∨ s.get (F.CORE_STATE c) = 2)
    (hh : s.holdsHalt c = false) : s.haltInto c st = s.stopInto c (haltOf (s.engine c).halting st) := by
  simp [State.haltInto, h, hh]

@[simp] theorem State.stopCore_engine (s : State) (c st : Nat) :
    (s.stopCore c st).engine c = { s.engine c with wait := .none, halting := none } := by simp [State.stopCore]

@[simp] theorem State.stopInto_engine (s : State) (c st : Nat) :
    (s.stopInto c st).engine c = { s.engine c with wait := .none, halting := none } := by
  unfold State.stopInto
  dsimp only
  split <;> simp

/-- Of a core that is told to halt, either the halt waits for what the core is doing or none waits. -/
theorem State.haltInto_settled {s : State} {c : Nat} (h : (s.engine c).halting = none) (st : Nat) :
    (s.haltInto c st).holdsHalt c = true ∨ ((s.haltInto c st).engine c).halting = none := by
  by_cases hst : s.get (F.CORE_STATE c) = 1 ∨ s.get (F.CORE_STATE c) = 2
  · cases hh : s.holdsHalt c with
    | false => right; simp [State.haltInto_stops st hst hh]
    | true =>
      left
      rw [State.haltInto_waits st hst hh]
      simpa [State.holdsHalt, State.inFlightOf] using hh
  · right
    rw [State.haltInto_stopped st (by omega), h]

/-- A synchronous cause leaves no halt behind that could take effect (R159, R160, R175). -/
theorem State.settleHalt_syncCause {s : State} {c : Nat} (h : (s.engine c).halting = none) (cause : Nat) (a : Option Nat) (w : Nat) :
    (s.syncCause c cause a w).settleHalt c = s.syncCause c cause a w := by
  unfold State.syncCause
  extract_lets e
  split
  · have hl := (s.haltInto c 3).raise_logOnly 0x7B e.pc 0 c none
    rcases State.haltInto_settled h 3 with hh | hh
    · exact State.settleHalt_of_holds ((State.holdsHalt_of_eq hl.bus (by rw [hl.engine])).trans hh)
    · exact State.settleHalt_of_none (by rw [hl.engine, hh])
  · exact State.settleHalt_of_none (by simp [State.enterExc, h])

theorem State.settleEng_raiseCause_idle {s t : State} {e : Eng} (h : s.boundary e = none)
    (ht : (t.engine (Eng.key e)).halting = (s.engine (Eng.key e)).halting) (cause : Nat) (a : Option Nat) (w : Nat) :
    (t.raiseCause e cause a w).settleEng e = t.raiseCause e cause a w := by
  cases e with
  | seq n f => rfl
  | core c f => exact State.settleHalt_syncCause (ht.trans (halting_of_boundary h)) ..

/-! ### The outcomes of an instruction that issues (R137, R157, R159) -/

section
variable {s t : State} {e : Eng} {who : Who} {keeperOnly : Bool} {f : State → Act} (h : s.boundary e = none) (w : Nat)
include h

/-- The engine executes the instruction, at its level. -/
theorem State.issue_acts (hw : who.runs e = true) (hk : keeperOnly = true → s.atKeeper e = true) :
    s.issue e w who keeperOnly f = State.conclude e w (f (s.fetched e)) := by
  have hkf : (s.fetched e).atKeeper e = s.atKeeper e := by cases e <;> simp [State.atKeeper]
  rw [State.issue_fetched h]
  cases keeperOnly with
  | false => simp [State.actOf, hw]
  | true => simp [State.actOf, hw, hkf, hk rfl]

theorem State.conclude_next (ht : (t.engine (Eng.key e)).halting = (s.engine (Eng.key e)).halting) :
    State.conclude e w (.next t) = t.retire (Eng.key e) (((t.engine (Eng.key e)).pc + 4) % 2 ^ 40) :=
  State.settleEng_idle h (by simp [ht])

theorem State.conclude_setGr (ht : (t.engine (Eng.key e)).halting = (s.engine (Eng.key e)).halting) (d : Nat) (v : Dword) :
    State.conclude e w (.next (t.setGr (Eng.key e) d v)) = t.wrote e d v := by
  rw [State.conclude_next h w (by simp [State.setGr, Engine.setG_halting, ht])]
  simp [State.retire, State.setGr, State.wrote]

theorem State.conclude_goto (ht : (t.engine (Eng.key e)).halting = (s.engine (Eng.key e)).halting) (pc : Nat) :
    State.conclude e w (.goto pc t) = t.went e pc :=
  State.settleEng_idle (t := t.went e pc) h (by simp [State.went, ht])

theorem State.conclude_cause (ht : (t.engine (Eng.key e)).halting = (s.engine (Eng.key e)).halting) (c : Nat) (a : Option Nat) :
    State.conclude e w (.cause c a t) = t.raiseCause e c a w :=
  State.settleEng_raiseCause_idle h ht c a w

/-- An instruction that writes D and does nothing else. -/
theorem State.issueVal_fetched (d : Nat) (v : State → Dword) (hw : who.runs e = true) :
    s.issueVal e w who d v = (s.fetched e).wrote e d (v (s.fetched e)) := by
  rw [State.issueVal, State.issue_acts h w hw (by simp)]
  exact State.conclude_setGr h w (by simp) d _

end

/-! ### What an instruction that writes D leaves (R136, R137) -/

theorem State.gr_setGr (s : State) (k d r : Nat) (v : Dword) :
    (s.setGr k d v).gr k r = if r = 0 then 0 else if r = d then v else s.gr k r := by
  by_cases hr : r = 0
  · simp [State.gr, hr]
  · by_cases hd : d = 0
    · simp [State.gr, State.setGr, Engine.setG, hr, hd]
    · by_cases hrd : r = d
      · simp [State.gr, State.setGr, Engine.setG, hd, hrd]
      · simp [State.gr, State.setGr, Engine.setG, hr, hd, hrd, tabGet_tabSet_ne]

theorem State.gr_wrote (s : State) (e : Eng) (d r : Nat) (v : Dword) :
    (s.wrote e d v).gr (Eng.key e) r = if r = 0 then 0 else if r = d then v else s.gr (Eng.key e) r := by
  rw [← State.gr_setGr]
  simp [State.gr, State.wrote, State.setGr]

theorem State.wrote_engine (s : State) (e : Eng) (d : Nat) (v : Dword) : (s.wrote e d v).engine (Eng.key e) =
    { (s.engine (Eng.key e)).setG d v with
      pc := ((s.engine (Eng.key e)).pc + 4) % 2 ^ 40, retired := ((s.engine (Eng.key e)).retired + 1) % 2 ^ 64 } := by
  simp [State.wrote]

theorem State.setEngine_onlyEngine (s : State) (k : Nat) (e : Engine) : OnlyEngine k s (s.setEngine k e) :=
  ⟨rfl, fun j hj => s.engine_setEngine_ne k j e hj⟩

theorem State.wrote_frame (s : State) (e : Eng) (d : Fin 32) (v : Dword) :
    let k := Eng.key e
    let t := s.wrote e d v
    t.gr k 0 = 0 ∧ (d ≠ 0 → t.gr k d = v) ∧ (∀ r, r ≠ d.val → t.gr k r = s.gr k r) ∧ (d = 0 → ∀ r, t.gr k r = s.gr k r) ∧
     (∀ n, (t.engine k).sreg n = (s.engine k).sreg n) ∧ (t.engine k).tb = (s.engine k).tb ∧
     (t.engine k).impr = (s.engine k).impr ∧ (t.engine k).pc = ((s.engine k).pc + 4) % 2 ^ 40 ∧ OnlyEngine k s t ∧ SameBytes s t := by
  intro k t
  have hgr : ∀ r, t.gr k r = if r = 0 then 0 else if r = d then v else s.gr k r := fun r => s.gr_wrote e d r v
  have heng : t.engine k = _ := s.wrote_engine e d v
  have hzero : s.gr k 0 = 0 := rfl
  refine ⟨rfl, fun hd => ?_, fun r hr => ?_, fun hd r => ?_, fun n => ?_, ?_, ?_, ?_, s.setEngine_onlyEngine ..,
    fun _ => ⟨rfl, rfl, rfl⟩⟩
  · rw [hgr, if_neg (fun h0 : d.val = 0 => hd (Fin.ext h0)), if_pos rfl]
  · rw [hgr, if_neg hr]
    split
    · next h0 => rw [h0, hzero]
    · rfl
  · subst hd
    rw [hgr]
    split
    · next h0 => rw [h0, hzero]
    · next h0 => exact if_neg h0
  · rw [heng]; exact Engine.sreg_of_sr (Engine.setG_sr ..) n
  · rw [heng]; exact Engine.setG_tb ..
  · rw [heng]; exact Engine.setG_impr ..
  · rw [heng]

/-! ### Counts of bits and the reversal of bytes (R141) -/

/-- Leading zeros: the number lies below the power of two that they leave, and its highest bit is set unless it is zero. -/
theorem lzcOf_spec (a n : Nat) (h : a < 2 ^ n) :
    lzcOf a n ≤ n ∧ a < 2 ^ (n - lzcOf a n) ∧ (lzcOf a n < n → 2 ^ (n - 1 - lzcOf a n) ≤ a) := by
  induction n with
  | zero => simpa [lzcOf] using h
  | succ n ih =>
    by_cases hb : bitAt a n = true
    · have hle : 2 ^ n ≤ a := by
        by_contra hlt
        rw [bitAt_of_lt (by omega)] at hb
        cases hb
      simp [lzcOf, hb, h, hle]
    · have hlt : a < 2 ^ n := by
        have hdiv : a / 2 ^ n < 2 := Nat.div_lt_of_lt_mul (by rwa [← Nat.pow_succ])
        rw [bitAt_eq_true] at hb
        have hzero : a / 2 ^ n = 0 := by generalize a / 2 ^ n = q at hb hdiv; omega
        exact (Nat.div_eq_zero_iff_lt (Nat.two_pow_pos n)).1 hzero
      obtain ⟨h1, h2, h3⟩ := ih hlt
      simp only [lzcOf, hb, Bool.false_eq_true, if_false, show n + 1 - (1 + lzcOf a n) = n - lzcOf a n by omega,
        show n + 1 - 1 - (1 + lzcOf a n) = n - 1 - lzcOf a n by omega]
      exact ⟨by omega, h2, fun hr => h3 (by omega)⟩

/-- Trailing zeros: the number is a multiple of the power of two that they make, and no greater one. -/
theorem tzcOf_spec (a n : Nat) : tzcOf a n ≤ n ∧ a % 2 ^ tzcOf a n = 0 ∧ (tzcOf a n < n → a / 2 ^ tzcOf a n % 2 = 1) := by
  induction n generalizing a with
  | zero => simp [tzcOf, Nat.mod_one]
  | succ n ih =>
    by_cases hb : a % 2 = 1
    · simp [tzcOf, hb, Nat.mod_one]
    · obtain ⟨h1, h2, h3⟩ := ih (a / 2)
      have hpow : 2 ^ (1 + tzcOf (a / 2) n) = 2 * 2 ^ tzcOf (a / 2) n := by rw [Nat.pow_add, Nat.pow_one]
      simp only [tzcOf, hb, if_false, hpow]
      refine ⟨by omega, ?_, fun hr => ?_⟩
      · rw [Nat.mod_mul, h2]
        omega
      · rw [← Nat.div_div_eq_div_mul]
        exact h3 (by omega)

theorem popCount_eq_length (x : Dword) (n : Nat) : popCount x.toNat n = ((List.range n).filter (fun i => x.getLsbD i)).length := by
  induction n with
  | zero => rfl
  | succ n ih =>
    have hbit : x.getLsbD n = decide (x.toNat / 2 ^ n % 2 = 1) := Nat.testBit_eq_decide_div_mod_eq
    rw [popCount, ih, List.range_succ, List.filter_append, List.length_append, List.filter_singleton, hbit]
    by_cases hp : x.toNat / 2 ^ n % 2 = 1
    · simp [hp]
    · simp [hp]; omega

/-- Byte `i` of a number made of bytes. -/
theorem leNat_byte (bs : List Byte) (i : Nat) : leNat bs / 2 ^ (8 * i) % 256 = (bs.getD i 0).toNat := by
  induction bs generalizing i with
  | nil => simp [leNat]
  | cons b bs ih =>
    have hb := b.isLt
    cases i with
    | zero => simp [leNat]; omega
    | succ i =>
      have hdiv : leNat (b :: bs) / 256 = leNat bs := by simp only [leNat]; omega
      rw [Nat.mul_succ, Nat.add_comm, Nat.pow_add, ← Nat.div_div_eq_div_mul, show 2 ^ 8 = 256 from rfl, hdiv, ih]
      rfl

theorem bswapOf_byte (x : Dword) {i : Nat} (h : i < 8) : (bswapOf x).toNat / 2 ^ (8 * i) % 256 = x.toNat / 2 ^ (8 * (7 - i)) % 256 := by
  have hlt : leNat (leBytes x.toNat 8).reverse < 2 ^ 64 := by simpa using leNat_lt (leBytes x.toNat 8).reverse
  have hrev : (leBytes x.toNat 8).reverse.getD i 0 = (leBytes x.toNat 8).getD (7 - i) 0 := by
    rw [List.getD_eq_getElem?_getD, List.getElem?_reverse (by simpa using h), List.getD_eq_getElem?_getD, leBytes_length]
  rw [bswapOf, BitVec.toNat_ofNat, Nat.mod_eq_of_lt hlt, leNat_byte, hrev, leBytes_getD_toNat _ _ _ (by omega)]

/-! ### The 32-bit forms (R141) -/

theorem op32_toNat (f : BitVec 32 → BitVec 32 → BitVec 32) (x y : Dword) :
    op32 f x y = BitVec.ofNat 64 (f (x.setWidth 32) (y.setWidth 32)).toNat := by
  rw [BitVec.ofNat_toNat]
  rfl

/-- Settles O2: each function of the integer group is its own `f` of A and B, and `wrote` says what a completed instruction leaves. -/
theorem integerResults : Obligations.IntegerResults := by
  unfold Obligations.IntegerResults
  refine ⟨fun e d a b s hb => ?_, fun e d a b s hb => ?_, fun e d v s => s.wrote_frame e d v⟩
  · intro c x y gives
    have hgives (i : Instr) (fn : Nat) (f : Dword → Dword → Dword) (hi : exec i s = .next (s.intOp e fn .both d a b f)) {v : Dword}
        (hv : f x y = v) : gives i v := by
      have hop : s.intOp e fn .both d a b f = _ := State.issueVal_fetched hb _ d _ rfl
      rw [State.fetched_gr, State.fetched_gr, show f (s.gr (Eng.key e) a) (s.gr (Eng.key e) b) = v from hv] at hop
      exact hi.trans (congrArg Host.Outcome.next hop)
    have hmod : (y.setWidth 32).toNat % 32 = y.toNat % 32 := by simp
    refine ⟨hgives _ _ _ rfl (by rfl), hgives _ _ _ rfl (by rfl), hgives _ _ _ rfl (by rfl), hgives _ _ _ rfl (by rfl),
      hgives _ _ _ rfl (by rfl), hgives _ _ _ rfl (by rfl), hgives _ _ _ rfl (by rfl), hgives _ _ _ rfl (by rfl),
      hgives _ _ _ rfl (by rfl), hgives _ _ _ rfl (by rfl), hgives _ _ _ rfl (by simp [flag]),
      hgives _ _ _ rfl (by simp [flag]), hgives _ _ _ rfl (by rfl), hgives _ _ _ rfl (by rfl), hgives _ _ _ rfl (by rfl),
      hgives _ _ _ rfl (by rfl), hgives _ _ _ rfl (by rfl), hgives _ _ _ rfl (by rfl), hgives _ _ _ rfl (by rfl),
      hgives _ _ _ rfl ?_, hgives _ _ _ rfl (by rfl), hgives _ _ _ rfl ?_, hgives _ _ _ rfl ?_, hgives _ _ _ rfl ?_,
      hgives _ _ _ rfl ?_, hgives _ _ _ rfl (by rfl)⟩
    · rw [op32_toNat]; simp
    · simp only [op32, hmod]
    · rw [op32_toNat, hmod]; simp [Nat.shiftRight_eq_div_pow]
    · simp only [op32, hmod]
    · rw [op32_toNat]; simp [Nat.mul_mod]
  · intro c x
    have hop (fn : Nat) (f : Dword → Dword) : s.intOp e fn .both d a b (fun x _ => f x) = c.wrote e d (f x) := by
      have h : s.intOp e fn .both d a b (fun x _ => f x) = _ := State.issueVal_fetched hb _ d _ rfl
      rwa [State.fetched_gr] at h
    obtain ⟨hl, hlt, hle⟩ := lzcOf_spec x.toNat 64 x.isLt
    obtain ⟨ht, hmul, hodd⟩ := tzcOf_spec x.toNat 64
    refine ⟨⟨_, congrArg Host.Outcome.next (hop 0x40 _), hl, hlt, hle⟩,
      ⟨_, congrArg Host.Outcome.next (hop 0x41 _), ht, hmul, hodd, fun h => ?_⟩,
      congrArg Host.Outcome.next ((hop 0x42 _).trans (by rw [popCount_eq_length])),
      ⟨_, congrArg Host.Outcome.next (hop 0x39 _), fun i hi => bswapOf_byte x hi⟩⟩
    rw [h, Nat.mod_eq_of_lt x.isLt] at hmul
    exact BitVec.eq_of_toNat_eq hmul

end Sys2Proof.Machine
end

section
/-! Division (O3; R142). -/
namespace Sys2Proof.Machine

/-- Quotient and remainder, rounded toward zero, fit their 64 bits where neither B is zero nor the quotient overflows. -/
theorem tdiv_tmod_fit {x y : Int} (hx : -2 ^ 63 ≤ x ∧ x < 2 ^ 63) (hy : -2 ^ 63 ≤ y ∧ y < 2 ^ 63) (h0 : y ≠ 0)
    (ho : ¬(x = -2 ^ 63 ∧ y = -1)) : (-2 ^ 63 ≤ x.tdiv y ∧ x.tdiv y < 2 ^ 63) ∧ (-2 ^ 63 ≤ x.tmod y ∧ x.tmod y < 2 ^ 63) := by
  have hq : (x.tdiv y).natAbs = x.natAbs / y.natAbs := Int.natAbs_tdiv ..
  have hr : (x.tmod y).natAbs = x.natAbs % y.natAbs := Int.natAbs_tmod ..
  have hlt : x.natAbs % y.natAbs < y.natAbs := Nat.mod_lt _ (by omega)
  refine ⟨?_, by omega⟩
  by_cases h1 : y = 1
  · subst h1; simpa using hx
  by_cases hm1 : y = -1
  · subst hm1
    have hneg : x.tdiv (-1) = -x := by simp
    omega
  · have hhalf : x.natAbs / y.natAbs ≤ x.natAbs / 2 := Nat.div_le_div_left (by omega) (by decide)
    omega

theorem toInt_range (x : Dword) : -2 ^ 63 ≤ x.toInt ∧ x.toInt < 2 ^ 63 := ⟨BitVec.le_toInt x, BitVec.toInt_lt⟩

theorem toInt_ofInt_fit {n : Int} (h : -2 ^ 63 ≤ n ∧ n < 2 ^ 63) : (BitVec.ofInt 64 n).toInt = n :=
  BitVec.toInt_ofInt_eq_self (by decide) h.1 h.2

theorem toInt_ne_zero {y : Dword} (h : y ≠ 0) : y.toInt ≠ 0 := fun h0 => h (BitVec.eq_of_toInt_eq (by simpa using h0))

/-- The signed results where B is not zero and the quotient does not overflow. -/
theorem quosOf_modsOf_toInt {x y : Dword} (h0 : y ≠ 0) (ho : ¬(x.toInt = -2 ^ 63 ∧ y.toInt = -1)) :
    (quosOf x y).toInt = x.toInt.tdiv y.toInt ∧ (modsOf x y).toInt = x.toInt.tmod y.toInt := by
  obtain ⟨hq, hr⟩ := tdiv_tmod_fit (toInt_range x) (toInt_range y) (toInt_ne_zero h0) ho
  have hc : (decide (x.toInt = -2 ^ 63) && decide (y.toInt = -1)) = false := by simpa using ho
  rw [quosOf, modsOf, if_neg h0, if_neg h0, hc]
  exact ⟨toInt_ofInt_fit hq, toInt_ofInt_fit hr⟩

/-- The remainder is smaller in size than B, and carries the sign of A. -/
theorem tmod_size_sign (x : Int) {y : Int} (h : y ≠ 0) : (x.tmod y).natAbs < y.natAbs ∧ (x.tmod y = 0 ∨ (x.tmod y < 0 ↔ x < 0)) := by
  refine ⟨by rw [Int.natAbs_tmod]; exact Nat.mod_lt _ (by omega), ?_⟩
  have hs := Int.sign_tmod x y
  split at hs
  · exact .inl (Int.sign_eq_zero_iff_zero.1 hs)
  · exact .inr (by rw [← Int.sign_eq_neg_one_iff_neg, hs, Int.sign_eq_neg_one_iff_neg])

/-- B zero, and the quotient that overflows. -/
theorem div_saturates (x : Dword) :
    (quosOf x 0).toInt = (if 0 ≤ x.toInt then 2 ^ 63 - 1 else -2 ^ 63) ∧ modsOf x 0 = x ∧ (quouOf x 0).toNat = 2 ^ 64 - 1 ∧
      moduOf x 0 = x := by
  refine ⟨?_, rfl, rfl, rfl⟩
  by_cases h : x.toInt < 0
  · rw [quosOf, if_pos rfl, if_pos h, if_neg (by omega)]; decide
  · rw [quosOf, if_pos rfl, if_neg h, if_pos (by omega)]; decide

theorem div_overflow {x y : Dword} (hx : x.toInt = -2 ^ 63) (hy : y.toInt = -1) :
    (quosOf x y).toInt = 2 ^ 63 - 1 ∧ modsOf x y = 0 := by
  have h0 : y ≠ 0 := by rintro rfl; simp at hy
  have hc : (decide (x.toInt = -2 ^ 63) && decide (y.toInt = -1)) = true := by simp [hx, hy]
  rw [quosOf, modsOf, if_neg h0, if_neg h0, if_pos hc, if_pos hc]
  exact ⟨by decide, rfl⟩

theorem quouOf_moduOf_toNat {x y : Dword} (h0 : y ≠ 0) :
    (quouOf x y).toNat = x.toNat / y.toNat ∧ (moduOf x y).toNat = x.toNat % y.toNat := by
  have hx := x.isLt
  rw [quouOf, moduOf, if_neg h0, if_neg h0, BitVec.toNat_ofNat, BitVec.toNat_ofNat]
  exact ⟨Nat.mod_eq_of_lt ((Nat.div_le_self ..).trans_lt hx), Nat.mod_eq_of_lt ((Nat.mod_le ..).trans_lt hx)⟩

/-- Settles O3: the four functions of R142 saturate where B is zero or the quotient overflows, and divide everywhere else. -/
theorem divisionCorners : Obligations.DivisionCorners := by
  unfold Obligations.DivisionCorners
  intro c d a b s hb x y
  have hop (fn : Nat) (f : Dword → Dword → Dword) : s.intOp (.core c) fn .coreOnly d a b f = s.wrote (.core c) d (f x y) :=
    State.issueVal_fetched hb _ d _ rfl
  refine ⟨quosOf x y, modsOf x y, quouOf x y, moduOf x y, congrArg Host.Outcome.next (hop ..), congrArg Host.Outcome.next (hop ..),
    congrArg Host.Outcome.next (hop ..), congrArg Host.Outcome.next (hop ..), fun h => ?_, div_overflow, fun h0 ho => ?_, fun h0 => ?_⟩
  · rw [h]; exact div_saturates x
  · obtain ⟨hq, hr⟩ := quosOf_modsOf_toInt h0 ho
    rw [hq, hr]
    exact ⟨by rw [Int.mul_comm]; exact (Int.mul_tdiv_add_tmod ..).symm, tmod_size_sign _ (toInt_ne_zero h0)⟩
  · obtain ⟨hq, hr⟩ := quouOf_moduOf_toNat (x := x) h0
    rw [hq, hr]
    have hpos : 0 < y.toNat := Nat.pos_of_ne_zero fun h => h0 (BitVec.eq_of_toNat_eq h)
    exact ⟨(Nat.div_add_mod' ..).symm, Nat.mod_lt _ hpos⟩

end Sys2Proof.Machine
end

section
/-! The immediate group (O4; R143). -/
namespace Sys2Proof.Machine

/-! ### Immediates, sign-extended and shifted -/

theorem twoPow_eq_ofInt (k : Nat) : BitVec.twoPow 64 k = BitVec.ofInt 64 (2 ^ k) := by
  rw [← Nat.cast_two, ← Nat.cast_pow, BitVec.ofInt_natCast]
  exact BitVec.eq_of_toNat_eq (by simp)

theorem signExtend_shiftLeft {w : Nat} (u : BitVec w) (k : Nat) : (u.signExtend 64) <<< k = BitVec.ofInt 64 (u.toInt * 2 ^ k) := by
  rw [BitVec.shiftLeft_eq_mul_twoPow, BitVec.ofInt_mul, twoPow_eq_ofInt]
  rfl

theorem setWidth_sx16 (i : BitVec 16) : (sx16 i).setWidth 32 = i.signExtend 32 := by
  ext j hj
  simp [sx16, BitVec.getElem_signExtend, show j < 64 by omega]

theorem pcrel_eq (pc : Nat) (u : BitVec 21) : BitVec.ofNat 64 pc + (sx21 u <<< 2) = BitVec.ofInt 64 (pc + 4 * u.toInt) := by
  rw [sx21, signExtend_shiftLeft, BitVec.ofInt_add, BitVec.ofInt_natCast, Int.mul_comm]
  rfl

/-! ### Shifts by an immediate -/

theorem shiftBad_iff (i : BitVec 16) :
    shiftBad i = true ↔ i.toNat / 512 ≠ 0 ∨ (i.toNat / 256 % 2 = 1 ∧ i.toNat / 32 % 2 = 1) := by
  have hi := i.isLt
  have h9 : bits i.toNat 9 7 = i.toNat / 512 := Nat.mod_eq_of_lt (by omega)
  simp [shiftBad, h9, bitAt_eq_true]

theorem shiftBy_doubleword {i : BitVec 16} (h : bitAt i.toNat 8 = false) (k : Nat) (x : Dword) :
    shiftBy k x i = match k with
      | 0 => x <<< (i.toNat % 64)
      | 1 => x >>> (i.toNat % 64)
      | 2 => x.sshiftRight (i.toNat % 64)
      | _ => x.rotateLeft (i.toNat % 64) := by
  simp only [shiftBy, h, Bool.false_eq_true, if_false, bits, Nat.pow_zero, Nat.div_one]
  rfl

theorem shiftBy_word {i : BitVec 16} (h : bitAt i.toNat 8 = true) (k : Nat) (x : Dword) :
    shiftBy k x i = (match k with
      | 0 => x.setWidth 32 <<< (i.toNat % 32)
      | 1 => x.setWidth 32 >>> (i.toNat % 32)
      | 2 => (x.setWidth 32).sshiftRight (i.toNat % 32)
      | _ => (x.setWidth 32).rotateLeft (i.toNat % 32) : BitVec 32).zeroExtend 64 := by
  simp only [shiftBy, h, if_true, bits, Nat.pow_zero, Nat.div_one]
  rfl

section
variable {s : State} {e : Eng} (h : s.boundary e = none) (k : Nat) (d a : Fin 32) {i : BitVec 16}
include h

theorem State.shiftOp_wrote (hi : shiftBad i = false) :
    s.shiftOp e k d a i = (s.fetched e).wrote e d (shiftBy k (s.gr (Eng.key e) a) i) := by
  rw [State.shiftOp, State.issue_acts h _ rfl (by simp)]
  simp only [hi, Bool.false_eq_true, if_false, State.fetched_gr]
  exact State.conclude_setGr h _ (by simp) _ _

theorem State.shiftOp_illegal (hi : shiftBad i = true) :
    s.shiftOp e k d a i = (s.fetched e).raiseCause e 1 none (wordI 0x09 d a (shiftImm k i)) := by
  rw [State.shiftOp, State.issue_acts h _ rfl (by simp)]
  simp only [hi, if_true]
  exact State.conclude_cause h _ (by simp) _ _

end

/-- Settles O4: each instruction is its own function of A and the immediate, and a shift goes by bits 8 and 15:9 of its immediate. -/
theorem immediateResults : Obligations.ImmediateResults := by
  unfold Obligations.ImmediateResults
  refine ⟨fun e d a i u s hb => ?_, fun e d a i s hb => ?_⟩
  · intro c x gives
    have himm (n : Instr) (maj : Nat) (f : Dword → Dword) (hn : exec n s = .next (s.immOp e maj d a i f)) {v : Dword}
        (hv : f x = v) : gives n v := by
      have hop : s.immOp e maj d a i f = _ := State.issueVal_fetched hb _ d _ rfl
      rw [State.fetched_gr, show f (s.gr (Eng.key e) a) = v from hv] at hop
      exact hn.trans (congrArg Host.Outcome.next hop)
    have hi : (sx16 i).toInt = i.toInt := BitVec.toInt_signExtend_of_le (by decide)
    have hz : zx16 i = BitVec.ofNat 64 i.toNat := (BitVec.ofNat_toNat ..).symm
    refine ⟨himm _ _ _ rfl (by rfl), himm _ _ _ rfl (by rw [op32, setWidth_sx16]), himm _ _ _ rfl (by rw [hz]), himm _ _ _ rfl (by rw [hz]),
      himm _ _ _ rfl (by rw [hz]), himm _ _ _ rfl (by simp [hi, flag]), himm _ _ _ rfl (by simp only [flag, decide_eq_true_iff]; rfl), ?_,
      himm _ _ _ rfl (by rw [sx16, signExtend_shiftLeft]), ?_⟩
    · rw [← signExtend_shiftLeft]
      exact congrArg Host.Outcome.next (State.issueVal_fetched hb _ d _ rfl)
    · rw [← pcrel_eq, ← State.fetched_engine s e]
      exact congrArg Host.Outcome.next (State.issueVal_fetched hb _ d _ rfl)
  · intro c x n m z gives
    have hi := i.isLt
    have hshift (hbad : ¬(i.toNat / 512 ≠ 0 ∨ (i.toNat / 256 % 2 = 1 ∧ i.toNat / 32 % 2 = 1))) 
        {j : Instr} {k : Nat} {v : Dword} (hj : exec j s = .next (s.shiftOp e k d a i)) (hv : shiftBy k x i = v) : gives j v := by
      have hw := State.shiftOp_wrote hb k d a (Bool.eq_false_iff.2 ((shiftBad_iff i).not.2 hbad))
      exact hj.trans (congrArg Host.Outcome.next (hw.trans (congrArg (c.wrote e d) hv)))
    refine ⟨fun h256 => ?_, fun h256 h32 => ?_, fun hbad => ?_⟩
    · have h8 (k : Nat) := shiftBy_doubleword (bitAt_of_lt (by omega) : bitAt i.toNat 8 = false) k x
      exact ⟨hshift (by omega) rfl (h8 0), hshift (by omega) rfl (h8 1), hshift (by omega) rfl (h8 2), hshift (by omega) rfl (h8 3)⟩
    · have h8 (k : Nat) := shiftBy_word (bitAt_eq_true.2 (by omega) : bitAt i.toNat 8 = true) k x
      exact ⟨hshift (by omega) rfl (h8 0), hshift (by omega) rfl (h8 1), hshift (by omega) rfl (h8 2), hshift (by omega) rfl (h8 3)⟩
    · rw [← shiftBad_iff] at hbad
      exact ⟨fun k => wordI 0x09 d a (shiftImm k i), congrArg Host.Outcome.next (State.shiftOp_illegal hb 0 d a hbad),
        congrArg Host.Outcome.next (State.shiftOp_illegal hb 1 d a hbad), congrArg Host.Outcome.next (State.shiftOp_illegal hb 2 d a hbad),
        congrArg Host.Outcome.next (State.shiftOp_illegal hb 3 d a hbad)⟩

end Sys2Proof.Machine
end

section
/-! Branches, jumps and calls (O5; R136, R147, R148), and the addresses that loads and stores refuse (O8; R145, R157). -/
namespace Sys2Proof.Machine

/-! ### What a cause leaves alone -/

/-- Nothing has changed but registers, the fault log and what the engines hold beside their general registers. -/
structure KeepsData (s t : State) : Prop where
  rest : { t with regs := s.regs, log := s.log, eng := s.eng } = s
  g : ∀ j, (t.engine j).g = (s.engine j).g

namespace KeepsData

theorem refl (s : State) : KeepsData s s := ⟨rfl, fun _ => rfl⟩

theorem trans {s t u : State} (h : KeepsData s t) (k : KeepsData t u) : KeepsData s u :=
  ⟨(congrArg (fun x : State => { x with regs := s.regs, log := s.log, eng := s.eng }) k.rest).trans h.rest,
    fun j => (k.g j).trans (h.g j)⟩

theorem of_logOnly {s t : State} (h : LogOnly s t) : KeepsData s t := by
  obtain ⟨r, l, rfl, _⟩ := h
  exact ⟨rfl, fun _ => rfl⟩

theorem put (s : State) (f : Fld) (v : Nat) : KeepsData s (s.put f v) := ⟨rfl, fun _ => rfl⟩

theorem setEngine (s : State) (k : Nat) {e : Engine} (h : e.g = (s.engine k).g) : KeepsData s (s.setEngine k e) := by
  refine ⟨rfl, fun j => ?_⟩
  by_cases hj : j = k
  · rw [hj, State.engine_setEngine_same, h]
  · rw [State.engine_setEngine_ne _ _ _ _ hj]

variable {s t : State} (h : KeepsData s t)
include h

theorem gr (j r : Nat) : t.gr j r = s.gr j r := by simp [State.gr, h.g]

theorem bus : t.bus = s.bus := by simpa using congrArg State.bus h.rest

end KeepsData

theorem State.stopCore_keepsData (s : State) (c st : Nat) : KeepsData s (s.stopCore c st) :=
  (KeepsData.setEngine s c (e := { s.engine c with wait := .none, halting := none }) rfl).trans
    (((KeepsData.put ..).trans (.put ..)).trans (.put ..))

theorem State.stopInto_keepsData (s : State) (c st : Nat) : KeepsData s (s.stopInto c st) := by
  unfold State.stopInto
  dsimp only
  split
  · exact (s.stopCore_keepsData ..).trans (.of_logOnly (State.raise_logOnly ..))
  · exact s.stopCore_keepsData ..

theorem State.haltInto_keepsData (s : State) (c st : Nat) : KeepsData s (s.haltInto c st) := by
  unfold State.haltInto
  dsimp only
  split_ifs
  · exact .setEngine s c rfl
  · exact s.stopInto_keepsData ..
  · exact .refl s

theorem State.syncCause_keepsData (s : State) (c cause : Nat) (addr : Option Nat) (w : Nat) : KeepsData s (s.syncCause c cause addr w) := by
  unfold State.syncCause
  dsimp only
  split
  · exact (s.haltInto_keepsData ..).trans (.of_logOnly (State.raise_logOnly ..))
  · exact .setEngine s c rfl

theorem State.seqFault_keepsData (s : State) (n cause : Nat) (addr : Option Nat) : KeepsData s (s.seqFault n cause addr) := by
  unfold State.seqFault State.seqFaultAt
  extract_lets t u engine v
  have ht : KeepsData s t := (KeepsData.put ..).trans (.put ..)
  have hu : KeepsData t u := by
    cases addr with
    | none => exact .refl t
    | some a => exact (KeepsData.put ..).trans (.put ..)
  have hv : KeepsData u v := (KeepsData.setEngine u (16 + n) (e := { u.engine (16 + n) with wait := .none }) rfl).trans (.put ..)
  exact ((ht.trans hu).trans hv).trans (.of_logOnly (State.seqRec_logOnly ..))

theorem State.raiseCause_keepsData (s : State) (e : Eng) (cause : Nat) (addr : Option Nat) (w : Nat) :
    KeepsData s (s.raiseCause e cause addr w) := by
  cases e with
  | core c f => exact s.syncCause_keepsData ..
  | seq n f => exact s.seqFault_keepsData ..

/-! ### Branches -/

theorem pcPlus_one (pc : Nat) : pcPlus pc 1 = (pc + 4) % 2 ^ 40 := by simp only [pcPlus]; omega

section
variable {s : State} {e : Eng} (h : s.boundary e = none)
include h

/-- An instruction that goes to `pc` and does nothing else. -/
theorem State.issue_goes {w : Nat} {f : State → Act} {t : State} {pc : Nat}
    (ht : (t.engine (Eng.key e)).halting = (s.engine (Eng.key e)).halting) (hf : f (s.fetched e) = .goto pc t) :
    s.issue e w .both false f = t.went e pc := by
  rw [State.issue_acts h w rfl (by simp), hf, State.conclude_goto h w ht]

theorem State.issue_causes {w : Nat} {f : State → Act} {cause : Nat} {a : Option Nat} (hf : f (s.fetched e) = .cause cause a (s.fetched e)) :
    s.issue e w .both false f = (s.fetched e).raiseCause e cause a w := by
  rw [State.issue_acts h w rfl (by simp), hf, State.conclude_cause h w (by simp)]

/-- A branch goes where its condition on A and B says. -/
theorem State.branch_went (maj : Nat) (a b : Fin 32) (off : BitVec 16) (p : Dword → Dword → Bool) :
    s.branch e maj a b off p = (s.fetched e).went e
      (if p (s.gr (Eng.key e) a) (s.gr (Eng.key e) b) then pcPlus (s.engine (Eng.key e)).pc off.toInt
        else ((s.engine (Eng.key e)).pc + 4) % 2 ^ 40) := by
  rw [State.branch, State.issue_acts h _ rfl (by simp)]
  simp only [State.fetched_gr, State.fetched_engine]
  split
  · exact State.conclude_goto h _ (by simp) _
  · rw [State.conclude_next h _ (by simp), State.fetched_engine]
    rfl

end

theorem State.setGr_halting (s : State) (k d : Nat) (v : Dword) : ((s.setGr k d v).engine k).halting = (s.engine k).halting := by
  simp [State.setGr, Engine.setG_halting]

/-- Settles O5: each branch by its condition, and a call by the order in which it reads A, writes its link and judges its target. -/
theorem branchTargets : Obligations.BranchTargets := by
  unfold Obligations.BranchTargets
  refine ⟨fun e a b off far s hb => ?_, fun e d a i s hb => ?_⟩
  · intro c k pc x y dst goes
    have hgoes {n : Instr} {maj : Nat} {p : Dword → Dword → Bool} {taken : Bool} (hn : exec n s = .next (s.branch e maj a b off p))
        (hp : p x y = taken) : goes n taken := by
      rw [← hp]
      exact hn.trans (congrArg Host.Outcome.next (State.branch_went hb maj a b off p))
    have hpc : (c.engine k).pc = pc := by simp [c, pc, k]
    refine ⟨hgoes rfl rfl, hgoes rfl rfl, hgoes rfl rfl, hgoes rfl rfl, hgoes rfl rfl, hgoes rfl rfl, ?_, ?_⟩
    · refine congrArg Host.Outcome.next (State.issue_goes hb (t := c) (by rw [State.fetched_engine]) ?_)
      simp only [c, State.fetched_engine]
      rfl
    · refine congrArg Host.Outcome.next (State.issue_goes hb (t := c.setGr k 31 (BitVec.ofNat 64 (dst 1))) ?_ ?_)
      · rw [State.setGr_halting, State.fetched_engine]
      · simp only [c, State.linkOf, State.fetched_engine]
        rfl
  · intro c k t
    have ht : (c.gr k a + (sx16 i <<< 2)).toNat = t := by
      rw [State.fetched_gr, sx16, signExtend_shiftLeft, Int.mul_comm]
      rfl
    have hlink : c.linkOf k = BitVec.ofNat 64 (((s.engine k).pc + 4) % 2 ^ 40) := by
      rw [State.linkOf, pcPlus_one, State.fetched_engine]
    refine ⟨fun h4 hlt => ?_, fun h4 => ⟨wordI 0x28 d a i, ?_⟩, fun h4 hge => ⟨wordI 0x28 d a i, ?_⟩, fun w r cause => (s.raiseCause_keepsData ..).gr ..⟩
    · rw [← hlink]
      refine congrArg Host.Outcome.next (State.issue_goes hb (t := c.setGr k d (c.linkOf k)) ?_ ?_)
      · rw [State.setGr_halting, State.fetched_engine]
      · simp only [c, k] at ht
        simp only [ht, h4, ne_eq, not_true_eq_false, if_false, Nat.not_le.2 hlt, c, k]
    · refine congrArg Host.Outcome.next (State.issue_causes hb ?_)
      simp only [c, k] at ht
      simp only [ht, h4, ne_eq, not_false_eq_true, if_true]
    · refine congrArg Host.Outcome.next (State.issue_causes hb ?_)
      simp only [c, k] at ht
      simp only [ht, h4, ne_eq, not_true_eq_false, if_false, hge, if_true]

/-! ### Addresses of loads and stores -/

theorem State.load_addrCause {s : State} {e : Eng} {a w cause : Nat} (h : addrCause a w = some cause) (d : Nat) (signed : Bool) (f : MemFind) :
    s.load e d a w signed f = .cause cause (some a) s := by
  simp only [State.load, h]

theorem State.store_addrCause {s : State} {e : Eng} {a w cause : Nat} (h : addrCause a w = some cause) (v : Dword) (word : Nat) :
    s.store e a w v word = .cause cause (some a) s := by
  simp only [State.store, h]

theorem addrCause_address {a : Nat} (h : 2 ^ 40 ≤ a) (w : Nat) : addrCause a w = some 5 := if_pos h

theorem addrCause_misaligned {a w : Nat} (h : a < 2 ^ 40) (hw : a % w ≠ 0) : addrCause a w = some 6 := by
  rw [addrCause, if_neg (by omega), if_pos hw]

theorem State.fetched_effAddr (s : State) (e : Eng) (a : Fin 32) (i : BitVec 16) :
    (s.fetched e).effAddr (Eng.key e) a i = (s.gr (Eng.key e) a + BitVec.ofInt 64 i.toInt).toNat := by
  rw [State.effAddr, State.fetched_gr]
  rfl

section
variable {s : State} {e : Eng} (h : s.boundary e = none) {a : Fin 32} {i : BitVec 16} {w cause : Nat}
  (hc : addrCause (s.gr (Eng.key e) a + BitVec.ofInt 64 i.toInt).toNat w = some cause) (maj : Nat) (d : Fin 32)
include h hc

theorem State.loadOp_addrCause (signed : Bool) (f : MemFind) : s.loadOp e maj d a i w signed f =
    (s.fetched e).raiseCause e cause (some (s.gr (Eng.key e) a + BitVec.ofInt 64 i.toInt).toNat) (wordI maj d a i) :=
  State.issue_causes h (by rw [State.fetched_effAddr, State.load_addrCause hc])

theorem State.storeOp_addrCause : s.storeOp e maj d a i w =
    (s.fetched e).raiseCause e cause (some (s.gr (Eng.key e) a + BitVec.ofInt 64 i.toInt).toNat) (wordI maj d a i) :=
  State.issue_causes h (by rw [State.fetched_effAddr, State.store_addrCause hc])

end

/-- Settles O8: the cause of the address comes before every other of a load or store, and raising it touches no access and no memory. -/
theorem addressCauses : Obligations.AddressCauses := by
  unfold Obligations.AddressCauses
  intro e d a i f s hb p x raises
  have raisesOf (n : Instr) (w : Nat) (hn : ∀ cause, addrCause p w = some cause → ∃ z, exec n s = .next (x.raiseCause e cause (some p) z)) :
      raises n w := ⟨fun h => hn 5 (addrCause_address h w), fun h hw => hn 6 (addrCause_misaligned h hw)⟩
  have hload (n : Instr) (w maj : Nat) (signed : Bool) (hn : exec n s = .next (s.loadOp e maj d a i w signed f)) : raises n w :=
    raisesOf n w fun cause hc => ⟨_, hn.trans (congrArg Host.Outcome.next (State.loadOp_addrCause hb hc maj d signed f))⟩
  have hstore (n : Instr) (w maj : Nat) (hn : exec n s = .next (s.storeOp e maj d a i w)) : raises n w :=
    raisesOf n w fun cause hc => ⟨_, hn.trans (congrArg Host.Outcome.next (State.storeOp_addrCause hb hc maj d))⟩
  refine ⟨hload _ _ _ _ rfl, hload _ _ _ _ rfl, hload _ _ _ _ rfl, hload _ _ _ _ rfl, hload _ _ _ _ rfl, hload _ _ _ _ rfl, hload _ _ _ _ rfl,
    hstore _ _ _ rfl, hstore _ _ _ rfl, hstore _ _ _ rfl, hstore _ _ _ rfl, fun cause z => ?_⟩
  have hk := s.raiseCause_keepsData e cause (some p) z
  exact ⟨hk.bus, .of_mems (State.raiseCause_mems ..), hk.gr⟩

end Sys2Proof.Machine
end

section
/-! Loads of normal memory by a core (O6; R144, R163, R164, R171). -/
namespace Sys2Proof.Machine

/-! ### What the ECC finds (R28 to R30) -/

/-- A finding counts and logs, poisons, and may drop dirty lines. -/
theorem State.applyFind_found (s : State) (a ini : Nat) (f : MemFind) :
    ∃ r l p d, s.applyFind a ini f = { s with regs := r, log := l, poison := p, dirty := d } := by
  have hraise {t : State} {p d} (cls a1 a2 x : Nat) (lim : Option Nat) (ht : ∃ r l, t = { s with regs := r, log := l, poison := p, dirty := d }) :
      ∃ r l p d, t.raise cls a1 a2 x lim = { s with regs := r, log := l, poison := p, dirty := d } := by
    obtain ⟨r, l, rfl⟩ := ht
    obtain ⟨r', l', h, _⟩ := State.raise_logOnly _ cls a1 a2 x lim
    exact ⟨r', l', p, d, h⟩
  cases f with
  | clean => exact ⟨s.regs, s.log, s.poison, s.dirty, rfl⟩
  | ce b =>
    unfold State.applyFind State.eccCe
    dsimp only
    split_ifs
    · exact hraise _ _ _ _ _ ⟨_, _, rfl⟩
    · exact hraise _ _ _ _ _ ⟨_, _, rfl⟩
    · exact ⟨s.regs, s.log, s.poison, s.dirty, rfl⟩
  | ue =>
    unfold State.applyFind State.eccUe
    dsimp only
    generalize (if s.poison.contains (s.eccWord a) then s.poison else s.eccWord a :: s.poison) = p
    split_ifs
    · exact hraise _ _ _ _ _ ⟨_, _, rfl⟩
    · exact hraise _ _ _ _ _ ⟨_, _, rfl⟩
    · exact ⟨s.regs, s.log, s.poison, s.dirty, rfl⟩
  | l2ce =>
    unfold State.applyFind
    exact hraise _ _ _ _ _ ⟨_, _, rfl⟩
  | l2ueClean => exact ⟨_, s.log, s.poison, s.dirty, rfl⟩
  | l2ueDirty =>
    unfold State.applyFind
    exact hraise _ _ _ _ _ ⟨_, _, rfl⟩
  | l1parity => exact ⟨_, s.log, s.poison, s.dirty, rfl⟩

@[simp] theorem State.applyFind_bus (s : State) (a ini : Nat) (f : MemFind) : (s.applyFind a ini f).bus = s.bus := by
  obtain ⟨r, l, p, d, h⟩ := s.applyFind_found a ini f
  rw [h]

@[simp] theorem State.applyFind_inFlightOf (s : State) (a ini : Nat) (f : MemFind) (k : Nat) :
    (s.applyFind a ini f).inFlightOf k = s.inFlightOf k := by simp [State.inFlightOf]

@[simp] theorem State.applyFind_engine (s : State) (a ini : Nat) (f : MemFind) (k : Nat) : (s.applyFind a ini f).engine k = s.engine k :=
  State.engine_of_eng (s.applyFind_eng ..) k

/-! ### What a core loads with nothing of its own in flight (R163) -/

theorem flightByte_eq_none {k : Nat} {l : List Access} (h : ∀ x ∈ l, x.src.id.val ≠ k) (a : Nat) : flightByte k a l = none := by
  induction l with
  | nil => rfl
  | cons x xs ih =>
    simp [flightByte, ih fun y hy => h y (List.mem_cons_of_mem _ hy), h x (List.mem_cons_self ..)]

section
variable {s : State} {k : Nat} (h : s.inFlightOf k = false) (a w : Nat)
include h

theorem State.flightByte_idle : flightByte k a s.bus.inflight = none := by
  rw [State.inFlightOf, List.any_eq_false] at h
  exact flightByte_eq_none (fun x hx hk => h x hx (by simpa using hk)) a

theorem State.loadBytes_idle : s.loadBytes k a w = s.coreRead a w := by
  induction w generalizing a with
  | zero => rfl
  | succ n ih => rw [State.loadBytes, State.coreRead, ih, State.loadByte, State.flightByte_idle h a, Option.getD_none]

theorem State.loadPoison_idle : s.loadPoison k a w = s.corePoisoned a w := by
  induction w generalizing a with
  | zero => rfl
  | succ n ih =>
    simp [State.loadPoison, ih, State.flightByte_idle h a, State.corePoisoned]

theorem State.allForwarded_idle (hw : 0 < w) : s.allForwarded k a w = false := by
  refine List.all_eq_false.2 ⟨0, by simpa using hw, ?_⟩
  simp [State.flightByte_idle h]

end

/-! ### The datum of a load (R144) -/

theorem State.coreRead_length (s : State) (a n : Nat) : (s.coreRead a n).length = n := by
  induction n generalizing a with
  | zero => rfl
  | succ n ih => simp [State.coreRead, ih]

theorem State.leNat_coreRead_lt (s : State) (a w : Nat) : leNat (s.coreRead a w) < 2 ^ (8 * w) := by
  rw [Nat.pow_mul]
  simpa [State.coreRead_length] using leNat_lt (s.coreRead a w)

theorem sint_eq_toInt {w : Nat} (hw : 0 < w) (n : Nat) : sint w n = (BitVec.ofNat w n).toInt := by
  obtain ⟨v, rfl⟩ := Nat.exists_eq_succ_of_ne_zero hw.ne'
  rw [BitVec.toInt_eq_toNat_cond, BitVec.toNat_ofNat]
  simp only [sint, Nat.succ_eq_add_one, Nat.add_sub_cancel, Nat.pow_succ]
  split_ifs <;> push_cast <;> omega

theorem loadExt_signExtend {w : Nat} (hw : 0 < w) (m : Nat) : loadExt true w m = (BitVec.ofNat (8 * w) m).signExtend 64 := by
  simp [loadExt, sint_eq_toInt (show 0 < 8 * w by omega), BitVec.signExtend]

theorem loadExt_coreRead (s : State) (a w : Nat) : loadExt false w (leNat (s.coreRead a w)) = BitVec.ofNat 64 (leNat (s.coreRead a w)) := by
  rw [loadExt, if_neg (by simp), Nat.mod_eq_of_lt (s.leNat_coreRead_lt a w)]

/-! ### The load -/

section
variable {s : State} {c : Fin 16} (hb : s.boundary (.core c) = none) {a : Fin 32} {i : BitVec 16} {w : Nat}
  (hp : (s.gr c a + BitVec.ofInt 64 i.toInt).toNat < 2 ^ 40) (hw : (s.gr c a + BitVec.ofInt 64 i.toInt).toNat % w = 0)
  (hn : s.isNormal (s.gr c a + BitVec.ofInt 64 i.toInt).toNat = true)
  (hc : (s.initCheck (s.engSrc c) .read (s.gr c a + BitVec.ofInt 64 i.toInt).toNat w).1 = true) (hq : s.inFlightOf c = false)
  (maj : Nat) (d : Fin 32) (signed : Bool) (f : MemFind)

theorem State.load_normal {p : Nat} (ha : addrCause p w = none) (hn : s.isNormal p = true)
    (hc : (s.initCheck (s.engSrc c) .read p w).1 = true) (d : Nat) :
    s.load (.core c) d p w signed f = s.loadNormal c d p w signed f := by
  have hpass := State.initCheck_passes hc
  unfold State.load
  simp only [ha, Eng.key, hpass, hn, if_true, Bool.not_true, Bool.false_eq_true, if_false]

include hb hp hw hn hc

/-- A load of normal memory acts as `loadNormal` says. -/
theorem State.loadOp_normal : s.loadOp (.core c) maj d a i w signed f =
    State.conclude (.core c) (wordI maj d a i) (s.loadNormal c d (s.gr c a + BitVec.ofInt 64 i.toInt).toNat w signed f) := by
  rw [State.loadOp, State.issue_of_boundary hb rfl rfl (by simp)]
  exact congrArg _ (State.load_normal signed f (addrCause_none hp hw) hn hc d)

include hq

/-- A load of normal memory that nothing stalls and that meets no poison writes what the cores see. -/
theorem State.loadOp_wrote {v : Dword}
    (hs : s.l2Stalls (s.gr c a + BitVec.ofInt 64 i.toInt).toNat w = false)
    (hx : (s.applyFind (s.gr c a + BitVec.ofInt 64 i.toInt).toNat c f).corePoisoned (s.gr c a + BitVec.ofInt 64 i.toInt).toNat w = false)
    (hv : loadExt signed w (leNat ((s.applyFind (s.gr c a + BitVec.ofInt 64 i.toInt).toNat c f).coreRead
      (s.gr c a + BitVec.ofInt 64 i.toInt).toNat w)) = v) :
    s.loadOp (.core c) maj d a i w signed f = (s.applyFind (s.gr c a + BitVec.ofInt 64 i.toInt).toNat c f).wrote (.core c) d v := by
  rw [State.loadOp_normal hb hp hw hn hc]
  generalize (s.gr c a + BitVec.ofInt 64 i.toInt).toNat = p at *
  have hidle : (s.applyFind p c f).inFlightOf c = false := by rw [State.applyFind_inFlightOf, hq]
  simp only [State.loadNormal, hs, Bool.false_and, Bool.false_eq_true, if_false, State.loadPoison_idle hidle, hx, State.loadBytes_idle hidle, hv]
  exact State.conclude_setGr hb _ (by rw [State.applyFind_engine]) d v

/-- While the L2 stalls it the load does not issue (R171). -/
theorem State.loadOp_stalled (hpos : 0 < w) (hs : s.l2Stalls (s.gr c a + BitVec.ofInt 64 i.toInt).toNat w = true) :
    s.loadOp (.core c) maj d a i w signed f = s := by
  rw [State.loadOp_normal hb hp hw hn hc]
  simp only [State.loadNormal, hs, State.allForwarded_idle hq _ _ hpos, Bool.not_false, Bool.and_self, if_true]
  exact State.settleEng_idle hb rfl

end

/-- Settles O6: with no store of its own in flight a core loads the bytes that the cores see, extended as the load says. -/
theorem loadsOfNormalMemory : Obligations.LoadsOfNormalMemory := by
  unfold Obligations.LoadsOfNormalMemory
  intro c d a i f s hb p u ok free m gives
  have hgives {n : Instr} {maj w : Nat} {signed : Bool} {v : Dword} (hn : exec n s = .next (s.loadOp (.core c) maj d a i w signed f))
      (hfree : free w) (hv : loadExt signed w (m w) = v) : gives n v := by
    obtain ⟨⟨hp, hw, hnorm, hc, hq, hx⟩, hs⟩ := hfree
    exact hn.trans (congrArg Host.Outcome.next (State.loadOp_wrote hb hp hw hnorm hc hq maj d signed f hs hx hv))
  refine ⟨fun h => ⟨?_, ?_⟩, fun h => ⟨?_, ?_⟩, fun h => ⟨?_, ?_⟩, fun h => ?_, fun ⟨hp, hw, hnorm, hc, hq, _⟩ hs => ?_⟩
  · exact hgives rfl h (loadExt_signExtend (by decide) _)
  · exact hgives rfl h (loadExt_coreRead ..)
  · exact hgives rfl h (loadExt_signExtend (by decide) _)
  · exact hgives rfl h (loadExt_coreRead ..)
  · exact hgives rfl h (loadExt_signExtend (by decide) _)
  · exact hgives rfl h (loadExt_coreRead ..)
  · exact hgives rfl h (loadExt_coreRead ..)
  · exact congrArg Host.Outcome.next (State.loadOp_stalled hb hp hw hnorm hc hq _ d _ f (by decide) hs)

end Sys2Proof.Machine
end

section
/-! Atomics (O9; R134, R149, R150, R157, R211). -/
namespace Sys2Proof.Machine

/-! ### The values of an atomic (R149) -/

/-- A number below `m` as a signed one of the same width. -/
theorem sint_eq {w : Nat} (hw : 0 < w) {n : Nat} (hn : n < 2 ^ w) :
    sint w n = if n < 2 ^ w / 2 then (n : Int) else (n : Int) - (2 ^ w : Nat) := by
  obtain ⟨v, rfl⟩ := Nat.exists_eq_succ_of_ne_zero hw.ne'
  have hhalf : 2 ^ v.succ / 2 = 2 ^ v := by omega
  simp only [sint, Nat.mod_eq_of_lt hn, hhalf, Nat.succ_sub_one, Nat.cast_pow, Nat.cast_ofNat]

theorem sadd_eq_min (m n : Nat) : (if m ≤ n then m - 1 else n) = min n (m - 1) := by
  split <;> omega

/-! ### The atomic of a core -/

/-- What the checks of its initiator let pass with the tags of now, and that is no write, passes its target's check (R459, R463). -/
theorem State.tgtCheck_tagged {s : State} {src : Src} {k : AccKind} {a w : Nat} (hk : k ≠ .write)
    (hc : (s.initCheck src k a w).1 = true) : s.tgtCheck (s.tagged src k a w []) = (true, s) := by
  refine State.tgtCheck_current ?_ (by simp [State.staleTag, State.tagged]) (by simp [State.wkBad, State.tagged, hk])
  have hpass := State.initCheck_passes hc
  show s.mapCheck a w = none
  cases hm : s.mapCheck a w with
  | none => rfl
  | some b => simp [State.initCheck, hm] at hc

section
variable {s : State} {c : Fin 16} {a w : Nat} (op d : Nat) (b : Dword) (f : MemFind)

theorem State.atomic_addrCause {e : Eng} {cause : Nat} (h : addrCause a w = some cause) : s.atomic e op d a w b f = .cause cause (some a) s := by
  simp only [State.atomic, h]

variable (ha : addrCause a w = none)
include ha

theorem State.atomic_target {e : Eng} (hd : s.region a ≠ .dram) (hl : s.region a ≠ .l2sram) : s.atomic e op d a w b f = .cause 9 (some a) s := by
  have hr : (s.region a != .dram && s.region a != .l2sram) = true := by simp [hd, hl]
  unfold State.atomic
  simp only [ha, hr, if_true]

/-- An atomic that its checks let pass returns the old value, and performs its write where it has one (R149, R150). -/
theorem State.atomic_performed (hr : s.region a = .dram ∨ s.region a = .l2sram) (hc : (s.initCheck (s.engSrc c) .atomic a w).1 = true)
    (hq : s.inFlightOf c = false) (hs : s.l2Stalls a w = false) (hx : (s.applyFind a c f).corePoisoned a w = false) :
    s.atomic (.core c) op d a w b f =
      .next (((atomicNew op (8 * w) (leNat ((s.applyFind a c f).coreRead a w)) b.toNat (s.gr c d).toNat).elim (s.applyFind a c f)
        (fun v => (s.applyFind a c f).coreWrite c a (leBytes v w))).setGr c d (BitVec.ofNat 64 (leNat ((s.applyFind a c f).coreRead a w)))) := by
  have hr : (s.region a != .dram && s.region a != .l2sram) = false := by rcases hr with hr | hr <;> simp [hr]
  have hgr : (s.applyFind a c f).gr c d = s.gr c d := State.gr_of_eng (s.applyFind_eng ..) ..
  have hinit := State.initCheck_passes hc
  have htgt := State.tgtCheck_tagged (by decide) hc
  have hsrc : (s.tagged (s.engSrc c) .atomic a w []).src = s.engSrc c := rfl
  have h : @State.atomic = @State.atomic := rfl
  conv at h => lhs; delta State.atomic
  have heq := congr_fun₂ (congr_fun₃ (congr_fun₃ h s (.core c) op) d a w) b f
  beta_reduce at heq
  rewrite [← heq]
  clear h heq hc
  generalize @State.initCheck = check at hinit ⊢
  generalize @State.tgtCheck = target at htgt ⊢
  as_aux_lemma =>
    simp only [ha, hr, Eng.key, hsrc, hinit, Bool.not_true, Bool.false_eq_true, if_false]
    rw [State.afterFence_idle _ hq]
    simp only [htgt, hs, hx, hgr, Bool.not_true, Bool.false_eq_true, if_false]
    generalize s.applyFind a c f = u
    cases atomicNew op (8 * w) (leNat (u.coreRead a w)) b.toNat (s.gr c d).toNat with
    | none => rfl
    | some v => rw [Option.elim_some]

end

/-- The new value of an atomic's word, `none` where it stays, decides what its instruction leaves. -/
theorem State.atomicOp_performed {s : State} {c : Fin 16} {d a b : Fin 32} {w64 : Bool} {f : MemFind} {op : Nat} (hb : s.boundary (.core c) = none)
    (hq : s.inFlightOf c = false) :
    let p := (s.gr c a).toNat
    let w := if w64 then 8 else 4
    let u := s.applyFind p c f
    let old := leNat (u.coreRead p w)
    p < 2 ^ 40 → p % w = 0 → (s.region p = .dram ∨ s.region p = .l2sram) → (s.initCheck (s.engSrc c) .atomic p w).1 = true →
    u.corePoisoned p w = false → s.l2Stalls p w = false →
      s.atomicOp (.core c) op d a b w64 f =
        ((atomicNew op (8 * w) old (s.gr c b).toNat (s.gr c d).toNat).elim u (fun v => u.coreWrite c p (leBytes v w))).wrote (.core c) d
          (BitVec.ofNat 64 old) := by
  intro p w u old hp hw hr hc hx hs
  rw [State.atomicOp, State.issue_of_boundary hb rfl rfl (by simp)]
  refine (congrArg (State.conclude _ _) (State.atomic_performed op d (s.gr c b) f (addrCause_none hp hw) hr hc hq hs hx)).trans ?_
  refine State.conclude_setGr hb _ (congrArg Engine.halting (State.engine_of_eng ?_ _)) _ _
  cases atomicNew op (8 * w) old (s.gr c b).toNat (s.gr c d).toNat with
  | none => rw [Option.elim_none, State.applyFind_eng]
  | some v => rw [Option.elim_some, State.coreWrite_eng, State.applyFind_eng]

/-- An atomic that a cause meets before its checks raises it. -/
theorem State.atomicOp_raises {s : State} {c : Fin 16} {d a b : Fin 32} {w64 : Bool} {f : MemFind} {op cause : Nat} (hb : s.boundary (.core c) = none)
    (h : s.atomic (.core c) op d (s.gr c a).toNat (if w64 then 8 else 4) (s.gr c b) f = .cause cause (some (s.gr c a).toNat) s) :
    s.atomicOp (.core c) op d a b w64 f =
      s.raiseCause (.core c) cause (some (s.gr c a).toNat) (wordT 0x2C d a b (op + (if w64 then 16 else 0))) := by
  rw [State.atomicOp, State.issue_of_boundary hb rfl rfl (by simp)]
  exact (congrArg (State.conclude _ _) h).trans (State.conclude_cause hb _ rfl _ _)

/-- A line sequencer raises ILLEGAL for what only a core executes (R134, R211). -/
theorem State.issue_seq_illegal {s : State} {n : Fin 48} (hb : s.boundary (.seq n) = none) (w : Nat) (f : State → Act) :
    s.issue (.seq n) w .coreOnly false f = s.seqFault n 1 none := by
  rw [State.issue_fetched hb]
  rfl

/-- Settles O9: the checks of an atomic in their order, and behind them its value of R149 written where there is one. -/
theorem atomicResults : Obligations.AtomicResults := by
  unfold Obligations.AtomicResults
  refine ⟨fun c d a b w64 f s hb hq => ?_, fun c d a b w64 f s hb => ?_, fun n d a b w64 f s hb => ?_⟩
  · intro e p w m u old y int does hp hw hr hc hx hs
    have hwpos : 0 < 8 * w := by simp only [w]; split <;> decide
    have hold : old < m := u.leNat_coreRead_lt p w
    have hy : y < m := Nat.mod_lt _ (Nat.two_pow_pos _)
    have hint {n : Nat} (hn : n < m) : int n = sint (8 * w) n := (sint_eq hwpos hn).symm
    have hdone {i : Instr} (op : Nat) {v : Nat} (hi : exec i s = .next (s.atomicOp (.core c) op d a b w64 f))
        (hv : atomicNew op (8 * w) old (s.gr c b).toNat (s.gr c d).toNat = some v) : does i v := by
      have hop := State.atomicOp_performed (d := d) (b := b) (op := op) hb hq hp hw hr hc hx hs
      rw [hv, Option.elim_some] at hop
      exact hi.trans (congrArg Host.Outcome.next hop)
    have hkept {i : Instr} (op : Nat) (hi : exec i s = .next (s.atomicOp (.core c) op d a b w64 f))
        (hv : atomicNew op (8 * w) old (s.gr c b).toNat (s.gr c d).toNat = none) : exec i s = .next (u.wrote e d (BitVec.ofNat 64 old)) := by
      have hop := State.atomicOp_performed (d := d) (b := b) (op := op) hb hq hp hw hr hc hx hs
      rw [hv, Option.elim_none] at hop
      exact hi.trans (congrArg Host.Outcome.next hop)
    refine ⟨hdone 0 rfl rfl, hdone 1 rfl rfl, hdone 2 rfl rfl, hdone 3 rfl rfl, hdone 4 rfl rfl,
      hdone 5 rfl ?_, hdone 6 rfl ?_, hdone 7 rfl rfl, hdone 8 rfl rfl, hdone 10 rfl ?_,
      fun hd => hdone 9 rfl (if_pos hd), fun hd => hkept 9 rfl (if_neg hd)⟩
    · rw [hint hold, hint hy]
      rfl
    · rw [hint hold, hint hy]
      rfl
    · exact congrArg some (sadd_eq_min ..)
  · intro e p w raises
    have hraises {i : Instr} (op : Nat) (hi : exec i s = .next (s.atomicOp (.core c) op d a b w64 f)) : raises i :=
      ⟨fun hp => ⟨_, hi.trans (congrArg Host.Outcome.next (State.atomicOp_raises hb (State.atomic_addrCause op d _ f (addrCause_address hp w))))⟩,
        fun hp hw => ⟨_, hi.trans (congrArg Host.Outcome.next (State.atomicOp_raises hb (State.atomic_addrCause op d _ f (addrCause_misaligned hp hw))))⟩,
        fun hp hw hd hl => ⟨_, hi.trans (congrArg Host.Outcome.next (State.atomicOp_raises hb (State.atomic_target op d _ f (addrCause_none hp hw) hd hl)))⟩⟩
    exact ⟨hraises 0 rfl, hraises 1 rfl, hraises 9 rfl, hraises 10 rfl⟩
  · exact ⟨congrArg Host.Outcome.next (State.issue_seq_illegal hb ..), congrArg Host.Outcome.next (State.issue_seq_illegal hb ..),
      congrArg Host.Outcome.next (State.issue_seq_illegal hb ..), congrArg Host.Outcome.next (State.issue_seq_illegal hb ..)⟩

end Sys2Proof.Machine
end

section
/-! System registers (O10; R137, R151, R156, R168). -/
namespace Sys2Proof.Machine

/-! ### The table of R137 -/

theorem srKnown_iff (n : Nat) :
    srKnown n = true ↔ n ∈ [0, 1, 2, 3, 4, 5, 6, 8, 0xA, 0xB, 0x10, 0x11, 0x12, 0x13, 0x20, 0x21, 0x22, 0x23] := List.contains_iff_mem

theorem srUser_iff (n : Nat) : srUser n = true ↔ n ∈ [0, 0x10, 0x11, 0x12, 0x13] := by simp [srUser, or_assoc]

/-- The system registers that hold a value of their own, each with the bits that a write reaches. -/
def srMasks : List (Nat × Nat) :=
  [(1, 7), (2, 2 ^ 40 - 4), (3, 7), (4, 0x3FF), (5, 2 ^ 64 - 1), (6, 2 ^ 32 - 1), (8, 2 ^ 40 - 4096), (0xA, 2 ^ 64 - 1), (0xB, 2 ^ 64 - 1),
    (0x22, 2 ^ 64 - 1), (0x23, 2 ^ 64 - 1)]

theorem srMasks_spec : ∀ p ∈ srMasks, srMask p.1 = p.2 ∧ p.2 ≠ 0 ∧ p.2 < 2 ^ 64 ∧ srKnown p.1 = true ∧
    p.1 ∉ [0, 0x10, 0x11, 0x12, 0x13, 0x20, 0x21] := by decide

theorem State.srView_sreg (s : State) (c : Nat) {n : Nat} (h : n ∉ [0, 0x10, 0x11, 0x12, 0x13, 0x20, 0x21]) :
    s.srView c n = (s.engine c).sreg n := by
  simp only [List.mem_cons, List.not_mem_nil, or_false, not_or] at h
  simp [State.srView, h]

/-! ### The cause of an access -/

theorem State.srCause_unknown {s : State} {c n : Nat} {write : Bool} (h : srKnown n = false) : s.srCause c n write = some 1 := by
  simp [State.srCause, h]

theorem State.srCause_user {s : State} {c n : Nat} {write : Bool} (h : srKnown n = true) (hk : (s.engine c).keeper = false)
    (hu : write = true ∨ srUser n = false) : s.srCause c n write = some 2 := by
  rcases hu with hu | hu <;> simp [State.srCause, h, hk, hu]

theorem State.srCause_keeper {s : State} {c n : Nat} {write : Bool} (h : srKnown n = true) (hk : (s.engine c).keeper = true) :
    s.srCause c n write = none := by
  simp [State.srCause, h, hk]

theorem State.srCause_userRead {s : State} {c n : Nat} (h : srKnown n = true) (hu : srUser n = true) : s.srCause c n false = none := by
  simp [State.srCause, h, hu]

/-! ### The accesses -/

section
variable {s : State} {c : Fin 16} (hb : s.boundary (.core c) = none) (sub : Nat) (d a : Fin 32) (n : Fin 4096)
include hb

theorem State.srOp_raises {f : Option (Nat → Nat → Nat)} (reads : Bool) {cause : Nat} (h : s.srCause c n f.isSome = some cause) :
    s.srOp (.core c) sub d n a f reads = s.raiseCause (.core c) cause none (wordS d a sub n) := by
  rw [State.srOp, State.issue_of_boundary hb rfl rfl (by simp)]
  simp only [Eng.key, h]
  exact State.conclude_cause hb _ rfl _ _

theorem State.srOp_reads (h : s.srCause c n false = none) :
    s.srOp (.core c) sub d n a none true = s.wrote (.core c) d (BitVec.ofNat 64 (s.srView c n)) := by
  rw [State.srOp, State.issue_of_boundary hb rfl rfl (by simp)]
  simp only [Eng.key, Option.isSome_none, h, if_true]
  exact State.conclude_setGr hb _ rfl _ _

/-- A write of a system register, and where the instruction returns what it held, of D too. -/
theorem State.srOp_writes {f : Nat → Nat → Nat} (reads : Bool) (h : s.srCause c n true = none) :
    s.srOp (.core c) sub d n a (some f) reads =
      let t := s.srWrite c n (f (s.srView c n) (s.gr c a).toNat)
      if reads then t.wrote (.core c) d (BitVec.ofNat 64 (s.srView c n)) else t.retire c (((t.engine c).pc + 4) % 2 ^ 40) := by
  have hh (v : Nat) : ((s.srWrite c n v).engine c).halting = (s.engine c).halting := by
    unfold State.srWrite
    dsimp only
    split <;> simp
  rw [State.srOp, State.issue_of_boundary hb rfl rfl (by simp)]
  simp only [Eng.key, Option.isSome_some, h]
  cases reads with
  | false => exact State.conclude_next hb _ (hh _)
  | true => exact State.conclude_setGr hb _ (hh _) _ _

end

/-! ### What a write of a system register leaves -/

section
variable {s : State} {c : Fin 16} {n mask : Nat} (hm : srMask n = mask) (h0 : mask ≠ 0) (v : Nat)
include hm h0

theorem State.srWrite_eq :
    s.srWrite c n v = s.setEngine c { s.engine c with sr := tabSet (s.engine c).sr n (BitVec.ofNat 64 (v &&& mask)) } := by
  simp [State.srWrite, hm, h0]

theorem State.srWrite_sreg (h64 : mask < 2 ^ 64) (m : Nat) :
    ((s.srWrite c n v).engine c).sreg m = if m = n then v &&& mask else (s.engine c).sreg m := by
  have hv : v &&& mask < 2 ^ 64 := Nat.lt_of_le_of_lt Nat.and_le_right h64
  rw [State.srWrite_eq hm h0, State.engine_setEngine_same,
    Engine.sreg_tabSet (e := s.engine c) (v := BitVec.ofNat 64 (v &&& mask)) (n := n) rfl, BitVec.toNat_ofNat, Nat.mod_eq_of_lt hv]

theorem State.srWrite_pc : ((s.srWrite c n v).engine c).pc = (s.engine c).pc := by
  rw [State.srWrite_eq hm h0, State.engine_setEngine_same]

theorem State.srWrite_gr (j : Nat) : (s.srWrite c n v).gr c j = s.gr c j := by
  rw [State.srWrite_eq hm h0, State.gr, State.engine_setEngine_same]
  rfl

theorem State.srWrite_onlyEngine : OnlyEngine c s (s.srWrite c n v) := by
  rw [State.srWrite_eq hm h0]
  exact s.setEngine_onlyEngine ..

end

theorem OnlyEngine.setEngine {k : Nat} {s t : State} (h : OnlyEngine k s t) (e : Engine) : OnlyEngine k s (t.setEngine k e) :=
  ⟨h.1, fun j hj => (State.engine_setEngine_ne _ _ _ _ hj).trans (h.2 j hj)⟩

/-- What a write of a system register leaves once its instruction has completed. -/
theorem State.srWrite_done {s : State} {c : Fin 16} {n mask : Nat} (hm : srMask n = mask) (h0 : mask ≠ 0) (h64 : mask < 2 ^ 64) (v old : Nat)
    (d : Fin 32) (reads : Bool) :
    let x := s.engine c
    let u := s.srWrite c n v
    let t := if reads then u.wrote (.core c) d (BitVec.ofNat 64 old) else u.retire c (((u.engine c).pc + 4) % 2 ^ 40)
    (t.engine c).sreg n = v &&& mask ∧ (∀ m, m ≠ n → (t.engine c).sreg m = x.sreg m) ∧ (t.engine c).pc = (x.pc + 4) % 2 ^ 40 ∧
      (∀ j, t.gr c j = if (if reads then some d.val else none) = some j ∧ j ≠ 0 then BitVec.ofNat 64 old else s.gr c j) ∧
      OnlyEngine c s t := by
  intro x u t
  have hsreg : ∀ m, (t.engine c).sreg m = (u.engine c).sreg m := fun m => by
    cases reads <;> exact Engine.sreg_of_sr (by simp [t, State.wrote, State.retire, Eng.key]) m
  have hpc : (t.engine c).pc = ((u.engine c).pc + 4) % 2 ^ 40 := by
    cases reads <;> simp [t, State.wrote, State.retire, Eng.key]
  have hgr (j : Nat) : t.gr c j = if (if reads then some d.val else none) = some j ∧ j ≠ 0 then BitVec.ofNat 64 old else u.gr c j := by
    cases reads with
    | false => simp [t, State.gr, State.retire]
    | true =>
      refine (State.gr_wrote u (.core c) d j _).trans ?_
      by_cases hj : j = 0
      · simp [hj, State.gr]
      · by_cases hd : j = d
        · simp [hd ▸ hj, hd]
        · simp [hj, hd, Ne.symm hd, Eng.key]
  refine ⟨?_, fun m hne => ?_, ?_, fun j => ?_, ?_⟩
  · rw [hsreg, State.srWrite_sreg hm h0 v h64, if_pos rfl]
  · rw [hsreg, State.srWrite_sreg hm h0 v h64, if_neg hne]
  · rw [hpc, State.srWrite_pc hm h0]
  · rw [hgr, State.srWrite_gr hm h0]
  · cases reads <;> exact (State.srWrite_onlyEngine hm h0 v).setEngine _

/-- Settles O10: the table's number, then the level, and behind them the value read or the bits written. -/
theorem systemRegisters : Obligations.SystemRegisters := by
  unfold Obligations.SystemRegisters
  refine ⟨fun c d a n s hb hk => ?_, fun c d a n s hb => ?_⟩
  · intro e x y old masks reads sets
    have hread {m v : Nat} (hm : srKnown m = true) (hv : s.srView c m = v) : reads m v := by
      rintro rfl
      rw [← hv]
      exact congrArg Host.Outcome.next (State.srOp_reads hb 0 d 0 n (State.srCause_keeper hm hk))
    have hset {i : Instr} {sub mask : Nat} {f : Nat → Nat → Nat} {z : Fin 32} {read : Bool} (hm : srMask n = mask) (h0 : mask ≠ 0)
        (h64 : mask < 2 ^ 64) (hn : srKnown n = true) (hv : s.srView c n = old)
        (hi : exec i s = .next (s.srOp (.core c) sub z n a (some f) read)) :
        sets i (if read then some z.val else none) (f old y &&& mask) := by
      refine ⟨_, hi.trans (congrArg Host.Outcome.next (State.srOp_writes hb sub z a n read (State.srCause_keeper hn hk))), ?_⟩
      rw [hv]
      exact State.srWrite_done hm h0 h64 (f old y) old z read
    refine ⟨hread (by decide) rfl, hread (by decide) rfl, hread (by decide) rfl, hread (by decide) rfl, hread (by decide) rfl,
      fun p hp => ?_⟩
    obtain ⟨hm, h0, h64, hn, hown⟩ := srMasks_spec p hp
    refine ⟨fun hnp => ?_, fun hnp => ?_⟩
    · exact hread hn (by rw [State.srView_sreg s c hown, ← hnp]) hnp
    · rw [← hnp] at hm hn hown
      have hv := s.srView_sreg c hown
      exact ⟨hset (z := 0) (f := fun _ v => v) (read := false) hm h0 h64 hn hv rfl, hset (z := d) (f := fun o v => o ||| v) (read := true) hm h0 h64 hn hv rfl,
        hset (z := d) (f := fun o v => o &&& (2 ^ 64 - 1 - v)) (read := true) hm h0 h64 hn hv rfl⟩
  · intro e raises known
    have hraises {i : Instr} {sub cause : Nat} {z : Fin 32} {x : Fin 32} {f : Option (Nat → Nat → Nat)} {reads : Bool}
        (hi : exec i s = .next (s.srOp (.core c) sub z n x f reads)) (hc : s.srCause c n f.isSome = some cause) : raises i cause :=
      ⟨_, hi.trans (congrArg Host.Outcome.next (State.srOp_raises hb sub z x n reads hc))⟩
    refine ⟨fun hn => ?_, fun hk => ⟨fun hn => ?_, fun hn hu => ?_, fun hn => ?_, ?_⟩⟩
    · have hun (w : Bool) : s.srCause c n w = some 1 := State.srCause_unknown (Bool.eq_false_iff.2 fun h => hn ((srKnown_iff _).1 h))
      exact ⟨hraises rfl (hun _), hraises rfl (hun _), hraises rfl (hun _), hraises rfl (hun _)⟩
    · have hw : s.srCause c n true = some 2 := State.srCause_user ((srKnown_iff _).2 hn) hk (.inl rfl)
      exact ⟨hraises rfl hw, hraises rfl hw, hraises rfl hw⟩
    · exact hraises rfl (State.srCause_user ((srKnown_iff _).2 hn) hk (.inr (Bool.eq_false_iff.2 fun h => hu ((srUser_iff _).1 h))))
    · have hr := State.srOp_reads hb 0 d 0 n (State.srCause_userRead (c := c) (by rw [hn]; rfl) (by rw [hn]; rfl))
      rw [show s.srView c n = s.time64 by rw [hn]; rfl] at hr
      exact congrArg Host.Outcome.next hr
    · have hpriv {w : Nat} {f : State → Act} : s.issue (.core c) w .coreOnly true f = s.raiseCause (.core c) 2 none w := by
        rw [State.issue_fetched hb]
        simp only [State.actOf, Who.runs, State.atKeeper, State.fetched_engine, hk]
        exact State.conclude_cause hb _ (by simp) _ _
      exact ⟨⟨_, congrArg Host.Outcome.next hpriv⟩, ⟨_, congrArg Host.Outcome.next hpriv⟩, ⟨_, congrArg Host.Outcome.next hpriv⟩,
        ⟨_, congrArg Host.Outcome.next hpriv⟩⟩

end Sys2Proof.Machine
end

section
/-! Exceptions, double faults, returns and debuggers of a core (O11, O12, O13; R151, R156 to R161, R173, R175, R214). -/
namespace Sys2Proof.Machine

/-! ### Exceptions (R159) -/

section
variable {s : State} {c : Fin 16}

theorem State.enterExc_onlyEngine (s : State) (c cause : Nat) (imprecise : Bool) (addr : Option Nat) (inst off : Nat) :
    OnlyEngine c s (s.enterExc c cause imprecise addr inst off) := s.setEngine_onlyEngine ..

/-- What O11 says of the core that takes an exception. -/
theorem State.enterExc_saves (c cause : Nat) (imprecise : Bool) {addr : Option Nat} {inst : Nat} (off : Nat) (hpc : (s.engine c).pc < 2 ^ 40)
    (hc : cause < 0x100) (ha : ∀ a ∈ addr, a < 2 ^ 40) (hi : inst < 2 ^ 32) :
    let x := s.engine c
    let t := s.enterExc c cause imprecise addr inst off
    let y := t.engine c
    y.sreg 2 = x.pc ∧ y.sreg 3 = x.pstate ∧ y.sreg 1 = 5 ∧
      y.sreg 4 = (cause + if imprecise then 0x100 else 0) + (if x.keeper then 0 else 0x200) ∧ y.sreg 5 = addr.getD (x.sreg 5) ∧ y.sreg 6 = inst ∧
      y.pc = (x.sreg 8 + off) % 2 ^ 40 ∧ (∀ n, n ∉ [1, 2, 3, 4, 5, 6] → y.sreg n = x.sreg n) ∧ (∀ r, t.gr c r = s.gr c r) ∧
      y.retired = x.retired := by
  intro x t y
  have he : Entered x _ addr inst off y := s.enterExc_entered c cause imprecise addr inst off
  refine ⟨?_, he.epstate, he.pstate, ?_, ?_, ?_, he.pc, he.other, fun r => ?_, he.retired⟩
  · exact he.epc.trans (Nat.mod_eq_of_lt (Nat.lt_trans hpc (by decide)))
  · exact he.ecause.trans (Nat.mod_eq_of_lt (by split <;> split <;> omega))
  · refine he.eaddr.trans ?_
    cases addr with
    | none => rfl
    | some a => exact Nat.mod_eq_of_lt (Nat.lt_trans (ha a rfl) (by decide))
  · exact he.einst.trans (Nat.mod_eq_of_lt (by omega))
  · have hg : y.g = x.g := he.g
    simp only [State.gr, y, t, x] at hg ⊢
    rw [hg]

/-- A synchronous cause of a core whose EX is 0 is an exception at the offset of its level (R159, R160). -/
theorem State.raiseCause_enters {f : MemFind} (hex : (s.engine c).ex = false) (cause : Nat) (addr : Option Nat) (w : Nat) :
    s.raiseCause (.core c f) cause addr w = s.enterExc c cause false addr w (if (s.engine c).keeper then 0x100 else 0x000) := by
  simp [State.raiseCause, State.syncCause, hex]

theorem State.raiseCause_doubleFault {f : MemFind} (hex : (s.engine c).ex = true) (cause : Nat) (addr : Option Nat) (w : Nat) :
    s.raiseCause (.core c f) cause addr w = (s.haltInto c 3).raise 0x7B (s.engine c).pc 0 c := by
  simp [State.raiseCause, State.syncCause, hex]

/-! ### Attention and refusals that arrive (R155, R158, R161) -/

theorem State.coreIssues_iff (s : State) (c : Nat) :
    s.coreIssues c = true ↔ s.get (F.CORE_STATE c) = 1 ∧ (s.engine c).wait = .none ∧ (s.engine c).halting = none := by
  simp [State.coreIssues, and_assoc]

theorem State.advance_coreIssues (s : State) (time c : Nat) : (s.advance time).coreIssues c = s.coreIssues c := rfl

theorem State.attentionArrives_attention (h : s.coreIssues c = true) (hi : (s.engine c).impr = []) (hie : (s.engine c).ie = true)
    (ha : (s.attention c).isSome = true) : s.attentionArrives c = s.enterExc c 13 false none 0 0x200 := by
  obtain ⟨hst, hw, hh⟩ := (s.coreIssues_iff c).1 h
  simp [State.attentionArrives, State.takeAttention, hst, hw, hh, hi, hie, ha]

theorem State.takeImprecise_enters {a v : Nat} {q : List (Nat × Option Nat)} (hi : (s.engine c).impr = (a, some v) :: q) :
    s.takeImprecise c = (s.setEngine c { s.engine c with impr := q }).enterExc c 8 true (some a) v 0x300 := by
  simp [State.takeImprecise, hi]

theorem State.attentionArrives_imprecise (h : s.coreIssues c = true) (hi : (s.engine c).impr ≠ []) (hex : (s.engine c).ex = false) :
    s.attentionArrives c = s.takeImprecise c := by
  obtain ⟨hst, hw, hh⟩ := (s.coreIssues_iff c).1 h
  simp [State.attentionArrives, hst, hw, hh, hi, hex]

theorem State.impreciseArrives_imprecise (h : s.coreIssues c = true) (hi : (s.engine c).impr ≠ []) (hex : (s.engine c).ex = false) :
    s.impreciseArrives c = s.takeImprecise c := by
  simp [State.impreciseArrives, h, hi, hex]

end

/-- Settles O11: every one of them is `enterExc`, with the cause, the word and the offset of its kind. -/
theorem exceptionEntry : Obligations.ExceptionEntry := by
  unfold Obligations.ExceptionEntry
  intro c code w time s e x enters sync hpc hex
  have hsync {i : Instr} {cause inst : Nat} (hi : exec i s = .next (s.raiseCause e cause none inst)) (hc : cause < 0x100) (hinst : inst < 2 ^ 32) :
      enters i s cause sync none inst := by
    refine ⟨_, hi.trans (congrArg Host.Outcome.next (State.raiseCause_enters hex cause none inst)), ?_⟩
    obtain ⟨h2, h3, h1, h4, h5, h6, hp, ho, hg, hr⟩ := s.enterExc_saves c cause false sync hpc hc (addr := none) (by simp) hinst
    exact ⟨h2, h3, h1, h4, h5, h6, hp, ho, hg, hr, s.enterExc_onlyEngine ..⟩
  have hcode := code.isLt
  refine ⟨fun hb => ⟨?_, fun hdbg => ?_, fun hw => ?_⟩, fun hci himpr hie hatt => ?_, fun a v q hci himpr ha => ?_⟩
  · have hword : wordS 0 0 4 code = 0xC0004000 + code := by simp [wordS]
    rw [← hword]
    refine hsync (congrArg Host.Outcome.next ?_) (by decide) (by omega)
    rw [State.issue_of_boundary hb rfl rfl (by simp)]
    exact State.conclude_cause hb _ rfl _ _
  · have hword : wordS 0 0 5 code = 0xC0005000 + code := by simp [wordS]
    rw [← hword]
    refine hsync (congrArg Host.Outcome.next (State.issue_causes (f := fun s => if (s.engine (Eng.key e)).dbg then .hold (s.brkHalt e) else .cause 12 none s)
      hb ?_)) (by decide) (by omega)
    exact if_neg (by simp [e, Eng.key, State.fetched, State.applyFind, x, hdbg])
  · refine hsync (congrArg Host.Outcome.next ?_) (by decide) w.isLt
    rw [if_neg (by simp [e, Eng.isCore, hw])]
    exact State.issue_causes hb rfl
  · refine ⟨_, congrArg Host.Outcome.next (State.attentionArrives_attention (s := s.advance time) hci himpr hie hatt), ?_⟩
    obtain ⟨h2, h3, h1, h4, h5, h6, hp, ho, hg, hr⟩ :=
      (s.advance time).enterExc_saves c 13 false 0x200 hpc (by decide) (addr := none) (inst := 0) (by simp) (by decide)
    exact ⟨h2, h3, h1, h4, h5, h6, hp, ho, hg, hr, State.enterExc_onlyEngine ..⟩
  · have htakes {i : Instr} (hi : exec i s = .next ((s.advance time).takeImprecise c)) :
        enters i (s.advance time) 0x108 0x300 (some a) v.toNat := by
      refine ⟨_, hi.trans (congrArg Host.Outcome.next (State.takeImprecise_enters himpr)), ?_⟩
      obtain ⟨h2, h3, h1, h4, h5, h6, hp, ho, hg, hr⟩ :=
        ((s.advance time).setEngine c { x with impr := q }).enterExc_saves c 8 true 0x300 (by simpa using hpc) (by decide) (addr := some a)
          (by simpa using ha) v.isLt
      simp only [State.engine_setEngine_same] at h2 h3 h4 h5 hp ho hr
      refine ⟨h2, h3, h1, h4, h5, h6, hp, ho, fun r => (hg r).trans ?_, hr,
        ((s.advance time).setEngine_onlyEngine c _).setEngine _⟩
      simp [State.gr, x]
    have hne : (s.engine c).impr ≠ [] := by rw [himpr]; exact List.cons_ne_nil _ _
    exact ⟨htakes (congrArg Host.Outcome.next (State.attentionArrives_imprecise (s := s.advance time) hci hne hex)),
      htakes (congrArg Host.Outcome.next (State.impreciseArrives_imprecise (s := s.advance time) hci hne hex))⟩

/-! ### Halts (R160, R175) -/

/-- The fields of STATE and LAST_PC stand outside the fault log and outside the contexts. -/
theorem coreState_plain (c : Fin 16) : (F.CORE_STATE c).key / 0x100000 ≠ 21 ∧ isCtxOwn (F.CORE_STATE c).key = false ∧
    (F.CORE_LAST_PC_LO c).key / 0x100000 ≠ 21 ∧ isCtxOwn (F.CORE_LAST_PC_LO c).key = false := by
  revert c
  decide

section
variable {s : State} {c : Fin 16} {st : Nat}

theorem State.stopCore_state (hst : st < 8) : (s.stopCore c st).get (F.CORE_STATE c) = st := by
  obtain ⟨-, hctx, -, -⟩ := coreState_plain c
  unfold State.stopCore
  rw [State.get_put_ne _ _ _ _ (by simp [F.CORE_STATE, F.CORE_LAST_PC_HI]) hctx, State.get_put_ne _ _ _ _ (by simp [F.CORE_STATE, F.CORE_LAST_PC_LO]) hctx,
    State.get_put_same _ _ _ (by simp [F.CORE_STATE])]
  exact Nat.mod_eq_of_lt hst

theorem State.stopCore_lastPc : (s.stopCore c st).get (F.CORE_LAST_PC_LO c) = (s.engine c).pc % 2 ^ 32 := by
  obtain ⟨-, -, -, hctx⟩ := coreState_plain c
  unfold State.stopCore
  rw [State.get_put_ne _ _ _ _ (by simp [F.CORE_LAST_PC_LO, F.CORE_LAST_PC_HI]) hctx, State.get_put_same _ _ _ (by simp [F.CORE_LAST_PC_LO])]
  exact Nat.mod_mod ..

theorem State.stopInto_logOnly (s : State) (c st : Nat) : LogOnly (s.stopCore c st) (s.stopInto c st) := by
  unfold State.stopInto
  dsimp only
  split
  · exact State.raise_logOnly ..
  · exact .refl _

theorem State.stopInto_state (hst : st < 8) : (s.stopInto c st).get (F.CORE_STATE c) = st := by
  obtain ⟨h21, hctx, -, -⟩ := coreState_plain c
  rw [(s.stopInto_logOnly c st).get _ h21 hctx, State.stopCore_state hst]

theorem State.stopInto_lastPc : (s.stopInto c st).get (F.CORE_LAST_PC_LO c) = (s.engine c).pc % 2 ^ 32 := by
  obtain ⟨-, -, h21, hctx⟩ := coreState_plain c
  rw [(s.stopInto_logOnly c st).get _ h21 hctx, State.stopCore_lastPc]

theorem State.holdsHalt_idle (hq : s.inFlightOf c = false) (hw : (s.engine c).wait ∉ [.rulesync true, .rulesync false, .step, .busy]) :
    s.holdsHalt c = false := by
  simp only [List.mem_cons, List.not_mem_nil, or_false, not_or] at hw
  simp [State.holdsHalt, hq, hw]

/-- A core that runs or idles, with no halt waiting and nothing that holds one, halts at once. -/
theorem State.haltInto_now (hs : s.get (F.CORE_STATE c) = 1 ∨ s.get (F.CORE_STATE c) = 2) (hq : s.inFlightOf c = false)
    (hw : (s.engine c).wait ∉ [.rulesync true, .rulesync false, .step, .busy]) (hh : (s.engine c).halting = none) (st : Nat) :
    s.haltInto c st = s.stopInto c st := by
  rw [State.haltInto_stops st hs (State.holdsHalt_idle hq hw), hh]
  by_cases h4 : st = 4 <;> simp [haltOf, h4]

end

/-- Settles O12: with EX 1 the cause is a halt into DOUBLE_FAULT and its record, with EX 0 an exception, which writes no register. -/
theorem doubleFault : Obligations.DoubleFault := by
  unfold Obligations.DoubleFault
  intro c cause addr w code s x t
  obtain ⟨h21, hctx, h21', hctx'⟩ := coreState_plain c
  refine ⟨fun hex => ?_, fun hex => ?_, fun hb => ⟨wordS 0 0 4 code, ?_⟩⟩
  · have ht : t = (s.haltInto c 3).raise 0x7B x.pc 0 c := State.raiseCause_doubleFault hex ..
    have hl : LogOnly (s.haltInto c 3) t := ht ▸ State.raise_logOnly ..
    refine ⟨fun hci hq => ?_, fun hci hq => ?_, ?_, fun n => ?_⟩
    · obtain ⟨hst, hw, hh⟩ := (s.coreIssues_iff c).1 hci
      rw [hl.get _ h21 hctx, hl.get _ h21' hctx', State.haltInto_now (.inl hst) hq (by simp [hw]) hh]
      exact ⟨State.stopInto_state (by decide), State.stopInto_lastPc⟩
    · obtain ⟨hst, hw, hh⟩ := (s.coreIssues_iff c).1 hci
      rw [hl.get _ h21 hctx, hl.engine, State.haltInto_waits 3 (.inl hst) (by simp [State.holdsHalt, hq]), hh]
      exact ⟨by simpa using hst, by simp [haltOf]⟩
    · obtain ⟨r, hr, hcls, h1, -, hd⟩ := (s.haltInto c 3).raise_newest 0x7B x.pc 0 c none
      exact ⟨r, ht ▸ hr, hcls, h1, hd⟩
    · exact Engine.sreg_of_sr ((congrArg Engine.sr (hl.engine c)).trans ((s.haltInto_samePcs c 3).sr c)) n
  · have ht : t = s.enterExc c cause false addr w (if x.keeper then 0x100 else 0x000) := State.raiseCause_enters hex ..
    have he : Entered x _ addr w _ (t.engine c) := ht ▸ s.enterExc_entered ..
    refine ⟨by rw [ht]; rfl, by rw [ht]; rfl, ?_, ?_⟩
    · simp [Engine.ex, show (t.engine c).pstate = 5 from he.pstate, bitAt]
    · have hlt := cause.isLt
      rw [he.ecause, if_neg (by decide)]
      split <;> omega
  · rw [show exec (.trap (.core c) code) s = .next (s.issue (.core c) (wordS 0 0 4 code) .coreOnly false (fun s => .cause 11 none s)) from rfl,
      State.issue_of_boundary hb rfl rfl (by simp)]
    exact congrArg Host.Outcome.next (State.conclude_cause hb _ rfl _ _)

/-! ### The debugger (R151, R175, R214) -/

theorem State.jtagHalt_core {s : State} {c : Fin 16} (hst : s.get (F.CORE_STATE c) = 1 ∨ s.get (F.CORE_STATE c) = 2) :
    s.jtagHalt c = (s.setEngine c { s.engine c with dbg := true }).haltInto c 6 := by
  have hne : (s.get (F.CORE_STATE c) != 1 && s.get (F.CORE_STATE c) != 2) = false := by rcases hst with h | h <;> simp [h]
  simp [State.jtagHalt, hne]

theorem State.jtagHalt_seq {s : State} {n : Fin 48} (hst : s.get (F.SEQN_STATE n) = 1 ∨ s.get (F.SEQN_STATE n) = 2) :
    s.jtagHalt (16 + n) = (s.setEngine (16 + n) { s.engine (16 + n) with dbg := true, wait := .none }).put (F.SEQN_STATE n) 5 := by
  have hne : (s.get (F.SEQN_STATE n) != 1 && s.get (F.SEQN_STATE n) != 2) = false := by rcases hst with h | h <;> simp [h]
  simp [State.jtagHalt, hne]

/-- Settles O13: `eret` by the two system registers that it reads, and each halt by the state that it leaves. -/
theorem returnAndDebugger : Obligations.ReturnAndDebugger := by
  unfold Obligations.ReturnAndDebugger
  intro c n code s x
  have hseq (v : Nat) (t : State) (hv : v < 8) : (t.put (F.SEQN_STATE n) v).get (F.SEQN_STATE n) = v := by
    rw [State.get_put_same _ _ _ (by simp [F.SEQN_STATE])]
    exact Nat.mod_eq_of_lt hv
  refine ⟨fun hb hk => ?_, fun hb hdbg hq => ?_, fun hb hdbg => ?_, fun hst hq hh hw => ?_, fun hst => ?_⟩
  · have h1 : srMask 1 = 7 := rfl
    refine ⟨(s.srWrite c 1 (x.sreg 3)).went (.core c) (x.sreg 2), congrArg Host.Outcome.next ?_, ?_, ?_, fun m hm => ?_, fun r => ?_, ?_⟩
    · rw [State.issue_of_boundary hb rfl rfl (fun _ => hk)]
      exact State.conclude_goto hb _ (by simp [State.srWrite_eq h1, Eng.key]) _
    · simp [State.went, Eng.key]
    · have hs := State.srWrite_sreg (s := s) (c := c) h1 (by decide) (x.sreg 3) (by decide) 1
      rw [if_pos rfl, show x.sreg 3 &&& 7 = x.sreg 3 % 8 from Nat.and_two_pow_sub_one_eq_mod _ 3] at hs
      exact (Engine.sreg_of_sr (by simp [State.went, Eng.key]) 1).trans hs
    · have hs := State.srWrite_sreg (s := s) (c := c) h1 (by decide) (x.sreg 3) (by decide) m
      rw [if_neg hm] at hs
      exact (Engine.sreg_of_sr (by simp [State.went, Eng.key]) m).trans hs
    · exact (show _ = (s.srWrite c 1 (x.sreg 3)).gr c r by simp [State.gr, State.went, Eng.key]).trans (State.srWrite_gr h1 (by decide) _ r)
    · exact (State.srWrite_onlyEngine h1 (by decide) _).setEngine _
  · obtain ⟨hst, hw, hh⟩ := (s.coreIssues_iff c).1 (coreIssues_of_boundary hb)
    have hbrk : s.brkHalt (.core c) = s.stopInto c 6 := State.haltInto_now (.inl hst) hq (by simp [hw]) hh 6
    refine ⟨s.stopInto c 6, congrArg Host.Outcome.next ?_, State.stopInto_state (by decide), State.stopInto_lastPc, (s.stopInto_keepsData c 6).gr c⟩
    rw [State.issue_of_boundary hb rfl rfl (by simp)]
    simp only [Eng.key, show (s.engine c).dbg = true from hdbg, if_true, hbrk]
    exact State.settleHalt_of_none (by simp)
  · refine ⟨s.put (F.SEQN_STATE n) 5, congrArg Host.Outcome.next ?_, hseq 5 s (by decide), rfl⟩
    rw [State.issue_of_boundary hb rfl rfl (by simp)]
    simp only [Eng.key, hdbg, if_true]
    rfl
  · let u := s.setEngine c { x with dbg := true }
    have hu : u.engine c = { x with dbg := true } := State.engine_setEngine_same ..
    have hhalt : u.haltInto c 6 = u.stopInto c 6 :=
      State.haltInto_now (s := u) hst hq ((congrArg Engine.wait hu).symm ▸ hw) ((congrArg Engine.halting hu).trans hh) 6
    refine ⟨u.stopInto c 6, congrArg Host.Outcome.next ((State.jtagHalt_core hst).trans hhalt), State.stopInto_state (by decide), ?_, ?_, fun r => ?_⟩
    · rw [State.stopInto_engine, hu]
    · rw [State.stopInto_engine]
    · exact ((u.stopInto_keepsData c 6).gr c r).trans (by rw [State.gr, hu]; rfl)
  · refine ⟨_, congrArg Host.Outcome.next (State.jtagHalt_seq hst), hseq 5 _ (by decide), ?_, ?_⟩
    · exact congrArg Engine.dbg (State.engine_setEngine_same ..)
    · exact congrArg Engine.wait (State.engine_setEngine_same ..)

end Sys2Proof.Machine
end

section
/-! Fences, cache operations, `rulesync` and `timerestep` (O14; R151, R152, R165, R167, R168, R401, R466). -/
namespace Sys2Proof.Machine

/-! ### Entries of a table by a property of their keys -/

theorem tabGet?_filter_pos {α : Type} {p : Nat × α → Bool} {k : Nat} (h : ∀ v, p (k, v) = true) (t : Tab α) :
    tabGet? (t.filter p) k = tabGet? t k := by
  induction t with
  | nil => rfl
  | cons e t ih =>
    obtain ⟨j, v⟩ := e
    by_cases hj : j = k
    · subst hj
      simp [tabGet?, h]
    · by_cases hp : p (j, v) = true
      · simp [tabGet?, hj, hp, ih]
      · simp [tabGet?, hj, hp, ih]

theorem tabGet?_filter_neg {α : Type} {p : Nat × α → Bool} {k : Nat} (h : ∀ v, p (k, v) = false) (t : Tab α) :
    tabGet? (t.filter p) k = none := by
  induction t with
  | nil => rfl
  | cons e t ih =>
    obtain ⟨j, v⟩ := e
    by_cases hj : j = k
    · subst hj
      simp [h, ih]
    · by_cases hp : p (j, v) = true
      · simp [tabGet?, hj, hp, ih]
      · simp [hp, ih]

theorem tabGet?_eq_none_of_lt {α : Type} {t : Tab α} {k : Nat} (h : ∀ e ∈ t, k < e.1) : tabGet? t k = none := by
  induction t with
  | nil => rfl
  | cons e t ih =>
    have he : k < e.1 := h e (List.mem_cons_self ..)
    simp [tabGet?, he.ne', ih fun x hx => h x (List.mem_cons_of_mem _ hx)]

/-- Memory after every byte of a table by rising address has been written. -/
theorem cellGet_foldl_cellSet {t : Tab Byte} (ht : rising t = true) {m : List Host.Cell} (hm : cellsWf 0 m = true) (a : Nat) :
    cellGet 0 (t.foldl (fun m e => cellSet 0 m e.1 e.2) m) a = (tabGet? t a).getD (cellGet 0 m a) := by
  induction t generalizing m with
  | nil => rfl
  | cons e t ih =>
    obtain ⟨j, v⟩ := e
    rw [List.foldl_cons, ih (rising_tail ht) (cellsWf_cellSet j v hm)]
    by_cases hj : j = a
    · subst hj
      rw [cellGet_cellSet_same j v hm]
      simp [tabGet?, tabGet?_eq_none_of_lt (rising_head ht)]
    · rw [cellGet_cellSet_ne 0 m j a v (Ne.symm hj)]
      simp [tabGet?, hj]

/-! ### Lines of the L2 (R166 to R168) -/

theorem State.coreByte_eq (s : State) (a : Nat) : s.coreByte a = (tabGet? s.dirty a).getD (cellGet 0 s.mem a) := by
  unfold State.coreByte
  cases tabGet? s.dirty a <;> rfl

section
variable {s : State} (hs : s.memoriesOk = true) (a j : Nat)
include hs

/-- Memory holds of a line that is written back what the cores see. -/
theorem State.cleanLine_mem_line (hj : j / 64 = a / 64) : cellGet 0 (s.cleanLine a).mem j = s.coreByte j := by
  obtain ⟨hm, -, -, hd⟩ := s.memoriesOk_iff.1 hs
  rw [State.coreByte_eq]
  exact (cellGet_foldl_cellSet (rising_filter _ hd) hm j).trans (by rw [tabGet?_filter_pos (by simp [hj])])

theorem State.cleanLine_mem_other (hj : j / 64 ≠ a / 64) : cellGet 0 (s.cleanLine a).mem j = cellGet 0 s.mem j := by
  obtain ⟨hm, -, -, hd⟩ := s.memoriesOk_iff.1 hs
  exact (cellGet_foldl_cellSet (rising_filter _ hd) hm j).trans (by rw [tabGet?_filter_neg (by simp [hj])]; rfl)

theorem State.cleanLine_coreByte : (s.cleanLine a).coreByte j = s.coreByte j := by
  rw [State.coreByte_eq]
  by_cases hj : j / 64 = a / 64
  · have hd : tabGet? (s.cleanLine a).dirty j = none := tabGet?_filter_neg (by simp [hj]) _
    rw [hd, Option.getD_none, State.cleanLine_mem_line hs a j hj]
  · have hd : tabGet? (s.cleanLine a).dirty j = tabGet? s.dirty j := tabGet?_filter_pos (by simp [hj]) _
    rw [hd, State.cleanLine_mem_other hs a j hj, State.coreByte_eq]

end

/-- Of a line that is discarded the cores see what memory holds. -/
theorem coreByte_dropLines_line (s : State) {a j : Nat} (hj : j / 64 = a / 64) :
    { s with dirty := dropLines s.dirty a 1 }.coreByte j = cellGet 0 s.mem j := by
  have hd : tabGet? (dropLines s.dirty a 1) j = none := tabGet?_filter_neg (by simp; omega) _
  rw [State.coreByte_eq, hd]
  rfl

theorem coreByte_dropLines_other (s : State) {a j : Nat} (hj : j / 64 ≠ a / 64) :
    { s with dirty := dropLines s.dirty a 1 }.coreByte j = s.coreByte j := by
  have hd : tabGet? (dropLines s.dirty a 1) j = tabGet? s.dirty j := tabGet?_filter_pos (by simp; omega) _
  rw [State.coreByte_eq, hd, State.coreByte_eq]

/-! ### Fences and cache operations -/

theorem State.seqFind_bus (s : State) (a : Nat) (f : MemFind) : (s.seqFind a f).bus = s.bus := by cases f <;> rfl

theorem State.fetched_inFlightOf (s : State) (e : Eng) (k : Nat) : (s.fetched e).inFlightOf k = s.inFlightOf k := by
  cases e with
  | core c f => exact s.applyFind_inFlightOf ..
  | seq n f => exact congrArg (fun b : Bus => b.inflight.any (fun x => x.src.id.val = k)) (s.seqFind_bus ..)

section
variable {s : State} {e : Eng} (h : s.boundary e = none)
include h

/-- An instruction that changes `t` and advances. -/
theorem State.conclude_advances {t : State} (w : Nat) (ht : t.eng = s.eng) :
    State.conclude e w (.next t) = t.went e (((s.engine (Eng.key e)).pc + 4) % 2 ^ 40) := by
  have he : t.engine (Eng.key e) = s.engine (Eng.key e) := State.engine_of_eng ht _
  rw [State.conclude_next h w (congrArg Engine.halting he), he]
  rfl

/-- With nothing of the engine in flight a fence advances. -/
theorem State.issue_fence (hq : s.inFlightOf (Eng.key e) = false) {w : Nat} {who : Who} (hw : who.runs e = true) :
    s.issue e w who false (fun s => s.afterFence e (fun s => .next s)) =
      (s.fetched e).went e (((s.engine (Eng.key e)).pc + 4) % 2 ^ 40) := by
  rw [State.issue_acts h w hw (by simp), State.afterFence_idle _ ((s.fetched_inFlightOf e _).trans hq)]
  exact State.conclude_advances h w (s.fetched_eng e)

end

/-- An instruction of a core that starts to wait. -/
theorem State.conclude_waits {s t : State} {c : Fin 16} (hb : s.boundary (.core c) = none) (ht : t.eng = s.eng) (word : Nat) (w : Wait) :
    State.conclude (.core c) word (.hold (t.setEngine c { t.engine c with wait := w })) = t.setEngine c { s.engine c with wait := w } := by
  rw [State.engine_of_eng ht]
  exact State.settleEng_idle hb (by rw [show Eng.key (.core c) = c from rfl, State.engine_setEngine_same])

theorem State.lineInFlight_idle {s : State} {k : Nat} (hq : s.inFlightOf k = false) (a : Nat) : s.lineInFlight k a = false := by
  rw [State.inFlightOf, List.any_eq_false] at hq
  exact List.any_eq_false.2 fun x hx => by simp [eq_false_of_ne_true (hq x hx)]

/-- With nothing of the core in flight a cache operation does what it does to the line of A, and advances. -/
theorem State.cacheOp_idle {s : State} {c : Fin 16} (hb : s.boundary (.core c) = none) (hq : s.inFlightOf c = false) (sr : Nat) (a : Fin 32)
    {keeperOnly : Bool} (hk : keeperOnly = true → (s.engine c).keeper = true) {f : State → Nat → State} {t : State} (hf : f s (s.gr c a).toNat = t)
    (ht : t.eng = s.eng) : s.cacheOp (.core c) sr a keeperOnly f = t.went (.core c) (((s.engine c).pc + 4) % 2 ^ 40) := by
  rw [State.cacheOp, State.issue_of_boundary hb rfl rfl hk]
  simp only [Eng.key, State.lineInFlight_idle hq, Bool.false_eq_true, if_false, hf]
  exact State.conclude_advances hb _ ht

/-! ### `rulesync` (R152, R466) -/

theorem State.staleInFlight_iff (s : State) : s.staleInFlight = false ↔ ∀ y ∈ s.bus.inflight, s.staleTag y = false := by
  simp [State.staleInFlight]

theorem State.syncBusy_iff (s : State) :
    s.syncBusy = false ↔ s.get F.PROT_ACT_STATUS ≠ 1 ∧ ∀ y ∈ s.bus.inflight, s.staleTag y = false := by
  simp [State.syncBusy, State.staleInFlight]

theorem State.advance_staleInFlight (s : State) (t : Nat) : (s.advance t).staleInFlight = s.staleInFlight := rfl

theorem Engine.actEnded_of_waiting {e : Engine} (h : e.wait = .rulesync true) : e.actEnded = { e with wait := .rulesync false } := if_pos h

/-- Every engine is told that the activation has ended. -/
theorem State.actDone_engine {s : State} (hs : s.get F.PROT_ACT_STATUS = 1) (ho : s.oldInFlight s.bus.actSet = false) (k : Nat) :
    s.actDone.engine k = (s.engine k).actEnded := by
  simp only [State.actDone, hs, ho, decide_true, Bool.not_false, Bool.and_self, if_true, State.engine, tabGet,
    tabGet?_map (fun e : Nat × Engine => (e.1, e.2.actEnded)) (fun _ => rfl)]
  cases tabGet? s.eng k <;> rfl

theorem State.rulesyncEnds_waits {s : State} {c : Nat} (h : (s.engine c).wait ≠ .rulesync false ∨ s.staleInFlight = true) : s.rulesyncEnds c = s := by
  rcases h with h | h <;> simp [State.rulesyncEnds, h]

theorem State.rulesyncEnds_done {s : State} {c : Nat} (hw : (s.engine c).wait = .rulesync false) (hf : s.staleInFlight = false)
    (hh : (s.engine c).halting = none) : s.rulesyncEnds c = s.finishWait c 0 0 := by
  simp only [State.rulesyncEnds, hw, hf, decide_true, Bool.not_false, Bool.and_self, if_true]
  exact State.settleHalt_of_none (by simp [State.finishWait, hh])

/-! ### `timerestep` (R151, R401) -/

theorem State.timeRestep_queued {s : State} {a : Int} (c : Nat) (ha : a ≠ 0) (h : s.servo.step.isSome = true) :
    s.timeRestep c a = (false, { s with servo := { s.servo with waiting := s.servo.waiting ++ [(a, c)] } }) := by
  simp only [State.timeRestep, ha, if_false, h, if_true]
  rfl

section
variable {s : State} {c : Fin 16} (hb : s.boundary (.core c) = none) (hk : (s.engine c).keeper = true) (a : Fin 32)
include hb hk

theorem State.timerestep_zero (ha : s.gr c a = 0) :
    exec (.timerestep (.core c) a) s = .next (s.went (.core c) (((s.engine c).pc + 4) % 2 ^ 40)) := by
  refine congrArg Host.Outcome.next ?_
  rw [State.issue_of_boundary hb rfl rfl (fun _ => hk)]
  simp only [Eng.key, ha]
  exact State.conclude_advances hb _ rfl

theorem State.timerestep_queued (ha : s.gr c a ≠ 0) (hstep : s.servo.step.isSome = true) :
    exec (.timerestep (.core c) a) s = .next ({ s with servo := { s.servo with waiting := s.servo.waiting ++ [((s.gr c a).toInt, c.val)] } }.setEngine c
      { s.engine c with wait := .step }) := by
  have hne : (s.gr c a).toInt ≠ 0 := fun h0 => ha (BitVec.eq_of_toInt_eq h0)
  refine congrArg Host.Outcome.next ?_
  rw [State.issue_of_boundary hb rfl rfl (fun _ => hk)]
  simp only [Eng.key, State.timeRestep_queued c hne hstep]
  generalize ht : ({ s with servo := _ } : State) = t
  exact State.conclude_waits hb (ht ▸ rfl) _ _

end

/-- Settles O14: a fence by what it waits for, a cache operation by the dirty bytes of its line, `rulesync` by its mark and the tags in flight. -/
theorem fencesAndCacheLines : Obligations.FencesAndCacheLines := by
  unfold Obligations.FencesAndCacheLines
  refine ⟨⟨fun e s hb hq => ?_, fun c a s hb hq => ?_⟩, fun c a time s => ?_⟩
  · exact congrArg Host.Outcome.next (State.issue_fence hb hq rfl)
  · intro e x unit only cleans
    have hcleans {i : Instr} {sr : Nat} (hs : s.memoriesOk = true) (hi : exec i s = .next (s.cacheOp e sr a false (fun s x => s.cleanLine x))) :
        cleans i := by
      have hop := State.cacheOp_idle hb hq sr a (keeperOnly := false) (fun h => nomatch h) (f := fun s x => s.cleanLine x) rfl rfl
      refine ⟨_, hi.trans (congrArg Host.Outcome.next hop), ⟨rfl, fun w hw => (List.mem_filter.1 hw).1⟩, ?_, ?_, ?_⟩
      · exact State.cleanLine_coreByte hs x
      · exact State.cleanLine_mem_line hs x
      · exact State.cleanLine_mem_other hs x
    refine ⟨congrArg Host.Outcome.next (State.issue_fence hb hq rfl), fun hs => ⟨hcleans hs rfl, hcleans hs rfl⟩, fun hk => ?_⟩
    have hop := State.cacheOp_idle hb hq 1 a (keeperOnly := true) (fun _ => hk) (f := fun s x => { s with dirty := dropLines s.dirty x 1 }) rfl rfl
    exact ⟨_, congrArg Host.Outcome.next hop, ⟨rfl, fun w hw => hw⟩, fun j => rfl, fun j => coreByte_dropLines_line s,
      fun j => coreByte_dropLines_other s⟩
  · intro e x fresh idle on
    have hidle : idle ↔ s.syncBusy = false := s.syncBusy_iff.symm
    have hfresh : fresh ↔ s.staleInFlight = false := s.staleInFlight_iff.symm
    refine ⟨fun hb hk => ⟨fun hi => ?_, fun hi => ?_, fun ha => ?_, fun ha hstep => ?_⟩, fun hw hs ho => ?_, fun hw hh hf => ?_, fun hw => ?_⟩
    · refine congrArg Host.Outcome.next ?_
      rw [State.issue_of_boundary hb rfl rfl (fun _ => hk)]
      simp only [hidle.1 hi, Bool.false_eq_true, if_false]
      exact State.conclude_advances hb _ rfl
    · rw [hidle, Bool.not_eq_false] at hi
      refine congrArg Host.Outcome.next ?_
      rw [State.issue_of_boundary hb rfl rfl (fun _ => hk)]
      simp only [hi, if_true]
      exact State.conclude_waits hb rfl _ _
    · exact State.timerestep_zero hb hk a ha
    · exact State.timerestep_queued hb hk a ha hstep
    · have hold : (s.advance time).oldInFlight s.bus.actSet = false := by
        simp only [State.oldInFlight, List.any_eq_false, Bool.and_eq_true, bne_iff_ne, decide_eq_true_eq, not_and, not_not]
        exact fun y hy hset => (ho y hy hset).trans (congrArg s.epochOf hset)
      have he : (s.advance time).actDone.engine c = { x with wait := .rulesync false } :=
        (State.actDone_engine (s := s.advance time) hs hold c).trans (Engine.actEnded_of_waiting hw)
      exact ⟨_, rfl, by rw [he], by rw [he], fun r => by rw [State.gr, he]; rfl⟩
    · have hdone : (s.advance time).rulesyncEnds c = (s.advance time).finishWait c 0 0 :=
        State.rulesyncEnds_done hw (hfresh.1 hf) hh
      refine ⟨_, congrArg Host.Outcome.next hdone, ?_, ?_, fun r => ?_, State.setEngine_onlyEngine ..⟩
      · simp [State.finishWait]
      · simp [State.finishWait, on, x]
      · simp [State.gr, State.finishWait]
    · refine congrArg Host.Outcome.next (State.rulesyncEnds_waits ?_)
      rcases hw with hw | ⟨-, hf⟩
      · exact .inl (by rw [State.advance_engine, show (s.engine c).wait = _ from hw]; decide)
      · exact .inr ((s.advance_staleInFlight time).trans (by simpa [hfresh] using hf))

end Sys2Proof.Machine
end

section
/-! Ring instructions and doorbells (O15; R153, R154, R167, R456, R458, R467 to R472). -/
namespace Sys2Proof.Machine

/-! ### Transfers of one block (R456, R459) -/

theorem splitTx_one {fuel a n : Nat} (h0 : 0 < n) (hn : a % 256 + n ≤ 256) : splitTx (fuel + 1) a n = [(a, n)] := by
  have hm : min n (256 - a % 256) = n := by omega
  have hz (f b : Nat) : splitTx f b 0 = [] := by cases f <;> rfl
  simp [splitTx, hm, h0.ne', hz]

/-- An access of more than 8 bytes that passes its initiator's check does not lie in register space (R25, R459). -/
theorem State.isReg_of_passes {s : State} {src : Src} {k : AccKind} {a n : Nat} (hn : 8 < n) (h : (s.initCheck src k a n).1 = true) :
    (s.region a).isReg = false := by
  by_contra hr
  have hw : widthOk a n = false := by simp [widthOk]; omega
  have hm : (s.mapCheck a n).isSome = true := by
    unfold State.mapCheck
    split
    · rfl
    · simp [Bool.eq_true_of_not_eq_false hr, hw]
  obtain ⟨b, hb⟩ := Option.isSome_iff_exists.1 hm
  simp [State.initCheck, hb] at h

section
variable {s : State} {src : Src} {a n : Nat} (h0 : 8 < n) (hn : a % 256 + n ≤ 256)
include h0 hn

theorem State.transferCheck_one {k : AccKind} (h : (s.initCheck src k a n).1 = true) : s.transferCheck src k a n = (true, s) := by
  rw [State.transferCheck, splitTx_one (by omega) hn]
  exact State.initCheck_passes h

theorem State.unitRead_one (h : (s.initCheck src .read a n).1 = true) (hp : s.poisoned a n = false) :
    s.unitRead src a n = (some (cellRead 0 s.mem a n), s) := by
  rw [State.unitRead, splitTx_one (by omega) hn]
  simp [State.initCheck_passes h, hp, State.unitBytes, State.isReg_of_passes h0 h]

omit h0 hn in
/-- Memory takes a write of one block whole, past what the L2 holds of its lines (R167). -/
theorem State.unitWrite_one {bytes : List Byte} (h0 : 8 < bytes.length) (hn : a % 256 + bytes.length ≤ 256)
    (h : (s.initCheck src .write a bytes.length).1 = true) :
    s.unitWrite src a bytes = (true, { s with dirty := dropLines s.dirty a bytes.length }.memWrite a bytes) := by
  rw [State.unitWrite, splitTx_one (by omega) hn]
  simp [State.initCheck_passes h, State.unitPut, State.isReg_of_passes h0 h]

end

theorem State.corePoisoned_of_poisoned {s : State} {a n : Nat} (h : s.poisoned a n = false) : s.corePoisoned a n = false := by
  induction n generalizing a with
  | zero => rfl
  | succ n ih =>
    simp only [State.poisoned, Bool.or_eq_false_iff] at h
    rw [State.corePoisoned, h.1, ih h.2]
    rfl

theorem State.coreRead_getD (s : State) {n j : Nat} (a : Nat) (h : j < n) : (s.coreRead a n).getD j 0 = s.coreByte (a + j) := by
  induction n generalizing a j with
  | zero => omega
  | succ n ih =>
    cases j with
    | zero => rfl
    | succ j =>
      rw [State.coreRead, List.getD_cons_succ, ih (a + 1) (by omega)]
      congr 1
      omega

theorem cellRead_getD (m : List Host.Cell) {n j : Nat} (a : Nat) (h : j < n) : (cellRead 0 m a n).getD j 0 = cellGet 0 m (a + j) := by
  induction n generalizing a j with
  | zero => omega
  | succ n ih =>
    cases j with
    | zero => rfl
    | succ j =>
      rw [cellRead, List.getD_cons_succ, ih (a + 1) (by omega)]
      congr 1
      omega

/-! ### Entries (R467, R470) -/

theorem State.ringSize_gt (s : State) (k : Nat) : 8 < s.ringSize k := by
  have := Nat.two_pow_pos (s.get (F.RINGS_CFG_ESIZE k))
  rw [State.ringSize]
  omega

/-- An entry that is aligned to its size lies within one block. -/
theorem State.ringSize_block {s : State} {k x : Nat} (he : s.get (F.RINGS_CFG_ESIZE k) ≤ 4) (hx : x % s.ringSize k = 0) :
    x % 256 + s.ringSize k ≤ 256 := by
  rw [State.ringSize] at *
  interval_cases s.get (F.RINGS_CFG_ESIZE k) <;> norm_num at * <;> omega

theorem State.esize_le {s : State} {k : Nat} (h : s.ringSize k ≤ 256) : s.get (F.RINGS_CFG_ESIZE k) ≤ 4 := by
  rw [State.ringSize] at h
  by_contra he
  have := Nat.pow_le_pow_right (show 0 < 2 by decide) (show 5 ≤ s.get (F.RINGS_CFG_ESIZE k) by omega)
  omega

/-! ### The router's view of a ring (R471) -/

/-- The router's view of a ring is the ring's own bit of attention and when its FILL rose. -/
theorem State.ringUpdate_eq (s : State) (k : Nat) :
    ∃ o b, s.ringUpdate k = { s with rose := o }.putBit (F.RINGS_ATTN_STATE (k / 32)) (k % 32) b := by
  unfold State.ringUpdate
  dsimp only
  split
  · exact ⟨_, _, rfl⟩
  · split <;> exact ⟨_, _, rfl⟩

theorem State.ringUpdate_rest (s : State) (k : Nat) : { s.ringUpdate k with regs := s.regs, rose := s.rose } = s := by
  obtain ⟨o, b, h⟩ := s.ringUpdate_eq k
  rw [h]
  rfl

theorem State.ringUpdate_eng (s : State) (k : Nat) : (s.ringUpdate k).eng = s.eng := by simpa using congrArg State.eng (s.ringUpdate_rest k)
theorem State.ringUpdate_mem (s : State) (k : Nat) : (s.ringUpdate k).mem = s.mem := by simpa using congrArg State.mem (s.ringUpdate_rest k)
theorem State.ringUpdate_log (s : State) (k : Nat) : (s.ringUpdate k).log = s.log := by simpa using congrArg State.log (s.ringUpdate_rest k)

theorem State.ringUpdate_get (s : State) (k : Nat) {f : Fld} (hk : f.key ≠ (F.RINGS_ATTN_STATE (k / 32)).key) (hc : isCtxOwn f.key = false) :
    (s.ringUpdate k).get f = s.get f := by
  obtain ⟨o, b, h⟩ := s.ringUpdate_eq k
  rw [h]
  exact State.get_put_ne _ _ _ _ hk hc

theorem ringsPut_key {k : Nat} (hk : k < 128) :
    (F.RINGS_PUT k).key ≠ (F.RINGS_ATTN_STATE (k / 32)).key ∧ isCtxOwn (F.RINGS_PUT k).key = false :=
  ⟨by simp only [F.RINGS_PUT, F.RINGS_ATTN_STATE]; omega, isCtxOwn_above (by simp only [F.RINGS_PUT]; omega)⟩

theorem ringsGet_key {k : Nat} (hk : k < 128) :
    (F.RINGS_GET k).key ≠ (F.RINGS_ATTN_STATE (k / 32)).key ∧ isCtxOwn (F.RINGS_GET k).key = false :=
  ⟨by simp only [F.RINGS_GET, F.RINGS_ATTN_STATE]; omega, isCtxOwn_above (by simp only [F.RINGS_GET]; omega)⟩

section
variable (s : State) {k : Nat} (hk : k < 128) (v : Nat)
include hk

theorem State.get_ringsPut_put : ((s.put (F.RINGS_PUT k) v).ringUpdate k).get (F.RINGS_PUT k) = v % 2 ^ 17 := by
  obtain ⟨ha, hc⟩ := ringsPut_key hk
  exact (State.ringUpdate_get _ _ ha hc).trans (State.get_put_same _ _ _ (by simp [F.RINGS_PUT]))

theorem State.get_ringsGet_put : ((s.put (F.RINGS_PUT k) v).ringUpdate k).get (F.RINGS_GET k) = s.get (F.RINGS_GET k) := by
  obtain ⟨ha, hc⟩ := ringsGet_key hk
  rw [State.ringUpdate_get _ _ ha hc, State.get_put_ne _ _ _ _ (by simp [F.RINGS_PUT, F.RINGS_GET]) hc]

theorem State.get_ringsGet_get : ((s.put (F.RINGS_GET k) v).ringUpdate k).get (F.RINGS_GET k) = v % 2 ^ 17 := by
  obtain ⟨ha, hc⟩ := ringsGet_key hk
  exact (State.ringUpdate_get _ _ ha hc).trans (State.get_put_same _ _ _ (by simp [F.RINGS_GET]))

theorem State.get_ringsPut_get : ((s.put (F.RINGS_GET k) v).ringUpdate k).get (F.RINGS_PUT k) = s.get (F.RINGS_PUT k) := by
  obtain ⟨ha, hc⟩ := ringsPut_key hk
  rw [State.ringUpdate_get _ _ ha hc, State.get_put_ne _ _ _ _ (by simp [F.RINGS_PUT, F.RINGS_GET]) hc]

end

/-! ### Posts and takes (R468) -/

section
variable {s : State} {src : Src} {k : Nat} (hon : s.on (F.RINGS_CFG_EN k) = true)
include hon

theorem State.ringPost_full {e : List Byte} (hp : s.on (F.RINGS_CFG_PMODE k) = false) (hl : e.length = s.ringSize k) (hf : s.ringFill k = s.ringN k) :
    s.ringPost src k e = (1, s) := by
  simp [State.ringPost, hon, hp, hl, hf]

/-- The slot of the entry at PUT after a post's bytes have been written past the L2 (R167). -/
def State.slotWritten (s : State) (k : Nat) (e : List Byte) : State :=
  { s with dirty := dropLines s.dirty (s.ringAddr k (s.get (F.RINGS_PUT k))) e.length }.memWrite (s.ringAddr k (s.get (F.RINGS_PUT k))) e

/-- A post to a ring with room writes the slot and moves PUT on. -/
theorem State.ringPost_done {e : List Byte} (hp : s.on (F.RINGS_CFG_PMODE k) = false) (hl : e.length = s.ringSize k) (hf : s.ringFill k ≠ s.ringN k)
    (hb : s.ringAddr k (s.get (F.RINGS_PUT k)) % 256 + s.ringSize k ≤ 256)
    (hc : (s.initCheck src .write (s.ringAddr k (s.get (F.RINGS_PUT k))) (s.ringSize k)).1 = true) :
    s.ringPost src k e = (0, ((s.slotWritten k e).put (F.RINGS_PUT k) ((s.get (F.RINGS_PUT k) + 1) % (2 * s.ringN k))).ringUpdate k) := by
  have hw : s.unitWrite src (s.ringAddr k (s.get (F.RINGS_PUT k))) e = (true, s.slotWritten k e) :=
    State.unitWrite_one (by rw [hl]; exact s.ringSize_gt k) (by rw [hl]; exact hb) (by rw [hl]; exact hc)
  simp only [State.ringPost, hon, hp, hl, hf, hw, Bool.not_true, Bool.false_eq_true, bne_self_eq_false, if_false, if_true]
  rfl

theorem State.ringTake_empty (hm : s.on (F.RINGS_CFG_CMODE k) = false) (hf : s.ringFill k = 0) : s.ringTake src k = (1, [], s) := by
  simp [State.ringTake, hon, hm, hf]

/-- A take of the oldest entry reads its slot and moves GET on. -/
theorem State.ringTake_done (hm : s.on (F.RINGS_CFG_CMODE k) = false) (hf : s.ringFill k ≠ 0)
    (hb : s.ringAddr k (s.get (F.RINGS_GET k)) % 256 + s.ringSize k ≤ 256)
    (hc : (s.initCheck src .read (s.ringAddr k (s.get (F.RINGS_GET k))) (s.ringSize k)).1 = true)
    (hx : s.poisoned (s.ringAddr k (s.get (F.RINGS_GET k))) (s.ringSize k) = false) :
    s.ringTake src k = (0, cellRead 0 s.mem (s.ringAddr k (s.get (F.RINGS_GET k))) (s.ringSize k),
      (s.put (F.RINGS_GET k) ((s.get (F.RINGS_GET k) + 1) % (2 * s.ringN k))).ringUpdate k) := by
  simp only [State.ringTake, hon, hm, hf, State.unitRead_one (s.ringSize_gt k) hb hc hx, Bool.not_true, Bool.false_eq_true, if_false]

end

/-! ### Ring instructions (R153, R154) -/

section
variable {s : State} {c : Fin 16} {d a b : Fin 32} {fn : Nat} {f : State → Nat → Nat → Act} (hb : s.boundary (.core c) = none)
  (hq : s.inFlightOf c = false)
include hb hq

theorem State.ringOp_above (hr : 128 ≤ (s.gr c b).toNat) : s.ringOp (.core c) fn d a b f = s.wrote (.core c) d 3 := by
  rw [State.ringOp, State.issue_of_boundary hb rfl rfl (by simp)]
  dsimp only
  rw [State.afterFence_idle _ hq]
  simp only [Eng.key, hr, if_true]
  exact State.conclude_setGr hb _ rfl _ _

theorem State.ringOp_wrote (hr : (s.gr c b).toNat < 128) {t : State} {v : Dword}
    (hf : f s (s.gr c a).toNat (s.gr c b).toNat = .next (t.setGr c d v)) (ht : t.eng = s.eng) :
    s.ringOp (.core c) fn d a b f = t.wrote (.core c) d v := by
  rw [State.ringOp, State.issue_of_boundary hb rfl rfl (by simp)]
  dsimp only
  rw [State.afterFence_idle _ hq]
  simp only [Eng.key, Nat.not_le.2 hr, if_false, hf]
  exact State.conclude_setGr hb _ (congrArg Engine.halting (State.engine_of_eng ht _)) _ _

end

/-! ### Doorbells (R469) -/

section
variable {s : State} {k i : Nat}

/-- The doorbell advances PUT of a memory-posted ring, by no more than its room. -/
def State.BellPuts (s : State) (k i : Nat) : Prop :=
  s.on (F.RINGS_CFG_EN k) = true ∧ s.on (F.RINGS_CFG_PMODE k) = true ∧ s.ringDist k i (s.get (F.RINGS_PUT k)) ≤ s.ringN k - s.ringFill k

/-- The doorbell advances GET of a memory-taken ring, by no more than its FILL. -/
def State.BellTakes (s : State) (k i : Nat) : Prop :=
  s.on (F.RINGS_CFG_EN k) = true ∧ s.on (F.RINGS_CFG_CMODE k) = true ∧ s.ringDist k i (s.get (F.RINGS_GET k)) ≤ s.ringFill k

theorem State.ringBell_puts (h : s.BellPuts k i) : s.ringBell k i false = (0, (s.put (F.RINGS_PUT k) (i % (2 * s.ringN k))).ringUpdate k) := by
  obtain ⟨hon, hm, hd⟩ := h
  simp [State.ringBell, hon, hm, hd]

theorem State.ringBell_takes (h : s.BellTakes k i) : s.ringBell k i true = (0, (s.put (F.RINGS_GET k) (i % (2 * s.ringN k))).ringUpdate k) := by
  obtain ⟨hon, hm, hd⟩ := h
  simp [State.ringBell, hon, hm, hd]

theorem State.ringBell_refused {side : Bool} (hp : side = false → ¬s.BellPuts k i) (hg : side = true → ¬s.BellTakes k i) :
    s.ringBell k i side = (2, s.ringRefuse k (if s.on (F.RINGS_CFG_EN k) then 1 else 3)) := by
  cases hon : s.on (F.RINGS_CFG_EN k) with
  | false => simp [State.ringBell, hon]
  | true =>
    cases side with
    | false => simpa [State.ringBell, State.BellPuts, hon] using hp
    | true => simpa [State.ringBell, State.BellTakes, hon] using hg

theorem State.ringRefuse_get {f : Fld} (code : Nat) (hk : f.key ≠ F.RINGS_REFUSED.key) (h21 : f.key / 0x100000 ≠ 21) (hc : isCtxOwn f.key = false) :
    (s.ringRefuse k code).get f = s.get f := by
  rw [State.ringRefuse, (State.raise_logOnly ..).get f h21 hc, State.get, State.bump, State.reg_setReg_ne _ _ _ _ hk hc]
  rfl

end

/-- The index that a doorbell gives becomes that of its side where it is accepted; otherwise no index changes and class 0x09 is logged. -/
theorem State.ringBell_spec (s : State) {k : Nat} (hk : k < 128) (i : Nat) (side : Bool) :
    let t := (s.ringBell k i side).2
    (side = false ∧ s.BellPuts k i → t.get (F.RINGS_PUT k) = i % (2 * s.ringN k) % 2 ^ 17 ∧ t.get (F.RINGS_GET k) = s.get (F.RINGS_GET k) ∧ t.log = s.log) ∧
    (side = true ∧ s.BellTakes k i → t.get (F.RINGS_GET k) = i % (2 * s.ringN k) % 2 ^ 17 ∧ t.get (F.RINGS_PUT k) = s.get (F.RINGS_PUT k) ∧ t.log = s.log) ∧
    (¬(side = false ∧ s.BellPuts k i) → ¬(side = true ∧ s.BellTakes k i) → t.get (F.RINGS_PUT k) = s.get (F.RINGS_PUT k) ∧
      t.get (F.RINGS_GET k) = s.get (F.RINGS_GET k) ∧
      ∃ r ∈ t.log.recent.head?, r.cls = 0x09 ∧ r.detail = k + 0x100 * (if s.on (F.RINGS_CFG_EN k) then 1 else 3)) := by
  refine ⟨?_, ?_, fun hp hg => ?_⟩
  · rintro ⟨rfl, hp⟩
    rw [State.ringBell_puts hp]
    exact ⟨s.get_ringsPut_put hk _, s.get_ringsGet_put hk _, State.ringUpdate_log ..⟩
  · rintro ⟨rfl, hg⟩
    rw [State.ringBell_takes hg]
    exact ⟨s.get_ringsGet_get hk _, s.get_ringsPut_get hk _, State.ringUpdate_log ..⟩
  · rw [State.ringBell_refused (fun h hp' => hp ⟨h, hp'⟩) (fun h hg' => hg ⟨h, hg'⟩)]
    obtain ⟨r, hr, hcls, -, -, hd⟩ := (s.bump F.RINGS_REFUSED).raise_newest 0x09 0 0
      (k + 0x100 * (if s.on (F.RINGS_CFG_EN k) then 1 else 3)) (some k)
    refine ⟨State.ringRefuse_get _ ?_ ?_ (ringsPut_key hk).2, State.ringRefuse_get _ ?_ ?_ (ringsGet_key hk).2, r, hr, hcls, hd⟩ <;>
      simp only [F.RINGS_PUT, F.RINGS_GET, F.RINGS_REFUSED] <;> omega

theorem State.ringBell_status (s : State) (k i : Nat) (side : Bool) :
    ((side = false ∧ s.BellPuts k i) ∨ (side = true ∧ s.BellTakes k i) → (s.ringBell k i side).1 = 0) ∧
    (¬((side = false ∧ s.BellPuts k i) ∨ (side = true ∧ s.BellTakes k i)) → (s.ringBell k i side).1 = 2) := by
  refine ⟨?_, fun h => ?_⟩
  · rintro (⟨rfl, hp⟩ | ⟨rfl, hg⟩)
    · rw [State.ringBell_puts hp]
    · rw [State.ringBell_takes hg]
  · rw [not_or] at h
    rw [State.ringBell_refused (fun hs hp => h.1 ⟨hs, hp⟩) (fun hs hg => h.2 ⟨hs, hg⟩)]

theorem State.ringBell_eng (s : State) (k i : Nat) (side : Bool) : (s.ringBell k i side).2.eng = s.eng := by
  have hr (code : Nat) : (s.ringRefuse k code).eng = s.eng := (State.raise_logOnly ..).eng
  unfold State.ringBell
  dsimp only
  split_ifs
  · exact hr _
  · exact State.ringUpdate_eng ..
  · exact hr _
  · exact State.ringUpdate_eng ..
  · exact hr _

theorem State.rbellAct_passes {s : State} {k x r : Nat} (d : Nat)
    (hc : (s.initCheck (s.engSrc k) .write (keyAddr (F.RINGS_BELL_INDEX r).key) 4).1 = true) :
    s.rbellAct k d x r = .next ((s.ringBell r (bits x 0 17) (bitAt x 31)).2.setGr k d (BitVec.ofNat 64 (s.ringBell r (bits x 0 17) (bitAt x 31)).1)) := by
  have hpass := State.initCheck_passes hc
  have h : @State.rbellAct = @State.rbellAct := rfl
  conv at h => lhs; delta State.rbellAct
  have heq := congr_fun₂ (congr_fun₃ h s k d) x r
  beta_reduce at heq
  rewrite [← heq]
  clear h heq hc
  generalize @State.initCheck = check at hpass ⊢
  as_aux_lemma =>
    dsimp only
    rw [hpass]
    rfl

section
variable {s : State} {k x r : Nat} (d : Nat) (hx : x < 2 ^ 40) (hn : x % s.ringSize r = 0) (hst : s.l2Stalls x (s.ringSize r) = false)
include hx hn hst

/-- A `rput` whose reading of its entry passes posts what the core sees there. -/
theorem State.rputAct_posts (he : s.get (F.RINGS_CFG_ESIZE r) ≤ 4) (hc : (s.initCheck (s.engSrc k) .read x (s.ringSize r)).1 = true)
    (hp : s.poisoned x (s.ringSize r) = false) {st : Nat} {t : State} (ht : s.ringPost (s.engSrc k) r (s.coreRead x (s.ringSize r)) = (st, t)) :
    s.rputAct k d x r = .next (t.setGr k d (BitVec.ofNat 64 st)) := by
  have hcheck := State.transferCheck_one (s.ringSize_gt r) (State.ringSize_block he hn) hc
  simp only [State.rputAct, addrCause_none hx hn, hcheck, hst, State.corePoisoned_of_poisoned hp, ht, Bool.not_true, Bool.false_eq_true, if_false]

theorem State.rgetAct_empty {t : State} (ht : s.ringTake (s.engSrc k) r = (1, [], t)) :
    s.rgetAct k d x r = .next (t.setGr k d 1) := by
  simp only [State.rgetAct, addrCause_none hx hn, hst, ht, Bool.false_eq_true, if_false]
  rfl

/-- A `rget` whose writing of its entry passes writes the entry taken at A. -/
theorem State.rgetAct_takes (he : s.get (F.RINGS_CFG_ESIZE r) ≤ 4) (hc : (s.initCheck (s.engSrc k) .write x (s.ringSize r)).1 = true)
    {bs : List Byte} {t : State} (ht : s.ringTake (s.engSrc k) r = (0, bs, t)) : s.rgetAct k d x r = .next ((t.coreWrite k x bs).setGr k d 0) := by
  have hcheck := State.transferCheck_one (s.ringSize_gt r) (State.ringSize_block he hn) hc
  simp only [State.rgetAct, addrCause_none hx hn, hst, ht, hcheck, Bool.not_true, Bool.false_eq_true, if_false]

end

theorem State.wrote_get (t : State) (e : Eng) (d : Nat) (v : Dword) (f : Fld) : (t.wrote e d v).get f = t.get f := rfl
theorem State.wrote_coreByte (t : State) (e : Eng) (d : Nat) (v : Dword) (j : Nat) : (t.wrote e d v).coreByte j = t.coreByte j := rfl
theorem State.wrote_mem (t : State) (e : Eng) (d : Nat) (v : Dword) : (t.wrote e d v).mem = t.mem := rfl

/-- The general registers after an instruction that wrote D on top of a state with the engines of before. -/
theorem State.wrote_gr_of_eng {s t : State} {c : Fin 16} {d : Fin 32} {v : Dword} (h : t.eng = s.eng) :
    (d ≠ 0 → (t.wrote (.core c) d v).gr c d = v) ∧ ∀ r, r ≠ d.val → (t.wrote (.core c) d v).gr c r = s.gr c r :=
  ⟨fun hd => t.wrote_gr_same c v hd, fun _ hr => (t.wrote_gr_ne c v hr).trans (State.gr_of_eng h ..)⟩

theorem State.wrote_zero (t : State) (c : Fin 16) (d : Fin 32) : (t.wrote (.core c) d 0).gr c d = 0 := by
  by_cases hd : d = 0
  · subst hd
    rfl
  · exact t.wrote_gr_same c 0 hd

theorem State.bellIndex (v : Word) : bits v.toNat 0 17 = v.toNat % 2 ^ 17 := by simp [bits]

/-- Settles O15: the ring, the transfer at A and the slot decide the status, and a post or a take moves its index and its bytes. -/
theorem ringInstructions : Obligations.RingInstructions := by
  unfold Obligations.RingInstructions
  refine ⟨fun c d a b s hb hq => ?_, fun c d a b s hb hq hs => ?_, fun k v s => ?_⟩
  · intro e x k n size put slot
    refine ⟨fun hk => ?_, fun hk hx hn hon hes => ⟨fun hcm hf hst => ?_, fun hpm hc hp hst => ?_⟩⟩
    · exact ⟨congrArg Host.Outcome.next (State.ringOp_above hb hq hk), congrArg Host.Outcome.next (State.ringOp_above hb hq hk),
        congrArg Host.Outcome.next (State.ringOp_above hb hq hk)⟩
    · have hact := State.rgetAct_empty (k := c) d hx hn hst (State.ringTake_empty hon hcm hf)
      exact congrArg Host.Outcome.next (State.ringOp_wrote hb hq hk hact rfl)
    · have hlen : (s.coreRead x n).length = s.ringSize k := State.coreRead_length ..
      refine ⟨fun hf => ?_, fun hf hs hblk hw => ?_⟩
      · have hact := State.rputAct_posts (k := c) d hx hn hst hes hc hp (State.ringPost_full hon hpm hlen hf)
        exact congrArg Host.Outcome.next (State.ringOp_wrote hb hq hk hact rfl)
      · have hact := State.rputAct_posts (k := c) d hx hn hst hes hc hp (State.ringPost_done hon hpm hlen hf hblk hw)
        obtain ⟨hm, -, -, -⟩ := s.memoriesOk_iff.1 hs
        have heng : (((s.slotWritten k (s.coreRead x n)).put (F.RINGS_PUT k) ((put + 1) % (2 * size))).ringUpdate k).eng = s.eng :=
          State.ringUpdate_eng ..
        refine ⟨_, congrArg Host.Outcome.next (State.ringOp_wrote hb hq hk hact heng), State.wrote_zero .., (State.wrote_gr_of_eng heng).2, fun j hj => ?_,
          fun j hj => ?_, (State.wrote_get ..).trans (State.get_ringsPut_put _ hk _)⟩
        · rw [State.wrote_mem, State.ringUpdate_mem, ← State.coreRead_getD s x hj]
          exact cellGet_cellWrite_inside slot j _ hm (by rw [hlen]; exact hj)
        · rw [State.wrote_mem, State.ringUpdate_mem]
          exact cellGet_cellWrite_outside 0 s.mem slot j _ (by rw [hlen]; exact hj)
  · intro e x k n size take slot hk hx hn hon hcm hf hblk hread hp hwrite hst
    have hes := State.esize_le (s := s) (k := k) (by omega)
    have hact := State.rgetAct_takes (k := c) d hx hn hst hes hwrite (State.ringTake_done hon hcm hf hblk hread hp)
    obtain ⟨hm, -, -, -⟩ := s.memoriesOk_iff.1 hs
    let u := (s.put (F.RINGS_GET k) ((take + 1) % (2 * size))).ringUpdate k
    have hu : ∀ j, u.coreByte j = s.coreByte j := fun j => (SameBytes.of_mems (s := s) (t := u) (by simp [u]) j).2.1
    have hlen : (cellRead 0 s.mem (s.ringAddr k (s.get (F.RINGS_GET k))) (s.ringSize k)).length = n := cellRead_length ..
    have heng : (u.coreWrite c x (cellRead 0 s.mem slot n)).eng = s.eng := (State.coreWrite_eng ..).trans (State.ringUpdate_eng ..)
    refine ⟨_, congrArg Host.Outcome.next (State.ringOp_wrote hb hq hk hact heng), State.wrote_zero .., (State.wrote_gr_of_eng heng).2, fun j hj => ?_,
      fun j hj => ?_, ?_⟩
    · rw [State.wrote_coreByte, ← cellRead_getD s.mem slot hj]
      exact State.coreWrite_coreByte_inside _ _ _ _ (by rw [State.ringUpdate_mem]; exact hm) (by rw [hlen]; exact hj)
    · rw [State.wrote_coreByte]
      exact (State.coreWrite_coreByte_outside _ _ _ _ _ (by rw [hlen]; exact hj)).trans (hu j)
    · rw [State.wrote_get]
      exact (State.get_of_regs (State.coreWrite_regs ..) _).trans (s.get_ringsGet_get hk _)
  · intro n i side put take on okPut okGet does
    have hside : (bitAt v.toNat 31 = true) ↔ side := bitAt_eq_true
    have hputs : okPut ↔ bitAt v.toNat 31 = false ∧ s.BellPuts k i := by
      rw [Bool.eq_false_iff, ne_eq, hside]
      exact ⟨fun ⟨ho, hs, hm, hd⟩ => ⟨hs, ho, hm, hd⟩, fun ⟨hs, ho, hm, hd⟩ => ⟨ho, hs, hm, hd⟩⟩
    have htakes : okGet ↔ bitAt v.toNat 31 = true ∧ s.BellTakes k i := by
      rw [hside]
      exact ⟨fun ⟨ho, hs, hm, hd⟩ => ⟨hs, ho, hm, hd⟩, fun ⟨hs, ho, hm, hd⟩ => ⟨ho, hs, hm, hd⟩⟩
    have hdoes : does (s.ringBell k i (bitAt v.toNat 31)).2 := by
      obtain ⟨hp, hg, hr⟩ := s.ringBell_spec k.isLt i (bitAt v.toNat 31)
      simp only [does]
      rw [hputs, htakes]
      exact ⟨hp, hg, hr⟩
    refine ⟨fun init hadm => ?_, fun c d a b hb hq hbk hav hc => ?_⟩
    · refine ⟨_, congrArg Host.Outcome.next (State.asWrite_admitted v _ hadm), ?_, ?_, ?_⟩
      · rw [State.wrBell, State.bellIndex]
        exact hdoes
      · exact State.ringBell_eng ..
      · exact .of_mems (State.ringBell_mems ..)
    · have hx : bits (s.gr c a).toNat 0 17 = i ∧ bitAt (s.gr c a).toNat 31 = bitAt v.toNat 31 := by
        rw [hav, BitVec.toNat_setWidth, Nat.mod_eq_of_lt (Nat.lt_trans v.isLt (by decide))]
        exact ⟨State.bellIndex v, rfl⟩
      have hact := State.rbellAct_passes (k := c) (x := (s.gr c a).toNat) d hc
      rw [hx.1, hx.2] at hact
      have heng := s.ringBell_eng k i (bitAt v.toNat 31)
      have hop := State.ringOp_wrote (d := d) (a := a) (fn := 2) (f := fun s x r => s.rbellAct c d x r) hb hq (by rw [hbk]; exact k.isLt) (by rw [hbk]; exact hact) heng
      refine ⟨_, congrArg Host.Outcome.next hop, hdoes, .of_mems (State.ringBell_mems ..), fun hd => ?_, (State.wrote_gr_of_eng heng).2⟩
      rw [(State.wrote_gr_of_eng heng).1 hd]
      obtain ⟨h0, h2⟩ := s.ringBell_status k i (bitAt v.toNat 31)
      have hok := or_congr hputs htakes
      split
      · next h => rw [h0 (hok.1 h)]; rfl
      · next h => rw [h2 (hok.not.1 h)]; rfl

end Sys2Proof.Machine
end

section
/-! Waits of a core (O16; R155, R173, R184 to R186, R190 to R196). -/
namespace Sys2Proof.Machine

/-! ### The end of a wait (R194) -/

theorem State.finishWait_engine (s : State) (k d v : Nat) : (s.finishWait k d v).engine k =
    { s.engine k with g := if d = 0 then (s.engine k).g else tabSet (s.engine k).g d (BitVec.ofNat 64 v), wait := .none,
                      pc := ((s.engine k).pc + 4) % 2 ^ 40, retired := (s.engine k).retired + 1 } :=
  State.engine_setEngine_same ..

theorem State.finishWait_gr (s : State) (k d v : Nat) :
    (d ≠ 0 → (s.finishWait k d v).gr k d = BitVec.ofNat 64 v) ∧ ∀ j, j ≠ d → (s.finishWait k d v).gr k j = s.gr k j := by
  refine ⟨fun hd => ?_, fun j hj => ?_⟩
  · simp [State.gr, State.finishWait_engine, hd]
  · by_cases hd : d = 0
    · simp [State.gr, State.finishWait_engine, hd]
    · simp [State.gr, State.finishWait_engine, hd, tabGet_tabSet_ne _ _ _ _ _ hj]

theorem State.endWait_core (s : State) (c : Fin 16) (d v : Nat) : s.endWait c d v = s.finishWait c d v := if_pos c.isLt

/-! ### `rwait` (R155) -/

section
variable {s : State} {c : Fin 16}

theorem State.coreState_put (t : State) (c : Fin 16) {st : Nat} (hst : st < 8) : (t.put (F.CORE_STATE c) st).get (F.CORE_STATE c) = st := by
  rw [State.get_put_same _ _ _ (by simp [F.CORE_STATE])]
  exact Nat.mod_eq_of_lt hst

theorem State.rwait_attention (hb : s.boundary (.core c) = none) (hq : s.inFlightOf c = false) (d a : Fin 32) {r : Nat} (h : s.attention c = some r) :
    exec (.rwait (.core c) d a) s = .next (s.wrote (.core c) d (BitVec.ofNat 64 r)) := by
  refine congrArg Host.Outcome.next ?_
  rw [State.issue_of_boundary hb rfl rfl (by simp)]
  dsimp only
  rw [State.afterFence_idle _ hq]
  simp only [Eng.key, h]
  exact State.conclude_setGr hb _ rfl _ _

theorem State.rwait_idles (hb : s.boundary (.core c) = none) (hq : s.inFlightOf c = false) (d a : Fin 32) (h : s.attention c = none) :
    exec (.rwait (.core c) d a) s = .next ((s.setEngine c { s.engine c with
      wait := .ring d (if (s.gr c a).toNat = 0 then none else some (s.time.pix + 1200 * (s.gr c a).toNat)) }).put (F.CORE_STATE c) 2) := by
  refine congrArg Host.Outcome.next ?_
  rw [State.issue_of_boundary hb rfl rfl (by simp)]
  dsimp only
  rw [State.afterFence_idle _ hq]
  simp only [Eng.key, h, Nat.mul_comm 1200, show clkUs = 1200 from rfl]
  generalize hw : Wait.ring d.val _ = w
  exact State.settleEng_idle (t := (s.setEngine c { s.engine c with wait := w }).put (F.CORE_STATE c) 2) hb
    (by rw [State.put_engine, show Eng.key (.core c) = c.val from rfl, State.engine_setEngine_same])

section
variable {r : Nat} {timeout : Option Nat} (hw : (s.engine c).wait = .ring r timeout)
include hw

theorem State.rwaitEnds_attention {g : Nat} (hg : s.attention c = some g) : s.rwaitEnds c = (s.finishWait c r g).put (F.CORE_STATE c) 1 := by
  simp only [State.rwaitEnds, hw, hg]

theorem State.rwaitEnds_timeout {z : Nat} (hn : s.attention c = none) (hz : timeout = some z) (hle : z ≤ s.time.pix) :
    s.rwaitEnds c = (s.finishWait c r (2 ^ 64 - 1)).put (F.CORE_STATE c) 1 := by
  subst hz
  simp only [State.rwaitEnds, hw, hn, hle, if_true, allOnes]

theorem State.rwaitEnds_waits (hn : s.attention c = none) (hlt : ∀ z, timeout = some z → s.time.pix < z) : s.rwaitEnds c = s := by
  cases timeout with
  | none => simp only [State.rwaitEnds, hw, hn]
  | some z => simp only [State.rwaitEnds, hw, hn, if_neg (Nat.not_le.2 (hlt z rfl))]

end

/-- What the end of a `rwait` leaves. -/
theorem State.rwaitEnds_done (u : State) (c : Fin 16) (d v : Nat) :
    let t := (u.finishWait c d v).put (F.CORE_STATE c) 1
    t.get (F.CORE_STATE c) = 1 ∧ (t.engine c).wait = .none ∧ (t.engine c).pc = ((u.engine c).pc + 4) % 2 ^ 40 ∧
      (d ≠ 0 → t.gr c d = BitVec.ofNat 64 v) ∧ (∀ j, j ≠ d → t.gr c j = u.gr c j) ∧ SameBytes u t := by
  obtain ⟨hsame, hother⟩ := u.finishWait_gr c d v
  exact ⟨State.coreState_put _ c (by decide), by simp [State.finishWait_engine], by simp [State.finishWait_engine], hsame, hother,
    fun _ => ⟨rfl, rfl, rfl⟩⟩

end

/-! ### The raster group on a core (R184 to R186, R190 to R196) -/

theorem State.timeReached_iff (s : State) {a : Nat} : s.timeReached a = true ↔ (s.time64 + 2 ^ 64 - a) % 2 ^ 64 < 2 ^ 63 := by
  have hlt := Nat.mod_lt (s.time64 + 2 ^ 64 - a) (show 0 < 2 ^ 64 by decide)
  rw [State.timeReached, decide_eq_true_iff, sint]
  split <;> omega

theorem State.tgtHead_core (s : State) (c : Fin 16) (b : Fin 32) : s.tgtHead (.core c) b = (s.gr c b).toNat % 64 := by
  simp [State.tgtHead, bits]

section
variable {s : State} {c : Fin 16} (hb : s.boundary (.core c) = none) (d b : Fin 32) (w : Nat)
include hb

/-- An instruction that names an absent head logs class 0x4D and writes all ones (R185). -/
theorem State.withHead_absent {f : State → Act} (hh : s.hasHead ((s.gr c b).toNat % 64) = false) :
    s.issue (.core c) w .both false (fun s => s.withHead (.core c) d (s.tgtHead (.core c) b) (f s)) =
      (s.rasterAbsent (s.rasterAt (.core c)) ((s.gr c b).toNat % 64) 0).wrote (.core c) d (BitVec.ofNat 64 (2 ^ 64 - 1)) := by
  rw [State.issue_of_boundary hb rfl rfl (by simp)]
  simp only [State.tgtHead_core, State.withHead, hh, Bool.not_false, if_true]
  exact State.conclude_setGr hb _ (congrArg Engine.halting ((State.raise_logOnly ..).engine _)) _ _

theorem State.withHead_barred {f : State → Act} (hh : s.hasHead ((s.gr c b).toNat % 64) = true)
    (hbar : s.headBarred (.core c) ((s.gr c b).toNat % 64) = true) :
    s.issue (.core c) w .both false (fun s => s.withHead (.core c) d (s.tgtHead (.core c) b) (f s)) = s.raiseCause (.core c) 2 none w := by
  rw [State.issue_of_boundary hb rfl rfl (by simp)]
  simp only [State.tgtHead_core, State.withHead, hh, hbar, Bool.not_true, Bool.false_eq_true, if_false, if_true]
  exact State.conclude_cause hb _ rfl _ _

theorem State.withHead_acts {f : State → Act} (hh : s.hasHead ((s.gr c b).toNat % 64) = true)
    (hbar : s.headBarred (.core c) ((s.gr c b).toNat % 64) = false) :
    s.issue (.core c) w .both false (fun s => s.withHead (.core c) d (s.tgtHead (.core c) b) (f s)) = State.conclude (.core c) w (f s) := by
  rw [State.issue_of_boundary hb rfl rfl (by simp)]
  simp only [State.tgtHead_core, State.withHead, hh, hbar, Bool.not_true, Bool.false_eq_true, if_false]

omit w in
theorem State.stamp_done (hh : s.hasHead ((s.gr c b).toNat % 64) = true) (hbar : s.headBarred (.core c) ((s.gr c b).toNat % 64) = false) :
    exec (.stamp (.core c) d b) s =
      .next (s.wrote (.core c) d (BitVec.ofNat 64 (s.pos ((s.gr c b).toNat % 64) + 2 ^ 32 * (s.time64 / 1000 % 2 ^ 32)))) := by
  refine congrArg Host.Outcome.next ((State.withHead_acts hb d b _ hh hbar).trans ?_)
  rw [State.tgtHead_core]
  exact State.conclude_setGr hb _ rfl _ _

omit b in
/-- A wait of a core whose condition holds already, or which begins. -/
theorem State.conclude_waitAct (o : Option Nat) (wt : Wait) :
    State.conclude (.core c) w (s.waitAct (.core c) d (o.map (fun v => (s, v))) wt) =
      o.elim (s.setEngine c { s.engine c with wait := wt }) (fun v => s.wrote (.core c) d (BitVec.ofNat 64 v)) := by
  cases o with
  | none => exact State.conclude_waits hb rfl _ _
  | some v => exact State.conclude_setGr hb _ rfl _ _

omit w in
theorem State.wline_core (a : Fin 32) (hh : s.hasHead ((s.gr c b).toNat % 64) = true)
    (hbar : s.headBarred (.core c) ((s.gr c b).toNat % 64) = false) : exec (.wline (.core c) d a b) s = .next
      (if s.lineReached ((s.gr c b).toNat % 64) (s.gr c a).toNat then s.wrote (.core c) d (BitVec.ofNat 64 (s.pos ((s.gr c b).toNat % 64)))
        else s.setEngine c { s.engine c with wait := .line d ((s.gr c b).toNat % 64) ((s.gr c a).toNat % 2 ^ 32) }) := by
  refine congrArg Host.Outcome.next ((State.withHead_acts hb d b _ hh hbar).trans ?_)
  rw [State.tgtHead_core, show Eng.key (.core c) = c from rfl, State.wlineAct]
  by_cases hr : s.lineReached ((s.gr c b).toNat % 64) (s.gr c a).toNat = true
  · rw [if_pos hr]
    simp only [State.countAct, if_pos hr]
    exact State.conclude_waitAct hb d _ (some _) _
  · rw [if_neg hr]
    simp only [State.countAct, if_neg hr]
    exact State.conclude_waitAct hb d _ none _

omit w in
theorem State.wframe_core (a : Fin 32) (hh : s.hasHead ((s.gr c b).toNat % 64) = true)
    (hbar : s.headBarred (.core c) ((s.gr c b).toNat % 64) = false) : exec (.wframe (.core c) d a b) s = .next
      (s.setEngine c { s.engine c with wait := .frame d ((s.gr c b).toNat % 64) (max 1 ((s.gr c a).toNat % 256)) 0 s.time.pix }) := by
  refine congrArg Host.Outcome.next ((State.withHead_acts hb d b _ hh hbar).trans ?_)
  rw [State.tgtHead_core, show Eng.key (.core c) = c from rfl,
    show bits (s.gr c a).toNat 0 8 = (s.gr c a).toNat % 256 by simp [bits]]
  exact State.conclude_waitAct hb d _ none _

omit w in
theorem State.wtime_core (a : Fin 32) : exec (.wtime (.core c) d a) s = .next
      (if s.timeReached (s.gr c a).toNat then s.wrote (.core c) d (BitVec.ofNat 64 s.time64)
        else s.setEngine c { s.engine c with wait := .time d (s.gr c a).toNat }) := by
  refine congrArg Host.Outcome.next ?_
  rw [State.issue_of_boundary hb rfl rfl (by simp)]
  simp only [show Eng.key (.core c) = c from rfl, State.countAct]
  by_cases hr : s.timeReached (s.gr c a).toNat = true
  · rw [if_pos hr, if_pos hr]
    exact State.conclude_waitAct hb d _ (some _) _
  · rw [if_neg hr, if_neg hr]
    exact State.conclude_waitAct hb d _ none _

end

/-! ### Waits that end (R190 to R194) -/

section
variable {s : State} {c : Fin 16}

theorem State.waitEnds_line {d h target : Nat} (hw : (s.engine c).wait = .line d h target) :
    s.waitEnds (.core c) = if s.lineReached h target then s.finishWait c d (s.pos h) else s := by
  simp only [State.waitEnds, Eng.key, hw, State.endWait_core]

theorem State.waitEnds_frame {d h n fs a : Nat} (hw : (s.engine c).wait = .frame d h n fs a) :
    s.waitEnds (.core c) = if n = 0 then s.finishWait c d fs else s := by
  cases n <;> simp [State.waitEnds, Eng.key, hw, State.endWait_core]

theorem State.waitEnds_time {d a : Nat} (hw : (s.engine c).wait = .time d a) :
    s.waitEnds (.core c) = if s.timeReached a then s.finishWait c d s.time64 else s := by
  simp only [State.waitEnds, Eng.key, hw, State.endWait_core]

end

/-- Settles O16: each wait by whether its condition holds at its arrival, and its end by whether it holds then. -/
theorem waitForAttention : Obligations.WaitForAttention := by
  unfold Obligations.WaitForAttention
  refine ⟨fun c d a time s => ?_, fun c d a b time s => ?_⟩
  · intro e x us u ends
    refine ⟨fun hb hq => ⟨fun r hr => State.rwait_attention hb hq d a hr, fun hn => ?_⟩, fun r to_ hw => ?_⟩
    · refine ⟨_, State.rwait_idles hb hq d a hn, State.coreState_put _ c (by decide), ?_, ?_, fun r => ?_⟩
      · simp [x]
      · simp [us]
      · simp [State.gr]
    · have hends {v : Nat} (hv : u.rwaitEnds c = (u.finishWait c r v).put (F.CORE_STATE c) 1) : ends r (BitVec.ofNat 64 v) :=
        ⟨_, congrArg Host.Outcome.next hv, u.rwaitEnds_done c r v⟩
      have hwu : (u.engine c).wait = .ring r to_ := hw
      refine ⟨fun g hg => hends ?_, fun hn z hz hle => hends ?_, fun hn hlt => congrArg Host.Outcome.next ?_⟩
      · exact State.rwaitEnds_attention hwu hg
      · exact State.rwaitEnds_timeout hwu hn hz hle
      · exact State.rwaitEnds_waits hwu hn hlt
  · intro e x u y h reached past waits ends
    have hline (z : State) (k m : Nat) : z.lineReached k m = true ↔ reached z k m := decide_eq_true_iff
    refine ⟨fun hb => ⟨fun hh => ?_, fun hh hbar => ?_, fun hh hbar => ⟨?_, fun hr => ?_, fun hr => ?_, ?_⟩, fun hp => ?_, fun hp => ?_⟩,
      fun r k m hw => ⟨fun hr => ?_, fun hr => ?_⟩, fun r k n f at_ hw => ⟨fun hn => ?_, fun hn => ?_⟩, fun r m hm hw => ⟨fun hp => ?_, fun hp => ?_⟩⟩
    · have habsent {i : Instr} {w : Nat} {f : State → Act}
          (hi : exec i s = .next (s.issue e w .both false (fun s => s.withHead e d (s.tgtHead e b) (f s)))) : Reaches i s (fun t =>
            (d ≠ 0 → t.gr c d = BitVec.ofNat 64 (2 ^ 64 - 1)) ∧ (∀ r, r ≠ d.val → t.gr c r = s.gr c r) ∧ ∃ r ∈ t.log.recent.head?, r.cls = 0x4D) := by
        have heng : (s.rasterAbsent (s.rasterAt e) h 0).eng = s.eng := (State.raise_logOnly ..).eng
        obtain ⟨hd, hr⟩ := State.wrote_gr_of_eng (c := c) (d := d) (v := BitVec.ofNat 64 (2 ^ 64 - 1)) heng
        obtain ⟨r, hrec, hcls, -⟩ := s.raise_newest 0x4D (s.rasterAt e) 0 (rasterDet h 0 0 0) none
        exact ⟨_, hi.trans (congrArg Host.Outcome.next (State.withHead_absent hb d b w hh)), hd, hr, r, hrec, hcls⟩
      intro i hi
      simp only [List.mem_cons, List.not_mem_nil, or_false] at hi
      rcases hi with rfl | rfl | rfl
      · exact habsent rfl
      · exact habsent rfl
      · exact habsent rfl
    · have hbarred {i : Instr} {w : Nat} {f : State → Act}
          (hi : exec i s = .next (s.issue e w .both false (fun s => s.withHead e d (s.tgtHead e b) (f s)))) :
          ∃ w, exec i s = .next (s.raiseCause e 2 none w) :=
        ⟨w, hi.trans (congrArg Host.Outcome.next (State.withHead_barred hb d b w hh hbar))⟩
      intro i hi
      simp only [List.mem_cons, List.not_mem_nil, or_false] at hi
      rcases hi with rfl | rfl | rfl
      · exact hbarred rfl
      · exact hbarred rfl
      · exact hbarred rfl
    · exact State.stamp_done hb d b hh hbar
    · exact (State.wline_core hb d b a hh hbar).trans (congrArg Host.Outcome.next (if_pos ((hline s h y).2 hr)))
    · exact (State.wline_core hb d b a hh hbar).trans (congrArg Host.Outcome.next (if_neg ((hline s h y).not.2 hr)))
    · exact State.wframe_core hb d b a hh hbar
    · exact (State.wtime_core hb d a).trans (congrArg Host.Outcome.next (if_pos (s.timeReached_iff.2 hp)))
    · exact (State.wtime_core hb d a).trans (congrArg Host.Outcome.next (if_neg (s.timeReached_iff.not.2 hp)))
    · exact congrArg Host.Outcome.next ((State.waitEnds_line (s := u) hw).trans (if_pos ((hline u k m).2 hr)))
    · exact congrArg Host.Outcome.next ((State.waitEnds_line (s := u) hw).trans (if_neg ((hline u k m).not.2 hr)))
    · exact congrArg Host.Outcome.next ((State.waitEnds_frame (s := u) hw).trans (if_pos hn))
    · exact congrArg Host.Outcome.next ((State.waitEnds_frame (s := u) hw).trans (if_neg hn))
    · exact congrArg Host.Outcome.next ((State.waitEnds_time (s := u) hw).trans (if_pos (u.timeReached_iff.2 hp)))
    · exact congrArg Host.Outcome.next ((State.waitEnds_time (s := u) hw).trans (if_neg (u.timeReached_iff.not.2 hp)))

end Sys2Proof.Machine
end

section
/-! Ring registers and the attention of a ring (O20; R162, R467, R470, R471). -/
namespace Sys2Proof.Machine

/-! ### Bits of a number of which one bit has been made `b` -/

theorem bitAt_eq_testBit (n i : Nat) : bitAt n i = n.testBit i := by
  rw [bitAt, Nat.testBit_eq_decide_div_mod_eq]

/-- A bit of which its number's other bits do not depend on. -/
theorem bitAt_add_two_pow_ne {n i j : Nat} (hc : bitAt n i = false) (h : j ≠ i) : bitAt (n + 2 ^ i) j = bitAt n j := by
  have hlow : (n + 2 ^ i) % 2 ^ i = n % 2 ^ i := Nat.add_mod_right ..
  have hhigh : (n + 2 ^ i) / 2 ^ (i + 1) = n / 2 ^ (i + 1) := by
    have hdiv : (n + 2 ^ i) / 2 ^ i = n / 2 ^ i + 1 := Nat.add_div_right _ (Nat.two_pow_pos i)
    simp only [bitAt, decide_eq_false_iff_not] at hc
    rw [Nat.pow_succ, ← Nat.div_div_eq_div_mul, ← Nat.div_div_eq_div_mul, hdiv]
    omega
  simp only [bitAt_eq_testBit]
  rcases Nat.lt_or_gt_of_ne h with hlt | hgt
  · have hb : ((n + 2 ^ i) % 2 ^ i).testBit j = (n % 2 ^ i).testBit j := by rw [hlow]
    rwa [Nat.testBit_mod_two_pow, Nat.testBit_mod_two_pow, decide_eq_true hlt, Bool.true_and, Bool.true_and] at hb
  · have hb := congrArg (Nat.testBit · (j - (i + 1))) hhigh
    simpa [Nat.testBit_div_two_pow, show i + 1 + (j - (i + 1)) = j by omega, show j - (i + 1) + (i + 1) = j by omega] using hb

theorem bitAt_add_two_pow_same {n i : Nat} (hc : bitAt n i = false) : bitAt (n + 2 ^ i) i = true := by
  have hdiv : (n + 2 ^ i) / 2 ^ i = n / 2 ^ i + 1 := Nat.add_div_right _ (Nat.two_pow_pos i)
  simp only [bitAt, hdiv, decide_eq_false_iff_not, decide_eq_true_eq] at *
  omega

/-- A set bit taken out of a number. -/
theorem exists_of_bitAt {n i : Nat} (h : bitAt n i = true) : ∃ m, n = m + 2 ^ i ∧ bitAt m i = false := by
  simp only [bitAt, decide_eq_true_eq] at h
  have hle : 2 ^ i ≤ n := by
    by_contra hlt
    rw [Nat.div_eq_of_lt (by omega)] at h
    omega
  refine ⟨n - 2 ^ i, by omega, ?_⟩
  have hdiv : (n - 2 ^ i + 2 ^ i) / 2 ^ i = (n - 2 ^ i) / 2 ^ i + 1 := Nat.add_div_right _ (Nat.two_pow_pos i)
  rw [Nat.sub_add_cancel hle] at hdiv
  simp only [bitAt, decide_eq_false_iff_not]
  omega

theorem bitAt_setBit (n i : Nat) (b : Bool) : bitAt (setBit n i b) i = b := by
  unfold setBit
  split
  · assumption
  · next h =>
    cases b with
    | true => simpa using bitAt_add_two_pow_same (Bool.eq_false_iff.2 h)
    | false =>
      obtain ⟨m, rfl, hm⟩ := exists_of_bitAt (Bool.eq_true_of_not_eq_false h)
      simpa using hm

theorem bitAt_setBit_ne (n : Nat) {i j : Nat} (b : Bool) (h : j ≠ i) : bitAt (setBit n i b) j = bitAt n j := by
  unfold setBit
  split
  · rfl
  · next hb =>
    cases b with
    | true => simpa using bitAt_add_two_pow_ne (Bool.eq_false_iff.2 hb) h
    | false =>
      obtain ⟨m, rfl, hm⟩ := exists_of_bitAt (Bool.eq_true_of_not_eq_false hb)
      simpa using (bitAt_add_two_pow_ne hm h).symm

theorem State.bit_putBit (s : State) (f : Fld) {i : Nat} (b : Bool) (hi : i < f.w) (h : f.lo + f.w ≤ 32) : (s.putBit f i b).bit f i = b := by
  unfold State.bit State.putBit
  rw [State.get_put_same _ _ _ h, bitAt_mod hi, bitAt_setBit]

theorem State.bit_putBit_ne (s : State) (f : Fld) {i j : Nat} (b : Bool) (hj : j < f.w) (h : f.lo + f.w ≤ 32) (hne : j ≠ i) :
    (s.putBit f i b).bit f j = s.bit f j := by
  unfold State.bit State.putBit
  rw [State.get_put_same _ _ _ h, bitAt_mod hj, bitAt_setBit_ne _ _ hne]

/-! ### The attention condition (R471) -/

/-- The router's view of a ring while nothing empties it: the entries have waited since `since`. -/
theorem State.ringUpdate_rose {s : State} {k since : Nat} (h : tabGet? s.rose k = some since) :
    ∃ o, s.ringUpdate k = { s with rose := o }.putBit (F.RINGS_ATTN_STATE (k / 32)) (k % 32) ({ s with rose := o }.ringCond k) ∧
      (s.ringFill k ≠ 0 → o = s.rose) := by
  unfold State.ringUpdate
  by_cases hf : s.ringFill k = 0
  · exact ⟨tabErase s.rose k, by simp only [hf, if_true], fun h0 => absurd hf h0⟩
  · exact ⟨s.rose, by simp only [hf, if_false, h], fun _ => rfl⟩

theorem State.ringAged_iff {s : State} {k since : Nat} (h : tabGet? s.rose k = some since) : s.ringAged k = true ↔
    s.get (F.RINGS_ATTN_AGE k) ≠ 0 ∧ since + s.get (F.RINGS_ATTN_AGE k) * 120000 ≤ s.time.pix := by
  simp [State.ringAged, h, clkUs, Nat.mul_assoc]

/-- The attention condition by the mode of the ring. -/
theorem State.ringCond_iff {s : State} {o : Tab Nat} {k since : Nat} (h : tabGet? s.rose k = some since) (ho : s.ringFill k ≠ 0 → o = s.rose) :
    { s with rose := o }.ringCond k = true ↔
      (s.get (F.RINGS_ATTN_AMODE k) = 1 ∧ s.ringFill k ≠ 0 ∧ (s.get (F.RINGS_THRESH k) ≤ s.ringFill k ∨
        (s.get (F.RINGS_ATTN_AGE k) ≠ 0 ∧ since + s.get (F.RINGS_ATTN_AGE k) * 120000 ≤ s.time.pix))) ∨
      (s.get (F.RINGS_ATTN_AMODE k) = 2 ∧ max 1 (s.get (F.RINGS_THRESH k)) ≤ s.ringN k - s.ringFill k) := by
  have haged : s.ringFill k ≠ 0 → { s with rose := o }.ringAged k = s.ringAged k := fun hf => by rw [ho hf]
  have hfill : { s with rose := o }.ringFill k = s.ringFill k := rfl
  have hget (f : Fld) : { s with rose := o }.get f = s.get f := rfl
  have hn : { s with rose := o }.ringN k = s.ringN k := rfl
  unfold State.ringCond
  simp only [hfill, hget, hn]
  split
  · next hm =>
    simp only [hm, Bool.or_eq_true, Bool.and_eq_true, decide_eq_true_eq, bne_iff_ne, true_and]
    by_cases hf : s.ringFill k = 0
    · simp [hf]
    · rw [haged hf, State.ringAged_iff h]
      have hmax : max 1 (s.get (F.RINGS_THRESH k)) ≤ s.ringFill k ↔ s.get (F.RINGS_THRESH k) ≤ s.ringFill k := by omega
      simp [hf, hmax]
  · next hm => simp [hm]
  · next h1 h2 => simp [show s.get (F.RINGS_ATTN_AMODE k) ≠ 1 from h1, show s.get (F.RINGS_ATTN_AMODE k) ≠ 2 from h2]

/-! ### CFG (R470) -/

theorem ringsCfg_key {k : Nat} (hk : k < 128) : isCtxOwn (F.RINGS_CFG_EN k).key = false ∧ (F.RINGS_CFG_EN k).key / 0x100000 ≠ 21 ∧
    (F.RINGS_CFG_EN k).key ≠ (F.RINGS_PUT k).key ∧ (F.RINGS_CFG_EN k).key ≠ (F.RINGS_GET k).key ∧
    (F.RINGS_CFG_EN k).key ≠ (F.RINGS_ATTN_STATE (k / 32)).key := by
  refine ⟨isCtxOwn_above ?_, ?_⟩ <;> simp only [F.RINGS_CFG_EN, F.RINGS_PUT, F.RINGS_GET, F.RINGS_ATTN_STATE] <;> omega

/-- LOG2N, ESIZE and the modes of ring `k` as a write of CFG to a disabled ring takes them. -/
def State.ringCfgTaken (s : State) (k : Nat) (v : Word) : State :=
  (((s.put (F.RINGS_CFG_LOG2N k) (bits v.toNat 0 5)).put (F.RINGS_CFG_ESIZE k) (bits v.toNat 5 3)).putB (F.RINGS_CFG_PMODE k) (bitAt v.toNat 8)).putB
    (F.RINGS_CFG_CMODE k) (bitAt v.toNat 9)

theorem State.ringCfgTaken_log2n (s : State) (k : Nat) (v : Word) : (s.ringCfgTaken k v).get (F.RINGS_CFG_LOG2N k) = v.toNat % 32 := by
  unfold State.ringCfgTaken State.putB
  rw [State.get_put_disj _ (F.RINGS_CFG_CMODE k) (F.RINGS_CFG_LOG2N k) _ (by simp [F.RINGS_CFG_CMODE]) rfl (by simp [F.RINGS_CFG_CMODE, F.RINGS_CFG_LOG2N]),
    State.get_put_disj _ (F.RINGS_CFG_PMODE k) (F.RINGS_CFG_LOG2N k) _ (by simp [F.RINGS_CFG_PMODE]) rfl (by simp [F.RINGS_CFG_PMODE, F.RINGS_CFG_LOG2N]),
    State.get_put_disj _ (F.RINGS_CFG_ESIZE k) (F.RINGS_CFG_LOG2N k) _ (by simp [F.RINGS_CFG_ESIZE]) rfl (by simp [F.RINGS_CFG_ESIZE, F.RINGS_CFG_LOG2N]),
    State.get_put_same _ _ _ (by simp [F.RINGS_CFG_LOG2N])]
  simp [bits, F.RINGS_CFG_LOG2N]

theorem State.ringCfgTaken_esize (s : State) (k : Nat) (v : Word) : (s.ringCfgTaken k v).get (F.RINGS_CFG_ESIZE k) = v.toNat / 32 % 8 := by
  unfold State.ringCfgTaken State.putB
  rw [State.get_put_disj _ (F.RINGS_CFG_CMODE k) (F.RINGS_CFG_ESIZE k) _ (by simp [F.RINGS_CFG_CMODE]) rfl (by simp [F.RINGS_CFG_CMODE, F.RINGS_CFG_ESIZE]),
    State.get_put_disj _ (F.RINGS_CFG_PMODE k) (F.RINGS_CFG_ESIZE k) _ (by simp [F.RINGS_CFG_PMODE]) rfl (by simp [F.RINGS_CFG_PMODE, F.RINGS_CFG_ESIZE]),
    State.get_put_same _ _ _ (by simp [F.RINGS_CFG_ESIZE])]
  simp [bits, F.RINGS_CFG_ESIZE]

theorem State.ringCfgTaken_get (s : State) {k : Nat} (v : Word) {f : Fld} (hf : f.key ≠ (F.RINGS_CFG_EN k).key) (hc : isCtxOwn f.key = false) :
    (s.ringCfgTaken k v).get f = s.get f := by
  unfold State.ringCfgTaken State.putB
  rw [State.get_put_ne _ (F.RINGS_CFG_CMODE k) _ _ hf hc, State.get_put_ne _ (F.RINGS_CFG_PMODE k) _ _ hf hc,
    State.get_put_ne _ (F.RINGS_CFG_ESIZE k) _ _ hf hc, State.get_put_ne _ (F.RINGS_CFG_LOG2N k) _ _ hf hc]

/-- What an enable leaves behind its record: the indices cleared, and EN as the checks say. -/
def State.ringCfgEnabled (s : State) (k : Nat) : State :=
  ((s.put (F.RINGS_PUT k) 0).put (F.RINGS_GET k) 0).putB (F.RINGS_CFG_EN k) (s.ringCode k = 0)

theorem State.wrRingCfg_enable {s : State} {k : Nat} {v : Word} (hv : bitAt v.toNat 12 = true) (he : s.on (F.RINGS_CFG_EN k) = false) :
    s.wrRingCfg k v = (if (s.ringCfgTaken k v).ringCode k = 0 then (s.ringCfgTaken k v).ringCfgEnabled k
      else ((s.ringCfgTaken k v).ringCfgEnabled k).raise 0x0A 0 0 (k + 0x100 * (s.ringCfgTaken k v).ringCode k)).ringUpdate k := by
  simp only [State.wrRingCfg, hv, he, Bool.not_true, Bool.false_eq_true, if_false]
  rfl

theorem State.wrRingCfg_disable {s : State} {k : Nat} {v : Word} (hv : bitAt v.toNat 12 = false) :
    s.wrRingCfg k v = ((if s.on (F.RINGS_CFG_EN k) then s else s.ringCfgTaken k v).putB (F.RINGS_CFG_EN k) false).ringUpdate k := by
  simp only [State.wrRingCfg, hv, Bool.not_false, if_true]
  rfl

/-- The code of an enable of a ring by its LOG2N, its ESIZE and its memory. -/
theorem State.ringCode_log2n {s : State} {k : Nat} (h : s.get (F.RINGS_CFG_LOG2N k) = 0 ∨ 16 < s.get (F.RINGS_CFG_LOG2N k)) : s.ringCode k = 1 := by
  simp [State.ringCode, h]

theorem State.ringCode_esize {s : State} {k : Nat} (h1 : 1 ≤ s.get (F.RINGS_CFG_LOG2N k)) (h16 : s.get (F.RINGS_CFG_LOG2N k) ≤ 16)
    (h : 4 < s.get (F.RINGS_CFG_ESIZE k)) : s.ringCode k = 2 := by
  have hl : (s.get (F.RINGS_CFG_LOG2N k) = 0 || 16 < s.get (F.RINGS_CFG_LOG2N k)) = false := by simp; omega
  simp [State.ringCode, hl, h]

theorem State.ringCode_dram {s : State} {k : Nat} (h1 : 1 ≤ s.get (F.RINGS_CFG_LOG2N k)) (h16 : s.get (F.RINGS_CFG_LOG2N k) ≤ 16)
    (h4 : s.get (F.RINGS_CFG_ESIZE k) ≤ 4) (hm : s.get (F.RINGS_BASE k) * 256 + s.ringN k * s.ringSize k ≤ s.dramEnd) : s.ringCode k = 0 := by
  have hl : (s.get (F.RINGS_CFG_LOG2N k) = 0 || 16 < s.get (F.RINGS_CFG_LOG2N k)) = false := by simp; omega
  simp [State.ringCode, hl, Nat.not_lt.2 h4, State.ringMemOk, hm]

section
variable {s : State} {k : Nat} (hk : k < 128)
include hk

theorem State.ringCfgEnabled_put : (s.ringCfgEnabled k).get (F.RINGS_PUT k) = 0 := by
  obtain ⟨hc, -, hput, -, -⟩ := ringsCfg_key hk
  unfold State.ringCfgEnabled State.putB
  rw [State.get_put_ne _ _ _ _ hput.symm (ringsPut_key hk).2, State.get_put_ne _ _ _ _ (by simp [F.RINGS_PUT, F.RINGS_GET]) (ringsPut_key hk).2,
    State.get_put_same _ _ _ (by simp [F.RINGS_PUT]), Nat.zero_mod]

theorem State.ringCfgEnabled_take : (s.ringCfgEnabled k).get (F.RINGS_GET k) = 0 := by
  obtain ⟨hc, -, -, hget, -⟩ := ringsCfg_key hk
  unfold State.ringCfgEnabled State.putB
  rw [State.get_put_ne _ _ _ _ hget.symm (ringsGet_key hk).2, State.get_put_same _ _ _ (by simp [F.RINGS_GET]), Nat.zero_mod]

/-- The fields of CFG below EN. -/
theorem State.ringCfgEnabled_cfg {f : Fld} (hf : f.key = (F.RINGS_CFG_EN k).key) (hw : f.lo + f.w ≤ 12) : (s.ringCfgEnabled k).get f = s.get f := by
  obtain ⟨hc, -, hput, hget, -⟩ := ringsCfg_key hk
  unfold State.ringCfgEnabled State.putB
  rw [State.get_put_disj _ _ _ _ (by simp [F.RINGS_CFG_EN]) hf (.inr hw), State.get_put_ne _ _ _ _ (hf ▸ hget) (hf ▸ hc),
    State.get_put_ne _ _ _ _ (hf ▸ hput) (hf ▸ hc)]

omit hk in
theorem State.ringCfgEnabled_on : (s.ringCfgEnabled k).on (F.RINGS_CFG_EN k) = decide (s.ringCode k = 0) :=
  State.on_putB_same _ _ _ rfl (by simp [F.RINGS_CFG_EN])

end

theorem State.on_ringUpdate (s : State) {k : Nat} (hk : k < 128) : (s.ringUpdate k).on (F.RINGS_CFG_EN k) = s.on (F.RINGS_CFG_EN k) := by
  obtain ⟨hc, -, -, -, hatt⟩ := ringsCfg_key hk
  exact State.on_of_get (State.ringUpdate_get _ _ hatt hc)

/-- An enable of a disabled ring, by the code of its checks. -/
theorem State.wrRingCfg_enabled {s : State} {k : Nat} {v : Word} (hk : k < 128) (hv : bitAt v.toNat 12 = true) (he : s.on (F.RINGS_CFG_EN k) = false) :
    let t := s.wrRingCfg k v
    let code := (s.ringCfgTaken k v).ringCode k
    t.get (F.RINGS_PUT k) = 0 ∧ t.get (F.RINGS_GET k) = 0 ∧ t.get (F.RINGS_CFG_LOG2N k) = v.toNat % 32 ∧
      t.get (F.RINGS_CFG_ESIZE k) = v.toNat / 32 % 8 ∧ (code = 0 → t.on (F.RINGS_CFG_EN k) = true ∧ t.log = s.log) ∧
      (code ≠ 0 → t.on (F.RINGS_CFG_EN k) = false ∧ ∃ r ∈ t.log.recent.head?, r.cls = 0x0A ∧ r.detail = k + 0x100 * code) ∧ t.eng = s.eng := by
  intro t code
  let y := (s.ringCfgTaken k v).ringCfgEnabled k
  let z := if code = 0 then y else y.raise 0x0A 0 0 (k + 0x100 * code)
  have ht : t = z.ringUpdate k := State.wrRingCfg_enable hv he
  have hz : LogOnly y z := by
    simp only [z]
    split
    · exact .refl y
    · exact State.raise_logOnly ..
  have hon : t.on (F.RINGS_CFG_EN k) = decide (code = 0) := by
    obtain ⟨hc, h21, -⟩ := ringsCfg_key hk
    rw [ht, State.on_ringUpdate z hk, State.on_of_get (hz.get _ h21 hc)]
    exact State.ringCfgEnabled_on
  have hget {f : Fld} (h21 : f.key / 0x100000 ≠ 21) (hatt : f.key ≠ (F.RINGS_ATTN_STATE (k / 32)).key) (hc : isCtxOwn f.key = false) : t.get f = y.get f := by
    rw [ht, State.ringUpdate_get _ _ hatt hc, hz.get f h21 hc]
  obtain ⟨hc, h21, -, -, hatt⟩ := ringsCfg_key hk
  refine ⟨?_, ?_, ?_, ?_, fun h0 => ⟨?_, ?_⟩, fun h0 => ⟨?_, ?_⟩, ?_⟩
  · rw [hget (by simp only [F.RINGS_PUT]; omega) (ringsPut_key hk).1 (ringsPut_key hk).2]
    exact State.ringCfgEnabled_put hk
  · rw [hget (by simp only [F.RINGS_GET]; omega) (ringsGet_key hk).1 (ringsGet_key hk).2]
    exact State.ringCfgEnabled_take hk
  · exact (hget (f := F.RINGS_CFG_LOG2N k) h21 hatt hc).trans ((State.ringCfgEnabled_cfg (f := F.RINGS_CFG_LOG2N k) hk rfl (by simp [F.RINGS_CFG_LOG2N])).trans (s.ringCfgTaken_log2n k v))
  · exact (hget (f := F.RINGS_CFG_ESIZE k) h21 hatt hc).trans ((State.ringCfgEnabled_cfg (f := F.RINGS_CFG_ESIZE k) hk rfl (by simp [F.RINGS_CFG_ESIZE])).trans (s.ringCfgTaken_esize k v))
  · rw [hon, decide_eq_true h0]
  · rw [ht, State.ringUpdate_log, show z = y from if_pos h0]
    rfl
  · rw [hon, decide_eq_false h0]
  · rw [ht, State.ringUpdate_log, show z = _ from if_neg h0]
    obtain ⟨r, hr, hcls, -, -, hd⟩ := y.raise_newest 0x0A 0 0 (k + 0x100 * code) none
    exact ⟨r, hr, hcls, hd⟩
  · rw [ht, State.ringUpdate_eng, hz.eng]
    rfl

/-- Settles O20: an enable by the code of its checks, a disable by the one bit that it clears, and attention by the mode of the ring. -/
theorem ringEnableChecks : Obligations.RingEnableChecks := by
  unfold Obligations.RingEnableChecks
  refine ⟨fun i k v s hadm => ?_, fun k time since s hrose => ?_⟩
  · intro l e refused
    have hk := k.isLt
    obtain ⟨hc, h21, hput, hget, hatt⟩ := ringsCfg_key hk
    refine ⟨fun hv hen => ?_, fun hv => ?_⟩
    · obtain ⟨hp, hg, hl, he, hok, href, heng⟩ := State.wrRingCfg_enabled hk (bitAt_eq_true.2 hv) hen
      have hwl := s.ringCfgTaken_log2n k v
      have hwe := s.ringCfgTaken_esize k v
      have hbase : (s.ringCfgTaken k v).get (F.RINGS_BASE k) = s.get (F.RINGS_BASE k) :=
        State.ringCfgTaken_get _ _ (by simp [F.RINGS_BASE, F.RINGS_CFG_EN]) (isCtxOwn_above (by simp only [F.RINGS_BASE]; omega))
      refine ⟨_, congrArg Host.Outcome.next (State.asWrite_admitted v _ hadm), hp, hg, hl, he, fun h1 h16 h4 hm => hok ?_, fun hbad => ?_,
        fun h1 h16 h4 => ?_, heng, .of_mems (State.wrRingCfg_mems ..)⟩
      · refine State.ringCode_dram (by rw [hwl]; exact h1) (by rw [hwl]; exact h16) (by rw [hwe]; exact h4) ?_
        rw [State.ringN, State.ringSize, hwl, hwe, hbase]
        exact hm
      · have hcode := State.ringCode_log2n (s := s.ringCfgTaken k v) (k := k) (by rw [hwl]; exact hbad)
        have hr := href (by rw [hcode]; decide)
        rwa [hcode] at hr
      · have hcode := State.ringCode_esize (s := s.ringCfgTaken k v) (k := k) (by rw [hwl]; exact h1) (by rw [hwl]; exact h16) (by rw [hwe]; exact h4)
        have hr := href (by rw [hcode]; decide)
        rwa [hcode] at hr
    · have hoff : bitAt v.toNat 12 = false := Bool.eq_false_iff.2 fun h => by
        have := bitAt_eq_true.1 h
        omega
      let u := if s.on (F.RINGS_CFG_EN k) then s else s.ringCfgTaken k v
      have ht : s.wrRingCfg k v = (u.putB (F.RINGS_CFG_EN k) false).ringUpdate k := State.wrRingCfg_disable hoff
      have hu {f : Fld} (hf : f.key ≠ (F.RINGS_CFG_EN k).key) (hc : isCtxOwn f.key = false) : u.get f = s.get f := by
        simp only [u]
        split
        · rfl
        · exact s.ringCfgTaken_get v hf hc
      have hlog : u.log = s.log := by
        simp only [u]
        split <;> rfl
      refine ⟨_, congrArg Host.Outcome.next (State.asWrite_admitted v _ hadm), ?_, ?_, ?_, ?_, .of_mems (State.wrRingCfg_mems ..)⟩
      · rw [ht, State.on_ringUpdate _ hk]
        exact State.on_putB_same _ _ _ rfl (by simp [F.RINGS_CFG_EN])
      · rw [ht, State.ringUpdate_get _ _ (ringsPut_key hk).1 (ringsPut_key hk).2, State.putB,
          State.get_put_ne _ _ _ _ hput.symm (ringsPut_key hk).2, hu hput.symm (ringsPut_key hk).2]
      · rw [ht, State.ringUpdate_get _ _ (ringsGet_key hk).1 (ringsGet_key hk).2, State.putB,
          State.get_put_ne _ _ _ _ hget.symm (ringsGet_key hk).2, hu hget.symm (ringsGet_key hk).2]
      · rw [ht, State.ringUpdate_log]
        exact hlog
  · intro f mode th age
    have hk := k.isLt
    obtain ⟨o, hupd, ho⟩ := State.ringUpdate_rose (s := s.advance time) (k := k) hrose
    refine ⟨_, congrArg Host.Outcome.next hupd, ?_, fun j hj => ?_, .of_mems ?_⟩
    · rw [State.bit_putBit _ _ _ (by simp only [F.RINGS_ATTN_STATE]; omega) (by simp [F.RINGS_ATTN_STATE])]
      exact State.ringCond_iff (s := s.advance time) hrose ho
    · by_cases hw : j.val / 32 = k.val / 32
      · rw [hw]
        refine State.bit_putBit_ne _ _ _ (by simp only [F.RINGS_ATTN_STATE]; omega) (by simp [F.RINGS_ATTN_STATE]) fun hmod => hj (Fin.ext ?_)
        omega
      · refine congrArg (bitAt · (j.val % 32)) (State.get_put_ne _ _ _ _ ?_ (isCtxOwn_above ?_)) <;> simp only [F.RINGS_ATTN_STATE] <;> omega
    · rw [← hupd]
      exact State.ringUpdate_mems ..

end Sys2Proof.Machine
end

section
/-! The line sequencers: start, halt, budget, watchdog, local memory and `wline` (O26; R134, R183, R190 to R194, R213 to R224). -/
namespace Sys2Proof.Machine

/-! ### Registers of the SEQ block -/

/-- A register below the fault log and the contexts, as those of a line sequencer are. -/
theorem seqnKey_plain {k : Nat} (h : k < 0x700000) : k / 0x100000 ≠ 21 ∧ isCtxOwn k = false :=
  ⟨by omega, isCtxOwn_below (by omega)⟩

section
variable (s : State) (n : Fin 48)

/-- A field of a line sequencer that another register's write leaves. -/
theorem State.get_seqn_ne {f g : Fld} (v : Nat) (h : g.key ≠ f.key) (hg : g.key < 0x700000) : (s.put f v).get g = s.get g :=
  State.get_put_ne _ _ _ _ h (seqnKey_plain hg).2

theorem State.seqState_put {v : Nat} (hv : v < 8) : (s.put (F.SEQN_STATE n) v).get (F.SEQN_STATE n) = v := by
  rw [State.get_put_same _ _ _ (by simp [F.SEQN_STATE])]
  exact Nat.mod_eq_of_lt hv

theorem State.reg_seqn_ne {f : Fld} {k v : Nat} (h : k ≠ f.key) (hk : k < 0x700000) : (s.put f v).reg k = s.reg k :=
  State.reg_setReg_ne _ _ _ _ h (seqnKey_plain hk).2

/-- A counter that has not reached its end counts one more (R8). -/
theorem State.bump_reg {f : Fld} (h : (s.reg f.key).toNat < 2 ^ 31 - 1) : (s.bump f).reg f.key = s.reg f.key + 1 := by
  rw [State.bump, State.reg_setReg_same, if_neg (Nat.not_le.2 h)]
  exact BitVec.eq_of_toNat_eq (by simp [BitVec.toNat_add])

/-- The registers that tell the master of a head stand outside the SEQ block. -/
theorem State.master_put {f : Fld} (v h : Nat) (hh : h < 48) (hf : 0x600000 ≤ f.key) : (s.put f v).master h = s.master h := by
  refine State.master_of_reg (State.reg_setReg_ne _ _ _ _ ?_ (isCtxOwn_below ?_)) fun p hp => State.reg_setReg_ne _ _ _ _ ?_ (isCtxOwn_below ?_) <;>
    simp only [F.HEAD_GL_STATE_MEMBER, F.SPAN_STATUS_MASTER] <;> omega

/-- The position word of a head by its timebase, its master and the time (R89). -/
theorem State.pos_of_master {s t : State} {h : Nat} (htb : t.tbs = s.tbs) (ht : t.time = s.time) (hm : t.master h = s.master h) : t.pos h = s.pos h := by
  simp only [State.pos, State.frac, State.tb, htb, ht, hm]

theorem State.budgetOf_of_master {s t : State} {h : Nat} (htb : t.tbs = s.tbs) (ht : t.time = s.time) (he : t.eng = s.eng)
    (hm : t.master h = s.master h) : t.budgetOf h = s.budgetOf h := by
  unfold State.budgetOf State.engine State.tb
  rw [htb, ht, he, hm]

theorem State.gr_put (f : Fld) (v k r : Nat) : (s.put f v).gr k r = s.gr k r := rfl

end

/-! ### Start and halt (R213) -/

section
variable {s : State} {n : Fin 48}

/-- What a write of CTL takes before it starts or halts. -/
def State.seqCtlTaken (s : State) (n : Nat) (v : Word) : State :=
  (s.putB (F.SEQN_CTL_RUN n) (bitAt v.toNat 0)).putB (F.SEQN_CTL_BUDGET_STOP n) (bitAt v.toNat 1)

theorem State.seqCtlTaken_get (v : Word) {f : Fld} (h : f.key ≠ (F.SEQN_CTL_RUN n).key) (hf : f.key < 0x700000) :
    (s.seqCtlTaken n v).get f = s.get f :=
  (State.get_seqn_ne _ (f := F.SEQN_CTL_BUDGET_STOP n) _ h hf).trans (State.get_seqn_ne _ (f := F.SEQN_CTL_RUN n) _ h hf)

theorem State.seqCtlTaken_state (v : Word) : (s.seqCtlTaken n v).get (F.SEQN_STATE n) = s.get (F.SEQN_STATE n) :=
  State.seqCtlTaken_get v (by simp [F.SEQN_STATE, F.SEQN_CTL_RUN]) (by simp only [F.SEQN_STATE]; omega)

theorem State.seqCtlTaken_master (v : Word) : (s.seqCtlTaken n v).master n = s.master n :=
  (State.master_put _ _ n n.isLt (by simp only [F.SEQN_CTL_BUDGET_STOP]; omega)).trans
    (State.master_put _ _ n n.isLt (by simp only [F.SEQN_CTL_RUN]; omega))

theorem State.startSeq_spec (z : State) :
    let t := z.startSeq n
    let k := 16 + n.val
    t.get (F.SEQN_STATE n) = 1 ∧ (t.engine k).pc = z.get (F.SEQN_ENTRY n) / 4 * 4 ∧ t.gr k 1 = BitVec.ofNat 64 n.val ∧
      t.gr k 2 = BitVec.ofNat 64 (z.fpbWord 1) ∧ (∀ r, r ≠ 1 → r ≠ 2 → t.gr k r = 0) ∧
      t.get (F.SEQN_FMARK n) = (z.tb (z.master n)).fseq % 256 ∧ (t.engine k).wait = .none := by
  intro t k
  have he : t.engine k = { z.engine k with
      g := if n.val = 0 then [(2, BitVec.ofNat 64 (z.fpbWord 1))] else [(1, BitVec.ofNat 64 n.val), (2, BitVec.ofNat 64 (z.fpbWord 1))]
      pc := z.get (F.SEQN_ENTRY n) / 4 * 4, startAt := z.time.pix, retired := 0, wait := .none, sinceCommit := 0, runAt := z.time.pix
      budget := z.get (F.SEQN_BUDGET n), overrun := false } := by
    simp only [t, k, State.startSeq, State.runRestart, State.put_engine, State.engine_setEngine_same, State.setEngine_get, State.setEngine_time]
  have hg (r : Nat) : t.gr k r = tabGet 0 (if n.val = 0 then [(2, BitVec.ofNat 64 (z.fpbWord 1))] else
      [(1, BitVec.ofNat 64 n.val), (2, BitVec.ofNat 64 (z.fpbWord 1))]) r := by
    rw [State.gr, he]
    dsimp only
    split
    · next h0 => subst h0; split <;> rfl
    · rfl
  refine ⟨?_, by rw [he], ?_, ?_, fun r h1 h2 => ?_, ?_, by rw [he]⟩
  · exact (State.get_seqn_ne _ _ (by simp [F.SEQN_STATE, F.SEQN_FMARK]) (by simp only [F.SEQN_STATE]; omega)).trans (State.seqState_put _ n (by decide))
  · rw [hg]
    split
    · next h0 => simp [tabGet, tabGet?, h0]
    · simp [tabGet, tabGet?]
  · rw [hg]
    split <;> simp [tabGet, tabGet?]
  · rw [hg]
    split <;> simp [tabGet, tabGet?, h1.symm, h2.symm]
  · refine (State.get_put_same _ _ _ (by simp [F.SEQN_FMARK])).trans ?_
    exact Nat.mod_mod _ _

theorem State.wrSeqCtl_starts {v : Word} (hv : v.toNat % 2 = 1) (hst : s.get (F.SEQN_STATE n) = 0) : s.wrSeqCtl n v = (s.seqCtlTaken n v).startSeq n := by
  have hrun : bitAt v.toNat 0 = true := bitAt_eq_true.2 (by simpa using hv)
  have hz := (State.seqCtlTaken_state (s := s) (n := n) v).trans hst
  unfold State.seqCtlTaken at hz ⊢
  simp only [State.wrSeqCtl, hrun, if_true] at hz ⊢
  rw [if_pos hz]

theorem State.haltSeq_state (hst : s.get (F.SEQN_STATE n) < 3) : (s.haltSeq n).get (F.SEQN_STATE n) = 0 := by
  unfold State.haltSeq
  dsimp only
  split
  · exact State.seqState_put _ n (by decide)
  · next h => simp at h; omega

theorem State.haltSeq_gr (k r : Nat) : (s.haltSeq n).gr k r = s.gr k r := by
  unfold State.haltSeq
  dsimp only
  split
  · by_cases hk : k = 16 + n.val
    · subst hk
      simp [State.gr]
    · simp [State.gr, State.engine_setEngine_ne _ _ _ _ hk]
  · rfl

theorem State.wrSeqCtl_halts {v : Word} (hv : v.toNat % 2 = 0) (hst : s.get (F.SEQN_STATE n) < 5) :
    (s.wrSeqCtl n v).get (F.SEQN_STATE n) = 0 ∧ ∀ k r, (s.wrSeqCtl n v).gr k r = s.gr k r := by
  have hrun : ¬bitAt v.toNat 0 = true := fun h => by
    have := bitAt_eq_true.1 h
    omega
  have hz := State.seqCtlTaken_state (s := s) (n := n) v
  have ht : s.wrSeqCtl n v = if s.get (F.SEQN_STATE n) = 3 ∨ s.get (F.SEQN_STATE n) = 4 then (s.seqCtlTaken n v).put (F.SEQN_STATE n) 0
      else (s.seqCtlTaken n v).haltSeq n := by
    rw [← hz]
    simp only [State.wrSeqCtl, if_neg hrun, Bool.or_eq_true, decide_eq_true_eq]
    rfl
  rw [ht]
  split
  · exact ⟨State.seqState_put _ n (by decide), fun _ _ => rfl⟩
  · exact ⟨State.haltSeq_state (by rw [hz]; omega), fun k r => State.haltSeq_gr k r⟩

end

/-! ### Budget and watchdog (R215, R219, R220) -/

section
variable {s : State} {n : Fin 48}

/-- A fault of a line sequencer without an address. -/
theorem State.seqFault_none {cause : Nat} (hc : cause < 256) :
    let t := s.seqFault n cause none
    t.get (F.SEQN_STATE n) = 3 ∧ t.get (F.SEQN_FAULT_CAUSE n) = cause ∧ t.engine (16 + n) = { s.engine (16 + n) with wait := .none } ∧
      t.reg (F.SEQN_BUDGET_COUNT n).key = s.reg (F.SEQN_BUDGET_COUNT n).key := by
  intro t
  have hl : LogOnly ((((s.put (F.SEQN_FAULT_CAUSE n) cause).put (F.SEQN_FAULT_FPC n) (s.engine (16 + n)).pc).setEngine (16 + n)
      { s.engine (16 + n) with wait := .none }).put (F.SEQN_STATE n) 3) t := State.seqRec_logOnly ..
  have hplain {k : Nat} (h : k < 0x700000) := seqnKey_plain h
  have hS := hplain (k := (F.SEQN_STATE n).key) (by simp only [F.SEQN_STATE]; omega)
  have hC := hplain (k := (F.SEQN_FAULT_CAUSE n).key) (by simp only [F.SEQN_FAULT_CAUSE]; omega)
  have hB := hplain (k := (F.SEQN_BUDGET_COUNT n).key) (by simp only [F.SEQN_BUDGET_COUNT]; omega)
  refine ⟨?_, ?_, ?_, ?_⟩
  · exact (hl.get _ hS.1 hS.2).trans (State.seqState_put _ n (by decide))
  · rw [hl.get _ hC.1 hC.2, State.get_put_ne _ _ _ _ (by simp [F.SEQN_FAULT_CAUSE, F.SEQN_STATE]) hC.2, State.setEngine_get,
      State.get_put_disj _ (F.SEQN_FAULT_FPC n) (F.SEQN_FAULT_CAUSE n) _ (by simp [F.SEQN_FAULT_FPC]) rfl
        (by simp [F.SEQN_FAULT_CAUSE, F.SEQN_FAULT_FPC]),
      State.get_put_same _ _ _ (by simp [F.SEQN_FAULT_CAUSE])]
    exact Nat.mod_eq_of_lt hc
  · rw [hl.engine, State.put_engine, State.engine_setEngine_same]
  · rw [hl.reg _ hB.1 hB.2]
    refine (State.reg_setReg_ne _ _ _ _ (by simp [F.SEQN_BUDGET_COUNT, F.SEQN_STATE]) hB.2).trans ?_
    refine (State.reg_setReg_ne _ _ _ _ (by simp [F.SEQN_BUDGET_COUNT, F.SEQN_FAULT_FPC]) hB.2).trans ?_
    exact State.reg_setReg_ne _ _ _ _ (by simp [F.SEQN_BUDGET_COUNT, F.SEQN_FAULT_CAUSE]) hB.2

/-- MAXRUN as the count of a run leaves it. -/
def State.maxrunTaken (s : State) (n : Nat) : State :=
  s.put (F.SEQN_MAXRUN n) (max (s.get (F.SEQN_MAXRUN n)) (min 65535 (s.time.pix - (s.engine (16 + n)).runAt)))

theorem State.maxrunTaken_master : (s.maxrunTaken n).master n = s.master n :=
  State.master_put _ _ n n.isLt (by simp only [F.SEQN_MAXRUN]; omega)

theorem State.maxrunTaken_get {f : Fld} (h : f.key ≠ (F.SEQN_MAXRUN n).key) (hf : f.key < 0x700000) :
    (s.maxrunTaken n).get f = s.get f := State.get_seqn_ne _ _ h hf

theorem State.countRun_within (h : (s.engine (16 + n)).overrun = true ∨ s.time.pix - (s.engine (16 + n)).runAt ≤ s.budgetOf n) :
    s.countRun n = s.maxrunTaken n := by
  have hb : (s.maxrunTaken n).budgetOf n = s.budgetOf n := State.budgetOf_of_master rfl rfl rfl State.maxrunTaken_master
  unfold State.maxrunTaken at hb ⊢
  simp only [State.countRun, hb]
  exact if_pos (by simpa using h)

/-- A run past its budget counts once, is logged once, and stops the sequencer where BUDGET_STOP says so. -/
theorem State.countRun_past (ho : (s.engine (16 + n)).overrun = false) (hp : s.budgetOf n < s.time.pix - (s.engine (16 + n)).runAt)
    (hst : s.get (F.SEQN_STATE n) = 1) :
    let t := s.countRun n
    (t.engine (16 + n)).overrun = true ∧
      ((s.reg (F.SEQN_BUDGET_COUNT n).key).toNat < 2 ^ 31 - 1 → t.reg (F.SEQN_BUDGET_COUNT n).key = s.reg (F.SEQN_BUDGET_COUNT n).key + 1) ∧
      (s.on (F.SEQN_CTL_BUDGET_STOP n) = true → t.get (F.SEQN_STATE n) = 3 ∧ t.get (F.SEQN_FAULT_CAUSE n) = 0x20) ∧
      (s.on (F.SEQN_CTL_BUDGET_STOP n) = false → t.get (F.SEQN_STATE n) = 1) := by
  intro t
  let x := s.engine (16 + n)
  let m := s.maxrunTaken n
  let u := (m.setEngine (16 + n) { x with overrun := true, budgetLogged := true }).bump (F.SEQN_BUDGET_COUNT n)
  let z := if x.budgetLogged then u else u.seqRec 0x4B n 0 causeBudget
  have hb : m.budgetOf n = s.budgetOf n := State.budgetOf_of_master rfl rfl rfl State.maxrunTaken_master
  have ht : t = if z.on (F.SEQN_CTL_BUDGET_STOP n) then z.seqFault n causeBudget none else z := by
    have hc : ¬(x.overrun || decide (s.time.pix - x.runAt ≤ m.budgetOf n)) = true := by
      simp [x, ho, hb]
      omega
    exact if_neg hc
  have hl : LogOnly u z := by
    simp only [z]
    split
    · exact .refl _
    · exact State.seqRec_logOnly ..
  have hplain {k : Nat} (h : k < 0x700000) := seqnKey_plain h
  have hS := hplain (k := (F.SEQN_STATE n).key) (by simp only [F.SEQN_STATE]; omega)
  have hR := hplain (k := (F.SEQN_CTL_BUDGET_STOP n).key) (by simp only [F.SEQN_CTL_BUDGET_STOP]; omega)
  have hB := hplain (k := (F.SEQN_BUDGET_COUNT n).key) (by simp only [F.SEQN_BUDGET_COUNT]; omega)
  have heng : (z.engine (16 + n)).overrun = true := by
    rw [hl.engine, State.bump_engine, State.engine_setEngine_same]
  have hcount : (s.reg (F.SEQN_BUDGET_COUNT n).key).toNat < 2 ^ 31 - 1 →
      z.reg (F.SEQN_BUDGET_COUNT n).key = s.reg (F.SEQN_BUDGET_COUNT n).key + 1 := fun h => by
    have hm : (m.setEngine (16 + n) { x with overrun := true, budgetLogged := true }).reg (F.SEQN_BUDGET_COUNT n).key =
        s.reg (F.SEQN_BUDGET_COUNT n).key :=
      State.reg_seqn_ne s (by simp [F.SEQN_BUDGET_COUNT, F.SEQN_MAXRUN]) (by simp only [F.SEQN_BUDGET_COUNT]; omega)
    rw [hl.reg _ hB.1 hB.2, State.bump_reg _ (by rw [hm]; exact h), hm]
  have hfld {f : Fld} (hne : f.key ≠ (F.SEQN_BUDGET_COUNT n).key) (hm : f.key ≠ (F.SEQN_MAXRUN n).key) (hf : f.key < 0x700000) :
      z.get f = s.get f := by
    rw [hl.get _ (hplain hf).1 (hplain hf).2]
    exact (congrArg (Fld.of f) (State.reg_setReg_ne _ _ _ _ hne (hplain hf).2)).trans (State.maxrunTaken_get hm hf)
  have hstop : z.on (F.SEQN_CTL_BUDGET_STOP n) = s.on (F.SEQN_CTL_BUDGET_STOP n) := State.on_of_get
    (hfld (by simp [F.SEQN_BUDGET_COUNT, F.SEQN_CTL_BUDGET_STOP]) (by simp [F.SEQN_MAXRUN, F.SEQN_CTL_BUDGET_STOP])
      (by simp only [F.SEQN_CTL_BUDGET_STOP]; omega))
  obtain ⟨h3, hcause, he, hreg⟩ := State.seqFault_none (s := z) (n := n) (cause := causeBudget) (by decide)
  rw [ht, hstop]
  by_cases hon : s.on (F.SEQN_CTL_BUDGET_STOP n) = true
  · rw [if_pos hon]
    exact ⟨by rw [he]; exact heng, fun h => hreg.trans (hcount h), fun _ => ⟨h3, hcause⟩, fun h => by simp [hon] at h⟩
  · rw [if_neg hon]
    exact ⟨heng, hcount, fun h => absurd h hon, fun _ => (hfld (by simp [F.SEQN_BUDGET_COUNT, F.SEQN_STATE]) (by simp [F.SEQN_MAXRUN, F.SEQN_STATE])
      (by simp only [F.SEQN_STATE]; omega)).trans hst⟩

theorem State.seqWatchdog_stops (hst : s.get (F.SEQN_STATE n) = 1 ∨ s.get (F.SEQN_STATE n) = 2) (hw : s.get (F.SEQN_WDOG n) ≠ 0)
    (hle : s.get (F.SEQN_WDOG n) ≤ (s.engine (16 + n)).sinceCommit) :
    (s.seqWatchdog n).get (F.SEQN_STATE n) = 4 ∧ ∃ r ∈ (s.seqWatchdog n).log.recent.head?, r.cls = 0x4A := by
  have ht : s.seqWatchdog n = ((s.setEngine (16 + n) { s.engine (16 + n) with wait := .none }).put (F.SEQN_STATE n) 4).seqRec 0x4A n 0 0 :=
    if_pos (by simp [hst, hw, hle])
  have hS := seqnKey_plain (k := (F.SEQN_STATE n).key) (by simp only [F.SEQN_STATE]; omega)
  rw [ht]
  refine ⟨((State.seqRec_logOnly ..).get _ hS.1 hS.2).trans (State.seqState_put _ n (by decide)), ?_⟩
  obtain ⟨r, hr, hcls, -⟩ := State.raise_newest ((s.setEngine (16 + n) { s.engine (16 + n) with wait := .none }).put (F.SEQN_STATE n) 4) 0x4A
    (keyAddr (F.SEQN_CTL_RUN n).key) 0 (rasterDet n (State.lineOf _ n) ((State.spanOf _ n).getD 0) 0) none
  exact ⟨r, hr, hcls⟩

end

/-! ### Local memory (R216, R218) -/

theorem leNat_leBytes (v n : Nat) : leNat (leBytes v n) = v % 256 ^ n := by
  induction n generalizing v with
  | zero => simp [leBytes, leNat, Nat.mod_one]
  | succ n ih =>
    rw [leBytes, leNat, ih, BitVec.toNat_ofNat, Nat.mod_mod_of_dvd _ (by decide), Nat.pow_succ' (m := 256)]
    exact Nat.mod_mul.symm

/-- Bytes read back where they were written. -/
theorem cellRead_cellWrite {m : List Host.Cell} (a : Nat) (bs : List Byte) (hm : cellsWf 0 m = true) :
    cellRead 0 (cellWrite 0 m a bs) a bs.length = bs := by
  refine List.ext_getElem (cellRead_length ..) fun j _ hj => ?_
  have h := (cellRead_getD (cellWrite 0 m a bs) a hj).trans (cellGet_cellWrite_inside a j bs hm hj)
  rw [List.getD_eq_getElem _ _ (by rw [cellRead_length]; exact hj), List.getD_eq_getElem _ _ hj] at h
  exact h

section
variable {s : State} {n : Fin 48}

theorem State.wrSeqMem_open {o : Nat} {v : Word} (hm : s.memoriesOk = true)
    (hst : s.get (F.SEQN_STATE n) = 0 ∨ s.get (F.SEQN_STATE n) = 3 ∨ s.get (F.SEQN_STATE n) = 4) :
    let t := (s.wrSeqMem n (4 * o) v).2
    let a := 0x4000 * n.val + 4 * o
    { t with seqMem := s.seqMem, seqBad := s.seqBad } = s ∧ a / 4 ∉ t.seqBad ∧ leNat (cellRead 0 t.seqMem a 4) = v.toNat ∧
      ∀ j, j < a ∨ a + 4 ≤ j → cellGet 0 t.seqMem j = cellGet 0 s.seqMem j := by
  intro t a
  have ht : t = s.seqWrite a (leBytes v.toNat 4) := by
    have hopen : s.seqOpen n = true := by simpa [State.seqOpen, or_assoc] using hst
    simp [t, a, State.wrSeqMem, hopen]
  obtain ⟨-, hwf, -⟩ := s.memoriesOk_iff.1 hm
  rw [ht]
  refine ⟨rfl, ?_, ?_, fun j hj => cellGet_cellWrite_outside _ _ _ _ _ (by simpa using hj)⟩
  · simp [State.seqWrite, a]
    omega
  · have hread := cellRead_cellWrite a (leBytes v.toNat 4) hwf
    rw [leBytes_length] at hread
    rw [State.seqWrite, hread, leNat_leBytes]
    exact Nat.mod_eq_of_lt v.isLt

theorem State.wrSeqMem_closed {o : Nat} {v : Word} (hst : s.get (F.SEQN_STATE n) = 1 ∨ s.get (F.SEQN_STATE n) = 2) :
    (s.wrSeqMem n o v).2 = s.seqRec 0x4E n 0 0 := by
  have hopen : s.seqOpen n = false := by rcases hst with h | h <;> simp [State.seqOpen, h]
  simp [State.wrSeqMem, hopen]

end

/-! ### `wline` of a line sequencer (R190, R191, R194) -/

section
variable {s : State} {n : Fin 48}

theorem State.state_of_boundary_seq (hb : s.boundary (.seq n) = none) : s.get (F.SEQN_STATE n) = 1 := by
  by_contra hne
  simp [State.boundary, State.boundarySeq, hne] at hb

/-- A wait that holds already: the sequencer runs on, and LATE_WAIT counts it. -/
theorem State.endWait_late (s : State) (n : Fin 48) (d : Fin 32) (v : Nat) :
    let t := (s.bump (F.SEQN_LATE_WAIT n)).endWait (16 + n) d v
    let k := 16 + n.val
    t.get (F.SEQN_STATE n) = 1 ∧ (t.engine k).pc = ((s.engine k).pc + 4) % 2 ^ 40 ∧ (d ≠ 0 → t.gr k d = BitVec.ofNat 64 v) ∧
      (∀ r, r ≠ d.val → t.gr k r = s.gr k r) ∧ ((s.reg (F.SEQN_LATE_WAIT n).key).toNat < 2 ^ 31 - 1 →
        t.reg (F.SEQN_LATE_WAIT n).key = s.reg (F.SEQN_LATE_WAIT n).key + 1) := by
  intro t k
  let u := s.bump (F.SEQN_LATE_WAIT n)
  let f := u.finishWait k d v
  let z := f.runRestart n
  have ht : t = (z.put (F.SEQN_STATE n) 1).put (F.SEQN_LAST_WAIT n) (z.pos n) := by
    simp only [t, State.endWait, if_neg (show ¬16 + n.val < 16 by omega), Nat.add_sub_cancel_left]
    rfl
  have hz : z.engine k = { f.engine k with runAt := f.time.pix, budget := f.get (F.SEQN_BUDGET n), overrun := false } := State.engine_setEngine_same ..
  have hgr (r : Nat) : t.gr k r = f.gr k r := by
    rw [ht, State.gr_put, State.gr_put, State.gr, State.gr, hz]
  obtain ⟨hd, ho⟩ := u.finishWait_gr k d v
  refine ⟨?_, ?_, fun h => (hgr _).trans (hd fun h0 => h (Fin.ext h0)), fun r hr => (hgr r).trans (ho r hr), fun hlt => ?_⟩
  · rw [ht, State.get_seqn_ne _ _ (by simp [F.SEQN_STATE, F.SEQN_LAST_WAIT]) (by simp only [F.SEQN_STATE]; omega)]
    exact State.seqState_put _ n (by decide)
  · rw [ht, State.put_engine, State.put_engine, hz, u.finishWait_engine k d v]
    rfl
  · rw [ht, State.reg_seqn_ne _ (by simp [F.SEQN_LATE_WAIT, F.SEQN_LAST_WAIT]) (by simp only [F.SEQN_LATE_WAIT]; omega),
      State.reg_seqn_ne _ (by simp [F.SEQN_LATE_WAIT, F.SEQN_STATE]) (by simp only [F.SEQN_LATE_WAIT]; omega)]
    exact State.bump_reg _ hlt

/-- `wline` of a sequencer within its budget, by whether the position has reached its target. -/
theorem State.conclude_wline (hb : s.boundary (.seq n) = none) (w d m : Nat)
    (hrun : (s.engine (16 + n)).overrun = true ∨ s.time.pix - (s.engine (16 + n)).runAt ≤ s.budgetOf n) :
    State.conclude (.seq n) w (s.wlineAct (.seq n) d n m) = if s.lineReached n m then
        ((s.maxrunTaken n).bump (F.SEQN_LATE_WAIT n)).endWait (16 + n) d (s.pos n)
      else ((s.maxrunTaken n).setEngine (16 + n) { s.engine (16 + n) with wait := .line d n (m % 2 ^ 32) }).put (F.SEQN_STATE n) 2 := by
  have hst : (s.maxrunTaken n).get (F.SEQN_STATE n) = 1 :=
    (State.maxrunTaken_get (by simp [F.SEQN_STATE, F.SEQN_MAXRUN]) (by simp only [F.SEQN_STATE]; omega)).trans (State.state_of_boundary_seq hb)
  have hpos : (s.maxrunTaken n).pos n = s.pos n := State.pos_of_master rfl rfl State.maxrunTaken_master
  have hr : (s.maxrunTaken n).lineReached n m = s.lineReached n m := by rw [State.lineReached, hpos, State.lineReached]
  rw [State.wlineAct, State.countAct]
  simp only [State.countRun_within hrun, hst, if_true, hr, hpos]
  split <;> rfl


/-- `wline` of a sequencer acts on its own head (R184, R186). -/
theorem State.wline_seq (hb : s.boundary (.seq n) = none) (hh : s.hasHead n = true) (d a b : Fin 32) :
    exec (.wline (.seq n) d a b) s =
      .next (State.conclude (.seq n) (wordT 0x38 d a b 0) (s.wlineAct (.seq n) d n (s.gr (16 + n) a).toNat)) := by
  refine congrArg Host.Outcome.next ((State.issue_of_boundary hb rfl rfl (by simp)).trans (congrArg (State.conclude _ _) ?_))
  simp only [State.tgtHead, State.withHead, State.headBarred, hh, Bool.not_true, Bool.false_eq_true, if_false]
  rfl

theorem State.wlineI_seq (hb : s.boundary (.seq n) = none) (d : Fin 32) {imm : BitVec 16} (hi : imm.toNat < 2 ^ 14) :
    exec (.wlineI (.seq n) d imm) s = .next (State.conclude (.seq n) (wordI 0x3B d 0 imm)
      (s.wlineAct (.seq n) d n (s.get (F.SEQN_FMARK n) * 2 ^ 24 + imm.toNat * 2 ^ 10))) := by
  refine congrArg Host.Outcome.next ((State.issue_of_boundary hb rfl rfl (by simp)).trans (congrArg (State.conclude _ _) ?_))
  have hk : Eng.key (.seq n) - 16 = n.val := Nat.add_sub_cancel_left ..
  have h0 : ¬(bits imm.toNat 14 2 != 0) = true := by
    simp [bits]
    omega
  have hl : bits imm.toNat 0 14 = imm.toNat := (bits_low ..).trans (Nat.mod_eq_of_lt hi)
  dsimp only
  rw [if_neg h0, hk, hl]
  rfl

theorem State.wlineI_seq_illegal (hb : s.boundary (.seq n) = none) (d : Fin 32) {imm : BitVec 16} (hi : 2 ^ 14 ≤ imm.toNat) :
    exec (.wlineI (.seq n) d imm) s = .next (s.seqFault n 1 none) := by
  refine congrArg Host.Outcome.next ((State.issue_of_boundary hb rfl rfl (by simp)).trans ?_)
  have h1 : (bits imm.toNat 14 2 != 0) = true := by
    have := imm.isLt
    simp [bits]
    omega
  dsimp only
  rw [if_pos h1]
  rfl

end

/-- A write that passes its checks does what its register does. -/
theorem reaches_asWrite {s : State} {i : Initiator} {c : Instr} {key : Nat} {v : Word} {f : State → State} {p : State → Prop} (hc : exec c s = .next (s.asWrite i key v f))
    (hadm : Admits s i key) (hp : p (f s)) : Reaches c s p :=
  ⟨_, hc.trans (congrArg Host.Outcome.next (State.asWrite_admitted v f hadm)), hp⟩

/-- Settles O26: start, halt and the counts by the fields that they write, and `wline` by whether its target has been reached. -/
theorem sequencerControl : Obligations.SequencerControl := by
  unfold Obligations.SequencerControl
  refine ⟨fun i n o v time s => ?_, fun n d a b imm c s => ?_⟩
  · intro k x st u at_
    refine ⟨fun hadm hv hst => ?_, fun hadm hv hst => ?_, fun hst ho hp => ?_, fun hst hw hle => ?_, fun hadm hm => ⟨fun hst => ?_, fun hst => ?_⟩⟩
    · refine reaches_asWrite (f := fun s => s.wrSeqCtl n v) rfl hadm ?_
      rw [State.wrSeqCtl_starts hv hst]
      obtain ⟨h1, hpc, hg1, hg2, hg, hfm, hwait⟩ := State.startSeq_spec (n := n) (s.seqCtlTaken n v)
      refine ⟨h1, hpc.trans ?_, hg1, hg2, hg, hfm.trans ?_, hwait⟩
      · rw [State.seqCtlTaken_get v (by simp [F.SEQN_ENTRY, F.SEQN_CTL_RUN]) (by simp only [F.SEQN_ENTRY]; omega)]
      · rw [State.seqCtlTaken_master]
        rfl
    · obtain ⟨h0, hg⟩ := State.wrSeqCtl_halts (s := s) hv hst
      exact reaches_asWrite (f := fun s => s.wrSeqCtl n v) rfl hadm ⟨h0, hg k⟩
    · exact ⟨_, congrArg Host.Outcome.next (if_pos hst), State.countRun_past (s := u) ho hp hst⟩
    · exact ⟨_, rfl, State.seqWatchdog_stops (s := u) hst hw hle⟩
    · exact reaches_asWrite (f := fun s => (s.wrSeqMem n (4 * o) v).2) rfl hadm (State.wrSeqMem_open hm hst)
    · refine reaches_asWrite (f := fun s => (s.wrSeqMem n (4 * o) v).2) rfl hadm ?_
      rw [State.wrSeqMem_closed hst]
      obtain ⟨r, hr, hcls, -⟩ := s.raise_newest 0x4E (keyAddr (F.SEQN_CTL_RUN n).key) 0 (rasterDet n (s.lineOf n) ((s.spanOf n).getD 0) 0) none
      exact ⟨(s.seqRec_logOnly ..).onlyLogged_nil, r, hr, hcls⟩
  · intro e k x reached late waits y z
    refine ⟨fun hb hh hrun => ?_, fun hb => ⟨wordI 0x3B d 0 imm, congrArg Host.Outcome.next (State.issue_illegal hb rfl rfl)⟩⟩
    have hlate {c : Instr} {w m : Nat} (hc : exec c s = .next (State.conclude e w (s.wlineAct e d n m))) (hr : reached m) : late c := by
      have hdone : s.lineReached n m = true := decide_eq_true hr
      rw [State.conclude_wline hb w d m hrun, if_pos hdone] at hc
      obtain ⟨h1, hpc, hd, ho, hcount⟩ := (s.maxrunTaken n).endWait_late n d (s.pos n)
      have hreg : (s.maxrunTaken n).reg (F.SEQN_LATE_WAIT n).key = s.reg (F.SEQN_LATE_WAIT n).key :=
        State.reg_seqn_ne _ (by simp [F.SEQN_LATE_WAIT, F.SEQN_MAXRUN]) (by simp only [F.SEQN_LATE_WAIT]; omega)
      exact ⟨_, hc, h1, hpc, hd, ho, fun hlt => (hcount (hreg ▸ hlt)).trans (congrArg (· + 1) hreg)⟩
    have hwaits {c : Instr} {w m : Nat} (hc : exec c s = .next (State.conclude e w (s.wlineAct e d n m))) (hr : ¬reached m) : waits c m := by
      have hahead : ¬s.lineReached n m = true := fun h => hr (of_decide_eq_true h)
      rw [State.conclude_wline hb w d m hrun, if_neg hahead] at hc
      have he : (((s.maxrunTaken n).setEngine k { x with wait := .line d n (m % 2 ^ 32) }).put (F.SEQN_STATE n) 2).engine k =
          { x with wait := .line d n (m % 2 ^ 32) } := (State.put_engine ..).trans (State.engine_setEngine_same ..)
      refine ⟨_, hc, State.seqState_put _ n (by decide), (congrArg Engine.pc he :), (congrArg Engine.wait he :),
        fun r => (congrArg (fun e : Engine => if r = 0 then 0 else tabGet 0 e.g r) he :)⟩
    exact ⟨hlate (State.wline_seq hb hh d a b), hwaits (State.wline_seq hb hh d a b),
      fun hi => ⟨hlate (State.wlineI_seq hb d hi), hwaits (State.wlineI_seq hb d hi)⟩, State.wlineI_seq_illegal hb d⟩

end Sys2Proof.Machine
end

section
/-! The cores' run control, the ways of the L2 held as SRAM and the non-cacheable windows (O23; R170 to R176). -/
namespace Sys2Proof.Machine

/-! ### A core that stops (R175, R176) -/

section
variable {s : State} {c : Fin 16}

theorem tabGet_tabErase_same {α : Type} (d : α) (t : Tab α) (k : Nat) : tabGet d (tabErase t k) k = d := by
  induction t with
  | nil => rfl
  | cons e t ih =>
    obtain ⟨j, v⟩ := e
    by_cases hj : j = k
    · simp [tabErase, hj, ih]
    · simpa [tabErase, tabGet, tabGet?, hj] using ih

/-- The registers of a core stand below the fault log and the contexts. -/
theorem coreKey_plain {k : Nat} (h : k < 0x2000) : k / 0x100000 ≠ 21 ∧ isCtxOwn k = false :=
  ⟨by omega, isCtxOwn_below (by omega)⟩

theorem State.get_core_ne {f g : Fld} (s : State) (v : Nat) (h : g.key ≠ f.key) (hg : g.key < 0x2000) : (s.put f v).get g = s.get g :=
  State.get_put_ne _ _ _ _ h (coreKey_plain hg).2

theorem State.stopInto_lastPcHi (s : State) (c : Fin 16) (st : Nat) :
    (s.stopInto c st).get (F.CORE_LAST_PC_HI c) = (s.engine c).pc / 2 ^ 32 % 2 ^ 8 := by
  obtain ⟨h21, hctx⟩ := coreKey_plain (k := (F.CORE_LAST_PC_HI c).key) (by simp only [F.CORE_LAST_PC_HI]; omega)
  rw [(s.stopInto_logOnly c st).get _ h21 hctx]
  exact State.get_put_same _ _ _ (by simp [F.CORE_LAST_PC_HI])

theorem State.stopInto_engine_ne (s : State) {c j : Nat} (st : Nat) (hj : j ≠ c) : (s.stopInto c st).engine j = s.engine j := by
  rw [(s.stopInto_logOnly c st).engine]
  exact State.engine_setEngine_ne _ _ _ _ hj

/-- A watchdog that stops a core logs its number and its PC. -/
theorem State.stopInto_watchdog (s : State) (c : Nat) :
    ∃ r ∈ (s.stopInto c 4).log.recent.head?, r.cls = 0x7A ∧ r.addr1 = (s.engine c).pc ∧ r.detail = c := by
  obtain ⟨r, hr, hcls, h1, -, hd⟩ := (s.stopCore c 4).raise_newest 0x7A ((s.stopCore c 4).engine c).pc 0 c none
  refine ⟨r, hr, hcls, h1.trans ?_, hd⟩
  rw [State.stopCore_engine]

/-! ### Writes of CTL (R173 to R175) -/

theorem State.startCore_spec (s : State) (c : Fin 16) :
    let t := s.startCore c
    t.get (F.CORE_STATE c) = 1 ∧ (t.engine c).pc = s.get (F.CORE_ENTRY_LO c) / 4 * 4 + 2 ^ 32 * s.get (F.CORE_ENTRY_HI c) ∧
      (∀ r, t.gr c r = 0) ∧ (t.engine c).pstate = 1 ∧ (t.engine c).retired = 0 ∧ t.srView c 0x10 = 0 ∧ (t.engine c).wait = .none ∧
      ∀ j, j ≠ c.val → t.engine j = s.engine j := by
  intro t
  have he : t.engine c = { s.engine c with
      g := [], pc := s.get (F.CORE_ENTRY_LO c) / 4 * 4 + 2 ^ 32 * s.get (F.CORE_ENTRY_HI c), sr := tabErase (s.engine c).sr 1
      startAt := s.time.pix, retired := 0, wait := .none, impr := [], halting := none, kickAt := s.time.pix, tb := List.replicate 32 0 } :=
    (State.put_engine ..).trans (State.engine_setEngine_same ..)
  refine ⟨State.coreState_put _ c (by decide), (congrArg Engine.pc he :), fun r => ?_, ?_, (congrArg Engine.retired he :), ?_,
    (congrArg Engine.wait he :), fun j hj => State.engine_setEngine_ne _ _ _ _ hj⟩
  · rw [State.gr, he]
    dsimp only
    split <;> rfl
  · exact (congrArg Engine.pstate he).trans (congrArg BitVec.toNat (tabGet_tabErase_same ..))
  · exact (congrArg (fun e : Engine => coreEdges t.time.pix - coreEdges e.startAt) he).trans (Nat.sub_self _)

theorem State.wrCoreCtl_noRun (src : Src) {v : Word} (hv : v.toNat % 2 = 0) : s.wrCoreCtl src c v =
    if s.get (F.CORE_STATE c) = 3 ∨ s.get (F.CORE_STATE c) = 4 then (s.putB (F.CORE_CTL_RUN c) false).put (F.CORE_STATE c) 0
    else if s.get (F.CORE_STATE c) = 1 ∨ s.get (F.CORE_STATE c) = 2 then (s.putB (F.CORE_CTL_RUN c) false).haltCore c else s := by
  have hrun : ¬bitAt v.toNat 0 = true := fun h => by
    have := bitAt_eq_true.1 h
    omega
  simp only [State.wrCoreCtl, if_neg hrun, Bool.or_eq_true, decide_eq_true_eq]

theorem State.wrCoreCtl_running (src : Src) {v : Word} (hv : v.toNat % 2 = 1) (hst : s.get (F.CORE_STATE c) ≠ 0) : s.wrCoreCtl src c v = s := by
  have hrun : bitAt v.toNat 0 = true := bitAt_eq_true.2 (by simpa using hv)
  simp only [State.wrCoreCtl, if_pos hrun]
  exact if_pos (by simpa using hst)

/-- A start is that of a state that differs from `s` in CTL and BOOT_STATUS alone. -/
theorem State.wrCoreCtl_starts (src : Src) {v : Word} (hv : v.toNat % 2 = 1) (hst : s.get (F.CORE_STATE c) = 0) :
    ∃ u : State, s.wrCoreCtl src c v = u.startCore c ∧ u.eng = s.eng ∧ u.get (F.CORE_ENTRY_LO c) = s.get (F.CORE_ENTRY_LO c) ∧
      u.get (F.CORE_ENTRY_HI c) = s.get (F.CORE_ENTRY_HI c) := by
  have hrun : bitAt v.toNat 0 = true := bitAt_eq_true.2 (by simpa using hv)
  have hne : ¬(s.get (F.CORE_STATE c) != 0) = true := by simp [hst]
  let r := s.putB (F.CORE_CTL_RUN c) true
  let u := if src.id.val = 0x7E && r.mode = modeService && r.get F.SYS_BOOT_STATUS_SLOT = 2 then r.put F.SYS_BOOT_STATUS_SLOT 3 else r
  have hkeep {f : Fld} (hr : f.key ≠ (F.CORE_CTL_RUN c).key) (hb : f.key ≠ F.SYS_BOOT_STATUS_SLOT.key) (hf : f.key < 0x2000) : u.get f = s.get f := by
    simp only [u]
    split
    · exact (State.get_core_ne r _ hb hf).trans (State.get_core_ne s _ hr hf)
    · exact State.get_core_ne s _ hr hf
  refine ⟨u, ?_, ?_, ?_, ?_⟩
  · simp only [State.wrCoreCtl, if_pos hrun, if_neg hne]
    rfl
  · simp only [u]
    split <;> rfl
  · exact hkeep (by simp [F.CORE_ENTRY_LO, F.CORE_CTL_RUN]) (by simp only [F.CORE_ENTRY_LO, F.SYS_BOOT_STATUS_SLOT]; omega)
      (by simp only [F.CORE_ENTRY_LO]; omega)
  · exact hkeep (by simp [F.CORE_ENTRY_HI, F.CORE_CTL_RUN]) (by simp only [F.CORE_ENTRY_HI, F.SYS_BOOT_STATUS_SLOT]; omega)
      (by simp only [F.CORE_ENTRY_HI]; omega)

/-- What a halt leaves of a core that stops at once. -/
theorem State.haltInto_stops_spec {st : Nat} (hs : s.get (F.CORE_STATE c) = 1 ∨ s.get (F.CORE_STATE c) = 2) (hq : s.inFlightOf c = false)
    (hw : (s.engine c).wait ∉ [.rulesync true, .rulesync false, .step, .busy]) (hgoal : haltOf (s.engine c).halting st = st) (hst : st < 8) :
    let t := s.haltInto c st
    t = s.stopInto c st ∧ t.get (F.CORE_STATE c) = st ∧ t.get (F.CORE_LAST_PC_LO c) = (s.engine c).pc % 2 ^ 32 ∧
      t.get (F.CORE_LAST_PC_HI c) = (s.engine c).pc / 2 ^ 32 % 2 ^ 8 ∧ (∀ r, t.gr c r = s.gr c r) ∧ ∀ j, j ≠ c.val → t.engine j = s.engine j := by
  intro t
  have ht : t = s.stopInto c st := (State.haltInto_stops st hs (State.holdsHalt_idle hq hw)).trans (by rw [hgoal])
  rw [ht]
  exact ⟨rfl, State.stopInto_state hst, State.stopInto_lastPc, s.stopInto_lastPcHi c st, (s.stopInto_keepsData c st).gr c,
    fun j hj => s.stopInto_engine_ne st hj⟩

/-! ### The watchdog (R176) -/

theorem State.coreWatchdog_expired (hs : s.get (F.CORE_STATE c) = 1 ∨ s.get (F.CORE_STATE c) = 2) (hp : s.get (F.CORE_WDOG_CFG c) ≠ 0)
    (he : (s.engine c).kickAt + 1200 * s.get (F.CORE_WDOG_CFG c) ≤ s.time.pix) (hh : (s.engine c).halting ≠ some 4) :
    s.coreWatchdog c = s.haltInto c 4 := by
  have hend : s.wdogEnd c ≤ s.time.pix := by
    rw [State.wdogEnd, clkUs]
    omega
  exact if_pos (by simp [State.watched, hs, hp, hend, hh])

theorem State.coreWatchdog_early (he : s.time.pix < (s.engine c).kickAt + 1200 * s.get (F.CORE_WDOG_CFG c)) : s.coreWatchdog c = s := by
  have hend : ¬s.wdogEnd c ≤ s.time.pix := by
    rw [State.wdogEnd, clkUs]
    omega
  exact if_neg (by simp [hend])

/-- A kick counts when its byte is right and the period does not end in the REF clock of the write or before. -/
theorem State.wrKick_eq (s : State) (c : Fin 16) (v : Word) : s.wrKick c v =
    if v.toNat % 256 = 0xA5 ∧ ((s.get (F.CORE_STATE c) ≠ 1 ∧ s.get (F.CORE_STATE c) ≠ 2) ∨ s.get (F.CORE_WDOG_CFG c) = 0 ∨
        s.time.pix / 48 < ((s.engine c).kickAt + 1200 * s.get (F.CORE_WDOG_CFG c)) / 48) then
      s.setEngine c { s.engine c with kickAt := s.time.pix } else s := by
  unfold State.wrKick
  refine if_congr ?_ rfl rfl
  rw [State.wdogEnd, clkUs, refClk, Nat.mul_comm (s.get (F.CORE_WDOG_CFG c)) 1200, bits_low]
  simp [State.watched]
  tauto

end

/-! ### Ranges of memory that are written back or erased (R171) -/

theorem cellGet_eq_tabGet? (d : Byte) (m : List Host.Cell) (a : Nat) : cellGet d m a = (tabGet? m a).getD d := by
  induction m with
  | nil => rfl
  | cons e m ih =>
    obtain ⟨b, w⟩ := e
    by_cases hb : b = a
    · simp [cellGet, tabGet?, hb]
    · simpa [cellGet, tabGet?, hb] using ih

section
variable {s : State} (hs : s.memoriesOk = true) {lo hi j : Nat}
include hs

/-- Memory holds of a range that is written back what the cores see. -/
theorem State.cleanRange_mem_inside (hj : lo ≤ j ∧ j < hi) : cellGet 0 (s.cleanRange lo hi).mem j = s.coreByte j := by
  obtain ⟨hm, -, -, hd⟩ := s.memoriesOk_iff.1 hs
  rw [State.coreByte_eq]
  exact (cellGet_foldl_cellSet (rising_filter _ hd) hm j).trans (by rw [tabGet?_filter_pos (by simp [hj])])

theorem State.cleanRange_mem_outside (hj : ¬(lo ≤ j ∧ j < hi)) : cellGet 0 (s.cleanRange lo hi).mem j = cellGet 0 s.mem j := by
  obtain ⟨hm, -, -, hd⟩ := s.memoriesOk_iff.1 hs
  exact (cellGet_foldl_cellSet (rising_filter _ hd) hm j).trans (by rw [tabGet?_filter_neg (by simpa using hj)]; rfl)

theorem State.cleanRange_coreByte : (s.cleanRange lo hi).coreByte j = s.coreByte j := by
  rw [State.coreByte_eq]
  by_cases hj : lo ≤ j ∧ j < hi
  · have hd : tabGet? (s.cleanRange lo hi).dirty j = none := tabGet?_filter_neg (by simp [hj]) _
    rw [hd, Option.getD_none, State.cleanRange_mem_inside hs hj]
  · have hd : tabGet? (s.cleanRange lo hi).dirty j = tabGet? s.dirty j := tabGet?_filter_pos (by simp; omega) _
    rw [hd, State.cleanRange_mem_outside hs hj, State.coreByte_eq]

end

theorem State.eraseRange_coreByte_inside (s : State) {lo hi j : Nat} (hj : lo ≤ j ∧ j < hi) : (s.eraseRange lo hi).coreByte j = 0 := by
  have hd : tabGet? (s.eraseRange lo hi).dirty j = none := tabGet?_filter_neg (by simp [hj]) _
  have hm : tabGet? (s.eraseRange lo hi).mem j = none := tabGet?_filter_neg (by simp [hj]) _
  rw [State.coreByte_eq, hd, cellGet_eq_tabGet?, hm]
  rfl

theorem State.eraseRange_coreByte_outside (s : State) {lo hi j : Nat} (hj : ¬(lo ≤ j ∧ j < hi)) : (s.eraseRange lo hi).coreByte j = s.coreByte j := by
  have hd : tabGet? (s.eraseRange lo hi).dirty j = tabGet? s.dirty j := tabGet?_filter_pos (by simp; omega) _
  have hm : tabGet? (s.eraseRange lo hi).mem j = tabGet? s.mem j := tabGet?_filter_pos (by simp; omega) _
  rw [State.coreByte_eq, hd, cellGet_eq_tabGet?, hm, State.coreByte_eq s, cellGet_eq_tabGet? 0 s.mem]

/-! ### The ways held as SRAM (R170, R171) -/

theorem State.dramEnd_le (s : State) : s.dramEnd ≤ 0x1000000000 := by
  unfold State.dramEnd State.dramGib byMember
  split <;> decide

theorem State.sramMib_le (s : State) : s.sramMib ≤ 64 := by
  unfold State.sramMib byMember
  split <;> decide

/-- Between the frame SRAM and the control registers of the L2 lies its window, and nothing behind it. -/
theorem State.region_window (s : State) {a : Nat} (h1 : 0x1080000000 ≤ a) (h2 : a < 0x1082000000) :
    s.region a = if a < 0x1080000000 + 0x80000 * s.windowWays then .l2sram else .unmapped := by
  have hd := s.dramEnd_le
  have hm := s.sramMib_le
  have hdram : ¬a < s.dramEnd := by omega
  have hfsram : ¬(0x1000000000 ≤ a && a < 0x1000000000 + s.sramMib * 2 ^ 20) = true := by simp; omega
  have hctl : ¬(0x1082000000 ≤ a && a < 0x1082001000) = true := by simp; omega
  have hregs : ¬(0x2000000000 ≤ a && a < 0x2001600000) = true := by simp; omega
  rw [State.region, if_neg hdram, if_neg hfsram, if_neg hctl, if_neg hregs, Nat.mul_comm s.windowWays]
  simp [h1]

/-- What a change of the ways writes back, and what it then erases. -/
def State.waysTurned (s : State) : State :=
  let u := if s.bus.l2Ways < s.sramWays then s.cleanRange 0 (2 ^ 40) else s
  if s.bus.l2Ways = s.sramWays then u
  else u.eraseRange (l2WindowEnd (min s.bus.l2Ways s.sramWays)) (l2WindowEnd (max s.bus.l2Ways s.sramWays))

theorem State.l2Done_busy {s : State} (h : s.on F.L2_STATUS_BUSY = true) : s.l2Done =
    { s.waysTurned with bus := { s.waysTurned.bus with l2Ways := s.sramWays, waysDue := false, ncDue := [] } }.putB F.L2_STATUS_BUSY false := by
  simp only [State.l2Done, h, Bool.not_true, Bool.false_eq_true, if_false]
  rfl

theorem State.l2Done_idle {s : State} (h : s.on F.L2_STATUS_BUSY = false) : s.l2Done = s := by simp [State.l2Done, h]

section
variable {s : State} {a : Nat}

theorem State.waysTurned_eng : s.waysTurned.eng = s.eng := by
  unfold State.waysTurned
  dsimp only
  split_ifs <;> rfl

/-- A byte that lies in no way that changes sides. -/
theorem State.waysTurned_coreByte_outside (hs : s.memoriesOk = true)
    (ha : a < l2WindowEnd (min s.bus.l2Ways s.sramWays) ∨ l2WindowEnd (max s.bus.l2Ways s.sramWays) ≤ a) :
    s.waysTurned.coreByte a = s.coreByte a := by
  unfold State.waysTurned
  extract_lets u
  have hu : u.coreByte a = s.coreByte a := by
    simp only [u]
    split
    · exact State.cleanRange_coreByte hs
    · rfl
  split
  · exact hu
  · exact (u.eraseRange_coreByte_outside (by omega)).trans hu

/-- A byte of a way that changes sides. -/
theorem State.waysTurned_coreByte_inside (ha : l2WindowEnd (min s.bus.l2Ways s.sramWays) ≤ a ∧ a < l2WindowEnd (max s.bus.l2Ways s.sramWays)) :
    s.waysTurned.coreByte a = 0 := by
  unfold State.waysTurned
  extract_lets u
  rw [if_neg fun h => ?_]
  · exact u.eraseRange_coreByte_inside ha
  · rw [h, Nat.min_self, Nat.max_self] at ha
    omega

/-! ### The non-cacheable windows (R171, R172) -/

theorem State.ncClean_off {n : Nat} (h : s.on (F.L2_NC_LIMIT_EN n) = false) : s.ncClean n = s := by simp [State.ncClean, h]

theorem State.ncClean_coreByte (hs : s.memoriesOk = true) (n : Nat) : (s.ncClean n).coreByte a = s.coreByte a := by
  unfold State.ncClean
  split
  · exact State.cleanRange_coreByte hs
  · rfl

theorem State.ncClean_get (n : Nat) {f : Fld} (hf : f.key ≠ F.L2_STATUS_BUSY.key) (hc : isCtxOwn f.key = false) : (s.ncClean n).get f = s.get f := by
  unfold State.ncClean
  split
  · exact State.get_put_ne _ _ _ _ hf hc
  · rfl

/-- What an enabled window covers is written back, and stalls until BUSY is clear. -/
theorem State.ncClean_on (hs : s.memoriesOk = true) {n : Nat} (h : s.on (F.L2_NC_LIMIT_EN n) = true) :
    let t := s.ncClean n
    t.on F.L2_STATUS_BUSY = true ∧ ∀ a, s.get (F.L2_NC_BASE n) * 2 ^ 20 ≤ a → a < (s.get (F.L2_NC_LIMIT_LAST n) + 1) * 2 ^ 20 →
      cellGet 0 t.mem a = s.coreByte a ∧ t.l2Stalls a 1 = true := by
  intro t
  let lo := s.get (F.L2_NC_BASE n) * 2 ^ 20
  let hi := (s.get (F.L2_NC_LIMIT_LAST n) + 1) * 2 ^ 20
  let u := (s.cleanRange lo hi).putB F.L2_STATUS_BUSY true
  have ht : t = { u with bus := { u.bus with ncDue := u.bus.ncDue ++ [(lo, hi)] } } := if_pos h
  rw [ht]
  refine ⟨State.on_putB_same _ _ _ rfl (by simp [F.L2_STATUS_BUSY]), fun a hlo hhi => ⟨State.cleanRange_mem_inside hs ⟨hlo, hhi⟩, ?_⟩⟩
  have hin : (decide (lo ≤ a) && decide (a < hi)) = true := by
    rw [decide_eq_true hlo, decide_eq_true hhi]
    rfl
  simp [State.l2Stalls, hin]

/-- LIMIT as a write takes it. -/
def State.ncLimitTaken (s : State) (n : Nat) (v : Word) : State :=
  (s.put (F.L2_NC_LIMIT_LAST n) (bits v.toNat 0 20)).putB (F.L2_NC_LIMIT_EN n) (bitAt v.toNat 31)

theorem State.ncLimitTaken_last (n : Nat) (v : Word) : (s.ncLimitTaken n v).get (F.L2_NC_LIMIT_LAST n) = v.toNat % 2 ^ 20 := by
  unfold State.ncLimitTaken State.putB
  rw [State.get_put_disj _ (F.L2_NC_LIMIT_EN n) (F.L2_NC_LIMIT_LAST n) _ (by simp [F.L2_NC_LIMIT_EN]) rfl
      (by simp [F.L2_NC_LIMIT_EN, F.L2_NC_LIMIT_LAST]), State.get_put_same _ _ _ (by simp [F.L2_NC_LIMIT_LAST])]
  simp [bits_low, F.L2_NC_LIMIT_LAST]

theorem State.ncLimitTaken_en (n : Nat) (v : Word) : (s.ncLimitTaken n v).on (F.L2_NC_LIMIT_EN n) = bitAt v.toNat 31 :=
  State.on_putB_same _ _ _ rfl (by simp [F.L2_NC_LIMIT_EN])

theorem State.ncLimitTaken_get (n : Nat) (v : Word) {f : Fld} (hf : f.key ≠ (F.L2_NC_LIMIT_EN n).key) (hc : isCtxOwn f.key = false) :
    (s.ncLimitTaken n v).get f = s.get f :=
  (State.get_put_ne _ (F.L2_NC_LIMIT_EN n) _ _ hf hc).trans (State.get_put_ne _ (F.L2_NC_LIMIT_LAST n) _ _ hf hc)

end

/-! ### The statement -/

section
variable {s : State} {i : Initiator}

theorem exec_asWrite_eq {c : Instr} {key : Nat} {v : Word} {f : State → State} {t : State} (hc : exec c s = .next (s.asWrite i key v f))
    (hadm : Admits s i key) (hp : f s = t) : exec c s = .next t :=
  hc.trans (congrArg Host.Outcome.next ((State.asWrite_admitted v f hadm).trans hp))

/-- The state of a core after CTL's RUN is cleared is that of `s`. -/
theorem State.runCleared_state (s : State) (c : Fin 16) : (s.putB (F.CORE_CTL_RUN c) false).get (F.CORE_STATE c) = s.get (F.CORE_STATE c) :=
  State.get_core_ne s _ (by simp [F.CORE_STATE, F.CORE_CTL_RUN]) (by simp only [F.CORE_STATE]; omega)

theorem coreRun_halts (c : Fin 16) {v : Word} (hadm : Admits s i (F.CORE_CTL_RUN c).key) (hv : v.toNat % 2 = 0) :
    let x := s.engine c
    let st := s.get (F.CORE_STATE c)
    let others := fun (t : State) => (∀ j, j ≠ c.val → t.engine j = s.engine j) ∧ SameBytes s t
    (st = 1 ∨ st = 2 → s.inFlightOf c = false → x.wait ∉ [.rulesync true, .rulesync false, .step, .busy] → x.halting = none →
      Reaches (.coreHalt i c v) s (fun t => t.get (F.CORE_STATE c) = 0 ∧ t.get (F.CORE_LAST_PC_LO c) = x.pc % 2 ^ 32 ∧
        t.get (F.CORE_LAST_PC_HI c) = x.pc / 2 ^ 32 % 2 ^ 8 ∧ (∀ r, t.gr c r = s.gr c r) ∧ others t)) ∧
    (st = 1 ∨ st = 2 → s.inFlightOf c = true → x.halting = none → Reaches (.coreHalt i c v) s (fun t => t.get (F.CORE_STATE c) = st ∧
      t.engine c = { x with halting := some 0 } ∧ others t)) ∧
    (st = 3 ∨ st = 4 → Reaches (.coreHalt i c v) s (fun t => t.get (F.CORE_STATE c) = 0 ∧ t.eng = s.eng)) ∧
    (st = 0 ∨ 5 ≤ st → exec (.coreHalt i c v) s = .next s) := by
  intro x st others
  let f := fun s : State => s.wrCoreCtl (s.issuer i) c v
  let u := s.putB (F.CORE_CTL_RUN c) false
  have hu : u.get (F.CORE_STATE c) = st := s.runCleared_state c
  have hf := State.wrCoreCtl_noRun (s := s) (c := c) (s.issuer i) hv
  have hmems : SameBytes s (f s) := .of_mems (State.wrCoreCtl_mems ..)
  refine ⟨fun hst hq hw hh => ?_, fun hst hq hh => ?_, fun hst => ?_, fun hst => ?_⟩
  · have ht : f s = u.haltInto c 0 := by
      rw [if_neg (by omega), if_pos hst] at hf
      exact hf
    obtain ⟨-, h0, hlo, hhi, hg, ho⟩ := State.haltInto_stops_spec (s := u) (st := 0) (by rw [hu]; exact hst) hq hw
      (by rw [show (u.engine c).halting = none from hh]; rfl) (by decide)
    refine reaches_asWrite (f := f) rfl hadm ?_
    rw [ht] at hmems ⊢
    exact ⟨h0, hlo, hhi, hg, ho, hmems⟩
  · have ht : f s = u.setEngine c { x with halting := some 0 } := by
      rw [if_neg (by omega), if_pos hst] at hf
      refine hf.trans ((State.haltInto_waits (s := u) 0 (by rw [hu]; exact hst) (by simp [State.holdsHalt, u, State.inFlightOf] at hq ⊢; simp [hq])).trans ?_)
      rw [show (u.engine c).halting = none from hh]
      rfl
    refine reaches_asWrite (f := f) rfl hadm ?_
    rw [ht] at hmems ⊢
    exact ⟨hu, State.engine_setEngine_same .., fun j hj => State.engine_setEngine_ne _ _ _ _ hj, hmems⟩
  · have ht : f s = u.put (F.CORE_STATE c) 0 := by
      rw [if_pos hst] at hf
      exact hf
    refine reaches_asWrite (f := f) rfl hadm ?_
    rw [ht]
    exact ⟨State.coreState_put _ c (by decide), rfl⟩
  · refine exec_asWrite_eq (f := f) rfl hadm ?_
    rw [if_neg (by omega), if_neg (by omega)] at hf
    exact hf

theorem reaches_watchdog (c : Fin 16) (time : Nat) (hst : s.get (F.CORE_STATE c) = 1 ∨ s.get (F.CORE_STATE c) = 2) (hp : s.get (F.CORE_WDOG_CFG c) ≠ 0)
    (he : (s.engine c).kickAt + 1200 * s.get (F.CORE_WDOG_CFG c) ≤ s.time.pix + time) (hq : s.inFlightOf c = false)
    (hw : (s.engine c).wait ∉ [.rulesync true, .rulesync false, .step, .busy]) (hh : (s.engine c).halting ≠ some 4) :
    Reaches (.coreWatchdog time c) s (fun t => t.get (F.CORE_STATE c) = 4 ∧ t.get (F.CORE_LAST_PC_LO c) = (s.engine c).pc % 2 ^ 32 ∧
      ((∀ j, j ≠ c.val → t.engine j = s.engine j) ∧ SameBytes s t) ∧
      ∃ r ∈ t.log.recent.head?, r.cls = 0x7A ∧ r.addr1 = (s.engine c).pc ∧ r.detail = c.val) := by
  let z := s.advance time
  have hgoal : haltOf (z.engine c).halting 4 = 4 := by simp [haltOf]
  obtain ⟨ht, h4, hlo, -, -, ho⟩ := State.haltInto_stops_spec (s := z) (st := 4) hst hq hw hgoal (by decide)
  have hd : z.coreWatchdog c = z.haltInto c 4 := State.coreWatchdog_expired (s := z) hst hp he hh
  have hsame : SameBytes z (z.coreWatchdog c) := .of_mems (State.coreWatchdog_mems ..)
  refine ⟨_, rfl, ?_⟩
  rw [show (s.advance time).coreWatchdog c.val = z.haltInto c 4 from hd]
  rw [hd] at hsame
  exact ⟨h4, hlo, ⟨ho, hsame⟩, by rw [ht]; exact z.stopInto_watchdog c⟩

/-- What L2_RECONFIG_DONE leaves while BUSY is set. -/
theorem reaches_reconfigDone (time : Nat) (hs : s.memoriesOk = true) (hb : s.on F.L2_STATUS_BUSY = true) :
    let old := s.bus.l2Ways
    let new := min 12 (s.get F.L2_SRAM_WAYS)
    let at_ := fun (k : Nat) => 0x1080000000 + 0x80000 * k
    Reaches (.l2ReconfigDone time) s (fun t => t.on F.L2_STATUS_BUSY = false ∧ t.windowWays = new ∧ (∀ a n, t.l2Stalls a n = false) ∧
      (∀ a, at_ 0 ≤ a → a < at_ new → t.region a = .l2sram) ∧ (∀ a, at_ new ≤ a → a < 0x1082000000 → t.region a = .unmapped) ∧
      (∀ a, a < at_ (min old new) ∨ at_ (max old new) ≤ a → t.coreByte a = s.coreByte a) ∧
      (∀ a, at_ (min old new) ≤ a → a < at_ (max old new) → a < 2 ^ 40 → t.coreByte a = 0) ∧ t.eng = s.eng) := by
  intro old new at_
  let z := s.advance time
  let w := z.waysTurned
  let t := { w with bus := { w.bus with l2Ways := z.sramWays, waysDue := false, ncDue := [] } }.putB F.L2_STATUS_BUSY false
  have hnew : z.sramWays = new := rfl
  have hwin (k : Nat) : l2WindowEnd k = at_ k := congrArg (0x1080000000 + ·) (Nat.mul_comm ..)
  have hways : t.windowWays = new := by
    have h : t.windowWays = min 12 new := rfl
    rw [h]
    exact Nat.min_eq_right (Nat.min_le_left ..)
  have hle : new ≤ 12 := Nat.min_le_left ..
  refine ⟨t, congrArg Host.Outcome.next (State.l2Done_busy (s := z) hb), State.on_putB_same _ _ _ rfl (by simp [F.L2_STATUS_BUSY]), hways, fun a n => rfl,
    fun a h0 h1 => ?_, fun a h0 h1 => ?_, fun a ha => ?_, fun a h0 h1 _ => ?_, (State.waysTurned_eng (s := z))⟩
  · have hlt : a < 0x1080000000 + 0x80000 * new := h1
    rw [t.region_window h0 (by omega), hways, if_pos h1]
  · have hge : 0x1080000000 + 0x80000 * new ≤ a := h0
    rw [t.region_window (by omega) h1, hways, if_neg (Nat.not_lt.2 h0)]
  · exact State.waysTurned_coreByte_outside (s := z) hs (by rw [hwin, hwin]; exact ha)
  · exact State.waysTurned_coreByte_inside (s := z) (by rw [hwin, hwin]; exact ⟨h0, h1⟩)

theorem reaches_ncLimit (n : Fin 4) (v : Word) (hs : s.memoriesOk = true) (hadm : Admits s i (F.L2_NC_LIMIT_EN n).key) :
    Reaches (.ncWindowWrite i n true v) s (fun t =>
      t.get (F.L2_NC_LIMIT_LAST n) = v.toNat % 2 ^ 20 ∧ (t.on (F.L2_NC_LIMIT_EN n) = true ↔ v.toNat / 2 ^ 31 % 2 = 1) ∧
      (∀ a, t.coreByte a = s.coreByte a) ∧ (v.toNat / 2 ^ 31 % 2 = 0 → t.bus = s.bus ∧ t.on F.L2_STATUS_BUSY = s.on F.L2_STATUS_BUSY) ∧
      (v.toNat / 2 ^ 31 % 2 = 1 → t.on F.L2_STATUS_BUSY = true ∧ ∀ a, s.get (F.L2_NC_BASE n) * 2 ^ 20 ≤ a →
        a < (v.toNat % 2 ^ 20 + 1) * 2 ^ 20 → cellGet 0 t.mem a = s.coreByte a ∧ t.l2Stalls a 1 = true)) := by
  let u := s.ncLimitTaken n v
  have hkey : (F.L2_NC_LIMIT_EN n).key ≠ F.L2_STATUS_BUSY.key ∧ isCtxOwn (F.L2_NC_LIMIT_EN n).key = false :=
    ⟨by simp only [F.L2_NC_LIMIT_EN, F.L2_STATUS_BUSY]; omega, isCtxOwn_above (by simp only [F.L2_NC_LIMIT_EN]; omega)⟩
  have hen : u.on (F.L2_NC_LIMIT_EN n) = bitAt v.toNat 31 := s.ncLimitTaken_en n v
  have hbase : u.get (F.L2_NC_BASE n) = s.get (F.L2_NC_BASE n) :=
    State.ncLimitTaken_get _ _ (by simp [F.L2_NC_BASE, F.L2_NC_LIMIT_EN]) (isCtxOwn_above (by simp only [F.L2_NC_BASE]; omega))
  refine reaches_asWrite (f := fun s => s.wrNc n true v) rfl hadm ?_
  rw [show s.wrNc n true v = u.ncClean n from rfl]
  refine ⟨?_, ?_, fun a => State.ncClean_coreByte (s := u) hs n, fun hv => ?_, fun hv => ?_⟩
  · exact (State.ncClean_get (s := u) n (f := F.L2_NC_LIMIT_LAST n) hkey.1 hkey.2).trans (s.ncLimitTaken_last n v)
  · rw [State.on_of_get (State.ncClean_get (s := u) n hkey.1 hkey.2), hen, bitAt_eq_true]
  · have hoff : u.on (F.L2_NC_LIMIT_EN n) = false := hen.trans (Bool.eq_false_iff.2 fun h => by
      have := bitAt_eq_true.1 h
      omega)
    rw [State.ncClean_off hoff]
    exact ⟨rfl, State.on_of_get (State.ncLimitTaken_get _ _ hkey.1.symm (by decide))⟩
  · obtain ⟨hbusy, hclean⟩ := State.ncClean_on (s := u) hs (hen.trans (bitAt_eq_true.2 hv))
    rw [hbase, s.ncLimitTaken_last n v] at hclean
    exact ⟨hbusy, hclean⟩

end

/-- Settles O23: a core by the state that its write of CTL, its watchdog or its kick finds, the L2 by the range that changes sides. -/
theorem coreRunControl : Obligations.CoreRunControl := by
  unfold Obligations.CoreRunControl
  refine ⟨fun i c v time s => ?_, fun i n v time s hs => ?_⟩
  · intro x st p ctl others
    refine ⟨fun hadm hv hst => ?_, fun hadm hv hst => ?_, fun hadm hv => coreRun_halts c hadm hv,
      fun hst hp => ⟨fun he hq hw hh => reaches_watchdog c time hst hp he hq hw hh, fun he => ?_⟩, fun hadm => ⟨fun hv ho => ?_, fun hv => ?_⟩⟩
    · obtain ⟨u, hu, heng, hlo, hhi⟩ := State.wrCoreCtl_starts (s.issuer i) hv hst
      have hmems : SameBytes s (u.startCore c) := hu ▸ .of_mems (State.wrCoreCtl_mems ..)
      obtain ⟨h1, hpc, hg, hps, hret, hcyc, hwait, ho⟩ := u.startCore_spec c
      refine reaches_asWrite (f := fun s => s.wrCoreCtl (s.issuer i) c v) rfl hadm ?_
      rw [hu]
      exact ⟨h1, hpc.trans (by rw [hlo, hhi]), hg, hps, hret, hcyc, hwait, fun j hj => (ho j hj).trans (State.engine_of_eng heng j), hmems⟩
    · exact exec_asWrite_eq (f := fun s => s.wrCoreCtl (s.issuer i) c v) rfl hadm (State.wrCoreCtl_running _ hv hst)
    · exact congrArg Host.Outcome.next (State.coreWatchdog_early (s := s.advance time) he)
    · exact exec_asWrite_eq (f := fun s => s.wrKick c v) rfl hadm ((s.wrKick_eq c v).trans (if_pos ⟨hv, ho⟩))
    · refine exec_asWrite_eq (f := fun s => s.wrKick c v) rfl hadm ((s.wrKick_eq c v).trans (if_neg fun h => ?_))
      obtain ⟨hbyte, hrest⟩ := h
      rcases hv with hv | ⟨hst, hp, hle⟩
      · exact hv hbyte
      · rcases hrest with h | h | h
        · exact hst.elim h.1 h.2
        · exact hp h
        · exact Nat.not_lt.2 hle h
  · intro old new at_
    refine ⟨fun hadm => ?_, fun hb => reaches_reconfigDone time hs hb, fun hb => ?_, fun hadm => reaches_ncLimit n v hs hadm, fun hadm => ?_⟩
    · refine reaches_asWrite (f := fun s => s.wrSramWays v) rfl hadm ⟨?_, State.on_putB_same _ _ _ rfl (by simp [F.L2_STATUS_BUSY]), rfl, fun k hk => ?_⟩
      · refine (State.get_put_ne _ F.L2_STATUS_BUSY F.L2_SRAM_WAYS _ (by decide) (by decide)).trans ?_
        rw [State.get_put_same _ _ _ (by simp [F.L2_SRAM_WAYS])]
        simp [bits_low, F.L2_SRAM_WAYS]
      · simp only [List.mem_cons, List.not_mem_nil, or_false, not_or] at hk
        exact (tabGet?_tabSet_ne _ _ _ _ hk.2).trans (tabGet?_tabSet_ne _ _ _ _ hk.1)
    · exact congrArg Host.Outcome.next (State.l2Done_idle (s := s.advance time) hb)
    · refine reaches_asWrite (f := fun s => s.wrNc n false v) rfl hadm ⟨?_, fun a => State.ncClean_coreByte (s := s.put (F.L2_NC_BASE n) _) hs n⟩
      refine (State.ncClean_get (s := s.put (F.L2_NC_BASE n) _) n (by simp only [F.L2_NC_BASE, F.L2_STATUS_BUSY]; omega)
        (isCtxOwn_above (by simp only [F.L2_NC_BASE]; omega))).trans ?_
      rw [State.get_put_same _ _ _ (by simp [F.L2_NC_BASE])]
      simp [bits_low, F.L2_NC_BASE]

end Sys2Proof.Machine
end
